-- ==== Sys2Proof/Word.lean ====
section
/-!
DEFINITION. The plain words of the machine: what the manual treats as bits (R6, R8, R42).
-/
namespace Sys2Proof

/-- One byte of any memory. -/
abbrev Byte := BitVec 8
/-- A register of a register block (R8), a Distaff general register, a microword. -/
abbrev Word := BitVec 32
/-- A macro-instruction (R71), a Timebase value, a counter. -/
abbrev DWord := BitVec 64
/-- A physical address (R26) as it is computed by the core: 40 bits. -/
abbrev Addr := BitVec 40
/-- One bit of every PE of a tile, PE (x, y) of the tile at bit 64 * y + x (R42, R65). -/
abbrev Plane := BitVec 4096
/-- One bit of every tile of the array (R59). -/
abbrev TileBits := BitVec 256

end Sys2Proof
end

