-- ==== Sys2Proof/Syntax.lean ====
section
/-!
DEFINITION. The commands of the block: one constructor for each row of `spec/opcode_table.json`, and the types of their operands.
-/
namespace Sys2Proof
/-- A CAN frame (R441, R443): identifier, 29-bit format, FD format, bit-rate switch, remote frame, data, error-passive sender, and, for a
remote frame and a classical frame of 8 bytes, its data length code. -/
structure CanFrame where
  id   : Nat
  ext  : Bool := false
  fd   : Bool := false
  brs  : Bool := false
  rtr  : Bool := false
  data : List Byte := []
  esi  : Bool := false
  dlc  : Nat := 0
  deriving DecidableEq, Repr
/-- The rings in memory (R157, R293, R296, R416, R440). -/
inductive RingId where
  | sq (q : Fin 16) | cq (q : Fin 16) | roundQueue
  | ethRx (m : Fin 2) | ethTx (m : Fin 2) | ethTxb (m : Fin 2)
  | canRx (k : Fin 4) | canTx (k : Fin 4)
  | picture | pictureStatus
  deriving DecidableEq, Repr
/-- What the SECDED check of a stored word, or the check of a packet header, finds (R46, R198, R232, R278, R369). -/
inductive Ecc where
  | good | single | double
  deriving DecidableEq, Repr
/-- What the drive on PCIe-B reports at start-up (R397): whether the link trained and the controller came up, and the values of its
Identify data that the checks read. -/
structure DriveReport where
  link       : Bool := true
  controller : Bool := true
  version    : Nat := 14                -- ten times the NVMe version
  mdts       : Nat := 0                 -- bytes; 0 no limit
  nsActive   : Bool := true
  lbaSize    : Nat := 512
  metadata   : Bool := false
  protection : Bool := false
  nsze       : Nat := 0                 -- LBAs of the namespace
  cache      : Bool := false            -- a volatile write cache is present
  queues     : Nat := 8                 -- I/O queue pairs granted; 0 where none could be created
  l1         : Bool := false            -- the drive supports ASPM L1 (R476)
  deriving DecidableEq, Repr
/-- The power domains of R33. -/
inductive Domain where
  | tileLogic (t : Nat) | tilePlane (t : Nat)
  | mesh | core | coreMem | sequencer | granary | sealUnit | silo
  | capture (p : Nat) | packer (d : Nat) | pcieA | pcieB | ethernet (m : Nat) | can
  | weave (q : Nat) | spindle (l : Nat) | storageWriter | quadrant (q : Nat)
  deriving DecidableEq, Repr
/-- A packet of the mesh (R253, R259 to R262): its network (0 REQ, 1 RSP, 2 SNP, 3 DAT), its flits, and for a DAT packet what
the SECDED check of each 64-bit word of its data flits finds. -/
structure Packet where
  net   : Nat
  flits : List Nat
  words : List Ecc := []
  deriving DecidableEq, Repr
/-- A USDO request as the engine has it whole or segment by segment (R435): the client's node-ID, the object, and for a write
the offset, whether it is the last segment, and the data. The frames' coding is CiA 1301's. -/
structure UsdoRequest where
  client : Nat
  index  : Nat
  sub    : Nat
  write  : Option (Nat × Bool × List Byte) := none
  deriving DecidableEq, Repr
/-- What the power controller may choose a state for (R476), and an edge domain that is told to power down (R274). -/
inductive PowerTarget where
  | tile (t : Fin 256) | quadrant (q : Fin 4) | corePll | pcieB | arrayPll | edge (d : Domain)
  deriving DecidableEq, Repr
/-- What a device of a gang sends the others (R527, R528, R530): a macro-instruction that enters the queue; a queue that has come to
HALTED, PREEMPTED or STOPPED, with the abandonment of its routine or not, or is in RUN again; RESUME and DISCARD; the round that the
manager has chosen, its start, its END, its end by preemption; and that the gang is broken. -/
inductive GangMsg where
  | entry (insn : BitVec 64)
  | stop (st : Fin 4) (abandoned : Bool) | run | resume | discard
  | round (cls : Fin 4) (kernel : Fin 1024) | start | roundEnd (outcome : Fin 4) | preempt | broken
  deriving DecidableEq, Repr
/-- What a Spindle link that trains, or is up, learns of the other end (R515, R518 to R520, R526 to R528): the link there (0 N, 1 E, 2 S,
3 W), the device number, its TAI, whether the system runs in gang mode, the devices that are reachable from there, the system map in force,
what the gang has sent since the report before, oldest first, and how the gang's devices beyond the link stand: the devices of the gang,
whether a queue there is full, all are idle, all have finished staging, an array is held by a stall, and the lowest operating point that
their rules call for. -/
structure PeerReport where
  side   : Fin 4
  device : Fin 16
  tai    : BitVec 64
  gang   : Bool := false
  reach  : BitVec 16 := 0
  map    : BitVec 16 := 1
  sent   : List GangMsg := []
  members : BitVec 16 := 0xFFFF
  full    : Bool := false
  idle    : Bool := true
  staged  : Bool := true
  stalled : Bool := false
  point   : Fin 4 := 0
  deriving DecidableEq, Repr
/-- Who makes an access on the mesh (R255, R263): the Distaff core, the Object Dictionary Engine, PCIe-A, the Debug Bus Master, the
Transaction Unit, a device across the Spindle links, or any other block. -/
inductive Initiator where
  | core | engine | host | debugger | transactions | remote | other
  deriving DecidableEq, Repr
/-- What the repair unit reports of a tile at a start (R63, R64): the PE and plane repairs in force, the soft repairs made now, and
whether the tile is retired. -/
structure RepairReport where
  tile    : Fin 256
  pe      : Fin 513 := 0
  plane   : Fin 513 := 0
  soft    : Fin 1025 := 0
  retired : Bool := false
  deriving DecidableEq, Repr

/-- The commands (R9): one constructor for each row of `spec/opcode_table.json`, those with operands first. The table gives the rows no bits;
each operand carries what the row's rules say the command brings with it from outside the chip. -/
inductive Instr where
  /-- `REGISTER_WRITE` (R9): An aligned 32-bit write to a register that has no row of its own sets its RW, W1C and W1S fields as their
  access codes give. -/
  | registerWrite (who : Initiator) (a : Addr) (v : Word)
  /-- `FRAME_START` (R18): A CSI-2 frame-start packet asks for a capture buffer slot and descriptor space, and samples the stream
  configuration for the frame. -/
  | frameStart (p : Fin 8) (vc : Fin 16) (hdr : Ecc)
  /-- `LINE_PACKET` (R284): A CSI-2 long packet on a stream's VC is buffered and written to the raw pages in groups of 8 lines. -/
  | linePacket (p : Fin 8) (vc : Fin 16) (hdr : Ecc) (crcBad : Bool) (dt : BitVec 6) (pixels : List (BitVec 16)) (held : Bool)
  /-- `FRAME_END` (R285): A frame-end packet ends the frame, zero-fills missing lines and lets the frame join its stream's sheaf. -/
  | frameEnd (p : Fin 8) (vc : Fin 16) (hdr : Ecc)
  /-- `BAND_COMPLETE` (R284): Once a band's last line has arrived and all its writes are acknowledged, the port creates the band's
  contexts. -/
  | bandComplete (st : Fin 32)
  /-- `STREAM_DISABLE` (R287): Clearing a stream's ENABLE, or powering down its capture domain, stops the stream and truncates any frame
  in progress. -/
  | streamDisable (st : Fin 32)
  /-- `SLOT_RELEASE` (R17): A capture buffer slot is released once all of its frame's contexts are DONE or FAULTED and the frame's
  audits are done. -/
  | slotRelease (st : Fin 32)
  /-- `PSTAT_READ` (R298): A read of CAP_PSTATp returns the ECC_ERR and CRC_ERR counts and clears them. -/
  | pstatRead (p : Fin 8)
  /-- `SEB_RECEIVE` (R290): When a capture PIPE context reaches DONE, its syntax-element buffer address passes to the packer. -/
  | sebReceive (ctx : Nat)
  /-- `SLICE_DONE` (R295): A lane finishes coding a slice, whose bytes pass the bitstream port in stream order or wait in bale staging. -/
  | sliceDone (l : Fin 8)
  /-- `TILE_STAT_READ` (R69): A read of ASQ_TILE_STAT returns CE_COUNT and clears it, keeping increments of the same cycle. -/
  | tileStatRead (t : Fin 256)
  /-- `THERMAL_SAMPLE` (R66): Every 1 ms a powered tile's sensor updates SYS_TTEMP and clears STALE. -/
  | thermalSample (t : Fin 256) (temp : BitVec 12)
  /-- `GRN_HOLD` (R188): A write of GRN_CTL.HOLD stops new selections, or on clearing lets selection run. -/
  | grnHold (hold : Bool)
  /-- `RING_BASE_WRITE` (R189): A write of a ring's BASE_LO or BASE_HI while the ring is empty resets HEAD, TAIL and PHASE. -/
  | ringBaseWrite (ring : RingId) (hi : Bool) (data : Word)
  /-- `DESC_SNOOP` (R150): An INV_DESC or INV_PMAP snoop makes the Granary compare the written line, restore it and fault the context on
  a change. -/
  | descSnoop (n : Nat) (pmap : Bool)
  /-- `PAGE_TRANSFER_DONE` (R176): A page-in or writeback between a tile and a loft completes. -/
  | pageTransferDone (t : Fin 256)
  /-- `GRN_END` (R172): A write of GRN_RCTL.END with an OUTCOME ends the round, is held, or is refused according to the queue state. -/
  | grnEnd (outcome : Fin 4)
  /-- `CQ_ROOM` (R161): When room appears in a CQ, waiting completion or status entries are posted in order. -/
  | cqRoom (q : Fin 16)
  /-- `DRAM_INIT_DONE` (R202): The training and zeroing of all channels ends: failed channels are marked and INIT_DONE is set. -/
  | dramInitDone (failed : List (Fin 256))
  /-- `PATROL_SCRUB` (R200): The patrol scrub reads the loft over each SCRUB_H period, rewrites corrected words, and raises EV117 when a
  pass completes. -/
  | patrolScrub (t : Fin 256)
  /-- `DRAM_TEMP_SAMPLE` (R201): Every 1 ms the stack sensors are sampled and each quadrant's refresh rate set, raising EV114-EV116. -/
  | dramTempSample (q : Fin 4) (temp : BitVec 12)
  /-- `SELF_REFRESH_ENTRY` (R204): A quadrant whose channels have been idle for SR_IDLE us enters self-refresh. -/
  | selfRefreshEntry (q : Fin 4)
  /-- `SELF_REFRESH_EXIT` (R204): A request to a quadrant in self-refresh waits for the 3 us exit and then is served. -/
  | selfRefreshExit (q : Fin 4)
  /-- `QUADRANT_ON_REQ` (R206): DRC_QCTL.ON_REQ powers a stack quadrant on, zeroing it. -/
  | quadrantOnReq (q : Fin 4)
  /-- `QUADRANT_OFF_REQ` (R205): DRC_QCTL.OFF_REQ powers a quadrant off only under R34 with CPARK = 1, and otherwise raises EV119. -/
  | quadrantOffReq (q : Fin 4)
  /-- `LSTAT_READ` (R206): A read of DRC_LSTATt returns CE_COUNT and clears it. -/
  | lstatRead (t : Fin 256)
  /-- `PACKET_HOP` (R257): A router takes a packet and forwards it by device-grid then XY routing, or delivers it to its local port. -/
  | packetHop (here : BitVec 10) (net : Fin 4) (inject : Option Packet)
  /-- `MEMORY_REQUEST` (R259): A target receives a REQ packet, and any DAT write data it needs, and performs the read or write. -/
  | memoryRequest (node : BitVec 10)
  /-- `RESPONSE_RECEIVE` (R263): An initiator receives an RSP packet and reports the status to its user. -/
  | responseReceive (node : BitVec 10)
  /-- `READ_DATA_RECEIVE` (R266): A DAT read-data packet reaches its destination, with each word checked by SECDED and poison applied. -/
  | readDataReceive (node : BitVec 10)
  /-- `SNOOP_ACK` (R262): An ACK for a snoop reaches its sender. -/
  | snoopAck (node : BitVec 10)
  /-- `REQUEST_TIMEOUT` (R267): A request with no response in NOC_TIMEOUT NCLK is reported TIMEOUT and raises EV103. -/
  | requestTimeout (node : BitVec 10) (tag : BitVec 8)
  /-- `DATA_TIMEOUT` (R267): A target that waits NOC_TIMEOUT/2 for write data discards the request with ERR CAUSE 0x9. -/
  | dataTimeout (node : BitVec 10)
  /-- `SNOOP_TIMEOUT` (R267): A snoop with no ACK is resent once, then taken as acknowledged with SNPLOST and EV101. -/
  | snoopTimeout (node : BitVec 10) (tag : BitVec 6)
  /-- `PORT_DISABLE` (R268): A write of NOC_PORTe.DISABLE requests a drain to DISABLED or back to the port's state. -/
  | portDisable (e : Fin 64) (v : Bool)
  /-- `POWER_DOWN_COMMIT` (R274): When a powering-down tile or edge domain owes no response and awaits none, it commits and its domain
  switches off. -/
  | powerDownCommit (d : Domain)
  /-- `TILE_EXIT_DONE` (R274): A woken tile's domains are on after the exit time, its plane memory cleared if needed, and its port
  drains to OPEN. -/
  | tileExitDone (t : Fin 256)
  /-- `FRAME_DIGESTS_READY` (R305): When a frame's HASH contexts are all done, the Seal Unit reads its leaf digests, self-hashes faulted
  tiles and picks leaves to audit. -/
  | frameDigestsReady (st : Fin 32)
  /-- `AUDIT_LEAF` (R308): The Seal Unit re-hashes an audited leaf's raw bytes and compares the result with the array's digest. -/
  | auditLeaf (st : Fin 32)
  /-- `FRAME_ROOT_DONE` (R304): When all a frame's digests and audits are in, the Seal Unit forms its FD and FRAME_ROOT. -/
  | frameRootDone (st : Fin 32)
  /-- `SHEAF_CLOSE` (R313): A sheaf whose membership is complete and whose roots and pictures are done is filled and journaled. -/
  | sheafClose (st : Fin 32)
  /-- `SHEAF_LATE_CLOSE` (R313): A sheaf not closed 1,000 ms after its membership completed is closed with LATE, and EV22 is raised. -/
  | sheafLateClose (st : Fin 32)
  /-- `SYSTEM_STOOK` (R523): At its stook due instants, the manager reads the workers' journal rings and signs a system stook over new
  worker stooks. -/
  | systemStook (stooks : List (Nat × List (List Byte)))
  /-- `GET_INFO` (R350): Channel A mailbox command 0x01 returns SERIAL, SEAL_STATE and counters. -/
  | getInfo (tag : Byte)
  /-- `IMAGE_LOAD` (R341): Channel A command 0x02 checks a container and streams its payload to the destination of its TYPE. -/
  | imageLoad (tag : Byte)
  /-- `VERIFY_IMAGE` (R350): Channel A command 0x03 checks a container and its payload hash, writing nothing. -/
  | verifyImage (tag : Byte)
  /-- `SVN_COMMIT` (R343): Channel A command 0x04 raises a class's SVN counter to the last image loaded. -/
  | svnCommit (tag : Byte)
  /-- `BOOT_DONE` (R344): Channel A command 0x05 ends vendor image loading. -/
  | bootDone (tag : Byte)
  /-- `VEH_SNAPSHOT` (R350): Channel A command 0x10 stores a TAI-stamped vehicle snapshot for records. -/
  | vehSnapshot (tag : Byte)
  /-- `TRIGGER` (R350): Channel A command 0x11 sets TRIGGER in the open sheaves of the masked streams. -/
  | trigger (tag : Byte)
  /-- `ATTEST` (R357): Channel A command 0x20 increments counter 6 and writes a signed attestation report. -/
  | attest (tag : Byte)
  /-- `GET_CERT` (R350): Channel A command 0x21 returns the DEK certificate, DIK certificate or DIK public key. -/
  | getCert (tag : Byte)
  /-- `SESSION_CLOSE_ALL` (R350): Channel A command 0x23 closes every session. -/
  | sessionCloseAll (tag : Byte)
  /-- `SESSION_OPEN` (R358): Channel B command 0x30 creates a session, returns Ns and derives K. -/
  | sessionOpen (tag : Byte)
  /-- `SESSION_AUTH` (R358): Channel B command 0x31 checks the client proof and opens the session, or discards it. -/
  | sessionAuth (tag : Byte)
  /-- `SESSION_CLOSE` (R350): Channel B command 0x32 closes a session. -/
  | sessionClose (tag : Byte)
  /-- `CHECK_MAC` (R359): Channel B command 0x40 checks a message's SEQ and MAC within a session. -/
  | checkMac (tag : Byte)
  /-- `MAKE_MAC` (R359): Channel B command 0x41 computes a MAC with the Seal Unit's own SEQ. -/
  | makeMac (tag : Byte)
  /-- `SEAL_BAD_OP` (R350): An OP not listed for a channel returns BAD_OP. -/
  | sealBadOp (b : Bool) (op tag : Byte)
  /-- `SEAL_CMD_COMPLETE` (R349): A mailbox command completes: STATUS, TAG and RSP are written, DONE is set, and EV18 is raised on
  channel A. -/
  | sealCmdComplete (b : Bool)
  /-- `PROVISION` (R356): A PROVISION package generates a new DEK and certificate, stores the FAS and enters PROVISIONED. -/
  | provision (tag : Byte)
  /-- `REVOKE` (R352): A REVOKE package sets revocation bits in the OTP. -/
  | revoke (tag : Byte)
  /-- `DECOMMISSION` (R364): A DECOMMISSION package starts zeroisation. -/
  | decommission (tag : Byte)
  /-- `ENROLL` (R352): An ENROLL package programs root slots, debug slots and the password hash. -/
  | enroll (tag : Byte)
  /-- `MANUFACTURE` (R353): A MANUFACTURE package programs SERIAL, PDK and DUS, generates the DIK and enters MANUFACTURED. -/
  | manufacture (tag : Byte)
  /-- `DIK_CERT` (R354): A DIK_CERT package stores the DIK's X.509 certificate after checking its key. -/
  | dikCert (tag : Byte)
  /-- `CORE_RELEASE` (R344): When a boot copy is accepted, SYS_DENTRY is set and the Distaff core is released into BOOT. -/
  | coreRelease (copyA copyB : List Byte)
  /-- `XSPI_DONE` (R347): A command-mode flash operation ends, setting DONE and releasing held XIP reads. -/
  | xspiDone (data : List Byte) (changed : List (BitVec 28 × Byte))
  /-- `TX_BAD_OP` (R388): An undefined transaction command is refused with TX_BAD_OP. -/
  | txBadOp (op : Fin 16)
  /-- `SW_STARTUP_COMPLETE` (R404): The restart scan ends, sets the resume point and BALE_SEQ, enters ACTIVE and raises EV188. -/
  | swStartupComplete (r : DriveReport) (heads : List (Nat × List Byte))
  /-- `NVME_COMPLETION` (R401): A Write or Flush completion is found, making bales durable and growing the durable prefix. -/
  | nvmeCompletion (cmd : Option Nat) (ok : Bool) (us : Nat)
  /-- `NVME_TIMEOUT` (R403): A command with no completion in PCIB_CTO resets the controller and reissues commands. -/
  | nvmeTimeout (resetOk : Bool)
  /-- `HOLD_WRITE` (R399): A write of PCIB_HOLD sets or moves the held unit, ending HELD. -/
  | holdWrite (v : Word)
  /-- `PCIEB_LINK_CHANGE` (R403): PCIe-B link up or down raises EV180, and a loss enters NO_DRIVE. -/
  | pciebLinkChange (up : Bool)
  /-- `DRIVE_REQUEST` (R395): A request from the drive is served inside the inbound window, or completed as Unsupported Request with
  EV187. -/
  | driveRequest (a : Addr) (data : Option (List Byte)) (n : Nat)
  /-- `PCIA_INBOUND_TLP` (R410): An inbound TLP to BAR0 or BAR2 becomes mesh accesses whose outcomes map to completions or failed
  writes. -/
  | pciaInboundTlp (bar2 write ep : Bool) (off : Word) (dwords : List (Word × BitVec 4))
  /-- `PCIA_LINK_CHANGE` (R425): PCIe-A link up or down raises EV176. -/
  | pciaLinkChange (up : Bool)
  /-- `OD_DOORBELL` (R411): A PCIA_ODBELL bit hands the slot's request to the Object Dictionary Engine. -/
  | odDoorbell (v : Byte)
  /-- `ETH_RX_FRAME` (R414): A received frame is timestamped and posted to the RX ring, or steered to the dictionary. -/
  | ethRxFrame (m : Fin 2) (f : List Byte) (badFcs : Bool) (sof : DWord)
  /-- `ETH_TX_FRAME` (R414): A TX descriptor's frame is sent and its completion written to the ring. -/
  | ethTxFrame (m : Fin 2) (sof : DWord)
  /-- `ETH_LINK_CHANGE` (R425): A MAC's link changes and raises EV192 or EV193. -/
  | ethLinkChange (m : Fin 2) (up : Bool)
  /-- `OD_UDP_DATAGRAM` (R417): An OD-over-UDP datagram is checked, dropped, replayed from the response copy, or executed. -/
  | odUdpDatagram (m : Fin 2)
  /-- `ODDROP_READ` (R424): A read of ETH_ODDROP returns the count and clears it. -/
  | oddropRead (m : Fin 2)
  /-- `USDO_REQUEST` (R435): A USDO request frame on the node's controller is served as a dictionary read or write. -/
  | usdoRequest (q : UsdoRequest)
  /-- `TPDO_TRANSMIT` (R435): A TPDO is sent on its event or timer. -/
  | tpdoTransmit (i : Fin 4) (timer : Bool)
  /-- `TUNNEL_REQUEST` (R439): A write of 0x5F10 carries an R416 request over CAN and produces a 0x5F11 response. -/
  | tunnelRequest (client : Fin 128) (m : List Byte)
  /-- `OD_TX_CMD` (R440): A write of 0x5F30:01 passes OPEN, COMMIT or ABORT to the Transaction Unit for the session. -/
  | odTxCmd (session : Fin 16) (op : Byte)
  /-- `MODE_REQUEST` (R448): A write of 0x2000 requests a mode change, subject to the consistency check and the transition table. -/
  | modeRequest (session : Option (Fin 16)) (m : Byte)
  /-- `STREAM_RESTART` (R450): A write of VC, FORMAT or ENABLE = 0 to an enabled stream stops it, applies the value and restarts it. -/
  | streamRestart (st : Fin 32)
  /-- `EXTERNAL_TRIGGER` (R452): A write of 1 to 0x3200:0A is an edge for triggers of SOURCE 0x04. -/
  | externalTrigger (v : Byte)
  /-- `MICROCODE_IMAGE_WRITE` (R454): A write of 0x4401 stages a customer microcode container and issues IMAGE_LOAD. -/
  | microcodeImageWrite (session : Fin 16) (data : List Byte)
  /-- `WORKER_WINDOW_ACCESS` (R456): An access to 0x6000-0x9FFF on the manager reaches the selected worker's object. -/
  | workerWindowAccess (session : Option (Fin 16)) (index : BitVec 16) (sub : Byte) (write : Option (List Byte))
  /-- `STORE_PARAMETERS` (R462): A write of 'save' to 0x1010:01 writes every persistent value into the inactive half and switches to it. -/
  | storeParameters (session : Fin 16) (v : Word)
  /-- `RESTORE_DEFAULTS` (R462): A write of 'load' to 0x1011:01 empties the store from the next start. -/
  | restoreDefaults (session : Fin 16) (v : Word)
  /-- `WLOG_READ` (R464): A read of ODE_WLOG pops the head entry of the write log. -/
  | wlogRead (who : Initiator)
  /-- `ODE_STAT_READ` (R464): A read of ODE_STAT returns EMCY_LOST and clears it. -/
  | odeStatRead (who : Initiator)
  /-- `CAN_RX_FRAME` (R444): A received frame goes to the engine, to the RX ring through the first matching filter, or is discarded. -/
  | canRxFrame (k : Fin 4) (f : CanFrame) (sof : DWord)
  /-- `CAN_TX_FRAME` (R443): The head TX frame is sent with retries, and its completion written to the ring. -/
  | canTxFrame (k : Fin 4) (sof : DWord)
  /-- `CAN_ERROR_STATE` (R443): A controller entering error-passive or bus-off raises EV200+c. -/
  | canErrorState (k : Fin 4) (st : Fin 3) (tec rec_ : Byte)
  /-- `RECOVER` (R441): CAN_CTLc.RECOVER starts bus-off recovery. -/
  | recover (k : Fin 4)
  /-- `BUS_OFF_RECOVERY_DONE` (R441): After 128 occurrences of 11 recessive bits, a controller leaves bus-off. -/
  | busOffRecoveryDone (k : Fin 4)
  /-- `CAN_STAT_READ` (R445): A read of CAN_STATc returns RXLOST and clears it. -/
  | canStatRead (k : Fin 4)
  /-- `INCIDENT_TRIGGER` (R452): An enabled trigger sees its edge; firmware issues TRIGGER and requests INCIDENT, or restarts the hold. -/
  | incidentTrigger (i : Fin 8) (falling : Bool)
  /-- `WAKE_CAN_FRAME` (R472): A matching classical CAN frame on controller 0's RX pin wakes Salun from DORMANT. -/
  | wakeCanFrame (f : CanFrame) (rate : Fin 3)
  /-- `ACCEL_WAKE` (R472): An edge on the accelerometer input wakes Salun from DORMANT. -/
  | accelWake (falling : Bool)
  /-- `RESET_RELEASE` (R473): Internal reset is released and the start sequence runs: Seal boot, Silo scan, PLL lock, DRAM, loads and
  mode entry. -/
  | resetRelease (passed : BitVec 7) (rs : List RepairReport)
  /-- `POWER_STATE_CHOICE` (R476): The power controller sets each idle domain to the deepest state that its latency bound and dwell
  condition allow. -/
  | powerStateChoice (tgt : PowerTarget)
  /-- `TOLERANCE_WRITE` (R477): A write of SYS_TOLc brings every domain deeper than its new bound out within 100 us. -/
  | toleranceWrite (k : Fin 5) (data : Word)
  /-- `POWER_ESTIMATE` (R481): Every 100 us the package power is estimated and shown in PEST. -/
  | powerEstimate (est : BitVec 16)
  /-- `PLL_UNLOCK` (R479): A PLL that loses lock raises EV8 and stops its output until it relocks. -/
  | pllUnlock (k : Fin 3)
  /-- `DOMAIN_FAIL` (R486): A domain without power-good within 50 us of switch-on is switched off and EV13 is raised. -/
  | domainFail (d : Domain)
  /-- `SUPPLY_WARN` (R576): A monitored rail leaving its range sets SEEN and raises EV2. -/
  | supplyWarn (r : Fin 8)
  /-- `EVT_PEND_CLEAR` (R483): A W1C write to EVT_DPENDk or EVT_HPENDk clears pending bits, and host lines still pending signal again. -/
  | evtPendClear (host : Bool) (k : Fin 8) (v : Word)
  /-- `EVT_DOORBELL` (R485): A write to EVT_DOORBELL by an allowed initiator raises EV248+j. -/
  | evtDoorbell (who : Initiator) (v : Word)
  /-- `TIME_ADJ_GO` (R420): TIME_ADJCTL.GO applies an 802.1AS offset as a step or a trim. -/
  | timeAdjGo (tag : BitVec 2)
  /-- `WEAVE_LOAD` (R498): WEAVE_CFG_CTL.LOAD puts a powered quadrant into loading, holding its pins. -/
  | weaveLoad (mask : BitVec 4)
  /-- `WEAVE_CLEAR` (R498): WEAVE_CFG_CTL.CLEAR zeroes every frame of a loading quadrant. -/
  | weaveClear (mask : BitVec 4)
  /-- `FRAME_COMMIT` (R498): A write of WEAVE_CFG_WIN79 commits the window to the addressed frame, clears it and advances ADDR, or is
  discarded with EV210. -/
  | frameCommit (data : Word)
  /-- `WEAVE_IMAGE_WRITE` (R502): A write of 0x5400 stages a Weave container that firmware checks and loads. -/
  | weaveImageWrite (session : Fin 16) (data : List Byte)
  /-- `PIN_MODE_WRITE` (R504): A write of WEAVE_PINk.MODE = 1 puts a pin in GPIO mode, releasing it at once. -/
  | pinModeWrite (k : Fin 64) (data : Word)
  /-- `TRIGGER_LINE_CHANGE` (R506): A change of a fabric trigger line is latched in WEAVE_TRIG_EDGE and raises EV208. -/
  | triggerLineChange (pads : BitVec 64) (ign accel pps : Bool)
  /-- `WV_USER_EVENT` (R506): A rise of a fabric event line raises EV212+e. -/
  | wvUserEvent (pads : BitVec 64) (ign accel pps : Bool)
  /-- `BANK_FAULT` (R503): A bank supply outside both ranges sets FAULT, raises EV211 and keeps the bank's pins held. -/
  | bankFault (bankB : Bool)
  /-- `ADC_CHANNEL_RESULT` (R507): A channel's averaged conversions complete, its result is written, its flag updates and scan-end
  events are raised. -/
  | adcChannelResult (conv : List (BitVec 12))
  /-- `I2C_WRITE` (R508): I2C command OP 0 writes a byte, and a NACK discards commands up to STOP. -/
  | i2cWrite (n : Fin 4) (ack : Bool)
  /-- `I2C_READ_ACK` (R508): I2C command OP 1 reads a byte with ACK into the receive FIFO. -/
  | i2cReadAck (n : Fin 4) (data : Byte)
  /-- `I2C_READ_NACK` (R508): I2C command OP 2 reads a byte with NACK. -/
  | i2cReadNack (n : Fin 4) (data : Byte)
  /-- `I2C_STOP` (R508): I2C command OP 3 sends STOP. -/
  | i2cStop (n : Fin 4)
  /-- `I2C_TIMEOUT` (R508): A clock stretch beyond 25 ms, or SDA stuck low, sends nine clocks and STOP and sets TIMEOUT or BUSERR. -/
  | i2cTimeout (n : Fin 4) (sdaLow : Bool)
  /-- `I2C_RX_READ` (R513): A read of WEAVE_I2Cn_RX pops the receive FIFO. -/
  | i2cRxRead (n : Fin 4)
  /-- `SPI_WORD` (R509): An SPI master transfers one word full duplex, raising EV222+n when the TX FIFO empties. -/
  | spiWord (n : Fin 2) (data : Word)
  /-- `SPI_RX_READ` (R513): A read of WEAVE_SPIn_RX pops the RX FIFO. -/
  | spiRxRead (n : Fin 2)
  /-- `LINK_UP` (R517): A Spindle link trains, places the worker, drains its node to OPEN and raises its event. -/
  | linkUp (l : Fin 4) (r : PeerReport)
  /-- `LINK_DOWN` (R517): A link goes down from replays, loss of lock, power-off or EN = 0, draining its node to DISABLED. -/
  | linkDown (l : Fin 4)
  /-- `FRAME_REPLAY` (R516): A link frame received with a bad CRC is replayed and REPLAYS is counted. -/
  | frameReplay (l : Fin 4) (again : Bool)
  /-- `WORKER_REACH_TIMEOUT` (R519): A mapped device without its link up 500 ms after reset release is marked absent and EV230 is
  raised. -/
  | workerReachTimeout (d : Fin 16)
  /-- `LINK_STAT_READ` (R531): A read of SPIN_LINKl returns REPLAYS and clears it. -/
  | linkStatRead (l : Fin 4)
  /-- `DBGACC` (R535): The JTAG DBGACC instruction makes one aligned access to the DBG block at Update-DR. -/
  | dbgacc (write : Bool) (off : BitVec 20) (v : Word)
  /-- `DEBUG_OBJECT_WRITE` (R536): A write of 0x5F20 over OD-over-UDP in SERVICE makes a sequence of DBG accesses with results in
  0x5F21. -/
  | debugObjectWrite (session : Fin 16) (udp : Bool) (records : List (BitVec 64))
  /-- `CHALLENGE` (R537): DBG_AUTHCTL.CHALLENGE fills the port's nonce, valid for 60 s and one VERIFY. -/
  | challenge (p : Fin 3)
  /-- `VERIFY` (R537): DBG_AUTHCTL.VERIFY checks a debug key signature or password for the requested level. -/
  | verify (p : Fin 3) (password : Bool) (level : Fin 4)
  /-- `VERIFY_DONE` (R538): A VERIFY completes: it grants the level and taint, or counts a failure and may lock the port. -/
  | verifyDone (p : Fin 3)
  /-- `NONCE_EXPIRY` (R537): A debug nonce expires 60 s after CHALLENGE. -/
  | nonceExpiry (p : Fin 3)
  /-- `CLOSE` (R539): DBG_AUTHCTL.CLOSE ends the port's grant. -/
  | close (p : Fin 3)
  /-- `CHALT` (R541): DBG_RUNCTL.CHALT halts the core at the next interruptible boundary and raises EV243. -/
  | chalt (p : Fin 3)
  /-- `CRESUME` (R541): DBG_RUNCTL.CRESUME restarts a halted core at PC. -/
  | cresume (p : Fin 3)
  /-- `CSTEP` (R542): DBG_RUNCTL.CSTEP executes one step and halts again. -/
  | cstep (p : Fin 3)
  /-- `ASTOP` (R545): DBG_RUNCTL.ASTOP sends the debug halt, and the queue enters STOPPED with EV244. -/
  | astop (p : Fin 3)
  /-- `ARELEASE` (R545): DBG_RUNCTL.ARELEASE ends the debug halt and returns the queue to RUN. -/
  | arelease (p : Fin 3)
  /-- `ASTEP` (R545): DBG_RUNCTL.ASTEP dispatches and runs the head entry while STOPPED. -/
  | astep (p : Fin 3)
  /-- `DBM_ACCESS` (R548): DBG_DBM_CTL.GO makes one Debug Bus Master access, which PEEK may leave free of side effects. -/
  | dbmAccess (p : Fin 3)
  /-- `PMEM_READ` (R550): A read of DBG_PMEM_DATA0 fetches a whole plane row or frame-table entry into the buffer. -/
  | pmemRead (p : Fin 3)
  /-- `PMEM_COMMIT` (R550): A write of DBG_PMEM_DATA127 commits the buffer to the plane, or is refused. -/
  | pmemCommit (p : Fin 3) (v : Word)
  /-- `STIM_WRITE` (R552): A write to DBG_STIMp creates a STIM packet, or is dropped or held when the FIFO is full. -/
  | stimWrite (p : Fin 32) (size : Fin 3) (data : Word) (port : Option (Fin 3))
  /-- `REEL_WIN_READ` (R556): A read of DBG_REEL_WIN3 advances RD. -/
  | reelWinRead (w : Fin 4 × Option (Fin 3))
  /-- `WDT_ENABLE` (R546): WDT_CTL.EN starts the watchdog until reset. -/
  | wdtEnable (freeze : Bool)
  /-- `WDT_KICK` (R546): A write of 0x0000_5A3C to WDT_KICK reloads LEFT with TIMEOUT. -/
  | wdtKick (v : Word)
  /-- `HISTOGRAM_SAMPLE` (R562): Each second or minute a lifetime histogram takes a sample into one bin. -/
  | histogramSample (h : Fin 5)
  /-- `PLL_RELOCK` (R479): A PLL that lost lock locks again and restarts its output, so its stalled domains run on. -/
  | pllRelock (k : Fin 3)
  /-- `AON_POWER_ON` (R573): VDD_AON returns after its loss: always-on state such as COLD, the Timebase, the debug lockout and the taint
  is cleared, and PWR_EN rises 1 ms later. -/
  | aonPowerOn (mgrSel : Bool)
  /-- `SUPPLY_RETURN` (R576): A monitored rail comes back within its recommended range, and its OUT bit in SYS_SUPPLY clears. -/
  | supplyReturn (r : Fin 8)
  /-- `DOMAIN_POWER_GOOD` (R486): A switched-on domain reports power-good, becomes usable and has its edge port returned to OPEN by a
  drain. -/
  | domainPowerGood (d : Domain)
  /-- `SW_START_FAIL` (R397): Storage Writer start-up fails at link training, controller setup or the drive checks, entering NO_DRIVE or
  BAD_DRIVE and raising EV181. -/
  | swStartFail (r : DriveReport)
  /-- `PICTURE_COMMAND` (R293): A picture command entry on the packer's picture queue is taken, and its prefix and slice records are
  read. -/
  | pictureCommand
  /-- `SLICE_START` (R294): A waiting slice whose command and first SEB are present is given to the lowest-numbered idle enabled lane. -/
  | sliceStart
  /-- `PICTURE_DONE` (R297): After a picture has passed the bitstream port, the packer posts a statistics entry, or counts it lost when
  the ring is full. -/
  | pictureDone
  /-- `PKR_STAT_READ` (R300): A read of PKR_STAT returns LOST and clears it. -/
  | pkrStatRead
  /-- `RESEED` (R50): A write of 1 to ASQ_LFSR_CTL.RESEED makes every bound tile reload its LFSRs at the next dispatch. -/
  | reseed
  /-- `TOR0_READ` (R59): A read of ASQ_TOR0 returns TOR0 and copies TOR1-TOR7 of the same GOR result into the shadow. -/
  | tor0Read
  /-- `GOR_RESULT` (R57): The global OR and tile-OR vector of a GOR-class micro-operation reach GOR and ASQ_TOR 8 ACLK after issue, or
  later in gang mode. -/
  | gorResult
  /-- `DISPATCH` (R113): In RUN with VREADY = 1 and no routine running, the head macro-instruction dispatches through its dispatch entry
  with its micro-registers initialised. -/
  | dispatch
  /-- `NOP` (R81): Vendor opcode 0x00: does nothing and translates no plane. -/
  | nop
  /-- `MOV` (R81): Vendor opcode 0x01: D <- A. -/
  | mov
  /-- `NOT` (R81): Vendor opcode 0x02: D <- NOT A, bitwise. -/
  | not
  /-- `LDI` (R81): Vendor opcode 0x03: D <- the 12-bit SRB immediate, extended or cut to w bits. -/
  | ldi
  /-- `LFSR` (R81): Vendor opcode 0x04: writes w successive LFSR reads into D. -/
  | lfsr
  /-- `SEL` (R81): Vendor opcode 0x05: D <- A where M = 1 and B where M = 0. -/
  | sel
  /-- `BOOL` (R81): Vendor opcode 0x06: D <- F(A, B) bitwise with function code SHF[3:0]. -/
  | bool
  /-- `MSET` (R81): Vendor opcode 0x08: M <- the value AUX selects, ignoring MSK. -/
  | mset
  /-- `MGET` (R81): Vendor opcode 0x09: plane D <- M. -/
  | mget
  /-- `SGET` (R81): Vendor opcode 0x0A: plane D <- S. -/
  | sget
  /-- `SCLR` (R81): Vendor opcode 0x0B: S <- 0 in each PE it may update. -/
  | sclr
  /-- `NMOV` (R82): Vendor opcode 0x10: D <- A moved k steps in one direction. -/
  | nmov
  /-- `NMOVD` (R82): Vendor opcode 0x11: D <- A moved k steps in each of two directions. -/
  | nmovd
  /-- `NADD` (R82): Vendor opcode 0x12: D <- A plus or minus B moved k steps. -/
  | nadd
  /-- `ANY` (R83): Vendor opcode 0x20: GOR and tile-OR <- the OR over active PEs of the bit AUX selects. -/
  | any
  /-- `CMP` (R83): Vendor opcode 0x28: plane D <- 1 where the relation AUX selects holds. -/
  | cmp
  /-- `CMPM` (R83): Vendor opcode 0x29: M <- the relation, ANDed with M under MSK. -/
  | cmpm
  /-- `ADD` (R84): Vendor opcode 0x30: D <- A + B, with overflow handling. -/
  | add
  /-- `SUB` (R84): Vendor opcode 0x31: D <- A - B. -/
  | sub
  /-- `ADDI` (R84): Vendor opcode 0x32: D <- A + the SRB immediate. -/
  | addi
  /-- `NEG` (R84): Vendor opcode 0x33: D <- -A. -/
  | neg
  /-- `ABS` (R84): Vendor opcode 0x34: D <- |A|. -/
  | abs
  /-- `MIN` (R84): Vendor opcode 0x35: D <- the smaller of A and B. -/
  | min
  /-- `MAX` (R84): Vendor opcode 0x36: D <- the larger of A and B. -/
  | max
  /-- `AVG` (R84): Vendor opcode 0x37: D <- (A + B) / 2, rounded by RND. -/
  | avg
  /-- `ABSD` (R84): Vendor opcode 0x38: D <- |A - B|. -/
  | absd
  /-- `CLIP` (R84): Vendor opcode 0x39: D <- A clamped to a range of 2^k. -/
  | clip
  /-- `SHL` (R103): Vendor opcode 0x3C: D <- A x 2^k. -/
  | shl
  /-- `SHR` (R103): Vendor opcode 0x3D: D <- A / 2^k, rounded. -/
  | shr
  /-- `ROL` (R84): Vendor opcode 0x3E: D <- A rotated left. -/
  | rol
  /-- `ROR` (R84): Vendor opcode 0x3F: D <- A rotated right. -/
  | ror
  /-- `MUL` (R85): Vendor opcode 0x40: D <- the exact product of A and B. -/
  | mul
  /-- `MULQ` (R85): Vendor opcode 0x41: D <- (A x B) / 2^SHF, rounded and narrowed. -/
  | mulq
  /-- `DIV` (R104): Vendor opcode 0x44: quotient and remainder of A / B. -/
  | div
  /-- `SQRT` (R85): Vendor opcode 0x48: integer square root and remainder. -/
  | sqrt
  /-- `ACC` (R86): Vendor opcode 0x50: accumulator D <- D + A. -/
  | acc
  /-- `ACCN` (R86): Vendor opcode 0x51: accumulator D <- D - A. -/
  | accn
  /-- `WIDEN` (R86): Vendor opcode 0x52: accumulator D <- A extended. -/
  | widen
  /-- `NARROW` (R100): Vendor opcode 0x53: D <- accumulator / 2^SHF, rounded and narrowed. -/
  | narrow
  /-- `POPC` (R86): Vendor opcode 0x54: D <- the number of ones in A. -/
  | popc
  /-- `CLZ` (R86): Vendor opcode 0x55: D <- the number of leading zeros in A. -/
  | clz
  /-- `SIG` (R87): Vendor opcode 0x60: D <- the SHA sigma function AUX selects. -/
  | sig
  /-- `CH` (R87): Vendor opcode 0x61: SHA choose function. -/
  | ch
  /-- `MAJ` (R87): Vendor opcode 0x62: SHA majority function. -/
  | maj
  /-- `BSWAP` (R87): Vendor opcode 0x63: D <- A with its byte order reversed. -/
  | bswap
  /-- `FADDH` (R88): Vendor opcode 0x80: binary16 addition. -/
  | faddh
  /-- `FSUBH` (R88): Vendor opcode 0x81: binary16 subtraction. -/
  | fsubh
  /-- `FMULH` (R88): Vendor opcode 0x82: binary16 multiplication. -/
  | fmulh
  /-- `FFMAH` (R88): Vendor opcode 0x83: binary16 fused multiply-add with the addend taken from D. -/
  | ffmah
  /-- `FMINH` (R88): Vendor opcode 0x84: binary16 minimumNumber. -/
  | fminh
  /-- `FMAXH` (R88): Vendor opcode 0x85: binary16 maximumNumber. -/
  | fmaxh
  /-- `FCMPH` (R88): Vendor opcode 0x86: binary16 comparison into D. -/
  | fcmph
  /-- `FCVTHI` (R105): Vendor opcode 0x88: binary16 to integer conversion. -/
  | fcvthi
  /-- `FCVTIH` (R88): Vendor opcode 0x89: integer to binary16 conversion. -/
  | fcvtih
  /-- `FCVTHQ` (R105): Vendor opcode 0x8A: binary16 to Q conversion. -/
  | fcvthq
  /-- `FCVTQH` (R88): Vendor opcode 0x8B: Q to binary16 conversion. -/
  | fcvtqh
  /-- `UNDEF` (R89): An undefined vendor opcode, or a customer opcode with no routine loaded, runs the UNDEF routine: records the fault,
  raises EV80 and halts the queue. -/
  | undef
  /-- `CUSTOMER_ROUTINE` (R91): A customer opcode dispatches to its loaded routine without any operand check. -/
  | customerRoutine
  /-- `PLANE` (R122): Microword class 0x0 reads two planes, computes and writes a plane and registers. -/
  | plane
  /-- `NBR` (R123): Microword class 0x1 loads, stores or moves NX across the mesh. -/
  | nbr
  /-- `REG` (R124): Microword class 0x2 loads one PE register. -/
  | reg
  /-- `GOR` (R125): Microword class 0x3 starts a global OR and tile-OR. -/
  | gor
  /-- `CNT` (R126): Microword class 0x4 sets a 10-bit counter. -/
  | cnt
  /-- `OFS` (R127): Microword class 0xB sets a 12-bit plane offset. -/
  | ofs
  /-- `BR` (R128): Microword class 0x5 branches on a condition, optionally decrementing a counter. -/
  | br
  /-- `CALL` (R128): Microword class 0x6 pushes a return address and branches. -/
  | call
  /-- `RET` (R128): Microword class 0x7 pops a return address. -/
  | ret
  /-- `YIELD` (R137): Microword class 0x8 is a preemption point at which a pending urgent request abandons a YIELD routine. -/
  | yield
  /-- `END` (R130): Microword class 0x9 ends the routine, discarding the micro-stack and letting a pending urgent request take effect. -/
  | endOp
  /-- `PAGE_TOUCH` (R131): PAGE microword OP 0b00 translates every page of a group, stalling on a non-resident page. -/
  | pageTouch
  /-- `PAGE_DECLARE` (R131): PAGE microword OP 0b01 declares a group's pages to the Granary for prefetch. -/
  | pageDeclare
  /-- `PAGE_CHECK` (R131): PAGE microword OP 0b10 checks a group against the destination and faults with CAUSE 3 when the rule is
  broken. -/
  | pageCheck
  /-- `WAIT` (R132): Microword class 0xC holds the routine for a count and, optionally, until every GOR result has arrived. -/
  | wait
  /-- `RESERVED_MICROWORD` (R120): A reserved microword class, or fetch past 0x3FFF, stops the routine with the CAUSE 4 fault. -/
  | reservedMicroword
  /-- `RESUME` (R115): ASQ_QCTL.RESUME in HALTED removes the faulting instruction, clears VALID and returns the queue to RUN or STOPPED. -/
  | resume
  /-- `DISCARD` (R115): ASQ_QCTL.DISCARD removes queue entries, and from HALTED clears the fault. -/
  | discard
  /-- `CUSTOMER_LOAD_DONE` (R136): A customer microcode load ends: status is set, LOADING clears and EV84 is raised. -/
  | customerLoadDone
  /-- `GRN_ENABLE` (R146): GRN_CTL.ENABLE checks the table placement and starts zeroing the descriptors and building the free lists, or
  sets INITERR. -/
  | grnEnable
  /-- `GRN_INIT_DONE` (R146): Initialisation of the Granary ends: READY is set and EV60 is raised. -/
  | grnInitDone
  /-- `KLOCK` (R164): GRN_CTL.KLOCK locks kernel entries 0-511 until reset. -/
  | klock
  /-- `SUBMIT` (R159): SQ command 0x01 checks a FREE descriptor, allocates its pages and makes it READY or PARKED. -/
  | submit
  /-- `PARK` (R159): SQ command 0x02 moves a READY context to PARKED. -/
  | park
  /-- `RELEASE` (R159): SQ command 0x03 moves a PARKED context to READY. -/
  | release
  /-- `FREE` (R159): SQ command 0x04 returns a context to FREE with its OWN pages. -/
  | free
  /-- `SET_DEADLINE` (R159): SQ command 0x05 sets DEADLINE and clears LATE. -/
  | setDeadline
  /-- `SET_PRIO` (R159): SQ command 0x06 sets PRIO. -/
  | setPrio
  /-- `FENCE` (R159): SQ command 0x07 posts a status entry once every earlier entry of its SQ has been processed. -/
  | fence
  /-- `GRN_BAD_OP` (R159): An SQ entry with an undefined OP is refused with BAD_OP. -/
  | grnBadOp
  /-- `DEADLINE_SCAN` (R151): At least every 10 us, contexts whose deadline has passed are marked LATE and EV55 is raised. -/
  | deadlineScan
  /-- `SELECTION` (R169): The Granary picks the next round's kernel and contexts by class, urgency, fill and deadline, and binds them. -/
  | selection
  /-- `STALL_RESUME` (R179): When the last faulting tile's page is resident, the array resumes at the same microword and the stall is
  counted. -/
  | stallResume
  /-- `TURNAROUND` (R168): When the running round's END is accepted and staging is done, frame tables switch, registers reset, contexts
  go RUNNING and a NOTICE is posted. -/
  | turnaround
  /-- `ROUND_QUEUE_ROOM` (R162): When room appears in the round queue, a waiting NOTICE or PREEMPT entry is posted. -/
  | roundQueueRoom
  /-- `END_ACCEPT` (R172): A held END is accepted once the queue is in RUN and idle, and every RUNNING context takes its chain step or
  becomes FAULTED. -/
  | endAccept
  /-- `PREEMPT_REQUEST` (R183): When preemption is enabled, the kernel has RESTART = 1 and an urgent more important context waits, the
  Granary sends the urgent request. -/
  | preemptRequest
  /-- `ACK_PREEMPT` (R185): GRN_RCTL.ACK_PREEMPT discards the queue, ends the round with its contexts READY, and selects the urgent
  round. -/
  | ackPreempt
  /-- `ACK_LATE` (R185): No acknowledgement within 100 us of a PREEMPT entry raises EV61. -/
  | ackLate
  /-- `RSTAT_READ` (R190): A read of GRN_RSTAT returns ERR and clears it. -/
  | rstatRead
  /-- `REFRESH` (R201): Each refresh interval the channel is held for 78 ns to refresh. -/
  | refresh
  /-- `DISTAFF_ADD` (R238): ADD in register or immediate form: D <- A + B, with flags under SF. -/
  | distaffAdd
  /-- `ADC` (R238): ADC: D <- A + B + C. -/
  | adc
  /-- `DISTAFF_SUB` (R238): SUB: D <- A - B. -/
  | distaffSub
  /-- `SBC` (R238): SBC: D <- A - B - (1 - C). -/
  | sbc
  /-- `AND` (R214): AND: bitwise AND. -/
  | and
  /-- `OR` (R214): OR: bitwise OR. -/
  | or
  /-- `XOR` (R214): XOR: bitwise XOR. -/
  | xor
  /-- `BIC` (R214): BIC: bit clear. -/
  | bic
  /-- `LSL` (R239): LSL: logical shift left. -/
  | lsl
  /-- `LSR` (R239): LSR: logical shift right. -/
  | lsr
  /-- `ASR` (R239): ASR: arithmetic shift right. -/
  | asr
  /-- `DISTAFF_ROR` (R239): ROR: rotate right. -/
  | distaffRor
  /-- `DISTAFF_MOV` (R214): MOV: D <- B. -/
  | distaffMov
  /-- `DISTAFF_CMP` (R238): CMP: sets flags from A - B. -/
  | distaffCmp
  /-- `QADD` (R240): QADD: saturating Q31 addition that sets SV. -/
  | qadd
  /-- `QSUB` (R240): QSUB: saturating Q31 subtraction that sets SV. -/
  | qsub
  /-- `MOVL` (R214): MOVL: D <- IMM16, zero-extended. -/
  | movl
  /-- `MOVH` (R214): MOVH: D[31:16] <- IMM16. -/
  | movh
  /-- `LDB` (R219): LDB: load a byte. -/
  | ldb
  /-- `LDSB` (R219): LDSB: load a signed byte. -/
  | ldsb
  /-- `LDH` (R219): LDH: load a halfword. -/
  | ldh
  /-- `LDSH` (R219): LDSH: load a signed halfword. -/
  | ldsh
  /-- `LDW` (R219): LDW: load a word, with a load-delay slot. -/
  | ldw
  /-- `LDX` (R225): LDX: load a word and set the reservation on its line. -/
  | ldx
  /-- `STB` (R219): STB: store a byte. -/
  | stb
  /-- `STH` (R219): STH: store a halfword. -/
  | sth
  /-- `STW` (R229): STW: store a word through the store buffer. -/
  | stw
  /-- `STX` (R225): STX: store only while the reservation holds, set Z, and clear the reservation. -/
  | stx
  /-- `LDA` (R219): LDA: load 8 bytes into an accumulator. -/
  | lda
  /-- `LDP` (R219): LDP: load 8 bytes into a pointer. -/
  | ldp
  /-- `STA` (R219): STA: store an accumulator sign-extended. -/
  | sta
  /-- `STP` (R219): STP: store a pointer zero-extended. -/
  | stp
  /-- `DISTAFF_MUL_ACC` (R242): Class 0x5 MUL: Ad <- G1 x G2. -/
  | distaffMulAcc
  /-- `MAC` (R242): MAC: Ad <- Ad + G1 x G2. -/
  | mac
  /-- `MSU` (R242): MSU: Ad <- Ad - G1 x G2. -/
  | msu
  /-- `MOVA` (R242): MOVA: Ad <- G1 sign-extended. -/
  | mova
  /-- `RDA` (R242): RDA: G1 <- Ad shifted, rounded and narrowed. -/
  | rda
  /-- `ASRA` (R242): ASRA: Ad <- Ad shifted right and rounded. -/
  | asra
  /-- `CLRA` (R214): CLRA: Ad <- 0. -/
  | clra
  /-- `DISTAFF_MUL` (R241): Class 0x6 MUL: low 32 bits of the product. -/
  | distaffMul
  /-- `MULHS` (R241): MULHS: high 32 bits of the signed product. -/
  | mulhs
  /-- `MULHU` (R241): MULHU: high 32 bits of the unsigned product. -/
  | mulhu
  /-- `DIVS` (R243): DIVS: signed division. -/
  | divs
  /-- `DIVU` (R243): DIVU: unsigned division. -/
  | divu
  /-- `REMS` (R243): REMS: signed remainder. -/
  | rems
  /-- `REMU` (R243): REMU: unsigned remainder. -/
  | remu
  /-- `FADD` (R245): FADD: binary32 addition. -/
  | fadd
  /-- `FSUB` (R245): FSUB: binary32 subtraction. -/
  | fsub
  /-- `FMUL` (R245): FMUL: binary32 multiplication. -/
  | fmul
  /-- `FDIV` (R245): FDIV: binary32 division. -/
  | fdiv
  /-- `FSQRT` (R246): FSQRT: binary32 square root. -/
  | fsqrt
  /-- `FMA` (R245): FMA: binary32 fused multiply-add. -/
  | fma
  /-- `FMIN` (R246): FMIN: binary32 minimumNumber. -/
  | fmin
  /-- `FMAX` (R246): FMAX: binary32 maximumNumber. -/
  | fmax
  /-- `FCMP` (R248): FCMP: compare and set N, Z, C and V. -/
  | fcmp
  /-- `FCVTWS` (R247): FCVTWS: binary32 to signed integer. -/
  | fcvtws
  /-- `FCVTSW` (R247): FCVTSW: signed integer to binary32. -/
  | fcvtsw
  /-- `FNEG` (R246): FNEG: flip the sign bit. -/
  | fneg
  /-- `FABS` (R246): FABS: clear the sign bit. -/
  | fabs
  /-- `DADD` (R251): DADD: packed BCD addition. -/
  | dadd
  /-- `DSUB` (R251): DSUB: packed BCD subtraction. -/
  | dsub
  /-- `DCHK` (R252): DCHK: sets Z when every nibble is a decimal digit. -/
  | dchk
  /-- `B` (R214): B: PC-relative branch. -/
  | b
  /-- `BL` (R216): BL: branch and write the return address to P7. -/
  | bl
  /-- `BRP` (R214): BRP: branch to a pointer. -/
  | brp
  /-- `BLRP` (R214): BLRP: branch to a pointer and link. -/
  | blrp
  /-- `SETP` (R214): SETP: Pi <- {IMM, G}. -/
  | setp
  /-- `GETP` (R214): GETP: G <- Pi[31:0]. -/
  | getp
  /-- `GETPH` (R214): GETPH: G <- Pi[39:32]. -/
  | getph
  /-- `ADDP` (R214): ADDP: Pi <- Pi + IMM. -/
  | addp
  /-- `SETB` (R214): SETB: set a buffer base. -/
  | setb
  /-- `SETL` (R214): SETL: set a modulo length. -/
  | setl
  /-- `SETN` (R214): SETN: set a post-modify step. -/
  | setn
  /-- `GETL` (R214): GETL: read a modulo length. -/
  | getl
  /-- `GETN` (R214): GETN: read a step. -/
  | getn
  /-- `GETB` (R214): GETB: read a base. -/
  | getb
  /-- `GETAL` (R214): GETAL: read accumulator bits [31:0]. -/
  | getal
  /-- `GETAH` (R214): GETAH: read accumulator bits [39:32]. -/
  | getah
  /-- `SETAH` (R214): SETAH: set accumulator bits [39:32]. -/
  | setah
  /-- `ISSUE` (R223): ISSUE enqueues a macro-instruction, holds at a full queue, or completes with Z = 0. -/
  | issue
  /-- `ISSUEM` (R223): ISSUEM enqueues 8 bytes read from memory and advances the pointer. -/
  | issuem
  /-- `ISSUE_HOLD_RELEASE` (R223): When space appears, a held ISSUE enqueues its entry and completes with Z = 1. -/
  | issueHoldRelease
  /-- `AWAIT` (R224): AWAIT holds the core until its DONE, GOR or ROOM condition holds. -/
  | await
  /-- `AWAIT_COMPLETE` (R224): A waiting AWAIT completes with Z = 1 when its condition holds, or with Z = 0 when the queue leaves RUN. -/
  | awaitComplete
  /-- `DISTAFF_NOP` (R214): Class 0xD NOP. -/
  | distaffNop
  /-- `SVC` (R226): SVC raises the SVC exception with INFO = CODE. -/
  | svc
  /-- `ERET` (R230): ERET restores flags and STATUS from the bank, branches to EPC and clears the reservation. -/
  | eret
  /-- `MRS` (R235): MRS reads a control register. -/
  | mrs
  /-- `MSR` (R235): MSR writes a control register. -/
  | msr
  /-- `WFI` (R231): WFI gates the core clock until a qualifying line or a debug halt. -/
  | wfi
  /-- `WFI_WAKE` (R231): A pending qualifying IRQ or NMI, or a debug halt, ends WFI. -/
  | wfiWake
  /-- `DISTAFF_FENCE` (R234): FENCE completes when the store buffer is empty and every access has its response. -/
  | distaffFence
  /-- `BKPT` (R544): BKPT halts the core for debug, or raises the BKPT exception. -/
  | bkpt
  /-- `DCINV` (R214): DCINV invalidates a D-cache line. -/
  | dcinv
  /-- `ICINV` (R214): ICINV invalidates the I-cache line at a pointer. -/
  | icinv
  /-- `ICINVALL` (R234): ICINVALL invalidates the whole I-cache. -/
  | icinvall
  /-- `DCINVALL` (R234): DCINVALL invalidates the whole D-cache. -/
  | dcinvall
  /-- `UNDEF_INSTRUCTION` (R215): An undefined instruction raises UNDEF whatever its condition. -/
  | undefInstruction
  /-- `INTERRUPT_ENTRY` (R227): A pending IRQ above IPL, or NMI, is taken at an instruction boundary through its bank and vector. -/
  | interruptEntry
  /-- `IMPRECISE_BUSERR` (R229): An error response to a buffered store raises BUSERR with IMPRECISE at the next interruptible boundary. -/
  | impreciseBuserr
  /-- `INV_LINE` (R234): An INV_LINE snoop invalidates a D-cache line and is acknowledged. -/
  | invLine
  /-- `DRAIN_START` (R270): A queued drain begins at its router when no other drain runs, stopping all inputs. -/
  | drainStart
  /-- `DRAIN_COMPLETE` (R269): Once the router's buffers are empty, the new port state is applied, input resumes, and held requests are
  delivered. -/
  | drainComplete
  /-- `DRAIN_LATE` (R270): A drain not finished within 4,096 NCLK raises EV96 once. -/
  | drainLate
  /-- `DRAIN_ABORT` (R270): NOC_DRAIN.ABORT ends the current drain with the old state and raises EV105. -/
  | drainAbort
  /-- `PERR_READ` (R275): A read of NOC_PERR returns the count and clears it. -/
  | perrRead
  /-- `DAT_CE_READ` (R275): A read of NOC_DAT_CE returns the count and clears it. -/
  | datCeRead
  /-- `BITSTREAM_PORT_INPUT` (R314): Coded bytes passing the bitstream port are hashed into the sheaf that their picture belongs to. -/
  | bitstreamPortInput
  /-- `STOOK_DUE` (R321): At each interval boundary or Timebase step, a stook falls due and signing starts when the RSA engine is free. -/
  | stookDue
  /-- `STOOK_SIGN_DONE` (R322): The PSS signature completes, and the stook is journaled and released with EV23. -/
  | stookSignDone
  /-- `RECOVERY_STOOK` (R326): In RECOVERY, the Seal Unit checks counter continuity and signs a recovery stook over every unsigned
  journaled record. -/
  | recoveryStook
  /-- `JOURNAL_WRITE_DONE` (R372): A journal entry's header grain is written, which completes the entry. -/
  | journalWriteDone
  /-- `JOURNAL_SPACE_FREED` (R374): A new PROGRESS entry lets the oldest kept entry advance, freeing space for a waiting journal write. -/
  | journalSpaceFreed
  /-- `PROGRESS_ENTRY` (R371): The Silo journals a PROGRESS entry after a Storage Writer report, at most once every 250 ms. -/
  | progressEntry
  /-- `SILO_CE_READ` (R392): A read of SILO_CE returns the count and clears it. -/
  | siloCeRead
  /-- `CONDITIONAL_TEST_FAIL` (R361): A failure of the entropy health, pairwise-consistency or signature check enters the error state. -/
  | conditionalTestFail
  /-- `SOFT_TAMPER` (R363): A supply, clock or temperature excursion raises EV17 and enters the error state. -/
  | softTamper
  /-- `HARD_TAMPER` (R363): A break in the active shield raises EV17 and starts zeroisation. -/
  | hardTamper
  /-- `SESSION_AUTH_TIMEOUT` (R358): A session without SESSION_AUTH within 10 s is discarded. -/
  | sessionAuthTimeout
  /-- `SESSION_IDLE_TIMEOUT` (R359): A session with no successful CHECK_MAC for 300 s closes. -/
  | sessionIdleTimeout
  /-- `LOCKOUT_END` (R358): 60 s after the lockout began, SESSION_OPEN is accepted again. -/
  | lockoutEnd
  /-- `XSPI_GO` (R347): XSPI_CMD.GO issues a flash command-mode operation, or sets ERR when CMDEN = 0. -/
  | xspiGo
  /-- `VIN_SENSE_FALL` (R376): VIN_SENSE falling below its threshold beyond the deglitch time starts the capsule and raises EV0. -/
  | vinSenseFall
  /-- `CAPSULE_COMPLETE` (R380): The capsule journals CAPSULE_END, leaves only the always-on, mesh and Silo domains on, and waits for
  the reset. -/
  | capsuleComplete
  /-- `VIN_RECOVERED` (R380): VIN_SENSE above threshold for 10 ms after a capsule makes Salun reset itself and start. -/
  | vinRecovered
  /-- `PF_WARN` (R486): VIN_SENSE falling below threshold plus 50 mV raises EV1. -/
  | pfWarn
  /-- `SILO_SCAN` (R384): At start the Silo scans the journal, rolls forward a committed transaction, latches SILO_RSTAT and sets READY. -/
  | siloScan
  /-- `RECOVERY` (R385): A start with an uncovered capsule or unsigned records passes through RECOVERY: recovery stook, then rewrite of
  undurable records. -/
  | recovery
  /-- `TX_OPEN` (R388): Transaction command 0x1 opens a transaction. -/
  | txOpen
  /-- `TX_STAGE` (R387): Transaction command 0x2 checks an entry and copies it into the log. -/
  | txStage
  /-- `TX_COMMIT` (R389): Transaction command 0x3 writes the COMMITTED header and applies the entries in order. -/
  | txCommit
  /-- `TX_ABORT` (R388): Transaction command 0x4 discards the staged entries. -/
  | txAbort
  /-- `TX_APPLY_DONE` (R389): Application ends: the header is written APPLIED, STATE returns to IDLE and EV40 or EV41 is raised. -/
  | txApplyDone
  /-- `SW_ENABLE` (R397): Setting PCIB_SWCTL.ENABLE starts link training, controller setup, drive checks and queue creation. -/
  | swEnable
  /-- `ITEM_ADD` (R400): An available record or data item is added to the open bale, which closes and is issued when it would exceed
  BALE_UNITS. -/
  | itemAdd
  /-- `BALE_AGE_CLOSE` (R400): A bale whose oldest item has waited STORAGE_LAG/4 is closed and issued. -/
  | baleAgeClose
  /-- `LAG_MISS` (R402): An item not durable within STORAGE_LAG increments PCIB_LAGMISS and raises EV183. -/
  | lagMiss
  /-- `SW_DISABLE` (R405): Clearing ENABLE while running enters DRAINING. -/
  | swDisable
  /-- `SW_DRAIN_DONE` (R405): With nothing outstanding, the writer enters IDLE and raises EV186. -/
  | swDrainDone
  /-- `SW_DRAIN_TIMEOUT` (R405): 1,000 ms after DRAINING began, the controller is reset and IDLE entered. -/
  | swDrainTimeout
  /-- `PCIA_RESET` (R407): PERST#, a hot reset or a link-down reset resets only PCIe-A and raises EV177. -/
  | pciaReset
  /-- `OD_SLOT_ANSWER` (R411): The engine writes the slot response, sets ODDONE and raises EV179. -/
  | odSlotAnswer
  /-- `OD_OPEN` (R416): Message OP 0x01 opens a session through SESSION_OPEN. -/
  | odOpen
  /-- `OD_AUTH` (R416): Message OP 0x02 authenticates a session through SESSION_AUTH. -/
  | odAuth
  /-- `OD_CLOSE` (R416): Message OP 0x03 closes a session. -/
  | odClose
  /-- `OD_READ` (R416): Message OP 0x10 reads an object segment. -/
  | odRead
  /-- `OD_WRITE` (R416): Message OP 0x11 writes an object segment, performing the write on LAST. -/
  | odWrite
  /-- `OD_BAD_OP` (R416): An unlisted message OP is answered with abort 0x0504_0001. -/
  | odBadOp
  /-- `PENDING_WRITE_TIMEOUT` (R416): A pending multi-segment write idle for 10 s is discarded. -/
  | pendingWriteTimeout
  /-- `RPDO_RECEIVE` (R435): An enabled RPDO frame writes its mapped objects. -/
  | rpdoReceive
  /-- `HEARTBEAT` (R435): The producer heartbeat is sent every 0x1017 ms. -/
  | heartbeat
  /-- `CAN_TIME_OBJECT` (R419): A CANopen TIME object is received and used as a Timebase source update. -/
  | canTimeObject
  /-- `NMT_START` (R436): NMT start makes the node operational. -/
  | nmtStart
  /-- `NMT_STOP` (R436): NMT stop silences PDOs. -/
  | nmtStop
  /-- `NMT_PRE_OPERATIONAL` (R436): NMT pre-operational silences PDOs while USDO continues. -/
  | nmtPreOperational
  /-- `NMT_RESET_COMMUNICATION` (R436): NMT reset communication reloads the communication objects and enters pre-operational. -/
  | nmtResetCommunication
  /-- `NMT_RESET_NODE` (R436): NMT reset node reloads the communication objects and enters pre-operational, without resetting Salun. -/
  | nmtResetNode
  /-- `OD_STORE_LOAD` (R461): At start, objects are set to defaults and then the active store half's records are applied. -/
  | odStoreLoad
  /-- `INCIDENT_HOLD_EXPIRY` (R469): When the INCIDENT hold runs out, Salun enters the return mode. -/
  | incidentHoldExpiry
  /-- `DORMANT_ENTRY` (R471): Entry to DORMANT stops streams, closes and signs, disables storage, flushes and switches off every
  switched domain. -/
  | dormantEntry
  /-- `IGN_WAKE` (R472): IGN_WAKE high for 10 ms wakes Salun from DORMANT. -/
  | ignWake
  /-- `RTC_ALARM` (R472): The backup counter reaching SYS_RTC_ALARM wakes Salun from DORMANT, or otherwise raises EV15. -/
  | rtcAlarm
  /-- `EXTERNAL_RESET` (R574): RESET_N low for at least 1 us resets every domain except always-on, with no capsule. -/
  | externalReset
  /-- `SW_RESET` (R487): SYS_RESET.SWRESET runs the capsule with CAUSE 0x3 and then resets. -/
  | swReset
  /-- `THROTTLE_STEP` (R481): By temperature and the power cap, the operating point steps down per 1 ms, up per 10 ms, or ACLK stops at
  120 C. -/
  | throttleStep
  /-- `REF_LOST` (R479): Loss of the 25 MHz reference for more than 10 us raises EV9. -/
  | refLost
  /-- `XTAL_FAIL` (R479): Loss of the 32.768 kHz crystal raises EV10 and moves always-on to the RC. -/
  | xtalFail
  /-- `PPS_EDGE` (R419): A GNSS PPS edge is a Timebase source update with offset e. -/
  | ppsEdge
  /-- `TIME_SOURCE_TIMEOUT` (R421): A locked source missing its timeout puts the Timebase in HOLDOVER and raises EV199. -/
  | timeSourceTimeout
  /-- `TIMEBASE_WRAP` (R418): The 64-bit Timebase wraps to 0 and sets WRAPPED. -/
  | timebaseWrap
  /-- `TIME_NOW_READ` (R418): A read of TIME_NOW_LO latches the upper half into TIME_NOW_HI. -/
  | timeNowRead
  /-- `WEAVE_START` (R498): WEAVE_CFG_CTL.START ends loading, resets keepers and flip-flops, releases pins and raises EV209. -/
  | weaveStart
  /-- `CFG_STAT_READ` (R511): A read of WEAVE_CFG_STAT returns DISCARD and clears it. -/
  | cfgStatRead
  /-- `SYSTEM_MAP_CHECK` (R519): At start the manager checks the system map and replaces an invalid map, raising EV230. -/
  | systemMapCheck
  /-- `WORKER_BOOT_TIMEOUT` (R521): A worker whose upstream link and placement are not ready within 1 s takes the boot-failure path. -/
  | workerBootTimeout
  /-- `DEBUG_RESET` (R556): DBG_RUNCTL.RESET runs the capsule with CAUSE 0x4 and resets. -/
  | debugReset
  /-- `TRACE_DATAGRAM_TIMEOUT` (R555): The Ethernet trace sink sends a datagram at 64 packets, or 1 ms after its first packet. -/
  | traceDatagramTimeout
  /-- `WDT_WARN` (R546): LEFT first falling to WARN after a reload raises EV11. -/
  | wdtWarn
  /-- `WDT_EXPIRY` (R546): LEFT reaching 0 runs the capsule with CAUSE 0x2 and resets, setting WDRESET. -/
  | wdtExpiry
  /-- `LIFE_FLUSH_PERIODIC` (R564): Every LIFE_FLUSH.S seconds, dirty lifetime grains are written to the Silo. -/
  | lifeFlushPeriodic
  /-- `LIFE_FLUSH_NOW` (R564): LIFE_FLUSH.NOW, or 0x5E00:02, flushes dirty grains at once. -/
  | lifeFlushNow
  /-- `LIFE_SNAP_TAKE` (R567): LIFE_SNAP.TAKE, or 0x5E00:01, starts copying the shadow into the snapshot buffer. -/
  | lifeSnapTake
  /-- `SNAPSHOT_DONE` (R567): The snapshot copy completes, setting SEQ and TAI. -/
  | snapshotDone
  /-- `LIFE_LOAD` (R565): At start, the lifetime shadow is loaded and a start-log entry is written. -/
  | lifeLoad
  deriving DecidableEq, Repr

end Sys2Proof
end

