-- ==== Sys2Proof/Decode.lean ====
section
/-!
DEFINITION. The commands that words of the opcode table spell. The table gives no row any bits: each command comes from a pin, a link, a
bus access or an event inside the part, so no word spells a command.
-/
namespace Sys2Proof

/-- The command of a word of the table: none, since no row has bits. -/
def decodeTableWord (_nbits _w : Nat) : Option Instr := none

end Sys2Proof
end

