-- ==== Sys2Proof/Config.lean ====
section
/-!
DEFINITION. What an implementation fixes and the free values: opaque constants, of which Lean can prove no value. A
statement that mentions one holds for every value of it.
-/
namespace Sys2Proof.Config

/-- A fresh free value of 64 bits, by the number of the draw (Chip.fresh). -/
opaque freeWord : Nat → DWord
/-- A fresh free byte, by the number of the draw. -/
opaque freeByte : Nat → Byte

/-- The bits the neighbour device presents at a live LINK edge (R53): the draw's number and the receiving tile. -/
opaque linkBits : Nat → Nat → Plane


/-! ### The algorithms of R333, which the spec takes from outside: the standards give them, the model leaves them open -/

/-- SHA-512 of bytes (FIPS 180-4); byte i of the digest is bits [8i+7:8i]. -/
opaque sha512 : List Byte → BitVec 512
/-- SHA-384 of bytes. -/
opaque sha384 : List Byte → BitVec 384
/-- SHA-256 of bytes: the Seal Unit offers it (R333), and no layout of the spec takes it. -/
opaque sha256 : List Byte → BitVec 256
/-- The bytes of the Seal Unit's boot ROM, 131,072 of them, which no rule publishes: what it does is the boot chain of R344. -/
opaque bootRom : Nat → Byte
/-- HMAC-SHA-512 under a key (FIPS 198-1). -/
opaque hmac512 : List Byte → List Byte → BitVec 512
/-- The RSASSA-PSS signature by the private half of a modulus, of a message with a salt (R333). -/
opaque pssSign : List Byte → List Byte → List Byte → BitVec 4096
/-- Does a PSS signature verify under a modulus? The arguments are the modulus, the message, the signature. -/
opaque pssVerify : List Byte → List Byte → List Byte → Bool
/-- Byte i of the AES-256-GCM key stream of a key and an IV. -/
opaque gcmStream : List Byte → List Byte → Nat → Byte
/-- The GCM tag of a key, an IV, additional data and ciphertext. -/
opaque gcmTag : List Byte → List Byte → List Byte → List Byte → BitVec 128
/-- The IV of a write of a private region record (R333), by the record and the number of its writes. -/
opaque recordIv : Nat → Nat → BitVec 96
/-- The 4 KiB block of the private region in which a record lies (R367, R370), whose layout no rule gives. -/
opaque recordBlock : Nat → BitVec 6
/-- The public key (R335's 516 bytes) that an X.509 certificate in DER holds, none where it is not one (R354). -/
opaque certKey : List Byte → Option (List Byte)

/-- The slice data that a CABAC lane makes (R288, R293), its bits in order: SliceQpY, initType and the tokens of the slice's CTUs. -/
opaque sliceData : Nat → Nat → List (List Nat) → List Bool
/-- The entropy-coded bytes of a JPEG scan (R289): the picture's prefix, which holds the tables that firmware supplies, the scan's
header bytes and the tokens in order. -/
opaque scanData : List Byte → List Byte → List (List Nat) → List Byte

/-- What a node of the Weave reads that the fabric's rules leave open: a combinational loop (R494), or the carry out of a
cell whose CARRY_EN is 0 (R490); by the draw's number and the node. -/
opaque weaveFree : Nat → Nat → Bool

/-! ### Values the spec names and does not give -/

/-- How many CAN frames the Object Dictionary Engine's buffer for the node holds (R444). -/
opaque nodeBuffer : Nat

/-- The sample point of an 8 Mbit/s data phase of 10 quanta, which R442 does not give (R442, R455): TSEG1 from 1 to 8. -/
opaque dataSample : Fin 8

/-- Does the board supply a Weave bank, B where the argument is true, with 3.3 V (R503)? (DESIGN CHOICE: log 158) -/
opaque bankHigh : Bool → Bool
/-- The 64 bytes of a submission queue entry as NVMe 2.0 codes it (R396), which the spec takes from outside: the command's number in
R396's table, FUA, the data's address, the first LBA and the LBAs. -/
opaque nvmeEntry : Nat → Bool → Nat → Nat → Nat → BitVec 512
/-- The data bytes of the frame that carries a USDO response as CiA 1301 codes it (R435): client, abort code or 0, data. -/
opaque usdoFrame : Nat → Nat → List Byte → List Byte
/-- The MAC address of Ethernet port m, which the spec gives nowhere. -/
opaque macAddr : Nat → BitVec 48
/-- The MAC address at which port m reaches an IPv4 address that trace goes to (R555), which the spec gives nowhere. -/
opaque nextHop : Nat → BitVec 32 → BitVec 48
/-- Orwaor's PCI Vendor ID (R406, R423). -/
opaque vendorId : BitVec 16
/-- The silicon revision and the firmware version of objects 0x1009, 0x100A and 0x1018:03 (R446). -/
opaque hardwareVersion : List Byte
/-- The software version (R446). -/
opaque softwareVersion : List Byte
/-- The silicon revision as a number (R446). -/
opaque siliconRevision : Word

end Sys2Proof.Config
end

