-- ==== Sys2Proof/Machine/Bits.lean ====
section
/-!
DEFINITION. Bit fields, signed readings of bits, byte order and the small integer helpers that the rules are written
with (R6, R8: registers are little-endian, fields are named [msb:lsb]).
-/
namespace Sys2Proof.Machine

/-- Bits [hi:lo] of a natural number. -/
def natBits (x hi lo : Nat) : Nat := (x >>> lo) % 2 ^ (hi + 1 - lo)

/-- `x` with bits [hi:lo] replaced by the low bits of `v`. -/
def natSetBits (x hi lo v : Nat) : Nat :=
  x - (natBits x hi lo) * 2 ^ lo + (v % 2 ^ (hi + 1 - lo)) * 2 ^ lo

/-- Field [hi:lo] of a word, as a number. -/
def fld (w : Word) (hi lo : Nat) : Nat := natBits w.toNat hi lo

/-- Bit `i` of a word. -/
def bitOf (w : Word) (i : Nat) : Bool := w.toNat.testBit i

/-- A word with field [hi:lo] set. -/
def setFld (w : Word) (hi lo v : Nat) : Word := BitVec.ofNat 32 (natSetBits w.toNat hi lo v)

/-- A word with bit `i` set to `b`. -/
def setBit (w : Word) (i : Nat) (b : Bool) : Word := setFld w i i b.toNat

/-- The signed value of the low `w` bits of `x` in two's complement (R94). -/
def toSigned (w x : Nat) : Int :=
  let y := x % 2 ^ w
  if 2 ^ (w - 1) ≤ y ∧ 0 < w then (y : Int) - (2 : Int) ^ w else y

/-- The low `w` bits of an integer, as a number. -/
def wrapInt (w : Nat) (x : Int) : Nat := (x % ((2 : Int) ^ w)).toNat

/-- A count that sticks at `limit`. -/
def stickAt (limit x : Nat) : Nat := if limit < x then limit else x

/-- The bytes of a number, least significant first. -/
def leBytes : Nat → Nat → List Byte
  | 0, _ => []
  | n + 1, x => BitVec.ofNat 8 x :: leBytes n (x / 256)

/-- The number that bytes spell, least significant first. -/
def leNat : List Byte → Nat
  | [] => 0
  | b :: t => b.toNat + 256 * leNat t

/-- The number that bytes spell, most significant first. -/
def beNat (bs : List Byte) : Nat := leNat bs.reverse

/-- The bytes of a number, most significant first. -/
def beBytes (n x : Nat) : List Byte := (leBytes n x).reverse

/-- The integer square root of a number below 4 ^ fuel (floor), found bit by bit from the top (R85). -/
def isqrtAux : Nat → Nat → Nat → Nat
  | 0, _, r => r
  | i + 1, x, r => isqrtAux i x (if (r + 2 ^ i) * (r + 2 ^ i) ≤ x then r + 2 ^ i else r)

/-- floor of the square root. -/
def isqrt (x : Nat) : Nat := isqrtAux (x.log2 / 2 + 1) x 0

/-- The number of ones among the low `w` bits. -/
def popCount : Nat → Nat → Nat
  | 0, _ => 0
  | w + 1, x => popCount w x + (x.testBit w).toNat

/-- The number of leading zeros of a `w`-bit number. -/
def leadingZeros : Nat → Nat → Nat
  | 0, _ => 0
  | w + 1, x => if x.testBit w then 0 else leadingZeros w x + 1

/-- Rotate a `w`-bit number right by `k`. -/
def rotr (w x k : Nat) : Nat :=
  let y := x % 2 ^ w
  let k := k % w
  (y >>> k) + (y % 2 ^ k) * 2 ^ (w - k)

/-- The bits `f 0 … f (n-1)` as a number. -/
def bitsOfFn (f : Nat → Bool) : Nat → Nat
  | 0 => 0
  | n + 1 => bitsOfFn f n + (if f n then 2 ^ n else 0)

/-- The positions of the ones among the low `n` bits, rising. -/
def onesBelow (n x : Nat) : List Nat := (List.range n).filter (fun i => x.testBit i)

/-- The list with its element at `i` replaced, unchanged past its end. -/
def listSet {α : Type} : List α → Nat → α → List α
  | [], _, _ => []
  | _ :: t, 0, v => v :: t
  | x :: t, i + 1, v => x :: listSet t i v

/-- The element at `i`, or `d` past the end. -/
def listGet {α : Type} (d : α) : List α → Nat → α
  | [], _ => d
  | x :: _, 0 => x
  | _ :: t, i + 1 => listGet d t i

/-- A list cut or filled with `d` to length `n`. -/
def listFit {α : Type} (d : α) : Nat → List α → List α
  | 0, _ => []
  | n + 1, [] => d :: listFit d n []
  | n + 1, x :: t => x :: listFit d n t

end Sys2Proof.Machine
end

