-- ==== Sys2Proof/Machine/Map.lean ====
section
/-!
DEFINITION. Sparse data by key: a list of (key, value) pairs in one canonical form, keys strictly rising and no entry
equal to what an unlisted key reads as. Memory, the register file, plane memory and the tables of the blocks are kept so.
-/
namespace Sys2Proof.Machine

variable {α : Type}

/-- The value at `k`; an unlisted key reads as `d`. -/
def mapGet (d : α) : List (Nat × α) → Nat → α
  | [], _ => d
  | (k', v) :: t, k => if k' = k then v else mapGet d t k

/-- Insert `(k, v)` before the first greater key. -/
def mapInsert (k : Nat) (v : α) : List (Nat × α) → List (Nat × α)
  | [] => [(k, v)]
  | (k', v') :: t => if k < k' then (k, v) :: (k', v') :: t else (k', v') :: mapInsert k v t

/-- Remove every entry at `k`. -/
def mapErase (k : Nat) : List (Nat × α) → List (Nat × α)
  | [] => []
  | (k', v') :: t => if k' = k then mapErase k t else (k', v') :: mapErase k t

/-- Write `v` at `k`, keeping the canonical form for the default `d`. -/
def mapSet [DecidableEq α] (d : α) (m : List (Nat × α)) (k : Nat) (v : α) : List (Nat × α) :=
  if v = d then mapErase k m else mapInsert k v (mapErase k m)

/-- Every key of `m` lies above `k`. -/
def mapAbove (k : Nat) : List (Nat × α) → Bool
  | [] => true
  | (k', _) :: t => decide (k < k') && mapAbove k t

/-- The canonical form: keys strictly rising, no entry equal to the default. -/
def mapWf [DecidableEq α] (d : α) : List (Nat × α) → Bool
  | [] => true
  | (k, v) :: t => decide (v ≠ d) && mapAbove k t && mapWf d t

end Sys2Proof.Machine
end

