-- ==== Sys2Proof/Machine/State.lean ====
section
/-!
DEFINITION. The state of the block, as plain data: every register, memory, queue, counter and mode the spec gives Salun,
and the queue of commands that wait. One structure per chapter of the spec, one field of Chip per structure.
-/
namespace Sys2Proof.Machine

/-! ### Shared by every chapter -/

/-- The response of the last access a command made (R260): STATUS, CAUSE, read data, poison (R266). -/
structure Resp where
  status : Nat := 0
  cause  : Nat := 0
  data   : Nat := 0
  poison : Bool := false
  deriving DecidableEq, Repr

/-! ### Camera capture and the packer (chapter 11) -/

/-- A frame that holds a capture buffer slot (R17, R18, R279 to R287). -/
structure CapFrame where
  stream   : Nat
  frame    : Nat                        -- FRAME (R286)
  slot     : Nat
  cfg      : List Nat                   -- the eight stream registers as sampled at the frame start (R279)
  startTai : Nat
  endTai   : Nat := 0
  lines    : Nat := 0                   -- lines that have arrived (CAP_SSTAT.LINE)
  buf      : List (Nat × List Nat) := []    -- lines held in the port: line number, pixels (R284)
  written  : Nat := 0                   -- groups of 8 lines written to the raw pages
  band     : Nat := 0                   -- bands whose contexts exist
  bandTai  : List Nat := []             -- TAI at each band's last line (R167)
  ended    : Bool := false
  trunc    : Bool := false              -- FFLAGS bits of R304
  ovf      : Bool := false
  length   : Bool := false
  flags    : Nat := 0                   -- the FLAGS conditions that held while it arrived (R317)
  ids      : List (Nat × Nat) := []     -- (HASH, PIPE) capture IDs of the tiles in order of R303, as reserved (R166)
  told     : Bool := false              -- the Seal Unit has read the frame's digests (R305)
  audited  : Bool := false              -- the Seal Unit has finished with the frame's raw data (R17)
  deriving DecidableEq, Repr

/-- The Granary's report of a capture context that has reached DONE or FAULTED (R167). -/
structure CapReport where
  ctx    : Nat
  state  : Nat
  stream : Nat
  frame  : Nat
  cx     : Nat
  cy     : Nat
  isPipe : Bool
  user0  : Nat
  passed : Bool := false                -- a PIPE context's report has been passed to the packer (R290)
  deriving DecidableEq, Repr

/-- What a capture port holds for one of its streams. -/
structure CapStream where
  started : Nat := 0                    -- frames started since the stream was enabled (R286)
  next    : Nat := 0                    -- the slot that the next frame start tries (R283)
  deriving DecidableEq, Repr

/-- The capture ports, beside their registers. -/
structure Capture where
  streams : List (Nat × CapStream) := []
  frames  : List CapFrame := []         -- the frames that hold slots, oldest first
  deriving DecidableEq, Repr

/-- A syntax-element buffer that has been passed to the packer (R290). -/
structure Seb where
  cx   : Nat
  cy   : Nat
  addr : Nat
  deriving DecidableEq, Repr

/-- How far a slice has come (R294, R295). -/
inductive SliceState where
  | waiting | coding (lane : Nat) | done
  deriving DecidableEq, Repr

/-- A slice of a picture (R293). -/
structure Slice where
  hdrAddr : Nat
  hdrBits : Nat
  qp      : Nat
  initTyp : Nat
  row     : Nat
  state   : SliceState := .waiting
  bytes   : List Byte := []             -- its coded bytes, in bale staging until they pass the port (R295)
  bins    : Nat := 0
  passed  : Bool := false
  deriving DecidableEq, Repr

/-- A picture that the packer knows (R290 to R297): its command, when that has come, its SEBs and its slices. -/
structure Picture where
  stream    : Nat
  frame     : Nat
  w64       : Nat                       -- its capture tiles (R280)
  h64       : Nat
  hasCmd    : Bool := false
  irap      : Bool := false
  jpeg      : Bool := false
  pre       : List Byte := []           -- the leading NAL units that the command names, as read
  prePassed : Bool := false
  slices    : List Slice := []
  sebs      : List Seb := []
  reports   : List CapReport := []      -- reports that wait for the picture's command, oldest first (R293)
  dropped   : Bool := false
  seen      : Nat := 0                  -- PIPE contexts of it that have been reported
  bytes     : Nat := 0                  -- bytes handed to the port
  posted    : Bool := false             -- its statistics entry has been posted or lost
  done      : Bool := false             -- its last byte has passed, or it was dropped: PICTURE_DONE is due
  order     : Nat := 0                  -- the order of the picture commands (R294)
  deriving DecidableEq, Repr

/-- Bytes on their way into the bitstream port (R295): a prefix or one NAL unit. -/
structure PortChunk where
  stream : Nat
  frame  : Nat
  jpeg   : Bool
  irap   : Bool
  first  : Bool                         -- the picture's first byte
  last   : Bool                         -- the picture's last byte
  bytes  : List Byte
  deriving DecidableEq, Repr

/-- The Bitstream Packer, beside its registers and rings. -/
structure Packer where
  pics     : List Picture := []         -- oldest first
  dropping : List Nat := []             -- streams whose pictures are dropped until an IRAP (R292)
  cmds     : Nat := 0                   -- picture commands taken
  port     : List PortChunk := []       -- oldest first (R295)
  deriving DecidableEq, Repr

/-! ### The PE array (chapters 02 to 05) -/

/-- One entry of a tile's frame table (R44): the page's V bit, whether it is resident, and its frame. -/
structure FrameEntry where
  valid    : Bool := false
  resident : Bool := false
  frame    : Nat := 0
  deriving DecidableEq, Repr

/-- What a page frame holds (R174): a page of a context, whether it holds writes not yet written back, and when the
Granary last saw it used (for R175's least recently used order). -/
structure FrameUse where
  ctx   : Nat
  page  : Nat
  dirty : Bool := false
  used  : Nat := 0
  deriving DecidableEq, Repr

/-- One tile: the PE registers as bit planes (R38, R65), the LFSR slices as 32 bit planes, LSB first (R48), the plane
memory (R42), its frame table (R44), the page frames in use (R174) and the check bits of its rows (R46). -/
structure Tile where
  C      : Plane := 0
  T      : Plane := 0
  M      : Plane := 0
  S      : Plane := 0
  NX     : Plane := 0
  lfsr   : List (Nat × Plane) := []
  planes : List (Nat × Plane) := []
  ftab   : List (Nat × FrameEntry) := []
  frames : List (Nat × FrameUse) := []
  ecc    : List (Nat × Ecc) := []       -- key: physical plane × 64 + skein
  deriving DecidableEq, Repr

/-- The routine the sequencer is executing, with its micro-registers (R113). -/
structure Routine where
  insn    : DWord
  upc     : Nat
  isYield : Bool                        -- the entry's YIELD attribute (R118)
  loaded  : Bool := true                -- the entry's LOADED bit (R117)
  started : Bool := false               -- a microword of it has executed
  declared : Bool := false              -- the PAGE DECLARE of its vendor routine has executed (R587)
  waiting : Bool := false               -- a WAIT microword holds it (R132)
  o       : List Nat                    -- O0 to O3, 12 bits each
  k       : List Nat                    -- K0 to K3, 10 bits each
  stack   : List Nat := []              -- the micro-stack, newest first (R129)
  touches : Nat := 0                    -- TOUCH microwords of a vendor routine that have executed (R131)
  pages   : List Nat := []              -- the virtual pages that the macro-instruction has touched (R175)
  deriving DecidableEq, Repr

/-- The Array Sequencer (R111 to R144). ASQ_QSTAT.STATE, VREADY, LOADING and ABANDONED and the dispatch entries are in
the register file; COUNT, BUSY and IDLE are computed from `queue` and `running`. -/
structure Seq where
  queue     : List DWord := []          -- the Array Issue Queue, head first (R111)
  running   : Option Routine := none
  ustore    : List (Nat × Word) := []   -- the micro-store (R133)
  gor       : Bool := false             -- the GOR flag (R57)
  tor       : TileBits := 0             -- the tile-OR vector of the last result (R59)
  torShadow : TileBits := 0             -- the shadow that ASQ_TOR1 to ASQ_TOR7 read (R59)
  gorFlight : List (Bool × TileBits) := []   -- GOR results on their way, oldest first (R57)
  edges     : Nat := 0                  -- the edge modes in force, laid out as ASQ_EDGE[11:0] (R55)
  debugHalt : Bool := false             -- a debug halt is in force (R115, R545)
  powerStop : Bool := false             -- a power-fail stop is in force (R115, R378)
  gangQueue : List GangMsg := []        -- what this device has sent to the others of its gang, oldest first (R527, R528)
  deriving DecidableEq, Repr

/-! ### The Granary (chapter 06) -/

/-- A context as the Granary records it (R150): its state, its copy of the 16 words of the descriptor (R147) and its
copy of the page-map block (R152). -/
structure Ctx where
  state : Nat := 0                      -- 0 FREE … 6 FAULTED (R147)
  desc  : List Nat := []
  pmap  : List Nat := []
  late  : Nat := 0                      -- a cause that waits for the round's end while RUNNING (R150); 0 none
  last  : Option Nat := none            -- the last kernel it ran, reported in its completion entry (R161)
  deriving DecidableEq, Repr

/-- A selected round: staged or running (R168). -/
structure Round where
  kernel  : Nat
  cls     : Nat
  isPart  : Bool                        -- started below MIN_FILL
  bound   : List (Nat × Nat)            -- (tile, context), in order of placement
  seqNo   : Nat := 0                    -- ROUND_SEQ once its NOTICE is posted
  decl    : List Nat := []              -- the pages of DECL in the kernel entry as read at selection (R163)
  restart : Bool := false               -- RESTART in it
  deriving DecidableEq, Repr

/-- Why a page moves (R177, R179, R175). -/
inductive MoveWhy where
  | staging | declared | fault
  deriving DecidableEq, Repr

/-- A page-in queued or under way on a tile's channel (R176): `frame` is the frame it fills. -/
structure PageMove where
  tile  : Nat
  ctx   : Nat
  page  : Nat
  frame : Nat
  why   : MoveWhy
  deriving DecidableEq, Repr

/-- An entry that waits for room in a completion queue: its words without PHASE and TIME (R161). -/
structure RingEntry where
  ctx : Option Nat := none              -- the context whose completion it is; none for a command status
  w0  : Nat
  w1  : Nat
  w2  : Nat
  w3  : Nat := 0
  deriving DecidableEq, Repr

/-- The array held for pages (R177, R179): since when, whether it is a fault stall, and the (tile, page) it waits for. -/
structure Stall where
  since   : Nat
  isFault : Bool
  waits   : List (Nat × Nat)
  deriving DecidableEq, Repr

/-- How far a preemption has come (R185). -/
inductive Preempt where
  | idle                                -- none in progress
  | requested                           -- the urgent request is with the sequencer (steps 1 to 3)
  | posting                             -- the PREEMPT entry waits for room in the round queue
  | posted (at_ : Nat) (late : Bool)    -- posted at that instant; EV61 raised or not
  | acked                               -- acknowledged; the urgent round is being staged (step 7)
  deriving DecidableEq, Repr

/-- The Granary (R145 to R191), beside its registers and the kernel table, which are in the register file. -/
structure Granary where
  initLeft  : Bool := false             -- an ENABLE is building the table (R146)
  ctxs      : List (Nat × Ctx) := []    -- key: CTX_ID; an unlisted context is FREE
  pool      : List (Nat × List Nat) := []   -- key: loft; pages taken out of that loft's pool (R146, R154)
  reserved  : List (Nat × List Nat) := []   -- capture IDs reserved for frames in progress, each with its pages (R166)
  phase     : List (Nat × Bool) := []   -- key: ring register base; PHASE of the next pass, 1 when unlisted (R157)
  cqWait    : List (Nat × List RingEntry) := []   -- key: CQ; entries waiting for room, oldest first (R161)
  noticeDue : Bool := false             -- a NOTICE waits for room in the round queue (R162)
  sqNext    : Nat := 0                  -- the SQ at which the rotation of R160 stands
  running   : Option Round := none
  staged    : Option Round := none
  nextSeq   : Nat := 0                  -- ROUND_SEQ of the next NOTICE; 0 for the first round (DESIGN CHOICE: log 131)
  causes    : List (Nat × List Nat) := []   -- key: tile; causes of R149 met in the running round
  moves     : List PageMove := []       -- page-ins in order (R176)
  stall     : Option Stall := none      -- the array held for pages (R177, R179)
  preempt   : Preempt := .idle
  gangNext  : Option (Nat × Nat) := none    -- on a gang worker: class and kernel of the manager's next round (R528)
  gangStart : Bool := false             -- on a gang worker: the manager's round has started and this device's has not (R528)
  acked     : Bool := false             -- ACK_PREEMPT has come and no NOTICE since (R186)
  useTick   : Nat := 0                  -- stamps FrameUse.used
  capEnded  : List CapReport := []      -- capture contexts reported DONE or FAULTED to their port (R167)
  deriving DecidableEq, Repr
/-! ### Sheaves and stooks (chapter 12) -/

/-- A frame whose digests the Seal Unit holds (R303 to R309). -/
structure SealFrame where
  stream   : Nat
  frame    : Nat
  cap      : CapFrame                   -- what the port knows of it, for its descriptor (R304)
  leaves   : List (BitVec 512)          -- its leaf digests in the order of R303
  perTile  : Nat                        -- L (R281)
  selfT    : List Nat := []             -- self-hashed tiles (R306), numbered in the order of R303
  audit    : List Nat := []             -- leaves chosen and not yet audited (R307)
  deriving DecidableEq, Repr

/-- A frame of a sheaf (R312, R313). -/
structure SheafFrame where
  frame   : Nat
  dropped : Bool := false               -- dropped at its frame start (R18)
  flags   : Nat := 0                    -- the FLAGS bits that it brings to a sheaf (R317)
  startTai : Nat := 0
  endTai  : Nat := 0
  fd      : List Byte := []             -- its frame descriptor once its root is done (R304)
  tree    : List Byte := []             -- its TREE_ROOT
  root    : Option (BitVec 512) := none -- its FRAME_ROOT
  passed  : Bool := false               -- its picture has passed the bitstream port
  lost    : Bool := false               -- its picture was dropped by the packer (R292)
  deriving DecidableEq, Repr

/-- An open sheaf (R312 to R318). -/
structure Sheaf where
  stream   : Nat
  still    : Bool := false
  len      : Nat                        -- LEN in ms as it was when the sheaf opened (R312)
  startTai : Nat
  frames   : List SheafFrame := []
  flags    : Nat := 0                   -- FLAGS (R317)
  audited  : Nat := 0
  mismatch : Nat := 0
  seqNo    : Option Nat := none         -- a still's SEQ, taken when its last byte passed (R315)
  dropCode : Nat := 0                   -- pictures that the packer dropped and whose frame is not in the sheaf
  data     : List Byte := []            -- the coded bytes taken (R314)
  pics     : Nat := 0                   -- pictures that have begun to pass
  status   : Nat := 0                   -- R318
  complete : Option Nat := none         -- when its membership became complete
  deriving DecidableEq, Repr

/-- A record that the Seal Unit has filled: what its journal entry needs (R371). -/
structure StookWork where
  kind    : Nat                         -- 0 periodic, 1 recovery, 2 system
  record  : List Byte                   -- bytes 0x000 to 0x1FF
  counter : Nat
  lastSeq : List (Nat × Nat)            -- NEXT of each stream or device after it: one above LAST_SEQ, 0 for none
  deriving DecidableEq, Repr

/-- The evidence flow inside the Seal Unit. -/
structure Evidence where
  frames   : List SealFrame := []
  sheaves  : List Sheaf := []           -- open sheaves, oldest first
  stray    : List PortChunk := []       -- bytes that wait for the stream's next sheaf (R314)
  early    : List PortChunk := []       -- bytes of pictures whose frame has not ended
  waitDrop : List (Nat × Nat) := []     -- (stream, frame) dropped at the frame start while no sheaf was open (R312)
  waitLost : List (Nat × Nat) := []     -- (stream, frame) of pictures that the packer dropped before their frame joined
  roots    : List (Nat × Nat × SheafFrame) := []   -- stream, frame: the frames whose root is done
  staged   : List (Nat × Nat × Bool × List Byte × List Byte) := []
                                        -- stream, SEQ, still, frame index, coded bytes of closed sheaves, in staging
  nextSeq  : List (Nat × Nat) := []     -- SEQ of each stream's next sheaf (R320)
  prevHash : List (Nat × List Byte) := []   -- SHA-512 of each stream's last record (R316)
  covered  : List (Nat × Nat) := []     -- one above LAST_SEQ of the last stook of KIND 0 or 1 (R323, R324)
  sysCov   : List (Nat × Nat) := []     -- one above the COUNTER last covered for each device (R524)
  stookCtr : Nat := 0                   -- COUNTER of the last journaled stook
  stookHash : List Byte := List.replicate 64 0   -- its SHA-512; zeros before the first
  dueAt    : Nat := 0                   -- the boundary after which the next periodic stook falls due (R321)
  due      : Bool := false              -- a stook is due and waits for the engine
  dueNext  : List (Nat × Nat) := []     -- one above the SEQ that each stream had journaled when it fell due
  sysDue   : Bool := false              -- a system stook may be signed (R523)
  recovered : Bool := false             -- the recovery stook of this start is journaled (R326)
  timeStep : Bool := false              -- a Timebase step made it fall due
  sysStep  : Bool := false              -- a Timebase step made the system stook fall due (R323, R524)
  signing  : Option StookWork := none   -- the stook being signed (R322)
  sheafLog : List (Nat × Nat × List Byte) := []   -- journaled records no stook covers: stream, SEQ, record
  released : List (Nat × List Byte) := []   -- records released (R16): JSEQ and record, oldest first
  deriving DecidableEq, Repr

/-! ### The Seal Unit (chapter 13) -/

/-- What a mailbox command still has to do before it completes. -/
inductive SealLater where
  | nothing
  | start                               -- all of it: it waits for the RSA engine (R322) or for the flash (R347)
  | payload (addr : Nat) (header : List Byte)      -- check 6 of R341 and the load
  | manufacture                         -- steps 3 to 5 of R353
  | provision (fleet fas : List Byte)   -- steps 2 to 8 of R356
  deriving DecidableEq, Repr

/-- A mailbox command under way (R349): its arguments as taken, and its answer once its work is done. -/
structure Mailbox where
  op     : Nat
  tag    : Nat
  args   : List Nat
  later  : SealLater := .nothing
  answer : Option (Nat × List Nat) := none   -- STATUS, RSP0 to RSP7
  needs  : Option Nat := none           -- the session that must still be there at its end (R359)
  flashAt : Option Nat := none          -- since when the flash controller holds its reads (R347)
  deriving DecidableEq, Repr

/-- A session (R358, R359). -/
structure Session where
  isOpen   : Bool := false
  nc       : List Byte
  ns       : List Byte
  key      : List Byte
  seqLast  : Option Nat := none         -- the last SEQ accepted from the client
  own      : Nat := 1                   -- the Seal Unit's own next SEQ
  since    : Nat                        -- when it was created, or last passed CHECK_MAC
  deriving DecidableEq, Repr

/-- An image loaded since reset (R343, R357). -/
structure LoadedImage where
  svn    : Nat
  header : List Byte                    -- bytes 0x000 to 0x3FF
  deriving DecidableEq, Repr

/-- The vehicle snapshot (R316, R350). -/
structure VehSnapshot where
  speed : Nat
  doors : Nat
  lat   : Nat
  lon   : Nat
  tai   : Nat
  deriving DecidableEq, Repr

/-- One copy of a record of the private region: ciphertext and GCM tag (R333); `serial` numbers the record's writes. -/
structure PrivCopy where
  serial : Nat
  body   : List Byte
  tag    : BitVec 128
  deriving DecidableEq, Repr

/-- A record of the Seal Unit's private region of the Silo (R370): its copies by their place, and how often it was written. -/
structure PrivRecord where
  copies : List (Nat × PrivCopy) := []
  writes : Nat := 0
  deriving DecidableEq, Repr

/-- The private region's contents as a start reads them into private SRAM (R336, R339, R344, R354 to R356). -/
structure PrivateRegion where
  ctrs    : List Nat := [0, 0, 0, 0, 0, 0, 0, 0]
  dik     : Option (List Byte) := none  -- the modulus of the DIK pair; the private half never leaves
  dek     : Option (List Byte) := none
  fas     : Option (List Byte) := none
  dekCert : Option (List Byte) := none
  dikCert : Option (List Byte) := none
  deriving DecidableEq, Repr

/-- A customer microcode load under way (R136): the sections to write and the verdict. -/
structure CustomerLoad where
  words   : List (Nat × Word)           -- micro-address, word
  entries : List (Nat × Word)           -- opcode, entry
  status  : Nat                         -- ASQ_LOAD_STAT.STATUS at the end
  verdict : Nat                         -- the mailbox STATUS
  image   : LoadedImage
  deriving DecidableEq, Repr

/-- The Seal Unit, beside its registers. Its private SRAM holds what these fields hold, and the boot ROM's bytes are Config.bootRom: no
path outside the boundary reaches either (R23). -/
structure Seal where
  otp      : List Host.Cell := []       -- the OTP, 2,048 bytes, blank 0 (R337)
  otpEcc   : List (Nat × Ecc) := []     -- key: OTP word; what its SECDED bits find there (R337); an unlisted word is good
  records  : List (Nat × PrivRecord) := []    -- the private region of the Silo; key: the record (R336, R339, R354, R355)
  regionKey : List Byte := []           -- the private region key, once derived (R336)
  priv     : PrivateRegion := {}
  boxA     : Option Mailbox := none
  boxB     : Option Mailbox := none
  sessions : List (Nat × Session) := [] -- key: session ID
  fails    : Nat := 0                   -- consecutive failed proofs
  lockedAt : Option Nat := none         -- when the lockout began
  loaded   : List (Nat × LoadedImage) := []   -- key: TYPE; oldest first
  load     : Option CustomerLoad := none
  bootDone : Bool := false
  selftest : Nat := 0                   -- R357 SELFTEST
  vehicle  : Option VehSnapshot := none
  released : Bool := false              -- the Distaff core has been released (R344)
  waitAt   : Option Nat := none         -- since when a worker waits for its place at step 4 of the boot chain (R521)
  cstore   : List (Nat × List Byte) := []     -- the Granary's and the packer's control stores, by TYPE 4 and 5
  deriving DecidableEq, Repr

/-! ### The flash controller (R346 to R348) -/

/-- The xSPI controller, beside its registers. -/
structure Xspi where
  running : Bool := false               -- a command-mode operation is on the bus
  waits   : List (Nat × Nat) := []      -- key: initiator; since when its read of the XIP window is held (R347)
  deriving DecidableEq, Repr

/-! ### The Silo, the capsule and the Transaction Unit (chapter 14) -/

/-- A journal entry that the ring keeps (R371 to R374). -/
structure JEntry where
  jseq    : Nat
  typ     : Nat
  pos     : Nat                         -- its header's grain
  grains  : Nat                         -- payload grains
  stream  : Nat
  key     : Nat
  tai     : Nat
  nextSeq : Nat
  payload : List Byte
  deriving DecidableEq, Repr

/-- The journal's control words, as one of their copies holds them (R370): what the entry written last left. -/
structure JControl where
  next : Nat                            -- the next JSEQ
  pos  : Nat                            -- the next grain
  deriving DecidableEq, Repr

/-- A journal write that waits (R372, R375). -/
structure JWrite where
  typ     : Nat
  stream  : Nat := 0
  key     : Nat := 0
  nextSeq : Nat := 0
  tai     : Option Nat := none          -- a CAPSULE entry's LOSS_TAI
  payload : List Byte
  deriving DecidableEq, Repr

/-- What the Storage Writer last reported (R401). -/
structure Progress where
  durable  : Option Nat := none         -- DURABLE_JSEQ; none before any record is durable
  nextBale : Nat := 0
  ringPos  : Nat := 0
  deriving DecidableEq, Repr

/-- The capsule (R377 to R380). -/
structure Capsule where
  cause   : Nat
  lossTai : Nat
  ended   : Bool := false
  deriving DecidableEq, Repr

/-- One transaction entry, its 32 bytes (R387). -/
abbrev TxEntry := List Byte

/-- The Silo controller and the Transaction Unit, beside the Silo's bytes (in `mem`) and the registers. -/
structure Silo where
  entries  : List JEntry := []          -- kept entries, oldest first
  jnext    : Nat := 0                   -- the next JSEQ
  pos      : Nat := 0                   -- the next grain to write
  control  : List (Nat × JControl) := []    -- key: copy 0 to 7 of the journal's control words (R370)
  waiting  : List JWrite := []          -- journal writes in order
  progress : Progress := {}             -- the latest report
  reported : Bool := false              -- a report has come since the last PROGRESS entry
  progAt   : Option Nat := none         -- when the last PROGRESS entry was written
  capsule  : Option Capsule := none     -- the capsule that runs or has run
  lossTai  : Nat := 0                   -- LOSS_TAI that the start found (R385)
  lossMode : Option Nat := none         -- MODE of the CAPSULE entry that the start found
  txseq    : Nat := 0                   -- TXSEQ of the last commit (R390)
  txCopy   : Nat := 0                   -- the copy of the log header that is written next (R370)
  txApply  : Option (List TxEntry) := none   -- the entries of the transaction being applied
  txOwner  : Option Nat := none         -- the session that opened the transaction (R440)
  deriving DecidableEq, Repr

/-! ### The Weave, the ADC and the serial masters (chapter 18) -/

/-- What an I2C master puts on its bus (R508): a START, a byte written, a byte read with its acknowledge, a STOP, nine clocks. -/
inductive I2cAct where
  | start | wrote (data : Nat) | read (ack : Bool) | stop | nineClocks
  deriving DecidableEq, Repr

/-- A word that an SPI master has sent (R509): chip select, mode, bits and word, most significant bit first. -/
structure SpiSent where
  cs   : Nat
  mode : Nat
  bits : Nat
  word : Nat
  deriving DecidableEq, Repr

/-- One I2C master's FIFOs (R508). -/
structure I2c where
  cmds : List Nat := []                 -- at most 32, head first: START, OP, DATA as written
  rx   : List Byte := []                -- at most 32
  sent : List I2cAct := []              -- what the master has put on its bus, oldest first
  deriving DecidableEq, Repr

/-- One SPI master's FIFOs (R509). -/
structure Spi where
  tx   : List Nat := []                 -- at most 16
  rx   : List Nat := []                 -- at most 16
  held : Option Nat := none             -- the chip select that is asserted between words
  sent : List SpiSent := []             -- the words sent, oldest first
  deriving DecidableEq, Repr

/-- The Weave (R489 to R513), beside its registers. A frame is a number of 2,560 bits. -/
structure Weave where
  frames  : List (Nat × Nat) := []      -- key: frame; an unlisted frame is 0 (R500)
  loading : List Nat := []              -- quadrants that are loading (R499)
  window  : List (Nat × Nat) := []      -- key: window word (R498)
  ffs     : List (Nat × Bool) := []     -- key: cell; flip-flops (R490)
  kept    : List (Nat × Nat) := []      -- key: pin; what HOLD 0b101 keeps: enable, level (2), pull (4) (R505)
  pads    : BitVec 64 := 0              -- levels that the board puts on the pads
  sync1   : BitVec 64 := 0              -- the two flip-flops of SYNC (R497)
  sync2   : BitVec 64 := 0
  ign     : Bool := false               -- the IGN_WAKE, accelerometer and PPS inputs (R491)
  accel   : Bool := false
  pps     : Bool := false
  ext1    : Nat := 0                    -- the two flip-flops that synchronise them: IGN_WAKE (1), accelerometer (2), PPS (4) (R491)
  ext2    : Nat := 0
  second  : Bool := false               -- the pulse at a whole TAI second (R491)
  trig    : Nat := 0                    -- the trigger lines as last seen (R506)
  user    : Nat := 0                    -- the event lines as last seen (R506)
  edges   : List (Nat × Bool) := []     -- incident triggers that have seen their edge, with its direction, for firmware (R452, R506)
  adcNext : Nat := 0                    -- the channel that the scan converts next (R507)
  scans   : Nat := 0                    -- scans completed since RUN
  i2c     : List (Nat × I2c) := []
  spi     : List (Nat × Spi) := []
  deriving DecidableEq, Repr

/-! ### Debug and the watchdog (chapter 20) -/

/-- One debug port (R533, R537, R538). LOCKED and FAILS are always-on. -/
structure DebugPort where
  level   : Nat := 0
  fails   : Nat := 0
  locked  : Bool := false
  result  : Nat := 0
  authctl : Word := 0                   -- LEN, METHOD, LEVEL of its DBG_AUTHCTL
  nonce   : List Byte := []             -- its DBG_NONCE; zeros before a CHALLENGE
  nonceAt : Option Nat := none          -- when a nonce that is still valid was drawn
  buf     : List (Nat × Byte) := []     -- its DBG_AUTHBUF, by offset
  verify  : Option (Nat × Nat) := none  -- a VERIFY in progress (BUSY): the RESULT to come and the level it grants
  deriving DecidableEq, Repr

/-- The DBG block, beside its registers (R533 to R551). -/
structure Debug where
  ports  : List (Nat × DebugPort) := [] -- key: 0 JTAG, 1 PCIe-A, 2 Ethernet
  slots  : List (List Byte) := []       -- the verifier's store: the debug slots (R540)
  pwd    : List Byte := []
  revoke : Nat := 0
  pmem   : List (Nat × Word) := []      -- the plane-memory buffer (R550)
  ir     : BitVec 4 := 1                -- the TAP's instruction register (R535)
  tdr    : Nat := 0                     -- what the next Capture-DR of DBGACC loads (R535)
  answer : List Byte := []              -- what 0x5F21 returns (R536)
  astep  : Bool := false                -- an array step runs (R545)
  deriving DecidableEq, Repr

/-- The watchdog, beside its registers (R546, R547): always-on. -/
structure Watchdog where
  expires : Option Nat := none          -- when LEFT reaches 0, while it counts
  held    : Option Nat := none          -- LEFT in nanoseconds while it does not count
  warned  : Bool := false               -- EV11 raised since the last reload
  deriving DecidableEq, Repr

/-! ### Storage, host links, network (chapter 15) -/

/-- An item of a bale (R329), with what R400 to R402 need of it. -/
structure Item where
  typ    : Nat                          -- R329 TYPE
  stream : Nat := 0
  part   : Nat := 0
  key    : Nat := 0
  data   : List Byte
  jseq   : Option Nat := none           -- a record's journal entry
  since  : Nat                          -- when it became available
  missed : Bool := false                -- counted in PCIB_LAGMISS (R402)
  deriving DecidableEq, Repr

/-- A bale that has been closed (R328, R400, R401). -/
structure Bale where
  seqNo   : Nat
  pos     : Nat                         -- its first unit
  units   : Nat
  items   : List Item
  bytes   : List Byte                   -- as written on the drive
  writes  : Nat                         -- its Writes that have not completed successfully
  fails   : Nat := 0                    -- times it has failed (R403)
  plain   : Bool := false               -- a Write of it was sent with FUA = 0 (R401)
  written : Bool := false               -- all its Writes have completed
  flushed : Bool := false               -- a Flush submitted since then is outstanding
  durable : Bool := false
  missed  : Bool := false
  deriving DecidableEq, Repr

/-- What a command for the drive is (R396). -/
inductive NvOp where
  | identify (cns : Nat) | getCache | setQueues (n : Nat) | createCq (q : Nat) | createSq (q : Nat)
  | write (bale : Nat) (fua : Bool) | flush | read | writeZeroes (bale : Nat) | deallocate
  deriving DecidableEq, Repr

/-- A command for the drive (R396): the queue that it was sent on, 0 the admin queue, and its LBAs. -/
structure NvCommand where
  op     : NvOp
  queue  : Nat := 0
  lba    : Nat := 0
  lbas   : Nat := 0
  sentAt : Nat := 0                     -- when it was submitted (R403)
  deriving DecidableEq, Repr

/-- The Storage Writer (R394 to R405), beside its registers. -/
structure Storage where
  drive    : DriveReport := {}          -- of the last start-up (R397)
  linkUp   : Bool := false
  opened   : List Item := []            -- items of the open bale
  queue    : List Item := []            -- items that wait for a bale
  bales    : List Bale := []            -- bales not yet in the durable prefix, in BALE_SEQ order
  nextPos  : Nat := 0                   -- where the next bale goes
  nextBale : Nat := 0                   -- its BALE_SEQ
  prefSeq  : Nat := 0                   -- the BALE_SEQ after the durable prefix
  prefPos  : Nat := 0                   -- the unit after it
  durJseq  : List Nat := []             -- JSEQ of records that lie in the prefix
  admin    : Bool := false              -- the admin queue exists (R397)
  queues   : Nat := 0                   -- I/O queue pairs created, each of 64 entries (R396, R397)
  turn     : Nat := 0                   -- the I/O queue that the next command goes to, round-robin (R400)
  cmds     : List NvCommand := []       -- commands submitted and not completed
  ready    : List NvCommand := []       -- commands that wait for space in their queue
  sent     : List NvCommand := []       -- every command submitted since the start, oldest first (R396)
  drainAt  : Nat := 0                   -- when DRAINING began (R405)
  ring     : Option (List Nat) := none  -- the ring registers at the last start (R398)
  deriving DecidableEq, Repr

/-- An MSI-X table entry and its pending bit (R406, R412). -/
structure MsixEntry where
  addr   : Nat := 0
  data   : Nat := 0
  masked : Bool := true
  pend   : Bool := false
  deriving DecidableEq, Repr

/-- The configuration space of PCIe-A, beside PCIA_ID and what never changes there (R406), as it stands after a reset and the host's
enumeration. -/
structure PciaConfig where
  d3hot      : Bool := false            -- the power state: D0, or D3hot
  aspmL1     : Bool := false            -- ASPM L1 enabled
  msixEnable : Bool := true             -- MSI-X Enable
  msixMask   : Bool := false            -- MSI-X Function Mask
  aerStatus  : Nat := 0                 -- AER Uncorrectable Error Status
  deriving DecidableEq, Repr

/-- PCIe-A, beside its registers (R406 to R412). -/
structure HostLink where
  linkUp  : Bool := false
  config  : PciaConfig := {}
  table   : List (Nat × MsixEntry) := []
  slots   : List (Nat × Byte) := []     -- the dictionary window, by BAR0 offset from 0x300_0000 (R411)
  pending : List Nat := []              -- slots whose request is unanswered
  answers : List (Nat × List Byte) := []    -- responses that the engine has still to write: slot, message
  memWr   : List (Nat × Nat) := []      -- MSI-X messages sent: address, data
  aer     : Nat := 0                    -- errors reported through AER (R410)
  answer  : Nat := 0                    -- the last completion: 0 Successful, 1 Unsupported Request, 2 Completer Abort
  deriving DecidableEq, Repr

/-- A datagram for the Object Dictionary Engine (R415 to R417). -/
structure OdDatagram where
  mac     : Nat
  src     : List Byte                   -- the client's MAC, address, port and VLAN tag, as the response needs them
  payload : List Byte
  deriving DecidableEq, Repr

/-- One Ethernet MAC, beside its registers and rings. -/
structure EthMac where
  linkUp : Bool := false
  odq    : List OdDatagram := []        -- at most 16 (R415)
  sent   : List (List Byte) := []       -- frames sent, oldest first
  answers : List OdDatagram := []       -- the engine's responses (R415): to whom, and the payload, oldest first
  pausedTo : Nat := 0                   -- until when a PAUSE frame stops transmission (R413)
  deriving DecidableEq, Repr

/-! ### Modes, power states and clocks (chapter 17) -/

/-- The power controller, beside its registers. Modes are coded as in R319; MODE, PHASE, RETURN are in SYS_MODE. -/
structure Power where
  started   : Bool := false             -- the internal reset has been released (R473)
  pwrEn     : Bool := true              -- the PWR_EN output (R575)
  vinLow    : Bool := false             -- VIN_SENSE is below its threshold (R376, R380)
  tileState : List (Nat × Nat) := []    -- key: tile; 0 T0 … 3 T3, T3 when unlisted (R475)
  idleSince : List (Nat × Nat) := []    -- key: tile; when it was last bound or staged (R476)
  stateSince : List (Nat × Nat) := []   -- key: tile; when it entered its present state (R476)
  unlocked  : List Nat := []            -- PLLs out of lock: 0 array, 1 core, 2 I/O (R479)
  stopped   : List Nat := []            -- PLLs that the power controller has stopped (R476): 0 array, 1 core
  refLost   : Bool := false             -- the 25 MHz reference is lost (R479)
  xtalLost  : Bool := false             -- the 32.768 kHz crystal is lost: always-on runs from the RC (R479)
  aspmL1    : Bool := false             -- the PCIe-B link is in L1 (R476)
  incEnd    : Nat := 0                  -- when the INCIDENT hold runs out (R469)
  goingDown : List (Domain × Nat) := [] -- domains that power down (R274), with the tile state to come
  dormant   : Bool := false             -- in DORMANT (R471)
  dormStep  : Nat := 0                  -- how far DORMANT entry has come (R471); 0 not begun
  wakeDue   : Bool := false             -- a wake source became active during DORMANT entry (R471)
  supplyAt  : Option Nat := none        -- when the last rail that was out came back, where one was (R573)
  estAt     : Nat := 0                  -- when the power was last estimated (R481)
  powers    : List Nat := []            -- the estimates of the last 10 ms in 0.1 W, newest first (R481)
  stepAt    : Nat := 0                  -- when the operating point last stepped (R481)
  throttled : Bool := false             -- the array has been throttled, or stopped, since it last ran unthrottled (R481)
  hot       : Bool := false             -- EV4 has been raised since then (R481)
  wdReset   : Bool := false             -- the reset that this start follows was the watchdog's (R486)
  warned    : Bool := false             -- EV3 raised and not yet re-armed (R481)
  deriving DecidableEq, Repr

/-! ### Time (R418 to R422) -/

/-- The Timebase, beside its registers. -/
structure TimeState where
  now  : DWord := 0                     -- TAI nanoseconds (R418)
  trim : Int := 0                       -- the frequency trim in ns per second (R420)
  frac : Int := 0                       -- the part of a nanosecond that the trim has gathered, in 10^-9 ns
  good : Nat := 0                       -- consecutive updates below LOCK_TH (R421)
  last : List (Nat × Nat) := []         -- key: source; when it last delivered an update, one above `ns`
  deriving DecidableEq, Repr

/-! ### The Object Dictionary Engine (chapter 16) -/

/-- A multi-segment write that waits for its last segment (R416, R432). The client is a session 0–15, a dictionary slot
16–23, or 32 and a CAN client's node-ID. -/
structure PendingWrite where
  client : Nat
  index  : Nat
  sub    : Nat
  data   : List Byte
  since  : Nat
  worker : Nat := 0                     -- the worker selected at the first segment (R456)
  deriving DecidableEq, Repr

/-- How a request of R416 came. -/
inductive OdVia where
  | udp (mac : Nat) (src : List Byte)   -- with what the response needs of the request's frame
  | slot (k : Nat)
  | tunnel (client : Nat)
  deriving DecidableEq, Repr

/-- An access that waits for the engine (R432). -/
inductive OdJob where
  | message (via : OdVia) (bytes : List Byte)
  | usdo (req : UsdoRequest)
  | rpdo (f : CanFrame)
  | write (session : Option Nat) (udp : Bool) (index sub : Nat) (data : List Byte)     -- a write complete in itself
  | read (index sub : Nat)              -- a read of the worker window (R456)
  | fromManager (isSealed : Bool) (index sub : Nat) (data : Option (List Byte))     -- on a worker: the manager's access (R456)
  deriving DecidableEq, Repr

/-- The Object Dictionary Engine, beside its registers. -/
structure Dictionary where
  objects  : List (Nat × List Byte) := []   -- key: index × 256 + sub-index; the value held (R431)
  emcyLast : Option Nat := none         -- when the last EMCY was sent (R437)
  nodeId   : Nat := 48                  -- the node-ID in force since the start (R435, R455)
  nodeCtl  : Nat := 0                   -- the node's controller since the start (R435)
  nodeTx   : List CanFrame := []        -- the engine's transmit queue on the node's controller (R444)
  nodeRx   : List CanFrame := []        -- node frames that the engine has not taken yet (R444)
  nmt      : Nat := 0                   -- 0 initialising, 4 stopped, 5 operational, 127 pre-operational (R436)
  beat     : Nat := 0                   -- when the last heartbeat was sent (R435)
  tpdoAt   : List (Nat × Nat) := []     -- key: TPDO; when it was last sent
  writes   : List PendingWrite := []    -- at most 16 (R432)
  jobs     : List OdJob := []           -- in order of arrival (R432)
  copies   : List (Nat × List Byte × List Byte) := []   -- key: session; its last request and the response to it (R417)
  tunnel   : List (Nat × List Byte) := []   -- key: CAN client; its response buffer (R439)
  usdo     : List (Nat × Nat × List Byte) := []   -- USDO responses sent: client, abort code or 0, data (R435)
  wlog     : List (Nat × Nat) := []     -- ODE_WLOG: index, sub-index; at most 64 (R464)
  restarts : List Nat := []             -- streams with a write of VC, FORMAT or ENABLE = 0 that firmware has yet to act on (R450)
  deriving DecidableEq, Repr

/-- The four CAN FD controllers, beside their registers and rings. -/
structure Can where
  sent  : List (Nat × CanFrame) := []   -- frames sent: controller, frame, oldest first
  recov : List Nat := []                -- controllers in bus-off recovery (R441)
  deriving DecidableEq, Repr

/-! ### The packet network (chapter 10) -/

/-- A drain of a router (R269, R270): what it was asked for, when it began and whether it is late. -/
structure Drain where
  node  : Nat
  goals : List Nat                      -- 0 a domain or link that is up or down, 1 a power-down, 2 DISABLE set, 3 routes, 4 DISABLE cleared
  since : Nat := 0
  late  : Bool := false
  deriving DecidableEq, Repr

/-- A request or snoop that waits for its answer at its sender (R267). -/
structure Asked where
  node   : Nat
  tag    : Nat
  since  : Nat
  again  : Bool := false                -- a snoop that has been sent once more
  packet : Packet
  owes   : Option Packet := none        -- the write's response that waits for an INV_LINE's acknowledgement (R263)
  deriving DecidableEq, Repr

/-- A packet delivered to a node's port and not yet taken by its block. -/
structure Arrival where
  node   : Nat
  since  : Nat
  packet : Packet
  deriving DecidableEq, Repr

/-- A packet in a router's buffers (R257, R261, R273): the input that it came in by is the node before, the router's own node for the
local bridge, 1,024 for a link and 2,048 for what the router itself answers. -/
structure Flight where
  node   : Nat
  input  : Nat
  packet : Packet
  deriving DecidableEq, Repr

/-- The network, beside its registers. A node is numbered 32 x + y (R255). -/
structure Noc where
  ports  : List (Nat × Nat) := []       -- key: node; 1 SLEEP, 2 DISABLED, 3 OPEN where a port keeps it until its drain (R269)
  disabled : List Nat := []             -- nodes whose ports DISABLE has made DISABLED (R268)
  drain  : Option Drain := none         -- the drain in progress (R270)
  drains : List Drain := []             -- drains that wait
  flight : List Flight := []            -- packets in routers, in order of arrival
  outbox : List (Nat × Packet) := []    -- packets that blocks send while their router accepts none (R269): node, packet
  inbox  : List Arrival := []
  sleep  : List (Nat × Packet) := []    -- sleep buffers of the tile routers (R273), at most 4 each
  asked  : List Asked := []             -- outstanding requests (R259)
  snoops : List Asked := []             -- outstanding snoops (R262)
  sent   : List (Nat × Packet) := []    -- packets sent over a Spindle link: link, packet
  deriving DecidableEq, Repr

/-! ### The Distaff core (chapters 08, 09) -/

/-- Where a load's value goes (R217). -/
inductive LoadDest where
  | g (n : Nat) | a (n : Nat) | p (n : Nat)
  deriving DecidableEq, Repr

/-- Why the core holds at an instruction (R223, R224, R231). -/
inductive CoreHold where
  | none | issue | await | wfi
  deriving DecidableEq, Repr

/-- The core (R208, R209, R217, R225, R229, R232 to R235). LOCKUP, WFI and HALTED are in SYS_DCORE. -/
structure Core where
  g      : List Word := List.replicate 16 0
  a      : List Addr := List.replicate 4 0
  p      : List Addr := List.replicate 8 0
  b      : List Addr := List.replicate 8 0
  l      : List (BitVec 24) := List.replicate 8 0
  n      : List (BitVec 24) := List.replicate 8 0
  flg    : Word := 0
  pc     : Addr := 0
  status : Word := 0
  fpsr   : Word := 0x20000
  cctl   : Word := 0
  gorl   : Bool := false
  vbar   : Addr := 0
  cause  : Word := 0
  bad    : Addr := 0
  epc    : List Addr := List.replicate 6 0
  estat  : List Word := List.replicate 6 0
  load   : Option (LoadDest × Addr) := none     -- a load whose slot comes next (R217)
  hold   : CoreHold := .none
  resv   : Option Nat := none           -- the reserved line's home address / 64 (R225)
  badSt  : Option Nat := none           -- the address of the held imprecise error (R229)
  multi  : Bool := false
  itcm   : List (Nat × Byte) := []      -- ITCM bytes as fetch still sees them, stores since the last FENCE (R232)
  icache : List (Nat × List Byte) := [] -- key: home address / 64 (R233)
  dcache : List (Nat × List Byte) := []
  parity : List (Bool × Nat) := []      -- lines of the D-cache (true) and the I-cache whose parity is wrong (R233)
  fills  : List Nat := []               -- lines that the loft controllers record (R234)
  haltReq : Bool := false               -- CHALT waits for the end of a load's slot (R541)
  stepping : Option (Bool × Nat) := none    -- a step runs: whether it began at LDX, instructions executed (R542)
  deriving DecidableEq, Repr

/-! ### Spindle (chapter 19) -/

/-- How the gang's devices beyond a link stand, as its last report says (R527, R528). -/
structure GangPeer where
  full    : Bool := false
  idle    : Bool := true
  staged  : Bool := true
  stalled : Bool := false
  point   : Nat := 0
  deriving DecidableEq, Repr
/-- The Spindle links and the system, beside their registers (R515 to R521, R526 to R530). -/
structure Spindle where
  inRow  : List (Nat × Nat) := []       -- key: link; replays of the present frame in a row
  since  : Nat := 0                     -- reset release, for the 500 ms of R519
  map    : Nat := 1                     -- the system map in force; a worker learns it over its upstream link (R519)
  far    : Nat := 0                     -- on a worker: the devices that its links say are reachable beyond them (R29, R519)
  mapOk  : Option Bool := none          -- what the check of R519 found, once it is made
  oldMaps : List (Nat × Nat) := []      -- key: link; the map whose routes its node keeps until its drain (R269)
  gang   : Bool := false                -- 0x2F01:02 as it stood at this start (R430, R526)
  gangMap : Nat := 0                    -- the devices of the gang (R526, R530)
  peers  : List (Nat × GangPeer) := []  -- key: link
  follows : Bool := false               -- a worker that has been placed since the start: its Timebase is the manager's (R520)
  absent : Nat := 0                     -- devices marked absent after 500 ms (R519)
  broken : Bool := false                -- the gang has broken and its round has not ended (R530)
  left   : Bool := false                -- this device has left gang mode since the start (R530)
  deriving DecidableEq, Repr

/-! ### The stacked DRAM (chapter 07) -/

/-- The DRAM controllers, beside their registers and the contents (which are in `mem` and `ecc`). -/
structure Dram where
  scrubbed : List Nat := []             -- lofts that have completed the patrol pass under way (R200)
  passAt   : List (Nat × Nat) := []     -- key: loft; when its last patrol pass ended (R200)
  usedAt   : List (Nat × Nat) := []     -- key: quadrant; when a request last reached one of its channels (R204)
  deriving DecidableEq, Repr

/-! ### Trace (R552 to R556) -/

/-- One trace packet (R553). -/
structure TracePacket where
  typ   : Nat                           -- 1 STIM, 2 EVENT, 3 LOST
  src   : Nat := 0
  size  : Nat := 0
  flags : Nat := 0
  data  : Nat := 0
  time  : DWord := 0
  deriving DecidableEq, Repr

/-- The trace unit: FIFOs, sinks and the Reel (R552 to R556). DBG_TRACE_CTL, DBG_REEL_RD and the rest of its registers
are in the register file. -/
structure Trace where
  queue    : List TracePacket := []     -- packets in the order of their creation; of each STIM port at most 16 (R552)
  held     : List TracePacket := []     -- STIM writes held for a full FIFO (R552)
  lost     : Nat := 0                   -- packets lost since the last LOST packet (R553)
  reel     : List (Nat × TracePacket) := []        -- the Reel by index (R554)
  reelNext : Nat := 0                   -- where the next packet goes
  reelCnt  : Nat := 0                   -- packets held
  wrapped  : Bool := false
  full     : Bool := false
  pins     : List TracePacket := []     -- packets sent on the trace pins, oldest first (R554)
  dgram    : List TracePacket := []     -- packets collected for the next datagram (R555)
  dgramAt  : Nat := 0                   -- when its first packet came
  dseq     : Nat := 0                   -- DSEQ of the next datagram (R555)
  sent     : List (Nat × List TracePacket) := []   -- datagrams sent: DSEQ and packets (R555)
  deriving DecidableEq, Repr

/-! ### Lifetime records (chapter 21) -/

/-- The LIFE block, beside its registers: the shadow of the lifetime region (R561 to R564), the grains that hold changes
not yet flushed, the increments held before READY or during a snapshot copy (R565, R567), and the snapshot buffer. A
counter's key is its ID, bin b of histogram h has the key 4,096 + 14 h + b. -/
structure Life where
  values  : List (Nat × Nat) := []
  sat     : List Nat := []              -- counter IDs, and 4,096 + h for histograms, whose SAT is set (R563)
  dirty   : List Nat := []              -- grains that differ from the region
  held    : List (Nat × Nat) := []      -- (key, amount)
  snap    : List (Nat × List Byte) := []    -- the snapshot buffer by grain
  snapTai : Nat := 0
  flushAt : Nat := 0                    -- when the last flush ended
  sampledAt : List (Nat × Nat) := []    -- key: histogram; when it was last sampled (R562)
  repairs : Nat := 0                    -- soft repairs made at this start (R63)
  deriving DecidableEq, Repr

/-! ### The whole -/

/-- Everything the part holds. -/
structure Chip where
  is08X    : Bool := false              -- the SLN1024-08X option (R1, R27)
  mgrSel   : Bool := true               -- the level of the ball MGR_SEL: strapped high makes the manager (R518)
  deviceNo : Nat := 0                   -- the device number d (R5, R29, R518)
  ns       : Nat := 0                   -- the block's own clock in nanoseconds, for durations (step on an empty queue)
  fresh    : Nat := 0                   -- MODEL'S OWN: numbers the free values drawn so far
  resp     : Resp := {}
  domains  : List Domain := []          -- the switched domains that are on (R33)
  mem      : List Host.Cell := []       -- ITCM, DTCM, flash, Silo and DRAM bytes by physical address (R26)
  ecc      : List (Nat × Ecc) := []     -- check bits of memory words, by the word's address (R198, R232, R369)
  regs     : List (Nat × Word) := []    -- the register file, by physical address (R8)
  lines    : List Nat := []             -- Distaff lines pending: 1 to 4 IRQ1 to IRQ4, 5 NMI (R483)
  hostUp   : List Nat := []             -- host lines pending (R483)
  msix     : List Nat := []             -- MSI-X vectors signalled, oldest first (R412, R483)
  tiles    : List (Nat × Tile) := []
  seq      : Seq := {}
  grn      : Granary := {}
  trace    : Trace := {}
  time     : TimeState := {}
  od       : Dictionary := {}
  pow      : Power := {}
  dram     : Dram := {}
  cap      : Capture := {}
  pkr      : Packer := {}
  ev       : Evidence := {}
  su       : Seal := {}
  xspi     : Xspi := {}
  silo     : Silo := {}
  life     : Life := {}
  sw       : Storage := {}
  host     : HostLink := {}
  eth      : List (Nat × EthMac) := []
  weave    : Weave := {}
  dbg      : Debug := {}
  wdt      : Watchdog := {}
  noc      : Noc := {}
  core     : Core := {}
  spin     : Spindle := {}
  can      : Can := {}
  deriving DecidableEq, Repr

/-- The block and the queue of the commands that wait, first in, first out. -/
structure State where
  pending : List Instr := []
  chip    : Chip := {}
  deriving DecidableEq, Repr

/-- Why a command stops the machine. No command of this block does: the spec gives every step of its table an effect,
and an access to an address that holds nothing is answered with an error response (R11, R26), a next state. The one
constructor is raised by nobody. Safe. -/
inductive Fault where
  | none
  deriving DecidableEq, Repr

/-- Why a command has no meaning. -/
inductive Refusal where
  /-- The command has no meaning yet; raised by the arms of exec only. Safe. -/
  | notModelled (mnemonic : String)
  deriving DecidableEq, Repr

/-- The machine right after reset: the part with MGR_SEL strapped high, before its internal reset is released (R473). The mesh
domain is on (R33); every register holds the register map's reset value (an unlisted register reads as it), SPIN_STAT
(0x2100_0000) with MANAGER as MGR_SEL (R531); memory lists nothing; no command waits. (DESIGN CHOICE: log 2) -/
def State.reset : State := { pending := [], chip := { domains := [.mesh], regs := [(0x21000000, 0x8F000001#32)] } }

end Sys2Proof.Machine
end

