-- ==== Sys2Proof/Machine/RegMap.lean ====
section
/-! DEFINITION. The register map: every register that the spec's register tables name, with its address (R8, R31, the
rule at each block's rows), its reset value and the access code of each of its fields as six bit masks (R9, R10). -/

namespace Sys2Proof.Machine

/-- One line of the register map: `count` registers of one layout, `stride` bytes apart from `base`. A bit in no
mask is reserved (R10): it reads 0 and ignores writes. -/
structure RegRow where
  base   : Nat
  stride : Nat
  count  : Nat
  reset  : Nat
  rw     : Nat   -- bits of RW fields
  w1c    : Nat   -- bits of W1C fields
  w1s    : Nat   -- bits of W1S fields
  wo     : Nat   -- bits of WO fields
  rc     : Nat   -- bits of RC fields
  ro     : Nat   -- bits of RO fields
  deriving DecidableEq, Repr

namespace Reg

/-- R67. -/
def ASQ_EDGE : Nat := 0x20208000
/-- R68. -/
def ASQ_TORk (k : Nat) : Nat := 0x20208010 + 0x4 * k
/-- R68. -/
def ASQ_LFSR_SEED : Nat := 0x20208040
/-- R68. -/
def ASQ_LFSR_CTL : Nat := 0x20208044
/-- R69. -/
def ASQ_TILE_STAT (k : Nat) : Nat := 0x20209000 + 0x4 * k
/-- R70. -/
def SYS_TTEMP (k : Nat) : Nat := 0x20004000 + 0x4 * k
/-- R93. -/
def ASQ_FAULT : Nat := 0x20208100
/-- R93. -/
def ASQ_FAULT_INSN_LO : Nat := 0x20208104
/-- R93. -/
def ASQ_FAULT_INSN_HI : Nat := 0x20208108
/-- R141. -/
def ASQ_DISPn (k : Nat) : Nat := 0x20200000 + 0x4 * k
/-- R142. -/
def ASQ_QSTAT : Nat := 0x20208200
/-- R142. -/
def ASQ_QCTL : Nat := 0x20208204
/-- R143. -/
def ASQ_LOAD_STAT : Nat := 0x20208210
/-- R143. -/
def ASQ_ABANDONS : Nat := 0x20208220
/-- R143. -/
def ASQ_UREAD_ADDR : Nat := 0x20208230
/-- R143. -/
def ASQ_UREAD_DATA : Nat := 0x20208234
/-- R188. -/
def GRN_CTL : Nat := 0x20300000
/-- R188. -/
def GRN_STAT : Nat := 0x20300004
/-- R188. -/
def GRN_DTAB : Nat := 0x20300008
/-- R188. -/
def GRN_CAPFIRST : Nat := 0x2030000C
/-- R188. -/
def GRN_CAPMAP : Nat := 0x20300010
/-- R188. -/
def GRN_ROUND_SLACK : Nat := 0x20300014
/-- R188. -/
def GRN_PREEMPT_SLACK : Nat := 0x20300018
/-- R188. -/
def GRN_POOL_LOW : Nat := 0x2030001C
/-- R188. -/
def GRN_STALL : Nat := 0x20300020
/-- R188. -/
def GRN_LATE_PF : Nat := 0x20300024
/-- Word w of kernel k's entry (R163). -/
def kernelWord (k w : Nat) : Nat := 0x20310000 + 0x20 * k + 0x4 * w
/-- R190. -/
def GRN_RCTL : Nat := 0x20301000
/-- R190. -/
def GRN_RSTAT : Nat := 0x20301004
/-- R190. -/
def GRN_RFAULTk (k : Nat) : Nat := 0x20301010 + 0x4 * k
/-- R190. -/
def GRN_RBOUNDk (k : Nat) : Nat := 0x20301040 + 0x4 * k
/-- R190. -/
def GRN_RCTXt (k : Nat) : Nat := 0x20302000 + 0x4 * k
/-- R190. -/
def GRN_FREEt (k : Nat) : Nat := 0x20302400 + 0x4 * k
/-- R190. -/
def GRN_KFAULTk (k : Nat) : Nat := 0x20303000 + 0x4 * k
/-- R189. -/
def SQ_BASE_LO (k : Nat) : Nat := 0x20300100 + 0x10 * k
/-- R189. -/
def CQ_BASE_LO (k : Nat) : Nat := 0x20300200 + 0x10 * k
/-- R189. -/
def RQ_BASE_LO : Nat := 0x20300300
/-- R189. -/
def ETHRX_BASE_LO (k : Nat) : Nat := 0x20C01000 + 0x100 * k
/-- R189. -/
def ETHTX_BASE_LO (k : Nat) : Nat := 0x20C01010 + 0x100 * k
/-- R189. -/
def ETHTXB_BASE_LO (k : Nat) : Nat := 0x20C01020 + 0x100 * k
/-- R189. -/
def CANRX_BASE_LO (k : Nat) : Nat := 0x20D01000 + 0x100 * k
/-- R189. -/
def CANTX_BASE_LO (k : Nat) : Nat := 0x20D01010 + 0x100 * k
/-- R189. -/
def PKRPIC_BASE_LO : Nat := 0x20900100
/-- R189. -/
def PKRSTATQ_BASE_LO : Nat := 0x20900110
/-- R189. -/
def SQ_BASE_HI (k : Nat) : Nat := 0x20300104 + 0x10 * k
/-- R189. -/
def CQ_BASE_HI (k : Nat) : Nat := 0x20300204 + 0x10 * k
/-- R189. -/
def RQ_BASE_HI : Nat := 0x20300304
/-- R189. -/
def ETHRX_BASE_HI (k : Nat) : Nat := 0x20C01004 + 0x100 * k
/-- R189. -/
def ETHTX_BASE_HI (k : Nat) : Nat := 0x20C01014 + 0x100 * k
/-- R189. -/
def ETHTXB_BASE_HI (k : Nat) : Nat := 0x20C01024 + 0x100 * k
/-- R189. -/
def CANRX_BASE_HI (k : Nat) : Nat := 0x20D01004 + 0x100 * k
/-- R189. -/
def CANTX_BASE_HI (k : Nat) : Nat := 0x20D01014 + 0x100 * k
/-- R189. -/
def PKRPIC_BASE_HI : Nat := 0x20900104
/-- R189. -/
def PKRSTATQ_BASE_HI : Nat := 0x20900114
/-- R189. -/
def SQ_HEAD (k : Nat) : Nat := 0x20300108 + 0x10 * k
/-- R189. -/
def CQ_HEAD (k : Nat) : Nat := 0x20300208 + 0x10 * k
/-- R189. -/
def RQ_HEAD : Nat := 0x20300308
/-- R189. -/
def ETHRX_HEAD (k : Nat) : Nat := 0x20C01008 + 0x100 * k
/-- R189. -/
def ETHTX_HEAD (k : Nat) : Nat := 0x20C01018 + 0x100 * k
/-- R189. -/
def ETHTXB_HEAD (k : Nat) : Nat := 0x20C01028 + 0x100 * k
/-- R189. -/
def CANRX_HEAD (k : Nat) : Nat := 0x20D01008 + 0x100 * k
/-- R189. -/
def CANTX_HEAD (k : Nat) : Nat := 0x20D01018 + 0x100 * k
/-- R189. -/
def PKRPIC_HEAD : Nat := 0x20900108
/-- R189. -/
def PKRSTATQ_HEAD : Nat := 0x20900118
/-- R189. -/
def SQ_TAIL (k : Nat) : Nat := 0x2030010C + 0x10 * k
/-- R189. -/
def CQ_TAIL (k : Nat) : Nat := 0x2030020C + 0x10 * k
/-- R189. -/
def RQ_TAIL : Nat := 0x2030030C
/-- R189. -/
def ETHRX_TAIL (k : Nat) : Nat := 0x20C0100C + 0x100 * k
/-- R189. -/
def ETHTX_TAIL (k : Nat) : Nat := 0x20C0101C + 0x100 * k
/-- R189. -/
def ETHTXB_TAIL (k : Nat) : Nat := 0x20C0102C + 0x100 * k
/-- R189. -/
def CANRX_TAIL (k : Nat) : Nat := 0x20D0100C + 0x100 * k
/-- R189. -/
def CANTX_TAIL (k : Nat) : Nat := 0x20D0101C + 0x100 * k
/-- R189. -/
def PKRPIC_TAIL : Nat := 0x2090010C
/-- R189. -/
def PKRSTATQ_TAIL : Nat := 0x2090011C
/-- R206. -/
def DRC_CTL : Nat := 0x20500000
/-- R206. -/
def DRC_STAT : Nat := 0x20500004
/-- R206. -/
def DRC_QCTL : Nat := 0x20500008
/-- R206. -/
def DRC_UE_ADDR_LO : Nat := 0x20500020
/-- R206. -/
def DRC_UE_ADDR_HI : Nat := 0x20500024
/-- R206. -/
def DRC_QTEMPq (k : Nat) : Nat := 0x20500010 + 0x4 * k
/-- R206. -/
def DRC_LSTATt (k : Nat) : Nat := 0x20501000 + 0x4 * k
/-- R236. -/
def SYS_DCORE : Nat := 0x20000100
/-- R236. -/
def SYS_DENTRY_LO : Nat := 0x20000104
/-- R236. -/
def SYS_DENTRY_HI : Nat := 0x20000108
/-- R275. -/
def NOC_TIMEOUT : Nat := 0x20400000
/-- R275. -/
def NOC_SNP_TIMEOUT : Nat := 0x20400004
/-- R275. -/
def NOC_STAT : Nat := 0x20400008
/-- R275. -/
def NOC_DRAIN : Nat := 0x2040000C
/-- R275. -/
def NOC_ERRLOG : Nat := 0x20400010
/-- R275. -/
def NOC_PERR : Nat := 0x20400014
/-- R275. -/
def NOC_DAT_CE : Nat := 0x20400018
/-- R275. -/
def NOC_LATE : Nat := 0x2040001C
/-- R275. -/
def NOC_WAKEk (k : Nat) : Nat := 0x20400040 + 0x4 * k
/-- R275. -/
def NOC_PORTe (k : Nat) : Nat := 0x20400100 + 0x4 * k
/-- R298. -/
def CAP_PCTLp (k : Nat) : Nat := 0x20800000 + 0x10 * k
/-- R298. -/
def CAP_PSTATp (k : Nat) : Nat := 0x20800004 + 0x10 * k
/-- R299. -/
def CAP_SCTL (k : Nat) : Nat := 0x20801000 + 0x40 * k
/-- R299. -/
def CAP_SSIZE (k : Nat) : Nat := 0x20801004 + 0x40 * k
/-- R299. -/
def CAP_SPAGE (k : Nat) : Nat := 0x20801008 + 0x40 * k
/-- R299. -/
def CAP_SPIPE (k : Nat) : Nat := 0x2080100C + 0x40 * k
/-- R299. -/
def CAP_SCHAIN0 (k : Nat) : Nat := 0x20801010 + 0x40 * k
/-- R299. -/
def CAP_SCHAIN1 (k : Nat) : Nat := 0x20801014 + 0x40 * k
/-- R299. -/
def CAP_SHASH (k : Nat) : Nat := 0x20801018 + 0x40 * k
/-- R299. -/
def CAP_STPL (k : Nat) : Nat := 0x2080101C + 0x40 * k
/-- R299. -/
def CAP_SSTAT (k : Nat) : Nat := 0x20801020 + 0x40 * k
/-- R300. -/
def PKR_CTL : Nat := 0x20900000
/-- R300. -/
def PKR_STAT : Nat := 0x20900004
/-- R348. -/
def XSPI_CTL : Nat := 0x21400000
/-- R348. -/
def XSPI_CMD : Nat := 0x21400004
/-- R348. -/
def XSPI_LEN : Nat := 0x21400008
/-- R348. -/
def XSPI_CMDADDR : Nat := 0x2140000C
/-- R348. -/
def XSPI_BUFw (k : Nat) : Nat := 0x21400100 + 0x4 * k
/-- R365. -/
def SEAL_CMD : Nat := 0x20600000
/-- R365. -/
def SEAL_STAT : Nat := 0x20600004
/-- R365. -/
def SEAL_STATE : Nat := 0x20600008
/-- R365. -/
def SEAL_ARGn (k : Nat) : Nat := 0x20600010 + 0x4 * k
/-- R365. -/
def SEAL_RSPn (k : Nat) : Nat := 0x20600030 + 0x4 * k
/-- R392. -/
def SILO_STAT : Nat := 0x20700000
/-- R392. -/
def SILO_PF : Nat := 0x20700004
/-- R392. -/
def SILO_JLOW : Nat := 0x20700008
/-- R392. -/
def SILO_JSEQ_LO : Nat := 0x2070000C
/-- R392. -/
def SILO_JSEQ_HI : Nat := 0x20700010
/-- R392. -/
def SILO_RSTAT : Nat := 0x20700014
/-- R392. -/
def SILO_CE : Nat := 0x20700018
/-- R392. -/
def SILO_UE_ADDR : Nat := 0x2070001C
/-- R392. -/
def SILO_TXCMD : Nat := 0x20700100
/-- R392. -/
def SILO_TXSTAT : Nat := 0x20700104
/-- R392. -/
def SILO_TXERR : Nat := 0x20700108
/-- R392. -/
def SILO_TXENTn (k : Nat) : Nat := 0x20700110 + 0x4 * k
/-- R423. -/
def PCIA_ID : Nat := 0x20A00000
/-- R423. -/
def PCIA_B2WIN : Nat := 0x20A00004
/-- R423. -/
def PCIA_ODBELL : Nat := 0x20A00008
/-- R423. -/
def PCIA_ODDONE : Nat := 0x20A0000C
/-- R423. -/
def PCIA_ERRLOG : Nat := 0x20A00010
/-- R423. -/
def PCIB_SWCTL : Nat := 0x20B00000
/-- R423. -/
def PCIB_SWSTAT : Nat := 0x20B00004
/-- R423. -/
def PCIB_NSID : Nat := 0x20B00008
/-- R423. -/
def PCIB_RING_START_LO : Nat := 0x20B00010
/-- R423. -/
def PCIB_RING_START_HI : Nat := 0x20B00014
/-- R423. -/
def PCIB_RING_UNITS : Nat := 0x20B00018
/-- R423. -/
def PCIB_HOLD : Nat := 0x20B0001C
/-- R423. -/
def PCIB_INWIN_BASE : Nat := 0x20B00020
/-- R423. -/
def PCIB_INWIN_SIZE : Nat := 0x20B00024
/-- R423. -/
def PCIB_CTO : Nat := 0x20B00028
/-- R423. -/
def PCIB_LAGMISS : Nat := 0x20B0002C
/-- R424. -/
def ETH_CTL (k : Nat) : Nat := 0x20C00000 + 0x100 * k
/-- R424. -/
def ETH_IPV4 (k : Nat) : Nat := 0x20C00004 + 0x100 * k
/-- R424. -/
def ETH_TSOFS (k : Nat) : Nat := 0x20C00008 + 0x100 * k
/-- R424. -/
def ETH_ODDROP (k : Nat) : Nat := 0x20C0000C + 0x100 * k
/-- R424. -/
def ETH_IPV6k (c k : Nat) : Nat := 0x20C00010 + 0x100 * c + 0x4 * k
/-- R424. -/
def TIME_NOW_LO : Nat := 0x21200000
/-- R424. -/
def TIME_NOW_HI : Nat := 0x21200004
/-- R424. -/
def TIME_CTL : Nat := 0x21200008
/-- R424. -/
def TIME_STAT : Nat := 0x2120000C
/-- R424. -/
def TIME_ADJ_LO : Nat := 0x21200010
/-- R424. -/
def TIME_ADJ_HI : Nat := 0x21200014
/-- R424. -/
def TIME_ADJCTL : Nat := 0x21200018
/-- R424. -/
def TIME_STEP_TH : Nat := 0x2120001C
/-- R424. -/
def TIME_UTC_OFS : Nat := 0x21200020
/-- R424. -/
def TIME_PPS_SEC : Nat := 0x21200024
/-- R445. -/
def CAN_CTLc (k : Nat) : Nat := 0x20D00000 + 0x40 * k
/-- R445. -/
def CAN_NBTc (k : Nat) : Nat := 0x20D00004 + 0x40 * k
/-- R445. -/
def CAN_DBTc (k : Nat) : Nat := 0x20D00008 + 0x40 * k
/-- R445. -/
def CAN_STATc (k : Nat) : Nat := 0x20D0000C + 0x40 * k
/-- R445. -/
def CAN_FLTc_k (c k : Nat) : Nat := 0x20D00400 + 0x100 * c + 0x8 * k
/-- R445. -/
def CAN_FLTMc_k (c k : Nat) : Nat := 0x20D00404 + 0x100 * c + 0x8 * k
/-- R464. -/
def ODE_STAT : Nat := 0x20E00000
/-- R464. -/
def ODE_WLOG : Nat := 0x20E00004
/-- R464. -/
def ODE_WLOG_STAT : Nat := 0x20E00008
/-- R464. -/
def ODE_STAGE_LO : Nat := 0x20E0000C
/-- R464. -/
def ODE_STAGE_HI : Nat := 0x20E00010
/-- R487. -/
def SYS_RESET : Nat := 0x20000020
/-- R487. -/
def SYS_MODE : Nat := 0x20000200
/-- R487. -/
def SYS_INC_LEFT : Nat := 0x20000204
/-- R487. -/
def SYS_THR : Nat := 0x20000220
/-- R487. -/
def SYS_PCAP : Nat := 0x20000260
/-- R487. -/
def SYS_WAKE_EN : Nat := 0x20000300
/-- R487. -/
def SYS_WAKE_CAUSE : Nat := 0x20000304
/-- R487. -/
def SYS_RTC_ALARM_LO : Nat := 0x20000308
/-- R487. -/
def SYS_RTC_ALARM_HI : Nat := 0x2000030C
/-- R487. -/
def SYS_WAKE_CANID : Nat := 0x20000310
/-- R487. -/
def SYS_TOL1 : Nat := 0x20000240
/-- R487. -/
def SYS_TOL2 : Nat := 0x20000244
/-- R487. -/
def SYS_TOL3 : Nat := 0x20000248
/-- R487. -/
def SYS_TOL4 : Nat := 0x2000024C
/-- R487. -/
def SYS_TOL5 : Nat := 0x20000250
/-- R487. -/
def SYS_TSTATEk (k : Nat) : Nat := 0x20000400 + 0x4 * k
/-- R488. -/
def EVT_DPENDk (k : Nat) : Nat := 0x20100000 + 0x4 * k
/-- R488. -/
def EVT_HPENDk (k : Nat) : Nat := 0x20100020 + 0x4 * k
/-- R488. -/
def EVT_DOORBELL : Nat := 0x20100040
/-- R488. -/
def EVT_DNEXTL (k : Nat) : Nat := 0x20100050 + 0x4 * k
/-- R488. -/
def EVT_ROUTEi (k : Nat) : Nat := 0x20101000 + 0x4 * k
/-- R511. -/
def WEAVE_CFG_CTL : Nat := 0x20F00000
/-- R511. -/
def WEAVE_CFG_STAT : Nat := 0x20F00004
/-- R511. -/
def WEAVE_CFG_ADDR : Nat := 0x20F00008
/-- R511. -/
def WEAVE_TRIG : Nat := 0x20F00010
/-- R511. -/
def WEAVE_TRIG_EDGE : Nat := 0x20F00014
/-- R511. -/
def WEAVE_FIN : Nat := 0x20F00018
/-- R511. -/
def WEAVE_FOUT : Nat := 0x20F0001C
/-- R511. -/
def WEAVE_BANK : Nat := 0x20F00020
/-- R513. -/
def WEAVE_ADC_CTL : Nat := 0x20F00400
/-- R511. -/
def WEAVE_CFG_WINw (k : Nat) : Nat := 0x20F01000 + 0x4 * k
/-- R513. -/
def WEAVE_ADC_CHc (k : Nat) : Nat := 0x20F00440 + 0x4 * k
/-- R513. -/
def WEAVE_ADC_RESc (k : Nat) : Nat := 0x20F00480 + 0x4 * k
/-- R512. -/
def WEAVE_PINk (k : Nat) : Nat := 0x20F00100 + 0x4 * k
/-- R531. -/
def SPIN_STAT : Nat := 0x21000000
/-- R531. -/
def SPIN_CTL : Nat := 0x21000004
/-- R531. -/
def SPIN_LINKl (k : Nat) : Nat := 0x21000010 + 0x4 * k
/-- R556. -/
def DBG_PORT : Nat := 0x21100000
/-- R556. -/
def DBG_AUTHCTL : Nat := 0x21100004
/-- R556. -/
def DBG_AON : Nat := 0x21100040
/-- R556. -/
def DBG_RUNCTL : Nat := 0x21100100
/-- R556. -/
def DBG_RUNSTAT : Nat := 0x21100104
/-- R556. -/
def DBG_CSEL : Nat := 0x21100110
/-- R556. -/
def DBG_CDATA : Nat := 0x21100114
/-- R556. -/
def DBG_DBM_CTL : Nat := 0x21100200
/-- R556. -/
def DBG_DBM_ADDR_LO : Nat := 0x21100204
/-- R556. -/
def DBG_DBM_ADDR_HI : Nat := 0x21100208
/-- R556. -/
def DBG_DBM_DATA : Nat := 0x2110020C
/-- R556. -/
def DBG_PMEM_SEL : Nat := 0x21100300
/-- R556. -/
def DBG_TRACE_CTL : Nat := 0x21100600
/-- R556. -/
def DBG_TRACE_DEST_IP : Nat := 0x21100604
/-- R556. -/
def DBG_TRACE_DEST_PORT : Nat := 0x21100608
/-- R556. -/
def DBG_STIM_BLOCK : Nat := 0x21100610
/-- R556. -/
def DBG_REEL_STAT : Nat := 0x21100620
/-- R556. -/
def DBG_REEL_RD : Nat := 0x21100624
/-- R556. -/
def DBG_PATCHu (k : Nat) : Nat := 0x21100500 + 0x8 * k
/-- R556. -/
def DBG_PATCHDu (k : Nat) : Nat := 0x21100504 + 0x8 * k
/-- R556. -/
def DBG_EVTRACEk (k : Nat) : Nat := 0x21100640 + 0x4 * k
/-- R556. -/
def DBG_STIMp (k : Nat) : Nat := 0x21100700 + 0x4 * k
/-- R556. -/
def DBG_REEL_WINw (k : Nat) : Nat := 0x21100800 + 0x4 * k
/-- R556. -/
def DBG_PMEM_DATAw (k : Nat) : Nat := 0x21102000 + 0x4 * k
/-- R556. -/
def DBG_AUTHBUF (k : Nat) : Nat := 0x21101000 + 0x4 * k
/-- R557. -/
def WDT_CTL : Nat := 0x21500000
/-- R557. -/
def WDT_TIMEOUT : Nat := 0x21500004
/-- R557. -/
def WDT_WARN : Nat := 0x21500008
/-- R557. -/
def WDT_KICK : Nat := 0x2150000C
/-- R557. -/
def WDT_LEFT : Nat := 0x21500010
/-- R557. -/
def WDT_STAT : Nat := 0x21500014
/-- R570. -/
def LIFE_STAT : Nat := 0x21300000
/-- R570. -/
def LIFE_SNAP : Nat := 0x21300004
/-- R570. -/
def LIFE_SNAP_TAI_LO : Nat := 0x21300008
/-- R570. -/
def LIFE_SNAP_TAI_HI : Nat := 0x2130000C
/-- R570. -/
def LIFE_FLUSH : Nat := 0x21300010
/-- R586. -/
def SYS_SUPPLY : Nat := 0x20000280
/-- R586. -/
def SYS_AVS : Nat := 0x20000284
/-- R556. -/
def DBG_NONCEw (k : Nat) : Nat := 0x21100010 + 0x4 * k
/-- R513. -/
def WEAVE_I2Cn_CTL (k : Nat) : Nat := 0x20F00600 + 0x20 * k
/-- R513. -/
def WEAVE_I2Cn_CMD (k : Nat) : Nat := 0x20F00604 + 0x20 * k
/-- R513. -/
def WEAVE_I2Cn_STAT (k : Nat) : Nat := 0x20F00608 + 0x20 * k
/-- R513. -/
def WEAVE_I2Cn_RX (k : Nat) : Nat := 0x20F0060C + 0x20 * k
/-- R513. -/
def WEAVE_SPIn_CTL (k : Nat) : Nat := 0x20F00700 + 0x20 * k
/-- R513. -/
def WEAVE_SPIn_TX (k : Nat) : Nat := 0x20F00704 + 0x20 * k
/-- R513. -/
def WEAVE_SPIn_RX (k : Nat) : Nat := 0x20F00708 + 0x20 * k

end Reg

/-- The registers of block SYS (R8, R31). SYS_DENTRY reads 0 until the Seal Unit sets it at release (R236). (DESIGN CHOICE: log 186) -/
def regRowsSys : List RegRow := [
  ⟨0x20004000, 0x4, 256, 0x80000000, 0x0, 0x0, 0x0, 0x0, 0x0, 0x80000FFF⟩,  -- SYS_TTEMP
  ⟨0x20000100, 0x4, 1, 0x0, 0x0, 0x0, 0x0, 0x0, 0x0, 0xE0000000⟩,  -- SYS_DCORE
  ⟨0x20000104, 0x4, 1, 0x0, 0xFFFFFFFC, 0x0, 0x0, 0x0, 0x0, 0x0⟩,  -- SYS_DENTRY_LO
  ⟨0x20000108, 0x4, 1, 0x0, 0xFF, 0x0, 0x0, 0x0, 0x0, 0x0⟩,  -- SYS_DENTRY_HI
  ⟨0x20000020, 0x4, 1, 0x0, 0x0, 0x0, 0x1, 0x0, 0x0, 0x0⟩,  -- SYS_RESET
  ⟨0x20000200, 0x4, 1, 0xFF01FF, 0x0, 0x0, 0x0, 0x0, 0x0, 0xFFFFFF⟩,  -- SYS_MODE
  ⟨0x20000204, 0x4, 1, 0x0, 0x0, 0x0, 0x0, 0x0, 0x0, 0xFFFFFFFF⟩,  -- SYS_INC_LEFT
  ⟨0x20000220, 0x4, 1, 0x0, 0x0, 0x0, 0x0, 0x0, 0x0, 0xE300FFFF⟩,  -- SYS_THR
  ⟨0x20000260, 0x4, 1, 0x1E0, 0x1FF, 0x0, 0x0, 0x0, 0x0, 0x0⟩,  -- SYS_PCAP
  ⟨0x20000300, 0x4, 1, 0x3, 0x10F, 0x0, 0x0, 0x0, 0x0, 0x0⟩,  -- SYS_WAKE_EN
  ⟨0x20000304, 0x4, 1, 0x10, 0x0, 0x1F, 0x0, 0x0, 0x0, 0x0⟩,  -- SYS_WAKE_CAUSE
  ⟨0x20000308, 0x4, 1, 0x0, 0xFFFFFFFF, 0x0, 0x0, 0x0, 0x0, 0x0⟩,  -- SYS_RTC_ALARM_LO
  ⟨0x2000030C, 0x4, 1, 0x0, 0xFF, 0x0, 0x0, 0x0, 0x0, 0x0⟩,  -- SYS_RTC_ALARM_HI
  ⟨0x20000310, 0x4, 1, 0x2000, 0x37FF, 0x0, 0x0, 0x0, 0x0, 0x0⟩,  -- SYS_WAKE_CANID
  ⟨0x20000240, 0x4, 1, 0x14, 0xFFFFF, 0x0, 0x0, 0x0, 0x0, 0x0⟩,  -- SYS_TOL1
  ⟨0x20000244, 0x4, 1, 0x3E8, 0xFFFFF, 0x0, 0x0, 0x0, 0x0, 0x0⟩,  -- SYS_TOL2
  ⟨0x20000248, 0x4, 1, 0xA, 0xFFFFF, 0x0, 0x0, 0x0, 0x0, 0x0⟩,  -- SYS_TOL3
  ⟨0x2000024C, 0x4, 1, 0xC8, 0xFFFFF, 0x0, 0x0, 0x0, 0x0, 0x0⟩,  -- SYS_TOL4
  ⟨0x20000250, 0x4, 1, 0x32, 0xFFFFF, 0x0, 0x0, 0x0, 0x0, 0x0⟩,  -- SYS_TOL5
  ⟨0x20000400, 0x4, 16, 0xFFFFFFFF, 0x0, 0x0, 0x0, 0x0, 0x0, 0xFFFFFFFF⟩,  -- SYS_TSTATEk
  ⟨0x20000280, 0x4, 1, 0x0, 0x0, 0xFF00, 0x0, 0x0, 0x0, 0xFF⟩,  -- SYS_SUPPLY
  ⟨0x20000284, 0x4, 1, 0x19, 0x0, 0x0, 0x0, 0x0, 0x0, 0x3F⟩   -- SYS_AVS
  ]

/-- The registers of block EVT (R8, R31). -/
def regRowsEvt : List RegRow := [
  ⟨0x20100000, 0x4, 8, 0x0, 0x0, 0xFFFFFFFF, 0x0, 0x0, 0x0, 0x0⟩,  -- EVT_DPENDk
  ⟨0x20100020, 0x4, 8, 0x0, 0x0, 0xFFFFFFFF, 0x0, 0x0, 0x0, 0x0⟩,  -- EVT_HPENDk
  ⟨0x20100040, 0x4, 1, 0x0, 0x0, 0x0, 0xFF, 0x0, 0x0, 0x0⟩,  -- EVT_DOORBELL
  ⟨0x20100050, 0x4, 5, 0x0, 0x0, 0x0, 0x0, 0x0, 0x0, 0x800000FF⟩,  -- EVT_DNEXTL
  ⟨0x20101000, 0x4, 256, 0x0, 0x80BF000F, 0x0, 0x0, 0x0, 0x0, 0x0⟩   -- EVT_ROUTEi
  ]

/-- The registers of block ASQ (R8, R31). -/
def regRowsAsq : List RegRow := [
  ⟨0x20208000, 0x4, 1, 0x0, 0xFFF, 0x0, 0x0, 0x0, 0x0, 0xF0000⟩,  -- ASQ_EDGE
  ⟨0x20208010, 0x4, 8, 0x0, 0x0, 0x0, 0x0, 0x0, 0x0, 0xFFFFFFFF⟩,  -- ASQ_TORk
  ⟨0x20208040, 0x4, 1, 0x1, 0xFFFFFFFF, 0x0, 0x0, 0x0, 0x0, 0x0⟩,  -- ASQ_LFSR_SEED
  ⟨0x20208044, 0x4, 1, 0x0, 0x0, 0x0, 0x1, 0x0, 0x0, 0x0⟩,  -- ASQ_LFSR_CTL
  ⟨0x20209000, 0x4, 256, 0x0, 0x0, 0x40000000, 0x0, 0x0, 0x3FC00000, 0x803FF3FF⟩,  -- ASQ_TILE_STAT
  ⟨0x20208100, 0x4, 1, 0x0, 0x0, 0x0, 0x0, 0x0, 0x0, 0x80FF000F⟩,  -- ASQ_FAULT
  ⟨0x20208104, 0x4, 1, 0x0, 0x0, 0x0, 0x0, 0x0, 0x0, 0xFFFFFFFF⟩,  -- ASQ_FAULT_INSN_LO
  ⟨0x20208108, 0x4, 1, 0x0, 0x0, 0x0, 0x0, 0x0, 0x0, 0xFFFFFFFF⟩,  -- ASQ_FAULT_INSN_HI
  ⟨0x20200000, 0x4, 256, 0x0, 0x0, 0x0, 0x0, 0x0, 0x0, 0xFC003FFF⟩,  -- ASQ_DISPn
  ⟨0x20208200, 0x4, 1, 0x1, 0x0, 0x0, 0x0, 0x0, 0x0, 0xF87F0003⟩,  -- ASQ_QSTAT
  ⟨0x20208204, 0x4, 1, 0x0, 0x0, 0x0, 0x3, 0x0, 0x0, 0x0⟩,  -- ASQ_QCTL
  ⟨0x20208210, 0x4, 1, 0x0, 0x0, 0x0, 0x0, 0x0, 0x0, 0x8000000F⟩,  -- ASQ_LOAD_STAT
  ⟨0x20208220, 0x4, 1, 0x0, 0x0, 0x0, 0x0, 0x0, 0x0, 0xFFFFFFFF⟩,  -- ASQ_ABANDONS
  ⟨0x20208230, 0x4, 1, 0x0, 0x3FFF, 0x0, 0x0, 0x0, 0x0, 0x0⟩,  -- ASQ_UREAD_ADDR
  ⟨0x20208234, 0x4, 1, 0x0, 0x0, 0x0, 0x0, 0x0, 0x0, 0xFFFFFFFF⟩   -- ASQ_UREAD_DATA
  ]

/-- The registers of block GRN (R8, R31). The spec gives the kernel table no reset contents; every word resets to 0.
(DESIGN CHOICE: log 170) -/
def regRowsGrn : List RegRow := [
  ⟨0x20300000, 0x4, 1, 0x0, 0xA, 0x0, 0x5, 0x0, 0x0, 0x0⟩,  -- GRN_CTL
  ⟨0x20300004, 0x4, 1, 0x0, 0x0, 0x4000000, 0x0, 0x0, 0x0, 0xF807FFFF⟩,  -- GRN_STAT
  ⟨0x20300008, 0x4, 1, 0x800, 0xFFFF, 0x0, 0x0, 0x0, 0x0, 0x0⟩,  -- GRN_DTAB
  ⟨0x2030000C, 0x4, 1, 0x30000, 0x3FFFF, 0x0, 0x0, 0x0, 0x0, 0x0⟩,  -- GRN_CAPFIRST
  ⟨0x20300010, 0x4, 1, 0x801, 0xFFFF, 0x0, 0x0, 0x0, 0x0, 0x0⟩,  -- GRN_CAPMAP
  ⟨0x20300014, 0x4, 1, 0x3E8, 0xFFFFF, 0x0, 0x0, 0x0, 0x0, 0x0⟩,  -- GRN_ROUND_SLACK
  ⟨0x20300018, 0x4, 1, 0x12C, 0xFFFFF, 0x0, 0x0, 0x0, 0x0, 0x0⟩,  -- GRN_PREEMPT_SLACK
  ⟨0x2030001C, 0x4, 1, 0x4000, 0xFFFFF, 0x0, 0x0, 0x0, 0x0, 0x0⟩,  -- GRN_POOL_LOW
  ⟨0x20300020, 0x4, 1, 0x0, 0x0, 0x0, 0x0, 0x0, 0x0, 0xFFFFFFFF⟩,  -- GRN_STALL
  ⟨0x20300024, 0x4, 1, 0x0, 0x0, 0x0, 0x0, 0x0, 0x0, 0xFFFFFFFF⟩,  -- GRN_LATE_PF
  ⟨0x20301000, 0x4, 1, 0x0, 0x6, 0x0, 0x9, 0x0, 0x0, 0x0⟩,  -- GRN_RCTL
  ⟨0x20301004, 0x4, 1, 0x0, 0x0, 0x0, 0x0, 0x0, 0xFF000000, 0x3FF⟩,  -- GRN_RSTAT
  ⟨0x20301010, 0x4, 8, 0x0, 0x0, 0x0, 0xFFFFFFFF, 0x0, 0x0, 0x0⟩,  -- GRN_RFAULTk
  ⟨0x20301040, 0x4, 8, 0x0, 0x0, 0x0, 0x0, 0x0, 0x0, 0xFFFFFFFF⟩,  -- GRN_RBOUNDk
  ⟨0x20302000, 0x4, 256, 0x0, 0x0, 0x0, 0x0, 0x0, 0x0, 0x8003FFFF⟩,  -- GRN_RCTXt
  ⟨0x20302400, 0x4, 256, 0x0, 0x0, 0x0, 0x0, 0x0, 0x0, 0xFFF⟩,  -- GRN_FREEt
  ⟨0x20303000, 0x4, 1024, 0x0, 0x0, 0x0, 0x0, 0x0, 0x0, 0xFFFFFFFF⟩,  -- GRN_KFAULTk
  ⟨0x20300100, 0x10, 16, 0x0, 0xFFFFFFF0, 0x0, 0x0, 0x0, 0x0, 0x0⟩,  -- SQ_BASE_LO
  ⟨0x20300200, 0x10, 16, 0x0, 0xFFFFFFF0, 0x0, 0x0, 0x0, 0x0, 0x0⟩,  -- CQ_BASE_LO
  ⟨0x20300300, 0x4, 1, 0x0, 0xFFFFFFF0, 0x0, 0x0, 0x0, 0x0, 0x0⟩,  -- RQ_BASE_LO
  ⟨0x20300104, 0x10, 16, 0x40000, 0xF00FF, 0x0, 0x0, 0x0, 0x0, 0x0⟩,  -- SQ_BASE_HI
  ⟨0x20300204, 0x10, 16, 0x40000, 0xF00FF, 0x0, 0x0, 0x0, 0x0, 0x0⟩,  -- CQ_BASE_HI
  ⟨0x20300304, 0x4, 1, 0x40000, 0xF00FF, 0x0, 0x0, 0x0, 0x0, 0x0⟩,  -- RQ_BASE_HI
  ⟨0x20300108, 0x10, 16, 0x0, 0x0, 0x0, 0x0, 0x0, 0x0, 0xFFFF⟩,  -- SQ_HEAD
  ⟨0x20300208, 0x10, 16, 0x0, 0xFFFF, 0x0, 0x0, 0x0, 0x0, 0x0⟩,  -- CQ_HEAD
  ⟨0x20300308, 0x4, 1, 0x0, 0xFFFF, 0x0, 0x0, 0x0, 0x0, 0x0⟩,  -- RQ_HEAD
  ⟨0x2030010C, 0x10, 16, 0x0, 0xFFFF, 0x0, 0x0, 0x0, 0x0, 0x0⟩,  -- SQ_TAIL
  ⟨0x2030020C, 0x10, 16, 0x0, 0x0, 0x0, 0x0, 0x0, 0x0, 0xFFFF⟩,  -- CQ_TAIL
  ⟨0x2030030C, 0x4, 1, 0x0, 0x0, 0x0, 0x0, 0x0, 0x0, 0xFFFF⟩,  -- RQ_TAIL
  ⟨0x20310000, 0x20, 1024, 0x0, 0xFFFFFFFF, 0x0, 0x0, 0x0, 0x0, 0x0⟩,  -- kernel k: ENTRY low (R163)
  ⟨0x20310004, 0x20, 1024, 0x0, 0x3FF, 0x0, 0x0, 0x0, 0x0, 0x0⟩,  -- kernel k: RESTART, VALID, ENTRY high
  ⟨0x20310008, 0x20, 1024, 0x0, 0xFFFFFFFF, 0x0, 0x0, 0x0, 0x0, 0x0⟩,  -- kernel k: DECL 0 to 31
  ⟨0x2031000C, 0x20, 1024, 0x0, 0xFFFFFFFF, 0x0, 0x0, 0x0, 0x0, 0x0⟩,  -- kernel k: DECL 32 to 63
  ⟨0x20310010, 0x20, 1024, 0x0, 0xFFFFFFFF, 0x0, 0x0, 0x0, 0x0, 0x0⟩,  -- kernel k: DECL 64 to 95
  ⟨0x20310014, 0x20, 1024, 0x0, 0xFFFFFFFF, 0x0, 0x0, 0x0, 0x0, 0x0⟩,  -- kernel k: DECL 96 to 127
  ⟨0x20310018, 0x20, 1024, 0x0, 0xFFFF01FF, 0x0, 0x0, 0x0, 0x0, 0x0⟩,  -- kernel k: EST_ROUND, MIN_FILL
  ⟨0x2031001C, 0x20, 1024, 0x0, 0x0, 0x0, 0x0, 0x0, 0x0, 0x0⟩   -- kernel k: reserved
  ]

/-- The registers of block NOC (R8, R31). -/
def regRowsNoc : List RegRow := [
  ⟨0x20400000, 0x4, 1, 0xF4240, 0xFFFFFFFF, 0x0, 0x0, 0x0, 0x0, 0x0⟩,  -- NOC_TIMEOUT
  ⟨0x20400004, 0x4, 1, 0x10000, 0xFFFFF, 0x0, 0x0, 0x0, 0x0, 0x0⟩,  -- NOC_SNP_TIMEOUT
  ⟨0x20400008, 0x4, 1, 0x0, 0x0, 0xC, 0x0, 0x0, 0x0, 0x8FFFFFF0⟩,  -- NOC_STAT
  ⟨0x2040000C, 0x4, 1, 0x0, 0x0, 0x0, 0x1, 0x0, 0x0, 0x0⟩,  -- NOC_DRAIN
  ⟨0x20400010, 0x4, 1, 0x0, 0x0, 0x80000000, 0x0, 0x0, 0x0, 0x7FFFC000⟩,  -- NOC_ERRLOG
  ⟨0x20400014, 0x4, 1, 0x0, 0x0, 0x0, 0x0, 0x0, 0xFF, 0x0⟩,  -- NOC_PERR
  ⟨0x20400018, 0x4, 1, 0x0, 0x0, 0x0, 0x0, 0x0, 0xFF, 0x0⟩,  -- NOC_DAT_CE
  ⟨0x2040001C, 0x4, 1, 0x0, 0x0, 0x0, 0x0, 0x0, 0x0, 0xFFFFFFFF⟩,  -- NOC_LATE
  ⟨0x20400040, 0x4, 8, 0x0, 0xFFFFFFFF, 0x0, 0x0, 0x0, 0x0, 0x0⟩,  -- NOC_WAKEk
  ⟨0x20400100, 0x4, 64, 0x0, 0x1, 0x0, 0x0, 0x0, 0x0, 0xC⟩   -- NOC_PORTe
  ]

/-- The registers of block DRC (R8, R31). -/
def regRowsDrc : List RegRow := [
  ⟨0x20500000, 0x4, 1, 0x181410, 0xFFFFFF, 0x0, 0x0, 0x0, 0x0, 0x0⟩,  -- DRC_CTL
  ⟨0x20500004, 0x4, 1, 0x0, 0x0, 0x0, 0x0, 0x0, 0x0, 0xC00000FF⟩,  -- DRC_STAT
  ⟨0x20500008, 0x4, 1, 0x0, 0x0, 0x0, 0xFF, 0x0, 0x0, 0x0⟩,  -- DRC_QCTL
  ⟨0x20500020, 0x4, 1, 0x0, 0x0, 0x0, 0x0, 0x0, 0x0, 0xFFFFFFFF⟩,  -- DRC_UE_ADDR_LO
  ⟨0x20500024, 0x4, 1, 0x0, 0x0, 0x80000000, 0x0, 0x0, 0x0, 0xFF⟩,  -- DRC_UE_ADDR_HI
  ⟨0x20500010, 0x4, 4, 0x80000000, 0x0, 0x0, 0x0, 0x0, 0x0, 0x80003FFF⟩,  -- DRC_QTEMPq
  ⟨0x20501000, 0x4, 256, 0x0, 0x0, 0x80000000, 0x0, 0x0, 0x3FC00000, 0x40000000⟩   -- DRC_LSTATt
  ]

/-- The registers of block SEAL (R8, R31). -/
def regRowsSeal : List RegRow := [
  ⟨0x20600000, 0x100, 2, 0x0, 0x0, 0x0, 0x0, 0xFFFF0000, 0x0, 0x0⟩,  -- SEAL_CMD
  ⟨0x20600004, 0x100, 2, 0x0, 0x0, 0x60000000, 0x0, 0x0, 0x0, 0x80FF00FF⟩,  -- SEAL_STAT
  ⟨0x20600008, 0x100, 2, 0x0, 0x0, 0x0, 0x0, 0x0, 0x0, 0xFFFF0000⟩,  -- SEAL_STATE
  ⟨0x20600010, 0x4, 8, 0x0, 0xFFFFFFFF, 0x0, 0x0, 0x0, 0x0, 0x0⟩,  -- SEAL_ARGn
  ⟨0x20600030, 0x4, 8, 0x0, 0x0, 0x0, 0x0, 0x0, 0x0, 0xFFFFFFFF⟩,  -- SEAL_RSPn
  ⟨0x20600110, 0x4, 8, 0x0, 0xFFFFFFFF, 0x0, 0x0, 0x0, 0x0, 0x0⟩,  -- SEAL_ARGn, channel B
  ⟨0x20600130, 0x4, 8, 0x0, 0x0, 0x0, 0x0, 0x0, 0x0, 0xFFFFFFFF⟩   -- SEAL_RSPn, channel B
  ]

/-- The registers of block SILO (R8, R31). -/
def regRowsSilo : List RegRow := [
  ⟨0x20700000, 0x4, 1, 0x0, 0x0, 0x0, 0x0, 0x0, 0x0, 0xC001FFFF⟩,  -- SILO_STAT
  ⟨0x20700004, 0x4, 1, 0x28, 0xFF, 0x0, 0x0, 0x0, 0x0, 0x80000000⟩,  -- SILO_PF
  ⟨0x20700008, 0x4, 1, 0x4000, 0x1FFFF, 0x0, 0x0, 0x0, 0x0, 0x0⟩,  -- SILO_JLOW
  ⟨0x2070000C, 0x4, 1, 0x0, 0x0, 0x0, 0x0, 0x0, 0x0, 0xFFFFFFFF⟩,  -- SILO_JSEQ_LO
  ⟨0x20700010, 0x4, 1, 0x0, 0x0, 0x0, 0x0, 0x0, 0x0, 0xFFFFFFFF⟩,  -- SILO_JSEQ_HI
  ⟨0x20700014, 0x4, 1, 0x0, 0x0, 0x0, 0x0, 0x0, 0x0, 0xFFFF0000⟩,  -- SILO_RSTAT
  ⟨0x20700018, 0x4, 1, 0x0, 0x0, 0x0, 0x0, 0x0, 0xFF, 0x0⟩,  -- SILO_CE
  ⟨0x2070001C, 0x4, 1, 0x0, 0x0, 0x80000000, 0x0, 0x0, 0x0, 0x7FFFFF⟩,  -- SILO_UE_ADDR
  ⟨0x20700100, 0x4, 1, 0x0, 0x0, 0x0, 0x0, 0xF0000000, 0x0, 0x0⟩,  -- SILO_TXCMD
  ⟨0x20700104, 0x4, 1, 0x0, 0x0, 0x0, 0x0, 0x0, 0x0, 0xC0FF1FFF⟩,  -- SILO_TXSTAT
  ⟨0x20700108, 0x4, 1, 0x0, 0x0, 0x0, 0x0, 0x0, 0x0, 0x9FFF1FFF⟩,  -- SILO_TXERR
  ⟨0x20700110, 0x4, 8, 0x0, 0xFFFFFFFF, 0x0, 0x0, 0x0, 0x0, 0x0⟩   -- SILO_TXENTn
  ]

/-- The registers of block CAP (R8, R31). -/
def regRowsCap : List RegRow := [
  ⟨0x20800000, 0x10, 8, 0x8E40000, 0x8CFFF000, 0x0, 0x0, 0x0, 0x0, 0x0⟩,  -- CAP_PCTLp
  ⟨0x20800004, 0x10, 8, 0x0, 0x0, 0x0, 0x0, 0x0, 0xFFFF, 0xC0000000⟩,  -- CAP_PSTATp
  ⟨0x20801000, 0x40, 32, 0x408235, 0x8FFCFFFF, 0x0, 0x0, 0x0, 0x0, 0x0⟩,  -- CAP_SCTL
  ⟨0x20801004, 0x40, 32, 0x8700F00, 0x1FFF1FFF, 0x0, 0x0, 0x0, 0x0, 0x0⟩,  -- CAP_SSIZE
  ⟨0x20801008, 0x40, 32, 0x0, 0xFFF, 0x0, 0x0, 0x0, 0x0, 0xFFF0000⟩,  -- CAP_SPAGE
  ⟨0x2080100C, 0x40, 32, 0x40000000, 0xFF8003FF, 0x0, 0x0, 0x0, 0x0, 0x0⟩,  -- CAP_SPIPE
  ⟨0x20801010, 0x40, 32, 0x0, 0x3FF03FF, 0x0, 0x0, 0x0, 0x0, 0x0⟩,  -- CAP_SCHAIN0
  ⟨0x20801014, 0x40, 32, 0x0, 0x3FF03FF, 0x0, 0x0, 0x0, 0x0, 0x0⟩,  -- CAP_SCHAIN1
  ⟨0x20801018, 0x40, 32, 0x80000000, 0xFC0003FF, 0x0, 0x0, 0x0, 0x0, 0x0⟩,  -- CAP_SHASH
  ⟨0x2080101C, 0x40, 32, 0x101, 0xFFFF, 0x0, 0x0, 0x0, 0x0, 0x0⟩,  -- CAP_STPL
  ⟨0x20801020, 0x40, 32, 0x0, 0x0, 0x70000000, 0x0, 0x0, 0x0, 0x80000FFF⟩   -- CAP_SSTAT
  ]

/-- The registers of block PKR (R8, R31). -/
def regRowsPkr : List RegRow := [
  ⟨0x20900100, 0x4, 1, 0x0, 0xFFFFFFF0, 0x0, 0x0, 0x0, 0x0, 0x0⟩,  -- PKRPIC_BASE_LO
  ⟨0x20900110, 0x4, 1, 0x0, 0xFFFFFFF0, 0x0, 0x0, 0x0, 0x0, 0x0⟩,  -- PKRSTATQ_BASE_LO
  ⟨0x20900104, 0x4, 1, 0x40000, 0xF00FF, 0x0, 0x0, 0x0, 0x0, 0x0⟩,  -- PKRPIC_BASE_HI
  ⟨0x20900114, 0x4, 1, 0x40000, 0xF00FF, 0x0, 0x0, 0x0, 0x0, 0x0⟩,  -- PKRSTATQ_BASE_HI
  ⟨0x20900108, 0x4, 1, 0x0, 0x0, 0x0, 0x0, 0x0, 0x0, 0xFFFF⟩,  -- PKRPIC_HEAD
  ⟨0x20900118, 0x4, 1, 0x0, 0xFFFF, 0x0, 0x0, 0x0, 0x0, 0x0⟩,  -- PKRSTATQ_HEAD
  ⟨0x2090010C, 0x4, 1, 0x0, 0xFFFF, 0x0, 0x0, 0x0, 0x0, 0x0⟩,  -- PKRPIC_TAIL
  ⟨0x2090011C, 0x4, 1, 0x0, 0x0, 0x0, 0x0, 0x0, 0x0, 0xFFFF⟩,  -- PKRSTATQ_TAIL
  ⟨0x20900000, 0x4, 1, 0x0, 0xFF, 0x0, 0x0, 0x0, 0x0, 0x0⟩,  -- PKR_CTL
  ⟨0x20900004, 0x4, 1, 0x0, 0x0, 0x0, 0x0, 0x0, 0xFFFF, 0xFF000000⟩   -- PKR_STAT
  ]

/-- The registers of block PCIA (R8, R31). -/
def regRowsPcia : List RegRow := [
  ⟨0x20A00000, 0x4, 1, 0x53110000, 0x0, 0x0, 0x0, 0x0, 0x0, 0xFFFFFFFF⟩,  -- PCIA_ID
  ⟨0x20A00004, 0x4, 1, 0x8, 0x800000FF, 0x0, 0x0, 0x0, 0x0, 0x0⟩,  -- PCIA_B2WIN
  ⟨0x20A00008, 0x4, 1, 0x0, 0x0, 0x0, 0xFF, 0x0, 0x0, 0x0⟩,  -- PCIA_ODBELL
  ⟨0x20A0000C, 0x4, 1, 0x0, 0x0, 0xFF, 0x0, 0x0, 0x0, 0x0⟩,  -- PCIA_ODDONE
  ⟨0x20A00010, 0x4, 1, 0x0, 0x0, 0x80000000, 0x0, 0x0, 0x0, 0x7F800000⟩   -- PCIA_ERRLOG
  ]

/-- The registers of block PCIB (R8, R31). -/
def regRowsPcib : List RegRow := [
  ⟨0x20B00000, 0x4, 1, 0x40, 0xE000007F, 0x0, 0x0, 0x0, 0x0, 0x0⟩,  -- PCIB_SWCTL
  ⟨0x20B00004, 0x4, 1, 0x0, 0x0, 0x0, 0x0, 0x0, 0x0, 0xFF00003F⟩,  -- PCIB_SWSTAT
  ⟨0x20B00008, 0x4, 1, 0x1, 0xFFFFFFFF, 0x0, 0x0, 0x0, 0x0, 0x0⟩,  -- PCIB_NSID
  ⟨0x20B00010, 0x4, 1, 0x0, 0xFFFFFFFF, 0x0, 0x0, 0x0, 0x0, 0x0⟩,  -- PCIB_RING_START_LO
  ⟨0x20B00014, 0x4, 1, 0x0, 0xFFFFFFFF, 0x0, 0x0, 0x0, 0x0, 0x0⟩,  -- PCIB_RING_START_HI
  ⟨0x20B00018, 0x4, 1, 0x0, 0xFFFFFFFF, 0x0, 0x0, 0x0, 0x0, 0x0⟩,  -- PCIB_RING_UNITS
  ⟨0x20B0001C, 0x4, 1, 0x0, 0xFFFFFFFF, 0x0, 0x0, 0x0, 0x0, 0x0⟩,  -- PCIB_HOLD
  ⟨0x20B00020, 0x4, 1, 0x0, 0xFFFFFFF, 0x0, 0x0, 0x0, 0x0, 0x0⟩,  -- PCIB_INWIN_BASE
  ⟨0x20B00024, 0x4, 1, 0x0, 0xFFFFFFF, 0x0, 0x0, 0x0, 0x0, 0x0⟩,  -- PCIB_INWIN_SIZE
  ⟨0x20B00028, 0x4, 1, 0x7D0, 0xFFFF, 0x0, 0x0, 0x0, 0x0, 0x0⟩,  -- PCIB_CTO
  ⟨0x20B0002C, 0x4, 1, 0x0, 0x0, 0x0, 0x0, 0x0, 0x0, 0xFFFFFFFF⟩   -- PCIB_LAGMISS
  ]

/-- The registers of block ETH (R8, R31). -/
def regRowsEth : List RegRow := [
  ⟨0x20C01000, 0x100, 2, 0x0, 0xFFFFFFF0, 0x0, 0x0, 0x0, 0x0, 0x0⟩,  -- ETHRX_BASE_LO
  ⟨0x20C01010, 0x100, 2, 0x0, 0xFFFFFFF0, 0x0, 0x0, 0x0, 0x0, 0x0⟩,  -- ETHTX_BASE_LO
  ⟨0x20C01020, 0x100, 2, 0x0, 0xFFFFFFF0, 0x0, 0x0, 0x0, 0x0, 0x0⟩,  -- ETHTXB_BASE_LO
  ⟨0x20C01004, 0x100, 2, 0x40000, 0xF00FF, 0x0, 0x0, 0x0, 0x0, 0x0⟩,  -- ETHRX_BASE_HI
  ⟨0x20C01014, 0x100, 2, 0x40000, 0xF00FF, 0x0, 0x0, 0x0, 0x0, 0x0⟩,  -- ETHTX_BASE_HI
  ⟨0x20C01024, 0x100, 2, 0x40000, 0xF00FF, 0x0, 0x0, 0x0, 0x0, 0x0⟩,  -- ETHTXB_BASE_HI
  ⟨0x20C01008, 0x100, 2, 0x0, 0xFFFF, 0x0, 0x0, 0x0, 0x0, 0x0⟩,  -- ETHRX_HEAD
  ⟨0x20C01018, 0x100, 2, 0x0, 0x0, 0x0, 0x0, 0x0, 0x0, 0xFFFF⟩,  -- ETHTX_HEAD
  ⟨0x20C01028, 0x100, 2, 0x0, 0x0, 0x0, 0x0, 0x0, 0x0, 0xFFFF⟩,  -- ETHTXB_HEAD
  ⟨0x20C0100C, 0x100, 2, 0x0, 0x0, 0x0, 0x0, 0x0, 0x0, 0xFFFF⟩,  -- ETHRX_TAIL
  ⟨0x20C0101C, 0x100, 2, 0x0, 0xFFFF, 0x0, 0x0, 0x0, 0x0, 0x0⟩,  -- ETHTX_TAIL
  ⟨0x20C0102C, 0x100, 2, 0x0, 0xFFFF, 0x0, 0x0, 0x0, 0x0, 0x0⟩,  -- ETHTXB_TAIL
  ⟨0x20C00000, 0x100, 2, 0x200005F2, 0xFC003FFF, 0x0, 0x0, 0x0, 0x0, 0x0⟩,  -- ETH_CTL
  ⟨0x20C00004, 0x100, 2, 0x0, 0xFFFFFFFF, 0x0, 0x0, 0x0, 0x0, 0x0⟩,  -- ETH_IPV4
  ⟨0x20C00008, 0x100, 2, 0x0, 0xFFFFFFFF, 0x0, 0x0, 0x0, 0x0, 0x0⟩,  -- ETH_TSOFS
  ⟨0x20C0000C, 0x100, 2, 0x0, 0x0, 0x0, 0x0, 0x0, 0xFFFF, 0x0⟩,  -- ETH_ODDROP
  ⟨0x20C00010, 0x4, 4, 0x0, 0xFFFFFFFF, 0x0, 0x0, 0x0, 0x0, 0x0⟩,  -- ETH_IPV6k
  ⟨0x20C00110, 0x4, 4, 0x0, 0xFFFFFFFF, 0x0, 0x0, 0x0, 0x0, 0x0⟩   -- ETH_IPV6k
  ]

/-- The registers of block CAN (R8, R31). -/
def regRowsCan : List RegRow := [
  ⟨0x20D01000, 0x100, 4, 0x0, 0xFFFFFFF0, 0x0, 0x0, 0x0, 0x0, 0x0⟩,  -- CANRX_BASE_LO
  ⟨0x20D01010, 0x100, 4, 0x0, 0xFFFFFFF0, 0x0, 0x0, 0x0, 0x0, 0x0⟩,  -- CANTX_BASE_LO
  ⟨0x20D01004, 0x100, 4, 0x40000, 0xF00FF, 0x0, 0x0, 0x0, 0x0, 0x0⟩,  -- CANRX_BASE_HI
  ⟨0x20D01014, 0x100, 4, 0x40000, 0xF00FF, 0x0, 0x0, 0x0, 0x0, 0x0⟩,  -- CANTX_BASE_HI
  ⟨0x20D01008, 0x100, 4, 0x0, 0xFFFF, 0x0, 0x0, 0x0, 0x0, 0x0⟩,  -- CANRX_HEAD
  ⟨0x20D01018, 0x100, 4, 0x0, 0x0, 0x0, 0x0, 0x0, 0x0, 0xFFFF⟩,  -- CANTX_HEAD
  ⟨0x20D0100C, 0x100, 4, 0x0, 0x0, 0x0, 0x0, 0x0, 0x0, 0xFFFF⟩,  -- CANRX_TAIL
  ⟨0x20D0101C, 0x100, 4, 0x0, 0xFFFF, 0x0, 0x0, 0x0, 0x0, 0x0⟩,  -- CANTX_TAIL
  ⟨0x20D00000, 0x40, 4, 0x54000F00, 0xF400FF00, 0x0, 0x8000000, 0x0, 0x0, 0x0⟩,  -- CAN_CTLc
  ⟨0x20D00004, 0x40, 4, 0x13F1010, 0xFFFF7F7F, 0x0, 0x0, 0x0, 0x0, 0x0⟩,  -- CAN_NBTc
  ⟨0x20D00008, 0x40, 4, 0x10E0505, 0x1FFFFFFF, 0x0, 0x0, 0x0, 0x0, 0x0⟩,  -- CAN_DBTc
  ⟨0x20D0000C, 0x40, 4, 0x0, 0x0, 0x0, 0x0, 0x0, 0xFF, 0xC0FFFF00⟩,  -- CAN_STATc
  ⟨0x20D00400, 0x8, 32, 0x0, 0xBFFFFFFF, 0x0, 0x0, 0x0, 0x0, 0x0⟩,  -- CAN_FLTc_k
  ⟨0x20D00500, 0x8, 32, 0x0, 0xBFFFFFFF, 0x0, 0x0, 0x0, 0x0, 0x0⟩,  -- CAN_FLTc_k
  ⟨0x20D00600, 0x8, 32, 0x0, 0xBFFFFFFF, 0x0, 0x0, 0x0, 0x0, 0x0⟩,  -- CAN_FLTc_k
  ⟨0x20D00700, 0x8, 32, 0x0, 0xBFFFFFFF, 0x0, 0x0, 0x0, 0x0, 0x0⟩,  -- CAN_FLTc_k
  ⟨0x20D00404, 0x8, 32, 0x0, 0x1FFFFFFF, 0x0, 0x0, 0x0, 0x0, 0x0⟩,  -- CAN_FLTMc_k
  ⟨0x20D00504, 0x8, 32, 0x0, 0x1FFFFFFF, 0x0, 0x0, 0x0, 0x0, 0x0⟩,  -- CAN_FLTMc_k
  ⟨0x20D00604, 0x8, 32, 0x0, 0x1FFFFFFF, 0x0, 0x0, 0x0, 0x0, 0x0⟩,  -- CAN_FLTMc_k
  ⟨0x20D00704, 0x8, 32, 0x0, 0x1FFFFFFF, 0x0, 0x0, 0x0, 0x0, 0x0⟩   -- CAN_FLTMc_k
  ]

/-- The registers of block ODE (R8, R31). -/
def regRowsOde : List RegRow := [
  ⟨0x20E00000, 0x4, 1, 0x0, 0x0, 0x0, 0x0, 0x0, 0xFF0000, 0xFF00FFFF⟩,  -- ODE_STAT
  ⟨0x20E00004, 0x4, 1, 0x0, 0x0, 0x0, 0x0, 0x0, 0x0, 0x80FFFFFF⟩,  -- ODE_WLOG
  ⟨0x20E00008, 0x4, 1, 0x0, 0x0, 0x80000000, 0x0, 0x0, 0x0, 0x7F⟩,  -- ODE_WLOG_STAT
  ⟨0x20E0000C, 0x4, 1, 0x3000000, 0xFFFFF000, 0x0, 0x0, 0x0, 0x0, 0x0⟩,  -- ODE_STAGE_LO
  ⟨0x20E00010, 0x4, 1, 0x8, 0xFF, 0x0, 0x0, 0x0, 0x0, 0x0⟩   -- ODE_STAGE_HI
  ]

/-- The registers of block WEAVE (R8, R31). -/
def regRowsWeave : List RegRow := [
  ⟨0x20F00000, 0x4, 1, 0x0, 0x0, 0x0, 0xFF1, 0x0, 0x0, 0x0⟩,  -- WEAVE_CFG_CTL
  ⟨0x20F00004, 0x4, 1, 0x0, 0x0, 0x0, 0x0, 0x0, 0xFFFF, 0xFF000000⟩,  -- WEAVE_CFG_STAT
  ⟨0x20F00008, 0x4, 1, 0x0, 0x3FF, 0x0, 0x0, 0x0, 0x0, 0x0⟩,  -- WEAVE_CFG_ADDR
  ⟨0x20F00010, 0x4, 1, 0x0, 0x0, 0x0, 0x0, 0x0, 0x0, 0xFFFFFFFF⟩,  -- WEAVE_TRIG
  ⟨0x20F00014, 0x4, 1, 0x0, 0x0, 0xFFFFFFFF, 0x0, 0x0, 0x0, 0x0⟩,  -- WEAVE_TRIG_EDGE
  ⟨0x20F00018, 0x4, 1, 0x0, 0xFFFFFFFF, 0x0, 0x0, 0x0, 0x0, 0x0⟩,  -- WEAVE_FIN
  ⟨0x20F0001C, 0x4, 1, 0x0, 0x0, 0x0, 0x0, 0x0, 0x0, 0xFFFFFFFF⟩,  -- WEAVE_FOUT
  ⟨0x20F00020, 0x4, 1, 0x0, 0x0, 0x0, 0x0, 0x0, 0x0, 0xF⟩,  -- WEAVE_BANK
  ⟨0x20F00400, 0x4, 1, 0x0, 0x1, 0x0, 0x0, 0x0, 0x0, 0x0⟩,  -- WEAVE_ADC_CTL
  ⟨0x20F01000, 0x4, 80, 0x0, 0x0, 0x0, 0x0, 0xFFFFFFFF, 0x0, 0x0⟩,  -- WEAVE_CFG_WINw
  ⟨0x20F00440, 0x4, 16, 0xFFF000, 0x8FFFFFFF, 0x0, 0x0, 0x0, 0x0, 0x0⟩,  -- WEAVE_ADC_CHc
  ⟨0x20F00480, 0x4, 16, 0x0, 0x0, 0x0, 0x0, 0x0, 0x0, 0xCFFF0FFF⟩,  -- WEAVE_ADC_RESc
  ⟨0x20F00100, 0x4, 64, 0x40000000, 0x71FC, 0x0, 0x0, 0x0, 0x0, 0xC0000000⟩,  -- WEAVE_PINk
  ⟨0x20F00600, 0x20, 4, 0x1, 0x80000003, 0x0, 0x0, 0x0, 0x0, 0x0⟩,  -- WEAVE_I2Cn_CTL
  ⟨0x20F00604, 0x20, 4, 0x0, 0x0, 0x0, 0x0, 0x7FF, 0x0, 0x0⟩,  -- WEAVE_I2Cn_CMD
  ⟨0x20F00608, 0x20, 4, 0x0, 0x0, 0x78000000, 0x0, 0x0, 0x0, 0x80000000⟩,  -- WEAVE_I2Cn_STAT
  ⟨0x20F0060C, 0x20, 4, 0x0, 0x0, 0x0, 0x0, 0x0, 0x0, 0xFF⟩,  -- WEAVE_I2Cn_RX
  ⟨0x20F00700, 0x20, 2, 0x0, 0xFC1F00FF, 0x0, 0x0, 0x0, 0x0, 0x0⟩,  -- WEAVE_SPIn_CTL
  ⟨0x20F00704, 0x20, 2, 0x0, 0x0, 0x0, 0x0, 0xFFFFFFFF, 0x0, 0x0⟩,  -- WEAVE_SPIn_TX
  ⟨0x20F00708, 0x20, 2, 0x0, 0x0, 0x0, 0x0, 0x0, 0x0, 0xFFFFFFFF⟩   -- WEAVE_SPIn_RX
  ]

/-- The registers of block SPIN (R8, R31). -/
def regRowsSpin : List RegRow := [
  ⟨0x21000000, 0x4, 1, 0xF000001, 0x0, 0x10000000, 0x0, 0x0, 0x0, 0xEF00FFFF⟩,  -- SPIN_STAT
  ⟨0x21000004, 0x4, 1, 0xF, 0xF, 0x0, 0x0, 0x0, 0x0, 0x0⟩,  -- SPIN_CTL
  ⟨0x21000010, 0x4, 4, 0x0, 0x0, 0x0, 0x0, 0x0, 0xFFFF, 0x8F000000⟩   -- SPIN_LINKl
  ]

/-- The registers of block DBG (R8, R31). -/
def regRowsDbg : List RegRow := [
  ⟨0x21100000, 0x4, 1, 0x0, 0x0, 0x0, 0x0, 0x0, 0x0, 0xFFFF0003⟩,  -- DBG_PORT
  ⟨0x21100004, 0x4, 1, 0x0, 0xFF0103, 0x0, 0xE0000000, 0x0, 0x0, 0x0⟩,  -- DBG_AUTHCTL
  ⟨0x21100040, 0x4, 1, 0x0, 0x10000000, 0x0, 0x0, 0x0, 0x0, 0xE0000000⟩,  -- DBG_AON
  ⟨0x21100100, 0x4, 1, 0x0, 0x300, 0x0, 0x7F, 0x0, 0x0, 0x0⟩,  -- DBG_RUNCTL
  ⟨0x21100104, 0x4, 1, 0x0, 0x0, 0x0, 0x0, 0x0, 0x0, 0xF00000FF⟩,  -- DBG_RUNSTAT
  ⟨0x21100110, 0x4, 1, 0x0, 0x7F, 0x0, 0x0, 0x0, 0x0, 0x0⟩,  -- DBG_CSEL
  ⟨0x21100114, 0x4, 1, 0x0, 0xFFFFFFFF, 0x0, 0x0, 0x0, 0x0, 0x0⟩,  -- DBG_CDATA
  ⟨0x21100200, 0x4, 1, 0x22000000, 0x3F000000, 0x0, 0x80000000, 0x0, 0x0, 0x400007F8⟩,  -- DBG_DBM_CTL
  ⟨0x21100204, 0x4, 1, 0x0, 0xFFFFFFFF, 0x0, 0x0, 0x0, 0x0, 0x0⟩,  -- DBG_DBM_ADDR_LO
  ⟨0x21100208, 0x4, 1, 0x0, 0xFF, 0x0, 0x0, 0x0, 0x0, 0x0⟩,  -- DBG_DBM_ADDR_HI
  ⟨0x2110020C, 0x4, 1, 0x0, 0xFFFFFFFF, 0x0, 0x0, 0x0, 0x0, 0x0⟩,  -- DBG_DBM_DATA
  ⟨0x21100300, 0x4, 1, 0x0, 0x80FF03FF, 0x0, 0x0, 0x0, 0x0, 0x0⟩,  -- DBG_PMEM_SEL
  ⟨0x21100600, 0x4, 1, 0x0, 0x17, 0x0, 0x0, 0x0, 0x0, 0x0⟩,  -- DBG_TRACE_CTL
  ⟨0x21100604, 0x4, 1, 0x0, 0xFFFFFFFF, 0x0, 0x0, 0x0, 0x0, 0x0⟩,  -- DBG_TRACE_DEST_IP
  ⟨0x21100608, 0x4, 1, 0x0, 0xFFFF, 0x0, 0x0, 0x0, 0x0, 0x0⟩,  -- DBG_TRACE_DEST_PORT
  ⟨0x21100610, 0x4, 1, 0x0, 0xFFFFFFFF, 0x0, 0x0, 0x0, 0x0, 0x0⟩,  -- DBG_STIM_BLOCK
  ⟨0x21100620, 0x4, 1, 0x0, 0x0, 0x0, 0x0, 0x0, 0x0, 0xC000FFFF⟩,  -- DBG_REEL_STAT
  ⟨0x21100624, 0x4, 1, 0x0, 0x7FFF, 0x0, 0x0, 0x0, 0x0, 0x0⟩,  -- DBG_REEL_RD
  ⟨0x21100500, 0x8, 16, 0x0, 0x8FFFFFFC, 0x0, 0x0, 0x0, 0x0, 0x0⟩,  -- DBG_PATCHu
  ⟨0x21100504, 0x8, 16, 0x0, 0xFFFFFFFF, 0x0, 0x0, 0x0, 0x0, 0x0⟩,  -- DBG_PATCHDu
  ⟨0x21100640, 0x4, 8, 0x0, 0xFFFFFFFF, 0x0, 0x0, 0x0, 0x0, 0x0⟩,  -- DBG_EVTRACEk
  ⟨0x21100700, 0x4, 32, 0x0, 0x0, 0x0, 0x0, 0xFFFFFFFF, 0x0, 0x0⟩,  -- DBG_STIMp
  ⟨0x21100800, 0x4, 4, 0x0, 0x0, 0x0, 0x0, 0x0, 0x0, 0xFFFFFFFF⟩,  -- DBG_REEL_WINw
  ⟨0x21102000, 0x4, 128, 0x0, 0xFFFFFFFF, 0x0, 0x0, 0x0, 0x0, 0x0⟩,  -- DBG_PMEM_DATAw
  ⟨0x21101000, 0x4, 257, 0x0, 0x0, 0x0, 0x0, 0xFFFFFFFF, 0x0, 0x0⟩,  -- DBG_AUTHBUF
  ⟨0x21100010, 0x4, 8, 0x0, 0x0, 0x0, 0x0, 0x0, 0x0, 0xFFFFFFFF⟩   -- DBG_NONCEw
  ]

/-- The registers of block TIME (R8, R31). -/
def regRowsTime : List RegRow := [
  ⟨0x21200000, 0x4, 1, 0x0, 0x0, 0x0, 0x0, 0x0, 0x0, 0xFFFFFFFF⟩,  -- TIME_NOW_LO
  ⟨0x21200004, 0x4, 1, 0x0, 0x0, 0x0, 0x0, 0x0, 0x0, 0xFFFFFFFF⟩,  -- TIME_NOW_HI
  ⟨0x21200008, 0x4, 1, 0x0, 0x7, 0x0, 0x0, 0x0, 0x0, 0x0⟩,  -- TIME_CTL
  ⟨0x2120000C, 0x4, 1, 0x0, 0x0, 0x4000000, 0x0, 0x0, 0x0, 0xF8000000⟩,  -- TIME_STAT
  ⟨0x21200010, 0x4, 1, 0x0, 0xFFFFFFFF, 0x0, 0x0, 0x0, 0x0, 0x0⟩,  -- TIME_ADJ_LO
  ⟨0x21200014, 0x4, 1, 0x0, 0xFFFFFFFF, 0x0, 0x0, 0x0, 0x0, 0x0⟩,  -- TIME_ADJ_HI
  ⟨0x21200018, 0x4, 1, 0x0, 0x6, 0x0, 0x1, 0x0, 0x0, 0x0⟩,  -- TIME_ADJCTL
  ⟨0x2120001C, 0x4, 1, 0x3E8, 0xFFFFFFFF, 0x0, 0x0, 0x0, 0x0, 0x0⟩,  -- TIME_STEP_TH
  ⟨0x21200020, 0x4, 1, 0x25, 0xFFFF, 0x0, 0x0, 0x0, 0x0, 0x0⟩,  -- TIME_UTC_OFS
  ⟨0x21200024, 0x4, 1, 0x0, 0xFFFFFFFF, 0x0, 0x0, 0x0, 0x0, 0x0⟩   -- TIME_PPS_SEC
  ]

/-- The registers of block LIFE (R8, R31). -/
def regRowsLife : List RegRow := [
  ⟨0x21300000, 0x4, 1, 0x0, 0x0, 0x20000000, 0x0, 0x0, 0x0, 0xC00003FF⟩,  -- LIFE_STAT
  ⟨0x21300004, 0x4, 1, 0x0, 0x0, 0x0, 0x80000000, 0x0, 0x0, 0x7FFFFFFF⟩,  -- LIFE_SNAP
  ⟨0x21300008, 0x4, 1, 0x0, 0x0, 0x0, 0x0, 0x0, 0x0, 0xFFFFFFFF⟩,  -- LIFE_SNAP_TAI_LO
  ⟨0x2130000C, 0x4, 1, 0x0, 0x0, 0x0, 0x0, 0x0, 0x0, 0xFFFFFFFF⟩,  -- LIFE_SNAP_TAI_HI
  ⟨0x21300010, 0x4, 1, 0xE10, 0x1FFFF, 0x0, 0x80000000, 0x0, 0x0, 0x0⟩   -- LIFE_FLUSH
  ]

/-- The registers of block XSPI (R8, R31). -/
def regRowsXspi : List RegRow := [
  ⟨0x21400000, 0x4, 1, 0x0, 0xC0000003, 0x0, 0x0, 0x0, 0x0, 0x0⟩,  -- XSPI_CTL
  ⟨0x21400004, 0x4, 1, 0x0, 0x1FE0FFFF, 0x60000000, 0x80000000, 0x0, 0x0, 0x0⟩,  -- XSPI_CMD
  ⟨0x21400008, 0x4, 1, 0x0, 0x1FF, 0x0, 0x0, 0x0, 0x0, 0x0⟩,  -- XSPI_LEN
  ⟨0x2140000C, 0x4, 1, 0x0, 0xFFFFFFFF, 0x0, 0x0, 0x0, 0x0, 0x0⟩,  -- XSPI_CMDADDR
  ⟨0x21400100, 0x4, 64, 0x0, 0xFFFFFFFF, 0x0, 0x0, 0x0, 0x0, 0x0⟩   -- XSPI_BUFw
  ]

/-- The registers of block WDT (R8, R31). -/
def regRowsWdt : List RegRow := [
  ⟨0x21500000, 0x4, 1, 0x2, 0x2, 0x0, 0x1, 0x0, 0x0, 0x0⟩,  -- WDT_CTL
  ⟨0x21500004, 0x4, 1, 0x3E8, 0xFFFFF, 0x0, 0x0, 0x0, 0x0, 0x0⟩,  -- WDT_TIMEOUT
  ⟨0x21500008, 0x4, 1, 0x64, 0xFFFFF, 0x0, 0x0, 0x0, 0x0, 0x0⟩,  -- WDT_WARN
  ⟨0x2150000C, 0x4, 1, 0x0, 0x0, 0x0, 0x0, 0xFFFFFFFF, 0x0, 0x0⟩,  -- WDT_KICK
  ⟨0x21500010, 0x4, 1, 0x0, 0x0, 0x0, 0x0, 0x0, 0x0, 0xFFFFF⟩,  -- WDT_LEFT
  ⟨0x21500014, 0x4, 1, 0x0, 0x0, 0xC0000000, 0x0, 0x0, 0x0, 0x20000000⟩   -- WDT_STAT
  ]

/-- The rows of register block `n` (R8). -/
def regRows (n : Nat) : List RegRow :=
  match n with
  | 0 => regRowsSys
  | 1 => regRowsEvt
  | 2 => regRowsAsq
  | 3 => regRowsGrn
  | 4 => regRowsNoc
  | 5 => regRowsDrc
  | 6 => regRowsSeal
  | 7 => regRowsSilo
  | 8 => regRowsCap
  | 9 => regRowsPkr
  | 10 => regRowsPcia
  | 11 => regRowsPcib
  | 12 => regRowsEth
  | 13 => regRowsCan
  | 14 => regRowsOde
  | 15 => regRowsWeave
  | 16 => regRowsSpin
  | 17 => regRowsDbg
  | 18 => regRowsTime
  | 19 => regRowsLife
  | 20 => regRowsXspi
  | 21 => regRowsWdt
  | _ => []

end Sys2Proof.Machine
end

