-- ==== Sys2Proof/Machine/Ops.lean ====
section
/-!
DEFINITION. The shared operations: the register file (R8 to R12), memory by physical address (R26 to R30), power domains
(R33), responses (R260), raising an event (R482), free values, and how a command's effect becomes a step.
-/
namespace Sys2Proof.Machine

/-! ### The register file -/

/-- Does the row cover the address? -/
def rowCovers (r : RegRow) (a : Nat) : Bool :=
  decide (r.base ≤ a) && decide ((a - r.base) % r.stride = 0) && decide ((a - r.base) / r.stride < r.count)

/-- The first row of a list that covers the address. -/
def findRow : List RegRow → Nat → Option RegRow
  | [], _ => none
  | r :: t, a => if rowCovers r a then some r else findRow t a

/-- The register block an address lies in (R31). -/
def regBlock (a : Nat) : Nat := (a - 0x20000000) / 0x100000

/-- The row of the register map for an address; none where no register lies (R11). -/
def regRow (a : Nat) : Option RegRow := findRow (regRows (regBlock a)) a

/-- The reset value of a register. -/
def regReset (a : Nat) : Word :=
  match regRow a with
  | some r => BitVec.ofNat 32 r.reset
  | none => 0

/-- The register map's bits of a register, every access code together (R10). -/
def rowMask (r : RegRow) : Nat := r.rw ||| r.w1c ||| r.w1s ||| r.wo ||| r.rc ||| r.ro

/-- The stored value of a register: what the block holds, WO fields included. -/
def Chip.reg (c : Chip) (a : Nat) : Word := mapGet (regReset a) c.regs a

/-- Store a register whole, keeping the register file's canonical form. -/
def Chip.setReg (c : Chip) (a : Nat) (v : Word) : Chip :=
  { c with regs := mapSet (regReset a) c.regs a v }

/-- Field [hi:lo] of a register. -/
def Chip.fld (c : Chip) (a hi lo : Nat) : Nat := natBits (c.reg a).toNat hi lo
/-- Bit `i` of a register. -/
def Chip.bit (c : Chip) (a i : Nat) : Bool := (c.reg a).toNat.testBit i
/-- Store field [hi:lo] of a register. -/
def Chip.setFld (c : Chip) (a hi lo v : Nat) : Chip := c.setReg a (Machine.setFld (c.reg a) hi lo v)
/-- Store bit `i` of a register. -/
def Chip.setBit (c : Chip) (a i : Nat) (b : Bool) : Chip := c.setFld a i i b.toNat

/-- A write by a bus access to a register with the row's access codes (R9, R10): RW fields take the data, a 1 clears a
W1C bit, a 1 sets a W1S bit, WO fields take the data; RO and RC fields and reserved bits ignore it. (DESIGN CHOICE: log 124) -/
def rowWrite (r : RegRow) (old data : Word) : Word :=
  let rw := BitVec.ofNat 32 (r.rw ||| r.wo)
  ((old &&& ~~~rw) ||| (data &&& rw)) &&& ~~~(data &&& BitVec.ofNat 32 r.w1c) |||
    (data &&& BitVec.ofNat 32 r.w1s)

/-- What a bus read of a register returns (R9, R10): WO fields and reserved bits read 0. -/
def rowRead (r : RegRow) (old : Word) : Word :=
  old &&& BitVec.ofNat 32 (r.rw ||| r.w1c ||| r.w1s ||| r.rc ||| r.ro)

/-- What a bus read leaves in the register: its RC fields are cleared (R9). -/
def rowAfterRead (r : RegRow) (old : Word) : Word := old &&& ~~~(BitVec.ofNat 32 r.rc)

/-- Add to a counting field that sticks at its limit (R12: CE_COUNT and the RC counts). -/
def Chip.countFld (c : Chip) (a hi lo n : Nat) : Chip :=
  c.setFld a hi lo (stickAt (2 ^ (hi + 1 - lo) - 1) (c.fld a hi lo + n))

/-! ### Memory by physical address -/

/-- One byte; an unlisted byte reads as 0 (DRAM is zeroed by R202; for the other memories the log names the choice).
(DESIGN CHOICE: log 8) -/
def Chip.rd8 (c : Chip) (a : Nat) : Byte := mapGet 0 c.mem a
/-- Write one byte. -/
def Chip.wr8 (c : Chip) (a : Nat) (v : Byte) : Chip := { c with mem := mapSet 0 c.mem a v }
/-- `n` bytes from `a` up. -/
def Chip.rdBytes (c : Chip) (a n : Nat) : List Byte := (List.range n).map (fun i => c.rd8 (a + i))
/-- Write bytes from `a` up. -/
def Chip.wrBytes (c : Chip) (a : Nat) : List Byte → Chip
  | [] => c
  | b :: t => (c.wr8 a b).wrBytes (a + 1) t
/-- A little-endian number of `n` bytes. -/
def Chip.rdNat (c : Chip) (a n : Nat) : Nat := leNat (c.rdBytes a n)
/-- Write a little-endian number of `n` bytes. -/
def Chip.wrNat (c : Chip) (a n v : Nat) : Chip := c.wrBytes a (leBytes n v)
/-- The check bits of the word at `a`. -/
def Chip.eccAt (c : Chip) (a : Nat) : Ecc := mapGet Ecc.good c.ecc a
/-- Set the check bits of the word at `a`. -/
def Chip.setEcc (c : Chip) (a : Nat) (e : Ecc) : Chip := { c with ecc := mapSet Ecc.good c.ecc a e }
/-- A write of n bytes from home address a is seen by the core (R225, R234): its reservation on a line of them is cleared, and the
D-cache's copies of those lines are invalidated, with the loft's record of them. (DESIGN CHOICE: log 43) -/
def Chip.snoopWrite (c : Chip) (a n : Nat) : Chip :=
  let hit : Nat → Bool := fun k => decide (a / 64 ≤ k) && decide (64 * k < a + n)
  { c with core := { c.core with
    resv := match c.core.resv with
      | some k => if hit k then none else some k
      | none => none
    dcache := c.core.dcache.filter (fun e => !hit e.1)
    fills := c.core.fills.filter (fun k => !hit k) } }
/-- The canonical form of memory. -/
def Chip.memWf (c : Chip) : Bool := mapWf 0 c.mem

/-! ### Address decoding -/

/-- What an address decodes to in the device itself (R26 to R30), as the home address of the byte. -/
inductive Target where
  | itcm (a : Nat) | dtcm (a : Nat) | flash (a : Nat) | register (a : Nat) | silo (a : Nat)
  | loft (t a : Nat)                    -- tile-local home address
  | remote (d a : Nat)                  -- another device's window, the mirrored local address
  | nothing
  deriving DecidableEq, Repr

/-- The base of loft t in the tile-local view (R26). -/
def loftBase (t : Nat) : Nat := 0x100000000 + t * 0x4000000
/-- Bytes in a loft (R27). -/
def loftSize (c : Chip) : Nat := if c.is08X then 0x2000000 else 0x4000000
/-- Bytes in the common stripe of each loft (R28): DRC_CTL.STRIPE in MiB. -/
def stripeBytes (c : Chip) : Nat := c.fld Reg.DRC_CTL 6 0 * 0x100000
/-- The home of common-view offset o (R28). -/
def commonHome (o : Nat) : Nat × Nat :=
  let t := o / 4096 % 256
  (t, loftBase t + (o / 1048576) * 4096 + o % 4096)

/-- Decode an address below the remote windows (R26 to R28, R30). -/
def decodeLocal (c : Chip) (a : Nat) : Target :=
  if a < 0x80000 then .itcm a
  else if a < 0x100000 then .nothing
  else if a < 0x180000 then .dtcm a
  else if a < 0x10000000 then .nothing
  else if a < 0x20000000 then .flash a
  else if a < 0x30000000 then .register a
  else if a < 0x30800000 then .silo a
  else if a < 0x100000000 then .nothing
  else if a < 0x500000000 then
    if (a - 0x100000000) % 0x4000000 < loftSize c then .loft ((a - 0x100000000) / 0x4000000) a else .nothing
  else if a < 0x800000000 then .nothing
  else if a < 0x1000000000 then
    if a - 0x800000000 < 256 * stripeBytes c then
      let h := commonHome (a - 0x800000000)
      .loft h.1 h.2
    else .nothing
  else .nothing

/-- Decode a 40-bit address (R26, R29): the window of the device's own number is the local address, and it mirrors
nothing of the common view. -/
def decodeAddr (c : Chip) (a : Nat) : Target :=
  if a < 0x8000000000 then decodeLocal c a
  else if a < 0x10000000000 then
    let d := (a - 0x8000000000) / 0x800000000
    let l := (a - 0x8000000000) % 0x800000000
    if d = c.deviceNo then decodeLocal c l else .remote d l
  else .nothing

/-! ### Power domains -/

/-- Is the domain on (R33)? -/
def Chip.isOn (c : Chip) (d : Domain) : Bool := c.domains.contains d
/-- Switch a domain on. -/
def Chip.switchOn (c : Chip) (d : Domain) : Chip :=
  if c.isOn d then c else { c with domains := c.domains ++ [d] }
/-- Switch a domain off. (DESIGN CHOICE: log 9) -/
def Chip.switchOff (c : Chip) (d : Domain) : Chip := { c with domains := c.domains.filter (fun x => decide (x ≠ d)) }

/-! ### Responses -/

/-- A response of the network (R260). -/
def Chip.respond (c : Chip) (r : Resp) : Chip := { c with resp := r }
/-- STATUS OK with read data. -/
def respOk (data : Nat) : Resp := { status := 0, data := data }
/-- STATUS ERR with a CAUSE (R260). -/
def respErr (cause : Nat) : Resp := { status := 1, cause := cause }
/-- STATUS ASLEEP (R272). -/
def respAsleep : Resp := { status := 2 }
/-- STATUS UNROUTABLE (R271). -/
def respUnroutable : Resp := { status := 3 }
/-- STATUS TIMEOUT, reported by the initiator's interface (R267). -/
def respTimeout : Resp := { status := 4 }

/-! ### Trace packets -/

/-- The sink in force: 4 acts as 0 outside SERVICE, and so do 5 to 7 (R554, R556). -/
def traceSink (c : Chip) : Nat :=
  match c.fld Reg.DBG_TRACE_CTL 2 0 with
  | 4 => if c.fld Reg.SYS_MODE 7 0 = 5 then 4 else 0
  | n => if n < 4 then n else 0
/-- A packet is created and waits for the sink (R552, R553); with the sink off it is discarded uncounted (R554). -/
def Chip.traceAdd (c : Chip) (p : TracePacket) : Chip :=
  { c with trace := { c.trace with queue := if traceSink c = 0 then c.trace.queue else c.trace.queue ++ [p] } }

/-! ### Events -/

/-- TAI in nanoseconds, the Timebase (R418). -/
def Chip.tai (c : Chip) : DWord := c.time.now

/-- A value of the register file that a SYS or EVT bit vector of 256 bits holds at bit i. -/
def Chip.vecBit (c : Chip) (base i : Nat) : Bool := c.bit (base + 4 * (i / 32)) (i % 32)
/-- Set bit i of such a vector. -/
def Chip.setVecBit (c : Chip) (base i : Nat) (b : Bool) : Chip := c.setBit (base + 4 * (i / 32)) (i % 32) b

/-- Send or drop the EMCY message of event i (R437): messages closer together than the inhibit time of 0x1015, in units
of 100 µs, are dropped and counted in ODE_STAT.EMCY_LOST. -/
def Chip.emcy (c : Chip) (i : Nat) : Chip :=
  let obj : Nat → Nat → Nat := fun key d => match c.od.objects.find? (fun e => e.1 == key) with
    | some e => leNat e.2
    | none => d
  let early := match c.od.emcyLast with
    | some t => decide (c.ns < t + obj 0x101500 10 * 100000)
    | none => false
  if early then c.countFld Reg.ODE_STAT 23 16 1
  else { c with od := { c.od with
    emcyLast := some c.ns
    nodeTx := c.od.nodeTx ++ [{ id := obj 0x101400 (0x80 + c.od.nodeId) % 2 ^ 11, fd := true
                                data := leBytes 2 (0xFF00 + i) ++ leBytes 1 (obj 0x100100 0) ++ leBytes 8 c.tai.toNat }] } }

/-- Raise event i (R482): both pending bits are set; a routed event sends EMCY (R483); a traced event creates an EVENT
packet (R552). The lifetime counters are left to Chip.raise. -/
def Chip.raiseOnly (c : Chip) (i : Nat) : Chip :=
  let c1 := (c.setVecBit (Reg.EVT_DPENDk 0) i true).setVecBit (Reg.EVT_HPENDk 0) i true
  let c2 := if c1.bit (Reg.EVT_ROUTEi i) 31 then c1.emcy i else c1
  if c2.vecBit (Reg.DBG_EVTRACEk 0) i then c2.traceAdd { typ := 2, src := i, time := c2.tai } else c2

/-! ### Lifetime counters (R561 to R564) -/

/-- The limit of a counter or a bin (R563). -/
def lifeLimit (key : Nat) : Nat := if key < 4096 then 0xFFFFFFFFFFFF else 0xFFFFFFFF
/-- The key under which SAT is kept: the counter's, or the histogram's (R563). -/
def lifeSatKey (key : Nat) : Nat := if key < 4096 then key else 4096 + (key - 4096) / 14
/-- The grain of a counter or bin (R559). -/
def lifeGrain (key : Nat) : Nat := if key < 4096 then key / 8 else 384 + (key - 4096) / 14
/-- The value of a counter or bin in the shadow. -/
def lifeValue (c : Chip) (key : Nat) : Nat := mapGet 0 c.life.values key

/-- Add to the shadow (R563, R564): the grain is dirty; at the limit the value sticks and SAT is set, and a SAT that sets
for the first time raises EV33 and sets LIFE_STAT.SAT. -/
def Chip.lifeApply (c : Chip) (key n : Nat) : Chip :=
  let v := lifeValue c key + n
  let past := decide (lifeLimit key < v)
  let k := lifeSatKey key
  let first := past && !c.life.sat.contains k
  let g := lifeGrain key
  let c1 := { c with life := { c.life with
    values := mapSet 0 c.life.values key (stickAt (lifeLimit key) v)
    sat := if first then c.life.sat ++ [k] else c.life.sat
    dirty := if c.life.dirty.contains g then c.life.dirty else c.life.dirty ++ [g] } }
  if first then (c1.setBit Reg.LIFE_STAT 29 true).raiseOnly 33 else c1

/-- Count n in a lifetime counter or bin: before READY and during a snapshot copy it is held (R565, R567). -/
def Chip.lifeAdd (c : Chip) (key n : Nat) : Chip :=
  if n = 0 then c
  else if !c.bit Reg.LIFE_STAT 31 || c.bit Reg.LIFE_SNAP 30 then
    { c with life := { c.life with held := c.life.held ++ [(key, n)] } }
  else c.lifeApply key n

/-- The lifetime counter that counts the raises of an event (R561). -/
def lifeOfEvent : Nat → Option Nat
  | 38 => some 6 | 20 => some 12 | 83 => some 22 | 4 => some 23 | 5 => some 24 | 16 => some 27
  | _ => none

/-- Raise event i (R482), counted in the lifetime records where R561 says so. -/
def Chip.raise (c : Chip) (i : Nat) : Chip :=
  match lifeOfEvent i with
  | some id => (c.raiseOnly i).lifeAdd id 1
  | none => c.raiseOnly i

/-- Raise an event where a condition holds. -/
def Chip.raiseIf (c : Chip) (b : Bool) (i : Nat) : Chip := if b then c.raise i else c

/-- Add `n` to a 32-bit counter that wraps, raising event `ev` when it does. -/
def Chip.wrapCount (c : Chip) (a n ev : Nat) : Chip :=
  let v := (c.reg a).toNat + n
  (c.setReg a (BitVec.ofNat 32 v)).raiseIf (decide (2 ^ 32 ≤ v)) ev

/-! ### Interrupt lines, and the step of a command -/

/-- The events pending in one view, rising. -/
def pendingOf (c : Chip) (base : Nat) : List Nat :=
  (List.range 8).flatMap (fun k => (onesBelow 32 (c.reg (base + 4 * k)).toNat).map (fun i => 32 * k + i))

/-- The Distaff line of a pending event, 0 for none (R483). -/
def distaffLine (c : Chip) (i : Nat) : Nat :=
  if c.bit (Reg.EVT_ROUTEi i) 3 then c.fld (Reg.EVT_ROUTEi i) 2 0 else 0
/-- Is Distaff line L pending (R483)? -/
def linePending (c : Chip) (L : Nat) : Bool := (pendingOf c (Reg.EVT_DPENDk 0)).any (fun i => distaffLine c i == L)
/-- The Distaff lines that are pending. -/
def distaffLines (c : Chip) : List Nat := [1, 2, 3, 4, 5].filter (fun L => linePending c L)
/-- The host lines that are pending, without repeats (R483). -/
def hostLines (c : Chip) : List Nat :=
  ((pendingOf c (Reg.EVT_HPENDk 0)).filter (fun i => c.bit (Reg.EVT_ROUTEi i) 23)).map
    (fun i => c.fld (Reg.EVT_ROUTEi i) 21 16) |>.eraseDups

/-- Signal MSI-X vector v (R412): with MSI-X enabled its message is sent, or its pending bit set while it or the function is masked.
(PRESUMED: log 183) -/
def Chip.msixSignal (c : Chip) (v : Nat) : Chip :=
  let e := mapGet {} c.host.table v
  let c1 := { c with msix := c.msix ++ [v] }
  if !c.host.config.msixEnable then c1
  else if e.masked || c.host.config.msixMask then { c1 with host := { c1.host with table := mapSet {} c1.host.table v { e with pend := true } } }
  else { c1 with host := { c1.host with memWr := c1.host.memWr ++ [(e.addr, e.data)] } }

/-- A pending vector whose host line is no longer pending has nothing to tell: its pending bit is cleared (R412). (PRESUMED: log 183) -/
def Chip.msixRetire (c : Chip) (up : List Nat) : Chip :=
  (c.host.table.filter (fun e => e.2.pend && !up.contains e.1)).foldl (fun d e =>
    { d with host := { d.host with table := mapSet {} d.host.table e.1 { e.2 with pend := false } } }) c
/-- After every command the event controller's lines follow its pending bits and routes (R483): the Distaff lines are
recomputed, and each host line that has become pending signals its MSI-X vector. GORL follows the GOR flag (R222). -/
def Chip.settle (c : Chip) : Chip :=
  let up := hostLines c
  let c1 := (up.filter (fun v => !c.hostUp.contains v)).foldl Chip.msixSignal (c.msixRetire up)
  { c1 with
    core := { c1.core with gorl := c1.seq.gor }
    lines := distaffLines c
    hostUp := up }

/-- Does NCLK run: is the I/O PLL in lock (R478, R479)? -/
def nclkRuns (c : Chip) : Bool := !c.pow.unlocked.contains 2
/-- A command's effect on everything but the queue, as a step, for what the always-on domain, the array's clock or the core's clock
does. (DESIGN CHOICE: log 4) -/
def runAny (f : Chip → Chip) (s : State) : Host.Outcome State Fault Refusal :=
  .next { s with chip := (f s.chip).settle }
/-- A command's effect on everything but the queue, as a step, for what NCLK does: while the I/O PLL is out of lock its domains are
stalled, and the command does nothing (R479). (DESIGN CHOICE: log 4; DESIGN CHOICE: log 104) -/
def run (f : Chip → Chip) (s : State) : Host.Outcome State Fault Refusal :=
  runAny (fun c => if nclkRuns c then f c else c) s

/-! ### Free values -/

/-- Draw a fresh free value of 64 bits: an opaque constant of Config applied to a counter of the state. (DESIGN CHOICE: log 5) -/
def Chip.drawFree (c : Chip) : DWord × Chip := (Config.freeWord c.fresh, { c with fresh := c.fresh + 1 })
/-- Draw `n` fresh free bytes. (DESIGN CHOICE: log 5) -/
def Chip.drawBytes (c : Chip) (n : Nat) : List Byte × Chip :=
  ((List.range n).map (fun i => Config.freeByte (c.fresh + i)), { c with fresh := c.fresh + n })

end Sys2Proof.Machine
end

