-- ==== Sys2Proof/Machine/Ports.lean ====
section
/-!
DEFINITION. The local ports of the routers: which domain a node belongs to (R255, R256), the state of its port (R268), and the
drains that change it (R269, R270); the node of a register (R256) and the port that a register's row meets there (R32, R271).
-/
namespace Sys2Proof.Machine

/-- The node of tile t (R255), a position (x, y) being numbered 32 x + y. -/
def tileNode (t : Nat) : Nat := 32 * (t % 16 + 1) + (t / 16 + 1)
/-- The node of a domain that has one (R255); a position (x, y) is numbered 32 x + y. -/
def domainNode : Domain → Option Nat
  | .tileLogic t => some (tileNode t)
  | .capture p => some (32 * (p + 1))
  | .packer d => some (32 * (d + 10))
  | .sealUnit => some (32 * 14)
  | .silo => some (32 * 15)
  | .storageWriter => some (32 * 16)
  | .ethernet m => some (32 * 17 + (10 + m))
  | .can => some (32 * 17 + 12)
  | .pcieA => some (32 * 17 + 15)
  | .core => some 6
  | .coreMem => some 7
  | .sequencer => some 8
  | .granary => some 10
  | _ => none

/-- The edge positions with a domain of their own. -/
def edgeDomains : List Domain :=
  (List.range 8).map Domain.capture ++ (List.range 4).map Domain.packer ++
    [.sealUnit, .silo, .storageWriter, .ethernet 0, .ethernet 1, .can, .pcieA, .core, .coreMem, .sequencer, .granary]

/-- The positions of the blocks of the mesh domain (R255): SYS, EVT, TIME, LIFE, WDT, DRC, NOC, ODE, WEAVE, XSPI; the Debug Bus
Master with DBG; the SPIN register interface. -/
def meshNodes : List Nat := (List.range 8).map (fun i => 32 * 17 + (i + 1)) ++ [32 * 17 + 13, 32 * 17 + 14, 32 * 10 + 17, 32 * 11 + 17]

/-- The Spindle node of link l: N, E, S, W. -/
def spindleNode (l : Nat) : Nat := listGet 0 [32 * 9, 32 * 17 + 9, 32 * 9 + 17, 9] l
/-- Is link l up (R517)? A link whose Spindle domain is off is down. -/
def linkUp (c : Chip) (l : Nat) : Bool := c.isOn (.spindle l) && c.bit (Reg.SPIN_LINKl l) 31

/-- The tile at a node, if one is there. -/
def nodeTile (n : Nat) : Option Nat :=
  let x := n / 32
  let y := n % 32
  if 1 ≤ x ∧ x ≤ 16 ∧ 1 ≤ y ∧ y ≤ 16 then some (16 * (y - 1) + (x - 1)) else none
/-- The Spindle link at a node, if one is there. -/
def nodeLink (n : Nat) : Option Nat := (List.range 4).find? (fun l => spindleNode l == n)

/-- Does the position hold a block, a tile or a Spindle node (R255)? (DESIGN CHOICE: log 35) -/
def hasPort (n : Nat) : Bool :=
  (nodeTile n).isSome || (nodeLink n).isSome || meshNodes.contains n || edgeDomains.any (fun d => domainNode d == some n)

/-- Has the power-down of a domain begun, and not committed (R274)? -/
def downFor (c : Chip) (d : Domain) : Bool := c.pow.goingDown.any (fun e => e.1 == d)
/-- Is the domain on, and not powering down (R268)? -/
def staysOn (c : Chip) (d : Domain) : Bool := c.isOn d && !downFor c d
/-- The packer's lanes that are coding (R294). -/
def busyLanes (c : Chip) : List Nat :=
  c.pkr.pics.flatMap (fun p => p.slices.filterMap (fun x => match x.state with
    | .coding l => some l
    | _ => none))
/-- Does a lane still need domain d (R296): packer domain 0, which holds the control store, while any lane is enabled or codes; another
while one of its own codes? -/
def lanesNeed (c : Chip) (d : Domain) : Bool :=
  match d with
  | .packer k => (decide (k = 0) && decide (c.fld Reg.PKR_CTL 7 0 ≠ 0)) || (busyLanes c).any (fun l => decide (k = 0) || decide (l / 2 = k))
  | _ => false
/-- What R268 says of a port from its domain or link alone: 0 OPEN, 1 SLEEP, 2 DISABLED. -/
def portOfDomain (c : Chip) (n : Nat) : Nat :=
  match nodeTile n with
  | some t => if staysOn c (.tileLogic t) then 0 else 1
  | none =>
    match nodeLink n with
    | some l => if linkUp c l then 0 else 2
    | none =>
      match edgeDomains.find? (fun d => domainNode d == some n) with
      | some d => if staysOn c d then 0 else 1
      | none => 0

/-- The state that the last drain gave a port, NOC_PORTe.DISABLE apart: what R268 says of its domain or link, or the state that the port
keeps until the drain that is due (R269). -/
def powerPort (c : Chip) (n : Nat) : Nat :=
  match mapGet 0 c.noc.ports n with
  | 0 => portOfDomain c n
  | 3 => 0
  | k => k
/-- The state of a port (R268): 0 OPEN, 1 SLEEP, 2 DISABLED. -/
def portState (c : Chip) (n : Nat) : Nat := if c.noc.disabled.contains n then 2 else powerPort c n

/-- Replace the network's state. -/
def Chip.setNoc (c : Chip) (x : Noc) : Chip := { c with noc := x }
/-- Show the drains in NOC_STAT (R275). -/
def Chip.showDrains (c : Chip) : Chip :=
  let w := match c.noc.drain with
    | some d => 2 ^ 31 + (c.deviceNo * 1024 + d.node) * 2 ^ 14
    | none => 0
  c.setReg Reg.NOC_STAT ((c.reg Reg.NOC_STAT &&& 0xC#32) ||| BitVec.ofNat 32 (w + 16 * c.noc.drains.length))
/-- The drains that wait once one more is asked for: a router that waits for its drain already waits for one that does both, so that at
most one waits for each router (R275). (DEDUCED: log 42) -/
def addDrain (node goal : Nat) : List Drain → List Drain
  | [] => [{ node := node, goals := [goal] }]
  | d :: rest =>
    if d.node = node then { d with goals := d.goals.filter (fun g => decide (g ≠ goal)) ++ [goal] } :: rest
    else d :: addDrain node goal rest
/-- Ask for a drain (R270): it waits behind those asked for before. (DEDUCED: log 42) -/
def Chip.askDrain (c : Chip) (node goal : Nat) : Chip :=
  (c.setNoc { c.noc with drains := addDrain node goal c.noc.drains }).showDrains
/-- Override a port's state until a drain says otherwise: 1 SLEEP, 2 DISABLED, 3 OPEN, 0 none. -/
def Chip.setPort (c : Chip) (node v : Nat) : Chip := { c with noc := { c.noc with ports := mapSet 0 c.noc.ports node v } }
/-- A port keeps the state it has, whatever becomes of its domain, until the drain that is due (R269). -/
def Chip.pinPort (c : Chip) (node : Nat) : Chip := c.setPort node (if powerPort c node = 0 then 3 else powerPort c node)

/-- Apply one goal of a drain to the port (R269 step 3): the state that R268 says of its domain or link, or DISABLE's; or the routes of
the system map in force. -/
def Chip.applyGoal (c : Chip) (node goal : Nat) : Chip :=
  match goal with
  | 0 => c.setPort node 0
  | 1 => c.setPort node 0
  | 2 => c.setNoc { c.noc with disabled := c.noc.disabled.filter (fun n => decide (n ≠ node)) ++ [node] }
  | 3 => { c with spin := { c.spin with oldMaps := c.spin.oldMaps.filter (fun e => decide (spindleNode e.1 ≠ node)) } }
  | 4 => c.setNoc { c.noc with disabled := c.noc.disabled.filter (fun n => decide (n ≠ node)) }
  | _ => c
/-- Apply a drain's goals in the order in which they were asked for. -/
def Chip.applyPort (c : Chip) (node : Nat) (goals : List Nat) : Chip := goals.foldl (fun d g => d.applyGoal node g) c

/-- A power-down that has begun, and not committed, is cancelled (R182, R274): a port that sleeps is opened again by a drain; one that
has not come to SLEEP stays OPEN. -/
def Chip.cancelDown (c : Chip) (d : Domain) (node : Nat) : Chip :=
  if !downFor c d then c else
  let c1 := { c with pow := { c.pow with goingDown := c.pow.goingDown.filter (fun e => decide (e.1 ≠ d)) } }
  if powerPort c node = 1 then (c1.setPort node 1).askDrain node 0
  else
    let less : Drain → Drain := fun x => if x.node = node then { x with goals := x.goals.filter (fun g => decide (g ≠ 1)) } else x
    ((c1.setPort node 0).setNoc { c1.noc with
      ports := mapSet 0 c1.noc.ports node 0
      drain := c1.noc.drain.map less
      drains := (c1.noc.drains.map less).filter (fun x => !x.goals.isEmpty) }).showDrains
/-- A domain begins to power down (R274): its port keeps its state until the drain that makes it SLEEP. `st`: the state to come. -/
def Chip.beginDown (c : Chip) (d : Domain) (node st : Nat) : Chip :=
  let c1 := c.pinPort node
  Chip.askDrain { c1 with pow := { c1.pow with goingDown := c1.pow.goingDown ++ [(d, st)] } } node 1

/-- Switch a domain on once it reports power-good: its port sleeps until its drain is done (R268, R269, R486); one that powers down is
woken before its commit (R274). -/
def Chip.domainUp (c : Chip) (d : Domain) : Chip :=
  match domainNode d with
  | some n => if c.isOn d then c.cancelDown d n else ((c.setPort n 1).switchOn d).askDrain n 0
  | none => c.switchOn d

/-- The domain whose port a node's is, none for a block of the mesh domain or a Spindle node. -/
def nodeDomain (n : Nat) : Option Domain :=
  match nodeTile n with
  | some t => some (.tileLogic t)
  | none => edgeDomains.find? (fun d => domainNode d == some n)

/-! ### Registers at their nodes (R32, R256) -/

/-- The node that a register's address goes to (R256): in CAP and ETH an offset that holds no register of a port or MAC goes to port 0's
or Ethernet 0's. -/
def regNode (a : Nat) : Nat :=
  let off := a % 0x100000
  let none_ := (regRow (a / 4 * 4)).isNone
  match regBlock a with
  | 0 => 32 * 17 + 1 | 1 => 32 * 17 + 2 | 18 => 32 * 17 + 3 | 19 => 32 * 17 + 4 | 21 => 32 * 17 + 5 | 5 => 32 * 17 + 6
  | 4 => 32 * 17 + 7 | 14 => 32 * 17 + 8 | 13 => 32 * 17 + 12 | 15 => 32 * 17 + 13 | 20 => 32 * 17 + 14 | 10 => 32 * 17 + 15
  | 12 => if !none_ && decide (off % 0x1000 / 0x100 = 1) then 32 * 17 + 11 else 32 * 17 + 10
  | 2 => 8 | 3 => 10 | 6 => 32 * 14 | 7 => 32 * 15 | 11 => 32 * 16 | 9 => 32 * 10
  | 8 => if none_ then 32 else if off < 0x1000 then 32 * (off / 16 + 1) else 32 * ((off - 0x1000) / 64 / 4 + 1)
  | 16 => 32 * 11 + 17
  | _ => 32 * 10 + 17
/-- What the port of a register's node makes of an access to it (R32, R271): ASLEEP where its domain is off or powering down,
UNROUTABLE where it is DISABLED, and nothing changes then; otherwise the access has its effect. -/
def Chip.atRegister (c : Chip) (a : Nat) (f : Chip → Chip) : Chip :=
  match portState c (regNode a) with
  | 1 => (c.respond respAsleep).raise 102
  | 2 => (c.respond respUnroutable).raise 100
  | _ => f c
/-- A command that is a bus access to register a (R32, R271). -/
def regRun (a : Nat) (f : Chip → Chip) (s : State) : Host.Outcome State Fault Refusal := run (fun c => c.atRegister a f) s

end Sys2Proof.Machine
end

