-- ==== Sys2Proof/Machine/Gang.lean ====
section
/-!
DEFINITION. The grid of devices and how a gang goes on after a loss (R257, R519, R530).
-/
namespace Sys2Proof.Machine

/-- The column of device d in the grid (R257). -/
def gridX (d : Nat) : Nat := d % 4
/-- The row of device d. -/
def gridY (d : Nat) : Nat := d / 4
/-- Is a system map valid (R519)? -/
def mapValid (m : Nat) : Bool :=
  (List.range 4).any (fun w => (List.range 4).any (fun h =>
    (List.range 16).all (fun d => m.testBit d == (decide (gridX d ≤ w) && decide (gridY d ≤ h)))))
/-- Is this device the manager (R518)? -/
def isManager (c : Chip) : Bool := c.bit Reg.SPIN_STAT 31
/-- The link over which a packet for device d leaves this device (R257). -/
def exitLink (c : Chip) (d : Nat) : Nat :=
  if gridX c.deviceNo < gridX d then 1
  else if gridX d < gridX c.deviceNo then 3
  else if gridY c.deviceNo < gridY d then 2
  else 0
/-- The other devices whose packets leave over link l. -/
def viaLink (c : Chip) (l : Nat) : Nat := bitsOfFn (fun d => decide (d ≠ c.deviceNo) && decide (exitLink c d = l)) 16
/-- The system map in force becomes m (R519): each Spindle node whose routes it alters keeps the old ones until its drain (R269). -/
def Chip.setMap (c : Chip) (m : Nat) : Chip :=
  (List.range 4).foldl (fun d l => if viaLink c l &&& m = viaLink c l &&& c.spin.map then d else
      ({ d with spin := { d.spin with
        oldMaps := if d.spin.oldMaps.any (fun e => decide (e.1 = l)) then d.spin.oldMaps else d.spin.oldMaps ++ [(l, c.spin.map)] }
      }).askDrain (spindleNode l) 3)
    { c with spin := { c.spin with map := m } }
/-- The system map by which the node of link l routes: the one in force, or an older one until the node's drain (R269). -/
def mapAt (c : Chip) (l : Nat) : Nat := mapGet c.spin.map c.spin.oldMaps l
/-- Is this device in gang mode (R526)? -/
def inGang (c : Chip) : Bool := c.bit Reg.SPIN_STAT 29
/-- Is this device the manager of a gang? -/
def gangManager (c : Chip) : Bool := inGang c && isManager c
/-- Is this device a worker in gang mode (R526 to R528)? -/
def gangWorker (c : Chip) : Bool := inGang c && !isManager c
/-- A device of a gang sends the others a message (R527, R528). (DESIGN CHOICE: log 127) -/
def Chip.gangSay (c : Chip) (m : GangMsg) : Chip :=
  if inGang c then { c with seq := { c.seq with gangQueue := c.seq.gangQueue ++ [m] } } else c
/-- What only the manager of a gang sends. -/
def Chip.managerSay (c : Chip) (m : GangMsg) : Chip := if gangManager c then c.gangSay m else c
/-- Do the gang's devices beyond every link satisfy f? -/
def peersAll (c : Chip) (f : GangPeer → Bool) : Bool := c.spin.peers.all (fun e => f e.2)
/-- Is every other queue of the gang idle, as the manager's IDLE takes them in (R527)? -/
def gangIdle (c : Chip) : Bool := !gangManager c || peersAll c GangPeer.idle
/-- Has every other queue of the gang room, as the manager's queue takes them in (R527)? -/
def gangRoom (c : Chip) : Bool := !gangManager c || peersAll c (fun p => !p.full)
/-- Is the array held by a stall of another device of the gang (R527)? -/
def gangStalled (c : Chip) : Bool := inGang c && !peersAll c (fun p => !p.stalled)
/-- The lowest operating point that the rules of another device of the gang call for (R528). -/
def gangPoint (c : Chip) : Nat := if inGang c then c.spin.peers.foldl (fun m e => Nat.max m e.2.point) 0 else 0
/-- SPIN_STAT.REACH. -/
def reachMask (c : Chip) : Nat := c.fld Reg.SPIN_STAT 15 0

/-- The devices that this one can reach as far as its links tell (R29, R519): REACH on the manager. -/
def reachable (c : Chip) : Nat := if isManager c then reachMask c else c.spin.far ||| 2 ^ c.deviceNo

/-- The gang has ended its round after a loss (R530): its reachable devices go on as a gang where they fill a rectangle, and alone
otherwise. The system map keeps the device that was lost: its link, once trained again, is used again. -/
def Chip.gangRest (c : Chip) : Chip :=
  let rest := c.spin.gangMap &&& reachMask c
  let c1 := { c with spin := { c.spin with broken := false } }
  if mapValid rest && decide (rest ≠ 1) then { c1 with spin := { c1.spin with gangMap := rest } }
  else { c1.setBit Reg.SPIN_STAT 29 false with spin := { c1.spin with left := true } }
/-- The round of a broken gang has ended (R530). -/
def Chip.gangRoundEnd (c : Chip) : Chip := if c.spin.broken then c.gangRest else c

end Sys2Proof.Machine
end

