-- ==== Sys2Proof/Machine/Tiles.lean ====
section
/-!
DEFINITION. Tiles as the power controller sees them: retirement (R64), the states T0 to T3 (R475 to R477), powering a
tile's domains (R41, R45), and the wake that a held request raises (R197, R272).
-/
namespace Sys2Proof.Machine

/-- Tile t. -/
def Chip.tile (c : Chip) (t : Nat) : Tile := mapGet {} c.tiles t
/-- Replace tile t. -/
def Chip.setTile (c : Chip) (t : Nat) (x : Tile) : Chip := { c with tiles := mapSet {} c.tiles t x }
/-- Change tile t. -/
def Chip.onTile (c : Chip) (t : Nat) (f : Tile → Tile) : Chip := c.setTile t (f (c.tile t))
/-- Is tile t retired (R64)? -/
def retired (c : Chip) (t : Nat) : Bool := c.bit (Reg.ASQ_TILE_STAT t) 31

/-- The state of tile t (R475). -/
def tileState (c : Chip) (t : Nat) : Nat := mapGet 3 c.pow.tileState t
/-- Note a tile's state and when it began; a tile in T0 or T1 has ACLK, so the array PLL runs (R476). -/
def Chip.noteTileState (c : Chip) (t st : Nat) : Chip :=
  { c with pow := { c.pow with
    stopped := if st < 2 then c.pow.stopped.filter (fun k => decide (k ≠ 0)) else c.pow.stopped
    tileState := mapSet 3 c.pow.tileState t st
    idleSince := if tileState c t = 0 ∨ tileState c t = 3 then mapSet 0 c.pow.idleSince t c.ns else c.pow.idleSince
    stateSince := mapSet 0 c.pow.stateSince t c.ns } }
/-- Put a tile into a state: one in T0 or T1 has its power-down, where one has begun, cancelled (R182, R274). -/
def Chip.setTileState (c : Chip) (t st : Nat) : Chip :=
  (if st < 2 then c.cancelDown (.tileLogic t) (tileNode t) else c).noteTileState t st
/-- Has tile t's power-down begun, and not committed (R274)? -/
def goingDown (c : Chip) (t : Nat) : Bool := downFor c (.tileLogic t)
/-- A tile whose power-down is cancelled: one that left T2 for T3 is in T1 (R182), any other in the state it left (R274). -/
def Chip.backToT1 (c : Chip) (t : Nat) : Chip :=
  if c.isOn (.tileLogic t) && decide (tileState c t = 2) then c.noteTileState t 1 else c
/-- A power-down that the port of a node has begun, and not committed, ends with the domain on (R182, R270, R274). -/
def Chip.abandonDown (c : Chip) (node : Nat) : Chip :=
  let c1 := match nodeTile node with
    | some t => c.backToT1 t
    | none => c
  { c1.setPort node (if mapGet 0 c1.noc.ports node = 1 then 1 else 0) with pow := { c1.pow with goingDown := c1.pow.goingDown.filter (fun e => decide (some e.1 ≠ nodeDomain node)) } }
/-- A tile's power-down is cancelled before its commit (R182, R274). -/
def Chip.cancelTile (c : Chip) (t : Nat) : Chip :=
  (if goingDown c t then c.backToT1 t else c).cancelDown (.tileLogic t) (tileNode t)
/-- Power tile t's domains (R45, R475): a plane-memory domain that powers on is cleared to 0 with valid check bits, and a logic domain
that powers on has every PE register 0 (R41) and a port that sleeps until its drain (R269); retired tiles keep their plane memory off
(R64). -/
def Chip.powerTile (c : Chip) (t : Nat) : Chip :=
  let c1 := if c.isOn (.tilePlane t) || retired c t then c else
    (c.onTile t (fun x => { x with planes := [], ecc := [], ftab := [], frames := [] })).switchOn (.tilePlane t)
  if c1.isOn (.tileLogic t) then c1 else
    (c1.onTile t (fun x => { x with C := 0, T := 0, M := 0, S := 0, NX := 0, lfsr := [] })).domainUp (.tileLogic t)
/-- Does a request for tile t meet a port in SLEEP whose tile it must wake (R272, R274)? -/
def needsWake (c : Chip) (t : Nat) : Bool :=
  !c.isOn (.tileLogic t) || (goingDown c t && decide (powerPort c (tileNode t) = 1))
/-- Bring tile t to T0: it is bound or staged (R116, R182). The Granary's request to a tile whose port sleeps is held and wakes it:
EV104 (R272, R276). -/
def Chip.holdTile (c : Chip) (t : Nat) : Chip :=
  if tileState c t = 0 then c else ((c.raiseIf (needsWake c t) 104).powerTile t).setTileState t 0
/-- Leave tile t to the power controller: T0 goes to T1 at once (R475), and the tile counts as idle from now (R476). -/
def Chip.releaseTile (c : Chip) (t : Nat) : Chip :=
  let c1 := if tileState c t = 0 then c.setTileState t 1 else c
  { c1 with pow := { c1.pow with idleSince := mapSet 0 c1.pow.idleSince t c.ns } }
/-- A tile's exit from T2 or T3 to T1 (R182, R274): its domains are on, and a drain opens its port; a power-down under way is
cancelled. (DESIGN CHOICE: log 102) -/
def Chip.exitTile (c : Chip) (t : Nat) : Chip :=
  if c.isOn (.tileLogic t) then c.cancelTile t else (c.powerTile t).setTileState t 1
/-- The wake that a held request for a tile raises (R197, R272): its logic is off, or its port is in SLEEP for a power-down that has
not committed. EV104, and the tile in T1. (DESIGN CHOICE: log 102) -/
def Chip.wakeTile (c : Chip) (t : Nat) : Chip := if needsWake c t then (c.exitTile t).raise 104 else c
/-- Tile t leaves T3 for T2 (R477): its plane memory powers on, cleared. -/
def Chip.tileToT2 (c : Chip) (t : Nat) : Chip :=
  let c1 := if retired c t then c else
    (c.onTile t (fun x => { x with planes := [], ecc := [], ftab := [], frames := [] })).switchOn (.tilePlane t)
  c1.setTileState t 2
/-- The quadrant of tile t (R33). -/
def quadrantOf (t : Nat) : Nat := 2 * (t / 16 / 8) + (t % 16) / 8
/-- A request reaches loft t: the tile's logic is woken (R197), and the quadrant leaves self-refresh and is idle from now (R204). -/
def Chip.reachLoft (c : Chip) (t : Nat) : Chip :=
  let c1 := (c.wakeTile t).setBit Reg.DRC_STAT (4 + quadrantOf t) false
  { c1 with dram := { c1.dram with usedAt := mapSet 0 c1.dram.usedAt (quadrantOf t) c1.ns } }

/-- The latency bound of a domain: the least tolerance of its classes (R476); values below 2 act as 2 (R487). -/
def tolBound (c : Chip) (classes : List Nat) : Nat :=
  classes.foldl (fun b k => Nat.min b (Nat.max 2 (c.fld (Reg.SYS_TOL1 + 4 * (k - 1)) 19 0))) (2 ^ 20)

/-- The state that R476 chooses for tile t, neither bound nor staged, by the bound and the dwell times. -/
def tileChoice (c : Chip) (t : Nat) : Nat :=
  let b := tolBound c [1, 3]
  let st := tileState c t
  let idle := c.ns - mapGet 0 c.pow.idleSince t
  let here := c.ns - mapGet 0 c.pow.stateSince t
  if 32 ≤ b ∧ (st = 3 ∨ 256000 ≤ idle) then 3
  else if 2 ≤ b ∧ (2 ≤ st ∨ 16000 ≤ here) then 2
  else 1

end Sys2Proof.Machine
end

