-- ==== Sys2Proof/Machine/Mem.lean ====
section
/-!
DEFINITION. The stacked DRAM as its loft controllers serve it: SECDED per 64-bit word (R198, R199), what is ready
(R202, R203, R205), and the accesses the blocks inside make to the common region.
-/
namespace Sys2Proof.Machine

/-- Count a corrected single-bit error in loft t (R198). -/
def Chip.dramCe (c : Chip) (t : Nat) : Chip :=
  ((c.countFld (Reg.DRC_LSTATt t) 29 22 1).raiseIf (c.fld (Reg.DRC_LSTATt t) 29 22 == 0) 112).lifeAdd 17 1

/-- Record a double-bit error in loft t at tile-local address a (R198): UE, the first address, EV113. -/
def Chip.dramUe (c : Chip) (t a : Nat) : Chip :=
  let c1 := c.setBit (Reg.DRC_LSTATt t) 31 true
  let c2 := if c1.bit Reg.DRC_UE_ADDR_HI 31 then c1 else
    (c1.setReg Reg.DRC_UE_ADDR_LO (BitVec.ofNat 32 a)).setReg Reg.DRC_UE_ADDR_HI
      (BitVec.ofNat 32 (2 ^ 31 + natBits a 39 32))
  (c2.raise 113).lifeAdd 18 1

/-- What the read of one 64-bit word of loft t finds and records (R198); true: the word is bad. -/
def Chip.dramCheckWord (c : Chip) (t a : Nat) : Bool × Chip :=
  match c.eccAt a with
  | .good => (false, c)
  | .single => (false, c.dramCe t)
  | .double => (true, c.dramUe t a)

/-- The 64-bit words an access of n bytes at a touches. -/
def wordsOf (a n : Nat) : List Nat :=
  (List.range ((a + n + 7) / 8 - a / 8)).map (fun i => a / 8 * 8 + 8 * i)

/-- Check a list of words; true: some word is bad. -/
def Chip.dramCheckWords (c : Chip) (t : Nat) : List Nat → Bool × Chip
  | [] => (false, c)
  | a :: rest =>
    let r := c.dramCheckWord t a
    let r' := r.2.dramCheckWords t rest
    (r.1 || r'.1, r'.2)

/-- Read n bytes of loft t (R198): the bytes, and whether they are poisoned. -/
def Chip.dramRead (c : Chip) (t a n : Nat) : List Byte × Bool × Chip :=
  let r := c.dramCheckWords t (wordsOf a n)
  (c.rdBytes a n, r.1, r.2)

/-- Write bytes to loft t (R199): a word that is not written whole is read first, and a double-bit error there refuses
the write of that word. Answers whether some word was refused. What the write means to the core is left to its caller. -/
def Chip.dramStore (c : Chip) (t a : Nat) (bs : List Byte) : Bool × Chip :=
  let n := bs.length
  let part := (wordsOf a n).filter (fun w => decide (w < a) || decide (a + n < w + 8))
  let r := c.dramCheckWords t part
  let bad := part.filter (fun w => c.eccAt w == .double)
  let keep := (List.range n).filter (fun i => !bad.contains ((a + i) / 8 * 8))
  let c1 := keep.foldl (fun c i => c.wr8 (a + i) (listGet 0 bs i)) r.2
  let c2 := ((wordsOf a n).filter (fun w => !bad.contains w)).foldl (fun c w => c.setEcc w .good) c1
  (r.1, c2)
/-- A write of DRAM that is performed as one step: the core sees it at once (R225, R234). -/
def Chip.dramWrite (c : Chip) (t a : Nat) (bs : List Byte) : Bool × Chip :=
  ((c.dramStore t a bs).1, (c.dramStore t a bs).2.snoopWrite a bs.length)

/-! ### The flash window (R346, R551) -/

/-- The 32-bit word at a window address as every initiator reads it: the lowest enabled patch unit that names it replaces it. -/
def xipWord (c : Chip) (a : Nat) : Nat :=
  match (List.range 16).find? (fun u => c.bit (Reg.DBG_PATCHu u) 31 &&
      decide (c.fld (Reg.DBG_PATCHu u) 27 2 = (a - 0x10000000) / 4)) with
  | some u => (c.reg (Reg.DBG_PATCHu u + 4)).toNat
  | none => c.rdNat a 4
/-- Bytes of the window as an initiator reads them. -/
def xipBytes (c : Chip) (a n : Nat) : List Byte :=
  if (List.range 16).any (fun u => c.bit (Reg.DBG_PATCHu u) 31) then
    (List.range n).map (fun i => BitVec.ofNat 8 (xipWord c ((a + i) / 4 * 4) / 256 ^ ((a + i) % 4)))
  else c.rdBytes a n

/-- Does the flash controller hold reads of the window (R347): while an operation runs, or XIP_HOLD is set? -/
def xipHeld (c : Chip) : Bool := c.xspi.running || c.bit Reg.XSPI_CTL 30
/-- The request timeout in NCLK, which is 1 ns (R253, R275). -/
def nocTimeout (c : Chip) : Nat := Nat.max 0x10000 (c.reg Reg.NOC_TIMEOUT).toNat
/-- The number of an initiator among those whose reads wait. -/
def initiatorNo : Initiator → Nat
  | .core => 0 | .engine => 1 | .host => 2 | .debugger => 3 | .transactions => 4 | .remote => 5 | .other => 6
/-- No response yet: the flash controller holds the read (R347). Never a network STATUS. -/
def respWait : Resp := { status := 5 }
/-- Has the read no response yet? -/
def waitsStill (r : Resp) : Bool := decide (r.status = 5)
/-- Does an access of the core to the address wait for NCLK: the I/O PLL is out of lock, and the address lies past the core's memories
(R479)? -/
def meshStops (c : Chip) (a : Nat) : Bool :=
  !nclkRuns c && match decodeAddr c a with
    | .itcm _ => false
    | .dtcm _ => false
    | .flash _ => true
    | .register _ => true
    | .silo _ => true
    | .loft _ _ => true
    | .remote _ _ => true
    | .nothing => true
/-- Does a fetch of the core wait, at the flash controller (R347) or for NCLK (R479)? -/
def coreWaits (c : Chip) : Bool := c.xspi.waits.any (fun e => decide (e.1 = 0)) || meshStops c c.core.pc.toNat
/-- The core gives up the read that waits, for an interrupt or a halt. -/
def Chip.dropWait (c : Chip) : Chip := { c with xspi := { c.xspi with waits := c.xspi.waits.filter (fun e => decide (e.1 ≠ 0)) } }

/-- Why loft t may not be reached (R202, R203, R205), none where it may. `common`: through the common view. -/
def dramBlocked (c : Chip) (t : Nat) (common : Bool) : Bool :=
  !c.bit Reg.DRC_STAT 31 || c.bit (Reg.DRC_LSTATt t) 30 || !c.isOn (.quadrant (quadrantOf t)) ||
    (common && (c.bit Reg.DRC_STAT 30 || c.bit Reg.DRC_CTL 7))

/-- Is the address in the common view (R28)? -/
def inCommon (a : Nat) : Bool := decide (0x800000000 ≤ a) && decide (a < 0x1000000000)

/-- A read by a block inside the part of n bytes within one 4 KiB line of DRAM: bytes, or none for an error response or
an uncorrectable word. -/
def Chip.blockRead (c : Chip) (a n : Nat) : Option (List Byte) × Chip :=
  match decodeAddr c a with
  | .loft t h =>
    if dramBlocked c t (inCommon a) then (none, c.reachLoft t)
    else
      let r := (c.reachLoft t).dramRead t h n
      (if r.2.1 then none else some r.1, r.2.2)
  | _ => (none, c)

/-- A write by a block inside the part, within one 4 KiB line of DRAM; an error response leaves it undone. -/
def Chip.blockWrite (c : Chip) (a : Nat) (bs : List Byte) : Bool × Chip :=
  match decodeAddr c a with
  | .loft t h => if dramBlocked c t (inCommon a) then (false, c.reachLoft t) else
      let r := (c.reachLoft t).dramWrite t h bs
      (!r.1, r.2)
  | _ => (false, c)

/-- A long read by a block inside the part, cut at 4 KiB lines of the common view: the bytes read (0 for a line that
answers an error), and whether all could be read. -/
def Chip.blockReadLong (c : Chip) : Nat → Nat → Nat → List Byte × Bool × Chip
  | 0, _, _ => ([], true, c)
  | fuel + 1, a, n =>
    if n = 0 then ([], true, c) else
    let k := Nat.min n (4096 - a % 4096)
    let r := c.blockRead a k
    let rest := r.2.blockReadLong fuel (a + k) (n - k)
    match r.1 with
    | some bs => (bs ++ rest.1, rest.2.1, rest.2.2)
    | none => (List.replicate k 0 ++ rest.1, false, rest.2.2)

/-- A write of the ITCM by an initiator other than the core is what fetch sees from now on (R232, R548). -/
def Chip.itcmSeen (c : Chip) (a n : Nat) : Chip :=
  { c with core := { c.core with itcm := c.core.itcm.filter (fun e => !(decide (a ≤ e.1) && decide (e.1 < a + n))) } }

/-! ### Rings (R157, R189) -/

/-- The address of a ring's first register, BASE_LO (R189, R293, R296, R416, R440). -/
def ringReg : RingId → Nat
  | .sq q => Reg.SQ_BASE_LO q.val
  | .cq q => Reg.CQ_BASE_LO q.val
  | .roundQueue => Reg.RQ_BASE_LO
  | .ethRx m => Reg.ETHRX_BASE_LO m.val
  | .ethTx m => Reg.ETHTX_BASE_LO m.val
  | .ethTxb m => Reg.ETHTXB_BASE_LO m.val
  | .canRx k => Reg.CANRX_BASE_LO k.val
  | .canTx k => Reg.CANTX_BASE_LO k.val
  | .picture => Reg.PKRPIC_BASE_LO
  | .pictureStatus => Reg.PKRSTATQ_BASE_LO

/-- LOG2 of a ring, 0 to 3 meaning 4 (R189). -/
def ringLog2 (c : Chip) (r : Nat) : Nat := Nat.max 4 (c.fld (r + 4) 19 16)
/-- The number of entries of a ring. -/
def ringSize (c : Chip) (r : Nat) : Nat := 2 ^ ringLog2 c r
/-- The base address of a ring whose entries have `esz` bytes: bits below its own size are ignored (R189). -/
def ringBase (c : Chip) (r esz : Nat) : Nat :=
  let b := c.fld (r + 4) 7 0 * 2 ^ 32 + (c.reg r).toNat / 16 * 16
  b / (esz * ringSize c r) * (esz * ringSize c r)
/-- HEAD of a ring, modulo its size. -/
def ringHead (c : Chip) (r : Nat) : Nat := c.fld (r + 8) 15 0 % ringSize c r
/-- TAIL of a ring, modulo its size. -/
def ringTail (c : Chip) (r : Nat) : Nat := c.fld (r + 12) 15 0 % ringSize c r
/-- Empty when HEAD = TAIL (R157). -/
def ringEmpty (c : Chip) (r : Nat) : Bool := ringHead c r == ringTail c r
/-- Full when TAIL + 1 = HEAD modulo the size (R157). -/
def ringFull (c : Chip) (r : Nat) : Bool := (ringTail c r + 1) % ringSize c r == ringHead c r
/-- PHASE of the pass under way of a ring that the part produces (R157). -/
def ringPhase (c : Chip) (r : Nat) : Bool := mapGet true c.grn.phase r
/-- Advance TAIL after producing an entry, inverting PHASE at each new pass (R157). -/
def Chip.ringProduced (c : Chip) (r : Nat) : Chip :=
  let t := (ringTail c r + 1) % ringSize c r
  let c1 := c.setFld (r + 12) 15 0 t
  if t = 0 then { c1 with grn := { c1.grn with phase := mapSet true c1.grn.phase r (!ringPhase c r) } } else c1
/-- Advance HEAD after consuming an entry. -/
def Chip.ringConsumed (c : Chip) (r : Nat) : Chip := c.setFld (r + 8) 15 0 ((ringHead c r + 1) % ringSize c r)
/-- The consumer of a ring that the part consumes and writes completions into advances HEAD, inverting PHASE at each new pass
(R414, R443). -/
def Chip.ringCompleted (c : Chip) (r : Nat) : Chip :=
  let h := (ringHead c r + 1) % ringSize c r
  let c1 := c.setFld (r + 8) 15 0 h
  if h = 0 then { c1 with grn := { c1.grn with phase := mapSet true c1.grn.phase r (!ringPhase c r) } } else c1
/-- The address of entry i. -/
def ringEntry (c : Chip) (r esz i : Nat) : Nat := ringBase c r esz + esz * i

/-- A write of BASE_LO (hi = false) or BASE_HI takes effect only while the ring is empty, and then resets HEAD, TAIL and
PHASE (R189). -/
def Chip.ringBaseWrite (c : Chip) (r : Nat) (hi : Bool) (v : Word) : Chip :=
  if ringEmpty c r then
    let a := if hi then r + 4 else r
    let row := regRow a
    let c1 := match row with
      | some x => c.setReg a (rowWrite x (c.reg a) v)
      | none => c
    let c2 := (c1.setFld (r + 8) 15 0 0).setFld (r + 12) 15 0 0
    { c2 with grn := { c2.grn with phase := mapSet true c2.grn.phase r true } }
  else c

end Sys2Proof.Machine
end

