-- ==== Sys2Proof/Machine/Paging.lean ====
section
/-!
DEFINITION. Tiles and pages: planes and their check bits (R42 to R46), the frame table (R44), the Granary's record of
a context and its page map (R147, R150, R152), page frames and page transfers (R174 to R181).
-/
namespace Sys2Proof.Machine

/-! ### Tiles and planes -/

/-- The tiles bound in the running round, in order of placement (R35). -/
def boundTiles (c : Chip) : List Nat :=
  match c.grn.running with
  | some r => r.bound.map Prod.fst
  | none => []
/-- The context bound to tile t in the running round. -/
def boundCtx (c : Chip) (t : Nat) : Option Nat :=
  match c.grn.running with
  | some r => (r.bound.find? (fun p => p.1 == t)).map Prod.snd
  | none => none

/-- Every PE. -/
def allPes : Plane := BitVec.allOnes 4096
/-- A plane built PE by PE. -/
def planeOfFn (f : Nat → Bool) : Plane := BitVec.ofNat 4096 (bitsOfFn f 4096)
/-- The bit of PE i. -/
def peBit (p : Plane) (i : Nat) : Bool := p.toNat.testBit i
/-- The skein of PE i: 8 × 8 PEs (R62). -/
def skeinOf (i : Nat) : Nat := i / 64 / 8 * 8 + i % 64 / 8
/-- The PEs of skein k. -/
def skeinMask (k : Nat) : Plane :=
  BitVec.ofNat 4096 ((List.range 8).foldl (fun a y => a + 255 * 2 ^ (64 * (k / 8 * 8 + y) + k % 8 * 8)) 0)

/-- Physical plane p of a tile. -/
def planeAt (x : Tile) (p : Nat) : Plane := mapGet 0 x.planes p
/-- The check bits of row (p, skein k). -/
def rowEcc (x : Tile) (p k : Nat) : Ecc := mapGet Ecc.good x.ecc (p * 64 + k)
/-- The rows of physical plane p that hold an error. -/
def badRows (x : Tile) (p : Nat) : List (Nat × Ecc) :=
  (x.ecc.filter (fun e => decide (e.1 / 64 = p))).map (fun e => (e.1 % 64, e.2))

/-- Record that cause `k` of R149 applies to tile t in the running round. -/
def Chip.addCause (c : Chip) (t k : Nat) : Chip :=
  let l := mapGet [] c.grn.causes t
  if l.contains k then c else { c with grn := { c.grn with causes := mapSet [] c.grn.causes t (l ++ [k]) } }

/-- Record what a check of one row finds (R46): CE_COUNT and EV81, or UE and EV82; a double-bit error found by a PE
read or a merge marks the bound context (R47). `n` is the number of reads that meet the row. -/
def Chip.noteRowN (c : Chip) (t : Nat) (pe : Bool) (n : Nat) (e : Ecc) : Chip :=
  match e with
  | .good => c
  | .single =>
    ((c.countFld (Reg.ASQ_TILE_STAT t) 29 22 n).raiseIf (c.fld (Reg.ASQ_TILE_STAT t) 29 22 == 0) 81).lifeAdd 15 n
  | .double =>
    let c1 := ((c.setBit (Reg.ASQ_TILE_STAT t) 30 true).raise 82).lifeAdd 16 n
    if pe then c1.addCause t 2 else c1

/-- One read of a row. -/
def Chip.noteRow (c : Chip) (t : Nat) (pe : Bool) (e : Ecc) : Chip := c.noteRowN t pe 1 e

/-- The reads a vendor routine makes of a plane: how often it reads a row is not published (R46), so a row with an error
is met one time and a free number of times more. -/
def Chip.notePlaneVendor (c : Chip) (t p : Nat) : Chip :=
  (badRows (c.tile t) p).foldl (fun c r =>
    let q := c.drawFree
    q.2.noteRowN t true (1 + q.1.toNat) r.2) c

/-- The check of a whole plane read: every row is checked once (R46). -/
def Chip.notePlane (c : Chip) (t : Nat) (pe : Bool) (p : Nat) : Chip :=
  (badRows (c.tile t) p).foldl (fun c r => c.noteRow t pe r.2) c

/-- Write the PEs of `mask` of physical plane p (R43, R46): a row written whole takes fresh check bits; a partly written
row is checked as a read is, a single-bit error is corrected, a double-bit error stays. -/
def Chip.writePlane (c : Chip) (t p : Nat) (mask v : Plane) : Chip :=
  let x := c.tile t
  let new := (planeAt x p &&& ~~~mask) ||| (v &&& mask)
  let rows := (badRows x p).filter (fun r => decide (mask &&& skeinMask r.1 ≠ 0))
  let whole := rows.filter (fun r => decide (mask &&& skeinMask r.1 = skeinMask r.1))
  let part := rows.filter (fun r => decide (mask &&& skeinMask r.1 ≠ skeinMask r.1))
  let c1 := part.foldl (fun c r => c.noteRow t true r.2) c
  c1.onTile t (fun y => { y with
    planes := mapSet 0 y.planes p new
    ecc := (whole ++ part.filter (fun r => decide (r.2 = Ecc.single))).foldl
      (fun e r => mapSet Ecc.good e (p * 64 + r.1) Ecc.good) y.ecc })

/-- What virtual plane v of tile t translates to (R44, R180): a physical plane, the null frame of an invalid page, or a
valid page that is not resident. -/
inductive Xlate where
  | phys (p : Nat) | nullFrame | missing (page : Nat)
  deriving DecidableEq, Repr

/-- Translate a virtual plane through a tile's frame table (R44). -/
def translate (x : Tile) (v : Nat) : Xlate :=
  let e := mapGet {} x.ftab (v / 32)
  if !e.valid then .nullFrame
  else if e.resident then .phys (32 * e.frame + v % 32)
  else .missing (v / 32)

/-- A plane as a PE operation reads it: the null frame, and a page for which no frame was found, read as 0 (R180,
R181). -/
def readVirtual (x : Tile) (v : Nat) : Plane :=
  match translate x v with
  | .phys p => planeAt x p
  | _ => 0

/-- A free plane. -/
def Chip.drawPlane (c : Chip) (t : Nat) : Plane × Chip := (Config.linkBits c.fresh t, { c with fresh := c.fresh + 1 })

/-! ### Contexts -/

/-- The Granary's record of context n. -/
def Chip.ctx (c : Chip) (n : Nat) : Ctx := mapGet {} c.grn.ctxs n
/-- Replace the record of context n. -/
def Chip.setCtx (c : Chip) (n : Nat) (x : Ctx) : Chip :=
  { c with grn := { c.grn with ctxs := mapSet {} c.grn.ctxs n x } }
/-- Field [hi:lo] of descriptor word w of the Granary's copy (R147). -/
def ctxFld (x : Ctx) (w hi lo : Nat) : Nat := natBits (listGet 0 x.desc w) hi lo
/-- Set a field of the copy. -/
def ctxSet (x : Ctx) (w hi lo v : Nat) : Ctx :=
  { x with desc := listSet x.desc w (natSetBits (listGet 0 x.desc w) hi lo v) }
/-- The address of descriptor n (R145). -/
def descAddr (c : Chip) (n : Nat) : Nat := c.fld Reg.GRN_DTAB 15 0 * 2 ^ 24 + 64 * n
/-- The page-map block of a context (R147): 512-byte aligned. -/
def pmapAddr (x : Ctx) : Nat := ctxFld x 3 7 0 * 2 ^ 32 + listGet 0 x.desc 2 / 512 * 512
/-- PCOUNT, at most 128 (R147). -/
def pcount (x : Ctx) : Nat := Nat.min 128 (ctxFld x 3 15 8)
/-- Page-map entry p, 0 at and beyond PCOUNT (R152). -/
def pmapEntry (x : Ctx) (p : Nat) : Nat := if p < pcount x then listGet 0 x.pmap p else 0
/-- KERNEL_ID, CHAIN_POS, CHAIN_LEN and the chain (R147). -/
def ctxKernel (x : Ctx) : Nat := ctxFld x 1 9 0
/-- CHAIN_POS. -/
def ctxChainPos (x : Ctx) : Nat := ctxFld x 1 12 10
/-- CHAIN_LEN. -/
def ctxChainLen (x : Ctx) : Nat := ctxFld x 9 30 28
/-- CH[i]. -/
def ctxChain (x : Ctx) (i : Nat) : Nat :=
  match i with
  | 0 => ctxFld x 8 9 0
  | 1 => ctxFld x 8 25 16
  | 2 => ctxFld x 9 9 0
  | _ => ctxFld x 9 25 16
/-- HOME. -/
def ctxHome (x : Ctx) : Nat := ctxFld x 1 23 16
/-- BOUND. -/
def ctxBound (x : Ctx) : Nat := ctxFld x 1 31 24
/-- FLAGS bit i (R148). -/
def ctxFlag (x : Ctx) (i : Nat) : Bool := (ctxFld x 0 31 24).testBit i
/-- Set FLAGS bit i. -/
def ctxSetFlag (x : Ctx) (i : Nat) (b : Bool) : Ctx := ctxSet x 0 (24 + i) (24 + i) b.toNat
/-- DEADLINE (R147). -/
def ctxDeadline (x : Ctx) : Nat := listGet 0 x.desc 4 + ctxFld x 5 15 0 * 2 ^ 32
/-- CQ. -/
def ctxCq (x : Ctx) : Nat := ctxFld x 14 3 0

/-- Write a context's record and, write-through, the descriptor words in DRAM (R145): the user bytes 0x28 to 0x37 are
software's and are left as they are in memory (R150). -/
def Chip.putCtx (c : Chip) (n : Nat) (x0 : Ctx) : Chip :=
  let x := ctxSet x0 0 21 18 x0.state
  let c1 := c.setCtx n x
  let a := descAddr c n
  let lo := (x.desc.take 10).flatMap (leBytes 4)
  let hi := (x.desc.drop 14).flatMap (leBytes 4)
  ((c1.blockWrite a lo).2.blockWrite (a + 0x38) hi).2

/-- Write the user words of a descriptor, bytes 0x28 to 0x37, from the Granary's record: a capture port's USER1 and USER0 (R147,
R167). -/
def Chip.putUser (c : Chip) (n : Nat) : Chip :=
  (c.blockWrite (descAddr c n + 0x28) ((((c.ctx n).desc.drop 10).take 4).flatMap (leBytes 4))).2

/-- Write page-map entry p of context n, write-through (R145, R152). -/
def Chip.putPmap (c : Chip) (n p v : Nat) : Chip :=
  let x := c.ctx n
  (c.setCtx n { x with pmap := listSet x.pmap p v } |>.blockWrite (pmapAddr x + 4 * p) (leBytes 4 v)).2

/-! ### Page frames -/

/-- The home address of a loft page (R153). -/
def loftPage (loft lpage : Nat) : Nat := loftBase loft + lpage * 16384

/-- A frame's plane data and its errors written to a loft page (R46, R176): a row with a single-bit error goes out
corrected, a row with a double-bit error poisons the eight DRAM words that hold its PEs. The request wakes the loft's tile and ends
self-refresh (R197, R204); a loft that answers with an error takes nothing. (DESIGN CHOICE: log 132) -/
def Chip.pageOut (c0 : Chip) (t frame loft lpage : Nat) : Chip :=
  let base := loftPage loft lpage
  let c := c0.reachLoft loft
  let off := dramBlocked c loft false
  (List.range 32).foldl (fun c i =>
    let p := 32 * frame + i
    let x := c.tile t
    let bad := badRows x p
    let c1 := bad.foldl (fun c r => c.noteRow t false r.2) c
    if off then c1 else
    let c2 := (c1.wrBytes (base + 512 * i) (leBytes 512 (planeAt x p).toNat)).snoopWrite (base + 512 * i) 512
    let c3 := (List.range 64).foldl (fun c y => c.setEcc (base + 512 * i + 8 * y) .good) c2
    (bad.filter (fun r => decide (r.2 = Ecc.double))).foldl (fun c r =>
      (List.range 8).foldl (fun c y => c.setEcc (base + 512 * i + 8 * (r.1 / 8 * 8 + y)) .double) c) c3) c

/-- A loft page read into a frame (R176, R198, R266): the request wakes the loft's tile and ends self-refresh (R197, R204); each word
is checked, and a bad word marks the eight skein rows that hold its bits. What a loft that answers with an error leaves in the frame
is not stated: free planes. (DESIGN CHOICE: log 132) -/
def Chip.pageIn (c0 : Chip) (t frame loft lpage : Nat) : Chip :=
  let base := loftPage loft lpage
  let c := c0.reachLoft loft
  let off := dramBlocked c loft false
  (List.range 32).foldl (fun c i =>
    let p := 32 * frame + i
    let a := base + 512 * i
    if off then
      let q := c.drawPlane t
      q.2.onTile t (fun x => { x with
        planes := mapSet 0 x.planes p q.1, ecc := x.ecc.filter (fun e => decide (e.1 / 64 ≠ p)) })
    else
    let v : Plane := BitVec.ofNat 4096 (c.rdNat a 512)
    let r := c.dramCheckWords loft (wordsOf a 512)
    let rows := (List.range 64).filter (fun y => c.eccAt (a + 8 * y) == .double)
    r.2.onTile t (fun x => { x with
      planes := mapSet 0 x.planes p v
      ecc := rows.foldl (fun e y => (List.range 8).foldl (fun e k => mapSet Ecc.good e (p * 64 + (y / 8 * 8 + k)) .double) e)
        (x.ecc.filter (fun e => decide (e.1 / 64 ≠ p))) })) c

/-- A frame filled with zeros for a ZERO page (R152, R176). -/
def Chip.pageZero (c : Chip) (t frame : Nat) : Chip :=
  c.onTile t (fun x => { x with
    planes := x.planes.filter (fun e => decide (e.1 / 32 ≠ frame))
    ecc := x.ecc.filter (fun e => decide (e.1 / 64 / 32 ≠ frame)) })

/-- Write a DIRTY page of a frame back to its loft page: DIRTY and ZERO clear (R152, R174). -/
def Chip.writeBack (c : Chip) (t frame : Nat) : Chip :=
  match (c.tile t).frames.find? (fun e => e.1 == frame) with
  | some (_, u) =>
    if u.dirty then
      let e := listGet 0 (c.ctx u.ctx).pmap u.page
      let c1 := c.pageOut t frame (natBits e 19 12) (natBits e 11 0)
      let c2 := c1.putPmap u.ctx u.page (natSetBits (natSetBits e 29 29 0) 27 27 0)
      c2.onTile t (fun x => { x with frames := x.frames.map (fun f =>
        if f.1 = frame then (f.1, { f.2 with dirty := false }) else f) })
    else c
  | none => c

/-- Empty a frame without writing it back: RES clears, and the bound context's frame table forgets it. -/
def Chip.dropFrame (c : Chip) (t frame : Nat) : Chip :=
  match (c.tile t).frames.find? (fun e => e.1 == frame) with
  | some (_, u) =>
    let e := listGet 0 (c.ctx u.ctx).pmap u.page
    let c1 := c.putPmap u.ctx u.page (natSetBits (natSetBits e 30 30 0) 29 29 0)
    c1.onTile t (fun x => { x with
      frames := mapErase frame x.frames
      ftab := if boundCtx c t = some u.ctx then
          mapSet {} x.ftab u.page { mapGet {} x.ftab u.page with resident := false }
        else x.ftab })
  | none => c

/-- Evict a frame: a DIRTY page is written back first (R175). (DESIGN CHOICE: log 24) -/
def Chip.evict (c : Chip) (t frame : Nat) : Chip := (c.writeBack t frame).dropFrame t frame

/-- The context staged on tile t. -/
def stagedCtx (c : Chip) (t : Nat) : Option Nat :=
  match c.grn.staged with
  | some r => (r.bound.find? (fun p => p.1 == t)).map Prod.snd
  | none => none

/-- The least recently used of some frames. -/
def leastUsed : List (Nat × FrameUse) → Option Nat
  | [] => none
  | f :: t => some (t.foldl (fun b g => if g.2.used < b.2.used then g else b) f).1

/-- The frame that R175 gives on tile t for a page-in of kind `why`; `touched` are the bound context's pages that the
executing macro-instruction touches. (DEDUCED: log 133) -/
def frameChoice (c : Chip) (t : Nat) (why : MoveWhy) (touched : List Nat) : Option Nat :=
  let x := c.tile t
  let busy := (c.grn.moves.filter (fun m => m.tile == t)).map PageMove.frame
  let empty := (List.range 32).find? (fun f => !(x.frames.any (fun e => e.1 == f)) && !busy.contains f)
  let warm := x.frames.filter (fun e => boundCtx c t != some e.2.ctx && stagedCtx c t != some e.2.ctx)
  let clean := leastUsed (warm.filter (fun e => !e.2.dirty))
  let dirty := leastUsed (warm.filter (fun e => e.2.dirty))
  let staged := leastUsed (x.frames.filter (fun e => stagedCtx c t == some e.2.ctx && boundCtx c t != some e.2.ctx))
  let bound := leastUsed (x.frames.filter (fun e => boundCtx c t == some e.2.ctx && !touched.contains e.2.page))
  let first := empty.or (clean.or dirty)
  match why with
  | .staging => first
  | .declared => first.or staged
  | .fault => (first.or staged).or bound

/-- The rank of a page-in on its tile's channel (R177, R196): a fault's first, then declared pages, then staging. -/
def moveRank : MoveWhy → Nat
  | .fault => 0 | .declared => 1 | .staging => 2
/-- Put a page-in behind those of its rank or above (R177, R179). -/
def insertMove (m : PageMove) : List PageMove → List PageMove
  | [] => [m]
  | h :: t => if moveRank m.why < moveRank h.why then m :: h :: t else h :: insertMove m t
/-- The page-ins of every channel with one more (R177, R179, R196): the first of a tile's is under way, and stays first. -/
def addMove (m : PageMove) (l : List PageMove) : List PageMove :=
  let mine := l.filter (fun x => x.tile == m.tile)
  l.filter (fun x => x.tile != m.tile) ++ mine.take 1 ++ insertMove m (mine.drop 1)

/-- Queue the page-in of page p of context n on tile t (R175, R177, R179): the frame is chosen and emptied; answers
whether a frame was found. A page already on its way is left alone. (DESIGN CHOICE: log 24) -/
def Chip.queuePage (c : Chip) (t n p : Nat) (why : MoveWhy) (touched : List Nat) : Bool × Chip :=
  if c.grn.moves.any (fun m => m.tile == t && m.ctx == n && m.page == p) then (true, c) else
  match frameChoice c t why touched with
  | some f =>
    let c1 := c.evict t f
    let m : PageMove := { tile := t, ctx := n, page := p, frame := f, why := why }
    (true, { c1 with grn := { c1.grn with moves := addMove m c1.grn.moves } })
  | none => (false, c)

/-- The page-in of a move completes (R176): the frame is filled, the page map shows RES and FRAME, and the frame table
follows when the page is the bound context's. -/
def Chip.finishMove (c : Chip) (m : PageMove) : Chip :=
  let e := listGet 0 (c.ctx m.ctx).pmap m.page
  let c1 := if natBits e 27 27 = 1 then c.pageZero m.tile m.frame
    else c.pageIn m.tile m.frame (natBits e 19 12) (natBits e 11 0)
  let c2 := c1.putPmap m.ctx m.page (natSetBits (natSetBits e 30 30 1) 24 20 m.frame)
  let c3 := c2.onTile m.tile (fun x => { x with
    frames := mapInsert m.frame { ctx := m.ctx, page := m.page, used := c2.grn.useTick } (mapErase m.frame x.frames)
    ftab := if boundCtx c2 m.tile = some m.ctx then
        mapSet {} x.ftab m.page { valid := true, resident := true, frame := m.frame }
      else x.ftab })
  { c3 with grn := { c3.grn with
    moves := c3.grn.moves.erase m
    useTick := c3.grn.useTick + 1 } }

/-- Mark a page of the bound context on tile t as written: DIRTY in the page map and in the frame (R174). -/
def Chip.markDirty (c : Chip) (t page : Nat) : Chip :=
  match boundCtx c t with
  | some n =>
    let x := c.tile t
    match x.frames.find? (fun f => f.2.ctx == n && f.2.page == page) with
    | some (f, u) =>
      if u.dirty then c else
      let e := listGet 0 (c.ctx n).pmap page
      (c.putPmap n page (natSetBits e 29 29 1)).onTile t (fun x => { x with
        frames := x.frames.map (fun g => if g.1 = f then (g.1, { g.2 with dirty := true }) else g) })
    | none => c
  | none => c

/-- Note that the pages of the bound context were used (R175's order). -/
def Chip.stampUse (c : Chip) (t : Nat) (pages : List Nat) : Chip :=
  let n := boundCtx c t
  c.onTile t (fun x => { x with frames := x.frames.map (fun f =>
    if n = some f.2.ctx ∧ pages.contains f.2.page then (f.1, { f.2 with used := c.grn.useTick }) else f) })

/-- Write the PEs of `mask` of virtual plane v in tile t: writes to the null frame are discarded (R180). -/
def Chip.writeVirtual (c : Chip) (t v : Nat) (mask value : Plane) : Chip :=
  match translate (c.tile t) v with
  | .phys p => (c.writePlane t p mask value).markDirty t (v / 32)
  | _ => c

/-- Read virtual plane v in tile t with the row checks of R46. -/
def Chip.readChecked (c : Chip) (t v : Nat) : Chip :=
  match translate (c.tile t) v with
  | .phys p => c.notePlane t true p
  | _ => c

/-- The reads of a vendor routine. -/
def Chip.readVendor (c : Chip) (t v : Nat) : Chip :=
  match translate (c.tile t) v with
  | .phys p => c.notePlaneVendor t p
  | _ => c

/-- The stall record: a fault stall, or the wait for pages in transit that R177 calls a late-prefetch stall. -/
structure TouchResult where
  faults : List (Nat × Nat) := []       -- (tile, page) whose fault starts a page-in now
  late   : List (Nat × Nat) := []       -- (tile, page) already on their way
  deriving DecidableEq, Repr

/-- Translate pages in one tile (R36, R77, R179 to R181): an invalid page marks cause 0x03, a missing page faults or
waits, and a fault that finds no frame is frame exhaustion, cause 0x04, whose tile is not counted in GRN_KFAULT: it starts no
transfer. `spared`: the pages that the macro-instruction touches (R175). (DESIGN CHOICE: log 134) -/
def Chip.touchTile (c : Chip) (t : Nat) (pages spared : List Nat) : TouchResult × Chip :=
  pages.foldl (fun (r : TouchResult × Chip) p =>
    let c := r.2
    match translate (c.tile t) (32 * p) with
    | .phys _ => r
    | .nullFrame => (r.1, c.addCause t 3)
    | .missing _ =>
      match boundCtx c t with
      | some n =>
        if c.grn.moves.any (fun m => m.tile == t && m.ctx == n && m.page == p) then
          ({ r.1 with late := r.1.late ++ [(t, p)] }, c)
        else
          let q := c.queuePage t n p .fault spared
          if q.1 then ({ r.1 with faults := r.1.faults ++ [(t, p)] }, q.2) else (r.1, q.2.addCause t 4)
      | none => r) ({}, c)

/-- The running macro-instruction touches pages (R175). -/
def Chip.notePages (c : Chip) (pages : List Nat) : Chip :=
  { c with seq := { c.seq with running := c.seq.running.map (fun r => { r with pages := (r.pages ++ pages).eraseDups }) } }
/-- The pages that the running macro-instruction has touched. -/
def pagesTouched (c : Chip) : List Nat :=
  match c.seq.running with
  | some r => r.pages
  | none => []

/-- Translate a set of virtual planes in every bound tile (R36). Answers whether the array may go on; otherwise the
array is held: a fault stall, counted and raised at its start (R179), or a late-prefetch wait (R177). A translation that finds
faulting pages and pages in transit at once is a fault stall alone. (DESIGN CHOICE: log 134) -/
def Chip.touch (c0 : Chip) (planes : List Nat) : Bool × Chip :=
  let pages := (planes.map (fun v => v / 32)).eraseDups
  let c := c0.notePages pages
  let r := (boundTiles c).foldl (fun (a : TouchResult × Chip) t =>
    let q := a.2.touchTile t pages (pagesTouched c)
    ({ faults := a.1.faults ++ q.1.faults, late := a.1.late ++ q.1.late }, q.2)) ({}, c)
  let c1 := (boundTiles c).foldl (fun c t => c.stampUse t pages) r.2
  let c2 := { c1 with grn := { c1.grn with useTick := c1.grn.useTick + 1 } }
  if r.1.faults.isEmpty && r.1.late.isEmpty then (true, c2)
  else if r.1.faults.isEmpty then
    (false, { (c2.wrapCount Reg.GRN_LATE_PF 1 58) with
      grn := { (c2.wrapCount Reg.GRN_LATE_PF 1 58).grn with
        stall := some { since := c.ns, isFault := false, waits := r.1.late } } })
  else
    let k := match c.grn.running with
      | some q => q.kernel
      | none => 0
    let tiles := (r.1.faults.map Prod.fst).eraseDups
    let c3 := c2.wrapCount (Reg.GRN_KFAULTk k) tiles.length 58
    let c4 := (c3.setBit Reg.GRN_STAT 28 true).raise 53
    (false, { c4 with grn := { c4.grn with
      stall := some { since := c.ns, isFault := true, waits := r.1.faults ++ r.1.late } } })

/-- The TOUCH microwords of a vendor routine from the k-th on (R131, R178), each one translating one group: the first that stalls holds
the array, and the routine goes on from it. -/
def Chip.touchGroups (c : Chip) (gs : List (List Nat)) : Bool × Chip :=
  gs.foldl (fun (a : Bool × Chip) g =>
    if !a.1 then a else
    let q := a.2.touch g
    if q.1 then (true, { q.2 with seq := { q.2.seq with running := q.2.seq.running.map (fun r => { r with touches := r.touches + 1 }) } })
    else q) (true, c)

end Sys2Proof.Machine
end

