-- ==== Sys2Proof/Machine/Float.lean ====
section
/-!
DEFINITION. IEEE 754 binary arithmetic for both widths of the part, binary16 in the array (R88, R105) and binary32 in
the Distaff core (R245 to R249): unpacking, one exact value, one rounding.
-/
namespace Sys2Proof.Machine

/-- A binary format: precision (with the hidden bit), least and greatest normal exponent, width of the exponent field. -/
structure FpFormat where
  prec : Nat
  emin : Int
  emax : Int
  ebits : Nat
  deriving DecidableEq, Repr

/-- binary16 (R88). -/
def fpHalf : FpFormat := ⟨11, -14, 15, 5⟩
/-- binary32 (R245). -/
def fpSingle : FpFormat := ⟨24, -126, 127, 8⟩

/-- The four rounding directions of R72 and of FPSR.RM (R235). -/
inductive FpRound where
  | zero | up | even | down
  deriving DecidableEq, Repr

/-- The code of a rounding direction: 0b00 toward zero, 0b01 toward +∞, 0b10 nearest-even, 0b11 toward −∞ (R72, R235). -/
def fpRoundOf : Nat → FpRound
  | 0 => .zero
  | 1 => .up
  | 2 => .even
  | _ => .down

/-- The flags of one operation. -/
structure FpFlags where
  invalid   : Bool := false
  divZero   : Bool := false
  overflow  : Bool := false
  underflow : Bool := false
  inexact   : Bool := false
  deriving DecidableEq, Repr

/-- An unpacked datum; a finite value is (−1)^neg · m · 2^e. -/
inductive Fp where
  | nan (signalling : Bool)
  | inf (neg : Bool)
  | fin (neg : Bool) (m : Nat) (e : Int)
  deriving DecidableEq, Repr

/-- The width of a datum of the format. -/
def fpWidth (f : FpFormat) : Nat := f.prec + f.ebits

/-- Unpack a datum of the format. -/
def fpUnpack (f : FpFormat) (x : Nat) : Fp :=
  let frac := x % 2 ^ (f.prec - 1)
  let ex := (x >>> (f.prec - 1)) % 2 ^ f.ebits
  let neg := x.testBit (fpWidth f - 1)
  if ex = 2 ^ f.ebits - 1 then
    if frac = 0 then .inf neg else .nan (!frac.testBit (f.prec - 2))
  else if ex = 0 then .fin neg frac (f.emin - (f.prec - 1 : Nat))
  else .fin neg (frac + 2 ^ (f.prec - 1)) (f.emin - (f.prec - 1 : Nat) + ((ex : Int) - 1))

/-- The quiet NaN every NaN result is (R88: 0x7E00; R245: 0x7FC0_0000). -/
def fpNan (f : FpFormat) : Nat := (2 ^ f.ebits - 1) * 2 ^ (f.prec - 1) + 2 ^ (f.prec - 2)

/-- The sign bit of a result. -/
def fpSign (f : FpFormat) (neg : Bool) : Nat := if neg then 2 ^ (fpWidth f - 1) else 0

/-- An infinity. -/
def fpInf (f : FpFormat) (neg : Bool) : Nat := fpSign f neg + (2 ^ f.ebits - 1) * 2 ^ (f.prec - 1)

/-- The largest finite magnitude, signed. -/
def fpMax (f : FpFormat) (neg : Bool) : Nat := fpInf f neg - 1

/-- A signed zero. -/
def fpZero (f : FpFormat) (neg : Bool) : Nat := fpSign f neg

/-- Does a magnitude whose discarded part is `r` of `2^k` round up in its magnitude? `q` is the kept part. -/
def fpRoundsUp (mode : FpRound) (neg : Bool) (q r k : Nat) : Bool :=
  match mode with
  | .zero => false
  | .up => !neg && decide (r ≠ 0)
  | .down => neg && decide (r ≠ 0)
  | .even => decide (2 ^ k < 2 * r) || (decide (2 * r = 2 ^ k) && q.testBit 0)

/-- A magnitude with its low `k` bits rounded away, and whether anything was lost. -/
def fpCut (mode : FpRound) (neg : Bool) (m k : Nat) : Nat × Bool :=
  let q := m / 2 ^ k
  let r := m % 2 ^ k
  (q + (fpRoundsUp mode neg q r k).toNat, decide (r ≠ 0))

/-- Round m · 2^e to the quantum 2^q: the multiple of the quantum, and whether it is inexact. -/
def fpQuantize (mode : FpRound) (neg : Bool) (m : Nat) (e q : Int) : Nat × Bool :=
  if q ≤ e then (m * 2 ^ (e - q).toNat, false) else fpCut mode neg m (q - e).toNat

/-- Round an exact non-zero or zero value (−1)^neg · m · 2^e into the format, detecting tininess after rounding
(R88, R105). Both chapters detect tininess after rounding. -/
def fpPack (f : FpFormat) (mode : FpRound) (neg : Bool) (m : Nat) (e : Int) : Nat × FpFlags :=
  if m = 0 then (fpZero f neg, {}) else
  let top : Int := e + (m.log2 : Int)
  let p1 : Int := ((f.prec - 1 : Nat) : Int)
  -- the rounding with an unbounded exponent, which decides tininess and overflow (R105)
  let u := fpQuantize mode neg m e (top - p1)
  let utop : Int := if 2 ^ f.prec ≤ u.1 then top + 1 else top
  if f.emax < utop then
    let away := match mode with
      | .zero => false
      | .up => !neg
      | .down => neg
      | .even => true
    (if away then fpInf f neg else fpMax f neg, { overflow := true, inexact := true })
  else
    let qmin : Int := f.emin - p1
    let q : Int := if top - p1 < qmin then qmin else top - p1
    let r := fpQuantize mode neg m e q
    let bits := (q - qmin).toNat * 2 ^ (f.prec - 1) + r.1
    (fpSign f neg + bits, { underflow := decide (utop < f.emin) && r.2, inexact := r.2 })

/-- The sign of an exact zero sum (R105, R245): +0, but −0 under toward −∞ and when both addends are −0. -/
def fpZeroSumNeg (mode : FpRound) (n1 n2 : Bool) : Bool :=
  if n1 = n2 then n1 else decide (mode = .down)

/-- The exact sum of two finite values, as a sign, a magnitude and an exponent, rounded once. -/
def fpAddFin (f : FpFormat) (mode : FpRound) (n1 : Bool) (m1 : Nat) (e1 : Int) (n2 : Bool) (m2 : Nat) (e2 : Int) :
    Nat × FpFlags :=
  let e := if e1 ≤ e2 then e1 else e2
  let a : Int := (if n1 then -1 else 1) * ((m1 * 2 ^ (e1 - e).toNat : Nat) : Int)
  let b : Int := (if n2 then -1 else 1) * ((m2 * 2 ^ (e2 - e).toNat : Nat) : Int)
  let s := a + b
  if s = 0 then (fpZero f (fpZeroSumNeg mode n1 n2), {})
  else fpPack f mode (decide (s < 0)) s.natAbs e

/-- Is the datum a signalling NaN? -/
def fpIsSnan : Fp → Bool
  | .nan s => s
  | _ => false

/-- Is the datum a NaN? -/
def fpIsNan : Fp → Bool
  | .nan _ => true
  | _ => false

/-- The negation of a datum that is not a NaN. -/
def fpNegate : Fp → Fp
  | .nan s => .nan s
  | .inf n => .inf (!n)
  | .fin n m e => .fin (!n) m e

/-- The invalid result. -/
def fpInvalid (f : FpFormat) : Nat × FpFlags := (fpNan f, { invalid := true })

/-- Addition of unpacked data. -/
def fpAddU (f : FpFormat) (mode : FpRound) (a b : Fp) : Nat × FpFlags :=
  match a, b with
  | .nan s, y => (fpNan f, { invalid := s || fpIsSnan y })
  | _, .nan s => (fpNan f, { invalid := s })
  | .inf n1, .inf n2 => if n1 = n2 then (fpInf f n1, {}) else fpInvalid f
  | .inf n, .fin .. => (fpInf f n, {})
  | .fin .., .inf n => (fpInf f n, {})
  | .fin n1 m1 e1, .fin n2 m2 e2 => fpAddFin f mode n1 m1 e1 n2 m2 e2

/-- a + b. -/
def fpAdd (f : FpFormat) (mode : FpRound) (a b : Nat) : Nat × FpFlags :=
  fpAddU f mode (fpUnpack f a) (fpUnpack f b)

/-- a − b. -/
def fpSub (f : FpFormat) (mode : FpRound) (a b : Nat) : Nat × FpFlags :=
  fpAddU f mode (fpUnpack f a) (fpNegate (fpUnpack f b))

/-- a × b. -/
def fpMul (f : FpFormat) (mode : FpRound) (a b : Nat) : Nat × FpFlags :=
  match fpUnpack f a, fpUnpack f b with
  | .nan s, y => (fpNan f, { invalid := s || fpIsSnan y })
  | _, .nan s => (fpNan f, { invalid := s })
  | .inf n1, .inf n2 => (fpInf f (n1 != n2), {})
  | .inf n1, .fin n2 m _ => if m = 0 then fpInvalid f else (fpInf f (n1 != n2), {})
  | .fin n1 m _, .inf n2 => if m = 0 then fpInvalid f else (fpInf f (n1 != n2), {})
  | .fin n1 m1 e1, .fin n2 m2 e2 => fpPack f mode (n1 != n2) (m1 * m2) (e1 + e2)

/-- a × b + c, rounded once; 0 × ∞ is invalid even with a quiet NaN addend (R88, R245). -/
def fpFma (f : FpFormat) (mode : FpRound) (a b c : Nat) : Nat × FpFlags :=
  let x := fpUnpack f a
  let y := fpUnpack f b
  let z := fpUnpack f c
  let anySnan := fpIsSnan x || fpIsSnan y || fpIsSnan z
  let zeroInf := match x, y with
    | .inf _, .fin _ m _ => decide (m = 0)
    | .fin _ m _, .inf _ => decide (m = 0)
    | _, _ => false
  if zeroInf then fpInvalid f
  else if fpIsNan x || fpIsNan y || fpIsNan z then (fpNan f, { invalid := anySnan })
  else match x, y, z with
  | .fin n1 m1 e1, .fin n2 m2 e2, .fin n3 m3 e3 =>
    fpAddFin f mode (n1 != n2) (m1 * m2) (e1 + e2) n3 m3 e3
  | .fin .., .fin .., .inf n3 => (fpInf f n3, {})
  | .inf n1, .fin n2 .., .inf n3 => if (n1 != n2) = n3 then (fpInf f n3, {}) else fpInvalid f
  | .inf n1, .inf n2, .inf n3 => if (n1 != n2) = n3 then (fpInf f n3, {}) else fpInvalid f
  | .fin n1 .., .inf n2, .inf n3 => if (n1 != n2) = n3 then (fpInf f n3, {}) else fpInvalid f
  | .inf n1, .fin n2 .., _ => (fpInf f (n1 != n2), {})
  | .inf n1, .inf n2, _ => (fpInf f (n1 != n2), {})
  | .fin n1 .., .inf n2, _ => (fpInf f (n1 != n2), {})
  | _, _, _ => (fpNan f, {})

/-- a / b: the quotient is formed with a sticky bit below every rounding position. -/
def fpDiv (f : FpFormat) (mode : FpRound) (a b : Nat) : Nat × FpFlags :=
  match fpUnpack f a, fpUnpack f b with
  | .nan s, y => (fpNan f, { invalid := s || fpIsSnan y })
  | _, .nan s => (fpNan f, { invalid := s })
  | .inf _, .inf _ => fpInvalid f
  | .inf n1, .fin n2 .. => (fpInf f (n1 != n2), {})
  | .fin n1 .., .inf n2 => (fpZero f (n1 != n2), {})
  | .fin n1 m1 e1, .fin n2 m2 e2 =>
    if m2 = 0 then
      if m1 = 0 then fpInvalid f else (fpInf f (n1 != n2), { divZero := true })
    else
      let k := 3 * f.prec
      let num := m1 * 2 ^ k
      let q := 2 * (num / m2) + (if num % m2 = 0 then 0 else 1)
      fpPack f mode (n1 != n2) q (e1 - e2 - (k : Int) - 1)

/-- The square root: −0 gives −0, and any other negative datum is invalid (IEEE 754). -/
def fpSqrt (f : FpFormat) (mode : FpRound) (a : Nat) : Nat × FpFlags :=
  match fpUnpack f a with
  | .nan s => (fpNan f, { invalid := s })
  | .inf n => if n then fpInvalid f else (fpInf f false, {})
  | .fin n m e =>
    if m = 0 then (fpZero f n, {})
    else if n then fpInvalid f
    else
      let k := 2 * f.prec + 2
      let odd := decide (e % 2 ≠ 0)
      let m1 := m * 2 ^ (2 * k) * (if odd then 2 else 1)
      let e1 : Int := (if odd then e - 1 else e) / 2
      let r := isqrt m1
      let q := 2 * r + (if r * r = m1 then 0 else 1)
      fpPack f mode false q (e1 - (k : Int) - 1)

/-- An exact comparison of two data that are not NaNs. -/
def fpCompare (a b : Fp) : Ordering :=
  let key : Fp → Int := fun x => match x with
    | .inf n => if n then -2 else 2
    | _ => 0
  match a, b with
  | .fin n1 m1 e1, .fin n2 m2 e2 =>
    let e := if e1 ≤ e2 then e1 else e2
    let x : Int := (if n1 then -1 else 1) * ((m1 * 2 ^ (e1 - e).toNat : Nat) : Int)
    let y : Int := (if n2 then -1 else 1) * ((m2 * 2 ^ (e2 - e).toNat : Nat) : Int)
    compare x y
  | x, y => compare (key x) (key y)

/-- The sign bit of an unpacked datum. -/
def fpNegOf : Fp → Bool
  | .nan _ => false
  | .inf n => n
  | .fin n _ _ => n

/-- minimumNumber (greater = false) and maximumNumber (greater = true) of IEEE 754-2019, with −0 below +0 (R88, R246):
one NaN gives the other operand, and only a signalling NaN is invalid. -/
def fpMinMax (f : FpFormat) (greater : Bool) (a b : Nat) : Nat × FpFlags :=
  let x := fpUnpack f a
  let y := fpUnpack f b
  let fl : FpFlags := { invalid := fpIsSnan x || fpIsSnan y }
  if fpIsNan x && fpIsNan y then (fpNan f, fl)
  else if fpIsNan x then (b, fl)
  else if fpIsNan y then (a, fl)
  else match fpCompare x y with
    | .lt => (if greater then b else a, fl)
    | .gt => (if greater then a else b, fl)
    | .eq => if fpNegOf x = greater then (b, fl) else (a, fl)

/-- A datum rounded to a multiple of 2^(−frac) and narrowed to `r` bits, signed or not (R105, R247): the result, with
the extreme for a value out of range; a NaN gives `nanValue`; both raise invalid, and then never inexact. -/
def fpToFixed (mode : FpRound) (x : Fp) (frac r : Nat) (sgn : Bool) (nanValue : Nat) : Nat × FpFlags :=
  let hi : Int := if sgn then (2 : Int) ^ (r - 1) - 1 else (2 : Int) ^ r - 1
  let lo : Int := if sgn then -((2 : Int) ^ (r - 1)) else 0
  match x with
  | .nan _ => (nanValue, { invalid := true })
  | .inf n => (wrapInt r (if n then lo else hi), { invalid := true })
  | .fin n m e =>
    let q := fpQuantize mode n m e (-(frac : Int))
    let v : Int := (if n then -1 else 1) * (q.1 : Int)
    if hi < v then (wrapInt r hi, { invalid := true })
    else if v < lo then (wrapInt r lo, { invalid := true })
    else (wrapInt r v, { inexact := q.2 })

/-- An integer v · 2^(−frac) rounded into the format. -/
def fpOfFixed (f : FpFormat) (mode : FpRound) (v : Int) (frac : Nat) : Nat × FpFlags :=
  fpPack f mode (decide (v < 0)) v.natAbs (-(frac : Int))

end Sys2Proof.Machine
end

