-- ==== Sys2Proof/Machine/PeArith.lean ====
section
/-!
DEFINITION. Array macro-instruction words (R71 to R73), plane groups (R76), and what each vendor opcode computes in one
PE (R81 to R88, R94 to R106): numbers in, the destination group's number and the setting of S out.
-/
namespace Sys2Proof.Machine

/-- Field OPC (R71). -/
def insnOpc (i : DWord) : Nat := natBits i.toNat 63 56
/-- w = WID + 1 (R71). -/
def insnW (i : DWord) : Nat := natBits i.toNat 55 50 + 1
/-- Field DST (R71). -/
def insnDst (i : DWord) : Nat := natBits i.toNat 49 38
/-- Field SRA (R71). -/
def insnSra (i : DWord) : Nat := natBits i.toNat 37 26
/-- Field SRB (R71). -/
def insnSrb (i : DWord) : Nat := natBits i.toNat 25 14
/-- Field RND (R71). -/
def insnRnd (i : DWord) : Nat := natBits i.toNat 13 12
/-- Field SAT (R71). -/
def insnSat (i : DWord) : Bool := i.toNat.testBit 11
/-- Field SGN (R71). -/
def insnSgn (i : DWord) : Bool := i.toNat.testBit 10
/-- Field MSK (R71). -/
def insnMsk (i : DWord) : Bool := i.toNat.testBit 9
/-- Field AUX (R71). -/
def insnAux (i : DWord) : Nat := natBits i.toNat 8 6
/-- Field SHF (R71). -/
def insnShf (i : DWord) : Nat := natBits i.toNat 5 0

/-- A plane group: its first virtual plane and its width; plane numbers are taken modulo 4096 (R76). -/
structure Group where
  first : Nat
  width : Nat
  deriving DecidableEq, Repr

/-- The planes of a group, LSB first (R76). -/
def groupPlanes (g : Group) : List Nat := (List.range g.width).map (fun i => (g.first + i) % 4096)

/-- Do two groups share a plane, judged on their sets of planes modulo 4096 (R78)? -/
def groupsMeet (g h : Group) : Bool := (groupPlanes g).any (fun p => (groupPlanes h).contains p)

/-- The operand class of a vendor opcode (R78). -/
inductive OperandClass where
  | inPlace | separate | none
  deriving DecidableEq, Repr

/-- Does a source group obey the class against the destination group (R78)? -/
def groupOk (cls : OperandClass) (src dst : Group) : Bool :=
  match cls with
  | .inPlace => !groupsMeet src dst || src.first == dst.first
  | .separate => !groupsMeet src dst
  | .none => true

/-- The integer a w-bit field holds, by SGN (R94). -/
def intOf (sgn : Bool) (w x : Nat) : Int := if sgn then toSigned w x else ((x % 2 ^ w : Nat) : Int)

/-- The least integer of the format (R94). -/
def intLo (sgn : Bool) (w : Nat) : Int := if sgn then -((2 : Int) ^ (w - 1)) else 0
/-- The greatest integer of the format (R94). -/
def intHi (sgn : Bool) (w : Nat) : Int := if sgn then (2 : Int) ^ (w - 1) - 1 else (2 : Int) ^ w - 1

/-- Narrowing of a rounded value to w bits: wraps when SAT = 0, takes the nearest extreme when SAT = 1, and an
overflow sets S in both cases (R97). -/
def narrow (sgn sat : Bool) (w : Nat) (v : Int) : Nat × Bool :=
  if v < intLo sgn w then (wrapInt w (if sat then intLo sgn w else v), true)
  else if intHi sgn w < v then (wrapInt w (if sat then intHi sgn w else v), true)
  else (wrapInt w v, false)

/-- Removing k low bits from an exact integer under RND (R98). -/
def roundShift (rnd : Nat) (v : Int) (k : Nat) : Int :=
  if k = 0 then v else
  let q : Int := v / (2 : Int) ^ k
  let r : Int := v % (2 : Int) ^ k
  let h : Int := (2 : Int) ^ (k - 1)
  match rnd with
  | 0 => q
  | 1 => if h ≤ r then q + 1 else q
  | 2 => if h < r ∨ (r = h ∧ q % 2 ≠ 0) then q + 1 else q
  | _ => if 0 ≤ v then (if h ≤ r then q + 1 else q) else (if h < r then q + 1 else q)

/-- What one PE brings to a vendor operation: its source groups, the old destination group, M and S. -/
structure PeIn where
  a : Nat := 0
  b : Nat := 0
  z : Nat := 0
  d : Nat := 0
  m : Bool := true
  s : Bool := false
  deriving DecidableEq, Repr

/-- What one PE gets: the destination group's number, and whether the operation sets S. -/
abbrev PeOut := Nat × Bool

/-- The 12-bit immediate of SRB, extended to w bits by SGN, or its low w bits when w < 12 (R81). -/
def immOf (i : DWord) : Nat :=
  if insnSgn i then wrapInt (insnW i) (toSigned 12 (insnSrb i)) else insnSrb i % 2 ^ insnW i

/-- MOV (R81). -/
def peMov (_ : DWord) (x : PeIn) : PeOut := (x.a, false)
/-- NOT (R81). -/
def peNot (i : DWord) (x : PeIn) : PeOut := (2 ^ insnW i - 1 - x.a % 2 ^ insnW i, false)
/-- LDI (R81). -/
def peLdi (i : DWord) (_ : PeIn) : PeOut := (immOf i, false)
/-- SEL (R81). -/
def peSel (_ : DWord) (x : PeIn) : PeOut := (if x.m then x.a else x.b, false)
/-- BOOL: bit F[2a + b] of the function code SHF[3:0] (R39, R81). -/
def peBool (i : DWord) (x : PeIn) : PeOut :=
  (bitsOfFn (fun j => (insnShf i).testBit (2 * (x.a.testBit j).toNat + (x.b.testBit j).toNat)) (insnW i), false)
/-- MGET (R81). -/
def peMget (_ : DWord) (x : PeIn) : PeOut := (x.m.toNat, false)
/-- SGET (R81). -/
def peSget (_ : DWord) (x : PeIn) : PeOut := (x.s.toNat, false)

/-- The relation AUX names, on A and B by SGN (R83). -/
def relation (i : DWord) (a b : Nat) : Bool :=
  let x := intOf (insnSgn i) (insnW i) a
  let y := intOf (insnSgn i) (insnW i) b
  match insnAux i with
  | 0 => decide (x = y)
  | 1 => decide (x ≠ y)
  | 2 => decide (x < y)
  | 3 => decide (x ≤ y)
  | 4 => decide (y < x)
  | 5 => decide (y ≤ x)
  | 6 => decide (x = 0)
  | _ => decide (x ≠ 0)

/-- CMP (R83). -/
def peCmp (i : DWord) (x : PeIn) : PeOut := ((relation i x.a x.b).toNat, false)

/-- The bit that ANY takes from a PE (R83). -/
def anyBit (i : DWord) (x : PeIn) : Bool :=
  match insnAux i with
  | 0 => decide (x.a ≠ 0)
  | 1 => x.s
  | 2 => true
  | 3 => x.a.testBit (insnW i - 1)
  | 4 => x.a.testBit 0
  | 5 => decide (x.a = 0)
  | 6 => decide (x.a = 2 ^ insnW i - 1)
  | _ => decide (x.a ≠ 2 ^ insnW i - 1)

/-- A and B as integers by SGN. -/
def peA (i : DWord) (x : PeIn) : Int := intOf (insnSgn i) (insnW i) x.a
/-- B as an integer by SGN. -/
def peB (i : DWord) (x : PeIn) : Int := intOf (insnSgn i) (insnW i) x.b
/-- Narrow to w bits by SGN and SAT. -/
def peNarrow (i : DWord) (v : Int) : PeOut := narrow (insnSgn i) (insnSat i) (insnW i) v

/-- ADD (R84). -/
def peAdd (i : DWord) (x : PeIn) : PeOut := peNarrow i (peA i x + peB i x)
/-- SUB (R84). -/
def peSub (i : DWord) (x : PeIn) : PeOut := peNarrow i (peA i x - peB i x)
/-- ADDI (R84). -/
def peAddi (i : DWord) (x : PeIn) : PeOut := peNarrow i (peA i x + intOf (insnSgn i) (insnW i) (immOf i))
/-- NEG (R84, R101, R102). -/
def peNeg (i : DWord) (x : PeIn) : PeOut := peNarrow i (-(peA i x))
/-- ABS (R84, R101, R102). -/
def peAbs (i : DWord) (x : PeIn) : PeOut := peNarrow i ((peA i x).natAbs : Int)
/-- MIN (R84). -/
def peMin (i : DWord) (x : PeIn) : PeOut := (if peB i x < peA i x then x.b else x.a, false)
/-- MAX (R84). -/
def peMax (i : DWord) (x : PeIn) : PeOut := (if peA i x < peB i x then x.b else x.a, false)
/-- AVG, formed at w + 1 bits and rounded by RND (R84, R99). -/
def peAvg (i : DWord) (x : PeIn) : PeOut :=
  (wrapInt (insnW i) (roundShift (insnRnd i) (peA i x + peB i x) 1), false)
/-- ABSD as an unsigned w-bit number (R84, R101). -/
def peAbsd (i : DWord) (x : PeIn) : PeOut := ((peA i x - peB i x).natAbs % 2 ^ insnW i, false)
/-- CLIP (R84): no change when k ≥ w, or k ≥ w − 1 for signed. -/
def peClip (i : DWord) (x : PeIn) : PeOut :=
  let k := insnShf i
  let v := peA i x
  if insnW i ≤ (if insnSgn i then k + 1 else k) then (x.a, false)
  else
    let hi : Int := (2 : Int) ^ k - 1
    let lo : Int := if insnSgn i then -((2 : Int) ^ k) else 0
    (wrapInt (insnW i) (if v < lo then lo else if hi < v then hi else v), false)
/-- SHL (R84, R103): a zero operand never overflows. -/
def peShl (i : DWord) (x : PeIn) : PeOut := peNarrow i (peA i x * (2 : Int) ^ insnShf i)
/-- SHR (R84, R103): for k ≥ w, RND is ignored. -/
def peShr (i : DWord) (x : PeIn) : PeOut :=
  let w := insnW i
  if w ≤ insnShf i then (if peA i x < 0 then 2 ^ w - 1 else 0, false)
  else (wrapInt w (roundShift (insnRnd i) (peA i x) (insnShf i)), false)
/-- ROR (R84, R103). -/
def peRor (i : DWord) (x : PeIn) : PeOut := (rotr (insnW i) x.a (insnShf i), false)
/-- ROL (R84, R103). -/
def peRol (i : DWord) (x : PeIn) : PeOut :=
  (rotr (insnW i) x.a (insnW i - insnShf i % insnW i), false)

/-- MUL: w1 × w2 bits, exact (R85). -/
def peMul (i : DWord) (x : PeIn) : PeOut :=
  let w2 := insnShf i + 1
  (wrapInt (insnW i + w2) (peA i x * intOf (insnSgn i) w2 x.b), false)
/-- MULQ (R85, R97). -/
def peMulq (i : DWord) (x : PeIn) : PeOut :=
  peNarrow i (roundShift (insnRnd i) (peA i x * peB i x) (insnShf i))
/-- DIV: quotient at D, remainder at D + w (R85, R101, R104). -/
def peDiv (i : DWord) (x : PeIn) : PeOut :=
  let w := insnW i
  let a := peA i x
  let b := peB i x
  if b = 0 then
    let q := if a < 0 then intLo (insnSgn i) w else intHi (insnSgn i) w
    (wrapInt w q + x.a % 2 ^ w * 2 ^ w, true)
  else
    let q := peNarrow i (Int.tdiv a b)
    (q.1 + wrapInt w (Int.tmod a b) * 2 ^ w, q.2)
/-- SQRT: root at D, remainder at D + w (R85, R101). -/
def peSqrt (i : DWord) (x : PeIn) : PeOut :=
  let w := insnW i
  if peA i x < 0 then (x.a % 2 ^ w * 2 ^ w, true)
  else
    let n := x.a % 2 ^ w
    (isqrt n + (n - isqrt n * isqrt n) * 2 ^ w, false)

/-- The accumulator as an integer (R96). -/
def peAccOf (i : DWord) (x : Nat) : Int := intOf (insnSgn i) (insnW i + 8) x
/-- ACC (R86, R96). -/
def peAcc (i : DWord) (x : PeIn) : PeOut :=
  narrow (insnSgn i) (insnSat i) (insnW i + 8) (peAccOf i x.d + peA i x)
/-- ACCN (R86, R96). -/
def peAccn (i : DWord) (x : PeIn) : PeOut :=
  narrow (insnSgn i) (insnSat i) (insnW i + 8) (peAccOf i x.d - peA i x)
/-- WIDEN (R86, R96). -/
def peWiden (i : DWord) (x : PeIn) : PeOut := (wrapInt (insnW i + 8) (peA i x), false)
/-- NARROW (R86, R100). -/
def peNarrowOp (i : DWord) (x : PeIn) : PeOut :=
  peNarrow i (roundShift (insnRnd i) (peAccOf i x.a) (insnShf i))
/-- POPC (R86). -/
def pePopc (i : DWord) (x : PeIn) : PeOut := (popCount (insnW i) x.a, false)
/-- CLZ (R86). -/
def peClz (i : DWord) (x : PeIn) : PeOut := (leadingZeros (insnW i) x.a, false)

/-- SIG: the SHA functions (R87). -/
def peSig (i : DWord) (x : PeIn) : PeOut :=
  let r64 := rotr 64 x.a
  let r32 := rotr 32 x.a
  let v := match insnAux i with
    | 0 => r64 28 ^^^ r64 34 ^^^ r64 39
    | 1 => r64 14 ^^^ r64 18 ^^^ r64 41
    | 2 => r64 1 ^^^ r64 8 ^^^ (x.a % 2 ^ 64) >>> 7
    | 3 => r64 19 ^^^ r64 61 ^^^ (x.a % 2 ^ 64) >>> 6
    | 4 => r32 2 ^^^ r32 13 ^^^ r32 22
    | 5 => r32 6 ^^^ r32 11 ^^^ r32 25
    | 6 => r32 7 ^^^ r32 18 ^^^ (x.a % 2 ^ 32) >>> 3
    | _ => r32 17 ^^^ r32 19 ^^^ (x.a % 2 ^ 32) >>> 10
  (v, false)
/-- CH (R87). -/
def peCh (i : DWord) (x : PeIn) : PeOut :=
  ((x.a &&& x.b) ^^^ ((2 ^ insnW i - 1 - x.a % 2 ^ insnW i) &&& x.z), false)
/-- MAJ (R87). -/
def peMaj (_ : DWord) (x : PeIn) : PeOut := ((x.a &&& x.b) ^^^ (x.a &&& x.z) ^^^ (x.b &&& x.z), false)
/-- The width BSWAP works on (R87). -/
def bswapWidth (i : DWord) : Nat := match insnAux i with
  | 0 => 16
  | 1 => 32
  | _ => 64
/-- BSWAP (R87). -/
def peBswap (i : DWord) (x : PeIn) : PeOut := (beNat (leBytes (bswapWidth i / 8) x.a), false)

/-- The 32 planes of a binary16 destination: the result, zeros, the flags when AUX[0] = 1 (R88). -/
def halfOut (i : DWord) (r : Nat × FpFlags) : PeOut :=
  let fl := if (insnAux i).testBit 0 then
      r.2.invalid.toNat + 2 * r.2.overflow.toNat + 4 * r.2.underflow.toNat + 8 * r.2.inexact.toNat
    else 0
  (r.1 % 2 ^ 16 + fl * 2 ^ 16, r.2.overflow || r.2.invalid)
/-- The binary16 rounding of the instruction (R72). -/
def halfRnd (i : DWord) : FpRound := fpRoundOf (insnRnd i)
/-- FADDH (R88). -/
def peFaddh (i : DWord) (x : PeIn) : PeOut := halfOut i (fpAdd fpHalf (halfRnd i) x.a x.b)
/-- FSUBH (R88). -/
def peFsubh (i : DWord) (x : PeIn) : PeOut := halfOut i (fpSub fpHalf (halfRnd i) x.a x.b)
/-- FMULH (R88). -/
def peFmulh (i : DWord) (x : PeIn) : PeOut := halfOut i (fpMul fpHalf (halfRnd i) x.a x.b)
/-- FFMAH: the addend is the value in D to D + 15 at dispatch (R88). -/
def peFfmah (i : DWord) (x : PeIn) : PeOut := halfOut i (fpFma fpHalf (halfRnd i) x.a x.b (x.d % 2 ^ 16))
/-- FMINH (R88). -/
def peFminh (i : DWord) (x : PeIn) : PeOut := halfOut i (fpMinMax fpHalf false x.a x.b)
/-- FMAXH (R88). -/
def peFmaxh (i : DWord) (x : PeIn) : PeOut := halfOut i (fpMinMax fpHalf true x.a x.b)
/-- FCMPH: the relation SHF[2:0] (R88). -/
def peFcmph (i : DWord) (x : PeIn) : PeOut :=
  let a := fpUnpack fpHalf x.a
  let b := fpUnpack fpHalf x.b
  let un := fpIsNan a || fpIsNan b
  let o := fpCompare a b
  let k := insnShf i % 8
  let holds := match k with
    | 0 => !un && decide (o = Ordering.eq)
    | 1 => un || decide (o ≠ Ordering.eq)
    | 2 => !un && decide (o = Ordering.lt)
    | 3 => !un && decide (o ≠ Ordering.gt)
    | 4 => !un && decide (o = Ordering.gt)
    | 5 => !un && decide (o ≠ Ordering.lt)
    | 6 => un
    | _ => !un
  let quiet := k == 0 || k == 1 || k == 6 || k == 7
  let inv := if quiet then fpIsSnan a || fpIsSnan b else un
  halfOut i (holds.toNat, { invalid := inv })
/-- FCVTHI: binary16 to an integer of min(w, 16) bits; a NaN gives 0 (R88, R105). -/
def peFcvthi (i : DWord) (x : PeIn) : PeOut :=
  halfOut i (fpToFixed (halfRnd i) (fpUnpack fpHalf x.a) 0 (Nat.min (insnW i) 16) (insnSgn i) 0)
/-- FCVTIH: integer to binary16 (R88). -/
def peFcvtih (i : DWord) (x : PeIn) : PeOut := halfOut i (fpOfFixed fpHalf (halfRnd i) (peA i x) 0)
/-- FCVTHQ: binary16 to Q with SHF fraction bits (R88, R105). -/
def peFcvthq (i : DWord) (x : PeIn) : PeOut :=
  halfOut i (fpToFixed (halfRnd i) (fpUnpack fpHalf x.a) (insnShf i) (Nat.min (insnW i) 16) (insnSgn i) 0)
/-- FCVTQH: Q with SHF fraction bits to binary16 (R88). -/
def peFcvtqh (i : DWord) (x : PeIn) : PeOut := halfOut i (fpOfFixed fpHalf (halfRnd i) (peA i x) (insnShf i))

/-- What a vendor opcode does with groups: its class, its source groups, its destination group, the groups whose
number the PE operation receives as a, b, z (in that order), and the PE operation itself (R76, R78). -/
structure VendorOp where
  cls  : OperandClass
  srcs : List Group
  dst  : Group
  deriving DecidableEq, Repr

/-- Group A of width n. -/
def grpA (i : DWord) (n : Nat) : Group := ⟨insnSra i, n⟩
/-- Group B of width n. -/
def grpB (i : DWord) (n : Nat) : Group := ⟨insnSrb i, n⟩
/-- Group Z (R76). -/
def grpZ (i : DWord) : Group := ⟨(insnSrb i + insnW i) % 4096, insnW i⟩
/-- Destination group of width n. -/
def grpD (i : DWord) (n : Nat) : Group := ⟨insnDst i, n⟩

/-- D(w) from A(w), in-place. -/
def opUnary (i : DWord) : VendorOp := ⟨.inPlace, [grpA i (insnW i)], grpD i (insnW i)⟩
/-- D(w) from A(w) and B(w), in-place. -/
def opBinary (i : DWord) : VendorOp := ⟨.inPlace, [grpA i (insnW i), grpB i (insnW i)], grpD i (insnW i)⟩
/-- D(w) from A(w), separate. -/
def opUnarySep (i : DWord) : VendorOp := ⟨.separate, [grpA i (insnW i)], grpD i (insnW i)⟩
/-- D(dw) from A(aw) and B(bw), separate. -/
def opBinarySep (i : DWord) (aw bw dw : Nat) : VendorOp := ⟨.separate, [grpA i aw, grpB i bw], grpD i dw⟩
/-- D(w + 8) from A(w), in-place (R76). -/
def opAccum (i : DWord) : VendorOp := ⟨.inPlace, [grpA i (insnW i)], grpD i (insnW i + 8)⟩
/-- D(w) from A(w), B(w) and Z(w), in-place (R76, R87). -/
def opTernary (i : DWord) : VendorOp :=
  ⟨.inPlace, [grpA i (insnW i), grpB i (insnW i), grpZ i], grpD i (insnW i)⟩

end Sys2Proof.Machine
end

