-- ==== Sys2Proof/Machine/Pe.lean ====
section
/-!
DEFINITION. The PEs of the bound tiles: registers at a round's start (R41), the LFSR (R48 to R50), neighbour moves
(R51 to R54), the global OR (R56, R57).
-/
namespace Sys2Proof.Machine

/-- Bit j of every PE's LFSR in tile t as R50 loads it. -/
def lfsrLoadPlane (seed d t j : Nat) : Plane :=
  planeOfFn (fun i =>
    let x := t % 16 * 64 + i % 64
    let y := t / 16 * 64 + i / 64
    let v := (seed ^^^ (d * 2 ^ 28) ^^^ (y * 2 ^ 16) ^^^ x) % 2 ^ 32
    (if v = 0 then 1 else v).testBit j)

/-- Load the LFSRs of tile t from ASQ_LFSR_SEED and the PEs' positions (R50). -/
def Chip.loadLfsr (c : Chip) (t : Nat) : Chip :=
  let seed := (c.reg Reg.ASQ_LFSR_SEED).toNat
  c.onTile t (fun x => { x with lfsr := (List.range 32).map (fun j => (j, lfsrLoadPlane seed c.deviceNo t j)) })

/-- One read of the pseudo-plane in a tile (R48): bit 0 of every state, and the states advanced once. -/
def lfsrRead (x : Tile) : Plane × Tile :=
  let st : Nat → Plane := fun j => mapGet 0 x.lfsr j
  let b := st 0
  let next := (List.range 32).map (fun j =>
    let v := if j = 31 then 0 else st (j + 1)
    (j, if (0x80200003 : Nat).testBit j then v ^^^ b else v))
  (b, { x with lfsr := next })

/-- The registers of a tile's PEs at the start of a round (R41). -/
def Chip.resetPes (c : Chip) (t : Nat) : Chip :=
  c.onTile t (fun x => { x with M := allPes, C := 0, T := 0, S := 0, NX := 0 })

/-- The PEs a micro-operation may update (R60): all of them when MSK = 0, those with M = 1 otherwise. -/
def peMask (i : DWord) (x : Tile) : Plane := if insnMsk i then x.M else allPes

/-! ### Neighbour moves -/

/-- The PEs of column `x` of a tile. -/
def colMask (x : Nat) : Plane := BitVec.ofNat 4096 ((List.range 64).foldl (fun a y => a + 2 ^ (64 * y + x)) 0)
/-- The PEs of row `y` of a tile. -/
def rowMaskPe (y : Nat) : Plane := BitVec.ofNat 4096 ((2 ^ 64 - 1) * 2 ^ (64 * y))

/-- A direction of movement, as AUX[1:0] and NBR.DIR code it: 0 N, 1 E, 2 S, 3 W (R82, R123). -/
abbrev Dir := Nat

/-- The device edge that the source of a step in a direction lies beyond, as 0 N, 1 E, 2 S, 3 W: the opposite side. -/
def sourceEdge (d : Dir) : Nat := (d + 2) % 4

/-- The mode in force at an edge (R53, R55), from the layout of ASQ_EDGE: N [2:0], E [5:3], S [8:6], W [11:9]. -/
def edgeMode (c : Chip) (e : Nat) : Nat := natBits c.seq.edges (3 * e + 2) (3 * e)

/-- Is a LINK edge live (R54): gang mode, the Spindle link across it up, and the neighbour there in the system map and still of the gang (R530)? -/
def edgeLive (c : Chip) (e : Nat) : Bool :=
  c.bit Reg.SPIN_STAT 29 && linkUp c e && (c.spin.map &&& c.spin.gangMap).testBit (c.fld (Reg.SPIN_LINKl e) 27 24)

/-- The tile a step in direction d comes from, none where it lies outside the device. -/
def sourceTile (t : Nat) (d : Dir) : Option Nat :=
  let x := t % 16
  let y := t / 16
  match d with
  | 0 => if y = 15 then none else some (t + 16)     -- N: from (x, y + 1)
  | 1 => if x = 0 then none else some (t - 1)       -- E: from (x − 1, y)
  | 2 => if y = 0 then none else some (t - 16)      -- S: from (x, y − 1)
  | _ => if x = 15 then none else some (t + 1)      -- W: from (x + 1, y)

/-- The tile at the opposite edge of the device in the same row or column (R53, WRAP). -/
def wrapTile (t : Nat) (d : Dir) : Nat :=
  match d with
  | 0 => t - 240
  | 1 => t + 15
  | 2 => t + 240
  | _ => t - 15

/-- The part of a tile's NX that moves inside the tile in one step. -/
def moveInside (nx : Plane) (d : Dir) : Plane :=
  match d with
  | 0 => nx >>> 64
  | 1 => (nx <<< 1) &&& ~~~colMask 0
  | 2 => nx <<< 64
  | _ => (nx >>> 1) &&& ~~~colMask 63

/-- The bits that a tile's receiving edge PEs take from the facing edge PEs of a source plane. -/
def moveAcross (src : Plane) (d : Dir) : Plane :=
  match d with
  | 0 => (src <<< 4032) &&& rowMaskPe 63
  | 1 => (src >>> 63) &&& colMask 0
  | 2 => (src >>> 4032) &&& rowMaskPe 0
  | _ => (src <<< 63) &&& colMask 63

/-- The PEs of a tile that lie on the side a step in direction d enters by. (DESIGN CHOICE: log 15) -/
def entryMask (d : Dir) : Plane :=
  match d with
  | 0 => rowMaskPe 63
  | 1 => colMask 0
  | 2 => rowMaskPe 0
  | _ => colMask 63

/-- The bits that enter tile t in one step, from the planes `nx` of every tile at the start of the step (R51 to R54). A
live LINK edge brings the neighbour device's bits, which this device does not hold: a free value. (DESIGN CHOICE: log 15) -/
def moveEntering (c : Chip) (nx : Nat → Plane) (t : Nat) (d : Dir) : Plane :=
  let from_ : Nat → Plane := fun s => if (boundTiles c).contains s && !retired c s then moveAcross (nx s) d else 0
  match sourceTile t d with
  | some s => from_ s
  | none =>
    match edgeMode c (sourceEdge d) with
    | 1 => entryMask d
    | 2 => from_ (wrapTile t d)
    | 3 => nx t &&& entryMask d
    | 4 => if edgeLive c (sourceEdge d) then Config.linkBits c.fresh t &&& entryMask d else 0
    | _ => 0

/-- One move step in every bound tile: new NX planes from old, by tile (R51). -/
def moveStep (c : Chip) (nx : Nat → Plane) (t : Nat) (d : Dir) : Plane :=
  moveInside (nx t) d ||| moveEntering c nx t d

/-- k steps from the NX planes of the bound tiles, listed by tile; each step of a live LINK draws its own free bits. -/
def moveSteps (c : Chip) : Nat → List (Nat × Plane) → Dir → List (Nat × Plane)
  | 0, nx, _ => nx
  | k + 1, nx, d =>
    moveSteps { c with fresh := c.fresh + 1 } k
      ((boundTiles c).map (fun t => (t, moveStep c (fun u => mapGet 0 nx u) t d))) d

/-- The NX planes of the bound tiles. -/
def nxOf (c : Chip) : List (Nat × Plane) := (boundTiles c).map (fun t => (t, (c.tile t).NX))
/-- Set NX of every bound tile. -/
def Chip.setNx (c : Chip) (nx : List (Nat × Plane)) : Chip :=
  nx.foldl (fun c e => c.onTile e.1 (fun x => { x with NX := e.2 })) c
/-- Move NX k steps in direction d in every bound tile (R51). -/
def Chip.moveNx (c : Chip) (k : Nat) (d : Dir) : Chip :=
  let nx := moveSteps c k (nxOf c) d
  ({ c with fresh := c.fresh + k }).setNx nx

/-! ### Global OR -/

/-- The result of a GOR-class micro-operation over the bound tiles (R56): the selected bit ORed over PEs with M = 1, and
each tile's own OR. -/
def gorResult (c : Chip) (bitOfTile : Tile → Plane) : Bool × TileBits :=
  let ts := (boundTiles c).filter (fun t => decide (bitOfTile (c.tile t) &&& (c.tile t).M ≠ 0))
  (!ts.isEmpty, BitVec.ofNat 256 (ts.foldl (fun a t => a ||| 2 ^ t) 0))

/-- A GOR result starts on its way (R57). -/
def Chip.gorIssue (c : Chip) (r : Bool × TileBits) : Chip :=
  { c with seq := { c.seq with gorFlight := c.seq.gorFlight ++ [r] } }

end Sys2Proof.Machine
end

