-- ==== Sys2Proof/Machine/Granary.lean ====
section
/-!
DEFINITION. The Granary (chapter 06): the page pool, the kernel table, completion and round queues, context states,
selection, placement, staging, turnaround, round ends and preemption, and the commands that drive them.
-/
namespace Sys2Proof.Machine

/-! ### The kernel table (R163) -/

/-- Word w of kernel k's entry. -/
def kernelEntry (c : Chip) (k w : Nat) : Nat := (c.reg (Reg.kernelWord k w)).toNat
/-- VALID. -/
def kernelValid (c : Chip) (k : Nat) : Bool := (kernelEntry c k 1).testBit 8
/-- RESTART. -/
def kernelRestart (c : Chip) (k : Nat) : Bool := (kernelEntry c k 1).testBit 9
/-- The pages of DECL, rising. -/
def kernelDecl (c : Chip) (k : Nat) : List Nat :=
  (List.range 128).filter (fun p => (kernelEntry c k (2 + p / 32)).testBit (p % 32))
/-- EST_ROUND in µs. -/
def kernelEst (c : Chip) (k : Nat) : Nat := natBits (kernelEntry c k 6) 31 16
/-- MIN_FILL: 0 and 257 to 511 mean 256. -/
def kernelMinFill (c : Chip) (k : Nat) : Nat :=
  let m := natBits (kernelEntry c k 6) 8 0
  if m = 0 ∨ 256 < m then 256 else m

/-! ### The page pool (R146, R154, R195) -/

/-- LPAGE of the first pool page of every loft (R195). -/
def poolFirst (c : Chip) : Nat := 64 * c.fld Reg.DRC_CTL 6 0
/-- One more than the last LPAGE of a loft (R153, R195). -/
def loftPages (c : Chip) : Nat := if c.is08X then 2048 else 4096
/-- The pages of loft t that are out of the pool. -/
def poolTaken (c : Chip) (t : Nat) : List Nat := mapGet [] c.grn.pool t
/-- The free list of loft t (R154, R195): none for a retired tile, none before READY. -/
def poolFree (c : Chip) (t : Nat) : Nat :=
  if retired c t || !c.bit Reg.GRN_STAT 31 then 0 else loftPages c - poolFirst c - (poolTaken c t).length
/-- The device's free pool pages. -/
def poolTotal (c : Chip) : Nat := (List.range 256).foldl (fun n t => n + poolFree c t) 0

/-- The n-th free page of a free list that runs from `first` and lacks the pages `taken`. (DESIGN CHOICE: log 23) -/
def nthFree (taken : List Nat) : Nat → Nat → Nat → Nat
  | 0, _, p => p
  | fuel + 1, n, p =>
    if taken.contains p then nthFree taken fuel n (p + 1)
    else match n with
      | 0 => p
      | m + 1 => nthFree taken fuel m (p + 1)

/-- Take a page from the free list of loft t; which of its pages is the Granary's to choose (R154): a free value. (DESIGN CHOICE: log 23) -/
def Chip.takePage (c : Chip) (t : Nat) : Nat × Chip :=
  let q := c.drawFree
  let taken := poolTaken c t
  let p := nthFree taken 4096 (q.1.toNat % poolFree c t) (poolFirst c)
  (p, { q.2 with grn := { q.2.grn with pool := mapSet [] q.2.grn.pool t (taken ++ [p]) } })

/-- Return a page to its free list (R155, FREE). -/
def Chip.returnPage (c : Chip) (loft p : Nat) : Chip :=
  { c with grn := { c.grn with pool := mapSet [] c.grn.pool loft ((poolTaken c loft).filter (fun q => decide (q ≠ p))) } }

/-- The distance of two tiles in the grid (R154, R170). -/
def tileDistance (a b : Nat) : Nat :=
  (Nat.max (a % 16) (b % 16) - Nat.min (a % 16) (b % 16)) + (Nat.max (a / 16) (b / 16) - Nat.min (a / 16) (b / 16))
/-- The tile nearest to `home` that satisfies `ok`, by distance and then lowest number (R154, R170). -/
def nearestTile (home : Nat) (ok : Nat → Bool) : Option Nat :=
  (List.range 256).foldl (fun b t =>
    if !ok t then b else
    match b with
    | none => some t
    | some u => if tileDistance home t < tileDistance home u then some t else b) none
/-- HOME after rehoming (R154): the nearest tile that is not retired. -/
def rehome (c : Chip) (home : Nat) : Nat := (nearestTile home (fun t => !retired c t)).getD home

/-- Take n pool pages for a context of the given HOME, from HOME's list first and then from the nearest tile (R154). -/
def Chip.takePages (c : Chip) (home : Nat) : Nat → List Nat × Chip
  | 0 => ([], c)
  | n + 1 =>
    match nearestTile home (fun t => decide (0 < poolFree c t)) with
    | some t =>
      let q := c.takePage t
      let r := q.2.takePages home n
      ((t * 4096 + q.1) :: r.1, r.2)
    | none => ([], c)

/-- EV56 where the device's free pool pages have fallen below GRN_POOL_LOW since `before` (R188). -/
def Chip.poolLow (c before : Chip) : Chip :=
  let low := c.fld Reg.GRN_POOL_LOW 19 0
  c.raiseIf (decide (poolTotal c < low) && decide (low ≤ poolTotal before)) 56

/-- Allocate n pages or none (R154): answers the loft page numbers. -/
def Chip.allocPages (c : Chip) (home n : Nat) : Option (List Nat) × Chip :=
  if poolTotal c < n then (none, c)
  else
    let r := c.takePages home n
    (some r.1, r.2.poolLow c)

/-! ### Completion and round queues (R157, R161, R162) -/

/-- Write one 16-byte entry at TAIL of a ring that the Granary produces, with its PHASE in word `pw` bit 31. -/
def Chip.ringPost (c : Chip) (r pw : Nat) (ws : List Nat) : Chip :=
  let ws' := listSet ws pw (natSetBits (listGet 0 ws pw) 31 31 (ringPhase c r).toNat)
  ((c.blockWrite (ringEntry c r 16 (ringTail c r)) (ws'.flatMap (leBytes 4))).2).ringProduced r

/-- Post one entry to CQ q that has room (R161): TIME is TAI in µs modulo 2^31; EV62 + q. -/
def Chip.cqPut (c : Chip) (q : Nat) (e : RingEntry) : Chip :=
  (c.ringPost (Reg.CQ_BASE_LO q) 3 [e.w0, e.w1, e.w2, c.tai.toNat / 1000 % 2 ^ 31]).raise (62 + q)

/-- The entries that wait for CQ q. -/
def cqWaiting (c : Chip) (q : Nat) : List RingEntry := mapGet [] c.grn.cqWait q
/-- Set the entries that wait for CQ q. -/
def Chip.setCqWaiting (c : Chip) (q : Nat) (l : List RingEntry) : Chip :=
  { c with grn := { c.grn with cqWait := mapSet [] c.grn.cqWait q l } }
/-- May nothing be posted to CQ q now: it is full, or an earlier entry waits? -/
def cqBlocked (c : Chip) (q : Nat) : Bool := ringFull c (Reg.CQ_BASE_LO q) || !(cqWaiting c q).isEmpty
/-- Post an entry to CQ q, or let it wait in order and raise EV49 (R161). Answers whether it was posted. -/
def Chip.cqPost (c : Chip) (q : Nat) (e : RingEntry) : Bool × Chip :=
  if cqBlocked c q then (false, (c.setCqWaiting q (cqWaiting c q ++ [e])).raise 49) else (true, c.cqPut q e)

/-! ### Context states (R155) -/

/-- The Granary's contexts that satisfy a condition, by rising CTX_ID. -/
def ctxsWhere (c : Chip) (f : Ctx → Bool) : List Nat := (c.grn.ctxs.filter (fun e => f e.2)).map Prod.fst

/-- Put a context into a state, written through to memory (R145, R150). -/
def Chip.moveCtx (c : Chip) (n state : Nat) : Chip := c.putCtx n { c.ctx n with state := state }

/-- Remove a context from the staged round (R150); a staged round without contexts is none. -/
def Chip.unstage (c : Chip) (n : Nat) : Chip :=
  match c.grn.staged with
  | some r =>
    let b := r.bound.filter (fun p => decide (p.2 ≠ n))
    let gone := (r.bound.filter (fun p => decide (p.2 = n))).map Prod.fst
    let c1 := { c with grn := { c.grn with
      staged := if b.isEmpty then none else some { r with bound := b }
      moves := c.grn.moves.filter (fun m => !(decide (m.ctx = n) && decide (m.why = MoveWhy.staging))) } }
    gone.foldl (fun c t => if (boundTiles c).contains t then c else c.releaseTile t) c1
  | none => c

/-- Empty the frames of context n in tile t without writing them back (R155, FREE). -/
def Chip.emptyFrames (c : Chip) (t n : Nat) : Chip :=
  ((c.tile t).frames.filter (fun f => decide (f.2.ctx = n))).foldl (fun c f => c.dropFrame t f.1) c

/-- FREE (R155): resident frames are emptied without writeback, OWN pages go back to their free lists, a waiting
completion is discarded, and the record is FREE, with FAULT_CAUSE 0 in memory (R147). (DESIGN CHOICE: log 25) -/
def Chip.freeCtx (c : Chip) (n : Nat) : Chip :=
  let x := c.ctx n
  let c0 := c.unstage n
  let c1 := c0.emptyFrames (ctxBound x) n
  let own := (List.range (pcount x)).filter (fun p => natBits (pmapEntry (c1.ctx n) p) 26 26 = 1)
  let c2 := own.foldl (fun c p =>
    let e := pmapEntry (c.ctx n) p
    c.returnPage (natBits e 19 12) (natBits e 11 0)) c1
  let c3 := (List.range 16).foldl (fun c q =>
    c.setCqWaiting q ((cqWaiting c q).filter (fun e => decide (e.ctx ≠ some n)))) c2
  let c4 := c3.putCtx n (ctxSet { c3.ctx n with state := 0 } 14 11 4 0)
  { c4.setCtx n {} with grn := { (c4.setCtx n {}).grn with moves := (c4.setCtx n {}).grn.moves.filter (fun m => decide (m.ctx ≠ n)) } }

/-- Is context n a PIPE context of the frame (R167)? -/
def capPipe (c : Chip) (stream frame n : Nat) : Bool :=
  c.cap.frames.any (fun f => decide (f.stream = stream) && decide (f.frame = frame) && f.ids.any (fun p => decide (p.2 = n)))

/-- A context that has reached DONE or FAULTED (R148, R161, R167): its completion is posted or waits with CQP = 1, its
capture port is told, and AUTOFREE frees a DONE context once its completion is posted, or at once under NOCQ. (DESIGN CHOICE: log 22) -/
def Chip.completeCtx (c : Chip) (n : Nat) : Chip :=
  let x := c.ctx n
  let c1 := if ctxFlag x 1 then
      let st := ctxFld x 6 4 0
      let fr := listGet 0 x.desc 7
      { c with grn := { c.grn with capEnded := c.grn.capEnded ++ [
        { ctx := n, state := x.state, stream := st, frame := fr, cx := ctxFld x 6 10 5, cy := ctxFld x 6 16 11
          isPipe := capPipe c st fr n, user0 := listGet 0 x.desc 12 + listGet 0 x.desc 13 * 2 ^ 32 }] } }
    else c
  let done := decide (x.state = 5) && ctxFlag x 2
  if ctxFlag x 3 then (if done then c1.freeCtx n else c1)
  else
    let q := c1.drawFree
    let k := match x.last with
      | some k => (k, c1)
      | none => (q.1.toNat % 1024, q.2)      -- no kernel has run: the entry's KERNEL_ID is not stated
    let e : RingEntry :=
      { ctx := some n, w0 := 2 ^ 24 + x.state * 2 ^ 18 + n, w1 := listGet 0 x.desc 15
        w2 := k.1 * 2 ^ 8 + ctxFld x 14 11 4 }
    let r := k.2.cqPost (ctxCq x) e
    if r.1 then (if done then r.2.freeCtx n else r.2)
    else r.2.putCtx n (ctxSetFlag (r.2.ctx n) 6 true)

/-- A context becomes FAULTED with a cause (R149, R155): EV54, and its completion. -/
def Chip.faultCtx (c : Chip) (n cause : Nat) : Chip :=
  let c1 := c.unstage n
  let x := ctxSet { c1.ctx n with state := 6 } 14 11 4 cause
  ((c1.putCtx n x).raise 54).completeCtx n

/-- A fault found outside a round's end (R150, R159): at once when PARKED, READY or BOUND, at the round's end when
RUNNING. -/
def Chip.faultNow (c : Chip) (n cause : Nat) : Chip :=
  let x := c.ctx n
  if x.state = 4 then c.setCtx n { x with late := if x.late = 0 then cause else Nat.min x.late cause }
  else c.faultCtx n cause

/-! ### Reading descriptors and page maps (R147, R150, R152) -/

/-- The bits of descriptor word w that are not reserved (R147). (DESIGN CHOICE: log 17) -/
def descMask (w : Nat) : Nat :=
  match w with
  | 0 => 0xFEFFFFFF
  | 1 => 0xFFFF1FFF
  | 2 => 0xFFFFFE00
  | 3 => 0x0000FFFF
  | 5 => 0x0000FFFF
  | 6 => 0x0001FFFF
  | 8 => 0x03FF03FF
  | 9 => 0x73FF03FF
  | 14 => 0x00000FFF
  | _ => 0xFFFFFFFF

/-- The 16 words that 64 bytes spell, reserved bits ignored (R147). (DESIGN CHOICE: log 17) -/
def descOfBytes (bs : List Byte) : List Nat :=
  (List.range 16).map (fun w => leNat ((bs.drop (4 * w)).take 4) &&& descMask w)

/-- Read descriptor n from memory; none where it cannot be read. -/
def Chip.readDesc (c : Chip) (n : Nat) : Option (List Nat) × Chip :=
  let r := c.blockRead (descAddr c n) 64
  (r.1.map descOfBytes, r.2)

/-- Read a page-map block of 128 entries; none where it cannot be read or lies outside DRAM. -/
def Chip.readPmap (c : Chip) (a : Nat) : Option (List Nat) × Chip :=
  let r := c.blockRead a 512
  (r.1.map (fun bs => (List.range 128).map (fun p => leNat ((bs.drop (4 * p)).take 4))), r.2)

/-! ### Submission commands (R158 to R160) -/

/-- The SQ that the Granary takes its next entry from (R160): in rotation, one that holds entries and whose CQ can take
a status entry; none before READY (R146). -/
def nextSq (c : Chip) : Option Nat :=
  if !c.bit Reg.GRN_STAT 31 then none else
  ((List.range 16).map (fun i => (c.grn.sqNext + i) % 16)).find?
    (fun q => !ringEmpty c (Reg.SQ_BASE_LO q) && !ringFull c (Reg.CQ_BASE_LO q))

/-- A command's answer: its STATUS, the state of its context when it was taken, and the chip after it. -/
structure SqAnswer where
  status : Nat
  state  : Nat
  chip   : Chip

/-- A command status entry (R161). -/
def statusEntry (op n tag status state : Nat) : RingEntry :=
  { w0 := 2 * 2 ^ 24 + state * 2 ^ 18 + n, w1 := tag, w2 := op * 2 ^ 18 + status }

/-- Take the next entry, when its OP is one that `isOp` names, and answer it as R160 gives: an entry that cannot be read
is answered with ENTRY_ERR whatever the row; a refusal raises EV48. -/
def Chip.sqTake (c : Chip) (isOp : Nat → Bool) (act : Chip → Nat → Nat → SqAnswer) : Chip :=
  match nextSq c with
  | none => c
  | some q =>
    let r := Reg.SQ_BASE_LO q
    let rd := c.blockRead (ringEntry c r 16 (ringHead c r)) 16
    let turn : Chip → Chip := fun c => { (c.ringConsumed r) with grn := { (c.ringConsumed r).grn with sqNext := (q + 1) % 16 } }
    match rd.1 with
    | none =>
      let f := rd.2.drawFree
      ((turn f.2).raise 48).cqPost q (statusEntry 0 0 0 0x0B (f.1.toNat % 16)) |>.2
    | some bs =>
      let op := leNat ((bs.drop 3).take 1)
      if !isOp op then c else
      let w0 := leNat (bs.take 4)
      let n := natBits w0 17 0
      let a := act (turn rd.2) n (leNat ((bs.drop 8).take 8))
      let c1 := a.chip.raiseIf (decide (a.status ≠ 0)) 48
      if a.status ≠ 0 ∨ w0.testBit 23 ∨ op = 7 then
        (c1.cqPost q (statusEntry op n (leNat ((bs.drop 4).take 4)) a.status a.state)).2
      else c1

/-- Read a command's target (R150, R159): DESC_ERR where the descriptor cannot be read, which faults a live context with
cause 0x07; a reserved STATE in memory faults the context with cause 0x05; a descriptor that is DONE or FAULTED is
software's to change, and the Granary takes its fields from memory. Answers the descriptor's words. (DESIGN CHOICE: log 18) -/
def Chip.readTarget (c : Chip) (n : Nat) : Option (List Nat) × Chip :=
  let r := c.readDesc n
  let x := r.2.ctx n
  let live := decide (1 ≤ x.state) && decide (x.state ≤ 4)
  match r.1 with
  | none => (none, if live then r.2.faultNow n 7 else r.2)
  | some d =>
    let bad := decide (7 ≤ natBits (listGet 0 d 0) 21 18)
    let c1 := if live then r.2 else
      if x.state = 0 && !bad then r.2 else
      let pm := r.2.readPmap (natBits (listGet 0 d 3) 7 0 * 2 ^ 32 + listGet 0 d 2)
      pm.2.setCtx n { x with desc := listSet d 0 (natSetBits (listGet 0 d 0) 17 0 n), pmap := pm.1.getD x.pmap }
    (some d, if bad then c1.faultNow n 5 else c1)

/-- A command other than SUBMIT and FENCE (R159): `refuse` gives its STATUS by the context's state. STATE of the status entry is the state
in which the command found the context, but after a fault by a reserved STATE that the command itself met: FAULTED.
(DESIGN CHOICE: log 169) -/
def simpleCommand (refuse : Nat → Nat) (act : Chip → Nat → Nat → Chip) (c : Chip) (n arg : Nat) : SqAnswer :=
  let st := (c.ctx n).state
  let r := c.readTarget n
  match r.1 with
  | none => { status := 0x0A, state := st, chip := r.2 }
  | some _ =>
    let s := (r.2.ctx n).state
    if refuse s = 0 then { status := 0, state := s, chip := act r.2 n arg }
    else { status := refuse s, state := s, chip := r.2 }

/-- A loft page number that R153 accepts. -/
def pageAccepted (c : Chip) (e : Nat) : Bool :=
  !retired c (natBits e 19 12) && decide (natBits e 11 0 < loftPages c)

/-- The chain kernels still to come, CH[CHAIN_POS] to CH[CHAIN_LEN − 1]. -/
def chainToCome (x : Ctx) : List Nat :=
  ((List.range 4).filter (fun i => decide (ctxChainPos x ≤ i) && decide (i < ctxChainLen x))).map (ctxChain x)

/-- SUBMIT (R154, R155, R159): the checks in the order of the refusal column, then allocation, then READY or PARKED. The bits RES,
DIRTY, OWN and FRAME that software left in an entry that names a page are kept as found. (DESIGN CHOICE: log 135; DESIGN CHOICE: log 169) -/
def submitCommand (c : Chip) (n arg : Nat) : SqAnswer :=
  let st := (c.ctx n).state
  let r := c.readTarget n
  match r.1 with
  | none => { status := 0x0A, state := st, chip := r.2 }
  | some d =>
    let c1 := r.2
    let refuse (k : Nat) (c : Chip) : SqAnswer := { status := k, state := (c1.ctx n).state, chip := c }
    let x : Ctx := { state := 0, desc := d }
    if natBits (listGet 0 d 0) 17 0 ≠ n ∨ c1.fld Reg.GRN_CAPFIRST 17 0 ≤ n then refuse 8 c1
    else if natBits (listGet 0 d 0) 21 18 ≠ 0 ∨ (c1.ctx n).state ≠ 0 then refuse 2 c1
    else if 4 < ctxChainLen x ∨ ctxChainLen x < ctxChainPos x then refuse 7 c1
    else if (ctxKernel x :: chainToCome x).any (fun k => !kernelValid c1 k) then refuse 6 c1
    else
      let pm := c1.readPmap (pmapAddr x)
      match pm.1 with
      | none => refuse 9 pm.2
      | some es =>
        let y := { x with pmap := es }
        let valid := (List.range (pcount y)).filter (fun p => (listGet 0 es p).testBit 31)
        let want := valid.filter (fun p => natBits (listGet 0 es p) 19 0 = 0xFFFFF)
        let named := valid.filter (fun p => natBits (listGet 0 es p) 19 0 ≠ 0xFFFFF)
        if named.any (fun p => !pageAccepted pm.2 (listGet 0 es p)) then refuse 5 pm.2
        else
          let home := rehome pm.2 (ctxHome y)
          let al := pm.2.allocPages home want.length
          match al.1 with
          | none => refuse 4 al.2
          | some pages =>
            let es' := (want.zip pages).foldl (fun es p =>
              listSet es p.1 ((listGet 0 es p.1 &&& (2 ^ 31 + 2 ^ 28)) + 2 ^ 27 + 2 ^ 26 + p.2)) es
            let z := ctxSet { y with pmap := es' } 1 23 16 home
            let z1 := ctxSet (ctxSetFlag (ctxSetFlag (ctxSetFlag z 6 false) 5 false) 1 false) 14 11 4 0
            let c2 := (al.2.blockWrite (pmapAddr z1) (es'.flatMap (leBytes 4))).2
            { status := 0, state := 0
              chip := c2.putCtx n { z1 with state := if arg.testBit 0 then 1 else 2 } }

/-- SUBMIT (R159). -/
def execSubmit (s : State) : Host.Outcome State Fault Refusal :=
  run (fun c => c.sqTake (· == 1) submitCommand) s
/-- PARK (R159). -/
def execPark (s : State) : Host.Outcome State Fault Refusal :=
  run (fun c => c.sqTake (· == 2) (simpleCommand (fun st => if st = 2 then 0 else if st = 3 ∨ st = 4 then 3 else 2)
    (fun c n _ => c.moveCtx n 1))) s
/-- RELEASE (R159). -/
def execRelease (s : State) : Host.Outcome State Fault Refusal :=
  run (fun c => c.sqTake (· == 3) (simpleCommand (fun st => if st = 1 then 0 else 2) (fun c n _ => c.moveCtx n 2))) s
/-- FREE (R159). -/
def execFree (s : State) : Host.Outcome State Fault Refusal :=
  run (fun c => c.sqTake (· == 4) (simpleCommand (fun st => if st = 3 ∨ st = 4 then 3 else if st = 0 then 2 else 0)
    (fun c n _ => c.freeCtx n))) s
/-- SET_DEADLINE (R159): DEADLINE ← ARG[47:0], LATE ← 0. -/
def execSetDeadline (s : State) : Host.Outcome State Fault Refusal :=
  run (fun c => c.sqTake (· == 5) (simpleCommand (fun st => if st = 0 then 2 else 0) (fun c n arg =>
    c.putCtx n (ctxSetFlag (ctxSet (ctxSet (c.ctx n) 4 31 0 arg) 5 15 0 (arg / 2 ^ 32)) 5 false)))) s
/-- SET_PRIO (R159): PRIO ← ARG[1:0]. -/
def execSetPrio (s : State) : Host.Outcome State Fault Refusal :=
  run (fun c => c.sqTake (· == 6) (simpleCommand (fun st => if st = 0 then 2 else 0) (fun c n arg =>
    c.putCtx n (ctxSet (c.ctx n) 0 23 22 arg)))) s
/-- FENCE (R159): a status entry once every earlier entry of its SQ is processed, which taking entries in order gives. -/
def execFence (s : State) : Host.Outcome State Fault Refusal :=
  run (fun c => c.sqTake (· == 7) (fun c n _ => { status := 0, state := (c.ctx n).state, chip := c })) s
/-- An undefined OP (R159): BAD_OP, behind DESC_ERR, which is checked before any other refusal. -/
def execGrnBadOp (s : State) : Host.Outcome State Fault Refusal :=
  run (fun c => c.sqTake (fun op => op == 0 || decide (8 ≤ op)) (simpleCommand (fun _ => 1) (fun c _ _ => c))) s

/-! ### Starting the Granary (R146) -/

/-- Does an area lie wholly inside the common view at the stripe in force (R28, R146)? -/
def insideCommon (c : Chip) (a n : Nat) : Bool :=
  decide (0x800000000 ≤ a) && decide (a + n ≤ 0x800000000 + 256 * stripeBytes c)
/-- Is the common view available (R146)? -/
def commonReady (c : Chip) : Bool := c.bit Reg.DRC_STAT 31 && !c.bit Reg.DRC_STAT 30 && !c.bit Reg.DRC_CTL 7

/-- The common-view offset of a home address, none outside the stripes (R28). -/
def commonOffset (c : Chip) (h : Nat) : Option Nat :=
  if h < 0x100000000 ∨ 0x500000000 ≤ h then none else
  let t := (h - 0x100000000) / 0x4000000
  let o := (h - 0x100000000) % 0x4000000
  if o < stripeBytes c then some (o / 4096 * 1048576 + t * 4096 + o % 4096) else none

/-- Does some loft answer a write through the common view with an error (R202 to R205)? -/
def commonBlocked (c : Chip) : Bool := (List.range 256).any (fun t => dramBlocked c t true)
/-- Zero an area of the common view that takes in a line of every loft, with valid check bits: the writes wake every loft and end
self-refresh (R197, R204), and a loft that answers with an error takes none. (DESIGN CHOICE: log 136) -/
def Chip.zeroCommon (c0 : Chip) (a n : Nat) : Chip :=
  let c := (List.range 256).foldl Chip.reachLoft c0
  let out : Nat → Bool := fun h => match commonOffset c h with
    | some o => decide (0x800000000 + o < a) || decide (a + n ≤ 0x800000000 + o) || dramBlocked c (commonHome o).1 true
    | none => true
  { c with mem := c.mem.filter (fun e => out e.1), ecc := c.ecc.filter (fun e => out e.1) }

/-- An initialisation that fails (R146): ENABLE returns to 0, INITERR, EV78. -/
def Chip.grnInitError (c : Chip) : Chip :=
  let c1 := ((c.setBit Reg.GRN_CTL 0 false).setBit Reg.GRN_STAT 26 true).raise 78
  { c1 with grn := { c1.grn with initLeft := false } }

/-- A write of 1 to GRN_CTL.ENABLE (R146): the checks, and then the table is zeroed and the free lists are built; a write that is
answered with an error is handled as a check that fails, once the writes made have ended. -/
def Chip.grnEnable (c : Chip) : Chip :=
  if c.bit Reg.GRN_CTL 0 then c else
  let capN := 0x40000 - c.fld Reg.GRN_CAPFIRST 17 0
  let ok := commonReady c && insideCommon c (descAddr c 0) 0x1000000 &&
    insideCommon c (c.fld Reg.GRN_CAPMAP 15 0 * 2 ^ 24) (512 * capN)
  if !ok then c.grnInitError
  else
    let c1 := (c.setBit Reg.GRN_CTL 0 true).zeroCommon (descAddr c 0) 0x1000000
    if commonBlocked c then c1.grnInitError else
    { c1 with grn := { c1.grn with initLeft := true, ctxs := [], pool := [], reserved := [] } }

/-- GRN_ENABLE (R146). -/
def execGrnEnable (s : State) : Host.Outcome State Fault Refusal := regRun Reg.GRN_CTL Chip.grnEnable s

/-- Tile t leaves T3 for T2 when READY is first set (R475). -/
def Chip.leaveT3 (c : Chip) (t : Nat) : Chip :=
  if tileState c t = 3 && !retired c t then c.tileToT2 t else c
/-- GRN_INIT_DONE (R146, R475): READY and EV60; the tiles whose bound forbids T3 leave it. -/
def execGrnInitDone (s : State) : Host.Outcome State Fault Refusal :=
  run (fun c =>
    if !c.grn.initLeft then c
    else if !commonReady c || commonBlocked c then c.grnInitError
    else
      let c1 := (c.setBit Reg.GRN_STAT 31 true).raise 60
      let c2 := { c1 with grn := { c1.grn with initLeft := false } }
      if 32 ≤ tolBound c2 [1, 3] then c2 else (List.range 256).foldl Chip.leaveT3 c2) s

/-- KLOCK (R164). -/
def execKlock (s : State) : Host.Outcome State Fault Refusal := regRun Reg.GRN_CTL (fun c => c.setBit Reg.GRN_CTL 2 true) s
/-- A write of GRN_CTL.HOLD (R188). -/
def execGrnHold (hold : Bool) (s : State) : Host.Outcome State Fault Refusal :=
  regRun Reg.GRN_CTL (fun c => c.setBit Reg.GRN_CTL 3 hold) s

/-- A write of a ring's BASE_LO or BASE_HI (R189). -/
def execRingBaseWrite (ring : RingId) (hi : Bool) (data : Word) (s : State) : Host.Outcome State Fault Refusal :=
  regRun (ringReg ring) (fun c => c.ringBaseWrite (ringReg ring) hi data) s

/-! ### Snoops and deadlines (R150, R151) -/

/-- Write a context's whole copy back to memory: descriptor and page map (R150). -/
def Chip.restoreCopy (c : Chip) (n : Nat) : Chip :=
  let x := c.ctx n
  let c1 := c.putCtx n x
  (c1.blockWrite (pmapAddr x) (x.pmap.flatMap (leBytes 4))).2

/-- An INV_DESC (pmap = false) or INV_PMAP snoop for context n (R150). -/
def Chip.descSnoop (c : Chip) (n : Nat) (pmap : Bool) : Chip :=
  let x := c.ctx n
  if x.state < 1 ∨ 4 < x.state then c
  else if pmap then
    let r := c.readPmap (pmapAddr x)
    match r.1 with
    | none => r.2.faultNow n 7
    | some es => if es = x.pmap then r.2 else ((r.2.restoreCopy n).raise 57).faultNow n 6
  else
    let r := c.readDesc n
    match r.1 with
    | none => r.2.faultNow n 7
    | some d =>
      let user := (d.drop 10).take 4
      let y := { x with desc := x.desc.take 10 ++ user ++ x.desc.drop 14 }
      let c1 := r.2.setCtx n y
      if d = y.desc then c1
      else
        let bad := decide (7 ≤ natBits (listGet 0 d 0) 21 18)
        ((c1.restoreCopy n).raise 57).faultNow n (if bad then 5 else 6)


/-- Does a line of n bytes at home address h take in a byte of context x's page-map block, in whichever view PMAP names it (R28, R150)? -/
def pmapCovers (c : Chip) (x : Ctx) (h n : Nat) : Bool :=
  match decodeAddr c (pmapAddr x) with
  | .loft _ p => decide (p < h + n) && decide (h < p + 512)
  | _ => false
/-- The contexts from PARKED to RUNNING whose page-map block n bytes at home address h touch (R150). -/
def pmapHolders (c : Chip) (h n : Nat) : List Nat :=
  ctxsWhere c (fun x => decide (1 ≤ x.state) && decide (x.state ≤ 4) && pmapCovers c x h n)
/-- The context whose descriptor n bytes at home address h change otherwise than in its user words, bytes 0x28 to 0x37 (R150). -/
def descHolder (c : Chip) (h n : Nat) : Option Nat :=
  match commonOffset c h with
  | none => none
  | some o =>
    let a := 0x800000000 + o
    let d0 := descAddr c 0
    let off := (a - d0) % 64
    if a < d0 ∨ d0 + 0x1000000 ≤ a ∨ (0x28 ≤ off ∧ off + n ≤ 0x38) then none else some ((a - d0) / 64)
/-- A write of a descriptor or page-map line of a context that the Granary holds (R150): the loft controller's snoop, taken at once.
(DESIGN CHOICE: log 43) -/
def Chip.grnSnoop (c : Chip) (home n : Nat) : Chip :=
  if !c.bit Reg.GRN_STAT 31 || !c.isOn .granary then c else
  let c1 := match descHolder c home n with
    | some k => c.descSnoop k false
    | none => c
  (pmapHolders c1 home n).foldl (fun c k => c.descSnoop k true) c1
/-- The 64-byte lines' parts of n bytes from a: their addresses and lengths. -/
def lineParts : Nat → Nat → Nat → List (Nat × Nat)
  | 0, _, _ => []
  | fuel + 1, a, n =>
    if n = 0 then [] else
    let k := Nat.min n (64 - a % 64)
    (a, k) :: lineParts fuel (a + k) (n - k)
/-- A write by a block other than the Granary, within one 4 KiB line of DRAM (R150): each line of it may concern a context. -/
def Chip.blockStore (c : Chip) (a : Nat) (bs : List Byte) : Bool × Chip :=
  let r := c.blockWrite a bs
  match r.1, decodeAddr c a with
  | true, .loft _ h => (true, (lineParts (bs.length + 1) h bs.length).foldl (fun d p => d.grnSnoop p.1 p.2) r.2)
  | _, _ => r
/-- A long write by a block inside the part, cut at 4 KiB lines. -/
def Chip.blockWriteLong (c : Chip) : Nat → Nat → List Byte → Bool × Chip
  | 0, _, _ => (true, c)
  | fuel + 1, a, bs =>
    match bs with
    | [] => (true, c)
    | _ =>
      let k := 4096 - a % 4096
      let r := c.blockStore a (bs.take k)
      let rest := r.2.blockWriteLong fuel (a + k) (bs.drop k)
      (r.1 && rest.1, rest.2)

/-- DEADLINE − now as a signed 48-bit number (R151). -/
def deadlineLeft (c : Chip) (x : Ctx) : Int := toSigned 48 (ctxDeadline x + 2 ^ 48 - c.tai.toNat % 2 ^ 48)
/-- A context's slack in nanoseconds, none when unbounded (R151). -/
def slackOf (c : Chip) (x : Ctx) : Option Int :=
  if ctxDeadline x = 0 then none
  else some (deadlineLeft c x - 1000 * (((ctxKernel x :: chainToCome x).map (kernelEst c)).foldl (· + ·) 0 : Nat))

/-- DEADLINE_SCAN (R151): contexts whose deadline has passed are marked LATE, EV55 for each. -/
def execDeadlineScan (s : State) : Host.Outcome State Fault Refusal :=
  run (fun c =>
    (ctxsWhere c (fun x => decide (1 ≤ x.state) && decide (x.state ≤ 4) && decide (ctxDeadline x ≠ 0) && !ctxFlag x 5 &&
      decide (deadlineLeft c x < 0))).foldl
      (fun c n => (c.putCtx n (ctxSetFlag (c.ctx n) 5 true)).raise 55) c) s

/-! ### Selection, placement and staging (R168 to R171, R177, R187) -/

/-- Is the mode INCIDENT (R187, R319)? -/
def inIncident (c : Chip) : Bool := c.fld Reg.SYS_MODE 7 0 == 3
/-- A context's class (R169, R187). -/
def classOf (c : Chip) (x : Ctx) : Nat := if inIncident c && ctxFlag x 7 then 0 else ctxFld x 0 23 22
/-- The READY contexts of a kernel and class. -/
def readyOf (c : Chip) (k cls : Nat) : List Nat :=
  ctxsWhere c (fun x => decide (x.state = 2) && decide (ctxKernel x = k) && decide (classOf c x = cls))
/-- The tiles that are not retired. -/
def tilesLeft (c : Chip) : Nat := ((List.range 256).filter (fun t => !retired c t)).length

/-- Is deadline a before b: by the signed difference from now, a DEADLINE of 0 last (R151, R169)? -/
def deadlineBefore (c : Chip) (a b : Ctx) : Bool :=
  if ctxDeadline a = 0 then false
  else if ctxDeadline b = 0 then true
  else decide (deadlineLeft c a < deadlineLeft c b)

/-- Insert a context into a list kept by earliest deadline, then lowest CTX_ID. -/
def insertByDeadline (c : Chip) (n : Nat) : List Nat → List Nat
  | [] => [n]
  | m :: t => if deadlineBefore c (c.ctx n) (c.ctx m) then n :: m :: t else m :: insertByDeadline c n t
/-- Contexts of rising CTX_ID, ordered by earliest deadline, then lowest CTX_ID (R169). -/
def byDeadline (c : Chip) (ns : List Nat) : List Nat := ns.foldl (fun l n => insertByDeadline c n l) []

/-- A kernel that selection may choose in one class: urgency, fill, its contexts in order. -/
structure Candidate where
  kernel : Nat
  urgent : Bool
  fill   : Nat
  ctxs   : List Nat
  deriving DecidableEq, Repr

/-- The candidate kernel k offers in a class, none where it is not eligible (R169). -/
def candidateOf (c : Chip) (cls k : Nat) : Option Candidate :=
  let rs := readyOf c k cls
  if rs.isEmpty || !kernelValid c k then none else
  let fill := Nat.min rs.length (Nat.min 256 (tilesLeft c))
  let urgent := rs.any (fun n => match slackOf c (c.ctx n) with
    | some s => decide (s < (1000 * c.fld Reg.GRN_ROUND_SLACK 19 0 : Nat))
    | none => false)
  if fill = 0 ∨ (fill < kernelMinFill c k ∧ !urgent) then none
  else some { kernel := k, urgent := urgent, fill := fill, ctxs := byDeadline c rs }

/-- Does candidate a come before b, a's kernel being the lower number (R169's key)? -/
def candidateBefore (c : Chip) (a b : Candidate) : Bool :=
  if a.urgent ≠ b.urgent then a.urgent
  else if a.fill ≠ b.fill then decide (b.fill < a.fill)
  else match a.ctxs, b.ctxs with
    | n :: _, m :: _ => !deadlineBefore c (c.ctx m) (c.ctx n)
    | _, _ => true

/-- The round of a worker in gang mode (R528): the manager chooses class and kernel, and the worker binds its own READY contexts of
that kernel, by class and deadline, possibly none. (DESIGN CHOICE: log 126) -/
def gangRound (c : Chip) : Option (Nat × Candidate) :=
  c.grn.gangNext.map (fun r =>
    let rs := [0, 1, 2, 3].flatMap (fun cls => byDeadline c (readyOf c r.2 cls))
    (r.1, { kernel := r.2, urgent := false, fill := Nat.min rs.length (Nat.min 256 (tilesLeft c)), ctxs := rs }))

/-- select_round (R169): the best candidate of the most urgent class that has one; a worker in gang mode takes the manager's (R528). -/
def selectRound (c : Chip) : Option (Nat × Candidate) :=
  if gangWorker c then gangRound c else
  ([0, 1, 2, 3].filterMap (fun cls =>
    let ks := ((ctxsWhere c (fun x => decide (x.state = 2))).map (fun n => ctxKernel (c.ctx n))).eraseDups.mergeSort
    let best := (ks.filterMap (candidateOf c cls)).foldl (fun (b : Option Candidate) q => match b with
      | none => some q
      | some p => if candidateBefore c p q then b else some q) none
    best.map (fun b => (cls, b)))).head?

/-- Does tile t hold resident pages of context n? -/
def holdsPages (c : Chip) (t n : Nat) : Bool := (c.tile t).frames.any (fun f => decide (f.2.ctx = n))

/-- The tile for a context, given the tiles already taken (R170). -/
def placeCtx (c : Chip) (taken : List Nat) (n : Nat) : Option Nat :=
  let x := c.ctx n
  let free : Nat → Bool := fun t => !taken.contains t && !retired c t
  if holdsPages c (ctxBound x) n && free (ctxBound x) then some (ctxBound x)
  else if free (ctxHome x) then some (ctxHome x)
  else nearestTile (ctxHome x) free

/-- Place the chosen contexts in order (R170). -/
def placeAll (c : Chip) : List Nat → List Nat → List (Nat × Nat)
  | _, [] => []
  | taken, n :: rest =>
    match placeCtx c taken n with
    | some t => (t, n) :: placeAll c (t :: taken) rest
    | none => placeAll c taken rest

/-- The pages that staging needs for context n of a round (R163, R177): DECL and PIN pages that are valid. -/
def stagePages (c : Chip) (r : Round) (n : Nat) : List Nat :=
  let x := c.ctx n
  (List.range (pcount x)).filter (fun p =>
    let e := pmapEntry x p
    e.testBit 31 && (r.decl.contains p || e.testBit 28))
/-- Is page p of context n resident in tile t? -/
def residentIn (c : Chip) (t n p : Nat) : Bool :=
  (c.tile t).frames.any (fun f => decide (f.2.ctx = n) && decide (f.2.page = p))

/-- Queue every page of the staged round that is neither resident nor on its way and finds a frame (R175, R177). -/
def Chip.stageMore (c : Chip) : Chip :=
  match c.grn.staged with
  | none => c
  | some r => r.bound.foldl (fun c b =>
      ((stagePages c r b.2).filter (fun p => !residentIn c b.1 b.2 p)).foldl
        (fun c p => (c.queuePage b.1 b.2 p .staging []).2) c) c

/-- Is every page of the staged round resident (R168, step 3)? -/
def stagedHere (c : Chip) : Bool :=
  match c.grn.staged with
  | none => false
  | some r => r.bound.all (fun b => (stagePages c r b.2).all (fun p => residentIn c b.1 b.2 p))

/-- May the staged round start (R168, R528): its pages are resident, on every device of a gang; a worker's starts with the manager's? -/
def stagedReady (c : Chip) : Bool :=
  stagedHere c && (!gangManager c || peersAll c GangPeer.staged) && (!gangWorker c || c.grn.gangStart)

/-- Bind a context to its tile at selection (R155, R171, R182): the frames of its old tile are emptied first, with
writeback, for which an old tile in T2 leaves it, and page-ins of it that are still queued there are dropped; the tile is held in T0.
(DESIGN CHOICE: log 24) -/
def Chip.bindCtx (c : Chip) (t n : Nat) : Chip :=
  let old := ctxBound (c.ctx n)
  let c1 := if old = t then c else
    let w := if (c.tile old).frames.any (fun f => decide (f.2.ctx = n) && f.2.dirty) then c.wakeTile old else c
    let d := ((c.tile old).frames.filter (fun f => decide (f.2.ctx = n))).foldl (fun c f => c.evict old f.1) w
    { d with grn := { d.grn with moves := d.grn.moves.filter (fun m => decide (m.ctx ≠ n) || decide (m.tile = t)) } }
  (c1.putCtx n (ctxSet { c1.ctx n with state := 3 } 1 31 24 t)).holdTile t

/-- The manager of a gang sends the round that it has chosen: no other device has staged it yet (R528). -/
def Chip.gangChosen (c : Chip) (cls kernel : Nat) : Chip :=
  if !gangManager c then c else
  ({ c with spin := { c.spin with peers := c.spin.peers.map (fun (e : Nat × GangPeer) => (e.1, { e.2 with staged := false })) } }).gangSay
    (.round (Fin.ofNat 4 cls) (Fin.ofNat 1024 kernel))
/-- Selection (R168 step 1, R169, R170), whenever HOLD = 0 and no round is staged. -/
def Chip.selection (c : Chip) : Chip :=
  if c.bit Reg.GRN_CTL 3 || !c.bit Reg.GRN_STAT 31 || c.grn.staged.isSome then c else
  match selectRound c with
  | none => c
  | some (cls, q) =>
    let placed := placeAll c [] (q.ctxs.take q.fill)
    let c1 := placed.foldl (fun c b => c.bindCtx b.1 b.2) c
    let r : Round := { kernel := q.kernel, cls := cls, isPart := decide (q.fill < kernelMinFill c q.kernel), bound := placed
                       decl := kernelDecl c q.kernel, restart := kernelRestart c q.kernel }
    let c2 := { c1 with grn := { c1.grn with staged := some r, gangNext := none } }
    (c2.gangChosen cls q.kernel).stageMore

/-- Is a debug halt or a power-fail stop in force (R114, R115)? -/
def stopInForce (c : Chip) : Bool := c.seq.powerStop || c.seq.debugHalt
/-- Does the Granary hold the queue for a preemption (R185, steps 2 to 7)? -/
def preemptHolds (c : Chip) : Bool :=
  match c.grn.preempt with
  | .idle => false
  | .requested => false
  | _ => true
/-- The state of a queue that leaves HALTED, a debug halt or PREEMPTED (R114 to R116): STOPPED while a stop is in force, PREEMPTED while a
preemption holds the queue, RUN otherwise. (DEDUCED: log 137) -/
def restState (c : Chip) : Nat := if stopInForce c then 3 else if preemptHolds c then 2 else 0
/-- The queue leaves its state for the one that `restState` names: an entry to STOPPED for debug raises EV244 (R545, R558). -/
def Chip.enterRest (c : Chip) : Chip :=
  (c.setFld Reg.ASQ_QSTAT 31 30 (restState c)).raiseIf (decide (restState c = 3) && !c.seq.powerStop) 244
/-- The preemption is over: at the Granary's resume the queue leaves PREEMPTED for RUN, or for STOPPED where a stop came meanwhile (R114,
R137). -/
def Chip.endPreempt (c : Chip) : Chip :=
  let c1 := { c with grn := { c.grn with preempt := .idle } }
  if c.fld Reg.ASQ_QSTAT 31 30 = 2 then c1.enterRest.managerSay .run else c1

/-- Selection as step 7 of a preemption needs it (R185): nothing eligible returns the queue to RUN at once. With HOLD = 1 nothing is
selected and the queue stays PREEMPTED until HOLD clears. (DESIGN CHOICE: log 138) -/
def Chip.selectAfterPreempt (c : Chip) : Chip :=
  let c1 := c.selection
  if c1.grn.preempt = .acked ∧ c1.grn.staged.isNone ∧ !c1.bit Reg.GRN_CTL 3 then c1.endPreempt else c1

/-- SELECTION (R169). -/
def execSelection (s : State) : Host.Outcome State Fault Refusal := run Chip.selectAfterPreempt s

/-! ### Page transfers and stalls (R176 to R179) -/

/-- The next page transfer of tile t completes (R176): its page is resident; staging goes on. One that finds the tile in T2 or T3 begins
with its exit (R182, R272). -/
def Chip.pageTransferDone (c : Chip) (t : Nat) : Chip :=
  match c.grn.moves.find? (fun m => m.tile == t) with
  | none => c
  | some m => (((c.wakeTile t).finishMove m)).stageMore
/-- PAGE_TRANSFER_DONE (R176). -/
def execPageTransferDone (t : Fin 256) (s : State) : Host.Outcome State Fault Refusal :=
  run (fun c => c.pageTransferDone t.val) s

/-- The ACLK frequency of the present operating point in MHz (R480). -/
def aclkMHz (c : Chip) : Nat := 800 - 200 * c.fld Reg.SYS_THR 25 24

/-- STALL_RESUME (R179): once every page a stall waits for is resident, or found no frame, the array resumes; a fault
stall adds its ACLK to GRN_STALL. -/
def Chip.stallResume (c : Chip) : Chip :=
  match c.grn.stall with
  | none => c
  | some st =>
    let waits := st.waits.any (fun w => c.grn.moves.any (fun m => m.tile == w.1 && m.page == w.2 && boundCtx c w.1 == some m.ctx))
    if waits then c else
    let c1 := if st.isFault then
        (c.wrapCount Reg.GRN_STALL (((c.ns - st.since) * aclkMHz c + 999) / 1000) 58).setBit Reg.GRN_STAT 28 false
      else c
    { c1 with grn := { c1.grn with stall := none } }
/-- STALL_RESUME (R179). -/
def execStallResume (s : State) : Host.Outcome State Fault Refusal := run Chip.stallResume s

/-- A declaration of virtual pages for the bound tiles (R119, R177): pages that are valid, not resident and not on their
way are queued ahead of staging; one that finds no frame is dropped; with no round running it declares nothing. -/
def Chip.declare (c : Chip) (pages : List Nat) : Chip :=
  (boundTiles c).foldl (fun c t =>
    pages.foldl (fun c p =>
      match translate (c.tile t) (32 * p), boundCtx c t with
      | .missing _, some n => (c.queuePage t n p .declared []).2
      | _, _ => c) c) c

/-! ### Rounds (R162, R168, R172, R173) -/

/-- Post a NOTICE (kind 1) or PREEMPT (kind 2) entry on the round queue (R162). -/
def Chip.postRound (c : Chip) (kind : Nat) (r : Round) (seqNo : Nat) : Chip :=
  let tai := c.tai.toNat % 2 ^ 48
  let w1 := kind * 2 ^ 28 + r.isPart.toNat * 2 ^ 27 + r.cls * 2 ^ 25 + r.bound.length * 2 ^ 16 + r.kernel
  (c.ringPost Reg.RQ_BASE_LO 1 [seqNo, w1, tai % 2 ^ 32, tai / 2 ^ 32]).raise (if kind = 1 then 50 else 52)

/-- The frame table of tile t for context n at a turnaround (R44). -/
def frameTableOf (x : Ctx) : List (Nat × FrameEntry) :=
  ((List.range (pcount x)).filter (fun p => (pmapEntry x p).testBit 31)).map (fun p =>
    let e := pmapEntry x p
    (p, { valid := true, resident := e.testBit 30, frame := natBits e 24 20 }))

/-- Turnaround (R168 step 3): frame tables, PE registers (R41) and LFSRs (R50), RUNNING, NOTICE, EV50. While the round
queue is full no round starts, and its NOTICE waits (R162). GRN_RSTAT.KERNEL_ID keeps the last round's kernel while none runs.
(DESIGN CHOICE: log 22; DESIGN CHOICE: log 139) -/
def Chip.turnaround (c : Chip) : Chip :=
  match c.grn.staged with
  | none => c
  | some r =>
    if c.grn.running.isSome || !stagedReady c then c
    else if ringFull c Reg.RQ_BASE_LO then { c with grn := { c.grn with noticeDue := true } }
    else
      let no := c.grn.nextSeq
      let r1 := { r with seqNo := no }
      let c1 := { c with grn := { c.grn with
        running := some r1, staged := none, causes := [], noticeDue := false, acked := false, gangStart := false, nextSeq := (no + 1) % 2 ^ 32 } }
      let c2 : Chip := r.bound.foldl (fun (c : Chip) b =>
        (((c.onTile b.1 (fun x => { x with ftab := frameTableOf (c.ctx b.2) })).resetPes b.1).loadLfsr b.1).putCtx b.2
          { c.ctx b.2 with state := 4, last := some r.kernel, late := 0 }) c1
      let c3 := ((c2.setFld Reg.GRN_RSTAT 9 0 r.kernel).postRound 1 r1 no).managerSay .start
      if c3.grn.preempt = .acked then c3.endPreempt else c3
/-- TURNAROUND (R168). -/
def execTurnaround (s : State) : Host.Outcome State Fault Refusal := run Chip.turnaround s

/-- Is the issue queue idle: no entry and no routine (R142), in every queue of a gang at its manager (R527)? -/
def queueIdle (c : Chip) : Bool := c.seq.queue.isEmpty && c.seq.running.isNone && gangIdle c

/-- The lowest cause of R149 that applies to a tile of the round, 0 for none. -/
def roundCause (c : Chip) (all : Bool) (t n : Nat) : Nat :=
  let l := mapGet [] c.grn.causes t ++ (if all || c.vecBit (Reg.GRN_RFAULTk 0) t then [1] else []) ++
    (if (c.ctx n).late = 0 then [] else [(c.ctx n).late])
  match l with
  | [] => 0
  | k :: rest => rest.foldl Nat.min k

/-- A RUNNING context's step at an END (R155). -/
def Chip.chainStep (c : Chip) (n cause : Nat) : Chip :=
  let x := { c.ctx n with late := 0 }
  let c0 := c.setCtx n x
  if cause ≠ 0 then c0.faultCtx n cause
  else if ctxChainPos x < ctxChainLen x then
    let k := ctxChain x (ctxChainPos x)
    if !kernelValid c k then c0.faultCtx n 8
    else c0.putCtx n (ctxSet (ctxSet { x with state := if ctxFlag x 4 then 1 else 2 } 1 9 0 k) 1 12 10 (ctxChainPos x + 1))
  else (c0.putCtx n { x with state := 5 }).completeCtx n

/-- Withdraw the staged round (R173, R155): its contexts are READY again, their pages stay resident. -/
def Chip.withdraw (c : Chip) : Chip :=
  match c.grn.staged with
  | none => c
  | some r =>
    let c1 := { c with grn := { c.grn with
      staged := none, noticeDue := false
      moves := c.grn.moves.filter (fun m => decide (m.why ≠ MoveWhy.staging)) } }
    r.bound.foldl (fun c b =>
      let c2 := c.moveCtx b.2 2
      if (boundTiles c2).contains b.1 then c2 else c2.releaseTile b.1) c1

/-- The round is over: nothing is bound, GRN_RFAULT and END are clear, a fault stall cannot be in progress. -/
def Chip.clearRound (c : Chip) (r : Round) : Chip :=
  let c1 := { c with grn := { c.grn with running := none, causes := [], stall := none } }
  let c2 := (List.range 8).foldl (fun c k => c.setReg (Reg.GRN_RFAULTk k) 0) (c1.setBit Reg.GRN_RCTL 0 false)
  let c3 := c2.setBit Reg.GRN_STAT 28 false
  (r.bound.foldl (fun (c : Chip) b => if (stagedCtx c b.1).isSome then c else c.releaseTile b.1) c3).gangRoundEnd

/-- A pair of tile and context put into a list in the order of the tiles. -/
def insertTile (b : Nat × Nat) : List (Nat × Nat) → List (Nat × Nat)
  | [] => [b]
  | h :: t => if b.1 < h.1 then b :: h :: t else h :: insertTile b t
/-- The tiles of a round with their contexts, in the order of the tiles: the order in which a round's end reaches its
contexts. (DESIGN CHOICE: log 22) -/
def Round.boundInOrder (r : Round) : List (Nat × Nat) := r.bound.foldr insertTile []

/-- Acceptance of an END (R172, R173, R155): each context faults or steps, EV51, and a less urgent staged round is
withdrawn, but with HOLD = 1, under which a staged round runs to its END (R188). The manager of a gang ends the round on every device
(R528). (DESIGN CHOICE: log 167) -/
def Chip.acceptEnd (c : Chip) : Chip :=
  match c.grn.running with
  | none => c
  | some r =>
    let all := decide (c.fld Reg.GRN_RCTL 2 1 = 1)
    let causes := r.boundInOrder.map (fun b => (b.2, roundCause c all b.1 b.2))
    let c1 := c.clearRound r
    let c2 := causes.foldl (fun c p => c.chainStep p.1 p.2) c1
    let c3 := (c2.raise 51).managerSay (.roundEnd (Fin.ofNat 4 (c.fld Reg.GRN_RCTL 2 1)))
    let better := !c3.bit Reg.GRN_CTL 3 && !gangWorker c3 && match c3.grn.staged with
      | some q => !(ctxsWhere c3 (fun x => decide (x.state = 2) && decide (classOf c3 x < q.cls))).isEmpty
      | none => false
    (if better then c3.withdraw.selection else c3).stageMore

/-- A write of GRN_RCTL with END = 1 and an OUTCOME (R172, R190). With no round running ERR is 2 in every queue state, though ERR 1
applies as well outside RUN. (DESIGN CHOICE: log 21; DESIGN CHOICE: log 168) -/
def Chip.grnEnd (c : Chip) (outcome : Nat) : Chip :=
  let c1 := c.setFld Reg.GRN_RCTL 2 1 outcome
  if c1.bit Reg.GRN_RCTL 0 then c1
  else if c1.grn.running.isNone then c1.setFld Reg.GRN_RSTAT 31 24 2
  else if c1.fld Reg.ASQ_QSTAT 31 30 ≠ 0 then c1.setFld Reg.GRN_RSTAT 31 24 1
  else if queueIdle c1 then c1.acceptEnd
  else c1.setBit Reg.GRN_RCTL 0 true
/-- GRN_END (R172). -/
def execGrnEnd (outcome : Fin 4) (s : State) : Host.Outcome State Fault Refusal := regRun Reg.GRN_RCTL (fun c => c.grnEnd outcome.val) s

/-- END_ACCEPT (R172): a held END is accepted once the queue is in RUN and idle. -/
def execEndAccept (s : State) : Host.Outcome State Fault Refusal :=
  run (fun c => if c.bit Reg.GRN_RCTL 0 && decide (c.fld Reg.ASQ_QSTAT 31 30 = 0) && queueIdle c then c.acceptEnd else c) s

/-- Room has appeared in CQ q (R161): waiting entries are posted in order; a posted completion clears CQP, and AUTOFREE
frees its DONE context. -/
def Chip.cqDrain (q : Nat) : Nat → Chip → Chip
  | 0, c => c
  | fuel + 1, c =>
    match cqWaiting c q with
    | [] => c
    | e :: rest =>
      if ringFull c (Reg.CQ_BASE_LO q) then c else
      let c1 := (c.setCqWaiting q rest).cqPut q e
      let c2 := match e.ctx with
        | some n =>
          let x := c1.ctx n
          let c3 := c1.putCtx n (ctxSetFlag x 6 false)
          if x.state = 5 ∧ ctxFlag x 2 then c3.freeCtx n else c3
        | none => c1
      cqDrain q fuel c2
/-- CQ_ROOM (R161). -/
def execCqRoom (q : Fin 16) (s : State) : Host.Outcome State Fault Refusal :=
  run (fun c => Chip.cqDrain q.val (cqWaiting c q.val).length c) s

/-! ### Preemption (R183 to R186) -/

/-- The three conditions of a preemption request (R183); in gang mode only the manager requests one (R528). -/
def wantsPreempt (c : Chip) : Bool :=
  match c.grn.running with
  | none => false
  | some r =>
    !gangWorker c && (c.bit Reg.GRN_CTL 1 || inIncident c) && r.restart &&
      !(ctxsWhere c (fun x => decide (x.state = 2) && decide (classOf c x < r.cls) && match slackOf c x with
        | some s => decide (s < (1000 * c.fld Reg.GRN_PREEMPT_SLACK 19 0 : Nat))
        | none => false)).isEmpty

/-- Post the PREEMPT entry, or let it wait for room (R162, R185 step 4). -/
def Chip.postPreempt (c : Chip) : Chip :=
  match c.grn.running with
  | none => c
  | some r =>
    if ringFull c Reg.RQ_BASE_LO then { c with grn := { c.grn with preempt := .posting } }
    else
      let c1 := c.postRound 2 r r.seqNo
      { c1 with grn := { c1.grn with preempt := .posted c1.ns false } }

/-- The urgent request has taken effect (R116, R185 steps 2 to 4): a request that no longer holds is withdrawn and the queue
resumed; otherwise the PREEMPT entry is posted. -/
def Chip.preempted (c : Chip) : Chip :=
  if c.grn.preempt ≠ .requested then c
  else if !wantsPreempt c then c.endPreempt
  else c.postPreempt

/-- ROUND_QUEUE_ROOM (R162): a waiting NOTICE or PREEMPT entry is posted. -/
def execRoundQueueRoom (s : State) : Host.Outcome State Fault Refusal :=
  run (fun c =>
    if ringFull c Reg.RQ_BASE_LO then c
    else if c.grn.preempt = .posting then c.postPreempt
    else if c.grn.noticeDue then c.turnaround
    else c) s

/-- A round ended by preemption (R155, R185 step 6): the queue is discarded, a held END and the staged round go, and each context is
READY, or FAULTED with a cause of R149. -/
def Chip.preemptRound (c : Chip) (r : Round) : Chip :=
  let c1 := (c.setBit Reg.ASQ_QSTAT 27 false)
  let c2 : Chip := { c1 with seq := { c1.seq with queue := [], running := none } }
  let c2 := if c2.fld Reg.ASQ_QSTAT 31 30 = 1 then (c2.setBit Reg.ASQ_FAULT 31 false).enterRest else c2
  let causes := r.boundInOrder.map (fun b => (b.2, roundCause c2 false b.1 b.2))
  let c3 := (c2.clearRound r).withdraw
  causes.foldl (fun c p =>
    let x := { c.ctx p.1 with late := 0 }
    if p.2 = 0 then c.putCtx p.1 { x with state := 2 } else (c.setCtx p.1 x).faultCtx p.1 p.2) c3
/-- ACK_PREEMPT (R185 steps 5 to 7): ERR = 3 unless the PREEMPT entry has been posted, as also while the preemption is only requested or
its entry waits for room (DESIGN CHOICE: log 171); otherwise the queue is discarded, the round
ends with its contexts READY or FAULTED, a held END is discarded, and the urgent round is selected. -/
def Chip.ackPreempt (c : Chip) : Chip :=
  match c.grn.preempt, c.grn.running with
  | .posted _ _, some r =>
    let c4 := (c.preemptRound r).managerSay .preempt
    ({ c4 with grn := { c4.grn with preempt := .acked, acked := true } }).selectAfterPreempt
  | _, _ => c.setFld Reg.GRN_RSTAT 31 24 3
/-- ACK_PREEMPT (R185). -/
def execAckPreempt (s : State) : Host.Outcome State Fault Refusal := regRun Reg.GRN_RCTL Chip.ackPreempt s

/-- ACK_LATE (R185): no acknowledgement within 100 µs of the PREEMPT entry raises EV61, once. -/
def execAckLate (s : State) : Host.Outcome State Fault Refusal :=
  run (fun c => match c.grn.preempt with
    | .posted at_ false =>
      if at_ + 100000 ≤ c.ns then ({ c with grn := { c.grn with preempt := .posted at_ true } }).raise 61 else c
    | _ => c) s

/-- RSTAT_READ (R190): a read of GRN_RSTAT returns ERR and KERNEL_ID and clears ERR. -/
def execRstatRead (s : State) : Host.Outcome State Fault Refusal :=
  regRun Reg.GRN_RSTAT (fun c => (c.respond (respOk (c.reg Reg.GRN_RSTAT).toNat)).setFld Reg.GRN_RSTAT 31 24 0) s

end Sys2Proof.Machine
end

