-- ==== Sys2Proof/Machine/Sequencer.lean ====
section
/-!
DEFINITION. The Array Sequencer (chapter 05): the issue queue and its states, dispatch, urgent requests, faults, and
every class of microword.
-/
namespace Sys2Proof.Machine

/-! ### Queue states, urgent requests and faults (R114 to R116, R137) -/

/-- ASQ_QSTAT.STATE: 0 RUN, 1 HALTED, 2 PREEMPTED, 3 STOPPED (R114). -/
def queueState (c : Chip) : Nat := c.fld Reg.ASQ_QSTAT 31 30
/-- Set ASQ_QSTAT.STATE. -/
def Chip.setQueueState (c : Chip) (st : Nat) : Chip := c.setFld Reg.ASQ_QSTAT 31 30 st
/-- Replace the running routine. -/
def Chip.setRoutine (c : Chip) (r : Option Routine) : Chip := { c with seq := { c.seq with running := r } }
/-- Replace the entries that wait. -/
def Chip.setQueue (c : Chip) (q : List DWord) : Chip := { c with seq := { c.seq with queue := q } }
/-- The places of the queue in use, by which room is measured (R111): the entries waiting, and the running macro-instruction,
which keeps its place until its routine ends, since a fault or an abandonment leaves it at the head (R89, R114).
ASQ_QSTAT.COUNT shows the waiting entries alone (R142). (DEDUCED: log 128) -/
def queueCount (c : Chip) : Nat := c.seq.queue.length + c.seq.running.toList.length

/-- Is an urgent request pending (R137)? -/
def urgentPending (c : Chip) : Bool := c.seq.powerStop || c.seq.debugHalt || decide (c.grn.preempt = .requested)
/-- The pending request of highest precedence takes effect where no routine executes (R114, R116, R137): a power-fail stop, a debug halt
(EV244 at the entry to STOPPED, R545), then urgent preemption (R185). In RUN the queue takes the request's state; HALTED stays until the
fault is resumed or discarded (R116), and PREEMPTED until the Granary resumes the queue (R114); in STOPPED no preemption is acted on
(R545). (DEDUCED: log 137) -/
def Chip.takeUrgent (c : Chip) : Chip :=
  if c.seq.running.isSome then c else
  match queueState c with
  | 0 =>
    if stopInForce c then c.enterRest.gangSay (.stop 3 (c.bit Reg.ASQ_QSTAT 27))
    else if c.grn.preempt = .requested then ((c.setQueueState 2).managerSay (.stop 2 (c.bit Reg.ASQ_QSTAT 27))).preempted else c
  | 1 => if !c.seq.powerStop && decide (c.grn.preempt = .requested) then c.preempted else c
  | _ => c

/-- An array step is over (R545). -/
def Chip.endStep (c : Chip) : Chip := { c with dbg := { c.dbg with astep := false } }
/-- A routine ends (R130, R137): its macro-instruction leaves the queue, and a pending urgent request takes effect; a step ends
(R545). -/
def Chip.endRoutine (c : Chip) : Chip := (c.setRoutine none).endStep.takeUrgent

/-- A fault of R89, R92 or cause 4 to 6: recorded, EV80, HALTED, the macro-instruction at the head again, not
ABANDONED; a request that waited for the routine's end takes effect (R116, R137). -/
def Chip.seqFault (c : Chip) (r : Routine) (cause : Nat) : Chip :=
  let c1 := (c.setReg Reg.ASQ_FAULT (BitVec.ofNat 32 (2 ^ 31 + insnOpc r.insn * 2 ^ 16 + cause))).setReg
    Reg.ASQ_FAULT_INSN_LO (BitVec.ofNat 32 r.insn.toNat)
  let c2 := c1.setReg Reg.ASQ_FAULT_INSN_HI (BitVec.ofNat 32 (r.insn.toNat / 2 ^ 32))
  let c3 := (((c2.setRoutine none).setQueue (r.insn :: c2.seq.queue)).setQueueState 1).endStep
  (((c3.setBit Reg.ASQ_QSTAT 27 false).raise 80).gangSay (.stop 1 false)).takeUrgent

/-- Does ACLK run: the array PLL in lock (R479), and not stopped for temperature (R481)? A PLL that the power controller has
stopped runs again for the work that needs it (R477). -/
def aclkRuns (c : Chip) : Bool := !c.pow.unlocked.contains 0 && !c.bit Reg.SYS_THR 31

/-- The routine that may execute now: one runs, no stall holds the array, here or in another device of the gang (R527), ACLK runs. -/
def activeRoutine (c : Chip) : Option Routine :=
  if c.grn.stall.isNone && aclkRuns c && !gangStalled c then c.seq.running else none

/-! ### Dispatch (R50, R55, R113, R119, R139) -/

/-- Load the LFSRs of the bound tiles where RESEED asks for it (R50). -/
def Chip.reseedNow (c : Chip) : Chip :=
  if c.bit Reg.ASQ_LFSR_CTL 0 then
    ((boundTiles c).foldl (fun c t => c.loadLfsr t) c).setBit Reg.ASQ_LFSR_CTL 0 false
  else c

/-- The micro-registers at dispatch (R113), from the dispatch entry e. -/
def routineAt (i : DWord) (e : Word) : Routine :=
  let w := insnW i
  { insn := i, upc := Machine.fld e 13 0, isYield := bitOf e 30, loaded := bitOf e 31
    o := [insnDst i, insnSra i, insnSrb i, (insnSrb i + w) % 4096]
    k := [w - 1, insnShf i, 0, 0] }

/-- Dispatch the head of the queue, whatever the queue's state. -/
def Chip.dispatchHead (c : Chip) : Chip :=
  match c.seq.queue with
  | [] => c
  | i :: rest =>
    let c1 := { c with
      seq := { c.seq with edges := c.fld Reg.ASQ_EDGE 11 0 }
      pow := { c.pow with stopped := c.pow.stopped.filter (fun k => decide (k ≠ 0)) } }
    let c2 := (c1.reseedNow.setQueue rest).setBit Reg.ASQ_QSTAT 27 false
    c2.setRoutine (some (routineAt i (c2.reg (Reg.ASQ_DISPn (insnOpc i)))))

/-- May the head dispatch by itself (R113)? What is issued after an ACK_PREEMPT runs in the next round (R186). -/
def mayDispatch (c : Chip) : Bool :=
  decide (queueState c = 0) && c.bit Reg.ASQ_QSTAT 29 && !c.bit Reg.ASQ_QSTAT 28 && c.seq.running.isNone && aclkRuns c &&
    !c.grn.acked

/-- DISPATCH (R113). -/
def execDispatch (s : State) : Host.Outcome State Fault Refusal :=
  runAny (fun c => if mayDispatch c then c.dispatchHead else c) s

/-- CUSTOMER_ROUTINE (R91): the head is a customer opcode whose routine is loaded; it dispatches to that routine without
any operand check. -/
def execCustomerRoutine (s : State) : Host.Outcome State Fault Refusal :=
  runAny (fun c => match c.seq.queue with
    | i :: _ =>
      if mayDispatch c && decide (0xC0 ≤ insnOpc i) && c.bit (Reg.ASQ_DISPn (insnOpc i)) 31 then c.dispatchHead else c
    | [] => c) s

/-- The groups a HINT declares (R119). -/
def hintGroups (i : DWord) (hint : Nat) : List Group :=
  let w := insnW i
  match hint with
  | 0 => []
  | 1 => [grpD i w]
  | 2 => [grpD i w, grpA i w]
  | 3 => [grpD i w, grpA i w, grpB i w]
  | 4 => [grpD i w, grpA i w, grpB i w, grpZ i]
  | 5 => [grpD i (w + 8), grpA i w]
  | 6 => [grpD i w, grpA i (w + 8)]
  | 7 => [grpD i (2 * w), grpA i w, grpB i w]
  | 8 => [grpD i (2 * w), grpA i w]
  | 9 => [grpD i (w + insnShf i + 1), grpA i w, grpB i (insnShf i + 1)]
  | 10 => [grpD i 7, grpA i w]
  | 11 => [grpD i 64, grpA i 64]
  | 12 => [grpD i 32, grpA i 16, grpB i 16]
  | 13 => [grpD i 1, grpA i w, grpB i w]
  | 14 => [grpA i w]
  | _ => [grpD i 1]

/-- The pages of some groups, rising. -/
def pagesOf (gs : List Group) : List Nat :=
  (((gs.flatMap groupPlanes).map (fun v => v / 32)).eraseDups).mergeSort

/-- A macro-instruction enters the queue (R111, R119): its HINT pages are declared; a manager in gang mode forwards it
to the workers (R527). -/
def Chip.enqueue (c : Chip) (i : DWord) : Chip :=
  let e := c.reg (Reg.ASQ_DISPn (insnOpc i))
  let c1 := c.setQueue (c.seq.queue ++ [i])
  let c2 := if bitOf e 31 then c1.declare (pagesOf (hintGroups i (Machine.fld e 29 26))) else c1
  c2.managerSay (.entry i)

/-! ### Queue control (R115) -/

/-- HALTED is left: RUN, or STOPPED while a debug halt or a power-fail stop is in force, or PREEMPTED where a preemption took effect
meanwhile (R115, R116). -/
def Chip.leaveHalted (c : Chip) : Chip :=
  ((c.setBit Reg.ASQ_FAULT 31 false).enterRest).takeUrgent

/-- RESUME (R115): in HALTED the faulting macro-instruction is removed; elsewhere no effect. On the manager of a gang it acts on every
queue (R527). -/
def Chip.seqResume (c : Chip) : Chip :=
  if queueState c = 1 then ((c.managerSay .resume).setQueue (c.seq.queue.drop 1)).leaveHalted else c
/-- DISCARD (R115): every entry that has not dispatched is removed, an abandoned one included; from HALTED the fault
clears. On the manager of a gang it acts on every queue (R527). -/
def Chip.seqDiscard (c : Chip) : Chip :=
  let c1 := ((c.managerSay .discard).setQueue []).setBit Reg.ASQ_QSTAT 27 false
  if queueState c = 1 then c1.leaveHalted else c1

/-- RESUME (R115). -/
def execResume (s : State) : Host.Outcome State Fault Refusal := regRun Reg.ASQ_QCTL Chip.seqResume s
/-- DISCARD (R115); a write that sets RESUME as well acts as DISCARD alone. -/
def execDiscard (s : State) : Host.Outcome State Fault Refusal := regRun Reg.ASQ_QCTL Chip.seqDiscard s
/-- RESEED (R50). -/
def execReseed (s : State) : Host.Outcome State Fault Refusal := regRun Reg.ASQ_LFSR_CTL (fun c => c.setBit Reg.ASQ_LFSR_CTL 0 true) s

/-- GOR_RESULT (R57, R58): the oldest result on its way reaches GOR and the tile-OR vector. In gang mode the manager's GOR
holds the OR over all devices of the gang; what the others found is not held here: a free value, but for a gang of one device. -/
def Chip.gorResultArrives (c : Chip) : Chip :=
  match c.seq.gorFlight with
  | [] => c
  | g :: rest =>
    let q := c.drawFree
    let manager := gangManager c && decide (c.spin.gangMap ≠ 1)
    let others := manager && q.1.toNat.testBit 0
    let d := if manager then q.2 else c
    { d with seq := { d.seq with gor := g.1 || others, tor := g.2, gorFlight := rest } }
/-- GOR_RESULT (R57). -/
def execGorResult (s : State) : Host.Outcome State Fault Refusal := runAny Chip.gorResultArrives s

/-- TOR0_READ (R59): TOR0 is returned, and the vector is copied into the shadow. -/
def execTor0Read (s : State) : Host.Outcome State Fault Refusal :=
  regRun (Reg.ASQ_TORk 0) (fun c => ({ c with seq := { c.seq with torShadow := c.seq.tor } }).respond (respOk (c.seq.tor.toNat % 2 ^ 32))) s

/-- TILE_STAT_READ (R69): CE_COUNT is returned and cleared. -/
def execTileStatRead (t : Fin 256) (s : State) : Host.Outcome State Fault Refusal :=
  regRun (Reg.ASQ_TILE_STAT t.val) (fun c =>
    (c.respond (respOk (c.reg (Reg.ASQ_TILE_STAT t.val)).toNat)).setFld (Reg.ASQ_TILE_STAT t.val) 29 22 0) s

/-- THERMAL_SAMPLE (R66, R70): a tile whose logic domain is on takes its sensor's reading, in units of 0.25 °C. -/
def execThermalSample (t : Fin 256) (temp : BitVec 12) (s : State) : Host.Outcome State Fault Refusal :=
  run (fun c => if c.isOn (.tileLogic t.val) then c.setReg (Reg.SYS_TTEMP t.val) (BitVec.ofNat 32 temp.toNat) else c) s

/-! ### Microwords (R120 to R132) -/

/-- O register n. -/
def routineO (r : Routine) (n : Nat) : Nat := listGet 0 r.o n
/-- K register n. -/
def routineK (r : Routine) (n : Nat) : Nat := listGet 0 r.k n
/-- Increment O registers, each one once, modulo 4096 (R122). -/
def incO (r : Routine) (ns : List Nat) : Routine :=
  { r with o := (List.range 4).map (fun n => if ns.contains n then (routineO r n + 1) % 4096 else routineO r n) }
/-- Change the running routine. -/
def Chip.onRoutine (c : Chip) (f : Routine → Routine) : Chip := c.setRoutine (c.seq.running.map f)
/-- Go to the next microword. (DESIGN CHOICE: log 20) -/
def nextWord (r : Routine) : Routine := { r with upc := r.upc + 1, started := true, waiting := false }

/-- The microword a routine is at, none past 0x3FFF (R120). A customer word that no image wrote reads 0xD000_0000 (R133). -/
def microwordAt (c : Chip) (a : Nat) : Option Word :=
  if a < 0x4000 then some (mapGet (if a < 0x2000 then 0 else 0xD0000000) c.seq.ustore a) else none

/-- Run one microword whose class is `cls`, where an active customer routine is at one; a vendor routine runs whole by
its opcode's own command. (DESIGN CHOICE: log 19) -/
def Chip.microword (c : Chip) (cls : Nat) (f : Chip → Routine → Word → Chip) : Chip :=
  match activeRoutine c with
  | none => c
  | some r =>
    if !r.loaded || decide (insnOpc r.insn < 0xC0) then c else
    match microwordAt c r.upc with
    | none => c
    | some w => if Machine.fld w 31 28 = cls then f c r w else c

/-- The micro-operation on the planes of every bound tile: what each tile gets from the state before (R40, R43). -/
def Chip.onBound (c : Chip) (f : Chip → Nat → Chip) : Chip := (boundTiles c).foldl f c

/-- A boolean function code applied to planes (R39). -/
def boolPlanes (f : Nat) (a b : Plane) : Plane :=
  (if f.testBit 0 then ~~~a &&& ~~~b else 0) ||| (if f.testBit 1 then ~~~a &&& b else 0) |||
    (if f.testBit 2 then a &&& ~~~b else 0) ||| (if f.testBit 3 then a &&& b else 0)

/-- Does a PLANE microword use port A, port B, the LFSR (R121, R122)? -/
def planeUsesA (w : Word) : Bool := Machine.fld w 18 16 == 0
/-- Port B. -/
def planeUsesB (w : Word) : Bool := [0, 5, 6, 7].contains (Machine.fld w 15 13)
/-- Does it write a plane? -/
def planeWrites (w : Word) : Bool := !([0, 7].contains (Machine.fld w 5 3))

/-- Rows that both ports of one ACLK read are checked once (R46). -/
def Chip.readPorts (c : Chip) (t : Nat) (vs : List Nat) : Chip := vs.eraseDups.foldl (fun c v => c.readChecked t v) c

/-- What one tile does in the ACLK of a PLANE microword (R39, R40, R60, R122). A row with an error that a port reads and that the same
ACLK's masked write merges is counted for each, once for the ports and once for the merge (R46). (DESIGN CHOICE: log 140) -/
def Chip.planeTile (c : Chip) (t : Nat) (i : DWord) (w : Word) (va vb vd : Nat) : Chip :=
  let x := c.tile t
  let useA := planeUsesA w
  let useB := planeUsesB w
  let c1 := c.readPorts t ((if useA then [va] else []) ++ (if useB then [vb] else []))
  let lf := lfsrRead x
  let readsLfsr := decide (Machine.fld w 18 16 = 1)
  let a := match Machine.fld w 18 16 with
    | 0 => readVirtual x va
    | 1 => lf.1
    | 2 => x.NX
    | 3 => x.T
    | 5 => allPes
    | _ => 0
  let b0 := match Machine.fld w 15 13 with
    | 1 => x.T
    | 2 => x.NX
    | 3 => x.C
    | 4 => x.M
    | _ => readVirtual x vb
  let b := if bitOf w 12 then ~~~b0 else b0
  let sum := a ^^^ b ^^^ x.C
  let maj := (a &&& b) ||| (a &&& x.C) ||| (b &&& x.C)
  let op := Machine.fld w 7 6
  let res := if op = 1 ∨ op = 2 then sum else boolPlanes (Machine.fld w 11 8) a b
  let m := peMask i x
  let upd (old new : Plane) : Plane := (old &&& ~~~m) ||| (new &&& m)
  let wv := match Machine.fld w 5 3 with
    | 2 => x.C
    | 3 => x.T
    | 4 => x.M
    | 5 => x.S
    | 6 => x.NX
    | _ => res
  let c2 := if planeWrites w then c1.writeVirtual t vd m wv else c1
  c2.onTile t (fun y => { y with
    C := if op = 2 then upd x.C maj else x.C
    T := if bitOf w 2 then upd x.T res else x.T
    M := if bitOf w 1 then res else x.M
    S := if bitOf w 0 then upd x.S (x.S ||| res) else x.S
    lfsr := if readsLfsr then lf.2.lfsr else y.lfsr })

/-- PLANE (R122). -/
def Chip.uPlane (c : Chip) (r : Routine) (w : Word) : Chip :=
  let na := Machine.fld w 27 26
  let nb := Machine.fld w 25 24
  let nw := Machine.fld w 23 22
  let used := (if planeUsesA w then [routineO r na] else []) ++ (if planeUsesB w then [routineO r nb] else []) ++
    (if planeWrites w then [routineO r nw] else [])
  let q := c.touch used
  if !q.1 then q.2 else
  let incs := (if bitOf w 21 then [na] else []) ++ (if bitOf w 20 then [nb] else []) ++ (if bitOf w 19 then [nw] else [])
  (q.2.onBound (fun c t => c.planeTile t r.insn w (routineO r na) (routineO r nb) (routineO r nw))).onRoutine
    (fun r => incO (nextWord r) incs)
/-- PLANE (R122). -/
def execPlane (s : State) : Host.Outcome State Fault Refusal := runAny (fun c => c.microword 0 Chip.uPlane) s

/-- NBR (R123): ST stores NX as it stood, LD loads it, MV moves it one step; loads and moves are never masked (R60). -/
def Chip.uNbr (c : Chip) (r : Routine) (w : Word) : Chip :=
  let na := Machine.fld w 22 21
  let nw := Machine.fld w 20 19
  let st := bitOf w 27
  let ld := bitOf w 26
  let q := c.touch ((if ld then [routineO r na] else []) ++ (if st then [routineO r nw] else []))
  if !q.1 then q.2 else
  let old := nxOf q.2
  let loaded := (boundTiles q.2).map (fun t => (t, readVirtual (q.2.tile t) (routineO r na)))
  let c1 := if ld then (q.2.onBound (fun c t => c.readChecked t (routineO r na))).setNx loaded
    else if bitOf w 25 then q.2.moveNx 1 (Machine.fld w 24 23) else q.2
  let c2 := if st then
      c1.onBound (fun c t => c.writeVirtual t (routineO r nw) (peMask r.insn (c.tile t)) (mapGet 0 old t))
    else c1
  c2.onRoutine (fun r => incO (nextWord r) ((if bitOf w 18 then [na] else []) ++ (if bitOf w 17 then [nw] else [])))
/-- NBR (R123). -/
def execNbr (s : State) : Host.Outcome State Fault Refusal := runAny (fun c => c.microword 1 Chip.uNbr) s

/-- What one tile does in a REG microword (R60, R61, R124). -/
def regTile (x : Tile) (i : DWord) (w : Word) (v : Nat) : Tile :=
  let s0 := match Machine.fld w 24 22 with
    | 0 => 0
    | 1 => allPes
    | 2 => x.C
    | 3 => x.T
    | 4 => x.M
    | 5 => x.S
    | 6 => x.NX
    | _ => readVirtual x v
  let src := if bitOf w 21 then ~~~s0 else s0
  let m := peMask i x
  let upd (old : Plane) : Plane := (old &&& ~~~m) ||| (src &&& m)
  match Machine.fld w 27 25 with
  | 0 => { x with C := upd x.C }
  | 1 => { x with T := upd x.T }
  | 2 => { x with M := src }
  | 3 => { x with S := x.S ||| (src &&& m) }
  | 4 => { x with NX := src }
  | 5 => { x with S := upd x.S }
  | _ => x

/-- REG (R124). -/
def Chip.uReg (c : Chip) (r : Routine) (w : Word) : Chip :=
  let na := Machine.fld w 20 19
  let v := routineO r na
  let usesPlane := decide (Machine.fld w 24 22 = 7)
  let q := c.touch (if usesPlane then [v] else [])
  if !q.1 then q.2 else
  let c1 := q.2.onBound (fun c t =>
    (if usesPlane then c.readChecked t v else c).onTile t (fun x => regTile x r.insn w v))
  c1.onRoutine (fun r => incO (nextWord r) (if bitOf w 18 then [na] else []))
/-- REG (R124). -/
def execReg (s : State) : Host.Outcome State Fault Refusal := runAny (fun c => c.microword 2 Chip.uReg) s

/-- GOR (R56, R57, R125). -/
def Chip.uGor (c : Chip) (r : Routine) (w : Word) : Chip :=
  let na := Machine.fld w 24 23
  let v := routineO r na
  let sel := Machine.fld w 27 25
  let q := c.touch (if sel = 0 then [v] else [])
  if !q.1 then q.2 else
  let c1 := if sel = 0 then q.2.onBound (fun c t => c.readChecked t v) else q.2
  let g := gorResult c1 (fun x => match sel with
    | 0 => readVirtual x v
    | 1 => x.C
    | 2 => x.S
    | 3 => x.M
    | 4 => x.NX
    | _ => 0)
  (c1.gorIssue g).onRoutine (fun r => incO (nextWord r) (if bitOf w 22 then [na] else []))
/-- GOR (R125). -/
def execGor (s : State) : Host.Outcome State Fault Refusal := runAny (fun c => c.microword 3 Chip.uGor) s

/-- CNT (R126): all arithmetic modulo 1,024. -/
def Chip.uCnt (c : Chip) (r : Routine) (w : Word) : Chip :=
  let n := Machine.fld w 27 26
  let imm := Machine.fld w 9 0
  let old := routineK r n
  let v := match Machine.fld w 25 23 with
    | 0 => imm
    | 1 => insnW r.insn + imm
    | 2 => insnShf r.insn + imm
    | 3 => old + imm
    | 4 => old + 1023
    | 5 => routineK r (Machine.fld w 22 21)
    | 6 => insnAux r.insn + imm
    | _ => old
  c.setRoutine (some { nextWord r with k := listSet r.k n (v % 1024) })
/-- CNT (R126). -/
def execCnt (s : State) : Host.Outcome State Fault Refusal := runAny (fun c => c.microword 4 Chip.uCnt) s

/-- The plane field that SEL names (R127, R131). -/
def baseField (i : DWord) (sel : Nat) : Nat :=
  match sel with
  | 0 => insnDst i
  | 1 => insnSra i
  | 2 => insnSrb i
  | _ => (insnSrb i + insnW i) % 4096

/-- OFS (R127): all arithmetic modulo 4096. -/
def Chip.uOfs (c : Chip) (r : Routine) (w : Word) : Chip :=
  let n := Machine.fld w 27 26
  let imm := Machine.fld w 11 0
  let sel := Machine.fld w 22 21
  let old := routineO r n
  let v := match Machine.fld w 25 23 with
    | 0 => imm
    | 1 => old + imm
    | 2 => baseField r.insn sel
    | 3 => baseField r.insn sel + imm
    | 4 => old + insnW r.insn
    | 5 => old + routineK r sel
    | 6 => old + 4096 - insnW r.insn
    | _ => routineO r sel
  c.setRoutine (some { nextWord r with o := listSet r.o n (v % 4096) })
/-- OFS (R127). -/
def execOfs (s : State) : Host.Outcome State Fault Refusal := runAny (fun c => c.microword 0xB Chip.uOfs) s

/-- Does COND hold (R128)? -/
def condHolds (c : Chip) (r : Routine) (cond : Nat) : Bool :=
  match cond with
  | 0 => true
  | 1 => c.seq.gor
  | 2 => !c.seq.gor
  | 3 => routineK r 0 != 0
  | 4 => routineK r 1 != 0
  | 5 => routineK r 2 != 0
  | 6 => routineK r 3 != 0
  | 7 => routineK r 0 == 0
  | 8 => routineK r 1 == 0
  | 9 => routineK r 2 == 0
  | 10 => routineK r 3 == 0
  | 11 => insnSgn r.insn
  | 12 => insnSat r.insn
  | 13 => insnRnd r.insn != 0
  | 14 => insnMsk r.insn
  | _ => false

/-- The DEC of a branch whose condition holds (R128). -/
def decK (r : Routine) (w : Word) : Routine :=
  let cond := Machine.fld w 27 24
  if bitOf w 23 && decide (3 ≤ cond) && decide (cond ≤ 6) then
    { r with k := listSet r.k (cond - 3) ((routineK r (cond - 3) + 1023) % 1024) }
  else r

/-- BR (R128). -/
def Chip.uBr (c : Chip) (r : Routine) (w : Word) : Chip :=
  if condHolds c r (Machine.fld w 27 24) then
    c.setRoutine (some { decK (nextWord r) w with upc := Machine.fld w 13 0 })
  else c.setRoutine (some (nextWord r))
/-- BR (R128). -/
def execBr (s : State) : Host.Outcome State Fault Refusal := runAny (fun c => c.microword 5 Chip.uBr) s

/-- CALL (R128, R129): on a full micro-stack it does not execute, CAUSE 5. -/
def Chip.uCall (c : Chip) (r : Routine) (w : Word) : Chip :=
  if condHolds c r (Machine.fld w 27 24) then
    if 8 ≤ r.stack.length then c.seqFault r 5
    else c.setRoutine (some { decK (nextWord r) w with upc := Machine.fld w 13 0, stack := (r.upc + 1) :: r.stack })
  else c.setRoutine (some (nextWord r))
/-- CALL (R128). -/
def execCall (s : State) : Host.Outcome State Fault Refusal := runAny (fun c => c.microword 6 Chip.uCall) s

/-- RET (R128, R129): on an empty micro-stack CAUSE 6. -/
def Chip.uRet (c : Chip) (r : Routine) (w : Word) : Chip :=
  if condHolds c r (Machine.fld w 27 24) then
    match r.stack with
    | [] => c.seqFault r 6
    | a :: rest => c.setRoutine (some { decK (nextWord r) w with upc := a, stack := rest })
  else c.setRoutine (some (nextWord r))
/-- RET (R128). -/
def execRet (s : State) : Host.Outcome State Fault Refusal := runAny (fun c => c.microword 7 Chip.uRet) s

/-- Abandon the running routine (R137, R138): its macro-instruction is at the head again with ABANDONED = 1, EV86, and
the request of highest precedence takes effect. -/
def Chip.abandon (c : Chip) (r : Routine) : Chip :=
  let c1 := ((c.setRoutine none).setQueue (r.insn :: c.seq.queue)).setBit Reg.ASQ_QSTAT 27 true
  ((c1.wrapCount Reg.ASQ_ABANDONS 1 85).raise 86).endStep.takeUrgent

/-- YIELD (R118, R137): honoured in a routine under YIELD while an urgent request is pending on a queue in RUN; while a
debug halt holds the queue STOPPED, only a power-fail stop abandons a stepped routine (R545). -/
def Chip.uYield (c : Chip) (r : Routine) (_ : Word) : Chip :=
  let urgent := if queueState c = 0 then urgentPending c else c.seq.powerStop
  if r.isYield && urgent then c.abandon r else c.setRoutine (some (nextWord r))
/-- END (R129, R130): the routine ends, and the micro-stack is discarded. -/
def execEnd (s : State) : Host.Outcome State Fault Refusal := runAny (fun c => c.microword 9 (fun c _ _ => c.endRoutine)) s

/-- The width a WSEL code names, none for the empty group (R131). -/
def wselWidth (i : DWord) (k : Nat) : Nat :=
  let w := insnW i
  match k with
  | 0 => 1
  | 1 => w
  | 2 => w + 8
  | 3 => 2 * w
  | 4 => 7
  | 5 => 16
  | 6 => 32
  | 7 => 64
  | 8 => w + insnShf i + 1
  | 9 => insnShf i + 1
  | _ => 0
/-- The group of a PAGE microword (R131). -/
def pageGroup (i : DWord) (w : Word) : Group := ⟨baseField i (Machine.fld w 25 24), wselWidth i (Machine.fld w 23 20)⟩

/-- PAGE TOUCH (R131). -/
def execPageTouch (s : State) : Host.Outcome State Fault Refusal :=
  runAny (fun c => c.microword 0xA (fun c r w =>
    if Machine.fld w 27 26 = 0 then
      let q := c.touch (groupPlanes (pageGroup r.insn w))
      if q.1 then q.2.onRoutine nextWord else q.2
    else if Machine.fld w 27 26 = 3 then c.setRoutine (some (nextWord r))
    else c)) s
/-- PAGE DECLARE (R119, R131). -/
def execPageDeclare (s : State) : Host.Outcome State Fault Refusal :=
  runAny (fun c => c.microword 0xA (fun c r w =>
    if Machine.fld w 27 26 = 1 then (c.declare (pagesOf [pageGroup r.insn w])).setRoutine (some (nextWord r)) else c)) s
/-- PAGE CHECK (R78, R131): a group that breaks the rule takes the fault with CAUSE 3. -/
def execPageCheck (s : State) : Host.Outcome State Fault Refusal :=
  runAny (fun c => c.microword 0xA (fun c r w =>
    if Machine.fld w 27 26 = 2 then
      let d : Group := ⟨insnDst r.insn, wselWidth r.insn (Machine.fld w 19 16)⟩
      let cls := if bitOf w 15 then OperandClass.inPlace else OperandClass.separate
      if groupOk cls (pageGroup r.insn w) d then c.setRoutine (some (nextWord r)) else c.seqFault r 3
    else c)) s

/-- WAIT (R132): the count is time, which this command's coming stands for; with GORW it lasts until no GOR result is on
its way. -/
def execWait (s : State) : Host.Outcome State Fault Refusal :=
  runAny (fun c => c.microword 0xC (fun c r w =>
    if bitOf w 27 && !c.seq.gorFlight.isEmpty then c.setRoutine (some { r with waiting := true })
    else c.setRoutine (some (nextWord r)))) s

/-- RESERVED_MICROWORD (R120): classes 0xD to 0xF, or a fetch past 0x3FFF, take the fault with CAUSE 4. -/
def execReservedMicroword (s : State) : Host.Outcome State Fault Refusal :=
  runAny (fun c => match activeRoutine c with
    | none => c
    | some r =>
      if !r.loaded || decide (insnOpc r.insn < 0xC0) then c else
      match microwordAt c r.upc with
      | none => c.seqFault r 4
      | some w => if 0xD ≤ Machine.fld w 31 28 then c.seqFault r 4 else c) s

/-! ### The UNDEF routine (R89 to R91) -/

/-- The vendor opcodes that R80 defines. -/
def vendorDefined (opc : Nat) : Bool :=
  [0x00, 0x01, 0x02, 0x03, 0x04, 0x05, 0x06, 0x08, 0x09, 0x0A, 0x0B, 0x10, 0x11, 0x12, 0x20, 0x28, 0x29,
   0x30, 0x31, 0x32, 0x33, 0x34, 0x35, 0x36, 0x37, 0x38, 0x39, 0x3C, 0x3D, 0x3E, 0x3F, 0x40, 0x41, 0x44, 0x48,
   0x50, 0x51, 0x52, 0x53, 0x54, 0x55, 0x60, 0x61, 0x62, 0x63,
   0x80, 0x81, 0x82, 0x83, 0x84, 0x85, 0x86, 0x88, 0x89, 0x8A, 0x8B].contains opc

/-- UNDEF (R89 to R91, R117): CAUSE 2 where the entry is not loaded, CAUSE 1 for a vendor opcode R80 leaves undefined. -/
def execUndef (s : State) : Host.Outcome State Fault Refusal :=
  runAny (fun c => match activeRoutine c with
    | none => c
    | some r =>
      if r.started then c
      else if !r.loaded then c.seqFault r 2
      else if decide (insnOpc r.insn < 0xC0) && !vendorDefined (insnOpc r.insn) then c.seqFault r 1
      else c) s

end Sys2Proof.Machine
end

