-- ==== Sys2Proof/Machine/Array.lean ====
section
/-!
DEFINITION. The vendor opcodes of the array (R73 to R109): each command runs the routine of its opcode whole, over every
PE of every bound tile, from the operand check (R92) to the routine's end.
-/
namespace Sys2Proof.Machine

/-- The active routine, where it is a vendor routine of opcode `opc` that has done nothing yet. -/
def vendorRoutine (c : Chip) (opc : Nat) : Option Routine :=
  match activeRoutine c with
  | some r => if r.loaded && !r.started && decide (insnOpc r.insn = opc) then some r else none
  | none => none

/-- The number that the planes of a group spell in PE p, LSB first (R76). -/
def peNumber (vals : List Plane) (p : Nat) : Nat :=
  vals.foldr (fun v n => (peBit v p).toNat + 2 * n) 0

/-- The plane whose PEs hold the listed bits. -/
def planeOfList (bs : List Bool) : Plane :=
  BitVec.ofNat 4096 (bs.foldr (fun b n => b.toNat + 2 * n) 0)

/-- The planes of a group as a tile reads them. -/
def readGroup (x : Tile) (g : Group) : List Plane := (groupPlanes g).map (readVirtual x)

/-- Count the reads a vendor routine makes of a group (R46). -/
def Chip.noteGroup (c : Chip) (t : Nat) (g : Group) : Chip := (groupPlanes g).foldl (fun c v => c.readVendor t v) c

/-- What a vendor operation gives in every PE of a tile. -/
def tileResults (x : Tile) (i : DWord) (op : VendorOp) (f : DWord → PeIn → PeOut) : List PeOut :=
  let g (k : Nat) : List Plane := match op.srcs.drop k with
    | h :: _ => readGroup x h
    | [] => []
  let a := g 0
  let b := g 1
  let z := g 2
  let d := readGroup x op.dst
  (List.range 4096).map (fun p => f i
    { a := peNumber a p, b := peNumber b p, z := peNumber z p, d := peNumber d p, m := peBit x.M p, s := peBit x.S p })

/-- The registers at a vendor routine's end (R75): C = 0 and T = 0 in each PE of `m`. (DEDUCED: log 16) -/
def Chip.endRegisters (c : Chip) (t : Nat) (m : Plane) : Chip :=
  c.onTile t (fun x => { x with C := x.C &&& ~~~m, T := x.T &&& ~~~m })

/-- Write the numbers of a destination group and set S in one tile, under the mask (R60). -/
def Chip.writeResults (c : Chip) (t : Nat) (m : Plane) (dst : Group) (rs : List PeOut) : Chip :=
  let c1 := ((groupPlanes dst).zip (List.range dst.width)).foldl
    (fun c e => c.writeVirtual t e.1 m (planeOfList (rs.map (fun r => r.1.testBit e.2)))) c
  c1.onTile t (fun x => { x with S := x.S ||| (planeOfList (rs.map Prod.snd) &&& m) })

/-- The TOUCH microwords of a vendor routine (R131, R178), one for each of `groups`, from the first that has not passed yet: may the
routine go on? (DESIGN CHOICE: log 141) -/
def Chip.vendorTouch (c : Chip) (r : Routine) (groups : List (List Nat)) : Bool × Chip :=
  (c.notePages (groups.flatMap (fun g => (g.map (fun v => v / 32)).eraseDups))).touchGroups (groups.drop r.touches)
/-- The planes that a vendor routine declares itself, since no HINT covers them (R587): FCVTIH and FCVTQH, A beyond its first 16. -/
def lateDecl (i : DWord) : List Nat :=
  if insnOpc i = 0x89 ∨ insnOpc i = 0x8B then (groupPlanes (grpA i (insnW i))).drop 16 else []
/-- The PAGE DECLARE microword of a vendor routine, executed once before its TOUCH microwords (R587). -/
def Chip.vendorDeclare (c : Chip) (r : Routine) : Chip :=
  if (lateDecl r.insn).isEmpty || r.declared then c
  else (c.declare (((lateDecl r.insn).map (fun v => v / 32)).eraseDups.mergeSort)).onRoutine (fun x => { x with declared := true })
/-- How a vendor routine opens (R77, R78, R92, R131, R587): its CHECK microwords, CAUSE 3 where an operand breaks the class, and then its
DECLARE and TOUCH microwords; `body` follows once every page is in or found no frame. -/
def Chip.vendorOpen (c : Chip) (r : Routine) (v : VendorOp) (groups : List (List Nat)) (body : Chip → Chip) : Chip :=
  if v.srcs.any (fun g => !groupOk v.cls g v.dst) then c.seqFault r 3
  else
    let q := (c.vendorDeclare r).vendorTouch r groups
    if q.1 then body q.2 else q.2
/-- Run a vendor routine: its opening, then `body` over the bound tiles, and the routine's end. -/
def Chip.vendor (c : Chip) (opc : Nat) (op : DWord → VendorOp) (groups : DWord → List (List Nat))
    (body : Chip → DWord → Chip) : Chip :=
  match vendorRoutine c opc with
  | none => c
  | some r => c.vendorOpen r (op r.insn) (groups r.insn) (fun c => (body c r.insn).endRoutine)

/-- The planes of each group of a vendor operation: the destination's, then the sources'. -/
def opGroups (v : VendorOp) : List (List Nat) := (v.dst :: v.srcs).map groupPlanes

/-- A vendor opcode that computes its destination group PE by PE. `readsD`: the old destination is an input. NX is left as it is: of the
vendor routines only those that move planes load it (R75). (DEDUCED: log 142) -/
def Chip.vendorPes (c : Chip) (opc : Nat) (op : DWord → VendorOp) (readsD : Bool) (f : DWord → PeIn → PeOut) : Chip :=
  c.vendor opc op (fun i => opGroups (op i)) (fun c i =>
    c.onBound (fun c t =>
      let x := c.tile t
      let v := op i
      let rs := tileResults x i v f
      let c1 := (v.srcs ++ (if readsD then [v.dst] else [])).foldl (fun c g => c.noteGroup t g) c
      (c1.writeResults t (peMask i x) v.dst rs).endRegisters t (peMask i x)))

/-- A vendor opcode that writes no plane group: class "—" (R78). -/
def noGroup (_ : DWord) : VendorOp := ⟨.none, [], ⟨0, 0⟩⟩

/-- The source groups of CMP and CMPM: B is ignored when AUX is 0b110 or 0b111 (R83). -/
def cmpSources (i : DWord) : List Group :=
  if 6 ≤ insnAux i then [grpA i (insnW i)] else [grpA i (insnW i), grpB i (insnW i)]
/-- The word width of SIG (R76, R87). -/
def sigWidth (i : DWord) : Nat := if 4 ≤ insnAux i then 32 else 64

/-- A vendor operation of the separate class (R78): its groups, whether the old destination is an input, and what it gives in a PE. -/
structure SepOp where
  op     : DWord → VendorOp
  readsD : Bool := false
  pe     : DWord → PeIn → PeOut

/-- The opcodes of the separate class (R84 to R88). -/
def sepOp : Nat → Option SepOp
  | 0x3C => some { op := opUnarySep, pe := peShl }
  | 0x3D => some { op := opUnarySep, pe := peShr }
  | 0x3E => some { op := opUnarySep, pe := peRol }
  | 0x3F => some { op := opUnarySep, pe := peRor }
  | 0x40 => some { op := fun i => opBinarySep i (insnW i) (insnShf i + 1) (insnW i + insnShf i + 1), pe := peMul }
  | 0x41 => some { op := fun i => opBinarySep i (insnW i) (insnW i) (insnW i), pe := peMulq }
  | 0x44 => some { op := fun i => opBinarySep i (insnW i) (insnW i) (2 * insnW i), pe := peDiv }
  | 0x48 => some { op := fun i => ⟨.separate, [grpA i (insnW i)], grpD i (2 * insnW i)⟩, pe := peSqrt }
  | 0x53 => some { op := fun i => ⟨.separate, [grpA i (insnW i + 8)], grpD i (insnW i)⟩, pe := peNarrowOp }
  | 0x54 => some { op := fun i => ⟨.separate, [grpA i (insnW i)], grpD i 7⟩, pe := pePopc }
  | 0x55 => some { op := fun i => ⟨.separate, [grpA i (insnW i)], grpD i 7⟩, pe := peClz }
  | 0x60 => some { op := fun i => ⟨.separate, [grpA i (sigWidth i)], grpD i (sigWidth i)⟩, pe := peSig }
  | 0x63 => some { op := fun i => ⟨.separate, [grpA i (bswapWidth i)], grpD i (bswapWidth i)⟩, pe := peBswap }
  | 0x80 => some { op := fun i => opBinarySep i 16 16 32, pe := peFaddh }
  | 0x81 => some { op := fun i => opBinarySep i 16 16 32, pe := peFsubh }
  | 0x82 => some { op := fun i => opBinarySep i 16 16 32, pe := peFmulh }
  | 0x83 => some { op := fun i => opBinarySep i 16 16 32, readsD := true, pe := peFfmah }
  | 0x84 => some { op := fun i => opBinarySep i 16 16 32, pe := peFminh }
  | 0x85 => some { op := fun i => opBinarySep i 16 16 32, pe := peFmaxh }
  | 0x86 => some { op := fun i => opBinarySep i 16 16 32, pe := peFcmph }
  | 0x88 => some { op := fun i => ⟨.separate, [grpA i 16], grpD i 32⟩, pe := peFcvthi }
  | 0x89 => some { op := fun i => ⟨.separate, [grpA i (insnW i)], grpD i 32⟩, pe := peFcvtih }
  | 0x8A => some { op := fun i => ⟨.separate, [grpA i 16], grpD i 32⟩, pe := peFcvthq }
  | 0x8B => some { op := fun i => ⟨.separate, [grpA i (insnW i)], grpD i 32⟩, pe := peFcvtqh }
  | _ => none
/-- A vendor opcode of the separate class. -/
def Chip.vendorSep (c : Chip) (opc : Nat) : Chip :=
  match sepOp opc with
  | some o => c.vendorPes opc o.op o.readsD o.pe
  | none => c

/-- NOP (R75, R77, R81): changes no plane and no register, translates no plane. -/
def execNop (s : State) : Host.Outcome State Fault Refusal :=
  runAny (fun c => match vendorRoutine c 0x00 with
    | none => c
    | some _ => c.endRoutine) s

/-- MOV (R81). -/
def execMov (s : State) : Host.Outcome State Fault Refusal :=
  runAny (fun c => c.vendorPes 0x01 opUnary false peMov) s
/-- NOT (R81). -/
def execNot (s : State) : Host.Outcome State Fault Refusal :=
  runAny (fun c => c.vendorPes 0x02 opUnary false peNot) s
/-- LDI (R81). -/
def execLdi (s : State) : Host.Outcome State Fault Refusal :=
  runAny (fun c => c.vendorPes 0x03 (fun i => ⟨.inPlace, [], grpD i (insnW i)⟩) false peLdi) s
/-- SEL (R81). -/
def execSel (s : State) : Host.Outcome State Fault Refusal :=
  runAny (fun c => c.vendorPes 0x05 opBinary false peSel) s
/-- BOOL (R81). -/
def execBool (s : State) : Host.Outcome State Fault Refusal :=
  runAny (fun c => c.vendorPes 0x06 opBinary false peBool) s
/-- MGET (R81). -/
def execMget (s : State) : Host.Outcome State Fault Refusal :=
  runAny (fun c => c.vendorPes 0x09 (fun i => ⟨.inPlace, [], grpD i 1⟩) false peMget) s
/-- SGET (R81). -/
def execSget (s : State) : Host.Outcome State Fault Refusal :=
  runAny (fun c => c.vendorPes 0x0A (fun i => ⟨.inPlace, [], grpD i 1⟩) false peSget) s
/-- CMP (R83). -/
def execCmp (s : State) : Host.Outcome State Fault Refusal :=
  runAny (fun c => c.vendorPes 0x28 (fun i => ⟨.inPlace, cmpSources i, grpD i 1⟩) false peCmp) s
/-- ADD (R84, R102). -/
def execAdd (s : State) : Host.Outcome State Fault Refusal :=
  runAny (fun c => c.vendorPes 0x30 opBinary false peAdd) s
/-- SUB (R84, R102). -/
def execSub (s : State) : Host.Outcome State Fault Refusal :=
  runAny (fun c => c.vendorPes 0x31 opBinary false peSub) s
/-- ADDI (R84). -/
def execAddi (s : State) : Host.Outcome State Fault Refusal :=
  runAny (fun c => c.vendorPes 0x32 opUnary false peAddi) s
/-- NEG (R84, R101). -/
def execNeg (s : State) : Host.Outcome State Fault Refusal :=
  runAny (fun c => c.vendorPes 0x33 opUnary false peNeg) s
/-- ABS (R84, R101). -/
def execAbs (s : State) : Host.Outcome State Fault Refusal :=
  runAny (fun c => c.vendorPes 0x34 opUnary false peAbs) s
/-- MIN (R84). -/
def execMin (s : State) : Host.Outcome State Fault Refusal :=
  runAny (fun c => c.vendorPes 0x35 opBinary false peMin) s
/-- MAX (R84). -/
def execMax (s : State) : Host.Outcome State Fault Refusal :=
  runAny (fun c => c.vendorPes 0x36 opBinary false peMax) s
/-- AVG (R84, R99). -/
def execAvg (s : State) : Host.Outcome State Fault Refusal :=
  runAny (fun c => c.vendorPes 0x37 opBinary false peAvg) s
/-- ABSD (R84). -/
def execAbsd (s : State) : Host.Outcome State Fault Refusal :=
  runAny (fun c => c.vendorPes 0x38 opBinary false peAbsd) s
/-- CLIP (R84). -/
def execClip (s : State) : Host.Outcome State Fault Refusal :=
  runAny (fun c => c.vendorPes 0x39 opUnary false peClip) s
/-- SHL (R84, R103). -/
def execShl (s : State) : Host.Outcome State Fault Refusal :=
  runAny (fun c => c.vendorSep 0x3C) s
/-- SHR (R84, R103). -/
def execShr (s : State) : Host.Outcome State Fault Refusal :=
  runAny (fun c => c.vendorSep 0x3D) s
/-- ROL (R84). -/
def execRol (s : State) : Host.Outcome State Fault Refusal :=
  runAny (fun c => c.vendorSep 0x3E) s
/-- ROR (R84). -/
def execRor (s : State) : Host.Outcome State Fault Refusal :=
  runAny (fun c => c.vendorSep 0x3F) s
/-- MUL (R85). -/
def execMul (s : State) : Host.Outcome State Fault Refusal :=
  runAny (fun c => c.vendorSep 0x40) s
/-- MULQ (R85). -/
def execMulq (s : State) : Host.Outcome State Fault Refusal :=
  runAny (fun c => c.vendorSep 0x41) s
/-- DIV (R85, R104). -/
def execDiv (s : State) : Host.Outcome State Fault Refusal :=
  runAny (fun c => c.vendorSep 0x44) s
/-- SQRT (R85). -/
def execSqrt (s : State) : Host.Outcome State Fault Refusal :=
  runAny (fun c => c.vendorSep 0x48) s
/-- ACC (R86, R96). -/
def execAcc (s : State) : Host.Outcome State Fault Refusal :=
  runAny (fun c => c.vendorPes 0x50 opAccum true peAcc) s
/-- ACCN (R86, R96). -/
def execAccn (s : State) : Host.Outcome State Fault Refusal :=
  runAny (fun c => c.vendorPes 0x51 opAccum true peAccn) s
/-- WIDEN (R86). -/
def execWiden (s : State) : Host.Outcome State Fault Refusal :=
  runAny (fun c => c.vendorPes 0x52 opAccum false peWiden) s
/-- NARROW (R86, R100). -/
def execNarrow (s : State) : Host.Outcome State Fault Refusal :=
  runAny (fun c => c.vendorSep 0x53) s
/-- POPC (R86). -/
def execPopc (s : State) : Host.Outcome State Fault Refusal :=
  runAny (fun c => c.vendorSep 0x54) s
/-- CLZ (R86). -/
def execClz (s : State) : Host.Outcome State Fault Refusal :=
  runAny (fun c => c.vendorSep 0x55) s
/-- SIG (R87). -/
def execSig (s : State) : Host.Outcome State Fault Refusal :=
  runAny (fun c => c.vendorSep 0x60) s
/-- CH (R87). -/
def execCh (s : State) : Host.Outcome State Fault Refusal :=
  runAny (fun c => c.vendorPes 0x61 opTernary false peCh) s
/-- MAJ (R87). -/
def execMaj (s : State) : Host.Outcome State Fault Refusal :=
  runAny (fun c => c.vendorPes 0x62 opTernary false peMaj) s
/-- BSWAP (R87). -/
def execBswap (s : State) : Host.Outcome State Fault Refusal :=
  runAny (fun c => c.vendorSep 0x63) s
/-- FADDH (R88). -/
def execFaddh (s : State) : Host.Outcome State Fault Refusal :=
  runAny (fun c => c.vendorSep 0x80) s
/-- FSUBH (R88). -/
def execFsubh (s : State) : Host.Outcome State Fault Refusal :=
  runAny (fun c => c.vendorSep 0x81) s
/-- FMULH (R88). -/
def execFmulh (s : State) : Host.Outcome State Fault Refusal :=
  runAny (fun c => c.vendorSep 0x82) s
/-- FFMAH (R88). -/
def execFfmah (s : State) : Host.Outcome State Fault Refusal :=
  runAny (fun c => c.vendorSep 0x83) s
/-- FMINH (R88). -/
def execFminh (s : State) : Host.Outcome State Fault Refusal :=
  runAny (fun c => c.vendorSep 0x84) s
/-- FMAXH (R88). -/
def execFmaxh (s : State) : Host.Outcome State Fault Refusal :=
  runAny (fun c => c.vendorSep 0x85) s
/-- FCMPH (R88). -/
def execFcmph (s : State) : Host.Outcome State Fault Refusal :=
  runAny (fun c => c.vendorSep 0x86) s
/-- FCVTHI (R88, R105). -/
def execFcvthi (s : State) : Host.Outcome State Fault Refusal :=
  runAny (fun c => c.vendorSep 0x88) s
/-- FCVTIH (R88, R105). -/
def execFcvtih (s : State) : Host.Outcome State Fault Refusal :=
  runAny (fun c => c.vendorSep 0x89) s
/-- FCVTHQ (R88, R105). -/
def execFcvthq (s : State) : Host.Outcome State Fault Refusal :=
  runAny (fun c => c.vendorSep 0x8A) s
/-- FCVTQH (R88, R105). -/
def execFcvtqh (s : State) : Host.Outcome State Fault Refusal :=
  runAny (fun c => c.vendorSep 0x8B) s

/-- LFSR (R49, R81): plane D + i takes the (i + 1)-th read; every PE's LFSR advances w times whatever the mask. -/
def execLfsr (s : State) : Host.Outcome State Fault Refusal :=
  runAny (fun c => c.vendor 0x04 (fun i => ⟨.inPlace, [], grpD i (insnW i)⟩) (fun i => [groupPlanes (grpD i (insnW i))])
    (fun c i => c.onBound (fun c t =>
      let m := peMask i (c.tile t)
      ((groupPlanes (grpD i (insnW i))).foldl (fun c v =>
        let r := lfsrRead (c.tile t)
        (c.onTile t (fun x => { x with lfsr := r.2.lfsr })).writeVirtual t v m r.1) c).endRegisters t m))) s

/-- The planes MSET reads: none where AUX names no plane (R81). -/
def msetPlanes (i : DWord) : List Nat := if insnAux i < 5 then [insnSra i] else []
/-- The value MSET gives M (R81). -/
def msetValue (i : DWord) (x : Tile) : Plane :=
  let a := readVirtual x (insnSra i)
  match insnAux i with
  | 0 => a
  | 1 => ~~~a
  | 2 => x.M &&& a
  | 3 => x.M ||| a
  | 4 => x.M &&& ~~~a
  | 5 => allPes
  | 6 => x.M &&& ~~~x.S
  | _ => ~~~x.M
/-- MSET (R75, R81): ignores MSK. -/
def execMset (s : State) : Host.Outcome State Fault Refusal :=
  runAny (fun c => c.vendor 0x08 noGroup (fun i => [msetPlanes i]) (fun c i => c.onBound (fun c t =>
    let v := msetValue i (c.tile t)
    let c1 := (msetPlanes i).foldl (fun c p => c.readVendor t p) c
    (c1.onTile t (fun x => { x with M := v })).endRegisters t allPes))) s

/-- SCLR (R60, R81). -/
def execSclr (s : State) : Host.Outcome State Fault Refusal :=
  runAny (fun c => c.vendor 0x0B noGroup (fun _ => []) (fun c i => c.onBound (fun c t =>
    let m := peMask i (c.tile t)
    (c.onTile t (fun x => { x with S := x.S &&& ~~~m })).endRegisters t m))) s

/-- Load a plane of A into NX of every bound tile and move it (R51, R82). -/
def Chip.loadAndMove (c : Chip) (v : Nat) (steps : List (Nat × Dir)) : Chip :=
  let c1 := c.setNx ((boundTiles c).map (fun t => (t, readVirtual (c.tile t) v)))
  steps.foldl (fun c s => c.moveNx s.1 s.2) c1

/-- Move every plane of a group: the moved planes of each bound tile, LSB first, from the planes as they stand. -/
def Chip.moveGroup (c : Chip) (g : Group) (steps : List (Nat × Dir)) : List (List (Nat × Plane)) × Chip :=
  (groupPlanes g).foldl (fun (r : List (List (Nat × Plane)) × Chip) v =>
    let c1 := r.2.loadAndMove v steps
    (r.1 ++ [nxOf c1], c1)) ([], c)

/-- The two directions of NMOVD (R82): N or S first, then E or W. -/
def twoDirs (aux : Nat) (k : Nat) : List (Nat × Dir) :=
  match aux % 4 with
  | 0 => [(k, 0), (k, 1)]
  | 1 => [(k, 2), (k, 1)]
  | 2 => [(k, 2), (k, 3)]
  | _ => [(k, 0), (k, 3)]

/-- D ← A moved (R82); moves are never masked, only the write is (R60). -/
def Chip.moveBody (c : Chip) (i : DWord) (steps : List (Nat × Dir)) : Chip :=
  let c0 := c.onBound (fun c t => c.noteGroup t (grpA i (insnW i)))
  let r := c0.moveGroup (grpA i (insnW i)) steps
  ((groupPlanes (grpD i (insnW i))).zip r.1).foldl (fun c e =>
    c.onBound (fun c t => c.writeVirtual t e.1 (peMask i (c.tile t)) (mapGet 0 e.2 t))) r.2
    |>.onBound (fun c t => c.endRegisters t (peMask i (c.tile t)))

/-- NMOV (R82). -/
def execNmov (s : State) : Host.Outcome State Fault Refusal :=
  runAny (fun c => c.vendor 0x10 opUnary (fun i => opGroups (opUnary i))
    (fun c i => c.moveBody i [(insnShf i, insnAux i % 4)])) s
/-- NMOVD (R82). -/
def execNmovd (s : State) : Host.Outcome State Fault Refusal :=
  runAny (fun c => c.vendor 0x11 opUnary (fun i => opGroups (opUnary i))
    (fun c i => c.moveBody i (twoDirs (insnAux i) (insnShf i)))) s

/-- NADD: D ← A + B′ or A − B′, B′ being B moved (R82). -/
def Chip.naddBody (c : Chip) (i : DWord) : Chip :=
  let gs := [grpA i (insnW i), grpB i (insnW i)]
  let c0 := c.onBound (fun c t => gs.foldl (fun c g => c.noteGroup t g) c)
  let r := c0.moveGroup (grpB i (insnW i)) [(insnShf i, insnAux i % 4)]
  r.2.onBound (fun c t =>
    let x := c.tile t
    let a := readGroup x (grpA i (insnW i))
    let b := r.1.map (fun l => mapGet 0 l t)
    let rs := (List.range 4096).map (fun p =>
      let y : PeIn := { a := peNumber a p, b := peNumber b p }
      if 4 ≤ insnAux i then peSub i y else peAdd i y)
    (c.writeResults t (peMask i x) (grpD i (insnW i)) rs).endRegisters t (peMask i x))
/-- NADD (R82). -/
def execNadd (s : State) : Host.Outcome State Fault Refusal :=
  runAny (fun c => c.vendor 0x12 opBinary (fun i => opGroups (opBinary i)) Chip.naddBody) s

/-- The planes ANY reads, by AUX (R83). -/
def anyPlanes (i : DWord) : List Nat :=
  match insnAux i with
  | 1 => []
  | 2 => []
  | 3 => [(insnSra i + insnW i - 1) % 4096]
  | 4 => [insnSra i]
  | _ => groupPlanes (grpA i (insnW i))
/-- The bit ANY takes from every PE of a tile. -/
def anyPlane (i : DWord) (x : Tile) : Plane :=
  let a := readGroup x (grpA i (insnW i))
  planeOfList ((List.range 4096).map (fun p => anyBit i { a := peNumber a p, s := peBit x.S p }))
/-- ANY (R56, R83): ignores MSK; its result is a GOR-class result on its way (R57). -/
def execAny (s : State) : Host.Outcome State Fault Refusal :=
  runAny (fun c => c.vendor 0x20 noGroup (fun i => [anyPlanes i]) (fun c i =>
    let c1 := c.onBound (fun c t => (anyPlanes i).foldl (fun c p => c.readVendor t p) c)
    (c1.gorIssue (gorResult c1 (anyPlane i))).onBound (fun c t => c.endRegisters t allPes))) s

/-- CMPM (R83): M ← the relation, ANDed with M under MSK; writes to M are never masked (R61). (DEDUCED: log 16) -/
def execCmpm (s : State) : Host.Outcome State Fault Refusal :=
  runAny (fun c => c.vendor 0x29 noGroup (fun i => (cmpSources i).map groupPlanes) (fun c i => c.onBound (fun c t =>
    let x := c.tile t
    let m := peMask i x
    let rs := tileResults x i ⟨.none, cmpSources i, ⟨0, 0⟩⟩ peCmp
    let rel := planeOfList (rs.map (fun r => r.1.testBit 0))
    let c1 := (cmpSources i).foldl (fun c g => c.noteGroup t g) c
    (c1.onTile t (fun y => { y with M := if insnMsk i then x.M &&& rel else rel })).endRegisters t m))) s

/-- What an abandoned vendor routine leaves in one tile (R138): which planes of its destination it had written (none that it reads, R79),
what C and T hold, and how much of what it sets in S it had set, is not published: free values. M, NX and the LFSR are as they were.
(DESIGN CHOICE: log 14) -/
def Chip.abandonTile (c : Chip) (t : Nat) (i : DWord) (o : SepOp) : Chip :=
  let x := c.tile t
  let m := peMask i x
  let sets := planeOfList ((tileResults x i (o.op i) o.pe).map Prod.snd)
  let c1 := (if o.readsD then [] else groupPlanes (o.op i).dst).foldl (fun c v =>
    let q := c.drawPlane t
    q.2.writeVirtual t v m q.1) c
  let a := c1.drawPlane t
  let b := a.2.drawPlane t
  let d := b.2.drawPlane t
  d.2.onTile t (fun x => { x with
    C := (x.C &&& ~~~m) ||| (a.1 &&& m), T := (x.T &&& ~~~m) ||| (b.1 &&& m), S := x.S ||| (sets &&& m &&& d.1) })

/-- YIELD (R118, R137 to R139): a preemption point of a customer routine's microcode, or, in a vendor routine of the separate
class, one of its own YIELD points, which come after its CHECK and TOUCH microwords (R131). -/
def execYield (s : State) : Host.Outcome State Fault Refusal :=
  runAny (fun c => match activeRoutine c with
    | none => c
    | some r =>
      if 0xC0 ≤ insnOpc r.insn then c.microword 8 Chip.uYield
      else
        let urgent := if queueState c = 0 then urgentPending c else c.seq.powerStop
        match sepOp (insnOpc r.insn) with
        | some o =>
          if r.loaded && r.isYield && urgent then
            c.vendorOpen r (o.op r.insn) (opGroups (o.op r.insn)) (fun c => (c.onBound (fun c t => c.abandonTile t r.insn o)).abandon r)
          else c
        | none => c) s

end Sys2Proof.Machine
end

