-- ==== Sys2Proof/Machine/Objects.lean ====
section
/-!
DEFINITION. The object dictionary as a table (R426 to R428, R446, R447, R449, R451 to R455, R510, R536, R439, R440, R568):
the type, access, sealed attribute, range, default and backing of every sub-index, and the values held.
-/
namespace Sys2Proof.Machine

/-- The access codes of R428. -/
inductive OdAccess where
  | ro | wo | rw | rww | rwr | constant
  deriving DecidableEq, Repr

/-- What backs a sub-index (R431): a value held by the engine (firmware-backed, and the Seal Unit's parameters), a field of
a register, whole registers from an address, or one that its rule computes. -/
inductive OdBacking where
  | held
  | field (addr hi lo : Nat)
  | words (addr n : Nat)
  | special
  deriving DecidableEq, Repr

/-- One sub-index. `size` is its length in bytes; for VISIBLE_STRING, OCTET_STRING and DOMAIN it is the maximum and `var`
is true. `lo` and `hi` bound the value of a number. -/
structure OdRow where
  size    : Nat
  var     : Bool := false
  acc     : OdAccess := .ro
  sealedW : Bool := false
  lo      : Nat := 0
  hi      : Nat := 2 ^ 64 - 1
  dflt    : List Byte := []
  back    : OdBacking := .held
  deriving DecidableEq, Repr

/-- A number sub-index with a default held by the engine. -/
def odNum (size : Nat) (acc : OdAccess) (sealedW : Bool) (lo hi dflt : Nat) : OdRow :=
  { size := size, acc := acc, sealedW := sealedW, lo := lo, hi := hi, dflt := leBytes size dflt }
/-- A number sub-index backed by a register field. -/
def odReg (size : Nat) (acc : OdAccess) (sealedW : Bool) (lo hi addr h l : Nat) : OdRow :=
  { size := size, acc := acc, sealedW := sealedW, lo := lo, hi := hi, back := .field addr h l }
/-- Sub-index 0 of a record or array: the highest sub-index (R427). -/
def odCount (n : Nat) : OdRow := { size := 1, acc := .ro, dflt := leBytes 1 n }
/-- A sub-index that its rule computes. -/
def odSpecial (size : Nat) (acc : OdAccess) (sealedW : Bool) (lo hi : Nat) : OdRow :=
  { size := size, acc := acc, sealedW := sealedW, lo := lo, hi := hi, back := .special }
/-- A DOMAIN or string of at most n bytes. -/
def odVar (n : Nat) (acc : OdAccess) (sealedW : Bool) : OdRow :=
  { size := n, var := true, acc := acc, sealedW := sealedW, back := .special }

/-- The communication objects (R446). A PDO's own sub-indices follow CiA 301. (PRESUMED: log 86) -/
def odComm (c : Chip) (index sub : Nat) : Option OdRow :=
  let n := c.od.nodeId
  if index = 0x1000 ∧ sub = 0 then some (odNum 4 .constant false 0 (2 ^ 32 - 1) 0)
  else if index = 0x1001 ∧ sub = 0 then some (odNum 1 .ro false 0 255 0)
  else if index = 0x1008 ∧ sub = 0 then
    some { size := 5, var := true, acc := .constant, dflt := [0x53, 0x61, 0x6C, 0x75, 0x6E] }
  else if (index = 0x1009 ∨ index = 0x100A) ∧ sub = 0 then some (odVar 64 .constant false)
  else if index = 0x1010 ∨ index = 0x1011 then
    if sub = 0 then some (odCount 1) else if sub = 1 then some (odSpecial 4 .rw true 0 (2 ^ 32 - 1)) else none
  else if index = 0x1012 ∧ sub = 0 then some (odNum 4 .rw true 0 (2 ^ 32 - 1) 0x100)
  else if index = 0x1014 ∧ sub = 0 then some (odNum 4 .rw true 0 (2 ^ 32 - 1) (0x80 + n))
  else if index = 0x1015 ∧ sub = 0 then some (odNum 2 .rw true 0 65535 10)
  else if index = 0x1016 then
    if sub = 0 then some (odCount 1) else if sub = 1 then some (odNum 4 .rw false 0 (2 ^ 32 - 1) 0) else none
  else if index = 0x1017 ∧ sub = 0 then some (odNum 2 .rw false 0 65535 1000)
  else if index = 0x1018 then
    match sub with
    | 0 => some (odCount 4)
    | 1 => some (odNum 4 .constant false 0 (2 ^ 32 - 1) 0x0A3C)
    | 2 => some (odNum 4 .constant false 0 (2 ^ 32 - 1) (if c.is08X then 0x53110008 else 0x53110016))
    | 3 => some (odSpecial 4 .constant false 0 (2 ^ 32 - 1))
    | 4 => some (odSpecial 4 .constant false 0 (2 ^ 32 - 1))
    | _ => none
  else if (0x1400 ≤ index ∧ index ≤ 0x1403) ∨ (0x1800 ≤ index ∧ index ≤ 0x1803) then
    match sub with
    | 0 => some (odCount 5)
    | 1 => some (odNum 4 .rw true 0 (2 ^ 32 - 1) (2 ^ 31))      -- bit 31: the PDO is disabled
    | 2 => some (odNum 1 .rw true 0 255 254)
    | 3 => some (odNum 2 .rw true 0 65535 0)
    | 5 => some (odNum 2 .rw true 0 65535 0)
    | _ => none
  else if (0x1600 ≤ index ∧ index ≤ 0x1603) ∨ (0x1A00 ≤ index ∧ index ≤ 0x1A03) then
    if sub = 0 then some (odNum 1 .rw true 0 64 0)
    else if sub ≤ 64 then some (odNum 4 .rw true 0 (2 ^ 32 - 1) 0) else none
  else none

/-- The mode, power, time and system objects (R447). -/
def odSystem (_c : Chip) (index sub : Nat) : Option OdRow :=
  if index = 0x2000 then if sub = 0 then some (odSpecial 1 .rww false 0 5) else none
  else if index = 0x2001 then
    match sub with
    | 0 => some (odCount 4)
    | 1 => some (odReg 1 .ro false 0 255 Reg.SYS_MODE 7 0)
    | 2 => some (odReg 1 .ro false 0 255 Reg.SYS_MODE 15 8)
    | 3 => some (odNum 1 .ro false 0 255 0)
    | 4 => some (odNum 1 .ro false 0 255 0)
    | _ => none
  else if index = 0x2002 then if sub = 0 then some (odNum 1 .rw true 1 5 2) else none
  else if index = 0x2010 then
    if sub = 0 then some (odCount 5)
    else if sub ≤ 5 then some (odReg 4 .rw true 2 1000000 (Reg.SYS_TOL1 + 4 * (sub - 1)) 19 0) else none
  else if index = 0x2020 then if sub = 0 then some (odReg 2 .rw true 50 480 Reg.SYS_PCAP 8 0) else none
  else if index = 0x2100 then
    match sub with
    | 0 => some (odCount 3)
    | 1 => some (odReg 1 .rw true 0 4 Reg.TIME_CTL 2 0)
    | 2 => some (odReg 2 .rw true 0 255 Reg.TIME_UTC_OFS 15 0)
    | 3 => some (odReg 1 .ro false 0 255 Reg.TIME_STAT 31 30)
    | _ => none
  else if index = 0x2F00 then if sub = 0 then some (odNum 1 .rw false 0 15 0) else none
  else if index = 0x2F01 then
    match sub with
    | 0 => some (odCount 2)
    | 1 => some (odNum 2 .rw true 0 65535 1)
    | 2 => some (odNum 1 .rw true 0 1 0)
    | _ => none
  else none

/-- The stream objects (R449). -/
def odStream (s sub : Nat) : Option OdRow :=
  match sub with
  | 0 => some (odCount 0x16)
  | 1 => some (odNum 1 .rw false 0 1 0)
  | 2 => some (odNum 1 .rw true 0 15 (s % 4))
  | 3 => some (odNum 1 .rw true 0 3 1)
  | 4 => some (odNum 2 .rw true 256 4096 3840)
  | 5 => some (odNum 2 .rw true 128 2304 2160)
  | 6 => some (odNum 2 .rw true 100 6000 3000)
  | 7 => some (odNum 1 .rw true 0 1 1)
  | 8 => some (odNum 4 .rw true 100000 40000000 12000000)
  | 9 => some (odNum 2 .rw true 1 3600 60)
  | 0x0A => some (odNum 1 .rw true 1 15 2)
  | 0x0B => some (odNum 2 .rw true 0 3071 (64 + 30 * s))
  | 0x0C => some (odNum 2 .rw true 1000 65535 33333)
  | 0x0D => some (odNum 2 .rw true 0 1023 32)
  | 0x0E => some (odNum 1 .rw true 0 4 3)
  | 0x0F => some (odNum 2 .rw true 0 1023 33)
  | 0x10 => some (odNum 2 .rw true 0 1023 34)
  | 0x11 => some (odNum 2 .rw true 0 1023 35)
  | 0x12 => some (odNum 2 .rw true 0 1023 0)
  | 0x13 => some (odNum 2 .rw true 0 1023 16)
  | 0x14 => some (odNum 1 .rw true 0 15 0x09)
  | 0x15 => some (odSpecial 4 .ro false 0 (2 ^ 32 - 1))
  | 0x16 => some (odSpecial 8 .ro false 0 (2 ^ 64 - 1))
  | _ => none

/-- The sealing parameters and the triggers (R451, R452). -/
def odSealing (index sub : Nat) : Option OdRow :=
  if index = 0x3100 then if sub = 0 then some (odNum 2 .rw true 100 2000 250) else none
  else if index = 0x3101 then if sub = 0 then some (odNum 1 .rw true 1 10 2) else none
  else if index = 0x3102 then if sub = 0 then some (odNum 2 .rw true 1 4096 64) else none
  else if index = 0x3103 then if sub = 0 then some (odNum 2 .rw true 100 10000 500) else none
  else if index = 0x3200 then
    if sub = 0 then some (odCount 0x0B)
    else if sub ≤ 8 then some (odNum 4 .rw true 0 (2 ^ 32 - 1) 0)
    else if sub = 9 then some (odNum 2 .rw true 10 3600 60)
    else if sub = 0x0A then some (odSpecial 1 .rww false 0 1)
    else if sub = 0x0B then some (odNum 4 .rw true 0 (2 ^ 32 - 1) (2 ^ 32 - 1))
    else none
  else none

/-- The kernel, Granary and microcode objects (R453, R454). -/
def odKernel (c : Chip) (index sub : Nat) : Option OdRow :=
  if index < 0x4400 then
    let k := index - 0x4000
    let base := Reg.kernelWord k 0
    -- entries 0 to 511 are ro once KLOCK is set
    let acc : OdAccess := if k < 512 ∧ c.bit Reg.GRN_CTL 2 then .ro else .rw
    match sub with
    | 0 => some (odCount 6)
    | 1 => some { size := 8, acc := acc, sealedW := true, hi := 2 ^ 40 - 1, back := .special }
    | 2 => some { size := 1, acc := acc, sealedW := true, hi := 1, back := .field (base + 4) 8 8 }
    | 3 => some { size := 1, acc := acc, sealedW := true, hi := 1, back := .field (base + 4) 9 9 }
    | 4 => some { size := 16, var := true, acc := acc, sealedW := true, back := .words (base + 8) 4 }     -- OCTET_STRING
    | 5 => some { size := 2, acc := acc, sealedW := true, hi := 65535, back := .field (base + 0x18) 31 16 }
    | 6 => some { size := 2, acc := acc, sealedW := true, hi := 511, back := .field (base + 0x18) 8 0 }
    | _ => none
  else if index = 0x4400 then
    match sub with
    | 0 => some (odCount 4)
    | 1 => some (odReg 4 .rw true 0 (2 ^ 20 - 1) Reg.GRN_ROUND_SLACK 19 0)
    | 2 => some (odReg 4 .rw true 0 (2 ^ 20 - 1) Reg.GRN_PREEMPT_SLACK 19 0)
    | 3 => some (odReg 4 .rw true 0 (2 ^ 20 - 1) Reg.GRN_POOL_LOW 19 0)
    | 4 => some (odReg 1 .rw true 0 1 Reg.GRN_CTL 1 1)
    | _ => none
  else if index = 0x4401 ∧ sub = 0 then some (odVar 0x100000 .wo true)
  else if index = 0x4402 ∧ sub = 0 then some (odReg 1 .ro false 0 15 Reg.ASQ_LOAD_STAT 3 0)
  else none

/-- The I/O area (R455, R510). -/
def odIo (index sub : Nat) : Option OdRow :=
  if 0x5000 ≤ index ∧ index ≤ 0x5007 then
    let a := Reg.CAP_PCTLp (index - 0x5000)
    match sub with
    | 0 => some (odCount 4)
    | 1 => some (odReg 1 .rw true 0 1 a 31 31)
    | 2 => some (odReg 1 .rw true 0 3 a 27 26)
    | 3 => some (odReg 1 .rw true 0 255 a 23 16)
    | 4 => some (odReg 1 .rw true 0 15 a 15 12)
    | _ => none
  else if index = 0x5100 then
    match sub with
    | 0 => some (odCount 7)
    | 1 => some (odReg 1 .rw true 0 1 Reg.PCIB_SWCTL 31 31)
    | 2 => some (odReg 1 .rw true 0 1 Reg.PCIB_SWCTL 30 30)
    | 3 => some (odReg 1 .rw true 0 127 Reg.PCIB_SWCTL 6 0)
    | 4 => some (odReg 4 .rw true 0 (2 ^ 32 - 1) Reg.PCIB_NSID 31 0)
    | 5 => some { size := 8, acc := .rw, sealedW := true, back := .words Reg.PCIB_RING_START_LO 2 }
    | 6 => some (odReg 4 .rw true 0 (2 ^ 32 - 1) Reg.PCIB_RING_UNITS 31 0)
    | 7 => some (odReg 4 .rw true 0 (2 ^ 32 - 1) Reg.PCIB_HOLD 31 0)
    | _ => none
  else if index = 0x5200 ∨ index = 0x5201 then
    let m := index - 0x5200
    match sub with
    | 0 => some (odCount 5)
    | 1 => some (odReg 1 .rw true 0 1 (Reg.ETH_CTL m) 31 31)
    | 2 => some (odReg 1 .rw true 0 7 (Reg.ETH_CTL m) 30 28)
    | 3 => some (odReg 1 .rw true 0 1 (Reg.ETH_CTL m) 27 27)
    | 4 => some (odReg 4 .rw true 0 (2 ^ 32 - 1) (Reg.ETH_IPV4 m) 31 0)
    | 5 => some { size := 16, acc := .rw, sealedW := true, hi := 2 ^ 128 - 1, back := .words (Reg.ETH_IPV6k m 0) 4 }
    | _ => none
  else if index = 0x5300 then
    match sub with
    | 0 => some (odCount 4)
    | 1 => some (odNum 1 .rw true 1 127 48)
    | 2 => some (odNum 1 .rw true 0 3 2)
    | 3 => some (odNum 1 .rw true 0 4 1)
    | 4 => some (odNum 1 .rw true 0 3 0)
    | _ => none
  else if index = 0x5400 then if sub = 0 then some (odVar 0x100000 .wo true) else none
  else if index = 0x5401 then if sub = 0 then some (odNum 1 .ro false 0 2 0) else none
  else if 0x5410 ≤ index ∧ index < 0x5450 then
    let a := Reg.WEAVE_PINk (index - 0x5410)
    match sub with
    | 0 => some (odCount 4)
    | 1 => some (odReg 1 .rw true 0 1 a 8 8)
    | 2 => some (odReg 1 .rw true 0 5 a 14 12)
    | 3 => some (odReg 1 .rw true 0 1 a 2 2)
    | 4 => some (odReg 1 .ro false 0 1 a 31 31)
    | _ => none
  else if index = 0x5450 then if sub = 0 then some (odReg 4 .ro false 0 (2 ^ 32 - 1) Reg.WEAVE_TRIG 31 0) else none
  else if index = 0x5451 then if sub = 0 then some (odReg 4 .rw true 0 (2 ^ 32 - 1) Reg.WEAVE_FIN 31 0) else none
  else if index = 0x5452 then if sub = 0 then some (odReg 4 .ro false 0 (2 ^ 32 - 1) Reg.WEAVE_FOUT 31 0) else none
  else if 0x5500 ≤ index ∧ index ≤ 0x550F then
    let a := Reg.WEAVE_ADC_CHc (index - 0x5500)
    let r := Reg.WEAVE_ADC_RESc (index - 0x5500)
    match sub with
    | 0 => some (odCount 6)
    | 1 => some (odReg 1 .rw true 0 1 a 31 31)
    | 2 => some (odReg 1 .rw true 0 8 a 27 24)
    | 3 => some (odReg 2 .rw true 0 4095 a 11 0)
    | 4 => some (odReg 2 .rw true 0 4095 a 23 12)
    | 5 => some (odReg 2 .ro false 0 4095 r 11 0)
    | 6 => some (odReg 1 .ro false 0 1 r 31 31)
    | _ => none
  else if index = 0x5600 then
    match sub with
    | 0 => some (odCount 4)
    | 1 => some (odNum 2 .rww false 0 65535 0xFFFF)
    | 2 => some (odNum 4 .rww false 0 (2 ^ 32 - 1) 0x80000000)
    | 3 => some (odNum 4 .rww false 0 (2 ^ 32 - 1) 0x80000000)
    | 4 => some (odNum 1 .rww false 0 255 0)
    | _ => none
  else none

/-- The lifetime, debug, session and transaction objects (R568, R536, R439, R440). -/
def odService (index sub : Nat) : Option OdRow :=
  if index = 0x5E00 then
    match sub with
    | 0 => some (odCount 5)
    | 1 => some (odSpecial 1 .wo false 0 1)
    | 2 => some (odSpecial 1 .wo false 0 1)
    | 3 => some (odReg 4 .ro false 0 (2 ^ 32 - 1) Reg.LIFE_SNAP 29 0)
    | 4 => some { size := 8, acc := .ro, back := .words Reg.LIFE_SNAP_TAI_LO 2 }
    | 5 => some (odReg 4 .rw true 60 86400 Reg.LIFE_FLUSH 16 0)
    | _ => none
  else if index = 0x5E10 then if sub = 0 then some (odVar 0x6000 .ro false) else none
  else if index = 0x5E11 then if sub = 0 then some (odVar 0x4000 .ro false) else none
  else if index = 0x5E12 then if sub = 0 then some (odVar 0x4000 .ro false) else none
  else if index = 0x5F10 then if sub = 0 then some (odVar 1440 .wo false) else none
  else if index = 0x5F11 then if sub = 0 then some (odVar 1440 .ro false) else none
  else if index = 0x5F20 then if sub = 0 then some (odVar 1024 .wo true) else none
  else if index = 0x5F21 then if sub = 0 then some (odVar 1024 .ro false) else none
  else if index = 0x5F30 then
    match sub with
    | 0 => some (odCount 3)
    | 1 => some (odSpecial 1 .wo true 1 4)
    | 2 => some (odNum 1 .rw true 0 1 0)
    | 3 => some (odReg 1 .ro false 0 255 Reg.SILO_TXSTAT 23 16)
    | _ => none
  else none

/-- The row of a sub-index, none where it does not exist (R426). The window 0x6000 to 0x9FFF is not in it (R456). -/
def odRow (c : Chip) (index sub : Nat) : Option OdRow :=
  if index < 0x1000 then none
  else if index < 0x2000 then odComm c index sub
  else if index < 0x3000 then odSystem c index sub
  else if index < 0x3020 then odStream (index - 0x3000) sub
  else if index < 0x4000 then odSealing index sub
  else if index < 0x5000 then odKernel c index sub
  else if index < 0x5E00 then odIo index sub
  else if index < 0x6000 then odService index sub
  else none

/-- Does the index exist (R426)? -/
def odIndexExists (c : Chip) (index : Nat) : Bool := (odRow c index 0).isSome

/-- The key of a sub-index in the engine's table of values. -/
def odKey (index sub : Nat) : Nat := index * 256 + sub

/-- The bytes held for a sub-index: the value written, or the default. -/
def odHeld (c : Chip) (index sub : Nat) : List Byte :=
  let d := match odRow c index sub with
    | some r => r.dflt
    | none => []
  match c.od.objects.find? (fun e => e.1 == odKey index sub) with
  | some e => e.2
  | none => d

/-- A held number. -/
def odNat (c : Chip) (index sub : Nat) : Nat := leNat (odHeld c index sub)

/-- Set a held value. -/
def Chip.odSet (c : Chip) (index sub : Nat) (bs : List Byte) : Chip :=
  { c with od := { c.od with objects := mapInsert (odKey index sub) bs (mapErase (odKey index sub) c.od.objects) } }

end Sys2Proof.Machine
end

