-- ==== Sys2Proof/Machine/Silo.lean ====
section
/-!
DEFINITION. The Silo: grain writes, SECDED and wear (R367 to R370), CRC-32C, the journal ring (R371 to R375), the start-up
scan (R384), and the commands that drive them.
-/
namespace Sys2Proof.Machine

/-! ### CRC-32C -/

/-- One byte of CRC-32C, bit by bit (polynomial 0x1EDC6F41, reflected). (PRESUMED: log 7) -/
def crcByte (x b : Nat) : Nat :=
  (List.range 8).foldl (fun a _ => if a % 2 = 1 then (a / 2) ^^^ 0x82F63B78 else a / 2) (x ^^^ b)
/-- CRC-32C of bytes. (PRESUMED: log 7) -/
def crc32c (bs : List Byte) : Nat := (bs.foldl (fun a b => crcByte a b.toNat) 0xFFFFFFFF) ^^^ 0xFFFFFFFF

/-! ### Grains (R368 to R370) -/

/-- The address of a Silo offset. -/
def siloAddr (off : Nat) : Nat := 0x30000000 + off

/-- Does a block's count of grain writes pass 8 × 10^8 here (R370)? `key` is the count's key in the lifetime records. -/
def wearPasses (key old new : Nat) : Bool :=
  decide (1024 ≤ key) && decide (key < 3072) && decide (old ≤ 800000000) && decide (800000000 < new)
/-- Count a grain write of a 4 KiB block (R370, R561): EV43 when the count passes 8 × 10^8. (DESIGN CHOICE: log 63) -/
def Chip.siloWear (c : Chip) (off : Nat) : Chip :=
  let k := 1024 + off / 4096
  let c1 := c.lifeAdd k 1
  c1.raiseIf (wearPasses k (lifeValue c k) (lifeValue c1 k)) 43

/-- What the check of a Silo word finds and does (R369): a corrected word is rewritten. True: the word is bad. -/
def Chip.siloCheckWord (c : Chip) (a : Nat) : Bool × Chip :=
  match c.eccAt a with
  | .good => (false, c)
  | .single =>
    (false, ((((c.setEcc a .good).countFld Reg.SILO_CE 7 0 1).raiseIf (c.fld Reg.SILO_CE 7 0 == 0) 32).lifeAdd 19 1).siloWear (a - 0x30000000))
  | .double =>
    let c1 := if c.bit Reg.SILO_UE_ADDR 31 then c else
      c.setReg Reg.SILO_UE_ADDR (BitVec.ofNat 32 (2 ^ 31 + (a - 0x30000000)))
    (true, (c1.raise 34).lifeAdd 20 1)

/-- Check words in order; true: some word is bad. -/
def Chip.siloCheckWords (c : Chip) : List Nat → Bool × Chip
  | [] => (false, c)
  | a :: rest =>
    let r := c.siloCheckWord a
    let r' := r.2.siloCheckWords rest
    (r.1 || r'.1, r'.2)

/-- Check every word of a range of the Silo that a controller reads by itself (R369, R384). -/
def Chip.siloCheckRange (c : Chip) (off n : Nat) : Chip :=
  (c.siloCheckWords ((c.ecc.map Prod.fst).filter (fun a => decide (siloAddr off ≤ a) && decide (a < siloAddr off + n)))).2

/-- Read n bytes of the Silo at an offset: the bytes, and whether they are poisoned (R369). -/
def Chip.siloRead (c : Chip) (off n : Nat) : List Byte × Bool × Chip :=
  let r := c.siloCheckWords (wordsOf (siloAddr off) n)
  (c.rdBytes (siloAddr off) n, r.1, r.2)

/-- Write bytes that lie in one grain (R368): a request smaller than the grain reads the rest of it first; the words it
writes whole take fresh check bits. -/
def Chip.siloWriteGrain (c : Chip) (off : Nat) (bs : List Byte) : Chip :=
  let a := siloAddr off
  let n := bs.length
  let rest := (wordsOf (siloAddr (off / 64 * 64)) 64).filter (fun w => decide (w < a) || decide (a + n < w + 8))
  let r := c.siloCheckWords rest
  let c1 := r.2.wrBytes a bs
  let whole := (wordsOf a n).filter (fun w => decide (a ≤ w) && decide (w + 8 ≤ a + n))
  (whole.foldl (fun c w => c.setEcc w .good) c1).siloWear off

/-- Write bytes at an offset, grain by grain. -/
def Chip.siloWrite : Nat → Chip → Nat → List Byte → Chip
  | 0, c, _, _ => c
  | fuel + 1, c, off, bs =>
    match bs with
    | [] => c
    | _ =>
      let k := 64 - off % 64
      Chip.siloWrite fuel (c.siloWriteGrain off (bs.take k)) (off + k) (bs.drop k)

/-- Write bytes at an offset. -/
def Chip.siloPut (c : Chip) (off : Nat) (bs : List Byte) : Chip := Chip.siloWrite (bs.length / 64 + 2) c off bs

/-! ### The journal (R371 to R375) -/

/-- Grains in the journal ring (R367). -/
def ringGrains : Nat := 98304
/-- Payload grains of each entry type (R371). -/
def entryGrains : Nat → Nat
  | 1 => 4 | 2 => 16 | 3 => 6 | 4 => 1 | _ => 0

/-- Grains in use, from the oldest kept entry to the write position. -/
def ringUsed (c : Chip) : Nat :=
  match c.silo.entries with
  | [] => 0
  | e :: _ => if e.pos < c.silo.pos then c.silo.pos - e.pos else ringGrains + c.silo.pos - e.pos
/-- Free journal grains (SILO_STAT.JFREE, R392). -/
def ringFree (c : Chip) : Nat := ringGrains - ringUsed c

/-- Where an entry of g grains would start: entries never wrap (R373). -/
def entryStart (c : Chip) (g : Nat) : Nat := if c.silo.pos + g ≤ ringGrains then c.silo.pos else 0
/-- Does an entry of type `typ` fit now (R373, R375)? -/
def entryFits (c : Chip) (typ : Nat) : Bool :=
  let g := entryGrains typ + 1
  let skipped := if c.silo.pos + g ≤ ringGrains then 0 else ringGrains - c.silo.pos
  decide (skipped + g ≤ ringFree c)

/-- The 64 bytes of an entry's header (R371), its CRC included. -/
def entryHeader (e : JEntry) : List Byte :=
  let h := [0x4A, 0x45, 0x01, BitVec.ofNat 8 e.typ] ++ leBytes 2 e.grains ++ leBytes 1 (if e.typ = 1 then e.stream else 0) ++ [0] ++
    leBytes 8 e.jseq ++ leBytes 8 e.tai ++ leBytes 8 e.key ++ leBytes 8 (if e.typ = 1 then e.nextSeq else 0) ++
    List.replicate 20 0
  h ++ leBytes 4 (crc32c (h ++ e.payload))

/-- Keep the JSEQ registers at the next JSEQ (R392). -/
def Chip.showJseq (c : Chip) : Chip :=
  (c.setReg Reg.SILO_JSEQ_LO (BitVec.ofNat 32 c.silo.jnext)).setReg Reg.SILO_JSEQ_HI (BitVec.ofNat 32 (c.silo.jnext / 2 ^ 32))

/-- Raise EV36 and set JFULL when the first waiting write does not fit (R375); JFULL is 0 where none waits for space. -/
def Chip.noteFull (c : Chip) : Chip :=
  let full := match c.silo.waiting with
    | w :: _ => !entryFits c w.typ
    | [] => false
  if full && !c.bit Reg.SILO_STAT 30 then (c.setBit Reg.SILO_STAT 30 true).raise 36 else c.setBit Reg.SILO_STAT 30 full

/-- The journal write that is served next, and those that go on waiting: the first that waits; where that one waits for space, the
records of the Seal Unit wait with it (R375), and the first PROGRESS, CAPSULE or CAPSULE_END entry that fits goes. (DEDUCED: log 57) -/
def nextWrite (c : Chip) : Option (JWrite × List JWrite) :=
  match c.silo.waiting with
  | [] => none
  | w :: rest =>
    if entryFits c w.typ then some (w, rest) else
    match (w :: rest).find? (fun x => decide (3 ≤ x.typ) && entryFits c x.typ) with
    | some x => some (x, (w :: rest).erase x)
    | none => none

/-- Ask for a journal write: writes are served in order (R368), and one that does not fit waits (R375). (DESIGN CHOICE: log 57) -/
def Chip.journal (c : Chip) (w : JWrite) : Chip :=
  ({ c with silo := { c.silo with waiting := c.silo.waiting ++ [w] } }).noteFull

/-- The latest PROGRESS entry that is kept. -/
def lastProgress (c : Chip) : Option JEntry := c.silo.entries.reverse.find? (fun e => e.typ == 3)
/-- DURABLE_JSEQ of a PROGRESS payload: none where it says that no record is durable. (DEDUCED: log 56) -/
def payloadDurable (p : List Byte) : Option Nat := if leNat (p.take 8) = 2 ^ 64 - 1 then none else some (leNat (p.take 8))
/-- Is an entry's record durable by a PROGRESS entry (R374)? -/
def durableBy (p e : JEntry) : Bool := match payloadDurable p.payload with
  | some d => decide (e.jseq ≤ d)
  | none => false

/-- Is the record of a SHEAF entry covered by a journaled stook (R374)? -/
def sheafCovered (c : Chip) (e : JEntry) : Bool := decide (e.key < mapGet 0 c.ev.covered e.stream)

/-- The oldest kept entry advances as far as R374 allows. -/
def Chip.advanceOldest : Nat → Chip → Chip
  | 0, c => c
  | fuel + 1, c =>
    match c.silo.entries, lastProgress c with
    | e :: rest, some p =>
      if durableBy p e ∧ e.jseq < p.jseq ∧ (e.typ ≠ 1 ∨ sheafCovered c e) then
        Chip.advanceOldest fuel { c with silo := { c.silo with entries := rest } }
      else c
    | _, _ => c

/-- The SEQ after the last journaled sheaf record of stream s, taken or not yet taken by records that wait (R320). -/
def journaledSeq (c : Chip) (s : Nat) : Nat :=
  (((c.silo.waiting.filter (fun w => decide (w.typ = 1) && decide (w.stream = s))).map (fun w => w.key)) ++
    (c.ev.sheaves.filter (fun x => decide (x.stream = s))).filterMap (fun x => x.seqNo)).foldl Nat.min (mapGet 0 c.ev.nextSeq s)
/-- The payload of a PROGRESS entry as it is written (R371). With no record durable yet DURABLE_JSEQ is all ones. (DEDUCED: log 56) -/
def progressPayload (c : Chip) : List Byte :=
  leBytes 8 (c.silo.progress.durable.getD (2 ^ 64 - 1)) ++ leBytes 8 c.silo.progress.nextBale ++ leBytes 8 c.silo.progress.ringPos ++
    leBytes 8 c.ev.stookCtr ++ c.ev.stookHash ++ (List.range 32).flatMap (fun s => leBytes 8 (journaledSeq c s)) ++ List.replicate 32 0
/-- The control words go to their next copy in turn (R370). (DESIGN CHOICE: log 180) -/
def Chip.putControl (c : Chip) : Chip :=
  let k := c.silo.jnext % 8
  { c with silo := { c.silo with control := mapInsert k { next := c.silo.jnext, pos := c.silo.pos } (mapErase k c.silo.control) } }
/-- The copy of the control words that was written last (R370). -/
def controlWords (c : Chip) : JControl :=
  c.silo.control.foldl (fun m e => if m.next < e.2.next then e.2 else m) { next := 0, pos := 0 }
/-- Write an entry whole, payload grains first and the header grain last (R372): EV35 when the free grains fall below
SILO_JLOW. -/
def Chip.writeEntry (c : Chip) (w : JWrite) : JEntry × Chip :=
  let prog := decide (w.typ = 3)
  let e : JEntry :=
    { jseq := c.silo.jnext, typ := w.typ, pos := entryStart c (entryGrains w.typ + 1), grains := entryGrains w.typ
      stream := w.stream, key := if prog then c.silo.progress.nextBale else w.key, tai := w.tai.getD c.tai.toNat
      nextSeq := w.nextSeq, payload := if prog then progressPayload c else w.payload }
  let c1 := c.siloPut (64 * (e.pos + 1)) e.payload
  let c2 := c1.siloPut (64 * e.pos) (entryHeader e)
  let c3 := ({ c2 with silo := { c2.silo with
    entries := c2.silo.entries ++ [e], jnext := e.jseq + 1, pos := e.pos + e.grains + 1 } }).putControl.showJseq
  let low := c.fld Reg.SILO_JLOW 16 0
  (e, c3.raiseIf (decide (ringFree c3 < low) && decide (low ≤ ringFree c)) 35)

/-- Ask for a PROGRESS entry; it is filled when it is written. -/
def Chip.askProgress (c : Chip) : Chip := c.journal { typ := 3, payload := [] }

/-- PROGRESS_ENTRY (R371): after a Storage Writer report, at most once every 250 ms; the capsule writes its one entry itself. -/
def execProgressEntry (s : State) : Host.Outcome State Fault Refusal :=
  run (fun c =>
    let early := match c.silo.progAt with
      | some t => decide (c.ns < t + 250000000)
      | none => false
    if !c.silo.reported || early || c.silo.capsule.isSome then c else
    Chip.askProgress { c with silo := { c.silo with reported := false, progAt := some c.ns } }) s

/-- JOURNAL_SPACE_FREED (R374, R375): the oldest kept entry advances, and a waiting write may go on. -/
def execJournalSpaceFreed (s : State) : Host.Outcome State Fault Refusal :=
  run (fun c =>
    (Chip.advanceOldest c.silo.entries.length c).noteFull) s

/-- SILO_CE_READ (R392): a read of SILO_CE returns the count and clears it. -/
def execSiloCeRead (s : State) : Host.Outcome State Fault Refusal :=
  regRun Reg.SILO_CE (fun c => (c.respond (respOk (c.fld Reg.SILO_CE 7 0))).setFld Reg.SILO_CE 7 0 0) s

/-! ### The start-up scan (R384) -/

/-- The entry that begins at grain g of the ring, none where no valid entry begins there (R372). -/
def entryAt (c : Chip) (g : Nat) : Option JEntry :=
  let h := c.rdBytes (siloAddr (64 * g)) 64
  let b : Nat → Nat → Nat := fun i n => leNat ((h.drop i).take n)
  let typ := b 3 1
  if b 0 2 = 0x454A ∧ b 2 1 = 1 ∧ 1 ≤ typ ∧ typ ≤ 5 ∧ b 4 2 = entryGrains typ ∧ g + entryGrains typ < ringGrains then
    let p := c.rdBytes (siloAddr (64 * (g + 1))) (64 * entryGrains typ)
    let bad := (wordsOf (siloAddr (64 * g)) (64 * (entryGrains typ + 1))).any (fun w => c.eccAt w == .double)
    if b 0x3C 4 = crc32c (h.take 0x3C ++ p) ∧ !bad then
      some { jseq := b 8 8, typ := typ, pos := g, grains := entryGrains typ, stream := b 6 1, key := b 0x18 8
             tai := b 0x10 8, nextSeq := b 0x20 8, payload := p }
    else none
  else none

/-- The grains at which an entry may begin: those whose first byte is the first byte of MAGIC. -/
def scanGrains (c : Chip) : List Nat :=
  (c.mem.filter (fun e => decide (0x30000000 ≤ e.1) && decide (e.1 < 0x30600000) && decide (e.1 % 64 = 0) &&
    decide (e.2 = 0x4A))).map (fun e => (e.1 - 0x30000000) / 64)

/-- The valid entries of the ring. -/
def validEntries (c : Chip) : List JEntry := (scanGrains c).filterMap (entryAt c)
/-- The greatest valid JSEQ. -/
def greatestJseq (es : List JEntry) : Nat := es.foldl (fun m e => Nat.max m e.jseq) 0

/-- The run of consecutive JSEQ that ends at `n`, oldest first. -/
def runUpTo (es : List JEntry) : Nat → Nat → List JEntry → List JEntry
  | 0, _, acc => acc
  | fuel + 1, n, acc =>
    match es.find? (fun e => e.jseq == n) with
    | some e => match n with
      | 0 => e :: acc
      | m + 1 => runUpTo es fuel m (e :: acc)
    | none => acc

/-- The journal that a start finds (R384). -/
def foundJournal (c : Chip) : List JEntry :=
  let es := validEntries c
  if es.isEmpty then [] else runUpTo es es.length (greatestJseq es) []

end Sys2Proof.Machine
end

