-- ==== Sys2Proof/Machine/Private.lean ====
section
/-!
DEFINITION. What the Seal Unit keeps for ever: the OTP (R337, R338), and the private region of the Silo, whose records are
sealed with AES-256-GCM under a key derived from the DUS at each start (R333, R336, R339, R344, R370).
-/
namespace Sys2Proof.Machine

/-! ### The OTP -/

/-- n bytes of the OTP. -/
def otpBytes (c : Chip) (off n : Nat) : List Byte := (List.range n).map (fun i => mapGet 0 c.su.otp (off + i))
/-- Program bytes: a bit goes only from 0 to 1 (R337). -/
def Chip.otpProgram (c : Chip) (off : Nat) : List Byte → Chip
  | [] => c
  | b :: t =>
    ({ c with su := { c.su with otp := mapSet 0 c.su.otp off (mapGet 0 c.su.otp off ||| b) } }).otpProgram (off + 1) t
/-- Are bytes blank? -/
def blankBytes (bs : List Byte) : Bool := bs.all (fun b => b == 0)
/-- The lifecycle, as the OTP holds it (R337, R338): the number of its leading groups that are all ones. -/
def lifecycle (c : Chip) : Nat :=
  let g : Nat → Bool := fun i => leNat ((List.range 4).map (fun j => mapGet 0 c.su.otp (4 * i + j))) == 0xFFFFFFFF
  ((List.range 3).filter g).length
/-- Was a manufacture cut off (R353): is the part still BLANK with a field programmed that a manufacture programs? (DEDUCED: log 148) -/
def manufactureCut (c : Chip) : Bool :=
  decide (lifecycle c = 0) && !(blankBytes (otpBytes c 0x10 80) && blankBytes (otpBytes c 0x2A8 64))
/-- Does the OTP pass the check of R344 step 3 (R337, R353, R362)? -/
def otpGood (c : Chip) : Bool := c.su.otpEcc.all (fun e => decide (e.2 ≠ Ecc.double)) && !manufactureCut c

/-! ### The private region -/

/-- The first 32 bytes of an HMAC. -/
def mac32 (key msg : List Byte) : List Byte := (leBytes 64 (Config.hmac512 key msg).toNat).take 32
/-- Derive the private region's key from the DUS (R336). -/
def Chip.deriveKey (c : Chip) : Chip :=
  { c with su := { c.su with
    regionKey := mac32 (otpBytes c 0x20 32) [0x53, 0x4C, 0x4E, 0x2D, 0x53, 0x49, 0x4C, 0x4F] } }
/-- In how many copies a record is kept: a monotonic counter in 8 (R370). -/
def recordCopies (kind : Nat) : Nat := if kind < 8 then 8 else 1
/-- The IV of write `serial` of a record, which no rule gives. -/
def recordIv (kind serial : Nat) : List Byte := leBytes 12 (Config.recordIv kind serial).toNat
/-- Bytes under the key stream of a key and an IV: encryption and decryption alike. -/
def gcmCrypt (key iv bytes : List Byte) : List Byte :=
  (List.range bytes.length).map (fun i => listGet 0 bytes i ^^^ Config.gcmStream key iv i)
/-- Seal bytes as write `serial` of a record. -/
def sealCopy (key : List Byte) (kind serial : Nat) (bytes : List Byte) : PrivCopy :=
  let iv := recordIv kind serial
  let body := gcmCrypt key iv bytes
  { serial := serial, body := body, tag := Config.gcmTag key iv [] body }
/-- The bytes of a copy, none where it does not authenticate. -/
def openCopy (key : List Byte) (kind : Nat) (x : PrivCopy) : Option (List Byte) :=
  let iv := recordIv kind x.serial
  if Config.gcmTag key iv [] x.body = x.tag then some (gcmCrypt key iv x.body) else none
/-- The Silo offset of copy k of a record of n bytes: the copies follow each other in whole grains. (DESIGN CHOICE: log 63) -/
def copyOffset (kind k n : Nat) : Nat := 0x7C0000 + (4096 * (Config.recordBlock kind).toNat + 64 * ((n + 63) / 64) * k) % 0x40000
/-- The words of a copy. -/
def copyWords (kind k n : Nat) : List Nat := wordsOf (siloAddr (copyOffset kind k n)) n
/-- Write n bytes of copy k of a record: each grain counts in its 4 KiB block (R370), and the words have good check bits (R369). -/
def Chip.copyPut (c : Chip) (kind k n : Nat) : Chip :=
  let c1 := (List.range ((n + 63) / 64)).foldl (fun d i => d.siloWear (copyOffset kind k n + 64 * i)) c
  { c1 with ecc := c1.ecc.filter (fun e => !(copyWords kind k n).contains e.1) }
/-- Does a copy hold a double-bit error (R369)? -/
def copyBad (c : Chip) (kind : Nat) (e : Nat × PrivCopy) : Bool :=
  (copyWords kind e.1 e.2.body.length).any (fun w => c.eccAt w == .double)
/-- Write a record of the private region: the copy next in turn takes it (R339, R370). -/
def Chip.putRecord (c : Chip) (kind : Nat) (bytes : List Byte) : Chip :=
  let r := mapGet {} c.su.records kind
  let x := sealCopy c.su.regionKey kind r.writes bytes
  let new : PrivRecord := { copies := mapInsert (r.writes % recordCopies kind) x (mapErase (r.writes % recordCopies kind) r.copies)
                            writes := r.writes + 1 }
  ({ c with su := { c.su with records := mapInsert kind new (mapErase kind c.su.records) } }).copyPut kind (r.writes % recordCopies kind)
    bytes.length
/-- Read a record: the valid copy written last (R369, R370); none where no copy authenticates. -/
def readRecord (c : Chip) (kind : Nat) (r : PrivRecord) : Option (List Byte) :=
  let valid := (r.copies.filter (fun e => !copyBad c kind e)).filterMap (fun e => (openCopy c.su.regionKey kind e.2).map (fun b => (e.2.serial, b)))
  (valid.foldl (fun (m : Option (Nat × List Byte)) x => match m with
    | some y => if y.1 < x.1 then some x else some y
    | none => some x) none).map Prod.snd
/-- The plain bytes of a record of the region, none where there is no such record. -/
def recordBytes (c : Chip) (kind : Nat) : Option (List Byte) :=
  (c.su.records.find? (fun e => e.1 == kind)).bind (fun e => readRecord c kind e.2)
/-- Does every record of the region authenticate (R362)? -/
def regionGood (c : Chip) : Bool := c.su.records.all (fun e => (readRecord c e.1 e.2).isSome)
/-- The words of every copy as the region is read: single errors are corrected, double ones told of (R369). -/
def Chip.checkRegion (c : Chip) : Chip :=
  (c.siloCheckWords ((c.su.records.flatMap (fun r => r.2.copies.flatMap (fun e => copyWords r.1 e.1 e.2.body.length))).filter
    (fun w => decide (c.eccAt w ≠ .good)))).2
/-- Take the region's records into private SRAM (R344 step 3). Records 0 to 7 are the counters; then the DIK, the DEK, the FAS and the
certificates of the DEK and the DIK. -/
def Chip.loadRegion (c0 : Chip) : Chip :=
  let c := c0.checkRegion
  { c with su := { c.su with priv :=
    { ctrs := (List.range 8).map (fun k => leNat ((recordBytes c k).getD [])), dik := recordBytes c 8, dek := recordBytes c 9
      fas := recordBytes c 10, dekCert := recordBytes c 11, dikCert := recordBytes c 12 } } }

/-- Counter k. -/
def sealCounter (c : Chip) (k : Nat) : Nat := listGet 0 c.su.priv.ctrs k
/-- Set counter k, one atomic write (R339). -/
def Chip.setCounter (c : Chip) (k v : Nat) : Chip :=
  ({ c with su := { c.su with priv := { c.su.priv with ctrs := listSet c.su.priv.ctrs k v } } }).putRecord k (leBytes 8 v)
/-- Put a key pair, the FAS or a certificate into the region (R336, R354, R356). -/
def Chip.setRecord (c : Chip) (kind : Nat) (bytes : List Byte) : Chip :=
  let p := c.su.priv
  let q : PrivateRegion := match kind with
    | 8 => { p with dik := some bytes }
    | 9 => { p with dek := some bytes }
    | 10 => { p with fas := some bytes }
    | 11 => { p with dekCert := some bytes }
    | 12 => { p with dikCert := some bytes }
    | _ => p
  ({ c with su := { c.su with priv := q } }).putRecord kind bytes
/-- Overwrite a record, so that nothing of it is left (R356 step 4, R364 step 3). -/
def Chip.dropRecord (c : Chip) (kind : Nat) : Chip :=
  (mapGet {} c.su.records kind).copies.foldl (fun d e => d.copyPut kind e.1 e.2.body.length)
    { c with su := { c.su with records := mapErase kind c.su.records } }

end Sys2Proof.Machine
end

