-- ==== Sys2Proof/Machine/Frames.lean ====
section
/-!
DEFINITION. The geometry of captured frames (R279 to R282), the Merkle rule (R302), and where sheaves take frames,
pictures and conditions in (R312 to R317, R325).
-/
namespace Sys2Proof.Machine

/-! ### Geometry (R280 to R282) -/

/-- Word i of a frame's sampled configuration: CAP_SCTL, SSIZE, SPAGE, SPIPE, SCHAIN0, SCHAIN1, SHASH, STPL. -/
def capCfg (cfg : List Nat) (i hi lo : Nat) : Nat := natBits (listGet 0 cfg i) hi lo
/-- WIDTH. -/
def capWidth (cfg : List Nat) : Nat := capCfg cfg 1 12 0
/-- HEIGHT. -/
def capHeight (cfg : List Nat) : Nat := capCfg cfg 1 28 16
/-- W64 (R280). -/
def capW64 (cfg : List Nat) : Nat := (capWidth cfg + 63) / 64
/-- H64 (R280). -/
def capH64 (cfg : List Nat) : Nat := (capHeight cfg + 63) / 64
/-- L, the leaves of a tile (R281). -/
def capLeaves (cfg : List Nat) : Nat := 5 + capCfg cfg 0 23 22
/-- The planes of the pixel value, b of R281; 16 under YUV422. -/
def capPlanes (cfg : List Nat) : Nat := 10 + 2 * capCfg cfg 0 23 22
/-- A of R282. -/
def capA (s : Nat) (cfg : List Nat) : Nat := (capW64 cfg - 1 + s % 16) / 16 + 1
/-- P of R282. -/
def capP (s : Nat) (cfg : List Nat) : Nat := capA s cfg * ((capH64 cfg + 15) / 16)
/-- The loft of tile (cx, cy) of stream s (R282), which is its PIPE HOME. -/
def capLoft (s cx cy : Nat) : Nat := 16 * (cy % 16) + (cx + s % 16) % 16
/-- The LPAGE of tile (cx, cy) in slot k (R282). -/
def capLpage (s : Nat) (cfg : List Nat) (k cx cy : Nat) : Nat :=
  capCfg cfg 2 11 0 + k * capP s cfg + (cy / 16) * capA s cfg + (cx + s % 16) / 16
/-- The common-view address of byte `off` of a loft page (R28, R286). -/
def pageCommon (loft lpage off : Nat) : Nat :=
  0x800000000 + (lpage * 4 + off / 4096) * 0x100000 + loft * 4096 + off % 4096
/-- The common-view address of byte `off` of the raw page of tile i of a frame, tiles in the order of R303. -/
def rawAddr (f : CapFrame) (i off : Nat) : Nat :=
  let w := capW64 f.cfg
  pageCommon (capLoft f.stream (i % w) (i / w)) (capLpage f.stream f.cfg f.slot (i % w) (i / w)) off

/-- Read bytes for the Seal Unit's evidence port; the spec does not say what it sees of bytes that cannot be read. -/
def Chip.evidenceRead (c : Chip) (a n : Nat) : List Byte × Chip :=
  let r := c.blockRead a n
  match r.1 with
  | some bs => (bs, r.2)
  | none => r.2.drawBytes n

/-! ### Hashes (R302) -/

/-- The 64 bytes of a digest. -/
def hashBytes (h : BitVec 512) : List Byte := leBytes 64 h.toNat
/-- SHA-512 as bytes. -/
def sha (bs : List Byte) : List Byte := hashBytes (Config.sha512 bs)
/-- One level of the tree. -/
def merkleLevel : List (List Byte) → List (List Byte)
  | a :: b :: rest => sha (1 :: (a ++ b)) :: merkleLevel rest
  | l => l
/-- merkle() (R302); the fuel is the list's length. -/
def merkleAux : Nat → List (List Byte) → List Byte
  | _, [] => List.replicate 64 0
  | _, [x] => x
  | 0, x :: _ => x
  | fuel + 1, l => merkleAux fuel (merkleLevel l)
/-- merkle() of a list of 64-byte values (R302). -/
def merkle (l : List (List Byte)) : List Byte := merkleAux l.length l

/-! ### The Seal Unit's state -/

/-- SEAL_STATE.STATE: 0 SELFTEST, 1 BOOT, 2 OPERATIONAL, 3 ERROR, 4 ZEROISED (R365). -/
def sealState (c : Chip) : Nat := c.fld Reg.SEAL_STATE 31 28
/-- Does the Seal Unit take frames and seal (R338, R362)? -/
def sealTakes (c : Chip) : Bool := c.isOn .sealUnit && lifecycle c == 2 && (sealState c == 1 || sealState c == 2)

/-- Session i goes. Where it was open its open transaction is aborted (R440), the Ethernet debug port returns to level 0
(R536), and EV234 tells of the close (R466). -/
def Chip.dropSession (c : Chip) (i : Nat) : Chip :=
  let was := c.su.sessions.any (fun e => e.1 == i && e.2.isOpen)
  let c1 := { c with su := { c.su with sessions := mapErase i c.su.sessions } }
  if !was then c1 else
  let mine := decide (c.silo.txOwner = some i) && decide (c.fld Reg.SILO_TXSTAT 31 30 = 1)
  let c2 := if mine then
      { (c1.setFld Reg.SILO_TXSTAT 31 30 0).setFld Reg.SILO_TXSTAT 12 0 0 with silo := { c1.silo with txOwner := none } }
    else c1
  Chip.raise { c2 with dbg := { c2.dbg with ports := c2.dbg.ports.map (fun e => if e.1 = 2 then (2, { e.2 with level := 0, verify := none }) else e) } } 234
/-- Every session goes. -/
def Chip.dropSessions (c : Chip) : Chip := c.su.sessions.foldl (fun (d : Chip) (e : Nat × Session) => d.dropSession e.1) c

/-- PREV of a stream's next journaled record (R316): what its first waiting record carries, else the hash of the last record. -/
def journaledHash (c : Chip) (s : Nat) : Option (List Byte) :=
  match c.silo.waiting.find? (fun w => decide (w.typ = 1) && decide (w.stream = s)) with
  | some w => some (w.payload.drop 0xC0)
  | none => (c.ev.prevHash.find? (fun e => e.1 == s)).map Prod.snd
/-- The records of the Seal Unit that are not journaled are lost: each stream's chain stands where the journal has it, so that no SEQ is
left out (R320, R362). (DEDUCED: log 149) -/
def Chip.dropUnjournaled (c : Chip) : Chip :=
  { c with
    ev := { c.ev with
      nextSeq := (List.range 32).foldl (fun m s => mapSet 0 m s (journaledSeq c s)) c.ev.nextSeq
      prevHash := (List.range 32).filterMap (fun s => (journaledHash c s).map (fun h => (s, h)))
      signing := none, due := false, staged := [] }
    silo := { c.silo with waiting := c.silo.waiting.filter (fun w => decide (w.typ ≠ 1) && decide (w.typ ≠ 2)) } }

/-- A command under way whose remaining work is cut off answers a status that says so; GET_INFO still answers (R362, R364). -/
def Mailbox.cut (a : Bool) (st : Nat) (m : Mailbox) : Mailbox :=
  if a && decide (m.op = 0x01) then m else { m with later := .nothing, answer := some (st, []) }
/-- What the Seal Unit has under way does not go on (R362, R364): the commands of both channels answer the status, and a
microcode load ends failed with its region empty. (DESIGN CHOICE: log 166) -/
def Chip.cutCommands (c : Chip) (st : Nat) : Chip :=
  let vendor := match c.su.boxA with
    | some m => match m.later with
      | .payload _ h => decide (leNat ((h.drop 3).take 1) = 2)
      | _ => false
    | none => false
  let c1 := if vendor then c.setFld Reg.ASQ_LOAD_STAT 3 0 3 else c
  { c1 with
    su := { c1.su with
      boxA := c1.su.boxA.map (Mailbox.cut true st), boxB := c1.su.boxB.map (Mailbox.cut false st)
      load := c1.su.load.map (fun l => { l with status := 3, verdict := st }) } }

/-- Enter the error state with a code (R362): EV16; nothing is signed or journaled, sessions close, and every command but GET_INFO
returns ERROR_STATE. -/
def Chip.sealError (c : Chip) (code : Nat) : Chip :=
  if sealState c = 3 ∨ sealState c = 4 then c else
  let c1 := (c.setFld Reg.SEAL_STATE 31 28 3).setFld Reg.SEAL_STATE 23 16 code
  Chip.raise ((c1.dropSessions.dropUnjournaled.cutCommands 0x12).noteFull) 16

/-- Is something of a zeroisation undone (R364): a key of the OTP, or a record of a key? -/
def zeroiseLeft (c : Chip) : Bool :=
  (otpBytes c 0x20 64).any (fun b => b ≠ 0xFF) || c.su.records.any (fun e => decide (8 ≤ e.1) && decide (e.1 ≤ 10))
/-- The evidence flow's part of the private SRAM is cleared; what the journal shows of the chain stays (R364). -/
def clearedEvidence (x : Evidence) : Evidence :=
  { nextSeq := x.nextSeq, prevHash := x.prevHash, covered := x.covered, sysCov := x.sysCov, stookCtr := x.stookCtr
    stookHash := x.stookHash, sheafLog := x.sheafLog, released := x.released }
/-- Zeroisation (R364), its steps in order: the lifecycle, the OTP keys, the key records and the FAS, the private SRAM with the session
keys, and the end with EV26. The counters, which are kept, are sealed again under the key that the new DUS gives. (DEDUCED: log 156) -/
def Chip.zeroise (c : Chip) (hard : Bool) : Chip :=
  let c0 := if c.su.regionKey.isEmpty then c.deriveKey.loadRegion else c
  let kept := (List.range 8).filter (fun k => (recordBytes c0 k).isSome)
  let c1 := ((c0.otpProgram 0 (List.replicate 12 0xFF)).otpProgram 0x20 (List.replicate 64 0xFF))
  let c2 := (c1.setFld Reg.SEAL_STATE 31 28 4).setFld Reg.SEAL_STATE 23 16 (if hard then 7 else c1.fld Reg.SEAL_STATE 23 16)
  let c3 := (((c2.dropSessions.dropUnjournaled.dropRecord 8).dropRecord 9).dropRecord 10).deriveKey
  let c4 := kept.foldl (fun (d : Chip) k => d.setCounter k (sealCounter c0 k)) c3
  ({ c4 with
    su := { c4.su with priv := { c4.su.priv with dik := none, dek := none, fas := none }, fails := 0, lockedAt := none
                       loaded := [], vehicle := none }
    ev := clearedEvidence c4.ev }).cutCommands 0x14 |>.raise 26

/-- Are new sheaves and periodic stooks held (R326): through BOOT, and in RECOVERY until the recovery stook is signed? (DEDUCED: log 150) -/
def sealHeld (c : Chip) : Bool :=
  decide (c.fld Reg.SYS_MODE 15 8 = 1) || (decide (c.fld Reg.SYS_MODE 15 8 = 2) && !c.ev.recovered)
/-- The mode that a record carries (R319): SYS_MODE's, and in a phase, for which R319 has no code, a free one of the codes. (DESIGN CHOICE: log 151) -/
def Chip.recordMode (c : Chip) : Nat × Chip :=
  if c.fld Reg.SYS_MODE 7 0 < 6 then (c.fld Reg.SYS_MODE 7 0, c) else
  let q := c.drawFree
  (q.1.toNat % 6, q.2)

/-! ### Sheaves (R312 to R318) -/

/-- The conditions of FLAGS that hold now for every stream (R317): INCIDENT, TIME_HOLDOVER, TAINT. -/
def flagsNow (c : Chip) : Nat :=
  (if c.fld Reg.SYS_MODE 7 0 = 3 then 1 else 0) + (if c.fld Reg.TIME_STAT 31 30 = 2 then 0 else 4) +
    (if c.bit Reg.DBG_AON 31 then 2048 else 0)
/-- Set FLAGS bits in the open sheaves of the streams that satisfy a condition, and note them for the sheaf that a frame now arriving
may begin, whose START_TAI is that frame's (R312, R317). (DESIGN CHOICE: log 101) -/
def Chip.markSheaves (c : Chip) (sel : Nat → Bool) (bits : Nat) : Chip :=
  { c with
    ev := { c.ev with sheaves := c.ev.sheaves.map (fun x => if sel x.stream then { x with flags := x.flags ||| bits } else x) }
    cap := { c.cap with frames := c.cap.frames.map (fun f =>
      if sel f.stream && !f.ended then { f with flags := f.flags ||| bits } else f) } }
/-- Change the open sheaves of a stream that satisfy a condition. -/
def Chip.onSheaf (c : Chip) (sel : Sheaf → Bool) (f : Sheaf → Sheaf) : Chip :=
  { c with ev := { c.ev with sheaves := c.ev.sheaves.map (fun x => if sel x then f x else x) } }
/-- The conditions that hold now are noted in every open sheaf (R317: a bit is set when its condition held at any
moment). -/
def Chip.noteFlags (c : Chip) : Chip := c.markSheaves (fun _ => true) (flagsNow c)

/-- The video sheaf of a stream that still gathers frames. -/
def gathering (c : Chip) (s : Nat) : Option Sheaf :=
  c.ev.sheaves.find? (fun x => decide (x.stream = s) && !x.still && x.complete.isNone)
/-- Is this the gathering video sheaf of stream s? -/
def isGathering (s : Nat) (x : Sheaf) : Bool := decide (x.stream = s) && !x.still && x.complete.isNone

/-- Is a sheaf's frame the captured frame f? A stream that is enabled again numbers its frames anew (R286), so START_TAI tells too. -/
def ofFrame (f : CapFrame) (g : SheafFrame) : Bool := decide (g.frame = f.frame) && decide (g.startTai = f.startTai) && !g.dropped
/-- A condition of one frame is noted in every open sheaf that holds it, its still among them, and in its root (R315, R317). -/
def Chip.markFrame (c : Chip) (f : CapFrame) (bits : Nat) : Chip :=
  let s := f.stream
  let put : SheafFrame → SheafFrame := fun g => if ofFrame f g then { g with flags := g.flags ||| bits } else g
  let c1 := c.onSheaf (fun x => decide (x.stream = s) && x.frames.any (ofFrame f))
    (fun x => { x with flags := x.flags ||| bits, frames := x.frames.map put })
  { c1 with ev := { c1.ev with roots := c1.ev.roots.map (fun r => if r.1 = s then (r.1, r.2.1, put r.2.2) else r) } }

/-- A sheaf takes bytes that pass the port (R314): IRAP_START where its first picture has IRAP = 1 (R317). -/
def takeBytes (x : Sheaf) (b : PortChunk) : Sheaf :=
  { x with
    data := x.data ++ b.bytes
    pics := x.pics + b.first.toNat
    flags := if x.pics = 0 ∧ b.first ∧ b.irap then x.flags ||| 4096 else x.flags }

/-- Open a sheaf for a frame of stream s that starts at startTai (R312): it takes in the drops, the pictures dropped by the
packer (R292) and the stray bytes that waited for it (R314). -/
def Chip.openSheaf (c : Chip) (s frame startTai : Nat) : Chip :=
  let drops := (c.ev.waitDrop.filter (fun d => decide (d.1 = s))).map (fun d => { frame := d.2, dropped := true : SheafFrame })
  let strays := c.ev.stray.filter (fun d => decide (d.stream = s))
  let gone : Nat × Nat → Bool := fun e => decide (e.1 = s) && decide (e.2 ≠ frame) &&
    !c.cap.frames.any (fun f => decide (f.stream = s) && decide (f.frame = e.2) && !f.ended)
  let x : Sheaf :=
    { stream := s, len := odNat c 0x3100 0, startTai := startTai, frames := drops
      dropCode := (c.ev.waitLost.filter gone).length
      flags := flagsNow c ||| (if strays.isEmpty then 0 else 1024) }
  { c with ev := { c.ev with
    sheaves := c.ev.sheaves ++ [strays.foldl takeBytes x]
    waitDrop := c.ev.waitDrop.filter (fun d => decide (d.1 ≠ s))
    waitLost := c.ev.waitLost.filter (fun e => !gone e)
    stray := c.ev.stray.filter (fun d => decide (d.stream ≠ s)) } }

/-- FIRST_FRAME and NFRAMES of a sheaf (R316). -/
def sheafRange (x : Sheaf) : Nat × Nat :=
  match x.frames with
  | [] => (0, 0)
  | f :: rest =>
    let lo := rest.foldl (fun m g => Nat.min m g.frame) f.frame
    let hi := rest.foldl (fun m g => Nat.max m g.frame) f.frame
    (lo, hi + 1 - lo)

/-- END_TAI of a sheaf: of the last frame of the range that has one. -/
def sheafEnd (x : Sheaf) : Nat := x.frames.foldl (fun m f => if f.dropped then m else f.endTai) x.startTai

/-- The vehicle fields at offset 0x32 to 0x3F (R316), and whether they are stale. -/
def vehicleFields (c : Chip) : List Byte × Bool :=
  match c.su.vehicle with
  | some v =>
    if c.tai.toNat < v.tai + 1000000000 then
      (leBytes 2 v.speed ++ leBytes 4 v.lat ++ leBytes 4 v.lon ++ leBytes 1 v.doors ++ [0, 0, 0], false)
    else (leBytes 2 0xFFFF ++ leBytes 4 0x80000000 ++ leBytes 4 0x80000000 ++ [0, 0, 0, 0], true)
  | none => (leBytes 2 0xFFFF ++ leBytes 4 0x80000000 ++ leBytes 4 0x80000000 ++ [0, 0, 0, 0], true)

/-- The record of a sheaf (R316) with its SEQ, STATUS, MODE and extra FLAGS. -/
def sheafRecord (c : Chip) (x : Sheaf) (seqNo status mode flags : Nat) : List Byte :=
  let v := vehicleFields c
  let fl := x.flags ||| flags ||| flagsNow c ||| (if v.2 then 8 else 0) ||| (if 0 < x.mismatch then 256 else 0)
  let hashed := x.frames.filterMap (fun f => f.root)
  let r := sheafRange x
  let lost := ((x.frames.filter (fun f => !f.dropped && !f.passed)).length) + x.dropCode
  [0x53, 0x46, 0x01, BitVec.ofNat 8 (x.stream + (if x.still then 32 else 0)),
    BitVec.ofNat 8 (c.deviceNo + 16 * status), BitVec.ofNat 8 mode] ++ leBytes 2 fl ++ leBytes 8 seqNo ++
    leBytes 8 x.startTai ++ leBytes 8 (sheafEnd x) ++ leBytes 4 r.1 ++ leBytes 2 r.2 ++ leBytes 2 hashed.length ++
    leBytes 2 (x.frames.filter (fun f => f.dropped)).length ++ leBytes 2 lost ++ leBytes 4 (stickAt 0xFFFFFFFF x.audited) ++
    leBytes 2 (stickAt 0xFFFF x.mismatch) ++ v.1 ++ merkle (hashed.map hashBytes) ++ sha x.data ++
    (match c.ev.prevHash.find? (fun e => e.1 == x.stream) with
      | some e => e.2
      | none => List.replicate 64 0)

/-- The FRAME_INDEX bytes of a sheaf (R329): FD and TREE_ROOT of each hashed frame. -/
def frameIndex (x : Sheaf) : List Byte := (x.frames.filter (fun f => f.root.isSome)).flatMap (fun f => f.fd ++ f.tree)

/-- Fill a sheaf's record with its SEQ, and send it to the journal (R313, R316, R320): a still has its SEQ already (R315). A frame of the
sheaf that was truncated makes a COMPLETE sheaf TRUNCATED (R318). -/
def Chip.fillRecord (c : Chip) (x : Sheaf) (status flags : Nat) : Chip :=
  let n := x.seqNo.getD (mapGet 0 c.ev.nextSeq x.stream)
  let m := c.recordMode
  let st := if status = 0 ∧ x.flags.testBit 4 then 1 else status
  let r := sheafRecord c x n st m.1 flags
  let d := m.2
  let c1 := { d with ev := { d.ev with
    sheaves := d.ev.sheaves.filter (fun y => decide (y ≠ x))
    nextSeq := if x.seqNo.isSome then d.ev.nextSeq else mapSet 0 d.ev.nextSeq x.stream (n + 1)
    prevHash := mapInsert x.stream (sha r) (mapErase x.stream d.ev.prevHash)
    staged := d.ev.staged ++ [(x.stream, n, x.still, frameIndex x, x.data)] } }
  c1.journal { typ := 1, stream := x.stream, key := n, nextSeq := n + 1, payload := r }

/-- The stills of a stream that took their SEQ before sheaf x takes its own, oldest first: the chain has their records first (R315,
R320). -/
def stillsBefore (c : Chip) (x : Sheaf) : List Sheaf :=
  c.ev.sheaves.filter (fun y => decide (y.stream = x.stream) && decide (y ≠ x) && (match y.seqNo, x.seqNo with
    | some a, some b => decide (a < b)
    | some _, none => true
    | none, _ => false))
/-- Close a sheaf whatever is missing in it, and before it the stills whose SEQ comes first (R313, R325). (DEDUCED: log 48) -/
def Chip.closeSheaf (c : Chip) (x : Sheaf) (status flags : Nat) : Chip :=
  if !sealTakes c then c
  else ((stillsBefore c x).foldl (fun d y => d.fillRecord y (if status = 2 then 2 else y.status) flags) c).fillRecord x status flags

/-- Close a sheaf under the 1,000 ms rule (R313): LATE, EV22. -/
def Chip.closeLate (c : Chip) (x : Sheaf) : Chip := if sealTakes c then (c.closeSheaf x x.status 512).raise 22 else c

/-- The membership of stream s's gathering sheaf is complete (R313); with an earlier sheaf still open, that one is
closed at once, unless closes are held (R326). -/
def Chip.completeSheaf (c : Chip) (s status : Nat) : Chip :=
  match gathering c s with
  | none => c
  | some g =>
    let c1 := match c.ev.sheaves.find? (fun x => decide (x.stream = s) && !x.still && x.complete.isSome) with
      | some old => if sealHeld c then c else c.closeLate old
      | none => c
    c1.onSheaf (fun x => decide (x = g)) (fun x => { x with complete := some c.ns, status := Nat.max x.status status })

/-- A frame of stream s has ended and joins a sheaf (R312). Its early coded bytes go with it (R314), and its stills have its END_TAI
now (R316). -/
def Chip.joinSheaf (c : Chip) (f : CapFrame) : Chip :=
  let s := f.stream
  let begins := match gathering c s with
    | some x => decide (x.startTai + x.len * 1000000 < f.endTai) && x.frames.any (fun g => !g.dropped)
    | none => false
  let c1 := if begins then c.completeSheaf s 0 else c
  let c2 := if (gathering c1 s).isNone then c1.openSheaf s f.frame f.startTai else c1
  let lost := c2.ev.waitLost.contains (s, f.frame)
  let early := c2.ev.early.filter (fun e => decide (e.stream = s) && decide (e.frame = f.frame))
  let fl := (if f.trunc then 16 else 0) + (if f.ovf then 32 else 0) + (if f.length then 64 else 0)
  let fr : SheafFrame := { frame := f.frame, startTai := f.startTai, endTai := f.endTai, lost := lost, flags := fl ||| f.flags
                           passed := early.any (fun b => b.last) }
  let c3 := c2.onSheaf (isGathering s) (fun x => early.foldl takeBytes { x with
    frames := x.frames ++ [fr]
    flags := x.flags ||| fl ||| f.flags
    status := if f.trunc then 1 else x.status })
  let c4 := c3.onSheaf (fun x => decide (x.stream = s) && x.still) (fun x => { x with
    frames := x.frames.map (fun g => if ofFrame f g then { g with endTai := f.endTai } else g) })
  Chip.markFrame { c4 with ev := { c4.ev with
    early := c4.ev.early.filter (fun e => !(decide (e.stream = s) && decide (e.frame = f.frame)))
    waitLost := c4.ev.waitLost.filter (fun e => decide (e ≠ (s, f.frame))) } } f fl

/-- A frame dropped at its frame start joins the open sheaf at that moment (R312), or waits for the next one (R18). -/
def Chip.joinDropped (c : Chip) (s frame : Nat) : Chip :=
  if (gathering c s).isNone then { c with ev := { c.ev with waitDrop := c.ev.waitDrop ++ [(s, frame)] } }
  else c.onSheaf (isGathering s) (fun x => { x with frames := x.frames ++ [{ frame := frame, dropped := true }] })

/-- The packer has dropped a picture of stream s (R292): it counts in DROP_CODE of the sheaf that holds its frame, of the
sheaf that its frame will join, or of the stream's oldest open or next sheaf. -/
def Chip.lostPicture (c : Chip) (s frame : Nat) (still : Bool) : Chip :=
  let holds : Sheaf → Bool := fun x => decide (x.stream = s) && !x.still && x.frames.any (fun g => decide (g.frame = frame))
  if !still && c.ev.sheaves.any holds then
    c.onSheaf holds (fun x => { x with frames := x.frames.map (fun g => if g.frame = frame then { g with lost := true } else g) })
  else if !still && c.cap.frames.any (fun f => decide (f.stream = s) && decide (f.frame = frame) && !f.ended) then
    { c with ev := { c.ev with waitLost := c.ev.waitLost ++ [(s, frame)] } }
  else match c.ev.sheaves.find? (fun x => decide (x.stream = s) && !x.still) with
    | some y => c.onSheaf (fun x => decide (x = y)) (fun x => { x with dropCode := x.dropCode + 1 })
    | none => { c with ev := { c.ev with waitLost := c.ev.waitLost ++ [(s, frame)] } }

/-- The stream has stopped (R313, R318): its gathering sheaf is complete, TRUNCATED when it had not reached LEN. -/
def Chip.stopSheaf (c : Chip) (s : Nat) : Chip :=
  match gathering c s with
  | some x => c.completeSheaf s (if c.tai.toNat < x.startTai + x.len * 1000000 then 1 else 0)
  | none => c

/-- May a sheaf close (R313)? -/
def sheafReady (x : Sheaf) : Bool :=
  x.complete.isSome && x.frames.all (fun f => f.dropped || (f.root.isSome && (x.still || f.passed || f.lost)))

/-- Frames that still arrive are recorded in no sheaf (R325): a still of one is left out whole, and the SEQ that it took goes to the
next still. (DEDUCED: log 178) -/
def Chip.dropArriving (c : Chip) : Chip :=
  let gone : Sheaf → Bool := fun x => x.still && x.frames.any (fun g =>
    c.cap.frames.any (fun f => decide (f.stream = x.stream) && !f.ended && ofFrame f g))
  (c.ev.sheaves.filter gone).foldl (fun (d : Chip) x =>
    let e := { d with ev := { d.ev with sheaves := d.ev.sheaves.filter (fun y => decide (y ≠ x)) } }
    match x.seqNo with
    | none => e
    | some n => Chip.onSheaf { e with ev := { e.ev with nextSeq := mapSet 0 e.ev.nextSeq x.stream (mapGet 0 e.ev.nextSeq x.stream - 1) } }
        (fun y => decide (y.stream = x.stream) && (match y.seqNo with | some k => decide (n < k) | none => false))
        (fun y => { y with seqNo := y.seqNo.map (fun k => k - 1) })) c
/-- The record that the capsule writes for an open sheaf (R325). -/
def Chip.closeLost (c : Chip) (x : Sheaf) : Chip := c.closeSheaf x 2 0

end Sys2Proof.Machine
end

