-- ==== Sys2Proof/Machine/Capture.lean ====
section
/-!
DEFINITION. The capture ports (chapter 11): packets, frames, bands and their contexts, truncation and slot release.
-/
namespace Sys2Proof.Machine

/-! ### Ports and streams -/

/-- The lanes in use of port p (R298). -/
def capLanes (c : Chip) (p : Nat) : Nat :=
  match c.fld (Reg.CAP_PCTLp p) 27 26 with
  | 0 => 1 | 1 => 2 | _ => 4
/-- CFGERR: LMAP names one physical lane twice among the lanes in use (R298). -/
def capCfgErr (c : Chip) (p : Nat) : Bool :=
  let l := (List.range (capLanes c p)).map (fun i => c.fld (Reg.CAP_PCTLp p) (17 + 2 * i) (16 + 2 * i))
  decide (l.eraseDups ≠ l)
/-- Does port p take packets (R287, R298): its receiver is on, and its capture domain has not begun to power down? -/
def portOn (c : Chip) (p : Nat) : Bool := staysOn c (.capture p) && c.bit (Reg.CAP_PCTLp p) 31 && !capCfgErr c p
/-- Is stream s enabled? -/
def streamOn (c : Chip) (s : Nat) : Bool := c.bit (Reg.CAP_SCTL s) 31
/-- The frame of stream s that is arriving. -/
def arriving (c : Chip) (s : Nat) : Option CapFrame := c.cap.frames.find? (fun f => decide (f.stream = s) && !f.ended)
/-- The VC that stream s names for a packet: CAP_SCTL as it is read at a frame-start packet (`start`), and for the other packets of a
frame in progress the VC sampled at that frame's start (R278, R279). (DEDUCED: log 146) -/
def streamVc (c : Chip) (s : Nat) (start : Bool) : Nat :=
  match arriving c s with
  | some f => if start then c.fld (Reg.CAP_SCTL s) 27 24 else capCfg f.cfg 0 27 24
  | none => c.fld (Reg.CAP_SCTL s) 27 24
/-- The stream of port p that takes a VC: the lowest-numbered enabled one that names it (R278). -/
def streamOfVc (c : Chip) (p vc : Nat) (start : Bool) : Option Nat :=
  [4 * p, 4 * p + 1, 4 * p + 2, 4 * p + 3].find? (fun s => streamOn c s && decide (streamVc c s start = vc))

/-- A port's record of a stream. -/
def capStream (c : Chip) (s : Nat) : CapStream := mapGet {} c.cap.streams s
/-- Set it. -/
def Chip.setCapStream (c : Chip) (s : Nat) (x : CapStream) : Chip :=
  { c with cap := { c.cap with streams := mapSet {} c.cap.streams s x } }

/-- Count a header or payload error of port p (R278, R301): EV136 + p when the count goes from 0 to 1. -/
def Chip.phyErr (c : Chip) (p hi lo : Nat) : Chip :=
  (c.countFld (Reg.CAP_PSTATp p) hi lo 1).raiseIf (c.fld (Reg.CAP_PSTATp p) hi lo == 0) (136 + p)

/-- A packet arrives at port p (R278, R298): SYNC, and what the header's ECC finds. Answers the stream that takes the
packet, none where the packet is discarded. -/
def Chip.packetIn (c : Chip) (p vc : Nat) (hdr : Ecc) (start : Bool) : Option Nat × Chip :=
  if !portOn c p then (none, c) else
  let c1 := c.setBit (Reg.CAP_PSTATp p) 31 true
  match hdr with
  | .good => (streamOfVc c1 p vc start, c1)
  | .single => (streamOfVc c1 p vc start, c1.phyErr p 15 8)
  | .double => (none, c1.phyErr p 15 8)

/-! ### The frames that hold slots -/

/-- Change the frame of stream s that is arriving. -/
def Chip.onArriving (c : Chip) (s : Nat) (g : CapFrame → CapFrame) : Chip :=
  { c with cap := { c.cap with
    frames := c.cap.frames.map (fun f => if decide (f.stream = s) && !f.ended then g f else f) } }
/-- Replace one frame. -/
def Chip.putFrame (c : Chip) (old new : CapFrame) : Chip :=
  { c with cap := { c.cap with frames := c.cap.frames.map (fun f => if f = old then new else f) } }

/-- Bit x of plane i of a pixel (R281): RAW pixels are values of b bits; under YUV422 Y is in the low byte and the chroma
sample that belongs to the pixel's column in the high byte. -/
def pixelBit (cfg : List Nat) (i pixel : Nat) : Bool := decide (i < capPlanes cfg) && pixel.testBit i

/-- The 8 bytes of plane i of tile column cx in one line. -/
def linePlane (cfg : List Nat) (pixels : List Nat) (cx i : Nat) : List Byte :=
  let w := (pixels.take (capWidth cfg)).drop (64 * cx)
  leBytes 8 (bitsOfFn (fun x => pixelBit cfg i (listGet 0 w x)) 64)

/-- The pixels of line n of a frame: those in the port's buffer, none for a line that was lost or never came (R284,
R285) or lies beyond HEIGHT (R280). -/
def linePixels (f : CapFrame) (n : Nat) : List Nat :=
  if capHeight f.cfg ≤ n then [] else
  match f.buf.find? (fun e => e.1 == n) with
  | some e => e.2
  | none => []

/-- Write group g of 8 lines of a frame: one 64-byte write for each plane of each tile (R281, R282, R284). (DESIGN CHOICE: log 51) -/
def Chip.writeGroup (c : Chip) (f : CapFrame) (g : Nat) : Chip :=
  let w := capW64 f.cfg
  let cy := g / 8
  (List.range w).foldl (fun c cx =>
    (List.range 32).foldl (fun c i =>
      let bytes := (List.range 8).flatMap (fun y => linePlane f.cfg (linePixels f (8 * g + y)) cx i)
      (c.blockStore (rawAddr f (w * cy + cx) (512 * i + 64 * (g % 8))) bytes).2) c) c

/-- The groups of a frame that can be written: all of them once its last line has come, or the frame has ended. -/
def groupsReady (f : CapFrame) : Nat :=
  if f.ended || decide (capHeight f.cfg ≤ f.lines) then 8 * capH64 f.cfg else f.lines / 8

/-- Write every group that can be written, and free its lines in the buffer. -/
def Chip.drainFrame (c : Chip) (f : CapFrame) : Chip :=
  let n := groupsReady f
  let c1 := (List.range n).foldl (fun c g => if f.written ≤ g then c.writeGroup f g else c) c
  c1.putFrame f { f with written := Nat.max f.written n, buf := f.buf.filter (fun e => decide (8 * n ≤ e.1)) }

/-- The bands whose last line has arrived. -/
def bandsReady (f : CapFrame) : Nat :=
  if f.ended || decide (capHeight f.cfg ≤ f.lines) then capH64 f.cfg else f.lines / 64

/-- Note the TAI of the bands whose last line has now arrived (R167). -/
def noteBands (tai : Nat) (f : CapFrame) : CapFrame :=
  { f with bandTai := f.bandTai ++ List.replicate (bandsReady f - f.bandTai.length) tai }

/-! ### Contexts (R167, R286) -/

/-- PCOUNT of the page template (R286): 0 acts as 1, values above 128 act as 128. -/
def tplCount (cfg : List Nat) (isPipe : Bool) : Nat :=
  Nat.min 128 (Nat.max 1 (if isPipe then capCfg cfg 7 15 8 else capCfg cfg 7 7 0))

/-- HOME of a tile's context (R167), before rehoming. -/
def capHome (s cx cy : Nat) (isPipe : Bool) : Nat :=
  if isPipe then 16 * (cy % 16) + (cx + s) % 16 else 16 * ((cy + 8) % 16) + (cx + s + 8) % 16

/-- The page-map block of capture context n (R165). -/
def capPmapAddr (c : Chip) (n : Nat) : Nat :=
  c.fld Reg.GRN_CAPMAP 15 0 * 2 ^ 24 + 512 * (n - c.fld Reg.GRN_CAPFIRST 17 0)

/-- Create one context of tile i of a frame as READY (R167, R286); its user words reach the descriptor in memory. BOUND and USER0 have no value that a rule states:
free values. (DESIGN CHOICE: log 26) -/
def Chip.createCtx (c : Chip) (f : CapFrame) (i n : Nat) (isPipe : Bool) : Chip :=
  let w := capW64 f.cfg
  let cx := i % w
  let cy := i / w
  let s := f.stream
  let pages := mapGet [] c.grn.reserved n
  let reg := if isPipe then listGet 0 f.cfg 3 else listGet 0 f.cfg 6
  let pc := tplCount f.cfg isPipe
  let lpage := capLpage s f.cfg f.slot cx cy
  let pm := (2 ^ 31 + capLoft s cx cy * 4096 + lpage) :: (pages.take (pc - 1)).map (fun p => 2 ^ 31 + 2 ^ 27 + 2 ^ 26 + p)
  let dl := listGet 0 f.bandTai cy + 1000 * capCfg f.cfg 0 15 0
  let user1 := rawAddr f i 0
  let a := capPmapAddr c n
  let q := c.drawFree
  let b := q.2.drawFree
  let x : Ctx :=
    { state := 2
      desc := [0x86 * 2 ^ 24 + natBits reg 31 30 * 2 ^ 22 + 2 * 2 ^ 18 + n,
        b.1.toNat % 256 * 2 ^ 24 + rehome c (capHome s cx cy isPipe) * 2 ^ 16 + natBits reg 9 0,
        a % 2 ^ 32, pc * 2 ^ 8 + a / 2 ^ 32, dl % 2 ^ 32, dl / 2 ^ 32 % 2 ^ 16,
        cy * 2 ^ 11 + cx * 2 ^ 5 + s, f.frame,
        if isPipe then listGet 0 f.cfg 4 else 0,
        if isPipe then natBits reg 25 23 * 2 ^ 28 + listGet 0 f.cfg 5 else 0,
        user1 % 2 ^ 32, user1 / 2 ^ 32, q.1.toNat % 2 ^ 32, q.1.toNat / 2 ^ 32, natBits reg 29 26,
        f.frame % 2 ^ 16 * 2 ^ 16 + 64 * cy + cx]
      pmap := listFit 0 128 pm }
  let c1 := { b.2 with grn := { b.2.grn with reserved := mapSet [] b.2.grn.reserved n [] } }
  (((c1.blockWrite a (x.pmap.flatMap (leBytes 4))).2).putCtx n x).putUser n

/-- Create the contexts of a frame's next band (R284, R286). -/
def Chip.createBand (c : Chip) (f : CapFrame) : Chip :=
  let w := capW64 f.cfg
  let c1 := (List.range w).foldl (fun c cx =>
    let i := w * f.band + cx
    let p := listGet (0, 0) f.ids i
    (c.createCtx f i p.1 false).createCtx f i p.2 true) c
  c1.putFrame f { f with band := f.band + 1 }

/-- Complete the remaining ready bands of the frame in stream s's slot, at most `fuel` of them. -/
def Chip.completeBands (c : Chip) (s slot : Nat) : Nat → Chip
  | 0 => c
  | fuel + 1 =>
    match c.cap.frames.find? (fun f => decide (f.stream = s) && decide (f.slot = slot) && decide (f.band < bandsReady f)) with
    | some f => (c.createBand f).completeBands s slot fuel
    | none => c

/-! ### The end of a frame -/

/-- End stream s's arriving frame now (R285, R287): ACTIVE falls, its remaining lines count as 0, and it joins its
stream's sheaf (R312). -/
def Chip.endFrame (c : Chip) (s : Nat) (trunc : Bool) : Chip :=
  match arriving c s with
  | none => c
  | some f =>
    let f1 := { f with ended := true, endTai := c.tai.toNat, trunc := trunc
                       length := f.length || (!trunc && decide (f.lines < capHeight f.cfg)) }
    let f2 := noteBands c.tai.toNat f1
    ((c.putFrame f f2).setBit (Reg.CAP_SSTAT s) 31 false).joinSheaf f2

/-- FRAME_END (R285). -/
def execFrameEnd (p : Fin 8) (vc : Fin 16) (hdr : Ecc) (s : State) : Host.Outcome State Fault Refusal :=
  run (fun c =>
    let r := c.packetIn p.val vc.val hdr false
    match r.1 with
    | some st => r.2.endFrame st false
    | none => r.2) s

/-! ### The start of a frame (R18, R166, R279, R283) -/

/-- Does a configuration keep the limits of R279? -/
def capCfgOk (c : Chip) (s : Nat) (cfg : List Nat) : Bool :=
  let w := capWidth cfg
  let h := capHeight cfg
  let n := capCfg cfg 0 21 18
  let len := capCfg cfg 3 25 23
  let ks := [capCfg cfg 3 9 0, capCfg cfg 6 9 0] ++
    [capCfg cfg 4 9 0, capCfg cfg 4 25 16, capCfg cfg 5 9 0, capCfg cfg 5 25 16].take len
  decide (w % 8 = 0) && decide (h % 8 = 0) && decide (256 ≤ w) && decide (w ≤ 4096) && decide (128 ≤ h) &&
    decide (h ≤ 2304) && decide (w * h ≤ 8912896) && decide (1 ≤ n) &&
    decide (capCfg cfg 2 11 0 + n * capP s cfg ≤ 64 * c.fld Reg.DRC_CTL 6 0) && decide (len ≤ 4) &&
    ks.all (fun k => kernelValid c k)

/-- The capture IDs that are not free (R165, R166): reserved, or of a context that is not FREE. -/
def capTaken (c : Chip) : List Nat :=
  (ctxsWhere c (fun x => decide (x.state ≠ 0))).filter (fun n => decide (c.fld Reg.GRN_CAPFIRST 17 0 ≤ n)) ++
    c.grn.reserved.map Prod.fst
/-- The number of free capture IDs. -/
def capFree (c : Chip) : Nat := 0x40000 - c.fld Reg.GRN_CAPFIRST 17 0 - (capTaken c).length

/-- Take n free capture IDs; which of them is the Granary's to choose: free values. (DESIGN CHOICE: log 26) -/
def Chip.takeIds (c : Chip) (taken : List Nat) : Nat → List Nat × Chip
  | 0 => ([], c)
  | n + 1 =>
    let first := c.fld Reg.GRN_CAPFIRST 17 0
    let q := c.drawFree
    let id := nthFree taken 0x40000 (q.1.toNat % (0x40000 - first - taken.length)) first
    let r := q.2.takeIds (id :: taken) n
    (id :: r.1, r.2)

/-- Reserve one context's ID with its pool pages, taken from its HOME first (R154, R166). -/
def Chip.reserveOne (c : Chip) (cfg : List Nat) (s i n : Nat) (isPipe : Bool) : Chip :=
  let w := capW64 cfg
  let r := c.takePages (rehome c (capHome s (i % w) (i / w) isPipe)) (tplCount cfg isPipe - 1)
  { r.2 with grn := { r.2.grn with reserved := mapInsert n r.1 (mapErase n r.2.grn.reserved) } }

/-- The (HASH, PIPE) pairs of a list of IDs. -/
def idPairs : List Nat → List (Nat × Nat)
  | a :: b :: rest => (a, b) :: idPairs rest
  | _ => []

/-- Ask for a frame's descriptor space (R166): all or none. Answers the IDs of each tile. -/
def Chip.reserveFrame (c : Chip) (s : Nat) (cfg : List Nat) : Option (List (Nat × Nat)) × Chip :=
  let tiles := capW64 cfg * capH64 cfg
  if !c.bit Reg.GRN_STAT 31 || decide (capFree c < 2 * tiles) ||
      decide (poolTotal c < tiles * (tplCount cfg true - 1 + (tplCount cfg false - 1))) then (none, c)
  else
    let r := c.takeIds (capTaken c) (2 * tiles)
    let ids := idPairs r.1
    let c1 := ((List.range tiles).zip ids).foldl (fun c e =>
      (c.reserveOne cfg s e.1 e.2.1 false).reserveOne cfg s e.1 e.2.2 true) r.2
    (some ids, (c1.poolLow c).raiseIf (decide (capFree c1 < 4096)) 59)

/-- Drop a frame at its frame start (R18): counted in the stream's sheaf, EV128 + p. -/
def Chip.dropFrameStart (c : Chip) (s frame : Nat) : Chip :=
  ((c.joinDropped s frame).raise (128 + s / 4)).lifeAdd 9 1

/-- The configuration of stream s as its registers stand (R279). -/
def sampledCfg (c : Chip) (s : Nat) : List Nat := (List.range 8).map (fun i => (c.reg (Reg.CAP_SCTL s + 4 * i)).toNat)
/-- A frame-start packet of stream s (R18, R279, R283, R286): the registers are read, and CAP_SPAGE.P shows P for the values now in
force (R282). -/
def Chip.frameStart (c0 : Chip) (s : Nat) : Chip :=
  let c := (c0.endFrame s false).lifeAdd 8 1
  let x := capStream c s
  let frame := x.started % 2 ^ 32
  let cfg := sampledCfg c s
  let c1 := (c.setCapStream s { x with started := x.started + 1 }).setFld (Reg.CAP_SPAGE s) 27 16 (capP s cfg)
  if !capCfgOk c1 s cfg then (c1.dropFrameStart s frame).raise 152
  else
    let slot := x.next % capCfg cfg 0 21 18
    if !sealTakes c1 || c1.cap.frames.any (fun f => decide (f.stream = s) && decide (f.slot = slot)) then
      c1.dropFrameStart s frame
    else
      let r := c1.reserveFrame s cfg
      match r.1 with
      | none => r.2.dropFrameStart s frame
      | some ids =>
        let f : CapFrame := { stream := s, frame := frame, slot := slot, cfg := cfg, startTai := c1.tai.toNat, flags := flagsNow c1, ids := ids }
        let c2 := r.2.setCapStream s { started := x.started + 1, next := slot + 1 }
        (({ c2 with
          cap := { c2.cap with frames := c2.cap.frames ++ [f] }
          ev := { c2.ev with roots := c2.ev.roots.filter (fun e => !(decide (e.1 = s) && decide (e.2.1 = frame))) } }).setBit (Reg.CAP_SSTAT s) 31 true).setFld
          (Reg.CAP_SSTAT s) 11 0 0

/-- FRAME_START (R18). -/
def execFrameStart (p : Fin 8) (vc : Fin 16) (hdr : Ecc) (s : State) : Host.Outcome State Fault Refusal :=
  run (fun c =>
    let r := c.packetIn p.val vc.val hdr true
    match r.1 with
    | some st => r.2.frameStart st
    | none => r.2) s

/-! ### Lines (R278, R284, R285) -/

/-- The data type of a FMT (R277). -/
def fmtType (fmt : Nat) : Nat :=
  match fmt with
  | 0 => 0x2B | 1 => 0x2C | 2 => 0x2D | _ => 0x1E

/-- The lines of stream s that its port holds, of every frame of it (R284). -/
def linesHeld (c : Chip) (s : Nat) : Nat :=
  ((c.cap.frames.filter (fun f => decide (f.stream = s))).map (fun f => f.buf.length)).foldl (· + ·) 0
/-- A long packet on the VC of stream s (R284, R285). `held`: the port's writes do not get through yet, so complete groups
stay in its buffer. (DESIGN CHOICE: log 50) -/
def Chip.lineIn (c : Chip) (s dt : Nat) (pixels : List Nat) (held : Bool) : Chip :=
  match arriving c s with
  | none => c
  | some f =>
    if dt ≠ fmtType (capCfg f.cfg 0 23 22) then c
    else if capHeight f.cfg ≤ f.lines then c.putFrame f { f with length := true }
    else
      let full := decide (32 ≤ linesHeld c s)
      let f1 := noteBands c.tai.toNat { f with
        lines := f.lines + 1
        buf := if full then f.buf else f.buf ++ [(f.lines, pixels.take (capWidth f.cfg))]
        ovf := f.ovf || full
        length := f.length || decide (pixels.length ≠ capWidth f.cfg) }
      let c1 := (c.putFrame f f1).setFld (Reg.CAP_SSTAT s) 11 0 f1.lines
      let c2 := if full then (c1.setBit (Reg.CAP_SSTAT s) 29 true).raise 153 else c1
      if held then c2 else c2.drainFrame f1

/-- LINE_PACKET (R284). -/
def execLinePacket (p : Fin 8) (vc : Fin 16) (hdr : Ecc) (crcBad : Bool) (dt : BitVec 6) (pixels : List (BitVec 16))
    (held : Bool) (s : State) : Host.Outcome State Fault Refusal :=
  run (fun c =>
    let r := c.packetIn p.val vc.val hdr false
    let c1 := if crcBad && portOn c p.val && decide (hdr ≠ Ecc.double) then r.2.phyErr p.val 7 0 else r.2
    match r.1 with
    | some st => c1.lineIn st dt.toNat (pixels.map BitVec.toNat) held
    | none => c1) s

/-- BAND_COMPLETE (R284): every write of stream s's oldest frame with an unfinished band that has all its lines is
acknowledged, and the band's contexts are created. -/
def execBandComplete (st : Fin 32) (s : State) : Host.Outcome State Fault Refusal :=
  run (fun c =>
    match c.cap.frames.find? (fun f => decide (f.stream = st.val) && decide (f.band < bandsReady f)) with
    | none => c
    | some f =>
      let c1 := c.drainFrame f
      match c1.cap.frames.find? (fun g => decide (g.stream = st.val) && decide (g.band < bandsReady g)) with
      | some g => c1.createBand g
      | none => c1) s

/-! ### Stopping a stream (R287) -/

/-- Stream s stops taking packets (R287): a frame in progress is truncated, all of its bands are completed, and the
stream's sheaf is complete (R313). -/
def Chip.stopStream (c : Chip) (s : Nat) : Chip :=
  match arriving c s with
  | none => c.stopSheaf s
  | some f =>
    let c1 := c.endFrame s true
    let c2 := match c1.cap.frames.find? (fun g => decide (g.stream = s) && decide (g.slot = f.slot)) with
      | some g => (c1.drainFrame g).completeBands s f.slot (capH64 g.cfg)
      | none => c1
    let c3 := (c2.setBit (Reg.CAP_SSTAT s) 30 true).setFld (Reg.CAP_SSTAT s) 11 0 f.lines
    (c3.raise (144 + s / 4)).stopSheaf s

/-- Clear stream s's ENABLE (R287). -/
def Chip.disableStream (c : Chip) (s : Nat) : Chip :=
  if streamOn c s then (c.setBit (Reg.CAP_SCTL s) 31 false).stopStream s else c

/-- STREAM_DISABLE (R287). -/
def execStreamDisable (st : Fin 32) (s : State) : Host.Outcome State Fault Refusal :=
  regRun (Reg.CAP_SCTL st.val) (fun c => c.disableStream st.val) s

/-! ### Slots (R17) -/

/-- Has every context of the frame been reported DONE or FAULTED (R17)? -/
def frameContextsDone (c : Chip) (f : CapFrame) : Bool :=
  decide (f.band = capH64 f.cfg) && f.ids.all (fun p =>
    c.grn.capEnded.any (fun r => decide (r.ctx = p.1) && decide (r.stream = f.stream) && decide (r.frame = f.frame)) &&
    c.grn.capEnded.any (fun r => decide (r.ctx = p.2) && decide (r.stream = f.stream) && decide (r.frame = f.frame)))

/-- SLOT_RELEASE (R17): the first frame of stream s whose contexts are all DONE or FAULTED and whose audits are done gives
its slot back. While a journal write waits for space the slots stay held (R375). -/
def execSlotRelease (st : Fin 32) (s : State) : Host.Outcome State Fault Refusal :=
  run (fun c =>
    if c.bit Reg.SILO_STAT 30 then c else
    match c.cap.frames.find? (fun f => decide (f.stream = st.val) && f.ended && f.audited && frameContextsDone c f) with
    | none => c
    | some f =>
      { c with
        cap := { c.cap with frames := c.cap.frames.filter (fun g => decide (g ≠ f)) }
        grn := { c.grn with capEnded := c.grn.capEnded.filter (fun r =>
          !(decide (r.stream = f.stream) && decide (r.frame = f.frame) && (!r.isPipe || r.passed))) } }) s

/-- PSTAT_READ (R298): a read of CAP_PSTATp returns it and clears ECC_ERR and CRC_ERR. -/
def execPstatRead (p : Fin 8) (s : State) : Host.Outcome State Fault Refusal :=
  regRun (Reg.CAP_PSTATp p.val) (fun c =>
    let a := Reg.CAP_PSTATp p.val
    (c.respond (respOk (setBit (c.reg a) 30 (capCfgErr c p.val)).toNat)).setFld a 15 0 0) s

end Sys2Proof.Machine
end

