-- ==== Sys2Proof/Machine/Packer.lean ====
section
/-!
DEFINITION. The Bitstream Packer (R288 to R297, R300): picture commands, syntax-element buffers, lanes, the order of the
bitstream port, and statistics.
-/
namespace Sys2Proof.Machine

/-! ### Pictures -/

/-- The stored picture with the same identity. -/
def samePicture (p : Picture) (s frame : Nat) : Bool := decide (p.stream = s) && decide (p.frame = frame)
/-- Change the pictures that satisfy a condition. -/
def Chip.onPictures (c : Chip) (sel : Picture → Bool) (f : Picture → Picture) : Chip :=
  { c with pkr := { c.pkr with pics := c.pkr.pics.map (fun p => if sel p then f p else p) } }
/-- The capture tiles of a frame of stream s: of the frame that holds a slot, else of the stream's present size. -/
def pictureSize (c : Chip) (s frame : Nat) : Nat × Nat :=
  match c.cap.frames.find? (fun f => decide (f.stream = s) && decide (f.frame = frame)) with
  | some f => (capW64 f.cfg, capH64 f.cfg)
  | none => ((c.fld (Reg.CAP_SSIZE s) 12 0 + 63) / 64, (c.fld (Reg.CAP_SSIZE s) 28 16 + 63) / 64)
/-- Forget the pictures whose command has come, whose statistics are posted and whose contexts have all been reported. -/
def Chip.forgetPictures (c : Chip) : Chip :=
  { c with pkr := { c.pkr with pics := c.pkr.pics.filter (fun p => !(p.hasCmd && p.posted && decide (p.w64 * p.h64 ≤ p.seen))) } }

/-- Drop one picture (R292): EV161, IDR_REQ, and it counts in its stream's sheaf. (DESIGN CHOICE: log 52) -/
def Chip.dropPicture (c : Chip) (p : Picture) : Chip :=
  let c1 := c.onPictures (fun q => decide (q = p)) (fun q => { q with
    dropped := true, done := true
    slices := q.slices.map (fun x => if x.state = .done then x else { x with state := .waiting }) })
  ((c1.setBit (Reg.CAP_SSTAT p.stream) 28 true).raise 161).lostPicture p.stream p.frame p.jpeg

/-- Drop the later pictures of a stream whose commands are here, until the first with IRAP = 1 (R292); with none, the
stream goes on dropping. -/
def Chip.dropLater (c : Chip) (s : Nat) : List Picture → Chip
  | [] => { c with pkr := { c.pkr with dropping := if c.pkr.dropping.contains s then c.pkr.dropping else c.pkr.dropping ++ [s] } }
  | p :: rest => if p.irap then c else (c.dropPicture p).dropLater s rest

/-- A malformed SEB, or a FAULTED PIPE context (R292): the picture is abandoned with EV160, and the stream's later
pictures are dropped until an IRAP. (DESIGN CHOICE: log 52) -/
def Chip.abandonPicture (c : Chip) (p : Picture) : Chip :=
  let later := c.pkr.pics.filter (fun q => decide (q.stream = p.stream) && q.hasCmd && !q.dropped && decide (p.order < q.order))
  ((c.raise 160).dropPicture p).dropLater p.stream later

/-! ### The bitstream port (R295) -/

/-- Hand bytes of a picture to the port. -/
def Chip.portPut (c : Chip) (p : Picture) (first last : Bool) (bytes : List Byte) : Chip :=
  { c with pkr := { c.pkr with
    port := c.pkr.port ++ [{ stream := p.stream, frame := p.frame, jpeg := p.jpeg, irap := p.irap, first := first, last := last
                             bytes := bytes }] } }

/-- The next bytes of a picture that may pass, in bitstream order (R295): its prefix, then each slice that is done. -/
def Chip.pushPicture (c : Chip) : Nat → Picture → Chip
  | 0, _ => c
  | fuel + 1, p =>
    if !p.prePassed then
      let q := { p with prePassed := true, bytes := p.bytes + p.pre.length }
      let c1 := c.onPictures (fun r => decide (r = p)) (fun _ => q)
      (if p.pre.isEmpty then c1 else c1.portPut p true false p.pre).pushPicture fuel q
    else
      match p.slices.find? (fun x => !x.passed) with
      | some x =>
        if x.state = .done then
          let left := (p.slices.filter (fun y => !y.passed)).length
          let q := { p with
            slices := p.slices.map (fun y => if y = x then { y with passed := true } else y)
            bytes := p.bytes + x.bytes.length }
          let c1 := c.onPictures (fun r => decide (r = p)) (fun _ => q)
          (c1.portPut p (p.pre.isEmpty && decide (left = p.slices.length)) (decide (left = 1)) x.bytes).pushPicture fuel q
        else c
      | none => c

/-- Push what may pass of every stream: the first picture, by command, that has not passed whole. -/
def Chip.pushStreams (c : Chip) : Nat → Chip
  | 0 => c
  | fuel + 1 =>
    let c1 := (List.range 32).foldl (fun c s =>
      match c.pkr.pics.find? (fun p => decide (p.stream = s) && p.hasCmd && !p.dropped && !(p.slices.all (fun x => x.passed))) with
      | some p => c.pushPicture (p.slices.length + 1) p
      | none => c) c
    c1.pushStreams fuel

/-- Push everything that may pass now. -/
def Chip.pump (c : Chip) : Chip := c.pushStreams (c.pkr.pics.length)

/-! ### Syntax-element buffers (R290 to R292) -/

/-- Is a header acceptable for a tile's report (R290)? -/
def sebHeaderOk (r : CapReport) (h : List Byte) : Bool :=
  let n : Nat → Nat := fun i => leNat ((h.drop i).take 4)
  decide (r.user0 % 64 = 0) && decide (natBits (n 0) 31 27 = r.stream) && decide (natBits (n 0) 26 24 = 0) &&
    decide (natBits (n 0) 23 12 = r.cy) && decide (natBits (n 0) 11 0 = r.cx) && decide (n 4 = r.frame) &&
    decide (natBits (n 8) 31 20 = 0) && decide (1 ≤ natBits (n 8) 19 0) && decide (n 12 = 0)

/-- The packer looks at a report for one of its pictures, named by its command's order (R290, R292): the SEB joins the picture, or a bad
header or a FAULTED context abandons it. -/
def Chip.sebFor (c : Chip) (r : CapReport) (order : Nat) : Chip :=
  let sel : Picture → Bool := fun p => p.hasCmd && decide (p.order = order) && !p.dropped
  match c.pkr.pics.find? sel with
  | none => c
  | some p =>
    let rd := c.blockRead (natBits r.user0 39 0) 16
    if decide (r.state = 5) && (match rd.1 with | some h => sebHeaderOk r h | none => false) then
      rd.2.onPictures sel (fun q => { q with sebs := q.sebs ++ [{ cx := r.cx, cy := r.cy, addr := natBits r.user0 39 0 }] })
    else rd.2.abandonPicture p
/-- The packer looks at a report for every picture of its frame whose command has come (R293). -/
def Chip.sebTake (c : Chip) (r : CapReport) : Chip :=
  ((c.pkr.pics.filter (fun p => samePicture p r.stream r.frame && p.hasCmd)).map (fun p => p.order)).foldl (fun d o => d.sebFor r o) c

/-! ### Picture commands (R293) -/

/-- One slice record (R293). -/
def sliceOfBytes (bs : List Byte) : Slice :=
  let n : Nat → Nat → Nat := fun i k => leNat ((bs.drop i).take k)
  { hdrAddr := n 0 5, hdrBits := natBits (n 5 2) 11 0, qp := natBits (n 7 1) 5 0
    initTyp := Nat.min 2 (natBits (n 8 1) 1 0), row := n 9 2 }

/-- Take the picture queue's next entry (R293): the reports of its SEBs that came before it are looked at now.
(DESIGN CHOICE: log 53) -/
def Chip.pictureCommand (c : Chip) : Chip :=
  let r := Reg.PKRPIC_BASE_LO
  if !c.isOn (.packer 0) || ringEmpty c r then c else
  let rd := c.blockRead (ringEntry c r 32 (ringHead c r)) 32
  let c1 := rd.2.ringConsumed r
  match rd.1 with
  | none => c1
  | some bs =>
    let w := leNat (bs.take 4)
    let s := natBits w 31 27
    let frame := leNat ((bs.drop 4).take 4)
    let pre := leNat ((bs.drop 8).take 8)
    let n := natBits w 24 16
    let size := pictureSize c1 s frame
    let irap := w.testBit 26
    let bad := decide (n = 0) || decide (size.2 < n) || decide (36 < n)
    let preRead := c1.blockReadLong 20 (natBits pre 39 0) (natBits pre 63 48)
    let recs := preRead.2.2.blockReadLong 2 (natBits (leNat ((bs.drop 16).take 8)) 39 0) (if bad then 0 else 16 * n)
    let slices := (List.range (if bad then 0 else n)).map (fun i => sliceOfBytes ((recs.1.drop (16 * i)).take 16))
    let c2 := recs.2.2
    let old := c2.pkr.pics.find? (fun p => samePicture p s frame)
    let base : Picture := match old with
      | some p => if p.hasCmd then { stream := s, frame := frame, w64 := p.w64, h64 := p.h64, sebs := p.sebs, seen := p.seen } else p
      | none => { stream := s, frame := frame, w64 := size.1, h64 := size.2 }
    let p : Picture := { base with
      hasCmd := true, irap := irap, jpeg := w.testBit 25, pre := preRead.1, slices := slices, reports := []
      order := c2.pkr.cmds }
    let waiting := match old with
      | some q => !q.hasCmd
      | none => false
    let c3 := { c2 with pkr := { c2.pkr with
      cmds := c2.pkr.cmds + 1
      dropping := if irap && !bad then c2.pkr.dropping.filter (fun x => decide (x ≠ s)) else c2.pkr.dropping
      pics := (if waiting then c2.pkr.pics.filter (fun q => !(samePicture q s frame && !q.hasCmd)) else c2.pkr.pics) ++ [p] } }
    if bad then (c3.dropPicture p).dropLater s []
    else if c3.pkr.dropping.contains s then c3.dropPicture p
    else (base.reports.foldl Chip.sebTake c3).pump
/-- PICTURE_COMMAND (R293). -/
def execPictureCommand (s : State) : Host.Outcome State Fault Refusal := run Chip.pictureCommand s

/-- The capture port passes a PIPE context's report to the packer (R290, R292), where it waits until the picture's command has come
(R293). -/
def Chip.sebReceive (c : Chip) (n : Nat) : Chip :=
  match c.grn.capEnded.find? (fun r => decide (r.ctx = n) && r.isPipe && !r.passed) with
  | none => c
  | some r =>
    let kept := c.cap.frames.any (fun f => decide (f.stream = r.stream) && decide (f.frame = r.frame))
    let reports := if kept then c.grn.capEnded.map (fun q => if q = r then { q with passed := true } else q)
      else c.grn.capEnded.filter (fun q => decide (q ≠ r))
    let c1 := { c with grn := { c.grn with capEnded := reports } }
    let size := pictureSize c1 r.stream r.frame
    let c2 := if c1.pkr.pics.any (fun p => samePicture p r.stream r.frame) then c1 else
      { c1 with pkr := { c1.pkr with
        pics := c1.pkr.pics ++ [{ stream := r.stream, frame := r.frame, w64 := size.1, h64 := size.2 }] } }
    let c3 := c2.onPictures (fun p => samePicture p r.stream r.frame) (fun p => { p with seen := p.seen + 1 })
    let c4 := c3.onPictures (fun p => samePicture p r.stream r.frame && !p.hasCmd) (fun p => { p with reports := p.reports ++ [r] })
    (c4.sebTake r).pump.forgetPictures
/-- SEB_RECEIVE (R290). -/
def execSebReceive (ctx : Nat) (s : State) : Host.Outcome State Fault Refusal := run (fun c => c.sebReceive ctx) s

/-- Read an SEB's token words again as they stand in memory: none where they cannot be read. -/
def Chip.readTokens (c : Chip) (a : Nat) : Option (List Nat) × Chip :=
  let h := c.blockRead a 16
  match h.1 with
  | none => (none, h.2)
  | some bs =>
    let n := natBits (leNat ((bs.drop 8).take 4)) 19 0
    let r := h.2.blockReadLong (n / 1024 + 2) (a + 16) (4 * n)
    (if r.2.1 then some ((List.range n).map (fun i => leNat ((r.1.drop (4 * i)).take 4))) else none, r.2.2)

/-- Is one token other than END_CTU acceptable (R291)? -/
def tokenOk (jpeg : Bool) (t : Nat) : Bool :=
  match natBits t 31 28 with
  | 0 | 2 => true
  | 1 => decide (1 ≤ natBits t 20 16) && decide (natBits t 20 16 ≤ 16)
  | 4 => jpeg && decide (natBits t 15 12 ≤ 3)
  | 5 => jpeg
  | _ => false
/-- Are the tokens of an SEB acceptable: the last one END_CTU, the others none (R291)? (DESIGN CHOICE: log 54) -/
def tokensOk (jpeg : Bool) : List Nat → Bool
  | [] => false
  | [t] => decide (natBits t 31 28 = 3)
  | t :: rest => tokenOk jpeg t && tokensOk jpeg rest
/-- Does an SEB end its slice? (DESIGN CHOICE: log 54) -/
def tokensLast (ts : List Nat) : Bool := (listGet 0 ts (ts.length - 1)).testBit 0
/-- The bins of a token (R297). -/
def tokenBins (t : Nat) : Nat :=
  match natBits t 31 28 with
  | 0 | 2 => 1
  | 1 => natBits t 20 16
  | _ => 0

/-! ### Lanes (R294 to R296) -/

/-- PKR_STAT.BUSY (R300). -/
def laneBusy (c : Chip) : Nat := bitsOfFn (fun l => (busyLanes c).contains l) 8
/-- The lowest-numbered idle lane that takes work (R294): a lane whose domain powers off takes none (R296). -/
def idleLane (c : Chip) : Option Nat :=
  (List.range 8).find? (fun l => c.bit Reg.PKR_CTL l && staysOn c (.packer (l / 2)) && !(busyLanes c).contains l)

/-- The SEB of a CTU, once it is present. -/
def sebOf (p : Picture) (i : Nat) : Option Seb := p.sebs.find? (fun b => decide (b.cx = i % p.w64) && decide (b.cy = i / p.w64))

/-- The waiting slice that comes first: by picture command, then by slice order, with its first SEB present (R294). -/
def nextSlice (c : Chip) : Option (Picture × Slice) :=
  ((c.pkr.pics.filter (fun p => p.hasCmd && !p.dropped)).flatMap (fun p => p.slices.map (fun x => (p, x)))).find?
    (fun e => decide (e.2.state = .waiting) && (sebOf e.1 (e.2.row * e.1.w64)).isSome)

/-- SLICE_START (R294): the lane takes the slice's first SEB, and a malformed one abandons the picture (R292). -/
def execSliceStart (s : State) : Host.Outcome State Fault Refusal :=
  run (fun c => match idleLane c, nextSlice c with
    | some l, some (p, x) =>
      let a := match sebOf p (x.row * p.w64) with
        | some b => b.addr
        | none => 0
      let t := c.readTokens a
      if (match t.1 with | some ts => tokensOk p.jpeg ts | none => false) then
        t.2.onPictures (fun q => decide (q = p)) (fun q => { q with
          slices := q.slices.map (fun y => if y = x then { y with state := .coding l } else y) })
      else (t.2.abandonPicture p).pump.forgetPictures
    | _, _ => c) s

/-- What a lane finds as it goes through a slice's CTUs in raster order (R294): it waits for an SEB that is not there, meets
a malformed one, or reaches the slice's last CTU. -/
inductive SliceRun where
  | waits | malformed | coded (tokens : List (List Nat))
  deriving DecidableEq, Repr

/-- Go through the CTUs of a slice from CTU i on. -/
def Chip.runSlice (c : Chip) (p : Picture) : Nat → Nat → List (List Nat) → SliceRun × Chip
  | 0, _, _ => (.malformed, c)
  | fuel + 1, i, acc =>
    if p.w64 * p.h64 ≤ i then (.malformed, c) else
    match sebOf p i with
    | none => (.waits, c)
    | some b =>
      let t := c.readTokens b.addr
      match t.1 with
      | none => (.malformed, t.2)
      | some ts =>
        if !tokensOk p.jpeg ts then (.malformed, t.2)
        else if tokensLast ts then (.coded (acc ++ [ts]), t.2)
        else t.2.runSlice p fuel (i + 1) (acc ++ [ts])

/-- The first n bits of bytes, most significant bit first. -/
def bitsMsb (n : Nat) (bs : List Byte) : List Bool := (List.range n).map (fun i => (listGet 0 bs (i / 8)).getLsbD (7 - i % 8))
/-- Bits as bytes, most significant bit first; a last byte is filled with zeros. -/
def bytesMsb (bits : List Bool) : List Byte :=
  (List.range ((bits.length + 7) / 8)).map (fun k =>
    BitVec.ofNat 8 (bitsOfFn (fun i => listGet false bits (8 * k + (7 - i))) 8))
/-- The emulation prevention bytes of a payload (R293): 0x03 goes before a byte of 0 to 3 that follows two zero bytes; `zeros` counts
the zero bytes just passed. (PRESUMED: log 147) -/
def emulationPrevention (zeros : Nat) : List Byte → List Byte
  | [] => []
  | b :: rest =>
    let next := if b = 0 then 1 else 0
    if 2 ≤ zeros ∧ b.toNat ≤ 3 then 3 :: b :: emulationPrevention next rest
    else b :: emulationPrevention (if b = 0 then zeros + 1 else 0) rest
/-- The NAL unit of a slice (R293): the header bits as given, the slice data, rbsp_slice_segment_trailing_bits (a one and zeros to the
end of the byte), with emulation prevention after the two bytes of the NAL header. (PRESUMED: log 147) -/
def sliceNal (x : Slice) (hdr : List Byte) (ts : List (List Nat)) : List Byte :=
  let raw := bytesMsb (bitsMsb x.hdrBits hdr ++ Config.sliceData x.qp x.initTyp ts ++ [true])
  raw.take 2 ++ emulationPrevention 0 (raw.drop 2)
/-- The bytes that a lane emits for a slice or a scan (R289, R293): a four-byte start code and the NAL unit, or the scan's header and
its coded data. (DEDUCED: log 147) -/
def sliceBytes (p : Picture) (x : Slice) (hdr : List Byte) (ts : List (List Nat)) : List Byte :=
  if p.jpeg then hdr ++ Config.scanData p.pre hdr ts else [0, 0, 0, 1] ++ sliceNal x hdr ts

/-- SLICE_DONE (R293 to R295): lane l has coded its slice. -/
def execSliceDone (l : Fin 8) (s : State) : Host.Outcome State Fault Refusal :=
  run (fun c =>
    match (c.pkr.pics.flatMap (fun p => p.slices.map (fun x => (p, x)))).find? (fun e => decide (e.2.state = .coding l.val)) with
    | none => c
    | some (p, x) =>
      let r := c.runSlice p (p.w64 * p.h64 + 1) (x.row * p.w64) []
      match r.1 with
      | .waits => c
      | .malformed => (r.2.abandonPicture p).pump.forgetPictures
      | .coded ts =>
        let h := r.2.blockReadLong 3 x.hdrAddr ((x.hdrBits + 7) / 8)
        let bytes := sliceBytes p x h.1 ts
        let bins := (ts.flatMap (fun l => l.map tokenBins)).foldl (· + ·) 0
        (h.2.2.onPictures (fun q => decide (q = p)) (fun q => { q with
          slices := q.slices.map (fun y => if y = x then { y with state := .done, bytes := bytes, bins := bins } else y) })).pump) s

/-! ### Statistics (R297, R300) -/

/-- PICTURE_DONE (R297): the first picture whose bytes have all passed posts its entry, or loses it while the ring is
full. -/
def execPictureDone (s : State) : Host.Outcome State Fault Refusal :=
  run (fun c =>
    match c.pkr.pics.find? (fun p => p.done && !p.posted &&
        !c.pkr.port.any (fun x => decide (x.stream = p.stream) && decide (x.frame = p.frame))) with
    | none => c
    | some p =>
      let r := Reg.PKRSTATQ_BASE_LO
      let c1 := c.onPictures (fun q => decide (q = p)) (fun q => { q with posted := true })
      let bins := (p.slices.map (fun x => x.bins)).foldl (· + ·) 0
      let c2 := if ringFull c1 r then (c1.countFld Reg.PKR_STAT 15 0 1).raise 162
        else c1.ringPost r 3 [p.stream * 2 ^ 27 + p.dropped.toNat * 2 ^ 26, p.frame, p.bytes % 2 ^ 32, bins % 2 ^ 31]
      c2.forgetPictures) s

/-- PKR_STAT_READ (R300): a read of PKR_STAT returns BUSY and LOST and clears LOST. -/
def execPkrStatRead (s : State) : Host.Outcome State Fault Refusal :=
  regRun Reg.PKR_STAT (fun c => (c.respond (respOk (laneBusy c * 2 ^ 24 + c.fld Reg.PKR_STAT 15 0))).setFld Reg.PKR_STAT 15 0 0) s

end Sys2Proof.Machine
end

