-- ==== Sys2Proof/Machine/Evidence.lean ====
section
/-!
DEFINITION. The evidence flow inside the Seal Unit (chapter 12): digests, audits and frame roots, the bitstream port, sheaf
closes, stooks, and the completion of a journal write, which releases a record (R16).
-/
namespace Sys2Proof.Machine

/-! ### Digests, audits, frame roots (R303 to R309) -/

/-- The frame of stream s that the capture port tells the Seal Unit of (R305): ended, every band created, every HASH
context DONE or FAULTED. -/
def frameToTell (c : Chip) (s : Nat) : Option CapFrame :=
  c.cap.frames.find? (fun f => decide (f.stream = s) && f.ended && !f.told && decide (f.band = capH64 f.cfg) &&
    f.ids.all (fun p => c.grn.capEnded.any (fun r => decide (r.ctx = p.1) && decide (r.stream = s) && decide (r.frame = f.frame))))

/-- Did the HASH context of a tile of this stream's frame fault (R305)? -/
def hashFaulted (c : Chip) (f : CapFrame) (i : Nat) : Bool :=
  let id := (listGet (0, 0) f.ids i).1
  c.grn.capEnded.any (fun r =>
    decide (r.ctx = id) && decide (r.stream = f.stream) && decide (r.frame = f.frame) && decide (r.state = 6))

/-- The digest of the raw bytes of leaf j of tile i, hashed by the Seal Unit (R303, R308). -/
def Chip.hashLeaf (c : Chip) (f : CapFrame) (i j : Nat) : BitVec 512 × Chip :=
  let r := c.evidenceRead (rawAddr f i (1024 * j)) 1024
  (Config.sha512 r.1, r.2)

/-- The digests of the leaves j … of tile i: hashed from the raw page, or read from the digest area (R305). (DEDUCED: log 47) -/
def Chip.tileDigests (c : Chip) (f : CapFrame) (i : Nat) (own : Bool) : List Nat → List (BitVec 512) × Chip
  | [] => ([], c)
  | j :: rest =>
    let d := if own then c.hashLeaf f i j else
      let r := c.evidenceRead (rawAddr f i (12288 + 64 * j)) 64
      (BitVec.ofNat 512 (leNat r.1), r.2)
    let t := d.2.tileDigests f i own rest
    (d.1 :: t.1, t.2)

/-- The digests of a list of tiles (R303, R305). -/
def Chip.frameDigests (c : Chip) (f : CapFrame) : List Nat → List (BitVec 512) × Chip
  | [] => ([], c)
  | i :: rest =>
    let d := c.tileDigests f i (hashFaulted c f i) (List.range (capLeaves f.cfg))
    let t := d.2.frameDigests f rest
    (d.1 ++ t.1, t.2)

/-- The audit's choice among leaves (R307): each by its own draw of the DRBG, a free value. -/
def Chip.chooseLeaves (c : Chip) (n : Nat) : List Nat → List Nat × Chip
  | [] => ([], c)
  | k :: rest =>
    let q := c.drawFree
    let t := q.2.chooseLeaves n rest
    (if q.1.toNat % 2 ^ 32 < 2 ^ 32 / n then k :: t.1 else t.1, t.2)

/-- Change the capture frame in a stream's slot. -/
def Chip.onCapFrame (c : Chip) (s slot : Nat) (g : CapFrame → CapFrame) : Chip :=
  { c with cap := { c.cap with
    frames := c.cap.frames.map (fun f => if f.stream = s ∧ f.slot = slot ∧ f.ended then g f else f) } }
/-- Change the open video sheaf that holds a captured frame. -/
def Chip.onFrameSheaf (c : Chip) (f : CapFrame) (g : Sheaf → Sheaf) : Chip :=
  c.onSheaf (fun x => decide (x.stream = f.stream) && !x.still && x.frames.any (ofFrame f)) g

/-- Replace a frame of the Seal Unit. -/
def Chip.putSealFrame (c : Chip) (old new : SealFrame) : Chip :=
  { c with ev := { c.ev with frames := c.ev.frames.map (fun e => if e = old then new else e) } }

/-- FRAME_DIGESTS_READY (R305 to R307). -/
def execFrameDigestsReady (st : Fin 32) (s : State) : Host.Outcome State Fault Refusal :=
  run (fun c =>
    if !sealTakes c then c else
    match frameToTell c st.val with
    | none => c
    | some f =>
      let l := capLeaves f.cfg
      let tiles := List.range (capW64 f.cfg * capH64 f.cfg)
      let own := tiles.filter (hashFaulted c f)
      let d := c.frameDigests f tiles
      let q := d.2.chooseLeaves (odNat c 0x3102 0) ((List.range d.1.length).filter (fun k => !own.contains (k / l)))
      let c1 := q.2.onCapFrame st.val f.slot (fun g => { g with told := true, audited := g.audited || q.1.isEmpty })
      let c2 := { c1 with ev := { c1.ev with frames := c1.ev.frames ++
        [{ stream := st.val, frame := f.frame, cap := f, leaves := d.1, perTile := l, selfT := own, audit := q.1 }] } }
      if own.isEmpty then c2
      else (c2.markFrame f 128).raise 21) s

/-- Replace the digests of one tile. -/
def setTileLeaves (l i : Nat) (ds leaves : List (BitVec 512)) : List (BitVec 512) :=
  leaves.take (l * i) ++ ds ++ leaves.drop (l * i + l)

/-- AUDIT_LEAF (R308, R309): the next leaf chosen in the stream's oldest frame. -/
def execAuditLeaf (st : Fin 32) (s : State) : Host.Outcome State Fault Refusal :=
  run (fun c =>
    if !c.isOn .sealUnit then c else
    match c.ev.frames.find? (fun e => decide (e.stream = st.val) && !e.audit.isEmpty) with
    | none => c
    | some e =>
      let k := listGet 0 e.audit 0
      let i := k / e.perTile
      let h := c.hashLeaf e.cap i (k % e.perTile)
      let e1 := { e with audit := e.audit.drop 1 }
      let c1 := h.2.onFrameSheaf e.cap (fun x => { x with audited := x.audited + 1 })
      let c2 := if e1.audit.isEmpty then c1.onCapFrame st.val e.cap.slot (fun g => { g with audited := true }) else c1
      if h.1 = listGet 0 e.leaves k then c2.putSealFrame e e1
      else
        let t := c2.tileDigests e.cap i true (List.range e.perTile)
        let e2 := { e1 with
          leaves := setTileLeaves e.perTile i t.1 e.leaves
          selfT := if e.selfT.contains i then e.selfT else e.selfT ++ [i] }
        ((((t.2.putSealFrame e e2).onFrameSheaf e.cap (fun x => { x with
          mismatch := x.mismatch + 1, flags := x.flags ||| 256 })).markFrame e.cap 128).raise 20).raiseIf e.selfT.isEmpty 21) s

/-- The frame descriptor (R304). -/
def frameDescriptor (c : Chip) (e : SealFrame) : List Byte :=
  let f := e.cap
  [BitVec.ofNat 8 f.stream, BitVec.ofNat 8 (capCfg f.cfg 0 23 22 + 16 * e.perTile)] ++ leBytes 2 (capWidth f.cfg) ++
    leBytes 2 (capHeight f.cfg) ++ leBytes 2 f.lines ++ leBytes 4 f.frame ++
    [BitVec.ofNat 8 (f.trunc.toNat + 2 * f.ovf.toNat + 4 * f.length.toNat + (if e.selfT.isEmpty then 0 else 8)),
      BitVec.ofNat 8 c.deviceNo, 0, 0] ++ leBytes 8 f.startTai ++ leBytes 8 f.endTai ++ List.replicate 32 0

/-- FRAME_ROOT_DONE (R302 to R304): the stream's oldest frame whose digests and audits are in. The root is kept for the stills that may
still come of the frame (R315). -/
def execFrameRootDone (st : Fin 32) (s : State) : Host.Outcome State Fault Refusal :=
  run (fun c =>
    if !c.isOn .sealUnit then c else
    match c.ev.frames.find? (fun e => decide (e.stream = st.val) && e.audit.isEmpty) with
    | none => c
    | some e =>
      let fd := frameDescriptor c e
      let tree := merkle (e.leaves.map hashBytes)
      let root := Config.sha512 (2 :: (fd ++ tree))
      let fill : SheafFrame → SheafFrame := fun g =>
        if ofFrame e.cap g then { g with endTai := e.cap.endTai, fd := fd, tree := tree, root := some root } else g
      let c1 := c.onSheaf (fun x => decide (x.stream = st.val)) (fun x => { x with frames := x.frames.map fill })
      let done : SheafFrame :=
        { frame := e.frame, startTai := e.cap.startTai, endTai := e.cap.endTai, fd := fd, tree := tree, root := some root
          flags := e.cap.flags ||| ((if e.cap.trunc then 16 else 0) + (if e.cap.ovf then 32 else 0) + (if e.cap.length then 64 else 0) +
            (if e.selfT.isEmpty then 0 else 128)) }
      { c1 with ev := { c1.ev with
        frames := c1.ev.frames.filter (fun x => decide (x ≠ e))
        roots := (c1.ev.roots.filter (fun r => !(decide (r.1 = st.val) && decide (r.2.1 = e.frame)))) ++ [(st.val, e.frame, done)] } }) s

/-! ### The bitstream port (R314, R315) -/

/-- The frame of a still, as far as it is known: from its capture while it arrives, from its root, from its video sheaf, or from its
slot; of frames with one number the newest. The spec does not say what a still's times are when its frame is none of these: free
values. (DEDUCED: log 48) -/
def Chip.stillFrame (c : Chip) (s frame : Nat) : SheafFrame × Chip :=
  let held : Option CapFrame → Option SheafFrame := fun o =>
    o.map (fun f => { frame := frame, startTai := f.startTai, endTai := f.endTai, flags := f.flags : SheafFrame })
  let slots := c.cap.frames.reverse.filter (fun f => decide (f.stream = s) && decide (f.frame = frame))
  let sheaves := c.ev.sheaves.reverse.filter (fun x => decide (x.stream = s) && !x.still)
  let known := [held (slots.find? (fun f => !f.ended)),
    (c.ev.roots.find? (fun r => decide (r.1 = s) && decide (r.2.1 = frame))).map (fun r => r.2.2),
    (sheaves.findSome? (fun x => x.frames.find? (fun g => decide (g.frame = frame) && !g.dropped))).map
      (fun g => { g with passed := false, lost := false }),
    held slots.head?]
  match known.findSome? id with
  | some g => (g, c)
  | none =>
    let q := c.drawFree
    ({ frame := frame, startTai := q.1.toNat, endTai := q.1.toNat }, q.2)

/-- Is this an open video sheaf of stream s that holds a frame with this number? -/
def holdsFrame (s frame : Nat) (x : Sheaf) : Bool :=
  decide (x.stream = s) && !x.still && x.frames.any (fun g => decide (g.frame = frame) && !g.dropped)
/-- Is this the open still sheaf of a frame? -/
def isStillOf (s frame : Nat) (x : Sheaf) : Bool :=
  decide (x.stream = s) && x.still && x.complete.isNone && x.frames.any (fun g => decide (g.frame = frame))

/-- Note that a picture has passed whole: a video picture in its frame's sheaf (R313), and every picture in the packer's record of it
(R297). -/
def Chip.picturePassed (c : Chip) (b : PortChunk) : Chip :=
  let c1 := if b.jpeg then c else c.onSheaf (holdsFrame b.stream b.frame) (fun x => { x with
    frames := x.frames.map (fun g => if g.frame = b.frame then { g with passed := true } else g) })
  c1.onPictures (fun p => samePicture p b.stream b.frame && p.hasCmd && decide (p.jpeg = b.jpeg)) (fun p => { p with done := true })

/-- A still's bytes pass (R315): with its last byte it takes the stream's next SEQ, and where its frame's root is known and no close is
held (R326) it is sealed at once. (DEDUCED: log 48) -/
def Chip.stillBytes (c : Chip) (b : PortChunk) : Chip :=
  let c1 := if c.ev.sheaves.any (isStillOf b.stream b.frame) then c else
    let g := c.stillFrame b.stream b.frame
    { g.2 with ev := { g.2.ev with sheaves := g.2.ev.sheaves ++
      [{ stream := b.stream, still := true, len := 0, startTai := g.1.startTai, frames := [g.1], flags := flagsNow c ||| g.1.flags }] } }
  let c2 := c1.onSheaf (isStillOf b.stream b.frame) (fun x => takeBytes x b)
  if !b.last then c2 else
  match c2.ev.sheaves.find? (isStillOf b.stream b.frame) with
  | none => c2
  | some x =>
    let n := mapGet 0 c2.ev.nextSeq x.stream
    let y := { x with complete := some c2.ns, seqNo := some n, frames := x.frames.map (fun g => { g with passed := true }) }
    let c3 := c2.onSheaf (fun z => decide (z = x)) (fun _ => y)
    let c4 := { c3 with ev := { c3.ev with nextSeq := mapSet 0 c3.ev.nextSeq x.stream (n + 1) } }
    if sheafReady y && (stillsBefore c4 y).isEmpty && !sealHeld c4 then c4.closeSheaf y 0 0 else c4

/-- A video picture's bytes pass (R314). (DEDUCED: log 47) -/
def Chip.videoBytes (c : Chip) (b : PortChunk) : Chip :=
  let awaits := c.cap.frames.any (fun f => decide (f.stream = b.stream) && decide (f.frame = b.frame) && !f.ended)
  if awaits then { c with ev := { c.ev with early := c.ev.early ++ [b] } }
  else match c.ev.sheaves.find? (holdsFrame b.stream b.frame) with
    | some y => c.onSheaf (fun x => decide (x = y)) (fun x => takeBytes x b)
    | none =>
      match c.ev.sheaves.find? (fun x => decide (x.stream = b.stream) && !x.still) with
      | some y => c.onSheaf (fun x => decide (x = y)) (fun x => { takeBytes x b with flags := (takeBytes x b).flags ||| 1024 })
      | none => { c with ev := { c.ev with stray := c.ev.stray ++ [b] } }

/-- BITSTREAM_PORT_INPUT (R295, R314, R315): the next bytes of the port. -/
def execBitstreamPortInput (s : State) : Host.Outcome State Fault Refusal :=
  run (fun c =>
    if !c.isOn .sealUnit then c else
    match c.pkr.port with
    | [] => c
    | b :: rest =>
      let c1 := { c with pkr := { c.pkr with port := rest } }
      let c2 := if b.jpeg then c1.stillBytes b else c1.videoBytes b
      if b.last then c2.picturePassed b else c2) s

/-! ### Sheaf closes (R313) -/

/-- Is Salun in RECOVERY (R385)? -/
def inRecovery (c : Chip) : Bool := c.fld Reg.SYS_MODE 15 8 == 2

/-- SHEAF_CLOSE (R313): the stream's oldest sheaf that is ready, and that no still's record must come before (R315). -/
def execSheafClose (st : Fin 32) (s : State) : Host.Outcome State Fault Refusal :=
  run (fun c =>
    if sealHeld c then c else
    match c.ev.sheaves.find? (fun x => decide (x.stream = st.val) && sheafReady x && (stillsBefore c x).isEmpty) with
    | some x => c.closeSheaf x x.status 0
    | none => c) s

/-- SHEAF_LATE_CLOSE (R313): a sheaf of the stream that has not closed 1,000 ms after its membership was complete. -/
def execSheafLateClose (st : Fin 32) (s : State) : Host.Outcome State Fault Refusal :=
  run (fun c =>
    if sealHeld c then c else
    match c.ev.sheaves.find? (fun x => decide (x.stream = st.val) && (match x.complete with
        | some t => decide (t + 1000000000 ≤ c.ns)
        | none => false)) with
    | some x => c.closeLate x
    | none => c) s

/-! ### Stooks (R321 to R327, R523 to R525) -/

/-- The stook interval in force, in nanoseconds (R321). -/
def stookInterval (c : Chip) : Nat := if c.fld Reg.SYS_MODE 7 0 = 3 then 1000000000 else 1000000000 * Nat.max 1 (odNat c 0x3101 0)
/-- Stooks fall due from the first multiple of the interval after now (R321). -/
def Chip.stookRebase (c : Chip) : Chip :=
  let iv := stookInterval c
  { c with ev := { c.ev with dueAt := (c.tai.toNat / iv + 1) * iv } }

/-- After a change of interval the next stook falls due at the first multiple of the new one (R321); `old` is the chip before. -/
def Chip.followInterval (c old : Chip) : Chip := if stookInterval old = stookInterval c then c else c.stookRebase

/-- R335's encoding of a public key with exponent 65,537. -/
def publicKey (modulus : List Byte) : List Byte := modulus ++ [0, 1, 0, 1]

/-- A field of n bytes at offset i of a record. -/
def recNat (r : List Byte) (i n : Nat) : Nat := leNat ((r.drop i).take n)

/-- LAST_SEQ as bytes: entry s is one below the bound, all ones for none (R323). -/
def lastSeqBytes (bound : List (Nat × Nat)) : List Byte :=
  (List.range 32).flatMap (fun s =>
    let b := mapGet 0 bound s
    leBytes 8 (if b = 0 then 2 ^ 64 - 1 else b - 1))
/-- The bounds that LAST_SEQ bytes state. -/
def lastSeqOf (r : List Byte) : List (Nat × Nat) :=
  (List.range 32).filterMap (fun s =>
    let v := recNat r (0x100 + 8 * s) 8
    if v = 2 ^ 64 - 1 then none else some (s, v + 1))

/-- What a stook record says beside the counter and the common fields. -/
structure StookFields where
  kind    : Nat
  mode    : Nat
  taint   : Bool
  count   : Nat
  first   : Nat
  last    : Nat
  streams : Nat
  sflags  : Nat
  loss    : Nat := 0
  skipped : Nat := 0
  root    : List Byte
  bound   : List (Nat × Nat)

/-- Bytes 0x000 to 0x1FF of a stook (R323). -/
def stookRecord (c : Chip) (counter : Nat) (x : StookFields) : List Byte :=
  [0x53, 0x54, 0x01, BitVec.ofNat 8 (x.kind + 16 * c.deviceNo), BitVec.ofNat 8 x.mode,
    BitVec.ofNat 8 ((x.taint || c.bit Reg.DBG_AON 31).toNat + 2 * c.fld Reg.DBG_AON 30 29)] ++ leBytes 2 x.count ++
    leBytes 8 counter ++ leBytes 8 c.tai.toNat ++ leBytes 8 x.first ++ leBytes 8 x.last ++ leBytes 4 x.streams ++
    leBytes 2 (stookInterval c / 1000000) ++
    leBytes 2 (x.sflags + (if c.fld Reg.TIME_STAT 31 30 = 2 then 0 else 1)) ++ leBytes 8 x.loss ++ leBytes 8 x.skipped ++
    x.root ++ c.ev.stookHash ++ sha (publicKey (c.su.priv.dek.getD [])) ++ lastSeqBytes x.bound

/-- The least and the greatest of numbers, 0 for none. -/
def leastOf : List Nat → Nat
  | [] => 0
  | x :: t => t.foldl Nat.min x
/-- The greatest of numbers, 0 for none. -/
def greatestOf (l : List Nat) : Nat := l.foldl Nat.max 0

/-- The fields that a list of covered sheaf records gives a stook (R323, R324), records in the order of R324. -/
def sheafStook (kind mode : Nat) (recs : List (Nat × List Byte)) (sflags : Nat) (bound : List (Nat × Nat)) : StookFields :=
  let flags := recs.map (fun r => recNat r.2 6 2)
  { kind := kind, mode := mode, taint := flags.any (fun f => f.testBit 11), count := recs.length
    first := leastOf (recs.map (fun r => recNat r.2 0x10 8)), last := greatestOf (recs.map (fun r => recNat r.2 0x18 8))
    streams := bitsOfFn (fun s => recs.any (fun r => r.1 == s)) 32
    sflags := sflags + (if flags.any (fun f => f.testBit 8) then 4 else 0)
    root := merkle (recs.map (fun r => sha r.2)), bound := bound }

/-- The journaled records below a bound that no stook covers, by stream and SEQ (R324). -/
def coveredBy (c : Chip) (bound : List (Nat × Nat)) : List (Nat × List Byte) :=
  (List.range 32).flatMap (fun s =>
    (c.ev.sheafLog.filter (fun e => decide (e.1 = s) && decide (e.2.1 < mapGet 0 bound s))).map (fun e => (s, e.2.2)))

/-- One above the last journaled SEQ of each stream, or what the last stook covered. -/
def journaledNext (c : Chip) : List (Nat × Nat) :=
  (List.range 32).filterMap (fun s =>
    let n := (c.ev.sheafLog.filter (fun e => decide (e.1 = s))).foldl (fun m e => Nat.max m (e.2.1 + 1)) (mapGet 0 c.ev.covered s)
    if n = 0 then none else some (s, n))

/-- Steps 1 and 2 of R322: counter 0 rises, and the record is filled. (DESIGN CHOICE: log 55) -/
def Chip.startStook (c : Chip) (x : StookFields) : Chip :=
  let n := sealCounter c 0 + 1
  let c1 := c.setCounter 0 n
  { c1 with ev := { c1.ev with
    signing := some { kind := x.kind, record := stookRecord c1 n x, counter := n, lastSeq := x.bound } } }

/-- Does a mailbox command's operation use the RSA engine (R322, R333): a signature verified or made, or a key pair generated? -/
def usesRsa (op : Nat) : Bool := op == 0x02 || op == 0x03 || op == 0x20 || op == 0x22
/-- May the engine start a stook: it signs nothing, no stook waits for the journal, no command that has begun holds it, and no capsule
runs (R322, R325, R349)? (DESIGN CHOICE: log 55) -/
def stookFree (c : Chip) : Bool :=
  sealTakes c && c.silo.capsule.isNone && c.ev.signing.isNone && !c.silo.waiting.any (fun w => w.typ == 2) &&
    !(match c.su.boxA with
      | some m => usesRsa m.op && decide (m.later ≠ .start)
      | none => false)

/-- STOOK_DUE (R321, R322): a stook falls due at its boundary or at a Timebase step, and starts when the engine is free;
with no record to cover none is signed. -/
def execStookDue (s : State) : Host.Outcome State Fault Refusal :=
  run (fun c =>
    if !sealTakes c || sealHeld c then c else
    let falls := decide (c.ev.dueAt ≤ c.tai.toNat) || c.ev.timeStep && !c.ev.due
    let c1 := if falls then
        let b := if c.ev.dueAt ≤ c.tai.toNat then c.stookRebase else c
        { b with ev := { b.ev with due := true, sysDue := true, sysStep := b.ev.sysStep || b.ev.timeStep, dueNext := journaledNext b } }
      else c
    if !c1.ev.due || !stookFree c1 then c1 else
    let recs := coveredBy c1 c1.ev.dueNext
    let c2 := { c1 with ev := { c1.ev with due := false, timeStep := false } }
    if recs.isEmpty then c2
    else
      let m := c2.recordMode
      m.2.startStook (sheafStook 0 m.1 recs (if c1.ev.timeStep then 8 else 0) c1.ev.dueNext)) s

/-- STOOK_SIGN_DONE (R322): the signature is appended and the record goes to the journal; its release, with EV23, follows
when the journal write is complete (R16). The salt is a free value. -/
def execStookSignDone (s : State) : Host.Outcome State Fault Refusal :=
  run (fun c =>
    match c.ev.signing with
    | none => c
    | some w =>
      if !sealTakes c || c.silo.capsule.isSome then c else
      let q := c.drawBytes 64
      let sig := beBytes 512 (Config.pssSign (c.su.priv.dek.getD []) w.record q.1).toNat
      ({ q.2 with ev := { q.2.ev with signing := none } }).journal
        { typ := 2, key := w.counter, payload := w.record ++ sig }) s

/-- RECOVERY_STOOK (R326): in RECOVERY, counter 0 is compared with the last journaled stook's COUNTER, and a stook over
every uncovered journaled record is begun. -/
def execRecoveryStook (s : State) : Host.Outcome State Fault Refusal :=
  run (fun c =>
    if !inRecovery c || c.ev.recovered || !stookFree c then c else
    let n := sealCounter c 0
    let j := c.ev.stookCtr
    if n < j then c.sealError 0x05
    else
      let odd := decide (j + 1 < n)
      let bound := journaledNext c
      let q := c.drawFree
      let m := match c.silo.lossMode with
        | some k => if k < 6 then (k, c) else (q.1.toNat % 6, q.2)
        | none => (q.1.toNat % 6, q.2)
      let x := sheafStook 1 m.1 (coveredBy c bound) (if odd then 2 else 0) bound
      ((m.2.raiseIf odd 24).startStook { x with loss := c.silo.lossTai, skipped := n - j })) s

/-- Put a stook before the first with a greater COUNTER. -/
def stookInsert (r : List Byte) : List (List Byte) → List (List Byte)
  | [] => [r]
  | x :: t => if recNat r 8 8 < recNat x 8 8 then r :: x :: t else x :: stookInsert r t
/-- Stooks of one device by COUNTER (R524). -/
def byCounter (l : List (List Byte)) : List (List Byte) := l.foldr stookInsert []
/-- SYSTEM_STOOK (R523 to R525): the manager has read the journal rings of the reachable workers (`stooks`: device, its
STOOK records) and signs a system stook over those that are new, ordered by device, then by COUNTER. -/
def execSystemStook (stooks : List (Nat × List (List Byte))) (s : State) : Host.Outcome State Fault Refusal :=
  run (fun c =>
    if !c.ev.sysDue || c.ev.due || !stookFree c || sealHeld c || decide (c.deviceNo ≠ 0) || !c.bit Reg.SPIN_STAT 31 ||
      c.spin.gang then c else
    let c1 := { c with ev := { c.ev with sysDue := false, sysStep := false } }
    let read := stooks.filter (fun e => decide (1 ≤ e.1) && (c.spin.map &&& reachMask c).testBit e.1)
    let fresh := (List.range 16).flatMap (fun d => (byCounter ((read.filter (fun e => e.1 == d)).flatMap (fun e =>
      e.2.filter (fun r => decide (mapGet 0 c.ev.sysCov d ≤ recNat r 8 8))))).map (fun r => (d, r)))
    if fresh.isEmpty then c1 else
    let times := fresh.map (fun r => recNat r.2 0x10 8)
    let bound := (List.range 16).filterMap (fun d =>
      let n := (fresh.filter (fun r => r.1 == d)).foldl (fun m r => Nat.max m (recNat r.2 8 8 + 1)) (mapGet 0 c.ev.sysCov d)
      if n = 0 then none else some (d, n))
    let partial_ := (List.range 16).any (fun d => decide (1 ≤ d) && c.spin.map.testBit d && !read.any (fun e => e.1 == d))
    let m := (c1.raiseIf partial_ 231).recordMode
    m.2.startStook
      { kind := 2, mode := m.1, taint := fresh.any (fun r => (recNat r.2 5 1).testBit 0)
        count := fresh.length, first := leastOf times, last := greatestOf times
        streams := c.spin.map % 2 ^ 16 + 2 ^ 16 * bitsOfFn (fun d => read.any (fun e => e.1 == d)) 16
        sflags := (if fresh.any (fun r => (recNat r.2 0x2E 2).testBit 2) then 4 else 0) + (if c.ev.sysStep then 8 else 0)
        root := merkle (fresh.map (fun r => sha r.2)), bound := bound }) s

/-! ### The journal write is complete (R16, R372) -/

/-- Give an item to the Storage Writer (R400): it waits for a bale. -/
def Chip.queueItem (c : Chip) (i : Item) : Chip := { c with sw := { c.sw with queue := c.sw.queue ++ [i] } }

/-- Release a record (R16), keeping it for the readers that R16 names. -/
def Chip.releaseRecord (c : Chip) (e : JEntry) : Chip :=
  { c with ev := { c.ev with released := c.ev.released ++ [(e.jseq, e.payload)] } }

/-- What follows a SHEAF entry's completion. -/
def Chip.sheafJournaled (c : Chip) (e : JEntry) : Chip :=
  let c1 := ((c.releaseRecord e).lifeAdd 10 1)
  let mine : Nat × Nat × Bool × List Byte × List Byte → Bool := fun x => decide (x.1 = e.stream) && decide (x.2.1 = e.key)
  let c2 := { c1 with ev := { c1.ev with
    sheafLog := c1.ev.sheafLog ++ [(e.stream, e.key, e.payload)]
    staged := c1.ev.staged.filter (fun x => !mine x) } }
  let c3 := match c1.ev.staged.find? mine with
    | some (_, _, still, index, bytes) =>
      let c4 := if bytes.isEmpty then c2 else
        c2.queueItem { typ := if still then 5 else 1, stream := e.stream, key := e.key, data := bytes, since := c.ns }
      if index.isEmpty then c4 else c4.queueItem { typ := 2, stream := e.stream, key := e.key, data := index, since := c.ns }
    | none => c2
  c3.queueItem { typ := 3, stream := e.stream, key := e.key, data := e.payload, jseq := some e.jseq, since := c.ns }

/-- Is the record of a journal entry one that the Storage Writer must write again? -/
def undurable (c : Chip) (e : JEntry) : Bool :=
  (decide (e.typ = 1) || decide (e.typ = 2)) && (match c.silo.progress.durable with
    | some n => decide (n < e.jseq)
    | none => true)
/-- RECOVERY step 2 (R385): once the recovery stook is journaled, every undurable record before it waits for bales. -/
def Chip.queueUndurable (c : Chip) (before : Nat) : Chip :=
  ((c.silo.entries.filter (fun e => decide (e.jseq < before))).filter (undurable c)).foldl (fun (d : Chip) (e : JEntry) =>
    d.queueItem { typ := if e.typ = 1 then 3 else 4, stream := if e.typ = 1 then e.stream else 0, key := e.key, data := e.payload
                  jseq := some e.jseq, since := d.ns }) c
/-- What follows a STOOK entry's completion. -/
def Chip.stookJournaled (c : Chip) (e : JEntry) : Chip :=
  let kind := recNat e.payload 3 1 % 16
  let bound := lastSeqOf e.payload
  let c0 := if kind = 1 && inRecovery c then c.queueUndurable e.jseq else c
  let c1 := ((c0.releaseRecord e).lifeAdd 11 1).queueItem
    { typ := 4, key := e.key, data := e.payload, jseq := some e.jseq, since := c.ns }
  let c2 := { c1 with ev := { c1.ev with stookCtr := e.key, stookHash := sha e.payload } }
  let c3 := if kind = 2 then { c2 with ev := { c2.ev with sysCov := bound } } else
    { c2 with ev := { c2.ev with
      covered := bound
      recovered := c2.ev.recovered || decide (kind = 1)
      sheafLog := c2.ev.sheafLog.filter (fun x => !decide (x.2.1 < mapGet 0 bound x.1)) } }
  c3.raise 23

/-- Write the journal entry that is served next (R368, R375). -/
def Chip.journalNext (c : Chip) : Chip :=
  match nextWrite c with
  | none => c
  | some (w, rest) =>
    if !c.isOn .silo then c else
    let r := ({ c with silo := { c.silo with waiting := rest } }).writeEntry w
    let c1 := match w.typ with
      | 1 => r.2.sheafJournaled r.1
      | 2 => r.2.stookJournaled r.1
      | _ => r.2
    c1.noteFull

/-- The journal writes that wait and fit go before any other write of the Silo (R368). -/
def Chip.serveJournal : Nat → Chip → Chip
  | 0, c => c
  | fuel + 1, c => if (nextWrite c).isSome then Chip.serveJournal fuel c.journalNext else c
/-- A write of the Silo that is none of the journal's comes to be served (R368). -/
def Chip.siloTurn (c : Chip) : Chip := Chip.serveJournal c.silo.waiting.length c
/-- JOURNAL_WRITE_DONE (R16, R372). -/
def execJournalWriteDone (s : State) : Host.Outcome State Fault Refusal := run Chip.journalNext s

end Sys2Proof.Machine
end

