-- ==== Sys2Proof/Machine/Time.lean ====
section
/-!
DEFINITION. The Timebase (R418 to R422): its sources, steps and trim, its states, its wrap, and the read that latches it.
-/
namespace Sys2Proof.Machine

/-- TIME_STAT.STATE: 0 INVALID, 1 FREERUN, 2 LOCKED, 3 HOLDOVER (R421). -/
def timeState (c : Chip) : Nat := c.fld Reg.TIME_STAT 31 30
/-- TIME_STAT.ACTIVE. -/
def timeActive (c : Chip) : Nat := c.fld Reg.TIME_STAT 29 27
/-- Is this a worker that has been placed, whose time comes from the manager, also while its link is down and it is in HOLDOVER (R520)? -/
def followsManager (c : Chip) : Bool := !c.bit Reg.SPIN_STAT 31 && (c.bit Reg.SPIN_STAT 30 || c.spin.follows)
/-- The timeout of a source in nanoseconds (R419). -/
def sourceTimeout (src : Nat) : Nat := if src = 3 then 10000000000 else 3000000000
/-- The lock threshold of a source in nanoseconds (R419). -/
def lockThreshold (src : Nat) : Nat := if src = 3 then 2000000 else 1000
/-- Has source `src` delivered an update within its timeout? (DESIGN CHOICE: log 78) -/
def sourceFresh (c : Chip) (src : Nat) : Bool :=
  let t := mapGet 0 c.time.last src
  decide (0 < t) && decide (c.ns + 1 < t + sourceTimeout src)
/-- Is an update of source `src` used (R419)? Under AUTO, the first source in table order with a fresh update is. (DESIGN CHOICE: log 78) -/
def sourceUsed (c : Chip) (src : Nat) : Bool :=
  match c.fld Reg.TIME_CTL 2 0 with
  | 0 => !(List.range src).any (fun k => decide (1 ≤ k) && sourceFresh c k)
  | n => decide (n = src)

/-- Enter a state of R421, with the event of its entry; an open sheaf notes a state other than LOCKED (R317). -/
def Chip.timeEnter (c : Chip) (st : Nat) : Chip :=
  if timeState c = st then c else
  let c1 := (c.setFld Reg.TIME_STAT 31 30 st).noteFlags
  (c1.raiseIf (decide (st = 2)) 198).raiseIf (decide (st = 3)) 199

/-- The Timebase steps by −e (R420): EV197, and a stook falls due (R321). A LOCKED Timebase goes to HOLDOVER (R421). -/
def Chip.timeStepBy (c : Chip) (e : Int) : Chip :=
  let now := BitVec.ofInt 64 ((c.time.now.toNat : Int) - e)
  let c1 := { c with time := { c.time with now := now, good := 0 }, ev := { c.ev with timeStep := true } }
  let c2 := (c1.stookRebase).raise 197
  match timeState c2 with
  | 0 => c2.timeEnter 1
  | 2 => c2.timeEnter 3
  | _ => c2

/-- Limit an integer to ± b. -/
def clampInt (b x : Int) : Int := if x < -b then -b else if b < x then b else x

/-- The update below TIME_STEP_TH (R420, R421): the trim removes e over the next second, within ±200 ppm; the fourth
update in a row below LOCK_TH locks. -/
def Chip.timeTrim (c : Chip) (src : Nat) (e : Int) : Chip :=
  let good := if e.natAbs < lockThreshold src then c.time.good + 1 else 0
  let c1 := { c with time := { c.time with trim := clampInt 200000 (-e), good := good } }
  let c2 := if timeState c1 = 0 then c1.timeEnter 1 else c1
  if 4 ≤ good then c2.timeEnter 2 else c2

/-- An update of a source with offset e, the Timebase minus the source (R419 to R421). A placed worker ignores its own
sources (R520). -/
def Chip.timeUpdate (c : Chip) (src : Nat) (e : Int) : Chip :=
  if followsManager c then c else
  let c1 := { c with time := { c.time with last := mapSet 0 c.time.last src (c.ns + 1) } }
  if !sourceUsed c1 src then c1 else
  let c2 := if timeActive c1 = src then c1 else
    { c1.setFld Reg.TIME_STAT 29 27 src with time := { c1.time with good := 0 } }
  if (c2.reg Reg.TIME_STEP_TH).toNat * 1000 ≤ e.natAbs then c2.timeStepBy e else c2.timeTrim src e

/-- A write of TIME_CTL (R419, R421): a source of 4 or above is free-running. -/
def Chip.timeCtl (c : Chip) (v : Nat) : Chip :=
  let c1 := c.setFld Reg.TIME_CTL 2 0 v
  if followsManager c || decide (v % 8 < 4) then c1 else
  let c2 := { c1.setFld Reg.TIME_STAT 29 27 4 with time := { c1.time with good := 0 } }
  if timeState c2 = 0 then c2 else c2.timeEnter 1

/-- The instant of the TAI second that TIME_PPS_SEC names (R419); its upper bits are those of the Timebase's second. (DEDUCED: log 79) -/
def ppsInstant (c : Chip) : Nat :=
  let sec := c.time.now.toNat / 1000000000
  (sec / 2 ^ 32 * 2 ^ 32 + (c.reg Reg.TIME_PPS_SEC).toNat) * 1000000000

/-- PPS_EDGE (R419): a GNSS edge is an update of source 1. -/
def execPpsEdge (s : State) : Host.Outcome State Fault Refusal :=
  run (fun c => c.timeUpdate 1 ((c.time.now.toNat : Int) - (ppsInstant c : Int))) s

/-- The signed offset in TIME_ADJ. -/
def timeAdj (c : Chip) : Int := toSigned 64 ((c.reg Reg.TIME_ADJ_LO).toNat + (c.reg Reg.TIME_ADJ_HI).toNat * 2 ^ 32)
/-- A write of TIME_ADJCTL (R420, R424): a TAG other than 2 ignores the write; GO applies E. (DEDUCED: log 79) -/
def Chip.timeAdjctl (c : Chip) (v : Nat) : Chip :=
  if natBits v 2 1 ≠ 2 then c else
  let c1 := c.setFld Reg.TIME_ADJCTL 2 1 2
  if v.testBit 0 then c1.timeUpdate 2 (timeAdj c1) else c1
/-- TIME_ADJ_GO (R420): a write of TIME_ADJCTL with GO. -/
def execTimeAdjGo (tag : BitVec 2) (s : State) : Host.Outcome State Fault Refusal :=
  run (fun c => c.timeAdjctl (1 + 2 * tag.toNat)) s

/-- The TAI instant of a CANopen time of day: milliseconds of the day, and days since 1984-01-01, which is day 5,113 of the
Timebase; UTC becomes TAI by TIME_UTC_OFS seconds (R419). (PRESUMED: log 80) -/
def canInstant (c : Chip) (ms days : Nat) : Nat :=
  ((5113 + days) * 86400 + c.fld Reg.TIME_UTC_OFS 15 0) * 1000000000 + ms * 1000000
/-- A CANopen TIME object is an update of source 3 (R419). (PRESUMED: log 80) -/
def Chip.canTime (c : Chip) (data : List Byte) : Chip :=
  let ms := natBits (leNat (data.take 4)) 27 0
  let days := leNat ((data.drop 4).take 2)
  c.timeUpdate 3 ((c.time.now.toNat : Int) - (canInstant c ms days : Int))

/-- TIME_SOURCE_TIMEOUT (R421): the locked source has missed its timeout. The last trim is kept. -/
def execTimeSourceTimeout (s : State) : Host.Outcome State Fault Refusal :=
  run (fun c =>
    let src := timeActive c
    if timeState c = 2 ∧ !followsManager c ∧ !sourceFresh c src then
      { c.timeEnter 3 with time := { c.time with good := 0 } }
    else c) s

/-- One nanosecond of the Timebase (R418, R420): the trim adds or holds back a nanosecond when it has gathered one. The wrap
sets WRAPPED. -/
def Chip.timeTick (c : Chip) : Chip :=
  let f := c.time.frac + c.time.trim
  let n : Nat := if 1000000000 ≤ f then 2 else if f ≤ -1000000000 then 0 else 1
  let g := if 1000000000 ≤ f then f - 1000000000 else if f ≤ -1000000000 then f + 1000000000 else f
  let now := c.time.now.toNat + n
  let c1 := { c with time := { c.time with now := BitVec.ofNat 64 now, frac := g } }
  if 2 ^ 64 ≤ now then c1.setBit Reg.TIME_STAT 26 true else c1
/-- TIMEBASE_WRAP (R418): from 2^64 − 1 the Timebase goes to 0. -/
def execTimebaseWrap (s : State) : Host.Outcome State Fault Refusal :=
  run (fun c =>
    if c.time.now.toNat = 2 ^ 64 - 1 then
      { c.setBit Reg.TIME_STAT 26 true with time := { c.time with now := 0 } }
    else c) s

/-- A read of TIME_NOW_LO (R418): the upper half of the same instant goes into TIME_NOW_HI. -/
def Chip.timeRead (c : Chip) : Nat × Chip :=
  (c.time.now.toNat % 2 ^ 32, c.setReg Reg.TIME_NOW_HI (BitVec.ofNat 32 (c.time.now.toNat / 2 ^ 32)))
/-- TIME_NOW_READ (R418). -/
def execTimeNowRead (s : State) : Host.Outcome State Fault Refusal :=
  run (fun c => (c.timeRead.2).respond (respOk c.timeRead.1)) s

/-- XTAL_FAIL (R479): the always-on domain runs from the RC. -/
def execXtalFail (s : State) : Host.Outcome State Fault Refusal :=
  runAny (fun c => if c.pow.xtalLost then c else { c with pow := { c.pow with xtalLost := true } }.raise 10) s

end Sys2Proof.Machine
end

