-- ==== Sys2Proof/Machine/Spindle.lean ====
section
/-!
DEFINITION. The Spindle links and the system of devices (R515 to R521, R526, R530, R531).
-/
namespace Sys2Proof.Machine

/-! ### Gang mode (R526, R530) -/

/-- The system runs in gang mode when it was switched on at this start (R430), the map is valid and every device of it is reachable at
the start (R526).
(DESIGN CHOICE: log 111) -/
def Chip.gangTry (c : Chip) : Chip :=
  if isManager c && decide (c.spin.mapOk = some true) && c.spin.gang && !c.spin.left && !inGang c &&
      decide (c.ns ≤ c.spin.since + 500000000) && decide (c.spin.map &&& reachMask c = c.spin.map)
  then { c.setBit Reg.SPIN_STAT 29 true with spin := { c.spin with gangMap := c.spin.map } } else c
/-- The manager loses a device of the gang (R530): EV229, and cause 0x01 for every context of the round. (DESIGN CHOICE: log 111) -/
def Chip.gangBreak (c : Chip) : Chip :=
  let c1 := c.raise 229
  if c1.grn.running.isSome then
    ((boundTiles c1).foldl (fun (d : Chip) t => d.addCause t 1) { c1 with spin := { c1.spin with broken := true } }).managerSay .broken
  else c1.gangRest
/-- A gang worker loses the manager (R530): its queue is discarded (R115), its round ends with every context FAULTED with cause
0x01, GRN_CTL.HOLD is set, EV229, and it leaves gang mode. -/
def Chip.gangLeave (c : Chip) : Chip :=
  let c0 := c.seqDiscard
  let c1 := match c0.grn.running with
    | none => c0
    | some r => Chip.raise (r.boundInOrder.foldl (fun (d : Chip) (b : Nat × Nat) => d.faultCtx b.2 1) (c0.clearRound r)) 51
  let c2 := (c1.setBit Reg.GRN_CTL 3 true).setBit Reg.SPIN_STAT 29 false
  Chip.raise { c2 with spin := { c2.spin with left := true } } 229

/-- A worker learns that its system is no longer a gang (R530): every context of a round that runs is FAULTED with cause 0x01 at its
end, and the worker runs on alone until the next start. -/
def Chip.gangDrop (c : Chip) : Chip :=
  let c1 := (boundTiles c).foldl (fun (d : Chip) t => d.addCause t 1) (c.setBit Reg.SPIN_STAT 29 false)
  { c1 with spin := { c1.spin with left := true }, grn := { c1.grn with gangNext := none, gangStart := false } }

/-- The manager's view of what is reachable changes (R519, R530): the gang breaks where it has lost a device of it.
(DESIGN CHOICE: log 110) -/
def Chip.reachSet (c : Chip) (m : Nat) : Chip :=
  let lost := c.spin.gangMap &&& reachMask c &&& (65535 ^^^ m)
  let c1 := c.setFld Reg.SPIN_STAT 15 0 m
  if isManager c && c.bit Reg.SPIN_STAT 29 && decide (lost ≠ 0) then c1.gangBreak else c1.gangTry

/-! ### Placement (R518, R520) -/

/-- The position a device takes from its W or N link. (DESIGN CHOICE: log 110) -/
def placeFrom (l peer : Nat) : Option Nat :=
  if l = 3 then (if gridX peer < 3 then some (peer + 1) else none)
  else (if gridY peer < 3 then some (peer + 4) else none)
/-- The upstream link that places a worker: W before N. -/
def upstream (c : Chip) : Option Nat :=
  [3, 0].find? (fun l => linkUp c l && (placeFrom l (c.fld (Reg.SPIN_LINKl l) 27 24)).isSome)
/-- A worker takes its place, or has none (R518); the manager stays device 0. -/
def Chip.place (c : Chip) : Chip :=
  if isManager c then c else
  match (upstream c).bind (fun l => placeFrom l (c.fld (Reg.SPIN_LINKl l) 27 24)) with
  | some d =>
    { ((c.setBit Reg.SPIN_STAT 30 true).setFld Reg.SPIN_STAT 27 24 d).setFld Reg.SPIN_STAT 15 0 (2 ^ d) with deviceNo := d, spin := { c.spin with follows := true } }
  | none => { ((c.setBit Reg.SPIN_STAT 30 false).setFld Reg.SPIN_STAT 27 24 15).setFld Reg.SPIN_STAT 15 0 1 with deviceNo := 15 }

/-- A worker's Timebase follows its upstream link (R520): LOCKED with ACTIVE 5 on the manager's TAI. A difference of TIME_STEP_TH or
more is a step of the Timebase (R321, R420): EV197, and a stook falls due. (DEDUCED: log 152) -/
def Chip.followTai (c : Chip) (tai : DWord) : Chip :=
  let e : Int := (c.time.now.toNat : Int) - tai.toNat
  let c1 := Chip.timeEnter { c.setFld Reg.TIME_STAT 29 27 5 with time := { c.time with now := tai, trim := 0, frac := 0 } } 2
  if (c.reg Reg.TIME_STEP_TH).toNat * 1000 ≤ e.natAbs then
    (Chip.stookRebase { c1 with ev := { c1.ev with timeStep := true } }).raise 197
  else c1

/-- Another queue of the gang has stopped (R527): this one stops in the same state, with its routine abandoned where that one's was;
a fault found elsewhere leaves the macro-instruction at the head. -/
def Chip.gangStop (c : Chip) (st : Nat) (abandoned : Bool) : Chip :=
  if queueState c ≠ 0 then c else
  match c.seq.running with
  | some r =>
    let back := ((c.setRoutine none).setQueue (r.insn :: c.seq.queue)).endStep
    if st = 1 then back.setQueueState 1
    else if abandoned then (((back.setBit Reg.ASQ_QSTAT 27 true).wrapCount Reg.ASQ_ABANDONS 1 85).raise 86).setQueueState st
    else c.setQueueState st
  | none => c.setQueueState st
/-- The gang's queues are in RUN again: this one is where nothing of its own holds it. -/
def Chip.gangRun (c : Chip) : Chip :=
  if 2 ≤ queueState c ∧ restState c = 0 then c.setQueueState 0 else c
/-- A message of the gang takes effect (R527, R528, R530): on a worker what its manager sends; on the manager a worker's stop or release,
which it passes on. Entries enter a worker's queue in order while it has space (R111). (DESIGN CHOICE: log 127) -/
def Chip.gangHear (c : Chip) (m : GangMsg) : Chip :=
  if !inGang c then c
  else if isManager c then
    match m with
    | .stop st ab => if queueState c = 0 then (c.gangStop st.val ab).managerSay m else c
    | .run => if queueState c = 3 ∧ restState c = 0 then c.gangRun.managerSay m else c
    | _ => c
  else
    match m with
    | .entry i => if queueCount c < 64 then c.enqueue i else c
    | .stop st ab => c.gangStop st.val ab
    | .run => c.gangRun
    | .resume => c.seqResume
    | .discard => c.seqDiscard
    | .round cls k =>
      let d := c.withdraw
      ({ d with grn := { d.grn with gangNext := some (cls.val, k.val), gangStart := false } }).selection
    | .start => Chip.turnaround { c with grn := { c.grn with gangStart := true } }
    | .roundEnd o => (c.setFld Reg.GRN_RCTL 2 1 o.val).acceptEnd
    | .preempt => match c.grn.running with
      | some r => c.preemptRound r
      | none => c.withdraw
    | .broken => (boundTiles c).foldl (fun (d : Chip) t => d.addCause t 1) c
/-- What link l's report says of the gang's devices beyond it. -/
def Chip.gangPeer (c : Chip) (l : Nat) (r : PeerReport) : Chip :=
  let p : GangPeer := { full := r.full, idle := r.idle, staged := r.staged, stalled := r.stalled, point := r.point.val }
  { c with spin := { c.spin with peers := mapInsert l p (mapErase l c.spin.peers) } }

/-! ### Links up and down (R516, R517) -/

/-- The link opposite to l: only E faces W and S faces N (R515). -/
def facing (l : Nat) : Nat := (l + 2) % 4

/-- What link l tells a placed worker: from upstream the manager's TAI, the system map, gang mode and what the gang sends (R519, R520, R526,
R527), in order; at the end that the system is a gang no more (R530). -/
def Chip.hearManager (c : Chip) (r : PeerReport) : Chip :=
  let c1 := (c.followTai r.tai).setMap r.map.toNat
  let c2 := if r.gang && !c1.spin.left then
      { c1.setBit Reg.SPIN_STAT 29 true with spin := { c1.spin with gangMap := (r.members &&& r.map).toNat } }
    else c1
  let c3 := r.sent.foldl Chip.gangHear c2
  if !r.gang && inGang c3 then c3.gangDrop else c3
/-- Link l trains (R517). On a link that is up already the report only tells what is reachable now, and what the other end sends. A port
that changes keeps its state until its drain (R268, R269). (DESIGN CHOICE: log 110) -/
def Chip.linkTrain (c : Chip) (l : Nat) (r : PeerReport) : Chip :=
  if !c.bit Reg.SPIN_CTL l || !c.isOn (.spindle l) || decide (r.side.val ≠ facing l) then c else
  let was := linkUp c l
  let c0 := if was then c else c.pinPort (spindleNode l)
  let c1 := (c0.setBit (Reg.SPIN_LINKl l) 31 true).setFld (Reg.SPIN_LINKl l) 27 24 r.device.val
  let c2 := Chip.gangPeer { c1 with spin := { c1.spin with inRow := mapSet 0 c1.spin.inRow l 0 } } l r
  let c3 := if was then c2 else (c2.raise (224 + l)).askDrain (spindleNode l) 0
  let c4 := c3.place
  let via := viaLink c4 l
  let far := (r.reach.toNat ||| 2 ^ r.device.val) &&& via
  if isManager c4 then r.sent.foldl Chip.gangHear (c4.reachSet ((reachMask c4 &&& (65535 ^^^ via)) ||| far))
  else
    let c5 := { c4 with spin := { c4.spin with far := (c4.spin.far &&& (65535 ^^^ via)) ||| far } }
    if upstream c5 = some l then c5.hearManager r else c5
/-- Link l goes down (R517, R520, R530, R561). -/
def Chip.linkLose (c : Chip) (l : Nat) : Chip :=
  if !linkUp c l then c else
  let up := upstream c
  let via := viaLink c l
  let c1 := (((c.pinPort (spindleNode l)).setBit (Reg.SPIN_LINKl l) 31 false).raise (224 + l)).lifeAdd 28 1
  let c2 := Chip.askDrain { c1 with spin := { c1.spin with inRow := mapSet 0 c1.spin.inRow l 0, peers := mapErase l c1.spin.peers } }
    (spindleNode l) 0
  if isManager c2 then c2.reachSet (reachMask c2 &&& (65535 ^^^ via))
  else
    let c3 := Chip.place { c2 with spin := { c2.spin with far := c2.spin.far &&& (65535 ^^^ via) } }
    if up = some l ∧ (upstream c3).isNone then
      let c4 := if timeState c3 = 0 then c3 else c3.timeEnter 3
      if c4.bit Reg.SPIN_STAT 29 then c4.gangLeave else c4
    else c3
/-- A frame with a bad CRC is replayed (R516, R517): REPLAYS, EV228 when it goes from 0 to 1, and the sixteenth replay in a
row of one frame takes the link down. `again`: the same frame as the replay before. -/
def Chip.frameReplay (c : Chip) (l : Nat) (again : Bool) : Chip :=
  if !linkUp c l then c else
  let n := if again then mapGet 0 c.spin.inRow l + 1 else 1
  let first := decide (c.fld (Reg.SPIN_LINKl l) 15 0 = 0)
  let c1 := (c.countFld (Reg.SPIN_LINKl l) 15 0 1).raiseIf first 228
  let c2 := { c1 with spin := { c1.spin with inRow := mapSet 0 c1.spin.inRow l n } }
  if 16 ≤ n then c2.linkLose l else c2
/-- A write of SPIN_CTL (R531): a link whose EN is 0 goes down. -/
def Chip.spinCtl (c : Chip) (v : Nat) : Chip :=
  (List.range 4).foldl (fun d l => if v.testBit l then d else d.linkLose l) (c.setFld Reg.SPIN_CTL 3 0 v)
/-- What a read of SPIN_LINKl returns: a link whose domain is off reads as down (R256). -/
def linkWord (c : Chip) (l : Nat) : Nat :=
  if c.isOn (.spindle l) then (c.reg (Reg.SPIN_LINKl l)).toNat else 0

/-! ### The start of a system (R519, R521) -/

/-- The manager checks the system map, and takes gang mode as it stands at this start (R430, R519, R526). (DEDUCED: log 177) -/
def Chip.mapCheck (c : Chip) : Chip :=
  if !isManager c || c.spin.mapOk.isSome then c else
  let m := odNat c 0x2F01 1
  let c1 := { c with spin := { c.spin with mapOk := some (mapValid m), gang := decide (odNat c 0x2F01 2 = 1) } }
  if mapValid m then (c1.setMap m).gangTry else ((c1.setMap 1).setBit Reg.SPIN_STAT 28 true).raise 230
/-- Both copies fail, or a worker has nowhere to read them (R345, R521). -/
def Chip.bootFail (c : Chip) : Chip := ((c.setBit Reg.SEAL_STATE 24 true).raise 19).sealError 8

/-- LINK_UP (R517). -/
def execLinkUp (l : Fin 4) (r : PeerReport) (s : State) : Host.Outcome State Fault Refusal := run (fun c => c.linkTrain l.val r) s
/-- LINK_DOWN (R517). -/
def execLinkDown (l : Fin 4) (s : State) : Host.Outcome State Fault Refusal := run (fun c => c.linkLose l.val) s
/-- FRAME_REPLAY (R516). -/
def execFrameReplay (l : Fin 4) (again : Bool) (s : State) : Host.Outcome State Fault Refusal :=
  run (fun c => c.frameReplay l.val again) s
/-- SYSTEM_MAP_CHECK (R519). -/
def execSystemMapCheck (s : State) : Host.Outcome State Fault Refusal := run Chip.mapCheck s
/-- WORKER_REACH_TIMEOUT (R519): a present device whose link is not up 500 ms after reset release. -/
def execWorkerReachTimeout (d : Fin 16) (s : State) : Host.Outcome State Fault Refusal :=
  run (fun c =>
    if isManager c && c.spin.map.testBit d.val && !(reachMask c).testBit d.val && !c.spin.absent.testBit d.val &&
        decide (c.spin.since + 500000000 ≤ c.ns) then
      Chip.raise { c with spin := { c.spin with absent := c.spin.absent ||| 2 ^ d.val } } 230
    else c) s
/-- LINK_STAT_READ (R531): REPLAYS is returned and cleared. -/
def execLinkStatRead (l : Fin 4) (s : State) : Host.Outcome State Fault Refusal :=
  run (fun c => (c.respond (respOk (linkWord c l.val))).setFld (Reg.SPIN_LINKl l.val) 15 0 0) s

end Sys2Proof.Machine
end

