-- ==== Sys2Proof/Machine/CanBus.lean ====
section
/-!
DEFINITION. The four CAN FD controllers (R441 to R445): frames received and sent through the rings, the node's share of them,
error states and bus-off.
-/
namespace Sys2Proof.Machine

/-- CAN_STATc.STATE: 0 error-active, 1 error-passive, 2 bus-off. -/
def canState (c : Chip) (k : Nat) : Nat := c.fld (Reg.CAN_STATc k) 31 30
/-- Does controller k take part on its bus? -/
def canOn (c : Chip) (k : Nat) : Bool := c.isOn .can && c.bit (Reg.CAN_CTLc k) 31 && decide (canState c k ≠ 2)
/-- Is controller k the CANopen node's, and has the node started (R435, R444, R522)? -/
def nodeOn (c : Chip) (k : Nat) : Bool := decide (c.od.nodeCtl = k) && decide (c.od.nmt ≠ 0)

/-- The data lengths of ISO 11898-1 by data length code. -/
def dlcLengths : List Nat := [0, 1, 2, 3, 4, 5, 6, 7, 8, 12, 16, 20, 24, 32, 48, 64]
/-- The data length code of a frame: of a classical frame with 8 bytes any code from 8 to 15 (ISO 11898-1). -/
def dlcOf (f : CanFrame) : Nat :=
  if f.rtr || (!f.fd && decide (f.data.length = 8) && decide (8 < f.dlc % 16)) then f.dlc % 16 else ((List.range 16).find? (fun i => decide (f.data.length ≤ listGet 64 dlcLengths i))).getD 15
/-- Bytes that a data length code stands for. -/
def dlcBytes (fd : Bool) (dlc : Nat) : Nat := if fd then listGet 64 dlcLengths dlc else Nat.min 8 (listGet 64 dlcLengths dlc)

/-- The identifier word of a frame (R443): an 11-bit identifier lies in [28:18]. -/
def canIdWord (f : CanFrame) : Nat :=
  f.rtr.toNat * 2 ^ 30 + f.ext.toNat * 2 ^ 29 + (if f.ext then f.id % 2 ^ 29 else f.id % 2 ^ 11 * 2 ^ 18)
/-- The arbitration field of a frame: the lesser wins. -/
def canPriority (f : CanFrame) : Nat :=
  if f.ext then (((f.id / 2 ^ 18 % 2 ^ 11 * 2 + 1) * 2 + 1) * 2 ^ 18 + f.id % 2 ^ 18) * 2 + f.rtr.toNat
  else ((f.id % 2 ^ 11 * 2 + f.rtr.toNat) * 2) * 2 ^ 19

/-- Does a frame carry a COB-ID (its bit 29 the frame format)? (DESIGN CHOICE: log 98) -/
def cobMatches (f : CanFrame) (cob : Nat) : Bool :=
  if cob.testBit 29 then f.ext && decide (f.id = cob % 2 ^ 29) else !f.ext && decide (f.id = cob % 2 ^ 11)
/-- The RPDO, 0 to 3, whose enabled COB-ID a frame carries (R435). -/
def rpdoOf (c : Chip) (f : CanFrame) : Option Nat :=
  (List.range 4).find? (fun i => !(odNat c (0x1400 + i) 1).testBit 31 && cobMatches f (odNat c (0x1400 + i) 1))
/-- A heartbeat that 0x1016 consumes (R444): node-ID in [23:16], a time in [15:0]. (DESIGN CHOICE: log 98) -/
def isHeartbeat (c : Chip) (f : CanFrame) : Bool :=
  let e := odNat c 0x1016 1
  decide (e % 65536 ≠ 0) && !f.ext && decide (f.id = 0x700 + natBits e 22 16) && decide (natBits e 22 16 ≠ 0)
/-- Does the node consume a frame through the engine (R444)? -/
def nodeFrame (c : Chip) (f : CanFrame) : Bool :=
  (!f.ext && (decide (f.id = 0) || decide (f.id = 0x600 + c.od.nodeId))) || (rpdoOf c f).isSome || cobMatches f (odNat c 0x1012 0)

/-- Does filter n of controller k match (R444)? -/
def filterMatches (c : Chip) (k n : Nat) (f : CanFrame) : Bool :=
  let r := Reg.CAN_FLTc_k k n
  let mask := c.fld (Reg.CAN_FLTMc_k k n) 28 0
  c.bit r 31 && (c.bit r 29 == f.ext) && decide (canIdWord f % 2 ^ 29 &&& mask = c.fld r 28 0 &&& mask)

/-- The words of a ring entry's header (R443). -/
def canHeader (f : CanFrame) (phase err : Bool) (filter : Nat) (ts : DWord) : List Byte :=
  leBytes 4 (canIdWord f) ++
    leBytes 4 (phase.toNat * 2 ^ 31 + f.fd.toNat * 2 ^ 30 + f.brs.toNat * 2 ^ 29 + f.esi.toNat * 2 ^ 28 + err.toNat * 2 ^ 27 +
      filter * 2 ^ 16 + dlcOf f) ++ leBytes 8 ts.toNat
/-- The frame in a TX ring entry (R443). -/
def canFrameOf (bs : List Byte) : CanFrame :=
  let w0 := leNat (bs.take 4)
  let w1 := leNat ((bs.drop 4).take 4)
  let fd := w1.testBit 30
  let rtr := w0.testBit 30 && !fd
  let n := dlcBytes fd (w1 % 16)
  { id := if w0.testBit 29 then w0 % 2 ^ 29 else natBits w0 28 18
    ext := w0.testBit 29, fd := fd, brs := fd && w1.testBit 29, rtr := rtr, dlc := w1 % 16
    data := if rtr then [] else (bs.drop 16).take n }

/-- A received frame is posted to the RX ring with EV204 + k, or lost to a full one (R443). -/
def Chip.canPost (c : Chip) (k n : Nat) (f : CanFrame) (sof : DWord) : Chip :=
  let r := Reg.CANRX_BASE_LO k
  if ringFull c r then c.countFld (Reg.CAN_STATc k) 7 0 1 else
  let data := if f.rtr then [] else f.data.take 64
  let bs := listFit 0 128 (canHeader f (ringPhase c r) false n sof ++ data)
  (((c.blockStore (ringEntry c r 128 (ringTail c r)) bs).2).ringProduced r).raise (204 + k)

/-- An error-free frame is received (R441, R444): by the node, the first filter that matches, or nobody. -/
def Chip.canReceive (c : Chip) (k : Nat) (f : CanFrame) (sof : DWord) : Chip :=
  if !canOn c k || (f.fd && !c.bit (Reg.CAN_CTLc k) 30) then c
  else if nodeOn c k && (isHeartbeat c f || nodeFrame c f) then
    if Config.nodeBuffer ≤ c.od.nodeRx.length then c.raise 237
    else if isHeartbeat c f then c
    else { c with od := { c.od with nodeRx := c.od.nodeRx ++ [f] } }
  else
    match (List.range 32).find? (fun n => filterMatches c k n f) with
    | some n => c.canPost k n f sof
    | none => c
/-- CAN_RX_FRAME (R444); `sof` is the Timebase at its start of frame. -/
def execCanRxFrame (k : Fin 4) (f : CanFrame) (sof : DWord) (s : State) : Host.Outcome State Fault Refusal :=
  run (fun c => c.canReceive k.val f sof) s

/-- Complete the head entry of a TX ring (R443). -/
def Chip.canDone (c : Chip) (k : Nat) (f : CanFrame) (err : Bool) (sof : DWord) : Chip :=
  let r := Reg.CANTX_BASE_LO k
  let hdr := (canHeader f (ringPhase c r) err 0 sof).drop 4
  ((c.blockStore (ringEntry c r 128 (ringHead c r) + 4) hdr).2).ringCompleted r
/-- Put a frame on a bus. -/
def Chip.canPut (c : Chip) (k : Nat) (f : CanFrame) : Chip :=
  { c with can := { c.can with sent := c.can.sent ++ [(k, { f with esi := decide (canState c k = 1) })] } }
/-- The frame at the head of a TX ring. -/
def Chip.canHead (c : Chip) (k : Nat) : Option CanFrame × Chip :=
  let r := Reg.CANTX_BASE_LO k
  if ringEmpty c r then (none, c) else
  let x := c.blockRead (ringEntry c r 128 (ringHead c r)) 128
  (x.1.map canFrameOf, x.2)
/-- The frame of higher priority among the engine's queue and the ring is sent (R444); in bus-off and in listen-only both wait;
a disabled controller's entry is completed with ERR (R443). -/
def Chip.canTransmit (c : Chip) (k : Nat) (sof : DWord) : Chip :=
  if !c.isOn .can then c else
  let h := c.canHead k
  let c1 := h.2
  if !c.bit (Reg.CAN_CTLc k) 31 then
    match h.1 with
    | some f => c1.canDone k f true sof
    | none => c1
  else if canState c k = 2 || c.bit (Reg.CAN_CTLc k) 29 then c1
  else
    let mine := if nodeOn c k then c.od.nodeTx.head? else none
    let engine : CanFrame → Chip := fun f => Chip.canPut { c1 with od := { c1.od with nodeTx := c1.od.nodeTx.drop 1 } } k f
    let ring : CanFrame → Chip := fun f =>
      if f.fd && !c.bit (Reg.CAN_CTLc k) 30 then c1.canDone k f true sof else (c1.canPut k f).canDone k f false sof
    match mine, h.1 with
    | some a, some b => if canPriority a ≤ canPriority b then engine a else ring b
    | some a, none => engine a
    | none, some b => ring b
    | none, none => c1
/-- CAN_TX_FRAME (R443). -/
def execCanTxFrame (k : Fin 4) (sof : DWord) (s : State) : Host.Outcome State Fault Refusal :=
  run (fun c => c.canTransmit k.val sof) s

/-- CAN_ERROR_STATE (R441, R443): controller k is now error-active (0), error-passive (1) or bus-off (2), with these counters; entry to
the last two raises EV200 + k, and with ABOR recovery from bus-off starts by itself. -/
def execCanErrorState (k : Fin 4) (st : Fin 3) (tec rec_ : Byte) (s : State) : Host.Outcome State Fault Refusal :=
  run (fun c =>
    if !c.isOn .can || !c.bit (Reg.CAN_CTLc k.val) 31 || decide (canState c k.val = 2) then c else
    let entered := decide (st.val ≠ 0) && decide (canState c k.val ≠ st.val)
    let a := Reg.CAN_STATc k.val
    let c1 := ((c.setFld a 31 30 st.val).setFld a 23 16 rec_.toNat).setFld a 15 8 (if st.val = 2 then 255 else tec.toNat)
    let c2 := if decide (st.val = 2) && c.bit (Reg.CAN_CTLc k.val) 28 then
        { c1 with can := { c1.can with recov := c1.can.recov ++ [k.val] } } else c1
    c2.raiseIf entered (200 + k.val)) s
/-- CAN_CTLc.RECOVER (R441). -/
def Chip.canRecover (c : Chip) (k : Nat) : Chip :=
  if canState c k = 2 && !c.can.recov.contains k then { c with can := { c.can with recov := c.can.recov ++ [k] } } else c
/-- RECOVER (R441). -/
def execRecover (k : Fin 4) (s : State) : Host.Outcome State Fault Refusal := regRun (Reg.CAN_CTLc k.val) (fun c => c.canRecover k.val) s
/-- BUS_OFF_RECOVERY_DONE (R441): 128 occurrences of 11 recessive bits end the recovery; the counters are 0. -/
def execBusOffRecoveryDone (k : Fin 4) (s : State) : Host.Outcome State Fault Refusal :=
  run (fun c =>
    if !c.can.recov.contains k.val then c else
    let a := Reg.CAN_STATc k.val
    let c1 := (c.setFld a 31 30 0).setFld a 23 8 0
    { c1 with can := { c1.can with recov := c1.can.recov.filter (fun x => decide (x ≠ k.val)) } }) s
/-- CAN_STAT_READ (R445): RXLOST is returned and cleared. -/
def execCanStatRead (k : Fin 4) (s : State) : Host.Outcome State Fault Refusal :=
  regRun (Reg.CAN_STATc k.val) (fun c =>
    (c.respond (respOk (c.reg (Reg.CAN_STATc k.val)).toNat)).setFld (Reg.CAN_STATc k.val) 7 0 0) s

end Sys2Proof.Machine
end

