-- ==== Sys2Proof/Machine/Containers.lean ====
section
/-!
DEFINITION. Image containers (R340 to R343, R589), the micro-store loader (R133 to R136, R587, R588), the OTP's fields (R337) and
the Seal Unit's DMA engine.
-/
namespace Sys2Proof.Machine

/-! ### The DMA engine -/

/-- Do n bytes at a lie wholly in DRAM, in either view (R589)? -/
def whollyDram (c : Chip) (a n : Nat) : Bool :=
  let inside : Nat → Bool := fun x => match decodeAddr c x with
    | .loft _ _ => decide (x < 0x8000000000)
    | _ => false
  inside a && inside (a + n - 1) && (List.range (n / 4096 + 1)).all (fun k => inside (Nat.min (a + 4096 * k) (a + n - 1)))

/-- Do n bytes at a lie wholly in a memory that runs from base and has size bytes? -/
def whollyIn (base size a n : Nat) : Bool := decide (base ≤ a) && decide (a + n ≤ base + size)

/-- Read n bytes by the Seal Unit's DMA engine; none for an error. A read of the flash that the flash
controller still holds has come to its request timeout (R347). -/
def Chip.dmaRead (c : Chip) (a n : Nat) : Option (List Byte) × Chip :=
  let words : Bool := (wordsOf a n).any (fun w => c.eccAt w == .double || c.eccAt (w + 4) == .double)
  if whollyIn 0x10000000 0x10000000 a n then (if xipHeld c then none else some (xipBytes c a n), c)
  else if whollyIn 0 0x80000 a n || whollyIn 0x100000 0x80000 a n then
    (if c.isOn .coreMem && !words then some (c.rdBytes a n) else none, c)
  else if whollyIn 0x30000000 0x800000 a n then
    let r := c.siloRead (a - 0x30000000) n
    (if r.2.1 then none else some r.1, r.2.2)
  else
    let r := c.blockReadLong (n / 4096 + 2) a n
    (if r.2.1 then some r.1 else none, r.2.2)

/-- Write bytes by the DMA engine; false for an error. -/
def Chip.dmaWrite (c : Chip) (a : Nat) (bs : List Byte) : Bool × Chip :=
  let n := bs.length
  if whollyIn 0 0x80000 a n || whollyIn 0x100000 0x80000 a n then
    if c.isOn .coreMem then
      (true, (wordsOf a n).foldl (fun c w => (c.setEcc w .good).setEcc (w + 4) .good)
        (((c.wrBytes a bs).itcmSeen a n).snoopWrite a n))
    else (false, c)
  else c.blockWriteLong (n / 4096 + 2) a bs

/-! ### The OTP -/

/-- The device serial number. -/
def otpSerial (c : Chip) : List Byte := otpBytes c 0x10 16
/-- REVOKE (R337): [3:0] root slots, [7:4] debug slots, [8] password. -/
def otpRevoke (c : Chip) : Nat := leNat (otpBytes c 0x2A0 4)
/-- Root slot i. -/
def rootSlot (c : Chip) (i : Nat) : List Byte := otpBytes c (0x60 + 64 * i) 64
/-- Debug slot i. -/
def debugSlot (c : Chip) (i : Nat) : List Byte := otpBytes c (0x160 + 64 * i) 64
/-- The root slots of an owner: 0 and 1 vendor, 2 and 3 OEM (R336). -/
def ownerSlots (oem : Bool) : List Nat := if oem then [2, 3] else [0, 1]
/-- May slot i be used: programmed and not revoked (R337)? -/
def rootLive (c : Chip) (revoke i : Nat) : Bool := !blankBytes (rootSlot c i) && !revoke.testBit i

/-! ### The container (R340, R341, R589) -/

/-- The STATUS values of R351 that containers use. -/
def stBadArg : Nat := 0x02
/-- WRONG_PHASE. -/
def stWrongPhase : Nat := 0x03
/-- BAD_FORMAT. -/
def stBadFormat : Nat := 0x04
/-- BUS_ERROR. -/
def stBusError : Nat := 0x0A

/-- A field of a container's header. -/
def hdrNat (h : List Byte) (i n : Nat) : Nat := leNat ((h.drop i).take n)
/-- Are bytes of a header zero? -/
def hdrZero (h : List Byte) (i n : Nat) : Bool := blankBytes ((h.drop i).take n)
/-- OWNER: true for an OEM container. -/
def hdrOem (h : List Byte) : Bool := (hdrNat h 4 1).testBit 1
/-- ENC. -/
def hdrEnc (h : List Byte) : Bool := (hdrNat h 4 1).testBit 0

/-- The counter of a TYPE's class (R340), none where the TYPE has none. -/
def classCounter : Nat → Option Nat
  | 1 => some 2 | 2 => some 1 | 3 => some 3 | 4 => some 1 | 5 => some 1 | 6 => some 4 | _ => none

/-- Check 1 of R341: R342's phases, modes and lifecycle states. -/
def phaseAllows (c : Chip) (typ : Nat) (oem : Bool) : Bool :=
  let phase := c.fld Reg.SYS_MODE 15 8
  let mode := c.fld Reg.SYS_MODE 7 0
  let boot := decide (phase = 1) && !c.su.bootDone
  let service := decide (phase = 0) && decide (mode = 5)
  decide (lifecycle c ≠ 3) && !(decide (lifecycle c = 0) && oem) && (match typ with
    | 2 => boot && !c.bit Reg.ASQ_LOAD_STAT 31
    | 3 => decide (phase = 1) || decide (phase = 2) || service
    | 4 | 5 => boot
    | 7 => service
    | 0x0B => decide (lifecycle c = 0)
    | 0x0C => decide (lifecycle c = 1) || decide (lifecycle c = 2)
    | _ => true)

/-- R589's limits of PAYLOAD_LEN and LOAD_ADDR. -/
def lengthOk (c : Chip) (h : List Byte) : Bool :=
  let n := hdrNat h 0x0C 4
  let a := hdrNat h 0x10 8
  let mul4 := decide (n % 4 = 0)
  match hdrNat h 3 1 with
  | 1 =>
    if c.su.released then
      decide (4 ≤ n) && decide (n ≤ 16777216) && mul4 &&
        (whollyIn 0 0x80000 a n || whollyIn 0x100000 0x80000 a n || whollyDram c a n)
    else decide (4 ≤ n) && decide (n ≤ 524288) && mul4 && whollyIn 0 0x80000 a n
  | 2 | 3 => decide (8 ≤ n) && decide (n ≤ 98304) && mul4 && decide (a = 0)
  | 4 => decide (4 ≤ n) && decide (n ≤ 131072) && mul4 && decide (a = 0)
  | 5 => decide (4 ≤ n) && decide (n ≤ 65536) && mul4 && decide (a = 0)
  | 6 => decide (80 ≤ n) && decide (n ≤ 331856) && whollyDram c a n
  | 7 => decide (n = 80) && decide (a = 0)
  | 8 => decide (n = 20) && decide (a = 0)
  | 9 => decide (n = 16) && decide (a = 0)
  | 0x0A => decide (n = 596) && decide (a = 0)
  | 0x0B => decide (n = 48) && decide (a = 0) && decide (hdrNat h 8 4 = 0)
  | 0x0C => decide (21 ≤ n) && decide (n ≤ 8212) && decide (a = 0)
  | _ => false

/-- Check 2 of R341 on the header. -/
def formatOk (c : Chip) (h : List Byte) : Bool :=
  let typ := hdrNat h 3 1
  let flags := hdrNat h 4 1
  let owner := match typ with
    | 1 | 8 | 0x0A => true
    | 2 | 4 | 5 | 0x0B | 0x0C => !hdrOem h
    | _ => hdrOem h
  let enc := decide (typ = 2) || decide (typ = 4) || decide (typ = 5)
  decide (hdrNat h 0 2 = 0x4953) && decide (hdrNat h 2 1 = 1) && decide (1 ≤ typ) && decide (typ ≤ 0x0C) &&
    decide (flags < 4) && owner && (hdrEnc h == enc) && hdrZero h 5 3 && (decide (typ = 1) || hdrZero h 0x18 8) &&
    (enc || hdrZero h 0x20 12) && hdrZero h 0x2C 4 && (enc || hdrZero h 0x30 16) && hdrZero h 0x80 128 &&
    hdrZero h 0x304 252 && lengthOk c h

/-- Check 3 of R341: the exponent (R335), and a live root slot of the owner. -/
def keyOk (c : Chip) (h : List Byte) : Bool :=
  let key := (h.drop 0x100).take 516
  decide (key.drop 512 = [0, 1, 0, 1]) &&
    (ownerSlots (hdrOem h)).any (fun i => rootLive c (otpRevoke c) i && decide (rootSlot c i = sha key))
/-- Check 4 of R341. -/
def signatureOk (h : List Byte) : Bool :=
  Config.pssVerify ((h.drop 0x100).take 512) (h.take 0x400) ((h.drop 0x400).take 512)
/-- Check 5 of R341. -/
def versionOk (c : Chip) (h : List Byte) : Bool :=
  let svn := hdrNat h 8 4
  match hdrNat h 3 1 with
  | 7 => decide (svn = sealCounter c 5 + 1)
  | t => match classCounter t with
    | some k => decide (sealCounter c k ≤ svn)
    | none => true

/-- Checks 3 to 5 of R341 on a header: 0, or the STATUS of the first that fails. -/
def signerStatus (c : Chip) (h : List Byte) : Nat :=
  if !keyOk c h then 0x05
  else if !signatureOk h then 0x06
  else if !versionOk c h then 0x07
  else 0
/-- Checks 1 to 5 of R341 on a header: 0, or the STATUS of the first that fails. -/
def headerStatus (c : Chip) (h : List Byte) : Nat :=
  if !phaseAllows c (hdrNat h 3 1) (hdrOem h) then stWrongPhase
  else if !formatOk c h then stBadFormat
  else signerStatus c h

/-- What a container's payload turns out to be. -/
inductive Payload where
  | bad (status : Nat)
  | good (bytes : List Byte)            -- decrypted when ENC = 1

/-- Read and check a payload (check 6 of R341): BUS_ERROR, then BAD_HASH, then DECRYPT_FAIL. -/
def Chip.readPayload (c : Chip) (a : Nat) (h : List Byte) : Payload × Chip :=
  let n := hdrNat h 0x0C 4
  let r := c.dmaRead (a + 0x600) n
  match r.1 with
  | none => (.bad stBusError, r.2)
  | some raw =>
    if sha raw ≠ (h.drop 0x40).take 64 then (.bad 0x08, r.2)
    else if hdrEnc h then
      let key := otpBytes c 0x40 32
      let iv := (h.drop 0x20).take 12
      if leBytes 16 (Config.gcmTag key iv (h.take 0x20) raw).toNat ≠ (h.drop 0x30).take 16 then (.bad 0x09, r.2)
      else (.good (gcmCrypt key iv raw), r.2)
    else (.good raw, r.2)

/-- A container's check 2 also needs LEN of a DIK_CERT payload (R589). -/
def Chip.certLenStatus (c : Chip) (a : Nat) (h : List Byte) : Nat × Chip :=
  if hdrNat h 3 1 ≠ 0x0C then (0, c) else
  let r := c.dmaRead (a + 0x610) 4
  match r.1 with
  | none => (stBusError, r.2)
  | some bs => (if hdrNat h 0x0C 4 = 20 + leNat bs then 0 else stBadFormat, r.2)

/-- Checks 1 to 5 of R341 on the container at `a`, the LEN of a DIK_CERT payload read within check 2 (R589). -/
def Chip.packageStatus (c : Chip) (a : Nat) (h : List Byte) : Nat × Chip :=
  if !phaseAllows c (hdrNat h 3 1) (hdrOem h) then (stWrongPhase, c)
  else if !formatOk c h then (stBadFormat, c)
  else
    let l := c.certLenStatus a h
    (if l.1 = 0 then signerStatus l.2 h else l.1, l.2)

/-- Read a header: none for an error, which is BUS_ERROR before check 1 (R341). -/
def Chip.readHeader (c : Chip) (a : Nat) : Option (List Byte) × Chip := c.dmaRead a 0x600

/-! ### The micro-store loader (R134 to R136) -/

/-- What the sections of a microcode payload come to: words and entries, or ASQ_LOAD_STAT's status 4 or 6. -/
inductive Sections where
  | good (words entries : List (Nat × Word))
  | bad (status : Nat)

/-- Read the sections of a payload whose region is [lo, hi) of the micro-store and [elo, ehi) of the entries (R134): a section that
reaches outside its region before what its body lacks. R134 names no status for a COUNT of 0 nor for a body shorter than its COUNT: both
are rejected with status 6; bytes 6 and 7 that are not 0 are tested before the region. (DESIGN CHOICE: log 153) -/
def sectionsOf (lo hi elo ehi : Nat) : Nat → List Byte → List (Nat × Word) → List (Nat × Word) → Sections
  | 0, _, _, _ => .bad 6
  | fuel + 1, bs, ws, es =>
    let typ := leNat (bs.take 2)
    let n := leNat ((bs.drop 2).take 2)
    let start := leNat ((bs.drop 4).take 2)
    let body := bs.drop 8
    let vals := (List.range n).map (fun i => BitVec.ofNat 32 (leNat ((body.drop (4 * i)).take 4)))
    let here := (List.range n).zip vals |>.map (fun e => (start + e.1, e.2))
    if bs.length < 8 ∨ leNat ((bs.drop 6).take 2) ≠ 0 then .bad 6
    else if typ = 0xFFFF then (if n = 0 ∧ start = 0 ∧ body = [] then .good ws es else .bad 6)
    else if typ = 1 ∧ (start < lo ∨ hi < start + n) ∨ typ = 2 ∧ (start < elo ∨ ehi < start + n) then .bad 4
    else if n = 0 ∨ body.length < 4 * n then .bad 6
    else if typ = 1 then sectionsOf lo hi elo ehi fuel (body.drop (4 * n)) (ws ++ here) es
    else if typ = 2 then sectionsOf lo hi elo ehi fuel (body.drop (4 * n)) ws (es ++ here)
    else .bad 6

/-- The sections of the vendor image. -/
def vendorSections (bs : List Byte) : Sections := sectionsOf 0 0x2000 0 0xC0 (bs.length / 8 + 1) bs [] []
/-- The sections of a customer image. -/
def customerSections (bs : List Byte) : Sections := sectionsOf 0x2000 0x4000 0xC0 0x100 (bs.length / 8 + 1) bs [] []

/-- Write microwords and dispatch entries; LOADED is set in each entry written (R134). -/
def Chip.writeMicrocode (c : Chip) (ws es : List (Nat × Word)) : Chip :=
  let c1 := ws.foldl (fun (c : Chip) e =>
    { c with seq := { c.seq with ustore := mapSet (if e.1 < 0x2000 then 0 else 0xD0000000) c.seq.ustore e.1 e.2 } }) c
  es.foldl (fun c e => c.setReg (Reg.ASQ_DISPn e.1) (BitVec.ofNat 32 (2 ^ 31 + (e.2.toNat &&& 0x7C003FFF)))) c1

/-- HINT of the opcodes that dispatch with YIELD 0 (R587); 0 for the others and for undefined ones. -/
def vendorHint (op : Nat) : Nat :=
  if [0x03, 0x04].contains op then 1
  else if [0x01, 0x02, 0x32, 0x33, 0x34, 0x39, 0x10, 0x11].contains op then 2
  else if [0x05, 0x06, 0x12, 0x30, 0x31, 0x35, 0x36, 0x37, 0x38].contains op then 3
  else if [0x08, 0x20].contains op then 0xE
  else if [0x09, 0x0A].contains op then 0xF
  else if [0x28, 0x29].contains op then 0xD
  else if [0x50, 0x51, 0x52].contains op then 5
  else if [0x61, 0x62].contains op then 4
  else 0
/-- HINT of the opcodes of the separate class of R78, which dispatch with YIELD 1 (R587); none for the others. -/
def vendorYieldHint (op : Nat) : Option Nat :=
  if 0x3C ≤ op ∧ op ≤ 0x3F then some 2
  else if (0x80 ≤ op ∧ op ≤ 0x86) ∨ (0x88 ≤ op ∧ op ≤ 0x8B) then some 0xC
  else match op with
    | 0x40 => some 9 | 0x41 => some 3 | 0x44 => some 7 | 0x48 => some 8 | 0x53 => some 6
    | 0x54 => some 0xA | 0x55 => some 0xA | 0x60 => some 0xB | 0x63 => some 0xB
    | _ => none
/-- Bits [31:26] of the entry that the vendor image gives an opcode from 0x00 to 0xBF (R587): LOADED, YIELD, HINT. -/
def vendorAttrs (op : Nat) : Nat := match vendorYieldHint op with
  | some h => 0x30 + h
  | none => 0x20 + vendorHint op
/-- The attributes of R587 stand in every vendor entry; UADDR is the image's own. (DEDUCED: log 154) -/
def Chip.vendorEntries (c : Chip) : Chip :=
  (List.range 0xC0).foldl (fun (d : Chip) op => d.setFld (Reg.ASQ_DISPn op) 31 26 (vendorAttrs op)) c

/-- Empty the customer region and its entries, as at reset (R133, R136). -/
def Chip.emptyCustomer (c : Chip) : Chip :=
  let c1 := { c with seq := { c.seq with ustore := c.seq.ustore.filter (fun e => decide (e.1 < 0x2000)) } }
  (List.range 64).foldl (fun c k => c.setReg (Reg.ASQ_DISPn (0xC0 + k)) 0) c1

/-- Record ASQ_LOAD_STAT.STATUS. -/
def Chip.loadStat (c : Chip) (st : Nat) : Chip := c.setFld Reg.ASQ_LOAD_STAT 3 0 st
/-- ASQ_LOAD_STAT.STATUS for a mailbox status of checks 1 to 6 (R588). -/
def loadStatOf (status : Nat) : Nat := if status = stWrongPhase then 7 else if status = stBadFormat then 6 else 3

/-- Note an image loaded since reset (R343, R357). -/
def Chip.noteLoaded (c : Chip) (typ : Nat) (h : List Byte) : Chip :=
  { c with su := { c.su with loaded := c.su.loaded.filter (fun e => decide (e.1 ≠ typ)) ++
    [(typ, { svn := hdrNat h 8 4, header := h.take 0x400 })] } }

end Sys2Proof.Machine
end

