-- ==== Sys2Proof/Machine/DebugAuth.lean ====
section
/-!
DEFINITION. The debug ports' authorisation (R533, R534, R537 to R540): 0 JTAG, 1 PCIe-A, 2 Ethernet.
-/
namespace Sys2Proof.Machine

/-- Debug port p. -/
def debugPort (c : Chip) (p : Nat) : DebugPort := mapGet {} c.dbg.ports p
/-- Replace debug port p. -/
def Chip.setPortState (c : Chip) (p : Nat) (x : DebugPort) : Chip :=
  { c with dbg := { c.dbg with ports := mapSet {} c.dbg.ports p x } }
/-- Change debug port p. -/
def Chip.onPort (c : Chip) (p : Nat) (f : DebugPort → DebugPort) : Chip := c.setPortState p (f (debugPort c p))
/-- The level of port p. -/
def portLevel (c : Chip) (p : Nat) : Nat := (debugPort c p).level
/-- Does some port hold level n or more (R544)? -/
def somePortHolds (c : Chip) (n : Nat) : Bool := [0, 1, 2].any (fun p => decide (n ≤ portLevel c p))

/-- DBG_PORT as port p reads it (R556); PORT 3 is no port. -/
def portWord (c : Chip) (p : Nat) : Nat :=
  let x := debugPort c p
  if p < 3 then
    x.level * 2 ^ 30 + x.locked.toNat * 2 ^ 29 + x.fails * 2 ^ 25 + x.verify.isSome.toNat * 2 ^ 24 + x.result * 2 ^ 16 + p
  else 3

/-- Is port p there (R533): the Ethernet port in SERVICE only? -/
def portThere (c : Chip) (p : Nat) : Bool := decide (p ≠ 2) || decide (c.fld Reg.SYS_MODE 7 0 = 5)
/-- CLOSE ends the port's grant (R539). -/
def Chip.closePort (c : Chip) (p : Nat) : Chip := c.onPort p (fun x => { x with level := 0 })
/-- CHALLENGE (R537): a fresh nonce, a free value; a locked port refuses it uncounted (R538). -/
def Chip.challengePort (c : Chip) (p : Nat) : Chip :=
  if (debugPort c p).locked then c.onPort p (fun x => { x with result := 6 })
  else
    let r := c.drawBytes 32
    r.2.onPort p (fun x => { x with nonce := r.1, nonceAt := some c.ns })

/-- The bytes of the port's DBG_AUTHBUF. -/
def authBytes (c : Chip) (p off n : Nat) : List Byte := (List.range n).map (fun i => mapGet 0 (debugPort c p).buf (off + i))
/-- Is the port's nonce valid (R537)? -/
def nonceValid (c : Chip) (p : Nat) : Bool :=
  match (debugPort c p).nonceAt with
  | some t => decide (c.ns < t + 60000000000)
  | none => false
/-- What a debug key signs (R537): "SLN-DBG1", SERIAL, NONCE, LEVEL, PORT. -/
def debugMessage (c : Chip) (p level : Nat) : List Byte :=
  [0x53, 0x4C, 0x4E, 0x2D, 0x44, 0x42, 0x47, 0x31] ++ otpSerial c ++ listFit 0 32 (debugPort c p).nonce ++ leBytes 1 level ++
    leBytes 1 p
/-- The verdict on a key (R537): the RESULT. (DESIGN CHOICE: log 112) -/
def keyVerdict (c : Chip) (p level : Nat) : Nat :=
  let key := authBytes c p 0 516
  let live := (List.range 4).any (fun i =>
    let slot := listGet [] c.dbg.slots i
    !blankBytes slot && !c.dbg.revoke.testBit (4 + i) && decide (slot = sha key))
  if !nonceValid c p then 5
  else if !live then 2
  else if Config.pssVerify (key.take 512) (debugMessage c p level) (authBytes c p 0x204 512) then 1 else 3
/-- The verdict on a password (R537). -/
def passwordVerdict (c : Chip) (p : Nat) : Nat :=
  let len := Machine.fld (debugPort c p).authctl 23 16
  if 1 ≤ len && decide (len ≤ 64) && !blankBytes c.dbg.pwd && !c.dbg.revoke.testBit 8 &&
      decide (sha (authBytes c p 0 len) = c.dbg.pwd) then 1 else 4
/-- VERIFY (R537 to R539): level 0 closes the port, and changes nothing else; a locked port refuses; otherwise BUSY. A key's
VERIFY uses its nonce up. -/
def Chip.verifyPort (c : Chip) (p : Nat) (password : Bool) (level : Nat) : Chip :=
  if level = 0 then c.closePort p
  else if (debugPort c p).locked then c.onPort p (fun x => { x with result := 6 })
  else if (debugPort c p).verify.isSome then c
  else
    let v := if password then passwordVerdict c p else keyVerdict c p level
    let l := if password then Nat.min 2 level else level
    c.onPort p (fun x => { x with verify := some (v, l), nonceAt := if password then x.nonceAt else none })
/-- A VERIFY completes (R537 to R539): a grant with EV240, taint and MAXLEVEL; or a refusal with EV241, the eighth of which locks the
port with EV242. -/
def Chip.verifyEnd (c : Chip) (p : Nat) : Chip :=
  match (debugPort c p).verify with
  | none => c
  | some (v, l) =>
    let c1 := c.onPort p (fun x => { x with verify := none, result := v })
    if v = 1 then
      let c2 := c1.onPort p (fun x => { x with level := l })
      let c3 := if 2 ≤ l then ((c2.setBit Reg.DBG_AON 31 true).lifeAdd 26 1).noteFlags else c2
      let c4 := if c3.fld Reg.DBG_AON 30 29 < l then c3.setFld Reg.DBG_AON 30 29 l else c3
      c4.raise 240
    else
      let n := (debugPort c p).fails + 1
      let c2 := (c1.onPort p (fun x => { x with fails := n, locked := decide (8 ≤ n) })).raise 241
      c2.raiseIf (decide (8 ≤ n)) 242

/-- A write of the port's DBG_AUTHCTL (R537, R539, R556): the fields, then CLOSE, CHALLENGE and VERIFY. (DESIGN CHOICE: log 112) -/
def Chip.authCtl (c : Chip) (p : Nat) (v : Word) : Chip :=
  let c1 := c.onPort p (fun x => { x with authctl := v &&& 0xFF0103#32 })
  let c2 := if bitOf v 29 then c1.closePort p else c1
  let c3 := if bitOf v 31 then c2.challengePort p else c2
  if bitOf v 30 then c3.verifyPort p (bitOf v 8) (Machine.fld v 1 0) else c3

/-- The verifier's store is filled at step 3 of the boot chain (R540). -/
def Chip.fillVerifier (c : Chip) : Chip :=
  { c with dbg := { c.dbg with
    slots := (List.range 4).map (debugSlot c), pwd := otpBytes c 0x260 64, revoke := otpRevoke c } }

/-- CHALLENGE (R533, R537). -/
def execChallenge (p : Fin 3) (s : State) : Host.Outcome State Fault Refusal := run (fun c => if portThere c p.val then c.challengePort p.val else c) s
/-- VERIFY (R533, R537): METHOD 0 key, 1 password. -/
def execVerify (p : Fin 3) (password : Bool) (level : Fin 4) (s : State) : Host.Outcome State Fault Refusal :=
  run (fun c =>
    if !portThere c p.val then c else
    let w := (debugPort c p.val).authctl &&& 0xFF0000#32
    c.authCtl p.val (w ||| BitVec.ofNat 32 (2 ^ 30 + password.toNat * 256 + level.val))) s
/-- VERIFY_DONE (R538). -/
def execVerifyDone (p : Fin 3) (s : State) : Host.Outcome State Fault Refusal := run (fun c => c.verifyEnd p.val) s
/-- NONCE_EXPIRY (R537). -/
def execNonceExpiry (p : Fin 3) (s : State) : Host.Outcome State Fault Refusal :=
  run (fun c => if nonceValid c p.val then c else c.onPort p.val (fun x => { x with nonceAt := none })) s
/-- CLOSE (R539). -/
def execClose (p : Fin 3) (s : State) : Host.Outcome State Fault Refusal := run (fun c => c.closePort p.val) s

end Sys2Proof.Machine
end

