-- ==== Sys2Proof/Machine/Packets.lean ====
section
/-!
DEFINITION. The packets of the network, flit by flit, and their parity (R253, R254, R259 to R262, R266).
-/
namespace Sys2Proof.Machine

/-! ### Packets (R253, R254, R259 to R262) -/

/-- Bits [hi:lo] of flit i. -/
def flitBits (p : Packet) (i hi lo : Nat) : Nat := natBits (listGet 0 p.flits i) hi lo
/-- Does a group of content bits with its parity bit hold an even number of ones? -/
def evenGroup (x hi lo bit : Nat) : Bool :=
  (popCount (hi + 1 - lo) (natBits x hi lo) + (x.testBit bit).toNat) % 2 == 0
/-- Does a flit pass its parity check (R254, R261)? -/
def flitOk (p : Packet) (i : Nat) : Bool :=
  let x := listGet 0 p.flits i
  if p.net = 3 then (if i = 0 then (List.range 4).all (fun g => evenGroup x (16 * g + 15) (16 * g) (64 + g)) else true)
  else if p.net = 2 then evenGroup x 15 0 37 && evenGroup x 31 16 38 && evenGroup x 36 32 39
  else (List.range 4).all (fun g => evenGroup x (16 * g + 15) (16 * g) (67 + g)) && evenGroup x 66 64 71
/-- The parity bit of a group. -/
def parityBit (x hi lo : Nat) : Nat := popCount (hi + 1 - lo) (natBits x hi lo) % 2
/-- A REQ or RSP flit of 67 content bits, with parity. -/
def flit72 (x : Nat) : Nat :=
  x + (List.range 4).foldl (fun a g => a + parityBit x (16 * g + 15) (16 * g) * 2 ^ (67 + g)) 0 + parityBit x 66 64 * 2 ^ 71
/-- An SNP flit of 37 content bits, with parity. -/
def flit40 (x : Nat) : Nat := x + parityBit x 15 0 * 2 ^ 37 + parityBit x 31 16 * 2 ^ 38 + parityBit x 36 32 * 2 ^ 39
/-- A DAT head flit of 64 content bits, with parity. -/
def flitHead (x : Nat) : Nat :=
  x + (List.range 4).foldl (fun a g => a + parityBit x (16 * g + 15) (16 * g) * 2 ^ (64 + g)) 0

/-- The destination node, with its device. -/
def pktDest (p : Packet) : Nat :=
  match p.net with
  | 2 => flitBits p 0 36 23
  | 3 => flitBits p 0 63 50
  | _ => flitBits p 0 66 53
/-- The source node, with its device. -/
def pktSrc (p : Packet) : Nat :=
  match p.net with
  | 2 => flitBits p 0 22 9
  | 3 => flitBits p 0 49 36
  | _ => flitBits p 0 52 39
/-- TAG. -/
def pktTag (p : Packet) : Nat :=
  match p.net with
  | 2 => flitBits p 0 5 0
  | 3 => flitBits p 0 35 28
  | _ => flitBits p 0 38 31
/-- OP of a REQ. -/
def reqOp (p : Packet) : Nat := flitBits p 0 30 27
/-- SIZE of a REQ. -/
def reqSize (p : Packet) : Nat := flitBits p 0 26 24
/-- ADDR of a REQ. -/
def reqAddr (p : Packet) : Nat := flitBits p 1 66 49 * 2 ^ 22 + flitBits p 0 21 0
/-- DATA of a REQ: write data follows on DAT. -/
def reqData (p : Packet) : Bool := decide (reqOp p = 2) && decide (flitBits p 0 23 23 = 1)
/-- OP of an SNP. -/
def snpOp (p : Packet) : Nat := flitBits p 0 8 6
/-- VC of a DAT: true for read data. -/
def datRead (p : Packet) : Bool := decide (flitBits p 0 27 27 = 1)

/-- The home address of a cacheable DRAM or XIP address. -/
def cacheHome (c : Chip) (a : Nat) : Option Nat :=
  match decodeAddr c a with
  | .loft _ h => some h
  | .flash b => some b
  | _ => none
/-- This device's node with its device number. -/
def ownNode (c : Chip) (n : Nat) : Nat := c.deviceNo * 1024 + n
/-- An RSP from node n to a REQ (R260). -/
def rspTo (c : Chip) (n : Nat) (req : Packet) (r : Resp) : Packet :=
  { net := 1, flits := [flit72 (pktSrc req * 2 ^ 53 + ownNode c n * 2 ^ 39 + pktTag req * 2 ^ 31 + r.status * 2 ^ 28 +
      (if r.status = 1 then r.cause else 0) * 2 ^ 24 + ownNode c n * 2 ^ 10)] }
/-- An ACK of an SNP (R262). -/
def ackTo (c : Chip) (n : Nat) (p : Packet) : Packet :=
  { net := 2, flits := [flit40 (pktSrc p * 2 ^ 23 + ownNode c n * 2 ^ 9 + 3 * 64 + pktTag p)] }
/-- An SNP from node n for a line's address (R262). -/
def snoopOf (c : Chip) (n dest op tag addr : Nat) : Packet :=
  { net := 2, flits := [flit40 (ownNode c dest * 2 ^ 23 + ownNode c n * 2 ^ 9 + op * 64 + tag), flit40 (addr / 64 * 8)] }
/-- A data flit of 32 bytes (R261); what its check bits say is in `words`. -/
def dataFlit (bs : List Byte) : Nat :=
  (List.range 4).foldl (fun a j => a + leNat ((bs.drop (8 * j)).take 8) * 2 ^ (72 * j)) 0
/-- The 32 bytes of a data flit. -/
def flitBytes (x : Nat) : List Byte := (List.range 4).flatMap (fun j => leBytes 8 (natBits x (72 * j + 63) (72 * j)))
/-- The read data of n bytes at address a (R261, R263, R266). -/
def datTo (c : Chip) (k : Nat) (req : Packet) (a n : Nat) (r : Resp) : Packet :=
  let bs := leBytes n r.data
  let long := decide (32 < n)
  let head := flitHead (pktSrc req * 2 ^ 50 + ownNode c k * 2 ^ 36 + pktTag req * 2 ^ 28 + 2 ^ 27 + r.poison.toNat * 2 ^ 26 +
    long.toNat * 2 ^ 25)
  { net := 3
    flits := if long then [head, dataFlit (bs.take 32), dataFlit (bs.drop 32)]
      else [head, dataFlit (List.replicate (a % 32) 0 ++ bs)]
    words := List.replicate (if long then 8 else 4) .good }
/-- The bytes that a DAT packet brings for n bytes at address a. -/
def datBytes (p : Packet) (a n : Nat) : List Byte :=
  if 32 < n then (flitBytes (listGet 0 p.flits 1) ++ flitBytes (listGet 0 p.flits 2)).take n
  else ((flitBytes (listGet 0 p.flits 1)).drop (a % 32)).take n
/-- Which words of a transfer of n bytes at address a a DAT packet brings poisoned (R266): every word whose check bits show a double-bit
error, and every word of a packet with POISON = 1. Each is named by the address of its first byte. -/
def datPoison (p : Packet) (a n : Nat) : List Nat :=
  let base := if 32 < n then a / 64 * 64 else a / 32 * 32
  ((List.range p.words.length).filter (fun j =>
    decide (flitBits p 0 26 26 = 1) || decide (listGet .good p.words j = .double))).map (fun j => base + 8 * j)
    |>.filter (fun w => decide (w < a + n) && decide (a < w + 8))

end Sys2Proof.Machine
end

