-- ==== Sys2Proof/Machine/Life.lean ====
section
/-!
DEFINITION. The lifetime records (chapter 21): the shadow's flushes, the load at a start with its start-log entry, the
snapshot, and the histogram samples.
-/
namespace Sys2Proof.Machine

/-! ### Grains (R559, R560) -/

/-- The Silo offset of grain g of the lifetime region. -/
def lifeOffset (g : Nat) : Nat := 0x700000 + 64 * g
/-- The keys that grain g holds, in order, and the bytes of each. -/
def grainKeys (g : Nat) : List Nat × Nat :=
  if g < 384 then ((List.range 8).map (fun i => 8 * g + i), 6) else ((List.range 14).map (fun i => 4096 + 14 * (g - 384) + i), 4)
/-- SAT bits of a grain. -/
def grainSat (c : Chip) (g : Nat) : Nat :=
  if g < 384 then bitsOfFn (fun i => c.life.sat.contains (8 * g + i)) 8 else (c.life.sat.contains (4096 + (g - 384))).toNat
/-- The 64 bytes of a grain as the shadow has it (R560). -/
def grainBytes (c : Chip) (g : Nat) : List Byte :=
  let k := grainKeys g
  let b := listFit 0 60 (k.1.flatMap (fun i => leBytes k.2 (lifeValue c i)) ++ leBytes 1 (grainSat c g))
  b ++ leBytes 4 (crc32c b)
/-- The grains that hold defined counters or histograms, and the start log (R559, R561, R562). -/
def definedGrains : List Nat := List.range 390

/-! ### Flush (R564) -/

/-- The least of a list of numbers above or at `lo`. -/
def leastFrom (lo : Nat) (l : List Nat) : Option Nat :=
  l.foldl (fun m x => if x < lo then m else match m with
    | some y => some (Nat.min x y)
    | none => some x) none

/-- Write the dirty grains in ascending order, each as one Silo write with a fresh CRC. The writes themselves count as
wear (R370), which may make a grain dirty again: such a grain above the present one is still written in this flush. -/
def Chip.flushFrom : Nat → Nat → Chip → Chip
  | 0, _, c => c
  | fuel + 1, lo, c =>
    match leastFrom lo c.life.dirty with
    | none => c
    | some g =>
      let b := grainBytes c g
      let c1 := { c with life := { c.life with dirty := c.life.dirty.filter (fun x => decide (x ≠ g)) } }
      Chip.flushFrom fuel (g + 1) (c1.siloPut (lifeOffset g) b)
/-- A flush of the shadow. (DESIGN CHOICE: log 68) -/
def Chip.lifeFlush (c : Chip) : Chip :=
  let c1 := if c.bit Reg.LIFE_STAT 31 then Chip.flushFrom 640 0 c.siloTurn else c
  { c1 with life := { c1.life with flushAt := c1.ns } }

/-- Can the LIFE block write the Silo: their domains are on, as they are not in DORMANT (R471, R564)? -/
def lifeMayFlush (c : Chip) : Bool := c.isOn .mesh && c.isOn .silo
/-- LIFE_FLUSH_PERIODIC (R564, R570): every LIFE_FLUSH.S seconds, below 60 acting as 60. -/
def execLifeFlushPeriodic (s : State) : Host.Outcome State Fault Refusal :=
  run (fun c =>
    if lifeMayFlush c && decide (c.life.flushAt + 1000000000 * Nat.max 60 (c.fld Reg.LIFE_FLUSH 16 0) ≤ c.ns) then c.lifeFlush else c) s
/-- LIFE_FLUSH_NOW (R564): LIFE_FLUSH.NOW, or object 0x5E00:02. -/
def execLifeFlushNow (s : State) : Host.Outcome State Fault Refusal := run (fun c => if lifeMayFlush c then c.lifeFlush else c) s

/-! ### Load (R565, R566) -/

/-- A field of bytes. -/
def bytesNat (b : List Byte) (i n : Nat) : Nat := leNat ((b.drop i).take n)

/-- Load grain g into the shadow; one that fails its CRC or holds a double-bit error loads as zeros, is counted in LOADERR and is
dirty, so that its first flush rewrites it. (DESIGN CHOICE: log 68) -/
def Chip.loadGrain (c : Chip) (g : Nat) : Chip :=
  let r := c.siloRead (lifeOffset g) 64
  let b := r.1
  let c1 := r.2.2
  if r.2.1 || decide (bytesNat b 60 4 ≠ crc32c (b.take 60)) then
    { c1.setFld Reg.LIFE_STAT 9 0 (c1.fld Reg.LIFE_STAT 9 0 + 1) with life := { c1.life with dirty := c1.life.dirty ++ [g] } }
  else
    let k := grainKeys g
    let vals := (List.range k.1.length).foldl (fun m i =>
      mapSet 0 m (listGet 0 k.1 i) (bytesNat b (k.2 * i) k.2)) c1.life.values
    let sats := if g < 384 then (onesBelow 8 (bytesNat b 0x30 1)).map (fun i => 8 * g + i)
      else if bytesNat b 0x38 1 % 2 = 1 then [4096 + (g - 384)] else []
    { c1 with life := { c1.life with values := vals, sat := c1.life.sat ++ sats } }

/-- Apply the increments held (R565, R567). -/
def Chip.applyHeld (c : Chip) : Chip :=
  let h := c.life.held
  h.foldl (fun c e => (c.lifeApply e.1 e.2).raiseIf (wearPasses e.1 (lifeValue c e.1) (lifeValue (c.lifeApply e.1 e.2) e.1)) 43)
    { c with life := { c.life with held := [] } }

/-- The start-log entry (R566). RECOVERY follows where R385 asks for it: SILO_RSTAT tells of a capsule after the last
stook, and the journal of records that no stook covers. -/
def startLogEntry (c : Chip) (recovery : Bool) : List Byte :=
  let cap := c.bit Reg.SILO_RSTAT 31
  let b := leBytes 8 (lifeValue c 1) ++ leBytes 8 c.tai.toNat ++ leBytes 8 (if cap then c.silo.lossTai else 0) ++
    leBytes 1 (if c.bit Reg.SYS_WAKE_CAUSE 4 then 0xFF else if cap then c.fld Reg.SILO_RSTAT 27 24 else 0) ++
    leBytes 1 ((c.bit Reg.WDT_STAT 30).toNat + 2 * (c.bit Reg.WDT_STAT 31).toNat + 4 * recovery.toNat +
      8 * (decide (c.fld Reg.SYS_WAKE_CAUSE 3 0 ≠ 0)).toNat) ++
    leBytes 1 (c.fld Reg.SYS_WAKE_CAUSE 3 0) ++ leBytes 1 (if cap then c.silo.lossMode.getD 0xFF else 0xFF) ++
    leBytes 2 ((List.range 256).filter (fun t => retired c t)).length ++ leBytes 2 c.life.repairs
  listFit 0 60 b

/-! ### Histograms (R562) -/

/-- The bin of a temperature in units of 0.25 °C. -/
def tempBin (q : Int) : Nat := if q < 0 then 0 else if 480 ≤ q then 13 else (q / 40).toNat + 1
/-- The hottest of the readings in [11:0] of registers whose bit 31, STALE, is 0. (DESIGN CHOICE: log 70) -/
def hottest (c : Chip) (rs : List Nat) : Option Int :=
  (rs.filter (fun a => !c.bit a 31)).foldl (fun m a =>
    let q := toSigned 12 (c.fld a 11 0)
    match m with
    | some x => some (max x q)
    | none => some q) none
/-- The bin that a sample of histogram h falls into; none for no sample. (DESIGN CHOICE: log 70) -/
def sampleBin (c : Chip) (h : Nat) : Option Nat :=
  match h with
  | 0 => (hottest c ((List.range 256).map Reg.SYS_TTEMP)).map tempBin
  | 1 => (hottest c ((List.range 4).map Reg.DRC_QTEMPq)).map tempBin
  | 2 => some (Nat.min 13 (c.fld Reg.SYS_THR 15 0 / 40))
  | 3 => some (if c.bit Reg.SYS_THR 31 then 4 else c.fld Reg.SYS_THR 25 24)
  | 4 => some (if c.fld Reg.SYS_MODE 15 8 = 0 then c.fld Reg.SYS_MODE 7 0 else 6)
  | _ => none
/-- Is the sample of histogram h due (R562): once a minute for 0 and 1, once a second for 2 to 4, outside DORMANT? -/
def sampleDue (c : Chip) (h : Nat) : Bool :=
  c.isOn .mesh && decide (mapGet 0 c.life.sampledAt h + (if h < 2 then 60000000000 else 1000000000) ≤ c.ns)
/-- HISTOGRAM_SAMPLE (R562): histograms 0 to 4; histogram 5 samples at drive completions. -/
def execHistogramSample (h : Fin 5) (s : State) : Host.Outcome State Fault Refusal :=
  run (fun c =>
    if !sampleDue c h.val then c else
    let c1 := { c with life := { c.life with sampledAt := mapSet 0 c.life.sampledAt h.val c.ns } }
    match sampleBin c h.val with
    | some b => c1.lifeAdd (4096 + 14 * h.val + b) 1
    | none => c1) s
/-- The bin of a drive command that took `us` microseconds (R562). -/
def driveBin (us : Nat) : Nat := if us < 1000 then 0 else Nat.min 13 ((us / 1000).log2 + 1)

end Sys2Proof.Machine
end

