-- ==== Sys2Proof/Machine/Store.lean ====
section
/-!
DEFINITION. The persistent dictionary store (R459 to R463), the Transaction Unit up to its commit point (R387 to R390), the
roll-forward (R391), and the start-up scan of the Silo (R384, R385).
-/
namespace Sys2Proof.Machine

/-! ### The store (R459, R460) -/

/-- The Silo offset of half h of the store. -/
def storeHalf (h : Nat) : Nat := 0x600000 + h * 0x80000
/-- Bytes of the Silo without the effects of a read; none where a word holds a double-bit error. (DESIGN CHOICE: log 27) -/
def siloPeek (c : Chip) (off n : Nat) : Option (List Byte) :=
  if (wordsOf (siloAddr off) n).any (fun w => c.eccAt w == .double) then none else some (c.rdBytes (siloAddr off) n)
/-- The EPOCH of half h, none where its header is not valid. -/
def storeEpoch (c : Chip) (h : Nat) : Option Nat :=
  match siloPeek c (storeHalf h) 64 with
  | some b =>
    if bytesNat b 0 2 = 0x4850 ∧ bytesNat b 2 1 = 1 ∧ bytesNat b 0x3C 4 = crc32c (b.take 60) then some (bytesNat b 8 8) else none
  | none => none
/-- The active half and its EPOCH; none where the store is empty. (DESIGN CHOICE: log 66) -/
def activeHalf (c : Chip) : Option (Nat × Nat) :=
  match storeEpoch c 0, storeEpoch c 1 with
  | some a, some b => if a < b then some (1, b) else some (0, a)
  | some a, none => some (0, a)
  | none, some b => some (1, b)
  | none, none => none

/-- A record of the store. -/
structure StoreRecord where
  index : Nat
  sub   : Nat
  value : List Byte
  deriving DecidableEq, Repr

/-- The record in grain g of half h, none where it is not valid. -/
def storeRecordAt (c : Chip) (h epoch g : Nat) : Option StoreRecord :=
  match siloPeek c (storeHalf h + 64 * g) 64 with
  | some b =>
    let n := bytesNat b 5 1
    if bytesNat b 0 2 = 0x5250 ∧ bytesNat b 8 8 = epoch ∧ bytesNat b 0x3C 4 = crc32c (b.take 60) then
      some { index := bytesNat b 2 2, sub := bytesNat b 4 1, value := (b.drop 0x10).take n }
    else none
  | none => none
/-- The records of half h from grain g on, up to the first grain that is not valid. -/
def storeRecordsFrom (c : Chip) (h epoch : Nat) : Nat → Nat → List StoreRecord
  | 0, _ => []
  | fuel + 1, g =>
    match storeRecordAt c h epoch g with
    | some r => r :: storeRecordsFrom c h epoch fuel (g + 1)
    | none => []
/-- The records of the active half, in order. -/
def storeRecords (c : Chip) : List StoreRecord :=
  match activeHalf c with
  | some (h, e) => storeRecordsFrom c h e 8191 1
  | none => []

/-- The 64 bytes of a record (R460). -/
def storeRecordBytes (epoch : Nat) (r : StoreRecord) : List Byte :=
  let b := listFit 0 60 ([0x50, 0x52] ++ leBytes 2 r.index ++ leBytes 1 r.sub ++ leBytes 1 r.value.length ++ [0, 0] ++
    leBytes 8 epoch ++ listFit 0 44 r.value)
  b ++ leBytes 4 (crc32c b)
/-- The 64 bytes of a half's header (R459). -/
def storeHeaderBytes (epoch : Nat) : List Byte :=
  let b := listFit 0 60 ([0x50, 0x48, 0x01, 0, 0, 0, 0, 0] ++ leBytes 8 epoch)
  b ++ leBytes 4 (crc32c b)
/-- Write records from a grain on. -/
def Chip.writeRecords (c : Chip) (h epoch : Nat) : Nat → List StoreRecord → Chip
  | _, [] => c
  | g, r :: rest => (c.siloPut (storeHalf h + 64 * g) (storeRecordBytes epoch r)).writeRecords h epoch (g + 1) rest
/-- The store's records as the engine reads them, with what the Silo controller finds in the store's words (R369). -/
def Chip.storeRead (c : Chip) : List StoreRecord × Chip :=
  let d := c.siloCheckRange 0x600000 0x100000
  (storeRecords d, d)
/-- Write records into the inactive half and switch to it (R462): the header write is the switch point. After a capsule's start the
write requests are refused (R379). -/
def Chip.switchHalf (c0 : Chip) (rs : List StoreRecord) : Chip :=
  if c0.silo.capsule.isSome then c0 else
  let c := c0.siloTurn.storeRead.2
  let t := match activeHalf c with
    | some (h, e) => (1 - h, e + 1)
    | none => (0, 1)
  (c.writeRecords t.1 t.2 1 (rs.take 8191)).siloPut (storeHalf t.1) (storeHeaderBytes t.2)
/-- The last record of each sub-index, in the order of those records. -/
def lastRecords : List StoreRecord → List StoreRecord
  | [] => []
  | r :: rest =>
    if rest.any (fun x => decide (x.index = r.index) && decide (x.sub = r.sub)) then lastRecords rest else r :: lastRecords rest
/-- Append one record (R463): a full half is compacted first, with EV238 when that leaves fewer than 512 free grains. After a capsule's
start the write is refused (R379). (DESIGN CHOICE: log 66) -/
def Chip.storeAppend (c0 : Chip) (r : StoreRecord) : Chip :=
  if c0.silo.capsule.isSome then c0 else
  let c := c0.siloTurn.storeRead.2
  let rs := storeRecords c
  let c1 := match activeHalf c with
    | none => c.switchHalf []
    | some _ =>
      if rs.length < 8191 then c else
        let keep := lastRecords rs
        (c.switchHalf keep).raiseIf (decide (8191 < keep.length + 512)) 238
  match activeHalf c1 with
  | some (h, e) =>
    let n := (storeRecords c1).length
    if n < 8191 then c1.siloPut (storeHalf h + 64 * (n + 1)) (storeRecordBytes e r) else c1
  | none => c1

/-! ### The transaction log (R387, R390) -/

/-- The Silo offset of copy k of the log header (R370: 8 copies; R390 places the header at log offset 0). (DESIGN CHOICE: log 65) -/
def txCopyOffset (k : Nat) : Nat := 0x780000 + 64 * k
/-- The Silo offset of entry i. -/
def txEntryOffset (i : Nat) : Nat := 0x781000 + 32 * i
/-- The bytes of n staged entries. -/
def txEntryBytes (c : Chip) (n : Nat) : List Byte := c.rdBytes (siloAddr (txEntryOffset 0)) (32 * n)
/-- The transaction log's header and entries as they are read, with what the Silo controller finds in their words (R369). -/
def Chip.txRead (c : Chip) : Chip := c.siloCheckRange 0x780000 0x40000
/-- A valid copy of the log header (R390). -/
structure TxHeader where
  state : Nat
  count : Nat
  seqNo : Nat
  tai   : Nat
/-- Copy k of the header, none where it is not valid (R390). -/
def txHeaderAt (c : Chip) (k : Nat) : Option TxHeader :=
  match siloPeek c (txCopyOffset k) 64 with
  | some b =>
    let n := bytesNat b 4 2
    if bytesNat b 0 2 = 0x5854 ∧ bytesNat b 2 1 = 1 ∧ 1 ≤ n ∧ n ≤ 4096 ∧
        bytesNat b 0x3C 4 = crc32c (b.take 60 ++ txEntryBytes c n) then
      some { state := bytesNat b 3 1, count := n, seqNo := bytesNat b 8 8, tai := bytesNat b 0x10 8 }
    else none
  | none => none
/-- The valid copy written last: the greatest TXSEQ, APPLIED above COMMITTED. -/
def txHeader (c : Chip) : Option TxHeader :=
  ((List.range 8).filterMap (txHeaderAt c)).foldl (fun m h => match m with
    | some g => if g.seqNo < h.seqNo ∨ g.seqNo = h.seqNo ∧ g.state < h.state then some h else some g
    | none => some h) none
/-- Write the log header to the next copy in turn (R370). (DESIGN CHOICE: log 65) -/
def Chip.putTxHeader (c0 : Chip) (st n seqNo tai : Nat) : Chip :=
  let c := c0.siloTurn
  let b := listFit 0 60 ([0x54, 0x58, 0x01] ++ leBytes 1 st ++ leBytes 2 n ++ [0, 0] ++ leBytes 8 seqNo ++ leBytes 8 tai)
  let c1 := c.siloPut (txCopyOffset c.silo.txCopy) (b ++ leBytes 4 (crc32c (b ++ txEntryBytes c n)))
  { c1 with silo := { c1.silo with txCopy := (c.silo.txCopy + 1) % 8 } }
/-- Entry i of the log as the Transaction Unit reads it: nothing where a word of it is bad (R369). (DESIGN CHOICE: log 179) -/
def txEntryRead (c : Chip) (i : Nat) : List Byte := (siloPeek c (txEntryOffset i) 32).getD []
/-- Entry i of the log. -/
def txEntryAt (c : Chip) (i : Nat) : TxEntry := c.rdBytes (siloAddr (txEntryOffset i)) 32
/-- What an OD entry writes: index, sub-index, value. -/
def txObject (e : TxEntry) : StoreRecord := { index := bytesNat e 8 2, sub := bytesNat e 10 1, value := (e.drop 16).take (bytesNat e 1 1) }

/-- ROLL_FORWARD (R391): every OD_PERSIST entry of a committed transaction goes to the store alone; the header is written
APPLIED, its COMMIT_TAI kept; SILO_RSTAT.ROLLFWD, EV42. -/
def Chip.rollForward (c0 : Chip) : Chip :=
  let c := c0.txRead
  match txHeader c with
  | some h =>
    if h.state ≠ 1 then c else
    let c1 := (List.range h.count).foldl (fun d i =>
      let e := txEntryAt c i
      if bytesNat e 0 1 = 3 then d.storeAppend (txObject e) else d) c
    ((c1.putTxHeader 2 h.count h.seqNo h.tai).setBit Reg.SILO_RSTAT 29 true).raise 42
  | none => c

/-! ### The Transaction Unit's commands (R387 to R389) -/

/-- SILO_TXSTAT.STATE: 0 IDLE, 1 OPEN, 2 APPLYING. -/
def txState (c : Chip) : Nat := c.fld Reg.SILO_TXSTAT 31 30
/-- Show a command's RESULT. -/
def Chip.txResult (c : Chip) (r : Nat) : Chip := c.setFld Reg.SILO_TXSTAT 23 16 r

/-- The table of R387: may the entry be staged? -/
def txEntryOk (e : TxEntry) : Bool :=
  let len := bytesNat e 1 1
  let tgt := bytesNat e 8 8
  let zero : Nat → Nat → Bool := fun i n => decide (bytesNat e i n = 0)
  match bytesNat e 0 1 with
  | 1 => decide (len = 4) && zero 2 2 && decide (tgt % 4 = 0) && decide (0x20000000 ≤ tgt) && decide (tgt < 0x30000000) &&
      !(decide (0x20700100 ≤ tgt) && decide (tgt < 0x20700130))
  | 2 | 3 => decide (1 ≤ len) && decide (len ≤ 16) && zero 2 2 && zero 4 4 && decide (tgt < 2 ^ 24) &&
      zero (16 + len) (16 - len)
  | _ => false
/-- The 32 bytes of SILO_TXENT0 to SILO_TXENT7. -/
def txEntRegs (c : Chip) : TxEntry := (List.range 8).flatMap (fun i => leBytes 4 (c.reg (Reg.SILO_TXENTn i)).toNat)

/-- OPEN (R388). -/
def Chip.txOpen (c : Chip) : Chip :=
  match txState c with
  | 0 => ((((c.setFld Reg.SILO_TXSTAT 31 30 1).setFld Reg.SILO_TXSTAT 12 0 0).setReg Reg.SILO_TXERR 0)).txResult 0
  | 1 => c.txResult 3
  | _ => c.txResult 7
/-- STAGE of an entry (R387, R388). -/
def Chip.txStageEntry (c : Chip) (e : TxEntry) : Chip :=
  match txState c with
  | 0 => c.txResult 2
  | 1 =>
    let n := c.fld Reg.SILO_TXSTAT 12 0
    if 4096 ≤ n then c.txResult 4
    else if txEntryOk e then ((c.siloTurn.siloPut (txEntryOffset n) e).setFld Reg.SILO_TXSTAT 12 0 (n + 1)).txResult 0
    else c.txResult 5
  | _ => c.txResult 7
/-- ABORT (R388). -/
def Chip.txAbort (c : Chip) : Chip :=
  match txState c with
  | 0 => c.txResult 2
  | 1 => ({ (c.setFld Reg.SILO_TXSTAT 31 30 0).setFld Reg.SILO_TXSTAT 12 0 0 with
      silo := { c.silo with txOwner := none } }).txResult 0
  | _ => c.txResult 7
/-- May a transaction be committed in the present mode (R388): BOOT, RECOVERY or SERVICE? -/
def txModeOk (c : Chip) : Bool := decide (c.fld Reg.SYS_MODE 15 8 ≠ 0) || decide (c.fld Reg.SYS_MODE 7 0 = 5)
/-- COMMIT, steps 1 and 2 (R389): STATE APPLYING, the COMMITTED header in one grain, EV39. The application of step 3 ends
with TX_APPLY_DONE. -/
def Chip.txCommit (c : Chip) : Chip :=
  match txState c with
  | 0 => c.txResult 2
  | 1 =>
    let n := c.fld Reg.SILO_TXSTAT 12 0
    if n = 0 then c.txResult 2
    else if !txModeOk c then c.txResult 6
    else
      let q := c.silo.txseq + 1
      let r := c.siloCheckRange (txEntryOffset 0) (32 * n)
      let c1 := (((r.setFld Reg.SILO_TXSTAT 31 30 2).setBit Reg.ODE_STAT 30 true).putTxHeader 1 n q c.tai.toNat).txResult 0
      ({ c1 with silo := { c1.silo with txseq := q, txApply := some ((List.range n).map (txEntryRead c1)) } }).raise 39
  | _ => c.txResult 7
/-- A write of SILO_TXCMD (R388). (DESIGN CHOICE: log 67) -/
def Chip.txCmd (c : Chip) (op : Nat) : Chip :=
  if !c.isOn .silo || c.silo.capsule.isSome then c else
  match op with
  | 1 => c.txOpen
  | 2 => c.txStageEntry (txEntRegs c)
  | 3 => c.txCommit
  | 4 => c.txAbort
  | _ => c.txResult 1

/-- TX_OPEN (R388). -/
def execTxOpen (s : State) : Host.Outcome State Fault Refusal := regRun Reg.SILO_TXCMD (fun c => c.txCmd 1) s
/-- TX_STAGE (R387, R388): the entry in SILO_TXENT0 to SILO_TXENT7. -/
def execTxStage (s : State) : Host.Outcome State Fault Refusal := regRun Reg.SILO_TXCMD (fun c => c.txCmd 2) s
/-- TX_COMMIT (R389). -/
def execTxCommit (s : State) : Host.Outcome State Fault Refusal := regRun Reg.SILO_TXCMD (fun c => c.txCmd 3) s
/-- TX_ABORT (R388). -/
def execTxAbort (s : State) : Host.Outcome State Fault Refusal := regRun Reg.SILO_TXCMD (fun c => c.txCmd 4) s
/-- TX_BAD_OP (R388): 0x0 and 0x5 to 0xF; an op that R388 defines acts as its own command. -/
def execTxBadOp (op : Fin 16) (s : State) : Host.Outcome State Fault Refusal := regRun Reg.SILO_TXCMD (fun c => c.txCmd op.val) s

/-! ### The start-up scan (R384, R385) -/

/-- The last element that satisfies a condition. -/
def lastWith {α : Type} (f : α → Bool) (l : List α) : Option α := l.reverse.find? f
/-- The newest CAPSULE entry that is newer than the last STOOK entry (R385). -/
def capsuleSince (es : List JEntry) : Option JEntry :=
  let st := match lastWith (fun e => decide (e.typ = 2)) es with
    | some e => e.jseq + 1
    | none => 0
  lastWith (fun e => decide (e.typ = 4) && decide (st ≤ e.jseq)) es
/-- Must the start pass through RECOVERY (R385)? -/
def needsRecovery (c : Chip) : Bool := (capsuleSince c.silo.entries).isSome || !c.ev.sheafLog.isEmpty

/-- What the evidence flow takes from the journal that the scan found: the streams' next SEQ (R320), the last stook and its
coverage (R323, R324), the records that no stook covers, the Storage Writer's last report. -/
def Chip.adoptJournal (c : Chip) (es : List JEntry) : Chip :=
  let prog := lastWith (fun e => decide (e.typ = 3)) es
  let stook := lastWith (fun e => decide (e.typ = 2)) es
  let own := lastWith (fun e => decide (e.typ = 2) && decide (recNat e.payload 3 1 % 16 < 2)) es
  let sys := lastWith (fun e => decide (e.typ = 2) && decide (recNat e.payload 3 1 % 16 = 2)) es
  let fromProg := match prog with
    | some p => (List.range 32).foldl (fun m s => mapSet 0 m s (recNat p.payload (0x60 + 8 * s) 8)) c.ev.nextSeq
    | none => c.ev.nextSeq
  let sheaves := es.filter (fun e => decide (e.typ = 1))
  let nexts := sheaves.foldl (fun m e => mapSet 0 m e.stream (Nat.max (mapGet 0 m e.stream) e.nextSeq)) fromProg
  let prevs := sheaves.foldl (fun m e => mapInsert e.stream (sha e.payload) (mapErase e.stream m)) c.ev.prevHash
  let cov := match own with
    | some e => lastSeqOf e.payload
    | none => c.ev.covered
  let st := match stook, prog with
    | some e, _ => (e.key, sha e.payload)
    | none, some p => (recNat p.payload 0x18 8, (p.payload.drop 0x20).take 64)
    | none, none => (c.ev.stookCtr, c.ev.stookHash)
  let pr : Progress := match prog with
    | some p => { durable := payloadDurable p.payload, nextBale := recNat p.payload 8 8, ringPos := recNat p.payload 0x10 8 }
    | none => {}
  { c with
    ev := { c.ev with
      nextSeq := nexts, prevHash := prevs, covered := cov, stookCtr := st.1, stookHash := st.2
      sysCov := match sys with
        | some e => lastSeqOf e.payload
        | none => c.ev.sysCov
      sheafLog := (sheaves.filter (fun e => decide (mapGet 0 cov e.stream ≤ e.key))).map (fun e => (e.stream, e.key, e.payload)) }
    silo := { c.silo with progress := pr } }

/-- Latch SILO_RSTAT (R385, R392): of the newest loss, whether its capsule was journaled, whether it ended, its CAUSE and
the sheaves it closed; EV37 for a CAPSULE entry newer than the last stook, EV38 for unsigned records and no capsule. -/
def Chip.latchRstat (c : Chip) (es : List JEntry) : Chip :=
  match capsuleSince es with
  | some e =>
    let ended := es.any (fun x => decide (x.typ = 5) && decide (e.jseq < x.jseq))
    let c1 := (((c.setBit Reg.SILO_RSTAT 31 true).setBit Reg.SILO_RSTAT 30 ended).setFld Reg.SILO_RSTAT 27 24 (recNat e.payload 0 1)).setFld
      Reg.SILO_RSTAT 23 16 (recNat e.payload 1 1)
    ({ c1 with silo := { c1.silo with lossTai := e.tai, lossMode := some (recNat e.payload 2 1) } }).raise 37
  | none =>
    let c1 := c.setBit Reg.SILO_RSTAT 28 es.isEmpty
    if c1.ev.sheafLog.isEmpty then c1 else
      ({ c1 with silo := { c1.silo with lossTai := match es.getLast? with
        | some e => e.tai
        | none => 0 } }).raise 38

/-- The scan (R384): every grain of the ring is read (R369), the journal is found, a committed transaction rolled forward, SILO_RSTAT latched and READY set.
(DESIGN CHOICE: log 27) -/
def Chip.siloScan (c0 : Chip) : Chip :=
  let c := c0.siloCheckRange 0 0x600000
  let es := foundJournal c
  let next := match es.getLast? with
    | some e => (e.jseq + 1, e.pos + e.grains + 1)
    | none => ((controlWords c).next, (controlWords c).pos)
  let c1 := ({ c with silo := { c.silo with entries := es, jnext := next.1, pos := next.2 } }).adoptJournal es
  ((c1.showJseq.rollForward).latchRstat es).setBit Reg.SILO_STAT 31 true
/-- SILO_SCAN (R384): once at each start. -/
def execSiloScan (s : State) : Host.Outcome State Fault Refusal :=
  run (fun c => if c.isOn .silo && !c.bit Reg.SILO_STAT 31 then c.siloScan else c) s

/-! ### The lifetime records' load (R565, R566) -/

/-- The load: every grain of the shadow, the increments held before it, and the start-log entry. -/
def Chip.lifeLoad (c : Chip) : Chip :=
  let c1 := (List.range 640).foldl (fun d g => d.loadGrain g) c
  let c2 := (c1.setBit Reg.LIFE_STAT 31 true).applyHeld
  let b := startLogEntry c2 (needsRecovery c2)
  let c3 := c2.siloTurn.siloPut (0x70A000 + 64 * (lifeValue c2 1 % 256)) (b ++ leBytes 4 (crc32c b))
  { c3 with life := { c3.life with flushAt := c3.ns } }
/-- LIFE_LOAD (R565): once SILO_STAT.READY is set. -/
def execLifeLoad (s : State) : Host.Outcome State Fault Refusal :=
  run (fun c => if c.bit Reg.SILO_STAT 31 && !c.bit Reg.LIFE_STAT 31 then c.lifeLoad else c) s

/-! ### The snapshot (R567) -/

/-- LIFE_SNAP.TAKE (R567): the copy begins; while BUSY it is ignored. Increments are held until it completes. (DESIGN CHOICE: log 69) -/
def Chip.lifeTake (c : Chip) : Chip :=
  if c.bit Reg.LIFE_SNAP 30 then c
  else { c.setBit Reg.LIFE_SNAP 30 true with life := { c.life with snapTai := c.tai.toNat } }
/-- LIFE_SNAP_TAKE (R567). -/
def execLifeSnapTake (s : State) : Host.Outcome State Fault Refusal := run Chip.lifeTake s
/-- The copy completes: the snapshot buffer, SEQ, TAI; the increments that arrived are applied. The start log is copied
from the region, which alone holds it. -/
def Chip.snapshotDone (c : Chip) : Chip :=
  if !c.bit Reg.LIFE_SNAP 30 then c else
  let d := c.siloCheckRange 0x70A000 0x4000
  let buf := definedGrains.map (fun g => (g, grainBytes c g)) ++
    (List.range 256).map (fun i => (640 + i, d.rdBytes (siloAddr (0x70A000 + 64 * i)) 64))
  let c1 := (d.setBit Reg.LIFE_SNAP 30 false).setFld Reg.LIFE_SNAP 29 0 (c.fld Reg.LIFE_SNAP 29 0 + 1)
  let c2 := (c1.setReg Reg.LIFE_SNAP_TAI_LO (BitVec.ofNat 32 c.life.snapTai)).setReg Reg.LIFE_SNAP_TAI_HI
    (BitVec.ofNat 32 (c.life.snapTai / 2 ^ 32))
  ({ c2 with life := { c2.life with snap := buf } }).applyHeld
/-- SNAPSHOT_DONE (R567). -/
def execSnapshotDone (s : State) : Host.Outcome State Fault Refusal := run Chip.snapshotDone s
/-- A byte of the snapshot window, at an offset of the lifetime region (R567, R570). (DESIGN CHOICE: log 69) -/
def snapByte (c : Chip) (off : Nat) : Byte :=
  match c.life.snap.find? (fun e => e.1 == off / 64) with
  | some e => listGet 0 e.2 (off % 64)
  | none => 0

end Sys2Proof.Machine
end

