-- ==== Sys2Proof/Machine/Weave.lean ====
section
/-!
DEFINITION. The Weave (R489 to R514): the value of every cell, stage and long line from the configuration
frames, the flip-flops and the inputs; pins and their hold states; configuration; trigger, event and FOUT lines.
-/
namespace Sys2Proof.Machine

/-! ### Geometry and configuration (R489, R495, R496) -/

/-- The quadrant of cell n. -/
def cellQuad (n : Nat) : Nat := n / 2048
/-- Column and row of cell n in its quadrant. -/
def cellCol (n : Nat) : Nat := n % 2048 % 32
/-- Row of cell n in its quadrant. -/
def cellRow (n : Nat) : Nat := n % 2048 / 32
/-- The 320 bits of cell n. -/
def cellBits (c : Chip) (n : Nat) : Nat := natBits (mapGet 0 c.weave.frames (n / 8)) (320 * (n % 8) + 319) (320 * (n % 8))
/-- Field [hi:lo] of cell n. -/
def cellFld (c : Chip) (n hi lo : Nat) : Nat := natBits (cellBits c n) hi lo
/-- Bit i of cell n. -/
def cellBit (c : Chip) (n i : Nat) : Bool := (cellBits c n).testBit i
/-- Is quadrant q on and not loading (R499)? -/
def quadLive (c : Chip) (q : Nat) : Bool := c.isOn (.weave q) && !c.weave.loading.contains q

/-- The cell at fabric column x, row y, counted from the south-west corner; rows rise northward, as carries do (R490). -/
def cellAt (x y : Int) : Option Nat :=
  if 0 ≤ x ∧ x < 64 ∧ 0 ≤ y ∧ y < 128 then
    let q := (if 64 ≤ y then 0 else 2) + (if 32 ≤ x then 1 else 0)
    some (2048 * q + 32 * (y.toNat % 64) + x.toNat % 32)
  else none
/-- Fabric column and row of cell n. -/
def cellPos (n : Nat) : Int × Int :=
  let q := cellQuad n
  ((32 * (q % 2) + cellCol n : Nat), (64 * (1 - q / 2) + cellRow n : Nat))
/-- The neighbour in direction k: N, NE, E, SE, S, SW, W, NW (R491). -/
def cellNeighbour (n k : Nat) : Option Nat :=
  let p := cellPos n
  let d : Int × Int := match k with
    | 0 => (0, 1) | 1 => (1, 1) | 2 => (1, 0) | 3 => (1, -1) | 4 => (0, -1) | 5 => (-1, -1) | 6 => (-1, 0) | _ => (-1, 1)
  cellAt (p.1 + d.1) (p.2 + d.2)

/-- The port cell of pin k (R496). -/
def portCell (k : Nat) : Nat :=
  let q := k / 16
  2048 * q + 128 * (k % 16) + (if q % 2 = 0 then 0 else 31)
/-- The pin of a port cell, none for any other cell. -/
def cellPin (n : Nat) : Option Nat :=
  let k := 16 * cellQuad n + n % 2048 / 128
  if portCell k = n then some k else none

/-! ### Values (R490 to R494) -/

/-- What can be read in the fabric: a cell's output, LUT result and carry, the three combining stages, the long lines, and the level on
a pin's pad. -/
inductive Node where
  | out (n : Nat) | res (n : Nat) | cout (n : Nat) | stage (size k : Nat) | hline (q row l : Nat) | vline (q col l : Nat)
  | pad (k : Nat)
  deriving DecidableEq, Repr

/-- A number for each node, for the free value of a loop. -/
def nodeCode : Node → Nat
  | .out n => 8 * n
  | .res n => 8 * n + 1
  | .cout n => 8 * n + 2
  | .stage s k => 8 * (8192 * s + k) + 3
  | .hline q r l => 8 * (1024 * q + 8 * r + l) + 4
  | .vline q x l => 8 * (1024 * q + 8 * x + l) + 5
  | .pad k => 8 * k + 6

/-- The flip-flop of cell n: INIT while its quadrant loads (R499). -/
def cellFf (c : Chip) (n : Nat) : Bool :=
  if c.weave.loading.contains (cellQuad n) then cellBit c n 116 else mapGet false c.weave.ffs n

/-- The ADC flag of channel k (R507). -/
def adcFlag (c : Chip) (k : Nat) : Bool := c.bit (Reg.WEAVE_ADC_RESc k) 31

/-- The pad input of pin k as the fabric sees it (R497): through SYNC and INV. `pad` gives the level on the pad. -/
def pinInput (c : Chip) (pad : Nat → Bool) (k : Nat) : Bool :=
  let n := portCell k
  let v := if cellBit c n (288 + 6) then c.weave.sync2.getLsbD k else pad k
  if cellBit c n (288 + 7) then !v else v

/-- The source of a code for cell n (R491), with `ev` giving the fabric's nodes. (DESIGN CHOICE: log 187) -/
def sourceOf (c : Chip) (ev : Node → Bool) (n code : Nat) : Bool :=
  let q := cellQuad n
  if code = 0 then false
  else if code = 1 then true
  else if code < 0x0A then
    match cellNeighbour n (code - 2) with
    | some m => ev (.out m)
    | none => false
  else if code < 0x12 then ev (.out (n / 8 * 8 + (code - 0x0A)))
  else if code = 0x12 then cellFf c n
  else if code < 0x1B then ev (.hline q (cellRow n) (code - 0x13))
  else if code < 0x23 then ev (.vline q (cellCol n) (code - 0x1B))
  else if code = 0x23 then
    match cellPin n with
    | some k => pinInput c (fun k => ev (.pad k)) k
    | none => false
  else if code < 0x44 then c.bit Reg.WEAVE_FIN (code - 0x24)
  else if code < 0x47 then c.weave.ext2.testBit (code - 0x44)
  else if code = 0x47 then c.weave.second
  else if code < 0x58 then adcFlag c (code - 0x48)
  else false

/-- A number from bits, first bit least significant. -/
def natOfBits (l : List Bool) : Nat := l.foldr (fun b r => b.toNat + 2 * r) 0

/-- Is pin k in hold (R503 to R505)? A quadrant that has powered on loads until its START, so a pin is held from reset
until its release. -/
def pinHeld (c : Chip) (k : Nat) : Bool :=
  let q := k / 16
  !c.isOn (.weave q) || c.bit Reg.WEAVE_BANK (if k < 32 then 1 else 3) ||
    (!c.bit (Reg.WEAVE_PINk k) 8 && c.weave.loading.contains q)
/-- What a held pin does (R505): output enable, level, pull as PULL codes it. -/
def pinHold (c : Chip) (k : Nat) : Bool × Bool × Nat :=
  match c.fld (Reg.WEAVE_PINk k) 14 12 with
  | 0 => (false, false, 0)
  | 1 => (false, false, 2)
  | 2 => (false, false, 1)
  | 3 => (true, false, 1)
  | 4 => (true, true, 1)
  | _ =>
    let v := mapGet 0 c.weave.kept k
    (v.testBit 0, v.testBit 1, natBits v 3 2)
/-- What pin k does (R497, R504, R505, R512), with `ev` giving the fabric's nodes. -/
def pinDoes (c : Chip) (ev : Node → Bool) (k : Nat) : Bool × Bool × Nat :=
  let a := Reg.WEAVE_PINk k
  if pinHeld c k then pinHold c k
  else if c.bit a 8 then (c.bit a 3, c.bit a 2, c.fld a 5 4)
  else
    let n := portCell k
    let v := ev (.out n)
    let p := cellFld c n (288 + 3) (288 + 2)
    match cellFld c n (288 + 1) 288 with
    | 0 => (false, v, p)
    | 1 => (true, v, p)
    | 2 => (sourceOf c ev n (cellFld c n 111 104), v, p)
    | _ => (!v, false, p)
/-- The level on a pad that the board drives to `board` and its pin to what it does. -/
def padOf (p : Bool × Bool × Nat) (board : Bool) : Bool := if p.1 then p.2.1 else board

/-- The value of a node; `path` holds the nodes on the way, and a node met again lies on a combinational loop, whose value
is free (R494). (DESIGN CHOICE: log 106) -/
def evalNode (c : Chip) : Nat → List Node → Node → Bool
  | 0, _, nd => Config.weaveFree c.fresh (nodeCode nd)
  | fuel + 1, path, nd =>
    if path.contains nd then Config.weaveFree c.fresh (nodeCode nd) else
    let ev := evalNode c fuel (nd :: path)
    let src := fun n code => sourceOf c ev n code
    let ins := fun n => (List.range 6).map (fun i => src n (cellFld c n (64 + 8 * i + 7) (64 + 8 * i)))
    let cin := fun n => if cellRow n = 0 then false else ev (.cout (n - 32))
    match nd with
    | .out n =>
      if !quadLive c (cellQuad n) then false
      else if n % 64 = 63 ∧ cellBit c n 132 then ev (.stage 2 (n / 64))
      else if n % 16 = 15 ∧ cellBit c n 131 then ev (.stage 1 (n / 16))
      else if n % 4 = 3 ∧ cellBit c n 130 then ev (.stage 0 (n / 4))
      else if cellBit c n 115 then cellFf c n
      else ev (.res n)
    | .res n =>
      let lut := cellFld c n 63 0
      if cellBit c n 129 then xor (lut.testBit (natOfBits ((ins n).take 5))) (cin n)
      else lut.testBit (natOfBits (ins n))
    | .cout n =>
      if cellBit c n 129 then
        let v := natOfBits ((ins n).take 5)
        if (cellFld c n 31 0).testBit v then cin n else (cellFld c n 63 32).testBit v
      else Config.weaveFree c.fresh (nodeCode nd)
    | .stage 0 k =>
      let m := 4 * k + 3
      ev (.res (4 * k + natOfBits [src m (cellFld c m 143 136), src m (cellFld c m 151 144)]))
    | .stage 1 k =>
      let m := 16 * k + 15
      ev (.stage 0 (4 * k + natOfBits [src m (cellFld c m 159 152), src m (cellFld c m 167 160)]))
    | .stage _ k =>
      let m := 64 * k + 63
      ev (.stage 1 (4 * k + natOfBits [src m (cellFld c m 175 168), src m (cellFld c m 183 176)]))
    -- a line without an enabled driver has its keeper's value, which is 0: drivers change only while the quadrant loads, when every
    -- cell output reads 0, and START sets the keepers to 0 (R493, R498, R499)
    | .hline q row l =>
      let ds := ((List.range 32).map (fun x => 2048 * q + 32 * row + x)).filter
        (fun n => cellBit c n 123 && decide (cellFld c n 122 120 = l))
      !ds.isEmpty && ds.all (fun n => ev (.out n))
    | .vline q col l =>
      let ds := ((List.range 64).map (fun y => 2048 * q + 32 * y + col)).filter
        (fun n => cellBit c n 127 && decide (cellFld c n 126 124 = l))
      !ds.isEmpty && ds.all (fun n => ev (.out n))
    | .pad k => padOf (pinDoes c ev k) (c.weave.pads.getLsbD k)

/-- The fuel: more than the fabric's nodes. -/
def weaveFuel : Nat := 40000

/-- A node's value now. -/
def weaveVal (c : Chip) (nd : Node) : Bool := evalNode c weaveFuel [] nd

/-! ### Pins (R497, R503 to R505, R512) -/

/-- What pin k does. -/
def pinState (c : Chip) (k : Nat) : Bool × Bool × Nat := pinDoes c (weaveVal c) k
/-- The level on the pad of pin k: its own where it drives, else the board's. -/
def padLevel (c : Chip) (k : Nat) : Bool := weaveVal c (.pad k)
/-- The drive of a pin in mA (R497, R512): DRIVE of its port cell, or GDRIVE in GPIO mode. R505 gives no drive for a held pin. -/
def pinDrive (c : Chip) (k : Nat) : Option Nat :=
  let code := if c.bit (Reg.WEAVE_PINk k) 8 then c.fld (Reg.WEAVE_PINk k) 7 6 else cellFld c (portCell k) (288 + 5) (288 + 4)
  if pinHeld c k then none else some (listGet 12 [4, 8] code)

/-- Note what pins do at the moment of hold, for HOLD 0b101 (R505). -/
def Chip.keepPins (c : Chip) (ks : List Nat) : Chip :=
  let m := ks.foldl (fun m k =>
    if pinHeld c k then m else
      let p := pinState c k
      mapSet 0 m k (p.1.toNat + 2 * p.2.1.toNat + 4 * p.2.2)) c.weave.kept
  { c with weave := { c.weave with kept := m } }
/-- The pins of quadrant q. -/
def quadPins (q : Nat) : List Nat := (List.range 16).map (fun i => 16 * q + i)

/-! ### The system outputs (R506) -/

/-- The trigger lines. -/
def trigLines (c : Chip) : Nat := bitsOfFn (fun j => weaveVal c (.out (256 * j + 255))) 32
/-- FOUT. -/
def foutBits (c : Chip) : Nat := bitsOfFn (fun b => weaveVal c (.out (256 * b + 127))) 32
/-- The event lines. -/
def userLines (c : Chip) : Nat := bitsOfFn (fun e => weaveVal c (.out (2048 * e + 191))) 4

/-- Does an edge fire trigger i (R452)? SOURCE 0x04 fires under either EDGE. -/
def triggerFires (c : Chip) (i : Nat) (falling : Bool) : Bool :=
  let e := odNat c 0x3200 (i + 1)
  let src := natBits e 23 16
  e.testBit 31 && decide (1 ≤ src) && decide (src ≤ 4) && (decide (src = 4) || (e.testBit 30 == falling))
/-- SOURCE of trigger i. -/
def trigSource (c : Chip) (i : Nat) : Nat := natBits (odNat c 0x3200 (i + 1)) 23 16
/-- PARAM of trigger i. -/
def trigParam (c : Chip) (i : Nat) : Nat := natBits (odNat c 0x3200 (i + 1)) 15 0
/-- Sources have edges: `edge` gives the direction of the edge that trigger i's source shows. Each enabled trigger that it fires is
noted for firmware (R452). -/
def Chip.sawEdges (c : Chip) (edge : Nat → Option Bool) : Chip :=
  let new := (List.range 8).filterMap (fun i => match edge i with
    | some falling => if triggerFires c i falling && !c.weave.edges.contains (i, falling) then some (i, falling) else none
    | none => none)
  { c with weave := { c.weave with edges := c.weave.edges ++ new } }
/-- A change from `old` to `new`, as an edge. -/
def edgeOf (old new : Bool) : Option Bool := if old = new then none else some old

/-- The trigger lines are `v` now: a trigger of SOURCE 0x01 whose line changed has an edge (R452). -/
def Chip.sawLines (c : Chip) (v : Nat) : Chip :=
  Chip.sawEdges { c with weave := { c.weave with trig := v } } (fun i =>
    let l := trigParam c i % 32
    if trigSource c i = 1 then edgeOf (c.weave.trig.testBit l) (v.testBit l) else none)
/-- A change of a trigger line is latched in WEAVE_TRIG_EDGE and raises EV208. -/
def Chip.latchTrig (c : Chip) : Chip :=
  let v := trigLines c
  let old := c.weave.trig
  if v = old then c else
    ((c.setReg Reg.WEAVE_TRIG_EDGE (c.reg Reg.WEAVE_TRIG_EDGE ||| BitVec.ofNat 32 (v ^^^ old))).sawLines v).raise 208
/-- A rise of event line e raises EV212 + e. -/
def Chip.latchUser (c : Chip) : Chip :=
  let v := userLines c
  let c1 := { c with weave := { c.weave with user := v } }
  (List.range 4).foldl (fun d e => d.raiseIf (v.testBit e && !c.weave.user.testBit e) (212 + e)) c1
/-- Something that the fabric's outputs follow has changed: every change of a trigger line and every rise of an event line is seen
(R506, R514). -/
def Chip.weaveSeen (c : Chip) : Chip := c.latchTrig.latchUser
/-- The board's inputs as they now are; the accelerometer's interrupt is SOURCE 0x02 of a trigger (R452). -/
def Chip.weaveInputs (c : Chip) (pads : BitVec 64) (ign accel pps : Bool) : Chip :=
  Chip.sawEdges { c with weave := { c.weave with pads := pads, ign := ign, accel := accel, pps := pps } }
    (fun i => if trigSource c i = 2 then edgeOf c.weave.accel accel else none)

/-- TRIGGER_LINE_CHANGE (R506): with the inputs as the command gives them, the fabric's lines are seen again. -/
def execTriggerLineChange (pads : BitVec 64) (ign accel pps : Bool) (s : State) : Host.Outcome State Fault Refusal :=
  run (fun c => (c.weaveInputs pads ign accel pps).weaveSeen) s
/-- WV_USER_EVENT (R506): the same for a change that makes an event line rise. -/
def execWvUserEvent (pads : BitVec 64) (ign accel pps : Bool) (s : State) : Host.Outcome State Fault Refusal :=
  run (fun c => (c.weaveInputs pads ign accel pps).weaveSeen) s

/-- Rising edges of the global clocks gs at one instant (R490): the flip-flops of the running quadrants that they clock take their LUT
results, all from the values before the edge; on GCLK0 the synchronisers of the pins and of the inputs of R491 step. Only cells of
frames that are not 0 can change. (DESIGN CHOICE: log 187) -/
def Chip.weaveClock (c : Chip) (gs : List Nat) : Chip :=
  if gs.isEmpty then c else
  let cells := (c.weave.frames.map Prod.fst).flatMap (fun f => (List.range 8).map (fun m => 8 * f + m))
  let mine := cells.filter (fun n => quadLive c (cellQuad n) && gs.contains (cellFld c n 118 117))
  let ffs := mine.foldl (fun m n => mapSet false m n (weaveVal c (.res n))) c.weave.ffs
  let now : BitVec 64 := BitVec.ofNat 64 (bitsOfFn (padLevel c) 64)
  let w := { c.weave with ffs := ffs }
  let ext := c.weave.ign.toNat + 2 * c.weave.accel.toNat + 4 * c.weave.pps.toNat
  { c with fresh := c.fresh + 1,
           weave := if gs.contains 0 then { w with sync1 := now, sync2 := c.weave.sync1, ext1 := ext, ext2 := c.weave.ext1 } else w }

/-! ### Configuration (R498 to R501) -/

/-- LOAD (R498): the quadrants of the mask that are on enter loading; their FABRIC pins take their hold state. -/
def Chip.weaveLoad (c : Chip) (mask : Nat) : Chip :=
  let qs := (List.range 4).filter (fun q => mask.testBit q && c.isOn (.weave q) && !c.weave.loading.contains q)
  if qs.isEmpty then c else
  let c1 := c.keepPins (qs.flatMap quadPins)
  Chip.weaveSeen { c1 with weave := { c1.weave with loading := c1.weave.loading ++ qs } }
/-- CLEAR (R498): the frames of the loading quadrants of the mask become 0. -/
def Chip.weaveClear (c : Chip) (mask : Nat) : Chip :=
  { c with weave := { c.weave with
    frames := c.weave.frames.filter (fun e => !(mask.testBit (e.1 / 256) && c.weave.loading.contains (e.1 / 256))) } }
/-- START (R498): loading ends; the flip-flops take INIT; the pins are released; EV209. -/
def Chip.weaveStart (c : Chip) : Chip :=
  if c.weave.loading.isEmpty then c else
  let qs := c.weave.loading
  let kept := c.weave.ffs.filter (fun e => !qs.contains (cellQuad e.1))
  let cells := (c.weave.frames.filter (fun e => qs.contains (e.1 / 256))).flatMap (fun e => (List.range 8).map (fun m => 8 * e.1 + m))
  let ffs := cells.foldl (fun m n => mapSet false m n (cellBit c n 116)) kept
  (Chip.weaveSeen { c with weave := { c.weave with loading := [], ffs := ffs } }).raise 209
/-- A write of WEAVE_CFG_WINw: word 79 commits the window to the frame, clears it and advances ADDR; a commit to a quadrant that is
not loading is discarded (R501). -/
def Chip.weaveWindow (c : Chip) (w v : Nat) : Chip :=
  let win := mapSet 0 c.weave.window w v
  if w ≠ 79 then { c with weave := { c.weave with window := win } } else
  let f := c.fld Reg.WEAVE_CFG_ADDR 9 0
  let bits := win.foldl (fun b e => b + e.2 * 2 ^ (32 * e.1)) 0
  let c1 := c.setFld Reg.WEAVE_CFG_ADDR 9 0 (f + 1)
  let c2 := { c1 with weave := { c1.weave with window := [] } }
  if c.weave.loading.contains (f / 256) then
    { c2 with weave := { c2.weave with frames := mapSet 0 c2.weave.frames f bits } }
  else (c2.countFld Reg.WEAVE_CFG_STAT 15 0 1).raise 210
/-- A write of WEAVE_CFG_CTL (R498, R501): START applies to the quadrants already loading; CLEAR and LOAD follow. -/
def Chip.weaveCtl (c : Chip) (v : Word) : Chip :=
  let c1 := if bitOf v 0 then c.weaveStart else c
  (c1.weaveClear (Machine.fld v 11 8)).weaveLoad (Machine.fld v 7 4)

/-- Quadrant q powers on (R500): every frame 0, and loading. -/
def Chip.weaveOn (c : Chip) (q : Nat) : Chip :=
  if c.isOn (.weave q) then c else
  (({ c with weave := { c.weave with
    loading := c.weave.loading.filter (fun x => decide (x ≠ q)) ++ [q]
    frames := c.weave.frames.filter (fun e => decide (e.1 / 256 ≠ q))
    ffs := c.weave.ffs.filter (fun e => decide (cellQuad e.1 ≠ q)) } }).switchOn (.weave q))
/-- Quadrant q is off: its frames are lost, LOADING clears. -/
def Chip.weaveDark (c : Chip) (q : Nat) : Chip :=
  let c1 := c.switchOff (.weave q)
  { c1 with weave := { c1.weave with
    loading := c1.weave.loading.filter (fun x => decide (x ≠ q))
    frames := c1.weave.frames.filter (fun e => decide (e.1 / 256 ≠ q))
    ffs := c1.weave.ffs.filter (fun e => decide (cellQuad e.1 ≠ q)) } }
/-- Quadrants power off at one moment (R501, R505): the pins take their hold state as they all stand, then the quadrants are off. -/
def Chip.weaveOffAll (c : Chip) (qs : List Nat) : Chip :=
  let on := qs.filter (fun q => c.isOn (.weave q))
  if on.isEmpty then c else (on.foldl (fun d q => d.weaveDark q) (c.keepPins (on.flatMap quadPins))).weaveSeen
/-- Quadrant q powers off. -/
def Chip.weaveOff (c : Chip) (q : Nat) : Chip := c.weaveOffAll [q]

/-- A write of WEAVE_PINk (R505, R512): HOLD 0b110 and 0b111 leave HOLD unchanged; a return to FABRIC mode in a loading
quadrant puts the pin in hold. -/
def Chip.weavePin (c : Chip) (k : Nat) (v : Word) : Chip :=
  let a := Reg.WEAVE_PINk k
  let h := if 6 ≤ Machine.fld v 14 12 then c.fld a 14 12 else Machine.fld v 14 12
  let new := Machine.setFld (v &&& 0x71FC) 14 12 h
  let c1 := if c.bit a 8 && !bitOf v 8 && c.weave.loading.contains (k / 16) then c.keepPins [k] else c
  (c1.setReg a new).weaveSeen

/-- WEAVE_LOAD (R498). -/
def execWeaveLoad (mask : BitVec 4) (s : State) : Host.Outcome State Fault Refusal := run (fun c => c.weaveLoad mask.toNat) s
/-- WEAVE_CLEAR (R498). -/
def execWeaveClear (mask : BitVec 4) (s : State) : Host.Outcome State Fault Refusal := run (fun c => c.weaveClear mask.toNat) s
/-- WEAVE_START (R498). -/
def execWeaveStart (s : State) : Host.Outcome State Fault Refusal := run Chip.weaveStart s
/-- FRAME_COMMIT (R498): the write of WEAVE_CFG_WIN79. -/
def execFrameCommit (data : Word) (s : State) : Host.Outcome State Fault Refusal := run (fun c => c.weaveWindow 79 data.toNat) s
/-- WEAVE_CFG_STAT as a bus read shows it (R511). -/
def weaveCfgStat (c : Chip) : Nat :=
  bitsOfFn (fun q => c.weave.loading.contains q) 4 * 2 ^ 28 + bitsOfFn (fun q => c.isOn (.weave q)) 4 * 2 ^ 24 +
    c.fld Reg.WEAVE_CFG_STAT 15 0
/-- CFG_STAT_READ (R511): DISCARD is returned and cleared. -/
def execCfgStatRead (s : State) : Host.Outcome State Fault Refusal :=
  run (fun c => (c.respond (respOk (weaveCfgStat c))).setFld Reg.WEAVE_CFG_STAT 15 0 0) s
/-- PIN_MODE_WRITE (R504, R505): MODE = 1 releases the pin at once. -/
def execPinModeWrite (k : Fin 64) (data : Word) (s : State) : Host.Outcome State Fault Refusal :=
  run (fun c => c.weavePin k.val data) s
/-- WEAVE_BANK as a bus read shows it (R503, R511): the faults, and the level that each bank found at power-on, which is the board's.
(DESIGN CHOICE: log 158) -/
def weaveBank (c : Chip) : Nat :=
  let v33 : Bool → Bool := fun b => c.pow.started && Config.bankHigh b
  (c.bit Reg.WEAVE_BANK 3).toNat * 8 + (v33 true).toNat * 4 + (c.bit Reg.WEAVE_BANK 1).toNat * 2 + (v33 false).toNat
/-- BANK_FAULT (R503): a bank supply outside both ranges: FAULT, EV211; the bank's pins are held. -/
def execBankFault (bankB : Bool) (s : State) : Host.Outcome State Fault Refusal :=
  run (fun c =>
    let i := if bankB then 3 else 1
    let c1 := c.keepPins ((List.range 32).map (fun k => (if bankB then 32 else 0) + k))
    if c.bit Reg.WEAVE_BANK i then c else (c1.setBit Reg.WEAVE_BANK i true).weaveSeen.raise 211) s

/-! ### The ADC (R507) -/

/-- AVG, 9 to 15 acting as 8. -/
def adcAvg (c : Chip) (k : Nat) : Nat := Nat.min 8 (c.fld (Reg.WEAVE_ADC_CHc k) 27 24)
/-- Is channel k in the scan? -/
def adcEn (c : Chip) (k : Nat) : Bool := c.bit (Reg.WEAVE_ADC_CHc k) 31
/-- The channel that the scan converts now: the first enabled one at or after adcNext, wrapping round. (DESIGN CHOICE: log 108) -/
def adcChannel (c : Chip) : Option Nat :=
  match (List.range 16).find? (fun k => decide (c.weave.adcNext ≤ k) && adcEn c k) with
  | some k => some k
  | none => (List.range 16).find? (fun k => adcEn c k)

/-- The result v of channel k, written in d, crosses the level of SOURCE 0x03 triggers: it lies above where the result before did not,
or the other way (R452, R507). (DESIGN CHOICE: log 188) -/
def adcEdges (c : Chip) (k v : Nat) (d : Chip) : Chip :=
  let r := Reg.WEAVE_ADC_RESc k
  d.sawEdges (fun i =>
    let p := trigParam c i
    if trigSource c i = 3 && decide (natBits p 15 12 = k) && c.bit r 30 then
      edgeOf (decide (p % 4096 < c.fld r 11 0)) (decide (p % 4096 < v))
    else none)
/-- ADC_CHANNEL_RESULT (R507): the 2^AVG conversions of the channel are complete; the result and the scan count are
written whole, the flag clears below LOW and then sets above HIGH (EV216 for a change), and the last channel of a scan
raises EV217. `conv` holds the conversions in order. -/
def execAdcChannelResult (conv : List (BitVec 12)) (s : State) : Host.Outcome State Fault Refusal :=
  run (fun c =>
    if !c.bit Reg.WEAVE_ADC_CTL 0 then c else
    match adcChannel c with
    | none => c
    | some k =>
      let n := 2 ^ adcAvg c k
      let v := (conv.take n).foldl (fun a x => a + x.toNat) 0 / n % 4096
      let ch := Reg.WEAVE_ADC_CHc k
      let r := Reg.WEAVE_ADC_RESc k
      let old := c.bit r 31
      let low := if v < c.fld ch 11 0 then false else old
      let flag := if c.fld ch 23 12 < v then true else low
      let c1 := ((adcEdges c k v (c.setReg r (BitVec.ofNat 32 (flag.toNat * 2 ^ 31 + 2 ^ 30 + c.weave.scans % 4096 * 2 ^ 16 + v)))).raiseIf
        (decide (flag ≠ old)) 216).weaveSeen
      let more := (List.range 16).any (fun j => decide (k < j) && adcEn c j)
      if more then { c1 with weave := { c1.weave with adcNext := k + 1 } }
      else ({ c1 with weave := { c1.weave with adcNext := 0, scans := c1.weave.scans + 1 } }).raise 217) s

/-! ### I2C (R508, R513) -/

/-- I2C master n. -/
def i2cOf (c : Chip) (n : Nat) : I2c := mapGet {} c.weave.i2c n
/-- Replace I2C master n. -/
def Chip.setI2c (c : Chip) (n : Nat) (x : I2c) : Chip := { c with weave := { c.weave with i2c := mapSet {} c.weave.i2c n x } }
/-- A command written to WEAVE_I2Cn_CMD: a full FIFO discards it and sets OVF. -/
def Chip.i2cPush (c : Chip) (n v : Nat) : Chip :=
  let x := i2cOf c n
  if 32 ≤ x.cmds.length then c.setBit (Reg.WEAVE_I2Cn_STAT n) 27 true
  else (c.setI2c n { x with cmds := x.cmds ++ [v % 2048] }).setBit (Reg.WEAVE_I2Cn_STAT n) 31 (c.bit (Reg.WEAVE_I2Cn_CTL n) 31)
/-- A write of I2Cn_CTL: a master that is enabled with commands waiting is busy. -/
def Chip.i2cEnable (c : Chip) (n : Nat) : Chip :=
  c.setBit (Reg.WEAVE_I2Cn_STAT n) 31 (c.bit (Reg.WEAVE_I2Cn_CTL n) 31 && !(i2cOf c n).cmds.isEmpty)
/-- What the master sends for command v, whose own act is `a`: a START before where bit 10 is set (R513). -/
def i2cActs (v : Nat) (a : I2cAct) : List I2cAct := (if v.testBit 10 then [.start] else []) ++ [a]
/-- The head command has completed, with these acts on the bus: the completion of the FIFO raises EV218 + n. -/
def Chip.i2cNext (c : Chip) (n : Nat) (x : I2c) (rest : List Nat) (acts : List I2cAct) : Chip :=
  let c1 := c.setI2c n { x with cmds := rest, sent := x.sent ++ acts }
  if rest.isEmpty then (c1.setBit (Reg.WEAVE_I2Cn_STAT n) 31 false).raise (218 + n) else c1
/-- The commands after the next STOP. (DESIGN CHOICE: log 107) -/
def afterStop : List Nat → List Nat
  | [] => []
  | v :: t => if natBits v 9 8 = 3 then t else afterStop t
/-- Run the head command of master n where it has this OP. -/
def Chip.i2cRun (c : Chip) (n op : Nat) (f : Chip → I2c → Nat → List Nat → Chip) : Chip :=
  if !c.bit (Reg.WEAVE_I2Cn_CTL n) 31 then c else
  match (i2cOf c n).cmds with
  | v :: rest => if natBits v 9 8 = op then f c (i2cOf c n) v rest else c
  | [] => c
/-- A byte read by master n goes to its receive FIFO, which the master waits for when it is full. (DESIGN CHOICE: log 107) -/
def Chip.i2cReceive (c : Chip) (n op : Nat) (data : Byte) : Chip :=
  c.i2cRun n op (fun c x v rest =>
    if 32 ≤ x.rx.length then c else c.i2cNext n { x with rx := x.rx ++ [data] } rest (i2cActs v (.read (decide (op = 1)))))

/-- I2C_WRITE (R508): a byte is written; a NACK discards every command up to and including the next STOP, sends a STOP and sets
NACK, and raises EV218 + n as an error. -/
def execI2cWrite (n : Fin 4) (ack : Bool) (s : State) : Host.Outcome State Fault Refusal :=
  run (fun c => c.i2cRun n.val 0 (fun c x v rest =>
    let acts := i2cActs v (.wrote (v % 256))
    if ack then c.i2cNext n.val x rest acts
    else
      let left := afterStop rest
      ((c.setI2c n.val { x with cmds := left, sent := x.sent ++ acts ++ [.stop] }).setBit (Reg.WEAVE_I2Cn_STAT n.val) 30 true).setBit
        (Reg.WEAVE_I2Cn_STAT n.val) 31 (!left.isEmpty) |>.raise (218 + n.val))) s
/-- I2C_READ_ACK (R508). -/
def execI2cReadAck (n : Fin 4) (data : Byte) (s : State) : Host.Outcome State Fault Refusal :=
  run (fun c => c.i2cReceive n.val 1 data) s
/-- I2C_READ_NACK (R508). -/
def execI2cReadNack (n : Fin 4) (data : Byte) (s : State) : Host.Outcome State Fault Refusal :=
  run (fun c => c.i2cReceive n.val 2 data) s
/-- I2C_STOP (R508). -/
def execI2cStop (n : Fin 4) (s : State) : Host.Outcome State Fault Refusal :=
  run (fun c => c.i2cRun n.val 3 (fun c x v rest => c.i2cNext n.val x rest (i2cActs v .stop))) s
/-- I2C_TIMEOUT (R508): a stretch beyond 25 ms sets TIMEOUT, SDA held low while idle BUSERR; nine clocks and a STOP are sent. The
commands that wait are dropped with the transfer that the STOP ends. -/
def execI2cTimeout (n : Fin 4) (sdaLow : Bool) (s : State) : Host.Outcome State Fault Refusal :=
  run (fun c =>
    let x := i2cOf c n.val
    let sent := x.sent ++ [.nineClocks, .stop]
    if !c.bit (Reg.WEAVE_I2Cn_CTL n.val) 31 then c
    else if sdaLow then
      if x.cmds.isEmpty then ((c.setI2c n.val { x with sent := sent }).setBit (Reg.WEAVE_I2Cn_STAT n.val) 28 true).raise (218 + n.val)
      else c
    else if x.cmds.isEmpty then c
    else
      let left := afterStop x.cmds
      (((c.setI2c n.val { x with cmds := left, sent := sent }).setBit (Reg.WEAVE_I2Cn_STAT n.val) 29 true).setBit
        (Reg.WEAVE_I2Cn_STAT n.val) 31 (!left.isEmpty)).raise (218 + n.val)) s
/-- The head of a receive FIFO, 0 where it is empty, and the FIFO without it. -/
def Chip.i2cPop (c : Chip) (n : Nat) : Nat × Chip :=
  let x := i2cOf c n
  match x.rx with
  | b :: rest => (b.toNat, c.setI2c n { x with rx := rest })
  | [] => (0, c)
/-- I2C_RX_READ (R513). -/
def execI2cRxRead (n : Fin 4) (s : State) : Host.Outcome State Fault Refusal :=
  run (fun c =>
    let r := c.i2cPop n.val
    r.2.respond (respOk r.1)) s

/-! ### SPI (R509, R513) -/

/-- SPI master n. -/
def spiOf (c : Chip) (n : Nat) : Spi := mapGet {} c.weave.spi n
/-- Replace SPI master n. -/
def Chip.setSpi (c : Chip) (n : Nat) (x : Spi) : Chip := { c with weave := { c.weave with spi := mapSet {} c.weave.spi n x } }
/-- The word length: BITS + 1, BITS 0 to 2 acting as 3. -/
def spiBits (c : Chip) (n : Nat) : Nat := Nat.max 3 (c.fld (Reg.WEAVE_SPIn_CTL n) 20 16) + 1
/-- A word written to WEAVE_SPIn_TX; the spec does not say what a full FIFO does with it, and it is dropped. -/
def Chip.spiPush (c : Chip) (n v : Nat) : Chip :=
  let x := spiOf c n
  if 16 ≤ x.tx.length then c else c.setSpi n { x with tx := x.tx ++ [v] }
/-- The chip select that stays asserted between words: that of CS, while EN and HOLD_CS are 1 and words wait (R509). -/
def spiHold (c : Chip) (n : Nat) (tx : List Nat) : Option Nat :=
  let a := Reg.WEAVE_SPIn_CTL n
  if c.bit a 31 && c.bit a 30 && !tx.isEmpty then some (c.fld a 27 26) else none
/-- A write of SPIn_CTL: a chip select that no longer stays asserted is released. -/
def Chip.spiControl (c : Chip) (n : Nat) : Chip :=
  let x := spiOf c n
  match x.held with
  | some k => if spiHold c n x.tx = some k then c else c.setSpi n { x with held := none }
  | none => c
/-- SPI_WORD (R509): the head word is sent under the selected chip select, and the word received with it enters the RX FIFO; an empty TX
FIFO raises EV222 + n. With the RX FIFO full the word received is lost. -/
def execSpiWord (n : Fin 2) (data : Word) (s : State) : Host.Outcome State Fault Refusal :=
  run (fun c =>
    let x := spiOf c n.val
    if !c.bit (Reg.WEAVE_SPIn_CTL n.val) 31 then c else
    match x.tx with
    | [] => c
    | w :: rest =>
      let a := Reg.WEAVE_SPIn_CTL n.val
      let b := spiBits c n.val
      let rx := if 16 ≤ x.rx.length then x.rx else x.rx ++ [data.toNat % 2 ^ b]
      let out : SpiSent := { cs := c.fld a 27 26, mode := c.fld a 29 28, bits := b, word := w % 2 ^ b }
      (c.setSpi n.val { tx := rest, rx := rx, held := spiHold c n.val rest, sent := x.sent ++ [out] }).raiseIf rest.isEmpty (222 + n.val)) s
/-- The head of the RX FIFO, and the FIFO without it. -/
def Chip.spiPop (c : Chip) (n : Nat) : Nat × Chip :=
  let x := spiOf c n
  match x.rx with
  | v :: rest => (v, c.setSpi n { x with rx := rest })
  | [] => (0, c)
/-- SPI_RX_READ (R513). -/
def execSpiRxRead (n : Fin 2) (s : State) : Host.Outcome State Fault Refusal :=
  run (fun c =>
    let r := c.spiPop n.val
    r.2.respond (respOk r.1)) s

end Sys2Proof.Machine
end

