-- ==== Sys2Proof/Machine/Capsule.lean ====
section
/-!
DEFINITION. Resets and the capsule: what a reset keeps (R487, R505, R538, R539, R546, R573, R574), the capsule that runs
before every reset that Salun makes itself (R376 to R380), and the supply's events (R575, R576).
-/
namespace Sys2Proof.Machine

/-! ### Reset -/

/-- The always-on registers, with the bits of them that a reset keeps (R487, R505, R539, R546). -/
def alwaysOnRegs : List (Nat × Nat) :=
  [(Reg.SYS_WAKE_EN, 0x10F), (Reg.SYS_WAKE_CAUSE, 0x1F), (Reg.SYS_RTC_ALARM_LO, 0xFFFFFFFF), (Reg.SYS_RTC_ALARM_HI, 0xFF),
    (Reg.SYS_WAKE_CANID, 0x37FF), (Reg.WDT_STAT, 0xC0000000), (Reg.DBG_AON, 0xF0000000)] ++
    (List.range 64).map (fun k => (Reg.WEAVE_PINk k, 0x7000))
/-- The register file after a reset: every register at its reset value but the always-on ones; SPIN_STAT.MANAGER follows
the strap (R531), and SYS_SUPPLY.OUT the rails (R586). -/
def Chip.resetRegs (c : Chip) : List (Nat × Word) :=
  let r := alwaysOnRegs.foldl (fun m e =>
    mapSet (regReset e.1) m e.1 ((regReset e.1 &&& ~~~(BitVec.ofNat 32 e.2)) ||| (c.reg e.1 &&& BitVec.ofNat 32 e.2))) []
  let spin := Machine.setBit (regReset Reg.SPIN_STAT) 31 c.mgrSel
  let tstat := if c.fld Reg.TIME_STAT 31 30 = 0 then 0 else 3
  mapSet (regReset Reg.SYS_SUPPLY) (mapSet (regReset Reg.TIME_STAT) (mapSet (regReset Reg.SPIN_STAT) r Reg.SPIN_STAT spin) Reg.TIME_STAT
    (Machine.setFld (regReset Reg.TIME_STAT) 31 30 tstat)) Reg.SYS_SUPPLY (BitVec.ofNat 32 (c.fld Reg.SYS_SUPPLY 7 0))

/-- Memory that keeps its contents through every reset: the flash and the Silo (R26, R370). -/
def nonVolatile (a : Nat) : Bool :=
  (decide (0x10000000 ≤ a) && decide (a < 0x20000000)) || (decide (0x30000000 ≤ a) && decide (a < 0x30800000))

/-- Every domain but the always-on one is reset. The flash, the Silo, the OTP and the Seal Unit's records keep their
contents; the Timebase goes on from its backup counter, in HOLDOVER where it had a time (R422). -/
def Chip.resetAll (c : Chip) : Chip :=
  { is08X := c.is08X, mgrSel := c.mgrSel, deviceNo := if c.mgrSel then 0 else 15
    ns := c.ns, fresh := c.fresh
    domains := [.mesh]
    mem := c.mem.filter (fun e => nonVolatile e.1)
    ecc := c.ecc.filter (fun e => nonVolatile e.1)
    regs := c.resetRegs
    time := { now := c.time.now }
    life := { sampledAt := c.life.sampledAt }
    ev := { nextSeq := c.dropUnjournaled.ev.nextSeq, prevHash := c.dropUnjournaled.ev.prevHash, covered := c.ev.covered
            sysCov := c.ev.sysCov, stookCtr := c.ev.stookCtr, stookHash := c.ev.stookHash }
    su := { otp := c.su.otp, otpEcc := c.su.otpEcc, records := c.su.records }
    silo := { jnext := c.silo.jnext, pos := c.silo.pos, control := c.silo.control, txseq := c.silo.txseq, txCopy := c.silo.txCopy }
    pow := { refLost := c.pow.refLost, xtalLost := c.pow.xtalLost, vinLow := c.pow.vinLow, supplyAt := c.pow.supplyAt }
    spin := { since := c.ns }
    sw := { ring := c.sw.ring }
    weave := { kept := c.weave.kept, pads := c.weave.pads, ign := c.weave.ign, accel := c.weave.accel, pps := c.weave.pps }
    dbg := { ports := c.dbg.ports.map (fun e => (e.1, { fails := e.2.fails, locked := e.2.locked })) } }

/-! ### The capsule (R376 to R380) -/

/-- Switch domains off without drains (R378 step 3): only those named stay. The DRAM and the core memories lose their
contents, the tiles theirs; what the Seal Unit had under way lay in its private SRAM. -/
def Chip.keepOnly (c : Chip) (keep : List Domain) : Chip :=
  let c1 := c.weaveOffAll ((List.range 4).filter (fun q => !keep.contains (.weave q)))
  let c2 := c1.domains.foldl (fun d x => match x with
    | .tileLogic t => if keep.contains x then d else d.setBit (Reg.SYS_TTEMP t) 31 true
    | _ => d) c1
  let c3 := (c2.setBit Reg.DRC_STAT 31 false).setFld Reg.DRC_STAT 7 4 0
  let c4 := if keep.contains .sealUnit then c3 else
    { c3 with su := { c3.su with boxA := none, boxB := none, load := none } }
  { c4 with
    domains := c4.domains.filter (fun x => keep.contains x)
    mem := c4.mem.filter (fun e => nonVolatile e.1)
    ecc := c4.ecc.filter (fun e => nonVolatile e.1)
    tiles := [], pow := { c4.pow with tileState := [] } }

/-- The 64 bytes of a CAPSULE entry's payload (R371). -/
def capsulePayload (cause nsheaf mode cflags counter : Nat) : List Byte :=
  listFit 0 64 (leBytes 1 cause ++ leBytes 1 nsheaf ++ leBytes 1 mode ++ leBytes 1 cflags ++ [0, 0, 0, 0] ++ leBytes 8 counter)

/-- CAPSULE_START (R325, R378, R379, R561): steps 2 to 5. LOSS_TAI is latched; capture, storage, the sequencer, the core and a
transaction's application stop; mailbox commands and a stook being signed are abandoned; domains switch off; every open
sheaf closes POWER_LOST and is journaled, then PROGRESS and CAPSULE. A second cause is ignored, and so is one
in DORMANT, where nothing is left to save. (DESIGN CHOICE: log 71) -/
def Chip.capsuleStart (c : Chip) (cause : Nat) : Chip :=
  if c.silo.capsule.isSome || !c.isOn .silo then c else
  let tai := c.tai.toNat
  let mode := if c.fld Reg.SYS_MODE 15 8 = 0 then c.fld Reg.SYS_MODE 7 0 else 0xFF
  let cflags := c.silo.txApply.isSome.toNat + 2 * c.ev.signing.isSome.toNat
  let counter := sealCounter c 0
  let c1 := (c.raiseIf (decide (cause = 1)) 0).lifeAdd (1 + cause) 1
  let c2 := ({ c1 with
    silo := { c1.silo with capsule := some { cause := cause, lossTai := tai }, txApply := none }
    su := { c1.su with boxA := none, boxB := none, load := none }
    ev := { c1.ev with signing := none, due := false }
    seq := { c1.seq with powerStop := true } }).takeUrgent
  let c3 := (c2.setBit Reg.LIFE_SNAP 30 false).applyHeld
  let c4 := Chip.dropArriving ({ c3 with pkr := {} }.keepOnly [.mesh, .sealUnit, .silo, .storageWriter])
  let open_ := c4.ev.sheaves
  let n := if sealTakes c4 then open_.length else 0
  let c5 := open_.foldl (fun d x => if d.ev.sheaves.contains x then d.closeLost x else d) c4
  c5.askProgress.journal { typ := 4, tai := some tai, payload := capsulePayload cause n mode cflags counter }

/-- Write every journal entry that waits and fits, in order: one that does not fit holds up none behind it, so that the capsule loses no
record that has space (R378, R382, R383). (DEDUCED: log 57) -/
def Chip.journalAll : Nat → Chip → Chip
  | 0, c => c
  | fuel + 1, c =>
    match c.silo.waiting with
    | [] => c
    | w :: rest =>
      if entryFits c w.typ then Chip.journalAll fuel c.journalNext
      else Chip.journalAll fuel { c with silo := { c.silo with waiting := rest } }

/-- CAPSULE_COMPLETE (R378, R380): the entries are journaled, the lifetime shadow flushed and CAPSULE_END journaled; only the
always-on, mesh and Silo domains stay on. For every cause but VIN_SENSE the reset follows at once. -/
def Chip.capsuleComplete (c : Chip) : Chip :=
  match c.silo.capsule with
  | none => c
  | some k =>
    if k.ended then c else
    let c1 := Chip.journalAll c.silo.waiting.length c
    let c2 := { c1.lifeFlush with silo := { c1.lifeFlush.silo with waiting := [] } }
    let c3 := (c2.journal { typ := 5, payload := [] }).journalNext
    let c4 := { c3 with silo := { c3.silo with capsule := some { k with ended := true } } }
    let c5 := c4.keepOnly [.mesh, .silo]
    if k.cause = 1 then c5 else { c5.resetAll with pow := { c5.resetAll.pow with wdReset := decide (k.cause = 2) } }

/-- VIN_SENSE_FALL (R376): VIN_OK falls, and the capsule starts, with EV0. -/
def execVinSenseFall (s : State) : Host.Outcome State Fault Refusal :=
  runAny (fun c => Chip.capsuleStart ({ c with pow := { c.pow with vinLow := true } }.setBit Reg.SILO_PF 31 false) 1) s
/-- CAPSULE_COMPLETE (R380). -/
def execCapsuleComplete (s : State) : Host.Outcome State Fault Refusal := run Chip.capsuleComplete s
/-- VIN_RECOVERED (R380): VIN_SENSE has stayed above its threshold plus hysteresis for 10 ms: a start may go on, and after a capsule for
VIN_SENSE Salun resets itself. -/
def execVinRecovered (s : State) : Host.Outcome State Fault Refusal :=
  runAny (fun c =>
    let c1 := Chip.setBit { c with pow := { c.pow with vinLow := false } } Reg.SILO_PF 31 (c.isOn .silo)
    match c.silo.capsule with
    | some k => if k.ended && decide (k.cause = 1) then c1.resetAll else c1
    | none => c1) s
/-- PF_WARN (R486): VIN_SENSE falls below its threshold plus 50 mV. -/
def execPfWarn (s : State) : Host.Outcome State Fault Refusal := runAny (fun c => c.raise 1) s

/-! ### Resets from outside (R487, R573, R574) -/

/-- SW_RESET (R487): SYS_RESET.SWRESET runs the capsule with CAUSE 0x3. -/
def execSwReset (s : State) : Host.Outcome State Fault Refusal := run (fun c => c.capsuleStart 3) s
/-- EXTERNAL_RESET (R574): every domain but the always-on one is reset, with no capsule; the Weave's pins take their hold states as they
stand (R505). -/
def execExternalReset (s : State) : Host.Outcome State Fault Refusal :=
  runAny (fun c => Chip.resetAll (c.weaveOffAll [0, 1, 2, 3])) s
/-- AON_POWER_ON (R422, R505, R538, R539, R573): the always-on state is as after the loss of VDD_AON, and PWR_EN rises. `mgrSel` is the
strap of the board. -/
def execAonPowerOn (mgrSel : Bool) (s : State) : Host.Outcome State Fault Refusal :=
  runAny (fun c =>
    let c1 := { c with regs := [], mgrSel := mgrSel, time := {}, dbg := {}, weave := {} }
    let c2 := c1.resetAll
    { c2 with time := { now := 0 }, pow := { pwrEn := true, vinLow := c.pow.vinLow } }) s

/-! ### Supplies (R575, R576, R586) -/

/-- Is the rail watched now (R576)? VDD_ARRAY is ignored for 15 µs after each code change. -/
def railWatched (c : Chip) (r : Nat) : Bool := !(decide (r = 0) && decide (0 < c.pow.stepAt) && decide (c.ns < c.pow.stepAt + 15000))
/-- Have all rails been in range for 1 ms (R573 step 6)? -/
def railsGood (c : Chip) : Bool :=
  decide (c.fld Reg.SYS_SUPPLY 7 0 = 0) && (match c.pow.supplyAt with
    | some t => decide (t + 1000000 ≤ c.ns)
    | none => true)
/-- SUPPLY_WARN (R576): rail r leaves its recommended range: SEEN, EV2. -/
def execSupplyWarn (r : Fin 8) (s : State) : Host.Outcome State Fault Refusal :=
  runAny (fun c =>
    if c.bit Reg.SYS_SUPPLY r.val || !railWatched c r.val then c
    else ((c.setBit Reg.SYS_SUPPLY r.val true).setBit Reg.SYS_SUPPLY (8 + r.val) true).raise 2) s
/-- SUPPLY_RETURN (R576, R586): rail r is in its range again. -/
def execSupplyReturn (r : Fin 8) (s : State) : Host.Outcome State Fault Refusal :=
  runAny (fun c =>
    if !c.bit Reg.SYS_SUPPLY r.val then c
    else { c.setBit Reg.SYS_SUPPLY r.val false with pow := { c.pow with supplyAt := some c.ns } }) s

/-! ### Events (R482 to R485) -/

/-- A W1C write to EVT_HPENDk (R483): every host line that is still pending signals its vector again. -/
def Chip.hpendWrite (c : Chip) (k : Nat) (v : Word) : Chip :=
  let a := Reg.EVT_HPENDk k
  let c1 := c.setReg a (c.reg a &&& ~~~v)
  { c1 with hostUp := [] }
/-- A W1C write to EVT_DPENDk. -/
def Chip.dpendWrite (c : Chip) (k : Nat) (v : Word) : Chip :=
  let a := Reg.EVT_DPENDk k
  c.setReg a (c.reg a &&& ~~~v)
/-- EVT_PEND_CLEAR (R482, R483). -/
def execEvtPendClear (host : Bool) (k : Fin 8) (v : Word) (s : State) : Host.Outcome State Fault Refusal :=
  run (fun c => if host then c.hpendWrite k.val v else c.dpendWrite k.val v) s
/-- A write of EVT_DOORBELL (R485): bit j raises EV248 + j. -/
def Chip.doorbell (c : Chip) (v : Nat) : Chip := (onesBelow 8 v).foldl (fun d j => d.raise (248 + j)) c
/-- EVT_DNEXTL (R484): VALID and the lowest event pending on line L. -/
def dnextOf (c : Chip) (L : Nat) : Nat :=
  match (pendingOf c (Reg.EVT_DPENDk 0)).find? (fun i => distaffLine c i == L) with
  | some i => 2 ^ 31 + i
  | none => 0

end Sys2Proof.Machine
end

