-- ==== Sys2Proof/Machine/Watchdog.lean ====
section
/-!
DEFINITION. The watchdog (R546, R547, R557).
-/
namespace Sys2Proof.Machine

/-- TIMEOUT in nanoseconds; below 20 ms it acts as 20 ms (R557). -/
def wdtTimeout (c : Chip) : Nat := Nat.max 20 (c.fld Reg.WDT_TIMEOUT 19 0) * 1000000
/-- Is LEFT held by a halt (R547)? -/
def wdtHeld (c : Chip) : Bool := c.bit Reg.WDT_CTL 1 && c.bit Reg.SYS_DCORE 29
/-- LEFT in nanoseconds. -/
def wdtLeft (c : Chip) : Nat :=
  match c.wdt.expires, c.wdt.held with
  | some e, _ => e - c.ns
  | none, some h => h
  | none, none => 0
/-- WDT_LEFT (R557), in ms. -/
def wdtLeftMs (c : Chip) : Nat := Nat.min 0xFFFFF (wdtLeft c / 1000000)
/-- WDT_STAT with FROZEN (R557). -/
def wdtStat (c : Chip) : Word := Machine.setBit (c.reg Reg.WDT_STAT) 29 (wdtHeld c)

/-- Let LEFT count or hold, as EN and a halt say; `topUp` at the release from a halt (R547). -/
def Chip.wdtFollow (c : Chip) (topUp : Bool) : Chip :=
  if !c.bit Reg.WDT_CTL 0 then c
  else if wdtHeld c then
    match c.wdt.expires with
    | some e => { c with wdt := { c.wdt with expires := none, held := some (e - c.ns) } }
    | none => c
  else
    match c.wdt.held with
    | some h => { c with wdt := { c.wdt with expires := some (c.ns + if topUp then Nat.max h 10000000 else h), held := none } }
    | none => c

/-- A write of WDT_KICK (R546): 0x0000_5A3C reloads LEFT, any other value is ignored. (DEDUCED: log 118) -/
def Chip.wdtKick (c : Chip) (v : Nat) : Chip :=
  if v ≠ 0x5A3C then c
  else Chip.wdtFollow { c with wdt := { expires := none, held := some (wdtTimeout c), warned := false } } false
/-- A write of WDT_CTL (R546, R557): EN starts the count from TIMEOUT, and only a reset clears it. (DEDUCED: log 118) -/
def Chip.wdtCtl (c : Chip) (v : Nat) : Chip :=
  let c1 := c.setBit Reg.WDT_CTL 1 (v.testBit 1)
  if v.testBit 0 && !c.bit Reg.WDT_CTL 0 then
    Chip.wdtFollow { c1.setBit Reg.WDT_CTL 0 true with wdt := { held := some (wdtTimeout c) } } false
  else c1.wdtFollow false

/-- WDT_ENABLE (R546). -/
def execWdtEnable (freeze : Bool) (s : State) : Host.Outcome State Fault Refusal :=
  run (fun c => c.wdtCtl (1 + 2 * freeze.toNat)) s
/-- WDT_KICK (R546). -/
def execWdtKick (v : Word) (s : State) : Host.Outcome State Fault Refusal := run (fun c => c.wdtKick v.toNat) s
/-- WDT_WARN (R546): once after each reload, when LEFT first falls to WARN; WARN 0 never warns. -/
def execWdtWarn (s : State) : Host.Outcome State Fault Refusal :=
  runAny (fun c =>
    let w := c.fld Reg.WDT_WARN 19 0
    if c.wdt.expires.isSome && !c.wdt.warned && decide (0 < w) && decide (wdtLeft c ≤ w * 1000000) then
      Chip.raise { c with wdt := { c.wdt with warned := true } } 11
    else c) s
/-- WDT_EXPIRY (R546, R547): LEFT reaches 0; WDRESET, during a halt HALTRESET too, and the capsule runs with CAUSE 0x2. A second
cause during a capsule is ignored (R378). -/
def execWdtExpiry (s : State) : Host.Outcome State Fault Refusal :=
  runAny (fun c =>
    if c.wdt.expires.isSome && decide (wdtLeft c = 0) && c.silo.capsule.isNone && !c.pow.dormant then
      let c1 := c.setBit Reg.WDT_STAT 31 true
      let c2 := if c.bit Reg.SYS_DCORE 29 then (c1.setBit Reg.WDT_STAT 30 true).lifeAdd 7 1 else c1
      c2.capsuleStart 2
    else c) s

end Sys2Proof.Machine
end

