-- ==== Sys2Proof/Machine/CoreRegs.lean ====
section
/-!
DEFINITION. The core's registers as MRS, MSR and the debugger reach them (R209, R235, R543), halting and releasing it (R541, R542,
R544, R547), and whether it runs at all (R210).
-/
namespace Sys2Proof.Machine

/-- Change the core. -/
def Chip.onCore (c : Chip) (f : Core → Core) : Chip := { c with core := f c.core }

/-! ### STATUS (R235) and SYS_DCORE (R236) -/

/-- STATUS.EXC. -/
def coreExc (c : Chip) : Bool := c.core.status.toNat.testBit 8
/-- STATUS.IE. -/
def coreIe (c : Chip) : Bool := c.core.status.toNat.testBit 4
/-- STATUS.IPL. -/
def coreIpl (c : Chip) : Nat := Machine.fld c.core.status 2 0
/-- LOCKUP. -/
def lockedUp (c : Chip) : Bool := c.bit Reg.SYS_DCORE 31
/-- HALTED. -/
def coreHalted (c : Chip) : Bool := c.bit Reg.SYS_DCORE 29
/-- Is CCLK there (R34, R479)? The core PLL that the power controller has stopped runs again on need (R476). -/
def cclkRuns (c : Chip) : Bool := !c.pow.unlocked.contains 1
/-- The core has been released and its domain is on (R210). -/
def coreAlive (c : Chip) : Bool := c.su.released && c.isOn .core
/-- Does the core execute: released, clocked, not halted, not locked up? -/
def coreRuns (c : Chip) : Bool := coreAlive c && cclkRuns c && !coreHalted c && !lockedUp c

/-! ### Control registers (R235) -/

/-- What a read of control register `sel` returns; none for a SEL that R235 does not list. -/
def mrsValue (c : Chip) (sel : Nat) : Option Word :=
  let k := c.core
  match sel with
  | 0 => some k.status
  | 1 => some k.flg
  | 2 => some k.fpsr
  | 3 => some k.cctl
  | 4 => some (if k.gorl then 1 else 0)
  | 5 => some (BitVec.ofNat 32 k.vbar.toNat)
  | 6 => some (BitVec.ofNat 32 (k.vbar.toNat / 2 ^ 32))
  | 7 => some k.cause
  | 8 => some (BitVec.ofNat 32 k.bad.toNat)
  | 9 => some (BitVec.ofNat 32 (k.bad.toNat / 2 ^ 32))
  | n =>
    if 0x10 ≤ n ∧ n < 0x28 then
      let b := (n - 0x10) / 4
      match n % 4 with
      | 0 => some (BitVec.ofNat 32 (listGet 0 k.epc b).toNat)
      | 1 => some (BitVec.ofNat 32 ((listGet 0 k.epc b).toNat / 2 ^ 32))
      | 2 => some (listGet 0 k.estat b)
      | _ => none
    else none

/-- A 40-bit value with its low or high part replaced. -/
def addrLow (a : Addr) (v : Nat) : Addr := BitVec.ofNat 40 (a.toNat / 2 ^ 32 * 2 ^ 32 + v % 2 ^ 32)
/-- Bits [39:32] replaced. -/
def addrHigh (a : Addr) (v : Nat) : Addr := BitVec.ofNat 40 (a.toNat % 2 ^ 32 + v % 256 * 2 ^ 32)

/-- A write of a listed control register (R235): RO registers and fields ignore it; IPL ignores 6 and 7; CCTL's DCE and ICE
invalidate their cache when they rise (R233). -/
def Core.msr (k : Core) (sel : Nat) (v : Word) : Core :=
  let x := v.toNat
  match sel with
  | 0 =>
    let w := v &&& 0x117#32
    { k with status := if 6 ≤ x % 8 then Machine.setFld w 2 0 (Machine.fld k.status 2 0) else w }
  | 1 => { k with flg := v &&& 0xFE000000#32 }
  | 2 => { k with fpsr := v &&& 0x31F1F#32 }
  | 3 => { k with
      cctl := v &&& 3#32
      dcache := if bitOf v 1 && !bitOf k.cctl 1 then [] else k.dcache
      icache := if bitOf v 0 && !bitOf k.cctl 0 then [] else k.icache }
  | 5 => { k with vbar := addrLow k.vbar (x / 512 * 512) }
  | 6 => { k with vbar := addrHigh k.vbar x }
  | n =>
    if 0x10 ≤ n ∧ n < 0x28 then
      let b := (n - 0x10) / 4
      match n % 4 with
      | 0 => { k with epc := listSet k.epc b (addrLow (listGet 0 k.epc b) (x / 4 * 4)) }
      | 1 => { k with epc := listSet k.epc b (addrHigh (listGet 0 k.epc b) x) }
      | 2 => { k with estat := listSet k.estat b (v &&& 0xFE0001FF#32) }
      | _ => k
    else k

/-! ### Debug access to the core's registers (R543) -/

/-- What DBG_CDATA shows for a CSEL; none for one that R543 does not list. -/
def cselValue (c : Chip) (n : Nat) : Option Nat :=
  let k := c.core
  if n < 0x10 then some (listGet 0 k.g n).toNat
  else if n < 0x14 then some ((listGet 0 k.a (n - 0x10)).toNat % 2 ^ 32)
  else if n < 0x18 then some ((listGet 0 k.a (n - 0x14)).toNat / 2 ^ 32)
  else if n < 0x20 then some ((listGet 0 k.p (n - 0x18)).toNat % 2 ^ 32)
  else if n < 0x28 then some ((listGet 0 k.p (n - 0x20)).toNat / 2 ^ 32)
  else if n < 0x30 then some ((listGet 0 k.b (n - 0x28)).toNat % 2 ^ 32)
  else if n < 0x38 then some ((listGet 0 k.b (n - 0x30)).toNat / 2 ^ 32)
  else if n < 0x40 then some (listGet 0 k.l (n - 0x38)).toNat
  else if n < 0x48 then some (listGet 0 k.n (n - 0x40)).toNat
  else if n = 0x48 then some (k.pc.toNat % 2 ^ 32)
  else if n = 0x49 then some (k.pc.toNat / 2 ^ 32)
  else if 0x50 ≤ n ∧ n < 0x78 then (mrsValue c (n - 0x50)).map BitVec.toNat
  else none

/-- A write of DBG_CDATA for a listed CSEL. -/
def Core.cselPut (k : Core) (n : Nat) (v : Word) : Core :=
  let x := v.toNat
  if n < 0x10 then { k with g := listSet k.g n v }
  else if n < 0x14 then { k with a := listSet k.a (n - 0x10) (addrLow (listGet 0 k.a (n - 0x10)) x) }
  else if n < 0x18 then { k with a := listSet k.a (n - 0x14) (addrHigh (listGet 0 k.a (n - 0x14)) x) }
  else if n < 0x20 then { k with p := listSet k.p (n - 0x18) (addrLow (listGet 0 k.p (n - 0x18)) x) }
  else if n < 0x28 then { k with p := listSet k.p (n - 0x20) (addrHigh (listGet 0 k.p (n - 0x20)) x) }
  else if n < 0x30 then { k with b := listSet k.b (n - 0x28) (addrLow (listGet 0 k.b (n - 0x28)) x) }
  else if n < 0x38 then { k with b := listSet k.b (n - 0x30) (addrHigh (listGet 0 k.b (n - 0x30)) x) }
  else if n < 0x40 then { k with l := listSet k.l (n - 0x38) (BitVec.ofNat 24 x) }
  else if n < 0x48 then { k with n := listSet k.n (n - 0x40) (BitVec.ofNat 24 x) }
  else if n = 0x48 then { k with pc := addrLow k.pc (x / 4 * 4) }
  else if n = 0x49 then { k with pc := addrHigh k.pc x }
  else k.msr (n - 0x50) v

/-! ### Writing the general registers -/

/-- Write G[n]. -/
def Chip.setG (c : Chip) (n v : Nat) : Chip := c.onCore (fun k => { k with g := listSet k.g n (BitVec.ofNat 32 v) })
/-- Write P[n]. -/
def Chip.setP (c : Chip) (n v : Nat) : Chip := c.onCore (fun k => { k with p := listSet k.p n (BitVec.ofNat 40 v) })
/-- Write A[n]. -/
def Chip.setA (c : Chip) (n v : Nat) : Chip := c.onCore (fun k => { k with a := listSet k.a n (BitVec.ofNat 40 v) })
/-- Complete a load: its value is written (R217). (DEDUCED: log 33) -/
def Chip.finishLoad (c : Chip) : Chip :=
  match c.core.load with
  | none => c
  | some (d, v) =>
    let c1 := c.onCore (fun k => { k with load := none })
    match d with
    | .g n => c1.setG n v.toNat
    | .a n => c1.setA n v.toNat
    | .p n => c1.setP n v.toNat

/-! ### Halt, release and step (R541, R542, R544) -/

/-- The core leaves WFI: its clock, and a core PLL that the power controller stopped meanwhile, run again (R231, R476). -/
def Chip.leaveWfi (c : Chip) : Chip :=
  { c.setBit Reg.SYS_DCORE 30 false with pow := { c.pow with stopped := c.pow.stopped.filter (fun k => decide (k ≠ 1)) } }
/-- The core halts with a HALTCAUSE: EV243, the reservation and a hold are gone, and a step is over. -/
def Chip.coreHalt (c : Chip) (cause : Nat) : Chip :=
  let c1 := c.dropWait.onCore (fun k => { k with hold := .none, resv := none, haltReq := false, stepping := none })
  let c2 := (c1.setBit Reg.SYS_DCORE 29 true).leaveWfi
  ((c2.setFld Reg.DBG_RUNSTAT 7 0 cause).wdtFollow false).raise 243
/-- A halted core runs again. -/
def Chip.coreUnhalt (c : Chip) : Chip :=
  ((c.setBit Reg.SYS_DCORE 29 false).setFld Reg.DBG_RUNSTAT 7 0 0).wdtFollow true
/-- CHALT (R541): at once, but after the slot where a load's slot comes next and does not hold; a core in lockup halts at once too. -/
def Chip.coreHaltNow (c : Chip) : Chip :=
  if !coreAlive c || coreHalted c then c
  else if lockedUp c then c.coreHalt 1
  else if c.core.load.isSome && decide (c.core.hold = .none) then c.onCore (fun k => { k with haltReq := true })
  else c.finishLoad.coreHalt 1
/-- CRESUME (R541). -/
def Chip.coreResume (c : Chip) : Chip := if coreHalted c && !lockedUp c then c.coreUnhalt else c
/-- CSTEP (R542): the core executes one step and halts again. (DEDUCED: log 114) -/
def Chip.coreStep (c : Chip) : Chip :=
  if coreHalted c && !lockedUp c then c.coreUnhalt.onCore (fun k => { k with stepping := some (false, 0) }) else c

/-- The entry address that SYS_DENTRY holds (R236). -/
def coreEntry (c : Chip) : Addr :=
  BitVec.ofNat 40 (c.fld Reg.SYS_DENTRY_HI 7 0 * 2 ^ 32 + (c.reg Reg.SYS_DENTRY_LO).toNat / 4 * 4)
/-- The core starts as from reset (R210): every register at its reset value, the first fetch from SYS_DENTRY; with VCATCH it halts
before its first instruction (R544). -/
def Chip.coreStart (c : Chip) : Chip :=
  let c1 := ({ c with core := { pc := coreEntry c } }).setReg Reg.SYS_DCORE 0
  if c1.bit Reg.DBG_AON 28 then c1.coreHalt 4 else c1
/-- The core's domain switches off: its state, the caches among it, is lost (R210). -/
def Chip.coreLost (c : Chip) : Chip := (({ c with core := {} }).setReg Reg.SYS_DCORE 0).wdtFollow true

end Sys2Proof.Machine
end

