-- ==== Sys2Proof/Machine/Dram.lean ====
section
/-!
DEFINITION. The commands of the stacked DRAM (R200 to R206): training, patrol scrub, refresh and temperature,
self-refresh, quadrant power.
-/
namespace Sys2Proof.Machine

/-- The loft a home address lies in, none outside the tile-local view (R26). -/
def loftOf (a : Nat) : Option Nat :=
  if 0x100000000 ≤ a ∧ a < 0x500000000 then some ((a - 0x100000000) / 0x4000000) else none
/-- Forget the contents of the lofts that satisfy a condition: zeros with valid check bits (R202). -/
def Chip.zeroLofts (c : Chip) (f : Nat → Bool) : Chip :=
  let keep : Nat → Bool := fun a => match loftOf a with
    | some t => !f t
    | none => true
  { c with mem := c.mem.filter (fun e => keep e.1), ecc := c.ecc.filter (fun e => keep e.1) }
/-- Is quadrant q in self-refresh (R204)? -/
def selfRefresh (c : Chip) (q : Nat) : Bool := c.bit Reg.DRC_STAT (4 + q)

/-- Is the initialisation of the DRAM to come: a start is under way in BOOT, VDD2 and VPP are in their ranges, and INIT_DONE = 0 (R202)? -/
def dramInitDue (c : Chip) : Bool :=
  c.pow.started && decide (c.fld Reg.SYS_MODE 15 8 = 1) && !c.bit Reg.SYS_SUPPLY 3 && !c.bit Reg.SYS_SUPPLY 4 && !c.bit Reg.DRC_STAT 31
/-- The quadrant's channels are idle from now (R204). -/
def Chip.quadrantUsed (c : Chip) (q : Nat) : Chip :=
  { c with dram := { c.dram with usedAt := mapSet 0 c.dram.usedAt q c.ns } }
/-- DRAM_INIT_DONE (R202, R203): each channel that failed training is shown, with EV118; the others' lofts are zeroed, and
INIT_DONE is set. It comes once in each BOOT. A channel of a quadrant that has no power does not train. (DEDUCED: log 172) -/
def execDramInitDone (failed : List (Fin 256)) (s : State) : Host.Outcome State Fault Refusal :=
  run (fun c =>
    if !dramInitDue c then c else
    let bad := (List.range 256).filter (fun t => failed.any (fun u => decide (u.val = t)) || !c.isOn (.quadrant (quadrantOf t)))
    let c1 := bad.foldl (fun c t =>
      ((c.setBit (Reg.DRC_LSTATt t) 30 true).setBit Reg.DRC_STAT 30 true).raise 118) c
    (List.range 4).foldl Chip.quadrantUsed
      ((c1.zeroLofts (fun t => !c1.bit (Reg.DRC_LSTATt t) 30)).setBit Reg.DRC_STAT 31 true)) s

/-- The period of the patrol scrub in nanoseconds (R200). -/
def scrubPeriod (c : Chip) : Nat := c.fld Reg.DRC_CTL 23 16 * 3600000000000
/-- May loft t's patrol pass end now (R200): scrubbing is on, the tile's logic and the quadrant allow it, and SCRUB_H hours have passed
since the last pass ended? (DESIGN CHOICE: log 143) -/
def mayScrub (c : Chip) (t : Nat) : Bool :=
  decide (scrubPeriod c ≠ 0) && decide (mapGet 0 c.dram.passAt t + scrubPeriod c ≤ c.ns) && c.isOn (.tileLogic t) && !selfRefresh c (quadrantOf t) && !dramBlocked c t false
/-- The rest of loft t's patrol pass (R200): each word is read and checked, and one with a single-bit error is rewritten
corrected; EV117 when every loft that is not retired has completed the pass. The pass is the controller's own work and does not end its
channel's idleness (R204). (DESIGN CHOICE: log 173) -/
def Chip.patrolScrub (c : Chip) (t : Nat) : Chip :=
  if !mayScrub c t then c else
  let bad := (c.ecc.filter (fun e => decide (loftOf e.1 = some t))).map Prod.fst
  let c1 := bad.foldl (fun c a =>
    let single := decide (c.eccAt a = .single)
    let c2 := (c.dramCheckWord t a).2
    if single then c2.setEcc a .good else c2) c
  let done := if c1.dram.scrubbed.contains t then c1.dram.scrubbed else c1.dram.scrubbed ++ [t]
  if (List.range 256).all (fun u => retired c1 u || done.contains u) then
    ({ c1 with dram := { c1.dram with scrubbed := [], passAt := mapSet 0 c1.dram.passAt t c1.ns } }).raise 117
  else { c1 with dram := { c1.dram with scrubbed := done, passAt := mapSet 0 c1.dram.passAt t c1.ns } }
/-- PATROL_SCRUB (R200). -/
def execPatrolScrub (t : Fin 256) (s : State) : Host.Outcome State Fault Refusal := run (fun c => c.patrolScrub t.val) s

/-- REFRESH (R201): the channel is held for 78 ns, which changes no state: the contents are held. -/
def execRefresh (s : State) : Host.Outcome State Fault Refusal := run (fun c => c) s

/-- RATE after a reading (R201): rising at each threshold, falling only 2 °C below it; units of 0.25 °C. -/
def refreshRate (cur : Nat) (temp : Int) : Nat :=
  let up := if 380 < temp then 2 else if 340 < temp then 1 else 0
  if cur ≤ up then up
  else if cur = 2 ∧ 372 < temp then 2
  else if 332 < temp then Nat.max up 1
  else up
/-- DRAM_TEMP_SAMPLE (R201): the hottest active die of a quadrant. -/
def execDramTempSample (q : Fin 4) (temp : BitVec 12) (s : State) : Host.Outcome State Fault Refusal :=
  run (fun c =>
    if !c.isOn (.quadrant q.val) then c else
    let r := Reg.DRC_QTEMPq q.val
    let cur := c.fld r 13 12
    let fresh := !c.bit r 31
    let new := refreshRate cur (toSigned 12 temp.toNat)
    let wasHot := fresh && decide (420 < toSigned 12 (c.fld r 11 0))
    let c1 := c.setReg r (BitVec.ofNat 32 (new * 2 ^ 12 + temp.toNat))
    let c2 := (c1.raiseIf (decide (new ≠ cur) && decide (new = 1)) 114).raiseIf (decide (new ≠ cur) && decide (new = 2)) 115
    c2.raiseIf (decide (420 < toSigned 12 temp.toNat) && !wasHot) 116) s

/-- Does quadrant q enter self-refresh (R204, R476): it is on, SR_IDLE is nonzero, no request has reached its 64 channels for SR_IDLE µs,
and the bound is at least 3 µs? -/
def selfRefreshDue (c : Chip) (q : Nat) : Bool :=
  c.isOn (.quadrant q) && decide (c.fld Reg.DRC_CTL 15 8 ≠ 0) && decide (3 ≤ tolBound c [1, 4]) &&
    decide (mapGet 0 c.dram.usedAt q + 1000 * c.fld Reg.DRC_CTL 15 8 ≤ c.ns)
/-- SELF_REFRESH_ENTRY (R204, R476). -/
def execSelfRefreshEntry (q : Fin 4) (s : State) : Host.Outcome State Fault Refusal :=
  run (fun c => if selfRefreshDue c q.val then c.setBit Reg.DRC_STAT (4 + q.val) true else c) s
/-- Does a request wait at a loft of quadrant q (R204)? -/
def requestWaits (c : Chip) (q : Nat) : Bool :=
  c.noc.inbox.any (fun x => decide (x.packet.net = 0) && match decodeAddr c (reqAddr x.packet) with
    | .loft t _ => decide (quadrantOf t = q) && decide (x.node = tileNode t)
    | _ => false)
/-- SELF_REFRESH_EXIT (R204): a request waits, and the quadrant leaves self-refresh for it. -/
def execSelfRefreshExit (q : Fin 4) (s : State) : Host.Outcome State Fault Refusal :=
  run (fun c => if requestWaits c q.val then (c.setBit Reg.DRC_STAT (4 + q.val) false).quadrantUsed q.val else c) s

/-- Power quadrant q on (R204, R206): zeroed with valid check bits; no temperature reading yet, so that RATE and TEMP are cleared; its
channels are idle from now. In DORMANT all four are off. (DESIGN CHOICE: log 174) -/
def Chip.quadrantOn (c : Chip) (q : Nat) : Chip :=
  if c.isOn (.quadrant q) || c.pow.dormant then c else
  (((c.zeroLofts (fun t => decide (quadrantOf t = q))).switchOn (.quadrant q)).setReg (Reg.DRC_QTEMPq q) 0x80000000).quadrantUsed q
/-- What a quadrant that loses its power leaves (R204): its contents are lost, and it is in no self-refresh. -/
def Chip.quadrantLost (c : Chip) (q : Nat) : Chip :=
  (c.zeroLofts (fun t => decide (quadrantOf t = q))).setBit Reg.DRC_STAT (4 + q) false
/-- May quadrant q switch off (R34, R205)? -/
def mayQuadrantOff (c : Chip) (q : Nat) : Bool :=
  c.bit Reg.DRC_CTL 7 &&
  ((List.range 256).filter (fun t => decide (quadrantOf t = q))).all
    (fun t => decide (tileState c t = 3) || !(boundTiles c).contains t) &&
  c.tiles.all (fun e => e.2.frames.all (fun f =>
    decide (quadrantOf (natBits (listGet 0 (c.ctx f.2.ctx).pmap f.2.page) 19 12) ≠ q)))
/-- A request to switch quadrant q off (R205): refused with EV119 unless R34 and CPARK allow it. For a quadrant that is off it does
nothing. (DESIGN CHOICE: log 144) -/
def Chip.quadrantOff (c : Chip) (q : Nat) : Chip :=
  if !c.isOn (.quadrant q) then c
  else if mayQuadrantOff c q then
    (c.quadrantLost q).switchOff (.quadrant q)
  else c.raise 119
/-- QUADRANT_ON_REQ (R206). -/
def execQuadrantOnReq (q : Fin 4) (s : State) : Host.Outcome State Fault Refusal := run (fun c => c.quadrantOn q.val) s
/-- QUADRANT_OFF_REQ (R205). -/
def execQuadrantOffReq (q : Fin 4) (s : State) : Host.Outcome State Fault Refusal := run (fun c => c.quadrantOff q.val) s

/-- LSTAT_READ (R206): CE_COUNT is returned and cleared. -/
def execLstatRead (t : Fin 256) (s : State) : Host.Outcome State Fault Refusal :=
  run (fun c => (c.respond (respOk (c.reg (Reg.DRC_LSTATt t.val)).toNat)).setFld (Reg.DRC_LSTATt t.val) 29 22 0) s

end Sys2Proof.Machine
end

