-- ==== Sys2Proof/Machine/Storage.lean ====
section
/-!
DEFINITION. The Storage Writer (R394 to R405): start-up checks and the restart scan, items and bales (R328, R329), durability,
errors, the hold, draining.
-/
namespace Sys2Proof.Machine

/-- PCIB_SWSTAT.STATE: 0 IDLE, 1 NO_DRIVE, 2 BAD_DRIVE, 3 STARTING, 4 ACTIVE, 5 HELD, 6 DRAINING, 7 FAULT. -/
def swState (c : Chip) : Nat := c.fld Reg.PCIB_SWSTAT 31 28
/-- Enter a state with a CODE; FAULT and NO_DRIVE are counted (R561). -/
def Chip.swEnter (c : Chip) (st code : Nat) : Chip :=
  let c1 := (c.setFld Reg.PCIB_SWSTAT 31 28 st).setFld Reg.PCIB_SWSTAT 27 24 code
  if st = 7 ∨ st = 1 then c1.lifeAdd 14 1 else c1
/-- The bale that a command writes. -/
def NvOp.bale : NvOp → Option Nat
  | .write n _ => some n
  | .writeZeroes n => some n
  | _ => none
/-- Is a Flush outstanding? -/
def flushOut (x : Storage) : Bool := (x.cmds ++ x.ready).any (fun e => decide (e.op = .flush))
/-- Is a bale in flight: not durable, and a command for it is outstanding, a Write or the Flush (R400, R423)? -/
def baleFlies (x : Storage) (b : Bale) : Bool :=
  !b.durable && ((x.cmds ++ x.ready).any (fun e => decide (e.op.bale = some b.seqNo)) || (b.written && flushOut x))
/-- The bales in flight. -/
def balesFlying (x : Storage) : List Bale := x.bales.filter (baleFlies x)
/-- Change the writer's own state: INFLIGHT shows its bales in flight (R423). -/
def Chip.setSw (c : Chip) (x : Storage) : Chip := Chip.setFld { c with sw := x } Reg.PCIB_SWSTAT 5 0 (balesFlying x).length
/-- Does the writer act: its domain is on and no capsule runs (R378, R379)? -/
def swRuns (c : Chip) : Bool := c.isOn .storageWriter && c.silo.capsule.isNone

/-! ### The ring (R398) -/

/-- LBAs in a unit. -/
def unitLbas (r : DriveReport) : Nat := 16384 / r.lbaSize
/-- RING_START. -/
def ringStart (c : Chip) : Nat := (c.reg Reg.PCIB_RING_START_LO).toNat + (c.reg Reg.PCIB_RING_START_HI).toNat * 2 ^ 32
/-- The units of the ring: RING_UNITS, or as many whole units as fit. -/
def ringUnits (c : Chip) (r : DriveReport) : Nat :=
  let n := (c.reg Reg.PCIB_RING_UNITS).toNat
  if n = 0 then (r.nsze - ringStart c) / unitLbas r else n
/-- Does the ring keep R398? -/
def ringOk (c : Chip) (r : DriveReport) : Bool :=
  let u := unitLbas r
  decide (ringStart c % u = 0) && decide (0 < ringUnits c r) && decide (ringStart c + ringUnits c r * u ≤ r.nsze)

/-- The first failing step of R397 as a state and a CODE; none where every check passes. -/
def driveCheck (c : Chip) (r : DriveReport) : Option (Nat × Nat) :=
  if !r.link || !r.controller then some (1, 0)
  else if r.version < 14 then some (2, 1)
  else if r.mdts ≠ 0 ∧ r.mdts < 16384 then some (2, 2)
  else if !r.nsActive then some (2, 3)
  else if !(decide (r.lbaSize = 512) || decide (r.lbaSize = 4096)) || r.metadata || r.protection then some (2, 4)
  else if !ringOk c r then some (2, 5)
  else if r.queues = 0 then some (2, 6)
  else none

/-- The ring registers. -/
def ringRegs (c : Chip) : List Nat :=
  [Reg.PCIB_NSID, Reg.PCIB_RING_START_LO, Reg.PCIB_RING_START_HI, Reg.PCIB_RING_UNITS].map (fun a => (c.reg a).toNat)
/-- Has the ring changed since the writer's last start (R398)? (DESIGN CHOICE: log 181) -/
def ringChanged (c : Chip) : Bool :=
  match c.sw.ring with
  | some r => decide (r ≠ ringRegs c)
  | none => false
/-- The I/O queue pairs that a start creates (R397 step 4). -/
def queuePairs (r : DriveReport) : Nat := Nat.min 8 r.queues
/-- The commands that create them (R396). -/
def createQueues (q : Nat) : List NvCommand :=
  (List.range q).flatMap (fun i => [{ op := .createCq (i + 1) }, { op := .createSq (i + 1) }])
/-- The commands of steps 2 to 4 of a start (R396, R397), up to the step that fails with `fail`. -/
def startCommands (r : DriveReport) (fail : Option (Nat × Nat)) : List NvCommand :=
  let ids : List NvCommand := [{ op := .identify 1 }, { op := .identify 2 }, { op := .identify 0 }, { op := .getCache }]
  match fail with
  | some (1, _) => []
  | some (_, 6) => ids ++ [{ op := .setQueues 8 }]
  | some _ => ids
  | none => ids ++ [{ op := .setQueues 8 }] ++ createQueues (queuePairs r)
/-- Begin the sequence of R397. -/
def Chip.swStart (c : Chip) : Chip :=
  if swRuns c && (decide (swState c ≤ 2)) && c.bit Reg.PCIB_SWCTL 31 then c.swEnter 3 0 else c
/-- A write that sets ENABLE (R397, R405). -/
def Chip.swEnable (c : Chip) : Chip :=
  if c.bit Reg.PCIB_SWCTL 31 then c else (c.setBit Reg.PCIB_SWCTL 31 true).swStart
/-- SW_ENABLE (R397). -/
def execSwEnable (s : State) : Host.Outcome State Fault Refusal := regRun Reg.PCIB_SWCTL Chip.swEnable s
/-- SW_START_FAIL (R397): the first failing check names the state and the CODE; EV181. -/
def execSwStartFail (r : DriveReport) (s : State) : Host.Outcome State Fault Refusal :=
  run (fun c =>
    if !swRuns c || decide (swState c ≠ 3) then c else
    match driveCheck c r with
    | some (st, code) => ((c.swEnter st code).setSw { c.sw with
        drive := r, linkUp := r.link, admin := decide (st ≠ 1), queues := 0
        sent := c.sw.sent ++ startCommands r (some (st, code)) }).raise 181
    | none => c) s

/-! ### The restart scan (R404) -/

/-- The latest journaled PROGRESS entry's NEXT_BALE_SEQ and RING_POS; both 0 where there is none. -/
def journaledProgress (c : Chip) : Nat × Nat :=
  match lastProgress c with
  | some e => (recNat e.payload 8 8, recNat e.payload 0x10 8)
  | none => (0, 0)
/-- Is a header read from unit u accepted? -/
def headerAccepted (c : Chip) (next u : Nat) (h : List Byte) : Bool :=
  decide (bytesNat h 0 2 = 0x4C42) && decide (bytesNat h 0x3C 4 = crc32c (h.take 60)) &&
    decide (bytesNat h 0x18 1 % 16 = c.deviceNo) && decide (bytesNat h 0x20 8 = u) && decide (next ≤ bytesNat h 8 8)
/-- The units that the scan reads: 16,384 from RING_POS on, stopping before HOLD.POS. -/
def scanned (c : Chip) (r : DriveReport) (pos u : Nat) : Bool :=
  let n := ringUnits c r
  let d := (u + n - pos) % n
  decide (u < n) && decide (d < 16384) &&
    !(c.bit Reg.PCIB_HOLD 31 && decide ((c.fld Reg.PCIB_HOLD 30 0 + n - pos) % n ≤ d))
/-- Where writing resumes, and the BALE_SEQ that the scan gives. -/
def resumePoint (c : Chip) (r : DriveReport) (heads : List (Nat × List Byte)) : Nat × Nat :=
  let p := journaledProgress c
  let good := heads.filter (fun h => scanned c r p.2 h.1 && headerAccepted c p.1 h.1 h.2)
  match good.foldl (fun m h => match m with
      | some g => if bytesNat g 8 8 < bytesNat h.2 8 8 then some h.2 else some g
      | none => some h.2) (none : Option (List Byte)) with
  | some h => ((bytesNat h 0x20 8 + bytesNat h 3 1) % ringUnits c r, bytesNat h 8 8 + 1)
  | none => (p.2, p.1)

/-- The deallocation that a start issues (R396): of the whole ring, after a ring change, where TRIM = 1. -/
def ringTrim (c : Chip) (r : DriveReport) : List NvCommand :=
  if ringChanged c && c.bit Reg.PCIB_SWCTL 29 then
    [{ op := .deallocate, queue := 1, lba := ringStart c, lbas := ringUnits c r * unitLbas r }]
  else []
/-- The LBA at which unit u of the ring begins (R398). -/
def unitLba (c : Chip) (r : DriveReport) (u : Nat) : Nat := ringStart c + u * unitLbas r
/-- SW_STARTUP_COMPLETE (R396, R397, R398, R404, R405): the queues exist and the scan ends; writing resumes with a BALE_SEQ never issued
before, at unit 0 after a ring change; items whose bale had not become durable wait again, and the records of the others count as durable;
EV188, ACTIVE. `heads` holds the first 64 bytes of the units read. (DEDUCED: log 182) -/
def execSwStartupComplete (r : DriveReport) (heads : List (Nat × List Byte)) (s : State) : Host.Outcome State Fault Refusal :=
  run (fun c =>
    if !swRuns c || decide (swState c ≠ 3) || (driveCheck c r).isSome then c else
    let p := resumePoint c r heads
    let pos := if ringChanged c then 0 else p.1
    let num := Nat.max p.2 c.sw.nextBale
    let reads := (heads.filter (fun h => scanned c r (journaledProgress c).2 h.1)).map (fun h =>
      { op := .read, queue := 1, lba := unitLba c r h.1, lbas := 1 : NvCommand })
    let c1 := c.setSw { c.sw with
      drive := r, linkUp := true, admin := true, queues := queuePairs r, turn := 0, cmds := [], ready := []
      sent := c.sw.sent ++ startCommands r none ++ reads ++ ringTrim c r, ring := some (ringRegs c)
      queue := ((c.sw.bales.filter (fun b => !b.durable)).flatMap (fun b => b.items)) ++ c.sw.opened ++ c.sw.queue
      durJseq := c.sw.durJseq ++ (c.sw.bales.filter (fun b => b.durable)).flatMap (fun b => b.items.filterMap (fun i => i.jseq))
      opened := [], bales := [], nextPos := pos, nextBale := num, prefSeq := num, prefPos := pos }
    (c1.swEnter 4 0).raise 188) s

/-! ### Bales (R328, R329, R399, R400) -/

/-- Bytes of an item in a payload: its header and its data padded to 8. -/
def itemBytes (i : Item) : Nat := 16 + (i.data.length + 7) / 8 * 8
/-- An item as it lies in a payload (R329). -/
def itemData (i : Item) : List Byte :=
  listFit 0 (itemBytes i) (leBytes 1 i.typ ++ leBytes 1 i.stream ++ leBytes 2 i.part ++ leBytes 4 i.data.length ++
    leBytes 8 i.key ++ i.data)
/-- BALE_UNITS; 0 and 65 to 127 act as 64. -/
def baleUnits (c : Chip) : Nat :=
  let n := c.fld Reg.PCIB_SWCTL 6 0
  if n = 0 ∨ 64 < n then 64 else n
/-- Payload bytes that a bale of n units can hold. (DESIGN CHOICE: log 72) -/
def baleRoom (n : Nat) : Nat := 16384 * n - 64
/-- Payload bytes of items. -/
def itemsBytes (l : List Item) : Nat := l.foldl (fun n i => n + itemBytes i) 0
/-- The bytes of a bale of n units (R328). -/
def baleBytes (c : Chip) (seqNo pos n : Nat) (items : List Item) : List Byte :=
  let p := items.flatMap itemData
  let h := listFit 0 60 ([0x42, 0x4C, 0x01, BitVec.ofNat 8 n] ++ leBytes 4 p.length ++ leBytes 8 seqNo ++ leBytes 8 c.tai.toNat ++
    leBytes 1 c.deviceNo ++ leBytes 1 (inRecovery c).toNat ++ leBytes 2 items.length ++ leBytes 4 (crc32c p) ++ leBytes 8 pos)
  listFit 0 (16384 * n) (h ++ leBytes 4 (crc32c h) ++ p)
/-- Does DMODE 1 act as such (R401)? -/
def flushMode (c : Chip) : Bool := c.bit Reg.PCIB_SWCTL 30 && c.sw.drive.cache
/-- The commands that write a bale of n units at pos (R396, R397, R401): Writes, split where they are larger than MDTS, with FUA as DMODE
asks; of a filler only the header's unit is written, and one Write Zeroes covers the others. (DESIGN CHOICE: log 74) -/
def baleCommands (c : Chip) (seqNo pos n : Nat) (filler : Bool) : List NvCommand :=
  let r := c.sw.drive
  let bytes := if filler then 16384 else 16384 * n
  let step := if r.mdts = 0 then bytes else r.mdts
  (List.range ((bytes + step - 1) / step)).map (fun i =>
    { op := .write seqNo (!flushMode c), lba := unitLba c r pos + step * i / r.lbaSize
      lbas := Nat.min step (bytes - step * i) / r.lbaSize }) ++
  (if filler && decide (1 < n) then
    [{ op := .writeZeroes seqNo, lba := unitLba c r (pos + 1), lbas := (n - 1) * unitLbas r }] else [])
/-- May a bale of n units at pos be issued: fewer than 32 in flight, and no unit of it more than 16,384 units beyond the journaled
RING_POS (R400)? -/
def mayIssue (c : Chip) (pos n : Nat) : Bool :=
  let R := ringUnits c c.sw.drive
  decide ((balesFlying c.sw).length < 32) && decide ((pos + R - (journaledProgress c).2 % R) % R + n - 1 ≤ 16384)
/-- Would n units at pos include the held unit (R399)? (DESIGN CHOICE: log 72) -/
def hitsHold (c : Chip) (pos n : Nat) : Bool :=
  c.bit Reg.PCIB_HOLD 31 && decide (pos ≤ c.fld Reg.PCIB_HOLD 30 0) && decide (c.fld Reg.PCIB_HOLD 30 0 < pos + n)
/-- Do n bytes at a lie inside the inbound window, in the common region (R395)? -/
def inWindow (c : Chip) (a n : Nat) : Bool :=
  let b := 4096 * c.fld Reg.PCIB_INWIN_BASE 27 0
  whollyIn b (4096 * c.fld Reg.PCIB_INWIN_SIZE 27 0) a n && inCommon a && inCommon (a + n - 1)
/-- Where a bale is staged: its place of 1 MiB by BALE_SEQ mod 32, from the window's base on. (DESIGN CHOICE: log 157) -/
def balePlace (c : Chip) (seqNo : Nat) : Nat := 4096 * c.fld Reg.PCIB_INWIN_BASE 27 0 + 1048576 * (seqNo % 32)
/-- Put a bale into its staging (R15, R395); of a filler only the header's unit, since Write Zeroes writes the others (R396). A
window that cannot hold the place stages nothing. (DESIGN CHOICE: log 157) -/
def Chip.stageBale (c : Chip) (b : Bale) : Chip :=
  let bs := if b.items.isEmpty then b.bytes.take 16384 else b.bytes
  let a := balePlace c b.seqNo
  if inWindow c a bs.length then (c.blockWriteLong (bs.length / 4096 + 2) a bs).2 else c
/-- A command for the drive wakes the link from L1 (R476: no command outstanding). -/
def Chip.linkAwake (c : Chip) : Chip := { c with pow := { c.pow with aspmL1 := false } }
/-- Where entry k of I/O submission queue q lies: in the window, behind the bale staging; the completion queue follows it in the same
8 KiB. (DESIGN CHOICE: log 157) -/
def queuePlace (c : Chip) (q k : Nat) : Nat := 4096 * c.fld Reg.PCIB_INWIN_BASE 27 0 + 32 * 1048576 + 8192 * q + 64 * k
/-- The number of a command in R396's table, FUA, and where its data lies. -/
def NvCommand.coded (c : Chip) (x : NvCommand) : Nat × Bool × Nat :=
  match x.op with
  | .identify _ => (0, false, 0)
  | .getCache => (1, false, 0)
  | .setQueues _ => (1, true, 0)
  | .createCq _ => (2, false, 0)
  | .createSq _ => (2, true, 0)
  | .write n fua => (3, fua, balePlace c n)
  | .flush => (4, false, 0)
  | .read => (5, false, 0)
  | .writeZeroes _ => (6, false, 0)
  | .deallocate => (7, false, 0)
/-- A command is submitted on I/O queue q (R396, R400): its entry stands in the queue, where the drive reads it (R395). -/
def Chip.swSend (c : Chip) (q : Nat) (x : NvCommand) : Chip :=
  let y := { x with queue := q, sentAt := c.ns }
  let a := queuePlace c q ((c.sw.sent.filter (fun e => decide (e.queue = q))).length % 64)
  let k := x.coded c
  let c1 := if inWindow c a 64 then (c.blockWrite a (leBytes 64 (Config.nvmeEntry k.1 k.2.1 k.2.2 x.lba x.lbas).toNat)).2 else c
  c1.setSw { c1.sw with cmds := c1.sw.cmds ++ [y], sent := c1.sw.sent ++ [y] }
/-- The commands that wait are submitted round-robin over the I/O queues (R400), as far as the next queue has space: a queue of 64 entries
holds 63. After a capsule's start none is (R378). -/
def Chip.swSubmit : Nat → Chip → Chip
  | 0, c => c
  | fuel + 1, c =>
    match c.sw.ready with
    | [] => c
    | x :: rest =>
      let q := c.sw.turn % Nat.max 1 c.sw.queues + 1
      if swRuns c && decide ((c.sw.cmds.filter (fun e => decide (e.queue = q))).length < 63) then
        Chip.swSubmit fuel ((c.setSw { c.sw with ready := rest, turn := c.sw.turn + 1 }).swSend q x)
      else c
/-- Issue commands for the drive (R400), which wake the link. -/
def Chip.swIssue (c : Chip) (xs : List NvCommand) : Chip :=
  (Chip.swSubmit (c.sw.ready.length + xs.length) (c.setSw { c.sw with ready := c.sw.ready ++ xs })).linkAwake
/-- Issue one bale of n units at the ring's position: its bytes stand in the bale staging of the common region, where the
drive reads them (R15 step 9, R395). One that holds an item late already raises EV183 (R402). -/
def Chip.putBale (c : Chip) (items : List Item) (n : Nat) : Chip :=
  let x := c.sw
  let cmds := baleCommands c x.nextBale x.nextPos n items.isEmpty
  let late := items.any (fun i => i.missed)
  let b : Bale := { seqNo := x.nextBale, pos := x.nextPos, units := n, items := items
                    bytes := baleBytes c x.nextBale x.nextPos n items, writes := cmds.length, missed := late }
  (((c.stageBale b).setSw { x with
    bales := x.bales ++ [b], nextBale := x.nextBale + 1
    nextPos := (x.nextPos + n) % ringUnits c x.drive }).swIssue cmds).raiseIf late 183
/-- Issue n units of items where R399 and R400 let it, and say whether they were issued: HELD where they would include the held
unit. -/
def Chip.issueBale (c : Chip) (items : List Item) (n : Nat) : Bool × Chip :=
  if hitsHold c c.sw.nextPos n then (false, (c.swEnter 5 0).raise 185)
  else if mayIssue c c.sw.nextPos n then (true, c.putBale items n)
  else (false, c)
/-- Close the open bale and issue it (R400); before it, a filler with no items where the ring's last units cannot hold it
(R328). HELD where a unit is held (R399). -/
def Chip.closeBale (c : Chip) : Chip :=
  let items := c.sw.opened
  if items.isEmpty then c else
  let n := (64 + itemsBytes items + 16383) / 16384
  let R := ringUnits c c.sw.drive
  let first := if R < c.sw.nextPos + n then c.issueBale [] (R - c.sw.nextPos) else (true, c)
  if !first.1 then first.2 else
  let last := first.2.issueBale items n
  if last.1 then last.2.setSw { last.2.sw with opened := [] } else last.2

/-- ITEM_ADD (R400): the item that waits first joins the open bale; where it would take the bale beyond BALE_UNITS units the
bale is closed and issued first. An item too long for any bale is split (R329). -/
def execItemAdd (s : State) : Host.Outcome State Fault Refusal :=
  run (fun c =>
    if !swRuns c || decide (swState c ≠ 4) then c else
    match c.sw.queue with
    | [] => c
    | i :: rest =>
      let room := baleRoom (baleUnits c)
      if itemsBytes c.sw.opened + itemBytes i ≤ room then
        c.setSw { c.sw with opened := c.sw.opened ++ [i], queue := rest }
      else
        let c1 := if c.sw.opened.isEmpty then c else c.closeBale
        if !c1.sw.opened.isEmpty then c1
        else if itemBytes i ≤ room then c1.setSw { c1.sw with opened := [i], queue := rest }
        else
          let k := room - 16
          c1.setSw { c1.sw with
            opened := [{ i with data := i.data.take k }]
            queue := { i with data := i.data.drop k, part := i.part + 1 } :: rest }) s

/-- STORAGE_LAG in nanoseconds. -/
def storageLag (c : Chip) : Nat := 1000000 * odNat c 0x3103 0
/-- BALE_AGE_CLOSE (R400). -/
def execBaleAgeClose (s : State) : Host.Outcome State Fault Refusal :=
  run (fun c =>
    if swRuns c && decide (swState c = 4) && c.sw.opened.any (fun i => decide (i.since + storageLag c / 4 ≤ c.ns)) then c.closeBale
    else c) s

/-! ### Durability (R401) -/

/-- Issue a Flush where a bale has completed all its Writes, is not durable and no Flush is outstanding: a Write of it went with
FUA = 0, whatever DMODE is now. -/
def Chip.needFlush (c : Chip) : Chip :=
  if decide (swState c ≠ 7) && !flushOut c.sw && c.sw.bales.any (fun b => b.written && !b.durable) then
    (c.setSw { c.sw with
      bales := c.sw.bales.map (fun b => if b.written then { b with flushed := true } else b) }).swIssue [{ op := .flush }]
  else c
/-- The bales at the head that are durable, and the rest. -/
def durableHead : List Bale → List Bale × List Bale
  | [] => ([], [])
  | b :: rest => if b.durable then
      let r := durableHead rest
      (b :: r.1, r.2)
    else ([], b :: rest)
/-- DURABLE_JSEQ: the highest JSEQ at or below which every SHEAF and STOOK record lies in the prefix (R401). -/
def durableJseq (c : Chip) : Option Nat :=
  let old := match c.silo.progress.durable with
    | some d => d + 1
    | none => 0
  match c.silo.entries.find? (fun e => (decide (e.typ = 1) || decide (e.typ = 2)) && decide (old ≤ e.jseq) &&
      !c.sw.durJseq.contains e.jseq) with
  | some e => if e.jseq = 0 then none else some (e.jseq - 1)
  | none => if c.silo.jnext = 0 then none else some (c.silo.jnext - 1)
/-- The durable prefix grows (R401): counted, reported to the Silo, EV189. -/
def Chip.growPrefix (c : Chip) : Chip :=
  let d := durableHead c.sw.bales
  if d.1.isEmpty then c else
  let units := d.1.foldl (fun n b => n + b.units) 0
  let last := d.1.foldl (fun _ b => (b.seqNo + 1, (b.pos + b.units) % ringUnits c c.sw.drive)) (c.sw.prefSeq, c.sw.prefPos)
  let c1 := (c.lifeAdd 13 (16384 * units)).setSw { c.sw with
    bales := d.2, prefSeq := last.1, prefPos := last.2
    durJseq := c.sw.durJseq ++ d.1.flatMap (fun b => b.items.filterMap (fun i => i.jseq)) }
  ({ c1 with silo := { c1.silo with
    progress := { durable := durableJseq c1, nextBale := last.1, ringPos := last.2 }, reported := true } }).raise 189

/-- The writer stops after a fault (R403): commands that wait are not submitted. (DEDUCED: log 73) -/
def Chip.swFault (c : Chip) (code : Nat) : Chip := ((c.setSw { c.sw with ready := [] }).swEnter 7 code).raise 182
/-- The bale that a failed command fails (R403): the one it writes, or the first that the Flush was for. (DESIGN CHOICE: log 74) -/
def failedBale (c : Chip) (x : NvCommand) : Option Nat :=
  match x.op with
  | .flush => (c.sw.bales.find? (fun b => b.flushed && !b.durable)).map (fun b => b.seqNo)
  | op => op.bale
/-- Commands that are out of their queues have failed together (R403): each bale of theirs has failed once more; a fourth failure of one
stops the writer; else, and not after a fault, they are reissued. -/
def Chip.cmdsFailed (c : Chip) (xs : List NvCommand) : Chip :=
  let hit := xs.filterMap (failedBale c)
  let c1 := c.setSw { c.sw with bales := c.sw.bales.map (fun b => if hit.contains b.seqNo then { b with fails := b.fails + 1 } else b) }
  if swState c1 = 7 then c1
  else if c1.sw.bales.any (fun b => hit.contains b.seqNo && decide (4 ≤ b.fails)) then c1.swFault 0
  else c1.swIssue xs
/-- Is the writer one whose commands can complete? -/
def swLive (c : Chip) : Bool := swRuns c && decide (4 ≤ swState c)

/-- Was the Write sent with FUA = 0 (R401)? -/
def sentPlain (x : NvCommand) : Bool :=
  match x.op with
  | .write _ fua => !fua
  | _ => false
/-- A command completes that was out on its queue. A bale is durable with its last Write where each was sent with FUA = 1, and with a
Flush submitted after it (R401). (DESIGN CHOICE: log 74) -/
def Chip.cmdDone (c : Chip) (x : NvCommand) (ok : Bool) : Chip :=
  let c1 := c.setSw { c.sw with cmds := c.sw.cmds.erase x }
  if !ok then c1.cmdsFailed [x] else
  let f : Bale → Bale := fun b =>
    if x.op = .flush then (if b.flushed && b.written then { b with durable := true } else b)
    else if x.op.bale = some b.seqNo then
      let w := b.writes - 1
      let plain := b.plain || sentPlain x
      { b with writes := w, plain := plain, written := decide (w = 0), durable := decide (w = 0) && !plain }
    else b
  (((c1.setSw { c1.sw with bales := c1.sw.bales.map f }).swIssue []).needFlush).growPrefix
/-- The command that a completion is for: the oldest that writes bale n, or the Flush. -/
def cmdOut (c : Chip) (cmd : Option Nat) : Option NvCommand :=
  c.sw.cmds.find? (fun x => match cmd with
    | some n => decide (x.op.bale = some n)
    | none => decide (x.op = .flush))
/-- NVME_COMPLETION (R401, R403, R562): a Write of bale `cmd`, or a Flush (none), completes after `us` microseconds. -/
def execNvmeCompletion (cmd : Option Nat) (ok : Bool) (us : Nat) (s : State) : Host.Outcome State Fault Refusal :=
  run (fun c =>
    match cmdOut c cmd with
    | none => c
    | some x => if swLive c then (c.lifeAdd (4096 + 14 * 5 + driveBin us) 1).cmdDone x ok else c) s

/-- Has a command in flight gone PCIB_CTO ms without a completion (R403, R423: 0 acts as 1)? -/
def driveSilent (c : Chip) : Bool :=
  c.sw.cmds.any (fun x => decide (x.sentAt + 1000000 * Nat.max 1 (c.fld Reg.PCIB_CTO 15 0) ≤ c.ns))
/-- NVME_TIMEOUT (R403): EV184; the controller is reset and its queues created again, and every command in flight counts as failed and is
reissued; a reset that fails leaves STATE at FAULT. -/
def execNvmeTimeout (resetOk : Bool) (s : State) : Host.Outcome State Fault Refusal :=
  run (fun c =>
    if !swLive c || !driveSilent c then c else
    let c1 := (c.setSw { c.sw with
      cmds := [], turn := 0, sent := c.sw.sent ++ (if resetOk then createQueues c.sw.queues else []) }).raise 184
    if resetOk then c1.cmdsFailed c.sw.cmds else if swState c = 7 then c1 else c1.swFault 6) s

/-- Items that have missed STORAGE_LAG now. -/
def lagged (c : Chip) (i : Item) : Bool := !i.missed && decide (i.since + storageLag c ≤ c.ns)
/-- LAG_MISS (R402): each item that is not durable in time is counted once; EV183 once for each bale that holds one. An item that no bale
holds yet has its bale's EV183 when that is issued. -/
def execLagMiss (s : State) : Host.Outcome State Fault Refusal :=
  run (fun c =>
    if !c.isOn .storageWriter then c else
    let mark := fun (i : Item) => if lagged c i then { i with missed := true } else i
    let open_ := c.sw.bales.filter (fun b => !b.durable)
    let n := ((c.sw.queue ++ c.sw.opened ++ open_.flatMap (fun b => b.items)).filter (lagged c)).length
    let hit := open_.any (fun b => !b.missed && b.items.any (lagged c))
    let c1 := c.setSw { c.sw with
      queue := c.sw.queue.map mark, opened := c.sw.opened.map mark
      bales := c.sw.bales.map (fun b => if b.durable then b else
        { b with items := b.items.map mark, missed := b.missed || b.items.any (lagged c) }) }
    (c1.wrapCount Reg.PCIB_LAGMISS n 190).raiseIf hit 183) s

/-! ### Hold, disable, drain (R399, R405) -/

/-- A write of PCIB_HOLD (R399): a new POS or EN = 0 ends HELD at once. -/
def Chip.holdWrite (c : Chip) (v : Word) : Chip :=
  let moved := !bitOf v 31 || decide (Machine.fld v 30 0 ≠ c.fld Reg.PCIB_HOLD 30 0)
  let c1 := c.setReg Reg.PCIB_HOLD v
  if moved && decide (swState c = 5) then c1.swEnter 4 0 else c1
/-- HOLD_WRITE (R399). -/
def execHoldWrite (v : Word) (s : State) : Host.Outcome State Fault Refusal := regRun Reg.PCIB_HOLD (fun c => c.holdWrite v) s
/-- Clearing ENABLE (R405). -/
def Chip.swDisable (c : Chip) : Chip :=
  let c1 := c.setBit Reg.PCIB_SWCTL 31 false
  if swState c = 4 ∨ swState c = 5 ∨ swState c = 7 then (c1.swEnter 6 0).setSw { c1.sw with drainAt := c.ns } else c1
/-- SW_DISABLE (R405). -/
def execSwDisable (s : State) : Host.Outcome State Fault Refusal := regRun Reg.PCIB_SWCTL Chip.swDisable s
/-- Is nothing outstanding? -/
def swQuiet (c : Chip) : Bool := c.sw.cmds.isEmpty && c.sw.ready.isEmpty
/-- SW_DRAIN_DONE (R405): IDLE, EV186; an ENABLE written meanwhile takes effect. -/
def execSwDrainDone (s : State) : Host.Outcome State Fault Refusal :=
  run (fun c =>
    if swRuns c && decide (swState c = 6) && swQuiet c then ((c.swEnter 0 0).raise 186).swStart else c) s
/-- SW_DRAIN_TIMEOUT (R405): 1,000 ms after DRAINING began the controller is reset, and the commands outstanding count as failed;
IDLE, EV184. -/
def execSwDrainTimeout (s : State) : Host.Outcome State Fault Refusal :=
  run (fun c =>
    if swRuns c && decide (swState c = 6) && decide (c.sw.drainAt + 1000000000 ≤ c.ns) then
      let hit := (c.sw.cmds ++ c.sw.ready).filterMap (failedBale c)
      let lost := c.sw.bales.map (fun b => if hit.contains b.seqNo then { b with fails := b.fails + 1 } else b)
      (((c.setSw { c.sw with cmds := [], ready := [], bales := lost }).swEnter 0 0).raise 184).swStart
    else c) s
/-- PCIEB_LINK_CHANGE (R403, R425): EV180; a loss of the link enters NO_DRIVE, with EV181, and every command in flight is lost. -/
def execPciebLinkChange (up : Bool) (s : State) : Host.Outcome State Fault Refusal :=
  run (fun c =>
    let c1 := (c.setSw { c.sw with linkUp := up }).raise 180
    if !up && decide (3 ≤ swState c) then ((c1.setSw { c1.sw with cmds := [], ready := [] }).swEnter 1 0).raise 181 else c1) s

/-! ### The drive's requests (R395) -/

/-- DRIVE_REQUEST (R395): a write of bytes, or a read of n bytes, by the drive: served inside the window; else completed as
Unsupported Request, with EV187. -/
def execDriveRequest (a : Addr) (data : Option (List Byte)) (n : Nat) (s : State) : Host.Outcome State Fault Refusal :=
  run (fun c =>
    let len := match data with
      | some bs => bs.length
      | none => n
    if len = 0 then c
    else if !inWindow c a.toNat len then (c.respond (respErr 0)).raise 187
    else match data with
      | some bs => ((c.blockWriteLong (len / 4096 + 2) a.toNat bs).2).respond (respOk 0)
      | none =>
        let r := c.blockReadLong (len / 4096 + 2) a.toNat len
        r.2.2.respond { data := leNat r.1, poison := !r.2.1 }) s

end Sys2Proof.Machine
end

