-- ==== Sys2Proof/Machine/Mode.lean ====
section
/-!
DEFINITION. The modes (R467 to R472): requests, the consistency check (R457), INCIDENT and its hold, triggers (R452), entry to
DORMANT and the wakes from it.
-/
namespace Sys2Proof.Machine

/-- SYS_MODE.MODE: 0 DORMANT, 1 SENTRY, 2 ROUTE, 3 INCIDENT, 4 DEPOT, 5 SERVICE; 0xFF during a phase (R319). -/
def modeOf (c : Chip) : Nat := c.fld Reg.SYS_MODE 7 0
/-- SYS_MODE.PHASE: 0 none, 1 BOOT, 2 RECOVERY. -/
def phaseOf (c : Chip) : Nat := c.fld Reg.SYS_MODE 15 8

/-! ### The consistency check (R457) -/

/-- The streams whose ENABLE object is 1. -/
def enabledStreams (c : Chip) : List Nat := (List.range 32).filter (fun s => decide (odNat c (0x3000 + s) 1 = 1))
/-- A stream's number sub-index. -/
def streamObj (c : Chip) (s sub : Nat) : Nat := odNat c (0x3000 + s) sub
/-- A stream's configuration as far as the sizes of R281 and R282 need it. -/
def streamSizes (c : Chip) (s : Nat) : List Nat := [0, streamObj c s 4 + streamObj c s 5 * 2 ^ 16]
/-- The pages of a stream's buffer (R282): the first and the number. -/
def streamPages (c : Chip) (s : Nat) : Nat × Nat := (streamObj c s 0x0B, streamObj c s 0x0A * capP s (streamSizes c s))
/-- Do two ranges share a page? -/
def rangesMeet (a b : Nat × Nat) : Bool := decide (a.1 < b.1 + b.2) && decide (b.1 < a.1 + a.2)
/-- The kernels that a stream names: PIPE, HASH and the first CHAIN_LEN of the chain. -/
def streamKernels (c : Chip) (s : Nat) : List Nat :=
  [streamObj c s 0x0D, streamObj c s 0x13] ++ ([0x0F, 0x10, 0x11, 0x12].take (streamObj c s 0x0E)).map (streamObj c s)
/-- Does check `code` of R457 fail for stream s, among the enabled streams below it? (DESIGN CHOICE: log 99) -/
def checkFails (c : Chip) (code s : Nat) : Bool :=
  let w := streamObj c s 4
  let h := streamObj c s 5
  let lower := (enabledStreams c).filter (fun t => decide (t < s))
  match code with
  | 1 => lower.any (fun t => decide (t / 4 = s / 4) && decide (streamObj c t 2 = streamObj c s 2))
  | 2 => lower.any (fun t => rangesMeet (streamPages c t) (streamPages c s))
  | 3 => !(decide (w % 8 = 0) && decide (h % 8 = 0) && decide (256 ≤ w) && decide (w ≤ 4096) && decide (128 ≤ h) &&
      decide (h ≤ 2304) && decide (w * h ≤ 8912896) && decide (1 ≤ streamObj c s 0x0A) &&
      decide ((streamPages c s).1 + (streamPages c s).2 ≤ 64 * c.fld Reg.DRC_CTL 6 0))
  | 4 => !(streamKernels c s).all (fun k => kernelValid c k)
  | _ => decide (534773760 < w * h * streamObj c s 6 / 100)
/-- The first failure: its code and its stream. (DESIGN CHOICE: log 99) -/
def checkFailure (c : Chip) : Option (Nat × Nat) :=
  [1, 2, 3, 4, 5].findSome? (fun code => ((enabledStreams c).find? (fun s => checkFails c code s)).map (fun s => (code, s)))
/-- Note a failure (R457): 0x2001:03 and :04, EV236. -/
def Chip.modeRefused (c : Chip) (f : Nat × Nat) : Chip :=
  ((c.odSet 0x2001 3 (leBytes 1 f.1)).odSet 0x2001 4 (leBytes 1 f.2)).raise 236

/-! ### Changes of mode (R468 to R470) -/

/-- The hold of 0x3200:09 starts (R469). -/
def Chip.startHold (c : Chip) : Chip :=
  { c with pow := { c.pow with incEnd := c.ns + odNat c 0x3200 9 * 1000000000 } }

/-- Enter a mode (R468 to R470): EV14; RETURN in INCIDENT; the new stook interval at once (R321); the records note the mode.
Outside SERVICE the Ethernet debug port is not there: it has level 0, and a VERIFY of its own ends unanswered (R533). -/
def Chip.enterMode (c : Chip) (m : Nat) : Chip :=
  let was := modeOf c
  let ret := if m = 3 then (if was = 1 ∨ was = 2 ∨ was = 4 then was else 2) else 0xFF
  let c1 := c.setReg Reg.SYS_MODE (BitVec.ofNat 32 (ret * 2 ^ 16 + m))
  let c2 := if m = 3 then c1.startHold.lifeAdd 25 1 else { c1 with pow := { c1.pow with incEnd := 0 } }
  let c3 := c2.followInterval c
  let c4 := if m = 5 then c3 else
    { c3 with dbg := { c3.dbg with ports := c3.dbg.ports.map (fun e => if e.1 = 2 then (e.1, { e.2 with level := 0, verify := none }) else e) } }
  c4.noteFlags.raise 14

/-- The end of BOOT or RECOVERY (R457, R468, R474): the start-up mode, or SERVICE where the check fails. -/
def Chip.startUpMode (c : Chip) : Chip :=
  let m := odNat c 0x2002 0
  if m = 5 then c.enterMode 5 else
  match checkFailure c with
  | some f => (c.modeRefused f).enterMode 5
  | none => c.enterMode m

/-- Step 1 of DORMANT entry (R471): triggers stop, each running stream is stopped in hardware, its object keeping its value, and
an open transaction is aborted. -/
def Chip.dormantStart (c : Chip) : Chip :=
  let c1 := (List.range 32).foldl (fun d s => d.disableStream s) c
  let c2 := if txState c1 = 1 then c1.txAbort else c1
  { c2 with pow := { c2.pow with dormStep := 1 } }

/-- The checks of a request for mode m (R448, R457, R468, R469): the abort code, 0 where it is accepted. `open_` tells of an open session.
(DESIGN CHOICE: log 100) -/
def Chip.modeCheck (c : Chip) (m : Nat) (open_ : Bool) : Nat × Chip :=
  let now := modeOf c
  if m = 5 ∧ !open_ then (0x08000020, c)
  else if 5 < m then (0x06090030, c)
  else if phaseOf c ≠ 0 ∨ c.pow.dormStep ≠ 0 then (0x08000022, c)
  else if now = 3 ∧ m = 0 then (0x08000022, c)
  else if now = 5 ∧ m ≠ 5 ∧ m ≠ 0 then
    match checkFailure c with
    | some f => (0x08000022, c.modeRefused f)
    | none => (0, c)
  else (0, c)
/-- An accepted request for mode m (R468, R469). -/
def Chip.modeAccept (c : Chip) (m : Nat) : Chip :=
  let now := modeOf c
  if m = now then (if m = 3 then c.startHold else c)
  else if now = 3 ∧ m ≠ 5 then c.setFld Reg.SYS_MODE 23 16 m
  else if m = 0 then c.dormantStart
  else c.enterMode m
/-- A request for mode m: the abort code, and what it does where it is accepted. -/
def Chip.modeRequest (c : Chip) (m : Nat) (open_ : Bool) : Nat × Chip :=
  let x := c.modeCheck m open_
  if x.1 ≠ 0 then x else (0, x.2.modeAccept m)

/-- INCIDENT_HOLD_EXPIRY (R469): Salun enters the return mode. -/
def execIncidentHoldExpiry (s : State) : Host.Outcome State Fault Refusal :=
  run (fun c => if modeOf c = 3 ∧ c.pow.incEnd ≤ c.ns then c.enterMode (c.fld Reg.SYS_MODE 23 16) else c) s

/-- SYS_INC_LEFT (R469, R487). -/
def incLeft (c : Chip) : Nat := if modeOf c = 3 then (c.pow.incEnd - c.ns) / 1000000 else 0

/-! ### Incident triggers (R452) -/

/-- Trigger i has seen its edge (R452, R469): TRIGGER marks the open sheaves of the stream mask, and INCIDENT is entered, or its
hold starts again. DEPOT and SERVICE ignore it, and DORMANT entry has stopped the triggers. -/
def Chip.incidentEdge (c : Chip) : Chip :=
  let m := modeOf c
  if phaseOf c ≠ 0 ∨ c.pow.dormStep ≠ 0 then c
  else
    let c1 := c.markSheaves (fun st => (odNat c 0x3200 0x0B).testBit st) 2
    if m = 1 ∨ m = 2 then c1.enterMode 3 else if m = 3 then c1.startHold else c
/-- INCIDENT_TRIGGER (R452): firmware acts on the edge that trigger i + 1, enabled, has seen of its source: the Weave trigger line of
PARAM, the accelerometer's interrupt, or the ADC channel of PARAM at its level (R506, R507). -/
def execIncidentTrigger (i : Fin 8) (falling : Bool) (s : State) : Host.Outcome State Fault Refusal :=
  run (fun c =>
    if c.weave.edges.contains (i.val, falling) then
      Chip.incidentEdge { c with weave := { c.weave with edges := c.weave.edges.filter (fun e => decide (e ≠ (i.val, falling))) } }
    else c) s
/-- A write of 1 to 0x3200:0A (R452): an edge for every enabled trigger of SOURCE 0x04. (DESIGN CHOICE: log 101) -/
def Chip.externalTrigger (c : Chip) : Chip :=
  if (List.range 8).any (fun i => triggerFires c i false && decide (natBits (odNat c 0x3200 (i + 1)) 23 16 = 4)) then c.incidentEdge else c

/-! ### DORMANT (R471, R472) -/

/-- Wake from DORMANT (R472, R575): PWR_EN rises, and a full boot follows. -/
def Chip.wakeUp (c : Chip) : Chip := c.resetAll
/-- The last step of DORMANT entry (R471 step 5): the LIFE block, with the increments that a snapshot held, flushes, the mode changes, every switched domain is off, the
watchdog stops and PWR_EN falls (R575). A wake source that became active meanwhile starts Salun at once. -/
def Chip.dormantEnd (c : Chip) : Chip :=
  let c1 := ((c.setBit Reg.LIFE_SNAP 30 false).applyHeld).lifeFlush.enterMode 0
  let c2 := c1.keepOnly []
  let c3 := { c2 with wdt := {}, pow := { c2.pow with dormant := true, pwrEn := false } }
  if c3.pow.wakeDue then c3.wakeUp else c3
/-- The next due step of DORMANT entry; a capsule ends the entry. Where the Seal Unit takes nothing there is no stook to sign.
(DESIGN CHOICE: log 100) -/
def Chip.dormantEntry (c : Chip) : Chip :=
  let step (k : Nat) (d : Chip) : Chip := { d with pow := { d.pow with dormStep := k } }
  if c.pow.dormant || c.silo.capsule.isSome then c else
  match c.pow.dormStep with
  | 1 =>
    if c.ev.sheaves.isEmpty && c.silo.waiting.isEmpty then
      step 2 (if sealTakes c then { c with ev := { c.ev with due := true, sysDue := true, dueNext := journaledNext c } } else c)
    else c
  | 2 =>
    if !(sealTakes c && (c.ev.due || c.ev.signing.isSome)) && c.silo.waiting.isEmpty then step 3 c.swDisable else c
  | 3 =>
    if swState c ≤ 3 then
      step 4 c.askProgress
    else c
  | 4 => if c.silo.waiting.isEmpty then c.dormantEnd else c
  | _ => c
/-- DORMANT_ENTRY (R471): the next step whose conditions hold: the open sheaves are journaled and a stook falls due; it is
signed and the Storage Writer is disabled; a PROGRESS entry is journaled; the last step. -/
def execDormantEntry (s : State) : Host.Outcome State Fault Refusal := run Chip.dormantEntry s

/-- A wake source becomes active (R471, R472): `k` is its bit in SYS_WAKE_EN.EN. -/
def Chip.wakeSource (c : Chip) (k : Nat) : Chip :=
  if !c.bit Reg.SYS_WAKE_EN k then c
  else if c.pow.dormant then (c.setBit Reg.SYS_WAKE_CAUSE k true).wakeUp
  else if c.pow.dormStep ≠ 0 then
    { c.setBit Reg.SYS_WAKE_CAUSE k true with pow := { c.pow with wakeDue := true } }
  else c
/-- WAKE_CAN_FRAME (R472): a classical frame with the identifier and the rate of SYS_WAKE_CANID (0 125, 1 250, 2 500 kbit/s). -/
def execWakeCanFrame (f : CanFrame) (rate : Fin 3) (s : State) : Host.Outcome State Fault Refusal :=
  runAny (fun c =>
    if !f.fd && !f.ext && decide (f.id = c.fld Reg.SYS_WAKE_CANID 10 0) &&
        decide (rate.val = Nat.min 2 (c.fld Reg.SYS_WAKE_CANID 13 12)) then c.wakeSource 0 else c) s
/-- IGN_WAKE (R472): the input has been high for 10 ms. -/
def execIgnWake (s : State) : Host.Outcome State Fault Refusal := runAny (fun c => c.wakeSource 1) s
/-- RTC_ALARM (R472): the backup counter reaches the alarm; outside DORMANT, EV15. -/
def execRtcAlarm (s : State) : Host.Outcome State Fault Refusal :=
  runAny (fun c =>
    let alarm := (c.reg Reg.SYS_RTC_ALARM_LO).toNat + c.fld Reg.SYS_RTC_ALARM_HI 7 0 * 2 ^ 32
    if alarm = 0 ∨ c.tai.toNat / 1000000000 ≠ alarm then c
    else if c.pow.dormant then c.wakeSource 2
    else (c.wakeSource 2).raise 15) s
/-- ACCEL_WAKE (R472): an edge on the accelerometer input, with ACCEL_POL's polarity. -/
def execAccelWake (falling : Bool) (s : State) : Host.Outcome State Fault Refusal :=
  runAny (fun c => if c.bit Reg.SYS_WAKE_EN 8 == falling then c.wakeSource 3 else c) s

end Sys2Proof.Machine
end

