-- ==== Sys2Proof/Machine/Power.lean ====
section
/-!
DEFINITION. The power controller (R474 to R477, R486), the clocks (R479), the operating points and throttling (R480, R481, R572).
-/
namespace Sys2Proof.Machine

/-! ### Tiles (R182, R475 to R477) -/

/-- Is the tile bound or staged? -/
def tileBusy (c : Chip) (t : Nat) : Bool := (boundTiles c).contains t || (stagedCtx c t).isSome
/-- Write the dirty warm pages of tile t back (R182). -/
def Chip.writeBackTile (c : Chip) (t : Nat) : Chip := (c.tile t).frames.foldl (fun d f => d.writeBack t f.1) c
/-- Switch tile t's domains off for T2 or T3 (R182, R475): the reading of its sensor is stale (R70); in T3 its warm pages lose
RES and its plane memory its contents. -/
def Chip.tileDown (c : Chip) (t st : Nat) : Chip :=
  let c1 := ((c.switchOff (.tileLogic t)).setBit (Reg.SYS_TTEMP t) 31 true).onTile t
    (fun x => { x with C := 0, T := 0, M := 0, S := 0, NX := 0, lfsr := [] })
  let c2 := if st = 3 then
      let d := (c1.tile t).frames.foldl (fun d f => d.dropFrame t f.1) c1
      (d.onTile t (fun x => { x with planes := [], ecc := [], ftab := [], frames := [] })).switchOff (.tilePlane t)
    else c1
  c2.setTileState t st
/-- Has tile t a page to write back before T3 (R182)? -/
def hasDirty (c : Chip) (t : Nat) : Bool := (c.tile t).frames.any (fun f => f.2.dirty)
/-- Take tile t to the state chosen (R182, R274, R475): a shallower state at once; T3 from T2 with nothing to write back by
switching the plane memory off; otherwise, for T3, the writeback, with the logic of a tile in T2 powered on for it and no wake
raised, and then the drain that begins the power-down. (DESIGN CHOICE: log 130) -/
def Chip.tileTo (c : Chip) (t st : Nat) : Chip :=
  let now := tileState c t
  if st = now then c
  else if st < now then (if st = 2 then c.tileToT2 t else (c.powerTile t).setTileState t st)
  else if now = 2 && !hasDirty c t then c.tileDown t 3
  else
    let c1 := if st = 3 then (c.powerTile t).writeBackTile t else c
    c1.beginDown (.tileLogic t) (tileNode t) st
/-- May the power controller choose for tile t now: READY has been set (R475), and the tile is neither bound, staged nor powering
down? -/
def tileMayChoose (c : Chip) (t : Nat) : Bool :=
  c.bit Reg.GRN_STAT 31 && !tileBusy c t && !goingDown c t
/-- Does a choice of a shallower state cancel the power-down of tile t (R182, R477)? (DESIGN CHOICE: log 130) -/
def tileTurnsBack (c : Chip) (t : Nat) : Bool :=
  c.pow.goingDown.any (fun e => e.1 == .tileLogic t && decide (tileChoice c t < e.2))

/-- SYS_TSTATEk (R475, R487): a retired tile shows T3. -/
def tstateWord (c : Chip) (k : Nat) : Nat :=
  (List.range 16).foldl (fun w j => w + (if retired c (16 * k + j) then 3 else tileState c (16 * k + j)) * 4 ^ j) 0

/-! ### The other domains (R476) -/

/-- Put a PLL on or off the list of those the power controller has stopped. (DESIGN CHOICE: log 104) -/
def Chip.stopPll (c : Chip) (k : Nat) (off : Bool) : Chip :=
  let rest := c.pow.stopped.filter (fun x => decide (x ≠ k))
  { c with pow := { c.pow with stopped := if off then rest ++ [k] else rest } }
/-- Is no drive command outstanding (R476)? -/
def driveQuiet (c : Chip) : Bool := swQuiet c
/-- Are all tiles in T2 or T3 with no routine running (R476)? -/
def arrayQuiet (c : Chip) : Bool :=
  c.seq.running.isNone && (List.range 256).all (fun t => decide (2 ≤ tileState c t))

/-- What leaves with an edge domain (R33, R210, R287): a capture port's streams stop; the core's state and its memories' contents are
lost. (DESIGN CHOICE: log 9) -/
def Chip.domainLoss (c : Chip) : Domain → Chip
  | .capture p => (List.range 4).foldl (fun d i => if streamOn d (4 * p + i) then d.stopStream (4 * p + i) else d) c
  | .core => c.coreLost
  | .coreMem => { c with mem := c.mem.filter (fun e => decide (0x180000 ≤ e.1)), core := { c.core with itcm := [] } }
  | .weave q => c.weaveOff q
  | .quadrant q => c.quadrantLost q
  | .spindle l => c.linkLose l
  | _ => c
/-- An edge domain begins to power down (R274): a capture port's streams stop, and its router drains to SLEEP. The Storage Writer and
PCIe-B wait for IDLE (R405); packer domain 0 stays on while a lane is enabled (R296); the Seal Unit's domain stays on (R332), as do the
mesh and, for the evidence that it holds, the Silo's; a DRAM quadrant only firmware turns off (R204). A domain with no port of its own switches off at once. (DESIGN CHOICE: log 104) -/
def Chip.edgeDown (c : Chip) (d : Domain) : Chip :=
  let quiet := match d with
    | .storageWriter => decide (swState c = 0)
    | .pcieB => decide (swState c = 0)
    | .packer k => decide (k ≠ 0) || decide (c.fld Reg.PKR_CTL 7 0 = 0)
    | _ => true
  match d with
  | .mesh => c
  | .sealUnit => c
  | .silo => c
  | .tileLogic _ => c
  | .tilePlane _ => c
  | .weave q => c.weaveOff q
  | .quadrant _ => c
  | _ =>
    if !c.isOn d || !quiet || downFor c d then c else
    match domainNode d with
    | some n =>
      let c1 := match d with
        | .capture _ => c.domainLoss d
        | _ => c
      c1.beginDown d n 0
    | none => (c.domainLoss d).switchOff d

/-- POWER_STATE_CHOICE (R476). -/
def execPowerStateChoice (tgt : PowerTarget) (s : State) : Host.Outcome State Fault Refusal :=
  run (fun c =>
    match tgt with
    | .tile t => if tileMayChoose c t.val then c.tileTo t.val (tileChoice c t.val)
      else if tileTurnsBack c t.val then c.cancelTile t.val else c
    | .quadrant q =>
      if !c.isOn (.quadrant q.val) then c
      else c.setBit Reg.DRC_STAT (4 + q.val)
        (selfRefreshDue c q.val || (decide (3 ≤ tolBound c [1, 4]) && selfRefresh c q.val))
    | .corePll => c.stopPll 1 (decide (17 ≤ tolBound c [2, 3, 5]) && c.bit Reg.SYS_DCORE 30)
    | .pcieB =>
      let l1 := decide (32 ≤ tolBound c [4]) && c.sw.linkUp && c.sw.drive.l1 && driveQuiet c
      { c with pow := { c.pow with aspmL1 := l1 } }
    | .arrayPll => c.stopPll 0 (decide (15 ≤ tolBound c [3]) && arrayQuiet c)
    | .edge d => c.edgeDown d) s

/-- A write of SYS_TOLc (R477): every domain whose present state exceeds its bound leaves it for the deepest that the bound
allows. -/
def Chip.tolWrite (c : Chip) (k v : Nat) : Chip :=
  let c1 := c.setReg (Reg.SYS_TOL1 + 4 * (k - 1)) (BitVec.ofNat 32 (v % 2 ^ 20))
  let c2 := if tolBound c1 [1, 3] < 32 then (List.range 256).foldl (fun d t =>
      if tileState d t = 3 ∧ tileMayChoose d t then d.tileTo t 2 else d) c1 else c1
  let c3 := if tolBound c2 [1, 4] < 3 then c2.setFld Reg.DRC_STAT 7 4 0 else c2
  let c4 := if tolBound c3 [2, 3, 5] < 17 then c3.stopPll 1 false else c3
  let c5 := if tolBound c4 [4] < 32 then { c4 with pow := { c4.pow with aspmL1 := false } } else c4
  if tolBound c5 [3] < 15 then c5.stopPll 0 false else c5
/-- TOLERANCE_WRITE (R477): a write of SYS_TOL(k + 1). -/
def execToleranceWrite (k : Fin 5) (data : Word) (s : State) : Host.Outcome State Fault Refusal :=
  run (fun c => c.tolWrite (k.val + 1) data.toNat) s

/-! ### Power-good (R486) -/

/-- DOMAIN_POWER_GOOD (R486): a switched-on domain is usable; a drain brings its port to OPEN. A quadrant and a Weave quadrant come up
as R204 and R500 give, a tile's domains as R45 gives. In DORMANT none is switched on. (DESIGN CHOICE: log 121) -/
def Chip.powerGood (c : Chip) : Domain → Chip
  | .weave q => c.weaveOn q
  | .quadrant q => c.quadrantOn q
  | .tileLogic t => c.exitTile t
  | .tilePlane t => if tileState c t = 3 then c.tileToT2 t else c
  | .core => if c.isOn .core then c else
      if c.su.released then (c.domainUp .core).coreStart else c.domainUp .core
  | d => c.domainUp d
/-- DOMAIN_POWER_GOOD. -/
def execDomainPowerGood (d : Domain) (s : State) : Host.Outcome State Fault Refusal :=
  runAny (fun c => if c.pow.dormant then c else c.powerGood d) s
/-- DOMAIN_FAIL (R486): no power-good within 50 µs of switch-on; the domain is switched off again, with EV13. -/
def execDomainFail (d : Domain) (s : State) : Host.Outcome State Fault Refusal :=
  runAny (fun c =>
    let c1 := match d with
      | .tileLogic t => c.tileDown t 3
      | .tilePlane t => c.tileDown t 3
      | _ => (c.domainLoss d).switchOff d
    Chip.raise { c1 with pow := { c1.pow with goingDown := c1.pow.goingDown.filter (fun e => decide (e.1 ≠ d)) } } 13) s

/-! ### Clocks (R479) -/

/-- PLL_UNLOCK (R479): 0 the array PLL, 1 the core PLL, 2 the I/O PLL. -/
def execPllUnlock (k : Fin 3) (s : State) : Host.Outcome State Fault Refusal :=
  runAny (fun c =>
    if c.pow.unlocked.contains k.val then c
    else Chip.raise { c with pow := { c.pow with unlocked := c.pow.unlocked ++ [k.val] } } 8) s
/-- PLL_RELOCK (R479). -/
def execPllRelock (k : Fin 3) (s : State) : Host.Outcome State Fault Refusal :=
  runAny (fun c => { c with pow := { c.pow with unlocked := c.pow.unlocked.filter (fun x => decide (x ≠ k.val)) } }) s
/-- REF_LOST (R479): the PLLs hold their last frequency. -/
def execRefLost (s : State) : Host.Outcome State Fault Refusal :=
  runAny (fun c => if c.pow.refLost then c else Chip.raise { c with pow := { c.pow with refLost := true } } 9) s

/-! ### The operating point (R480, R481, R572) -/

/-- POWER_ESTIMATE (R481): every 100 µs the estimate, in 0.1 W, is shown and kept. -/
def execPowerEstimate (est : BitVec 16) (s : State) : Host.Outcome State Fault Refusal :=
  runAny (fun c =>
    if c.ns < c.pow.estAt + 100000 then c else
    let c1 := c.setFld Reg.SYS_THR 15 0 est.toNat
    { c1 with pow := { c1.pow with estAt := c.ns, powers := (est.toNat :: c1.pow.powers).take 100 } }) s

/-- The AVS_VID code of a point (R572). (DESIGN CHOICE: log 121) -/
def vidOf (p : Nat) : Nat := listGet 5 [25, 18, 12, 5] p
/-- OPP_CHANGE (R480, R572): the array runs at point p, and AVS_VID drives its code. -/
def Chip.setPoint (c : Chip) (p : Nat) : Chip :=
  let c1 := (c.setFld Reg.SYS_THR 25 24 p).setFld Reg.SYS_AVS 5 0 (vidOf p)
  { c1 with pow := { c1.pow with stepAt := c1.ns } }
/-- The fresh temperature readings in 0.25 °C (R70, R481). -/
def freshTemps (c : Chip) : List Int :=
  ((List.range 256).filter (fun t => !c.bit (Reg.SYS_TTEMP t) 31)).map (fun t => toSigned 12 (c.fld (Reg.SYS_TTEMP t) 11 0))
/-- The power cap in force (R487). -/
def powerCap (c : Chip) : Nat := Nat.min 480 (Nat.max 50 (c.fld Reg.SYS_PCAP 8 0))
/-- The ceiling of the mode (R467): P3 in SENTRY. (DESIGN CHOICE: log 103) -/
def ceilingOf (c : Chip) : Nat := if modeOf c = 1 then 3 else 0
/-- Down one point, at most once per 1 ms. -/
def Chip.stepDown (c : Chip) : Chip :=
  let p := c.fld Reg.SYS_THR 25 24
  if p < 3 ∧ c.pow.stepAt + 1000000 ≤ c.ns then c.setPoint (p + 1) else c
/-- THERM_WARN (R481): EV3 at the first reading of 100 °C, re-armed once all tiles are below 98 °C. -/
def Chip.thermWarn (c : Chip) : Chip :=
  let ts := freshTemps c
  if ts.any (fun x => decide (400 ≤ x)) then
    if c.pow.warned then c else Chip.raise { c with pow := { c.pow with warned := true } } 3
  else if ts.all (fun x => decide (x < 392)) then { c with pow := { c.pow with warned := false } }
  else c
/-- The rules of R481 in order: the critical stop and its end, throttling, the way back to the ceiling. (DESIGN CHOICE: log 103) -/
def Chip.throttle (c : Chip) : Chip :=
  let ts := freshTemps c
  let cap := powerCap c
  let short := c.pow.powers.take 10
  let sum (l : List Nat) : Nat := l.foldl (· + ·) 0
  let hot := ts.any (fun x => decide (420 ≤ x))
  let above := decide (cap * short.length < sum short)
  let cool := ts.all (fun x => decide (x ≤ 408)) && decide (sum c.pow.powers * 10 < 9 * cap * Nat.max 1 c.pow.powers.length)
  let p := c.fld Reg.SYS_THR 25 24
  let top := Nat.max (ceilingOf c) (gangPoint c)
  if ts.any (fun x => decide (480 ≤ x)) then
    if c.bit Reg.SYS_THR 31 then c else
    let c1 := { c.setBit Reg.SYS_THR 31 true with pow := { c.pow with throttled := true } }
    c1.raise 5
  else if c.bit Reg.SYS_THR 31 then
    if ts.all (fun x => decide (x ≤ 440)) then (c.setBit Reg.SYS_THR 31 false).setPoint 3 else c
  else if hot || above then
    let c1 := (c.raiseIf (!c.pow.hot) 4).raiseIf (above && !c.bit Reg.SYS_THR 29) 7
    let c2 := if hot then c1.setBit Reg.SYS_THR 30 true else c1
    let c3 := if above then c2.setBit Reg.SYS_THR 29 true else c2
    Chip.stepDown { c3 with pow := { c3.pow with throttled := true, hot := true } }
  else if p < top then c.stepDown
  else if cool then
    let c1 := if top < p ∧ c.pow.stepAt + 10000000 ≤ c.ns then c.setPoint (p - 1) else c
    if c1.pow.throttled && decide (c1.fld Reg.SYS_THR 25 24 ≤ ceilingOf c1) then
      let c2 := { c1.setFld Reg.SYS_THR 30 29 0 with pow := { c1.pow with throttled := false, hot := false } }
      c2.raise 6
    else c1
  else c
/-- THROTTLE_STEP (R481). -/
def execThrottleStep (s : State) : Host.Outcome State Fault Refusal := runAny (fun c => c.thermWarn.throttle) s

end Sys2Proof.Machine
end

