-- ==== Sys2Proof/Machine/Drains.lean ====
section
/-!
DEFINITION. Drains (R269, R270), the DISABLE bits of edge ports (R271, R275), the commit of a power-down and the end of a tile's exit
(R274), and the read-to-clear counts of the network (R275).
-/
namespace Sys2Proof.Machine

/-- The node of edge position e (R255). -/
def edgeNode (e : Nat) : Nat :=
  if e < 16 then 32 * (e + 1) else if e < 32 then 32 * 17 + (e - 15) else if e < 48 then 32 * (e - 31) + 17 else e - 47
/-- Put a packet on a node's port (R263): its block takes it later. -/
def Chip.arrive (c : Chip) (n : Nat) (p : Packet) : Chip :=
  c.setNoc { c.noc with inbox := c.noc.inbox ++ [{ node := n, since := c.ns, packet := p }] }
/-- The held requests of a router whose port is OPEN are delivered in order of arrival (R273). -/
def Chip.releaseHeld (c : Chip) (n : Nat) : Chip :=
  if portState c n = 0 then
    (c.noc.sleep.filter (fun e => decide (e.1 = n))).foldl (fun c e => c.arrive n e.2)
      (c.setNoc { c.noc with sleep := c.noc.sleep.filter (fun e => decide (e.1 ≠ n)) })
  else c

/-- A packet enters a router's buffers by an input. -/
def Chip.fly (c : Chip) (n input : Nat) (p : Packet) : Chip :=
  c.setNoc { c.noc with flight := c.noc.flight ++ [{ node := n, input := input, packet := p }] }
/-- A router answers a packet itself. -/
def Chip.answerAt (c : Chip) (n : Nat) (p : Packet) : Chip := c.fly n 2048 p
/-- Does router n drain (R269)? -/
def draining (c : Chip) (n : Nat) : Bool :=
  match c.noc.drain with
  | some d => decide (d.node = n)
  | none => false
/-- The block at node n sends a packet: while its router drains, the local bridge is back-pressured and the packet waits (R269). -/
def Chip.send (c : Chip) (n : Nat) (p : Packet) : Chip :=
  if draining c n then c.setNoc { c.noc with outbox := c.noc.outbox ++ [(n, p)] } else c.fly n n p
/-- Router n takes input again (R269 step 4): what its block sent meanwhile enters, in order. -/
def Chip.resumeInput (c : Chip) (n : Nat) : Chip :=
  (c.noc.outbox.filter (fun e => decide (e.1 = n))).foldl (fun d e => d.fly n n e.2)
    (c.setNoc { c.noc with outbox := c.noc.outbox.filter (fun e => decide (e.1 ≠ n)) })

/-- The request is for a loft of tile t, in either view; anything else that reaches a tile is tile control. (DEDUCED: log 36) -/
def loftRequest (c : Chip) (t : Nat) (p : Packet) : Bool :=
  match decodeAddr c (reqAddr p) with
  | .loft u _ => u == t
  | _ => false
/-- Does a packet for the local port of node n wait there until the port is OPEN: write data at a tile's port in SLEEP (R272), whether or
not its request is held (DESIGN CHOICE: log 175), or a request to hold while the sleep buffer is full (R273)? -/
def waitsHere (c : Chip) (n : Nat) (p : Packet) : Bool :=
  decide (pktDest p = ownNode c n) && decide (portState c n = 1) &&
    match p.net, nodeTile n with
    | 3, some _ => !datRead p
    | 0, some t =>
      !(!loftRequest c t p && (retired c t || (decide (pktSrc p ≠ ownNode c 10) && !c.bit (Reg.NOC_WAKEk (t / 32)) (t % 32)))) &&
        decide (4 ≤ (c.noc.sleep.filter (fun e => decide (e.1 = n))).length)
    | _, _ => false
/-- Do two packets in a router share a buffer: one input, one network and, on DAT, one VC (R261)? -/
def sameBuffer (a b : Flight) : Bool :=
  decide (a.node = b.node) && decide (a.input = b.input) && decide (a.packet.net = b.packet.net) &&
    (decide (a.packet.net ≠ 3) || datRead a.packet == datRead b.packet)
/-- Are the buffers of router n empty, but for what waits for the port to open and what stands behind it (R269, R272, R273)?
(DEDUCED: log 42) -/
def buffersEmpty (c : Chip) (n : Nat) : Bool :=
  (c.noc.flight.filter (fun e => decide (e.node = n))).all (fun e =>
    match c.noc.flight.find? (sameBuffer e) with
    | some h => waitsHere c n h.packet
    | none => false)

/-- The oldest waiting drain begins when none runs (R270): NOC_STAT shows it. -/
def Chip.drainStart (c : Chip) : Chip :=
  match c.noc.drain, c.noc.drains with
  | none, d :: rest => Chip.showDrains (c.setNoc { c.noc with drain := some { d with since := c.ns }, drains := rest })
  | _, _ => c
/-- The drain ends with the new state applied, or the old one kept: the router takes input again. -/
def Chip.drainOver (c : Chip) (n : Nat) : Chip := ((c.setNoc { c.noc with drain := none }).showDrains).resumeInput n
/-- Once the router's buffers are empty the new state is applied and input resumes (R269); held requests are delivered where the port
is OPEN now. -/
def Chip.drainComplete (c : Chip) : Chip :=
  match c.noc.drain with
  | none => c
  | some d => if buffersEmpty c d.node then ((c.applyPort d.node d.goals).drainOver d.node).releaseHeld d.node else c
/-- A drain that has not finished within 4,096 NCLK of its start (R270): EV96 once, and it goes on waiting. -/
def Chip.drainLate (c : Chip) : Chip :=
  match c.noc.drain with
  | none => c
  | some d =>
    if d.late || decide (c.ns < d.since + 4096) then c
    else ((c.setNoc { c.noc with drain := some { d with late := true } }).setBit Reg.NOC_STAT 2 true).raise 96
/-- NOC_DRAIN.ABORT (R270): the router keeps its old state, the power-down that the drain served is abandoned, EV105. -/
def Chip.drainAbort (c : Chip) : Chip :=
  match c.noc.drain with
  | none => c
  | some d =>
    let c1 := c.drainOver d.node
    (if d.goals.contains 1 then c1.abandonDown d.node else c1).raise 105

/-- The nodes whose DISABLE is ignored (R271): NOC, the core, the core's memories, the Debug Bus Master. -/
def neverDisabled (n : Nat) : Bool := [32 * 17 + 7, 6, 7, 32 * 10 + 17].contains n
/-- A write of NOC_PORTe.DISABLE (R268, R271, R275): a change of the bit asks for the drain. (DEDUCED: log 42) -/
def Chip.portDisable (c : Chip) (e : Nat) (v : Bool) : Chip :=
  let n := edgeNode e
  if !hasPort n || neverDisabled n || decide (c.bit (Reg.NOC_PORTe e) 0 = v) then c
  else (c.setBit (Reg.NOC_PORTe e) 0 v).askDrain n (if v then 2 else 4)
/-- NOC_PORTe as a bus read shows it. -/
def portReg (c : Chip) (e : Nat) : Nat :=
  (c.bit (Reg.NOC_PORTe e) 0).toNat + (if hasPort (edgeNode e) then 4 * portState c (edgeNode e) else 0)

/-- Does the node owe no response and await none (R274)? -/
def nothingOwed (c : Chip) (n : Nat) : Bool :=
  !c.noc.inbox.any (fun a => decide (a.node = n)) && !c.noc.asked.any (fun a => decide (a.node = n)) &&
    !c.noc.snoops.any (fun a => decide (a.node = n)) && !c.noc.outbox.any (fun e => decide (e.1 = n))
/-- The commit (R274): with its port in SLEEP and nothing owed, no held request either, the domain switches off; a packer domain once its lanes have finished
their slices (R296). -/
def Chip.downCommit (c : Chip) (d : Domain) : Chip :=
  match c.pow.goingDown.find? (fun e => e.1 == d), domainNode d with
  | some (_, st), some n =>
    if powerPort c n ≠ 1 ∨ !nothingOwed c n ∨ lanesNeed c d ∨ c.noc.sleep.any (fun e => decide (e.1 = n)) then c else
    let c1 := { c with pow := { c.pow with goingDown := c.pow.goingDown.filter (fun e => decide (e.1 ≠ d)) } }
    match d with
    | .tileLogic t => c1.tileDown t st
    | _ => (c1.domainLoss d).switchOff d
  | _, _ => c
/-- A tile that a held request woke has its domains on (R274): it is in T1, with its plane memory cleared where it was off, and a drain
brings its port to OPEN. -/
def Chip.tileExitDone (c : Chip) (t : Nat) : Chip :=
  if c.isOn (.tileLogic t) || !c.noc.sleep.any (fun e => decide (e.1 = tileNode t)) then c else c.exitTile t

/-- DRAIN_START (R270). -/
def execDrainStart (s : State) : Host.Outcome State Fault Refusal := run Chip.drainStart s
/-- DRAIN_COMPLETE (R269). -/
def execDrainComplete (s : State) : Host.Outcome State Fault Refusal := run Chip.drainComplete s
/-- DRAIN_LATE (R270). -/
def execDrainLate (s : State) : Host.Outcome State Fault Refusal := run Chip.drainLate s
/-- DRAIN_ABORT (R270). -/
def execDrainAbort (s : State) : Host.Outcome State Fault Refusal := run Chip.drainAbort s
/-- PORT_DISABLE (R268). -/
def execPortDisable (e : Fin 64) (v : Bool) (s : State) : Host.Outcome State Fault Refusal := run (fun c => c.portDisable e.val v) s
/-- POWER_DOWN_COMMIT (R274). -/
def execPowerDownCommit (d : Domain) (s : State) : Host.Outcome State Fault Refusal := run (fun c => c.downCommit d) s
/-- TILE_EXIT_DONE (R274). -/
def execTileExitDone (t : Fin 256) (s : State) : Host.Outcome State Fault Refusal := run (fun c => c.tileExitDone t.val) s
/-- PERR_READ (R275). -/
def execPerrRead (s : State) : Host.Outcome State Fault Refusal :=
  run (fun c => (c.respond (respOk (c.fld Reg.NOC_PERR 7 0))).setFld Reg.NOC_PERR 7 0 0) s
/-- DAT_CE_READ (R275). -/
def execDatCeRead (s : State) : Host.Outcome State Fault Refusal :=
  run (fun c => (c.respond (respOk (c.fld Reg.NOC_DAT_CE 7 0))).setFld Reg.NOC_DAT_CE 7 0 0) s

end Sys2Proof.Machine
end

