-- ==== Sys2Proof/Machine/HostPort.lean ====
section
/-!
DEFINITION. PCIe-A as a link (R406, R407, R411, R412): its resets, its MSI-X table and the dictionary slots.
-/
namespace Sys2Proof.Machine

/-- The Subsystem ID (R1, R406). -/
def subsystemId (c : Chip) : Nat := if c.is08X then 0x0008 else 0x0016
/-- The class code (R406): class 0x04, subclass 0x80. -/
def pciaClass : Nat := 0x0480
/-- PERST#, a hot reset or a link-down reset (R407, R539): only PCIe-A is reset, its configuration space with it, its debug grant ends, EV177. (DESIGN CHOICE: log 75) -/
def Chip.pciaReset (c : Chip) : Chip :=
  let c1 := (c.setReg Reg.PCIA_B2WIN (regReset Reg.PCIA_B2WIN)).setReg Reg.PCIA_ODDONE 0
  let slotJob : OdJob → Bool := fun j => match j with
    | .message (.slot _) _ => true
    | .message _ _ => false
    | .usdo _ => false
    | .rpdo _ => false
    | .write _ _ _ _ _ => false
    | .read _ _ => false
    | .fromManager _ _ _ _ => false
  let c2 := { c1 with
    host := { linkUp := c1.host.linkUp, memWr := c1.host.memWr, aer := c1.host.aer }
    od := { c1.od with
      jobs := c1.od.jobs.filter (fun j => !slotJob j)
      writes := c1.od.writes.filter (fun w => !(decide (16 ≤ w.client) && decide (w.client < 24))) } }
  (c2.closePort 1).raise 177
/-- PCIA_RESET (R407). -/
def execPciaReset (s : State) : Host.Outcome State Fault Refusal := run Chip.pciaReset s
/-- PCIA_LINK_CHANGE (R425). -/
def execPciaLinkChange (up : Bool) (s : State) : Host.Outcome State Fault Refusal :=
  run (fun c => if c.host.linkUp == up then c else Chip.raise { c with host := { c.host with linkUp := up } } 176) s

/-! ### The dictionary slots (R411) -/

/-- A byte of slot k's window: requests from 0, responses from 0x1000. -/
def slotByte (c : Chip) (k i : Nat) : Byte := mapGet 0 c.host.slots (0x2000 * k + i)
/-- Write bytes of the window. -/
def Chip.slotWrite (c : Chip) (off : Nat) : List Byte → Chip
  | [] => c
  | b :: t => Chip.slotWrite { c with host := { c.host with slots := mapSet 0 c.host.slots off b } } (off + 1) t
/-- The bytes of slot k's request: the header and as much as its LEN says, with a MAC where one is due. (DESIGN CHOICE: log 75) -/
def slotRequest (c : Chip) (k : Nat) : List Byte :=
  let h := (List.range 0x18).map (slotByte c k)
  let len := leNat ((h.drop 6).take 2)
  let op := leNat ((h.drop 3).take 1)
  let mac := if op = 1 ∨ op = 2 ∨ leNat ((h.drop 4).take 1) = 0xFF then 0 else 16
  (List.range (Nat.min 4096 (0x18 + len + mac))).map (slotByte c k)
/-- A write of PCIA_ODBELL (R411): a slot whose request is unanswered ignores it. -/
def Chip.odDoorbell (c : Chip) (v : Nat) : Chip :=
  (onesBelow 8 v).foldl (fun d k =>
    if d.host.pending.contains k then d else
    { d with
      host := { d.host with pending := d.host.pending ++ [k] }
      od := { d.od with jobs := d.od.jobs ++ [.message (.slot k) (slotRequest d k)] } }) c
/-- OD_DOORBELL (R411). -/
def execOdDoorbell (v : Byte) (s : State) : Host.Outcome State Fault Refusal := regRun Reg.PCIA_ODBELL (fun c => c.odDoorbell v.toNat) s
/-- OD_SLOT_ANSWER (R411): the oldest response goes into its slot's buffer, ODDONE is set, EV179. -/
def execOdSlotAnswer (s : State) : Host.Outcome State Fault Refusal :=
  run (fun c =>
    match c.host.answers with
    | [] => c
    | (k, bs) :: rest =>
      let c1 := { c with host := { c.host with answers := rest, pending := c.host.pending.filter (fun x => decide (x ≠ k)) } }
      ((c1.slotWrite (0x2000 * k + 0x1000) (bs.take 4096)).setBit Reg.PCIA_ODDONE k true).raise 179) s

/-! ### MSI-X (R406, R412) -/

/-- A dword of the MSI-X table: address low and high, data, control. -/
def msixWord (c : Chip) (i : Nat) : Nat :=
  let e := mapGet {} c.host.table (i / 4)
  match i % 4 with
  | 0 => e.addr % 2 ^ 32
  | 1 => e.addr / 2 ^ 32
  | 2 => e.data
  | _ => e.masked.toNat
/-- Write a dword of the table; a pending vector that is unmasked is sent at once. -/
def Chip.msixWrite (c : Chip) (i v : Nat) : Chip :=
  let k := i / 4
  let e := mapGet {} c.host.table k
  let e1 : MsixEntry := match i % 4 with
    | 0 => { e with addr := e.addr / 2 ^ 32 * 2 ^ 32 + v % 2 ^ 32 / 4 * 4 }
    | 1 => { e with addr := v % 2 ^ 32 * 2 ^ 32 + e.addr % 2 ^ 32 }
    | 2 => { e with data := v % 2 ^ 32 }
    | _ => { e with masked := v.testBit 0 }
  let fire := e1.pend && !e1.masked && !c.host.config.msixMask && c.host.config.msixEnable
  let c1 := { c with host := { c.host with table := mapSet {} c.host.table k (if fire then { e1 with pend := false } else e1) } }
  if fire then { c1 with host := { c1.host with memWr := c1.host.memWr ++ [(e1.addr, e1.data)] } } else c1
/-- A dword of the pending-bit array. -/
def msixPba (c : Chip) (i : Nat) : Nat := bitsOfFn (fun b => (mapGet {} c.host.table (32 * i + b)).pend) 32

end Sys2Proof.Machine
end

