-- ==== Sys2Proof/Machine/SealUnit.lean ====
section
/-!
DEFINITION. The Seal Unit's mailbox (R349 to R351), its commands, packages (R352 to R356), attestation (R357), sessions
(R358, R359), tamper and zeroisation (R361 to R364), and the xSPI controller's commands (R347).
-/
namespace Sys2Proof.Machine

/-! ### The mailbox (R349) -/

/-- Base of a channel's registers: false A, true B (R365). -/
def boxBase (b : Bool) : Nat := Reg.SEAL_CMD + (if b then 0x100 else 0)
/-- The command under way on a channel. -/
def boxOf (c : Chip) (b : Bool) : Option Mailbox := if b then c.su.boxB else c.su.boxA
/-- Set it. -/
def Chip.setBox (c : Chip) (b : Bool) (m : Option Mailbox) : Chip :=
  if b then { c with su := { c.su with boxB := m } } else { c with su := { c.su with boxA := m } }
/-- SEAL_STATE as it reads: LIFECYCLE follows the OTP (R365). -/
def sealStateWord (c : Chip) : Word := setFld (c.reg Reg.SEAL_STATE) 27 26 (lifecycle c)

/-- An argument of a command. -/
def argOf (args : List Nat) (i : Nat) : Nat := listGet 0 args i
/-- The 40-bit address in arguments i and i + 1. -/
def argAddr (args : List Nat) (i : Nat) : Nat := argOf args i + natBits (argOf args (i + 1)) 7 0 * 2 ^ 32
/-- Bytes as result words. -/
def wordsOfBytes (bs : List Byte) : List Nat := (List.range ((bs.length + 3) / 4)).map (fun i => leNat ((bs.drop (4 * i)).take 4))
/-- Arguments i to i + n − 1 as bytes. -/
def argBytes (args : List Nat) (i n : Nat) : List Byte := (List.range n).flatMap (fun k => leBytes 4 (argOf args (i + k)))

/-- What a command answers: STATUS, RSP0 to RSP7, and the chip after it. -/
structure SealAnswer where
  status : Nat
  rsp    : List Nat := []
  needs  : Option Nat := none
  waits  : Bool := false                -- the answer comes later (CUSTOMER_LOAD_DONE)
  later  : SealLater := .nothing        -- what is done at the completion, which then answers
  chip   : Chip

/-- An answer that only refuses. -/
def sealRefuse (c : Chip) (status : Nat) : SealAnswer := { status := status, chip := c }

/-! ### Images (R341, R343, R350) -/

/-- Fill the destination of a failed load with zeros (R341). -/
def Chip.zeroDestination (c : Chip) (h : List Byte) : Chip :=
  let n := hdrNat h 0x0C 4
  match hdrNat h 3 1 with
  | 1 | 6 => (c.dmaWrite (hdrNat h 0x10 8) (List.replicate n 0)).2
  | 4 | 5 => { c with su := { c.su with cstore := mapErase (hdrNat h 3 1) c.su.cstore } }
  | _ => c

/-- The effect of a payload that has passed check 6, on its destination: the mailbox STATUS. -/
def Chip.placePayload (c : Chip) (h bytes : List Byte) : Nat × Chip :=
  let typ := hdrNat h 3 1
  match typ with
  | 1 | 6 =>
    let r := c.dmaWrite (hdrNat h 0x10 8) bytes
    if r.1 then (0, r.2.noteLoaded typ h) else (stBusError, r.2.zeroDestination h)
  | 2 =>
    match vendorSections bytes with
    | .good ws es =>
      let c1 := (c.writeMicrocode ws es).vendorEntries.loadStat 2
      (0, ((c1.setBit Reg.ASQ_LOAD_STAT 31 true).setBit Reg.ASQ_QSTAT 29 true).noteLoaded typ h)
    | .bad st => (stBadFormat, c.loadStat st)
  | 4 | 5 =>
    (0, ({ c with su := { c.su with cstore := mapInsert typ bytes (mapErase typ c.su.cstore) } }).noteLoaded typ h)
  | _ => (0, c)

/-- A customer load that has passed check 1 (R136): the region is emptied and LOADING rises; the sections, the statuses and
the end follow at CUSTOMER_LOAD_DONE. (DESIGN CHOICE: log 64) -/
def Chip.customerLoad (c : Chip) (a : Nat) (h : List Byte) : Chip :=
  let c1 := (c.emptyCustomer.loadStat 1).setBit Reg.ASQ_QSTAT 28 true
  let st := headerStatus c1 h
  let img : LoadedImage := { svn := hdrNat h 8 4, header := h.take 0x400 }
  let put (c : Chip) (ws es : List (Nat × Word)) (stat verdict : Nat) : Chip :=
    { c with su := { c.su with
      load := some { words := ws, entries := es, status := stat, verdict := verdict, image := img } } }
  if st ≠ 0 then put c1 [] [] (loadStatOf st) st
  else
    let p := c1.readPayload a h
    match p.1 with
    | .bad st => put p.2 [] [] (loadStatOf st) st
    | .good bytes => match customerSections bytes with
      | .good ws es => put p.2 ws es 2 0
      | .bad stat => put p.2 [] [] stat stBadFormat

/-- Check 6 of R341 and the load itself: the mailbox STATUS (R588). -/
def Chip.loadPayload (c : Chip) (a : Nat) (h : List Byte) : Nat × Chip :=
  let micro := decide (hdrNat h 3 1 = 2)
  let p := c.readPayload a h
  match p.1 with
  | .bad st => (st, (if micro then p.2.loadStat (loadStatOf st) else p.2.zeroDestination h).raise 19)
  | .good bytes =>
    let r := p.2.placePayload h bytes
    (r.1, if r.1 = 0 then r.2 else r.2.raise 19)
/-- Load a container whose header has been read, after its expected TYPE has been found (R341, R588): checks 1 to 5 now, check 6 and
the load by the completion. From the start of check 6 of a vendor image ASQ_LOAD_STAT.STATUS shows 1. (DESIGN CHOICE: log 62) -/
def Chip.loadContainer (c : Chip) (a : Nat) (h : List Byte) : SealAnswer :=
  let typ := hdrNat h 3 1
  let micro := decide (typ = 2) || decide (typ = 3)
  let fail (c : Chip) (st : Nat) : SealAnswer := { status := st, chip := c.raise 19 }
  if !phaseAllows c typ (hdrOem h) || decide (typ = 3) && !c.bit Reg.ASQ_LOAD_STAT 31 then
    fail (if micro then c.loadStat 7 else c) stWrongPhase
  else if typ = 3 ∧ !queueIdle c then fail (c.loadStat 5) stWrongPhase
  else if typ = 3 then { status := 0, waits := true, chip := c.customerLoad a h }
  else
    let st := headerStatus c h
    if st ≠ 0 then fail (if micro then c.loadStat (loadStatOf st) else c) st
    else { status := 0, later := .payload a h, chip := if micro then c.loadStat 1 else c }

/-- The expected-TYPE checks of IMAGE_LOAD and VERIFY_IMAGE (R350): a header to go on with, or an answer. -/
def Chip.expectedHeader (c : Chip) (args : List Nat) : SealAnswer ⊕ (List Byte × Chip) :=
  let want := natBits (argOf args 2) 7 0
  if want = 0 ∨ 6 < want then .inl (sealRefuse c stBadArg) else
  let r := c.readHeader (argAddr args 0)
  match r.1 with
  | none => .inl { status := stBusError, chip := r.2.raise 19 }
  | some h => if hdrNat h 3 1 = want then .inr (h, r.2) else .inl (sealRefuse r.2 stBadArg)

/-- IMAGE_LOAD. A microcode container whose header cannot be read shows in ASQ_LOAD_STAT too (R588). (DEDUCED: log 60) -/
def imageLoad (c : Chip) (args : List Nat) : SealAnswer :=
  match c.expectedHeader args with
  | .inl a =>
    let want := natBits (argOf args 2) 7 0
    if a.status = stBusError ∧ (want = 2 ∨ want = 3) then { a with chip := a.chip.loadStat (loadStatOf stBusError) } else a
  | .inr (h, c1) => c1.loadContainer (argAddr args 0) h

/-- An IMAGE_LOAD to its end: the mailbox STATUS. -/
def imageLoadEnd (c : Chip) (args : List Nat) : Nat × Chip :=
  let a := imageLoad c args
  match a.later with
  | .payload at_ h => a.chip.loadPayload at_ h
  | _ => (a.status, a.chip)

/-- VERIFY_IMAGE: writes nothing. -/
def verifyImage (c : Chip) (args : List Nat) : SealAnswer :=
  match c.expectedHeader args with
  | .inl a => a
  | .inr (h, c1) =>
    let st := headerStatus c1 h
    if st ≠ 0 then { status := st, chip := c1.raise 19 } else
    let r := c1.dmaRead (argAddr args 0 + 0x600) (hdrNat h 0x0C 4)
    match r.1 with
    | none => { status := stBusError, chip := r.2.raise 19 }
    | some raw =>
      if sha raw = (h.drop 0x40).take 64 then { status := 0, rsp := [hdrNat h 8 4], chip := r.2 }
      else { status := 0x08, chip := r.2.raise 19 }

/-- SVN_COMMIT (R343). -/
def svnCommit (c : Chip) (args : List Nat) : SealAnswer :=
  match classCounter (natBits (argOf args 0) 7 0) with
  | none => sealRefuse c stBadArg
  | some k =>
    match c.su.loaded.reverse.find? (fun e => classCounter e.1 == some k) with
    | none => sealRefuse c stBadArg
    | some e => { status := 0, chip := if sealCounter c k < e.2.svn then c.setCounter k e.2.svn else c }

/-- BOOT_DONE (R344). -/
def bootDone (c : Chip) (_ : List Nat) : SealAnswer :=
  if c.su.bootDone then sealRefuse c stWrongPhase
  else { status := 0, chip := ({ c with su := { c.su with bootDone := true } }).setFld Reg.SEAL_STATE 31 28 2 }

/-! ### Attestation and certificates (R355, R357) -/

/-- The signing key of a report: none in BLANK and DECOMMISSIONED; SIGNER and the modulus. -/
def attestKey (c : Chip) : Option (Nat × List Byte) :=
  match lifecycle c with
  | 1 => some (0, c.su.priv.dik.getD [])
  | 2 => some (1, c.su.priv.dek.getD [])
  | _ => none

/-- Bytes 0x000 to 0x1FF of a report (R357). -/
def attestReport (c : Chip) (signer : Nat) (modulus nonce : List Byte) : List Byte :=
  let mode := if c.fld Reg.SYS_MODE 15 8 = 1 then 0xFF else c.fld Reg.SYS_MODE 7 0
  let programmed : (Nat → List Byte) → Nat := fun f => bitsOfFn (fun i => !blankBytes (f i)) 4
  let otp := natBits (otpRevoke c) 8 0 + programmed (rootSlot c) * 2 ^ 9 + programmed (debugSlot c) * 2 ^ 13 +
    (!blankBytes (otpBytes c 0x260 64)).toNat * 2 ^ 17 + (c.bit Reg.SEAL_STATE 25).toNat * 2 ^ 18
  let digest : Nat → List Byte := fun t => match c.su.loaded.find? (fun e => e.1 == t) with
    | some e => leBytes 48 (Config.sha384 e.2.header).toNat
    | none => List.replicate 48 0
  [0x41, 0x54, 0x01, BitVec.ofNat 8 signer, BitVec.ofNat 8 (lifecycle c), BitVec.ofNat 8 mode,
    BitVec.ofNat 8 ((c.bit Reg.DBG_AON 31).toNat + 2 * c.fld Reg.DBG_AON 30 29), BitVec.ofNat 8 c.deviceNo] ++
    otpSerial c ++ leBytes 8 c.tai.toNat ++ nonce ++ (List.range 8).flatMap (fun k => leBytes 8 (sealCounter c k)) ++
    leBytes 4 otp ++ List.replicate 12 0 ++ [1, 2, 3, 4, 5, 6].flatMap digest ++ sha (publicKey modulus) ++
    leBytes 4 c.su.selftest ++ List.replicate 12 0

/-- A signature as 512 bytes; the salt is a free value (R333). -/
def Chip.signBytes (c : Chip) (modulus msg : List Byte) : List Byte × Chip :=
  let q := c.drawBytes 64
  (beBytes 512 (Config.pssSign modulus msg q.1).toNat, q.2)

/-- ATTEST (R357). -/
def attest (c : Chip) (args : List Nat) : SealAnswer :=
  match attestKey c with
  | none => sealRefuse c stWrongPhase
  | some (signer, modulus) =>
    if !insideCommon c (argAddr args 2) 1024 then sealRefuse c stBadArg else
    let n := c.dmaRead (argAddr args 0) 32
    match n.1 with
    | none => sealRefuse n.2 stBusError
    | some nonce =>
      let c1 := n.2.setCounter 6 (sealCounter n.2 6 + 1)
      let msg := attestReport c1 signer modulus nonce
      let sig := c1.signBytes modulus msg
      let w := sig.2.dmaWrite (argAddr args 2) (msg ++ sig.1)
      { status := if w.1 then 0 else stBusError, chip := w.2 }

/-- GET_CERT (R350). -/
def getCert (c : Chip) (args : List Nat) : SealAnswer :=
  let item := match argOf args 0 with
    | 0 => c.su.priv.dekCert
    | 1 => c.su.priv.dikCert
    | 2 => c.su.priv.dik.map publicKey
    | _ => none
  match item with
  | none => sealRefuse c stBadArg
  | some bs =>
    if argOf args 3 < bs.length || !insideCommon c (argAddr args 1) bs.length then sealRefuse c stBadArg else
    let w := c.dmaWrite (argAddr args 1) bs
    if w.1 then { status := 0, rsp := [bs.length], chip := w.2 } else sealRefuse w.2 stBusError

/-! ### Sessions (R358, R359) -/

/-- Session i. -/
def sessionOf (c : Chip) (i : Nat) : Option Session := (c.su.sessions.find? (fun e => e.1 == i)).map Prod.snd
/-- Put session i. -/
def Chip.putSession (c : Chip) (i : Nat) (x : Session) : Chip :=
  { c with su := { c.su with sessions := mapInsert i x (mapErase i c.su.sessions) } }
/-- The first 16 bytes of an HMAC. -/
def mac16 (key msg : List Byte) : List Byte := (leBytes 64 (Config.hmac512 key msg).toNat).take 16

/-- SESSION_OPEN (R358): which free ID is given is not stated: a free value. (DESIGN CHOICE: log 59) -/
def sessionOpen (c : Chip) (args : List Nat) : SealAnswer :=
  match c.su.priv.fas with
  | none => sealRefuse c 0x0B
  | some fas =>
    if c.su.lockedAt.isSome then sealRefuse c 0x13
    else
      let ids := (List.range 16).filter (fun i => (sessionOf c i).isNone)
      if ids.isEmpty then sealRefuse c 0x10
      else
        let q := c.drawFree
        let id := listGet 0 ids (q.1.toNat % ids.length)
        let ns := q.2.drawBytes 16
        let nc := argBytes args 0 4
        let key := (leBytes 64 (Config.hmac512 fas ([0x53, 0x4C, 0x4E, 0x31] ++ otpSerial c ++ nc ++ ns.1)).toNat).take 32
        { status := 0, rsp := id :: wordsOfBytes ns.1
          chip := ns.2.putSession id { nc := nc, ns := ns.1, key := key, since := c.ns } }

/-- SESSION_AUTH (R358). (DESIGN CHOICE: log 59) -/
def sessionAuth (c : Chip) (args : List Nat) : SealAnswer :=
  let id := argOf args 0
  match sessionOf c id with
  | none => sealRefuse c 0x0D
  | some x =>
    if x.isOpen then sealRefuse c 0x0D
    else if mac16 x.key (1 :: (x.nc ++ x.ns)) = argBytes args 1 4 then
      let c1 := c.putSession id { x with isOpen := true, since := c.ns }
      { status := 0, rsp := wordsOfBytes (mac16 x.key (2 :: (x.ns ++ x.nc))), needs := some id
        chip := Chip.raise { c1 with su := { c1.su with fails := 0 } } 234 }
    else
      let n := c.su.fails + 1
      let c1 := c.dropSession id
      let c2 := if n = 8 then { c1 with su := { c1.su with fails := 0, lockedAt := some c1.ns } }
        else { c1 with su := { c1.su with fails := n } }
      { status := 0x0E, chip := c2.raise 25 }

/-- SESSION_CLOSE. -/
def sessionClose (c : Chip) (args : List Nat) : SealAnswer :=
  if (sessionOf c (argOf args 0)).isNone then sealRefuse c 0x0D
  else { status := 0, chip := c.dropSession (argOf args 0) }

/-- CHECK_MAC (R359) on a message and a MAC that have been read: its outcome. -/
def Chip.checkMac (c : Chip) (id seqNo : Nat) (msg mac : List Byte) : Nat × Chip :=
  match sessionOf c id with
  | none => (0x0D, c)
  | some x =>
    if !x.isOpen then (0x0D, c)
    else if (match x.seqLast with
      | some n => decide (seqNo ≤ n)
      | none => false) then (0x0F, c)
    else if mac16 x.key (leBytes 8 seqNo ++ msg) ≠ mac then (0x0E, c)
    else (0, c.putSession id { x with seqLast := some seqNo, since := c.ns })

/-- CHECK_MAC (R359). -/
def checkMac (c : Chip) (args : List Nat) : SealAnswer :=
  let id := argOf args 0
  let seqNo := argOf args 1 + argOf args 2 * 2 ^ 32
  match sessionOf c id with
  | none => sealRefuse c 0x0D
  | some x =>
    if !x.isOpen then sealRefuse c 0x0D
    else if (match x.seqLast with
      | some n => decide (seqNo ≤ n)
      | none => false) then { sealRefuse c 0x0F with needs := some id }
    else
      let m := c.dmaRead (argAddr args 3) (argOf args 5)
      let k := m.2.dmaRead (argAddr args 6) 16
      match m.1, k.1 with
      | some msg, some mac =>
        let r := k.2.checkMac id seqNo msg mac
        { status := r.1, needs := some id, chip := r.2 }
      | _, _ => { sealRefuse k.2 stBusError with needs := some id }

/-- MAKE_MAC (R359) over a message: the SEQ used and the MAC. -/
def Chip.makeMac (c : Chip) (id : Nat) (msg : List Byte) : Option (Nat × List Byte) × Chip :=
  match sessionOf c id with
  | none => (none, c)
  | some x =>
    if x.isOpen then (some (x.own, mac16 x.key (leBytes 8 x.own ++ msg)), c.putSession id { x with own := x.own + 1 })
    else (none, c)

/-- MAKE_MAC (R359). -/
def makeMac (c : Chip) (args : List Nat) : SealAnswer :=
  let id := argOf args 0
  let m := c.dmaRead (argAddr args 3) (argOf args 5)
  match sessionOf c id, m.1 with
  | none, _ => sealRefuse c 0x0D
  | some x, none => if x.isOpen then { sealRefuse m.2 stBusError with needs := some id } else sealRefuse c 0x0D
  | some _, some msg =>
    let r := m.2.makeMac id msg
    match r.1 with
    | none => sealRefuse c 0x0D
    | some (n, mac) =>
      { status := 0, rsp := [n % 2 ^ 32, n / 2 ^ 32] ++ wordsOfBytes mac, needs := some id, chip := r.2 }

/-! ### Zeroisation and packages (R352 to R356, R364) -/

/-- The serial number of a package fits this device (R352). -/
def packageSerial (c : Chip) (typ : Nat) (p : List Byte) : Bool :=
  decide (p.take 16 = otpSerial c) || decide (typ = 8) && blankBytes (p.take 16) || decide (typ = 0x0B)

/-- REVOKE (R352): an owner's package touches only its own bits and leaves it an unrevoked root slot. (DESIGN CHOICE: log 58) -/
def revokePackage (c : Chip) (oem : Bool) (p : List Byte) : Nat × Chip :=
  let mask := leNat ((p.drop 16).take 4)
  let allowed := if oem then 0x1FC else 0x003
  let after := otpRevoke c ||| mask
  if mask &&& allowed ≠ mask then (stBadArg, c)
  else if (ownerSlots oem).all (fun i => after.testBit i) then (0x11, c)
  else (0, c.otpProgram 0x2A0 (leBytes 4 mask))

/-- The OTP places and values that an ENROLL package programs (R352). -/
def enrollItems (p : List Byte) : List (Nat × List Byte) :=
  let mask := leNat ((p.drop 16).take 4)
  ((List.range 4).filter (fun i => mask.testBit i)).map (fun i => (0x60 + 64 * i, (p.drop (20 + 64 * i)).take 64)) ++
  ((List.range 4).filter (fun i => mask.testBit (4 + i))).map (fun i => (0x160 + 64 * i, (p.drop (276 + 64 * i)).take 64)) ++
  (if mask.testBit 8 then [(0x260, (p.drop 532).take 64)] else [])

/-- ENROLL (R352). -/
def enrollPackage (c : Chip) (oem : Bool) (p : List Byte) : Nat × Chip :=
  let mask := leNat ((p.drop 16).take 4)
  let allowed := if oem then 0x1F0 else 0x1FC
  let items := enrollItems p
  if mask &&& allowed ≠ mask then (stBadArg, c)
  else if items.any (fun e => !blankBytes (otpBytes c e.1 64) && decide (otpBytes c e.1 64 ≠ e.2)) then (stBadArg, c)
  else (0, items.foldl (fun c e => c.otpProgram e.1 e.2) c)

/-- MANUFACTURE, steps 1 and 2 (R353): SERIAL and PDK, and the DUS, which comes from the DRBG, a free value. -/
def manufacturePackage (c : Chip) (p : List Byte) : Nat × Chip :=
  if !blankBytes (otpSerial c) || !blankBytes (otpBytes c 0x40 32) then (stBadArg, c) else
  let c1 := (c.otpProgram 0x10 (p.take 16)).otpProgram 0x40 ((p.drop 16).take 32)
  let dus := c1.drawBytes 32
  (0, dus.2.otpProgram 0x20 dus.1)
/-- MANUFACTURE, steps 3 to 5 (R353): the private region key is derived, fresh records of the counters and the DIK are written, and
the lifecycle advances. The DIK's modulus comes from the DRBG, a free value. -/
def Chip.manufactureEnd (c : Chip) : Chip :=
  let c1 := (List.range 8).foldl (fun (d : Chip) k => d.setCounter k 0) c.deriveKey
  let m := c1.drawBytes 512
  ((m.2.setRecord 8 m.1).otpProgram 0x2A8 (sha (publicKey m.1))).otpProgram 0 [0xFF, 0xFF, 0xFF, 0xFF]

/-- DIK_CERT (R335, R354): a certificate with another exponent is BAD_KEY; one whose key is not the DIK's is BAD_ARG. -/
def dikCertPackage (c : Chip) (p : List Byte) : Nat × Chip :=
  let cert := (p.drop 20).take (leNat ((p.drop 16).take 4))
  match Config.certKey cert, c.su.priv.dik with
  | some k, some d =>
    if k.drop 512 ≠ [0, 1, 0, 1] then (0x05, c)
    else if k = publicKey d then (0, c.setRecord 12 cert)
    else (stBadArg, c)
  | some k, none => (if k.drop 512 ≠ [0, 1, 0, 1] then 0x05 else stBadArg, c)
  | none, _ => (stBadArg, c)

/-- Bytes 0x000 to 0x2FF of the DEK certificate (R355). -/
def dekCertBody (c : Chip) (fleet dek : List Byte) : List Byte :=
  [0x44, 0x43, 0x01, 0] ++ leBytes 4 (sealCounter c 5) ++ otpSerial c ++ leBytes 8 c.tai.toNat ++ fleet ++ publicKey dek ++
    List.replicate 60 0 ++ otpBytes c 0x2A8 64 ++ List.replicate 64 0

/-- May the device be provisioned now (R356)? -/
def quiescent (c : Chip) : Bool :=
  (List.range 32).all (fun s => !streamOn c s) && c.ev.sheafLog.isEmpty

/-- PROVISION, step 1 (R356): counter 5 rises. -/
def provisionPackage (c : Chip) : Nat × Chip :=
  if !quiescent c then (0x0C, c) else (0, c.setCounter 5 (sealCounter c 5 + 1))
/-- PROVISION, steps 2 to 8 (R356): the DEK's modulus comes from the DRBG, a free value. -/
def Chip.provisionEnd (c : Chip) (fleet fas : List Byte) : Chip :=
  let m := c.drawBytes 512
  let body := dekCertBody m.2 fleet m.1
  let sig := m.2.signBytes (c.su.priv.dik.getD []) body
  let c1 := (((sig.2.dropRecord 9).setRecord 9 m.1).setRecord 11 (body ++ sig.1)).setRecord 10 fas
  (c1.dropSessions.otpProgram 4 [0xFF, 0xFF, 0xFF, 0xFF]).raise 27

/-- The effect of a package whose container has passed R341: the STATUS, what its completion still does, and the chip. MANUFACTURE and
PROVISION take time: a loss before their completion leaves what their first steps have done. (DESIGN CHOICE: log 62) -/
def Chip.applyPayload (c : Chip) (typ : Nat) (oem : Bool) (p : List Byte) : Nat × SealLater × Chip :=
  let now (x : Nat × Chip) : Nat × SealLater × Chip := (x.1, .nothing, x.2)
  let then_ (x : Nat × Chip) (l : SealLater) : Nat × SealLater × Chip := (x.1, if x.1 = 0 then l else .nothing, x.2)
  if !packageSerial c typ p then (stBadArg, .nothing, c) else
  match typ with
  | 0x07 => then_ (provisionPackage c) (.provision ((p.drop 16).take 32) ((p.drop 48).take 32))
  | 0x08 => now (revokePackage c oem p)
  | 0x09 => (0, .nothing, c.zeroise false)
  | 0x0A => now (enrollPackage c oem p)
  | 0x0B => then_ (manufacturePackage c p) .manufacture
  | _ => now (dikCertPackage c p)

/-- APPLY_PACKAGE (R350, R341). A container of TYPE 0x01 to 0x06 is no package: BAD_ARG, as IMAGE_LOAD answers an
unexpected TYPE. (DESIGN CHOICE: log 58) -/
def applyPackage (c : Chip) (args : List Nat) : SealAnswer :=
  let a := argAddr args 0
  let r := c.readHeader a
  match r.1 with
  | none => { status := stBusError, chip := r.2.raise 19 }
  | some h =>
    let typ := hdrNat h 3 1
    if 1 ≤ typ ∧ typ ≤ 6 then sealRefuse r.2 stBadArg else
    let l := r.2.packageStatus a h
    if l.1 ≠ 0 then { status := l.1, chip := l.2.raise 19 } else
    let p := l.2.readPayload a h
    match p.1 with
    | .bad st => { status := st, chip := p.2.raise 19 }
    | .good bytes =>
      let x := p.2.applyPayload typ (hdrOem h) bytes
      { status := x.1, later := x.2.1, chip := x.2.2 }

/-! ### The command table (R350, R351) -/

/-- GET_INFO. -/
def getInfo (c : Chip) (_ : List Nat) : SealAnswer :=
  { status := 0
    rsp := wordsOfBytes (otpSerial c) ++ [(sealStateWord c).toNat, sealCounter c 5 % 2 ^ 32, sealCounter c 0 % 2 ^ 32,
      sealCounter c 0 / 2 ^ 32 % 2 ^ 32]
    chip := c }

/-- The work of a command on a channel (R350). VEH_SNAPSHOT does its work at its completion, whose TAI it takes. -/
def sealWork (b : Bool) (op : Nat) (c : Chip) (args : List Nat) : SealAnswer :=
  match b, op with
  | false, 0x01 => getInfo c args
  | false, 0x02 => imageLoad c args
  | false, 0x03 => verifyImage c args
  | false, 0x04 => svnCommit c args
  | false, 0x05 => bootDone c args
  | false, 0x10 => { status := 0, chip := c }
  | false, 0x11 => { status := 0, chip := c.markSheaves (fun st => (argOf args 0).testBit st) 2 }
  | false, 0x20 => attest c args
  | false, 0x21 => getCert c args
  | false, 0x22 => applyPackage c args
  | false, 0x23 => { status := 0, chip := c.dropSessions }
  | true, 0x30 => sessionOpen c args
  | true, 0x31 => sessionAuth c args
  | true, 0x32 => sessionClose c args
  | true, 0x40 => checkMac c args
  | true, 0x41 => makeMac c args
  | _, _ => sealRefuse c 0x01

/-- The work of a command begins: in the error state and when zeroised only GET_INFO is answered (R362, R364), but for ATTEST, whose own
rule says WRONG_PHASE in DECOMMISSIONED (R357). (DESIGN CHOICE: log 61; DEDUCED: log 155) -/
def sealBegin (c : Chip) (b : Bool) (op : Nat) (args : List Nat) : SealAnswer :=
  let info := !b && decide (op = 0x01)
  if lifecycle c = 3 ∧ !info ∧ !(!b && decide (op = 0x20)) then sealRefuse c 0x14
  else if sealState c = 3 ∧ !info then sealRefuse c 0x12
  else sealWork b op c args
/-- Has a stook the RSA engine, or is one due (R322)? -/
def rsaTaken (c : Chip) : Bool := c.ev.due || c.ev.signing.isSome
/-- Where a command reads its arguments in memory (R350): the addresses of what its DMA engine takes. -/
def sealReads (b : Bool) (op : Nat) (args : List Nat) : List Nat :=
  match b, op with
  | false, 0x02 => [argAddr args 0]
  | false, 0x03 => [argAddr args 0]
  | false, 0x20 => [argAddr args 0]
  | false, 0x22 => [argAddr args 0]
  | true, 0x40 => [argAddr args 3, argAddr args 6]
  | true, 0x41 => [argAddr args 3]
  | _, _ => []
/-- Does the flash controller hold reads that a command makes there (R347)? -/
def flashHolds (c : Chip) (as : List Nat) : Bool := xipHeld c && as.any (fun a => decide (a / 0x10000000 = 1))
/-- Has the held read come to its request timeout (R267, R347)? -/
def flashOver (c : Chip) (m : Mailbox) : Bool :=
  match m.flashAt with
  | some t => decide (t + nocTimeout c ≤ c.ns)
  | none => false
/-- A mailbox command that is under way, with what its work's first part answered. -/
def boxAfter (op tag : Nat) (args : List Nat) (a : SealAnswer) : Mailbox :=
  { op := op, tag := tag, args := args, needs := a.needs, later := a.later
    answer := if a.waits || decide (a.later ≠ .nothing) then none else some (a.status, a.rsp) }
/-- A write of SEAL_CMD (R349): discarded with OVERRUN while BUSY; otherwise the arguments are taken and the work begins. A command that
uses the RSA engine waits for a stook that is due or being signed (R322), and one that reads the flash while that is held (R347). (DESIGN CHOICE: log 61; DESIGN CHOICE: log 62) -/
def Chip.sealCmd (c : Chip) (b : Bool) (op tag : Nat) : Chip :=
  let base := boxBase b
  if !c.isOn .sealUnit || decide (sealState c = 0) then c
  else if c.bit (base + 4) 31 then c.setBit (base + 4) 29 true
  else
    let args := (List.range 8).map (fun i => (c.reg (base + 0x10 + 4 * i)).toNat)
    if (!b && usesRsa op && rsaTaken c) || flashHolds c (sealReads b op args) then
      (c.setBit (base + 4) 31 true).setBox b (some { op := op, tag := tag, args := args, later := .start, flashAt := some c.ns })
    else
      let a := sealBegin c b op args
      (a.chip.setBit (base + 4) 31 true).setBox b (some (boxAfter op tag args a))

/-- A command that waited begins once no stook holds the RSA engine (R322) and the flash is not held, or its read there has timed out:
EV103 (R267, R347). -/
def Chip.sealStart (c : Chip) (b : Bool) : Chip :=
  match boxOf c b with
  | some m =>
    let held := flashHolds c (sealReads b m.op m.args)
    if m.later ≠ .start ∨ !b && usesRsa m.op && rsaTaken c ∨ held && !flashOver c m then c else
    let a := sealBegin (c.raiseIf held 103) b m.op m.args
    a.chip.setBox b (some (boxAfter m.op m.tag m.args a))
  | none => c
/-- What a command still has to do before it completes is done. -/
def Chip.sealFinish (c : Chip) (b : Bool) : Chip :=
  match boxOf c b with
  | none => c
  | some m =>
    let put (d : Chip) (st : Nat) : Chip := d.setBox b (some { m with later := .nothing, answer := some (st, []) })
    match m.later with
    | .nothing => c
    | .start => c
    | .payload a h =>
      let held := flashHolds c [a]
      if held && !flashOver c m then c.setBox b (some { m with flashAt := some (m.flashAt.getD c.ns) }) else
      let r := (c.raiseIf held 103).loadPayload a h
      put r.2 r.1
    | .manufacture => put c.manufactureEnd 0
    | .provision fleet fas => put (c.provisionEnd fleet fas) 0
/-- A mailbox command completes (R349): one that waited begins, its last work is done, and its answer is written. With the Seal Unit's
domain off nothing is left of it (R23). (DESIGN CHOICE: log 62) -/
def Chip.sealComplete (c0 : Chip) (b : Bool) : Chip :=
  if !c0.isOn .sealUnit then c0 else
  let c := (c0.sealStart b).sealFinish b
  match boxOf c b with
  | none => c
  | some m =>
    match m.answer with
    | none => c
    | some (st0, rsp) =>
      let base := boxBase b
      let gone := match m.needs with
        | some id => (sessionOf c id).isNone
        | none => false
      let st := if gone then 0x0D else st0
      let rs := listFit 0 8 (if gone then [] else rsp)
      let snap : VehSnapshot := { speed := natBits (argOf m.args 0) 15 0, doors := natBits (argOf m.args 0) 23 16
                                  lat := argOf m.args 1, lon := argOf m.args 2, tai := c.tai.toNat }
      let c1 := if !b && m.op == 0x10 && st == 0 then { c with su := { c.su with vehicle := some snap } } else c
      let c2 := (((c1.setBit (base + 4) 31 false).setBit (base + 4) 30 true).setFld (base + 4) 23 16 m.tag).setFld (base + 4) 7 0 st
      let c3 := ((List.range 8).zip rs).foldl (fun c e => c.setReg (base + 0x30 + 4 * e.1) (BitVec.ofNat 32 e.2)) c2
      (c3.setBox b none).raiseIf (!b) 18

/-- A SEAL_CMD write by its own row, at the channel's register (R32). -/
def sealRow (b : Bool) (op : Nat) (tag : Byte) (s : State) : Host.Outcome State Fault Refusal :=
  regRun (boxBase b) (fun c => c.sealCmd b op tag.toNat) s

/-- GET_INFO (R350). -/
def execGetInfo (tag : Byte) (s : State) : Host.Outcome State Fault Refusal := sealRow false 0x01 tag s
/-- IMAGE_LOAD (R341). -/
def execImageLoad (tag : Byte) (s : State) : Host.Outcome State Fault Refusal := sealRow false 0x02 tag s
/-- VERIFY_IMAGE (R350). -/
def execVerifyImage (tag : Byte) (s : State) : Host.Outcome State Fault Refusal := sealRow false 0x03 tag s
/-- SVN_COMMIT (R343). -/
def execSvnCommit (tag : Byte) (s : State) : Host.Outcome State Fault Refusal := sealRow false 0x04 tag s
/-- BOOT_DONE (R344). -/
def execBootDone (tag : Byte) (s : State) : Host.Outcome State Fault Refusal := sealRow false 0x05 tag s
/-- VEH_SNAPSHOT (R350). -/
def execVehSnapshot (tag : Byte) (s : State) : Host.Outcome State Fault Refusal := sealRow false 0x10 tag s
/-- TRIGGER (R350). -/
def execTrigger (tag : Byte) (s : State) : Host.Outcome State Fault Refusal := sealRow false 0x11 tag s
/-- ATTEST (R357). -/
def execAttest (tag : Byte) (s : State) : Host.Outcome State Fault Refusal := sealRow false 0x20 tag s
/-- GET_CERT (R350). -/
def execGetCert (tag : Byte) (s : State) : Host.Outcome State Fault Refusal := sealRow false 0x21 tag s
/-- SESSION_CLOSE_ALL (R350). -/
def execSessionCloseAll (tag : Byte) (s : State) : Host.Outcome State Fault Refusal := sealRow false 0x23 tag s
/-- SESSION_OPEN (R358). -/
def execSessionOpen (tag : Byte) (s : State) : Host.Outcome State Fault Refusal := sealRow true 0x30 tag s
/-- SESSION_AUTH (R358). -/
def execSessionAuth (tag : Byte) (s : State) : Host.Outcome State Fault Refusal := sealRow true 0x31 tag s
/-- SESSION_CLOSE (R350). -/
def execSessionClose (tag : Byte) (s : State) : Host.Outcome State Fault Refusal := sealRow true 0x32 tag s
/-- CHECK_MAC (R359). -/
def execCheckMac (tag : Byte) (s : State) : Host.Outcome State Fault Refusal := sealRow true 0x40 tag s
/-- MAKE_MAC (R359). -/
def execMakeMac (tag : Byte) (s : State) : Host.Outcome State Fault Refusal := sealRow true 0x41 tag s
/-- SEAL_BAD_OP (R350): an OP that the channel does not list. -/
def execSealBadOp (b : Bool) (op tag : Byte) (s : State) : Host.Outcome State Fault Refusal := sealRow b op.toNat tag s
/-- SEAL_CMD_COMPLETE (R349). -/
def execSealCmdComplete (b : Bool) (s : State) : Host.Outcome State Fault Refusal := run (fun c => c.sealComplete b) s

/-- The TYPE of the container that ARG0 and ARG1 of channel A name. -/
def namedType (c : Chip) : Option Nat :=
  ((c.readHeader ((c.reg (Reg.SEAL_ARGn 0)).toNat + c.fld (Reg.SEAL_ARGn 1) 7 0 * 2 ^ 32)).1).map (fun h => hdrNat h 3 1)
/-- APPLY_PACKAGE for a container of one TYPE. -/
def packageRow (typ : Nat) (tag : Byte) (s : State) : Host.Outcome State Fault Refusal :=
  regRun (boxBase false) (fun c => if namedType c = some typ then c.sealCmd false 0x22 tag.toNat else c) s
/-- PROVISION (R356). -/
def execProvision (tag : Byte) (s : State) : Host.Outcome State Fault Refusal := packageRow 0x07 tag s
/-- REVOKE (R352). -/
def execRevoke (tag : Byte) (s : State) : Host.Outcome State Fault Refusal := packageRow 0x08 tag s
/-- DECOMMISSION (R364). -/
def execDecommission (tag : Byte) (s : State) : Host.Outcome State Fault Refusal := packageRow 0x09 tag s
/-- ENROLL (R352). -/
def execEnroll (tag : Byte) (s : State) : Host.Outcome State Fault Refusal := packageRow 0x0A tag s
/-- MANUFACTURE (R353). -/
def execManufacture (tag : Byte) (s : State) : Host.Outcome State Fault Refusal := packageRow 0x0B tag s
/-- DIK_CERT (R354). -/
def execDikCert (tag : Byte) (s : State) : Host.Outcome State Fault Refusal := packageRow 0x0C tag s

/-- CUSTOMER_LOAD_DONE (R136, R588): the sections are written where every check passed, the statuses are set, LOADING
clears, EV84. -/
def execCustomerLoadDone (s : State) : Host.Outcome State Fault Refusal :=
  run (fun c =>
    if !c.isOn .sealUnit then c else
    match c.su.load with
    | none => c
    | some l =>
      let c1 := if l.status = 2 then c.writeMicrocode l.words l.entries else c
      let c2 := if l.status = 2 then
          { c1 with su := { c1.su with loaded := c1.su.loaded.filter (fun e => decide (e.1 ≠ 3)) ++ [(3, l.image)] } }
        else c1.raise 19
      let c3 := ((c2.loadStat l.status).setBit Reg.ASQ_QSTAT 28 false).raise 84
      let box := c3.su.boxA.map (fun m => if m.op = 0x02 then { m with answer := some (l.verdict, []) } else m)
      { c3 with su := { c3.su with load := none, boxA := box } }) s

/-! ### Tests, tamper, timeouts (R358, R359, R361, R363) -/

/-- CONDITIONAL_TEST_FAIL (R361). -/
def execConditionalTestFail (s : State) : Host.Outcome State Fault Refusal :=
  run (fun c => if c.isOn .sealUnit then c.sealError 0x02 else c) s
/-- SOFT_TAMPER (R363). -/
def execSoftTamper (s : State) : Host.Outcome State Fault Refusal :=
  run (fun c => if c.isOn .sealUnit then (c.raise 17).sealError 0x06 else c) s
/-- HARD_TAMPER (R363, R364). -/
def execHardTamper (s : State) : Host.Outcome State Fault Refusal :=
  run (fun c => if c.isOn .sealUnit then (c.raise 17).zeroise true else c) s
/-- The sessions that satisfy a condition go. -/
def Chip.dropWhere (c : Chip) (f : Session → Bool) : Chip :=
  (c.su.sessions.filter (fun e => f e.2)).foldl (fun (d : Chip) (e : Nat × Session) => d.dropSession e.1) c
/-- SESSION_AUTH_TIMEOUT (R358). -/
def execSessionAuthTimeout (s : State) : Host.Outcome State Fault Refusal :=
  run (fun c => c.dropWhere (fun x => !x.isOpen && decide (x.since + 10000000000 ≤ c.ns))) s
/-- SESSION_IDLE_TIMEOUT (R359). -/
def execSessionIdleTimeout (s : State) : Host.Outcome State Fault Refusal :=
  run (fun c => c.dropWhere (fun x => x.isOpen && decide (x.since + 300000000000 ≤ c.ns))) s
/-- LOCKOUT_END (R358). -/
def execLockoutEnd (s : State) : Host.Outcome State Fault Refusal :=
  run (fun c => match c.su.lockedAt with
    | some t => if t + 60000000000 ≤ c.ns then { c with su := { c.su with lockedAt := none } } else c
    | none => c) s

/-! ### The xSPI command interface (R347, R348) -/

/-- A write of XSPI_CMD.GO (R347). -/
def Chip.xspiGo (c : Chip) : Chip :=
  if c.xspi.running then c
  else if c.bit Reg.XSPI_CTL 31 then ({ c with xspi := { c.xspi with running := true } }).setBit Reg.XSPI_CMD 31 true
  else c.setBit Reg.XSPI_CMD 29 true
/-- XSPI_GO (R347). -/
def execXspiGo (s : State) : Host.Outcome State Fault Refusal := run Chip.xspiGo s

/-- XSPI_LEN (R348): values above 256 act as 256. -/
def xspiLen (c : Chip) : Nat := Nat.min 256 (c.fld Reg.XSPI_LEN 8 0)
/-- Put bytes into XSPI_BUF from byte 0. -/
def Chip.xspiBuf (c : Chip) (bs : List Byte) : Chip :=
  ((List.range bs.length).zip bs).foldl (fun c e =>
    c.setFld (Reg.XSPI_BUFw (e.1 / 4)) (8 * (e.1 % 4) + 7) (8 * (e.1 % 4)) e.2.toNat) c
/-- XSPI_DONE (R347): `data` is what the flash device returned, `changed` the flash bytes that the operation changed: the
device's own behaviour. -/
def execXspiDone (data : List Byte) (changed : List (BitVec 28 × Byte)) (s : State) : Host.Outcome State Fault Refusal :=
  run (fun c =>
    if !c.xspi.running then c else
    let c1 := if c.bit Reg.XSPI_CMD 28 then c else c.xspiBuf (listFit 0 (xspiLen c) data)
    let c2 := changed.foldl (fun c e => c.wr8 (0x10000000 + e.1.toNat) e.2) c1
    (({ c2 with xspi := { c2.xspi with running := false } }).setBit Reg.XSPI_CMD 31 false).setBit Reg.XSPI_CMD 30 true) s

end Sys2Proof.Machine
end

