-- ==== Sys2Proof/Machine/Ethernet.lean ====
section
/-!
DEFINITION. The two Ethernet MACs (R413 to R415): frames received and sent through the rings, timestamps, tags and checksums,
and what is steered to the Object Dictionary Engine.
-/
namespace Sys2Proof.Machine

/-- MAC m. -/
def ethMac (c : Chip) (m : Nat) : EthMac := mapGet {} c.eth m
/-- Change MAC m. -/
def Chip.onMac (c : Chip) (m : Nat) (f : EthMac → EthMac) : Chip := { c with eth := mapSet {} c.eth m (f (ethMac c m)) }
/-- Is MAC m on (R424): EN, and a speed that its interface can carry? -/
def macOn (c : Chip) (m : Nat) : Bool :=
  let sp := c.fld (Reg.ETH_CTL m) 30 28
  c.isOn (.ethernet m) && c.bit (Reg.ETH_CTL m) 31 && decide (sp < 6) && (c.bit (Reg.ETH_CTL m) 27 == decide (3 ≤ sp))
/-- The frame limit (R424). -/
def macMaxLen (c : Chip) (m : Nat) : Nat := Nat.min 9216 (c.fld (Reg.ETH_CTL m) 13 0)

/-! ### Frames as bytes: Ethernet II, IEEE 802.1Q, IPv4, IPv6, UDP -/

/-- A big-endian number in a frame. -/
def beAt (f : List Byte) (i n : Nat) : Nat := beNat ((f.drop i).take n)
/-- Does the frame carry a tag? -/
def tagged (f : List Byte) : Bool := decide (beAt f 12 2 = 0x8100)
/-- The offset of the Ethertype after a tag. -/
def typeAt (f : List Byte) : Nat := if tagged f then 16 else 12
/-- The offset of the UDP header of an unfragmented IPv4 packet, or of an IPv6 packet without extension headers. -/
def udpAt (f : List Byte) : Option Nat :=
  let t := typeAt f
  let p := t + 2
  if beAt f t 2 = 0x0800 ∧ beAt f p 1 / 16 = 4 ∧ beAt f (p + 9) 1 = 17 ∧ beAt f (p + 6) 2 % 0x4000 = 0 then
    some (p + 4 * (beAt f p 1 % 16))
  else if beAt f t 2 = 0x86DD ∧ beAt f p 1 / 16 = 6 ∧ beAt f (p + 6) 1 = 17 then some (p + 40)
  else none
/-- Is the packet addressed to MAC m's address of R424 (zero: no steering)? -/
def toThisMac (c : Chip) (m : Nat) (f : List Byte) : Bool :=
  let p := typeAt f + 2
  if beAt f (typeAt f) 2 = 0x0800 then
    let a := (c.reg (Reg.ETH_IPV4 m)).toNat
    decide (a ≠ 0) && decide (beAt f (p + 16) 4 = a)
  else
    let a := (List.range 4).flatMap (fun k => leBytes 4 (c.reg (Reg.ETH_IPV6k m k)).toNat)
    a.any (fun b => decide (b ≠ 0)) && decide ((f.drop (p + 24)).take 16 = a)
/-- The datagram that a frame brings to the engine (R415): with the client's MAC address, tag, network address and port. -/
def odDatagramOf (c : Chip) (m : Nat) (f : List Byte) : Option OdDatagram :=
  match udpAt f with
  | none => none
  | some u =>
    if beAt f 0 1 % 2 = 0 ∧ beAt f (u + 2) 2 = 21570 ∧ toThisMac c m f then
      let p := typeAt f + 2
      let ip := if beAt f (typeAt f) 2 = 0x0800 then (f.drop (p + 12)).take 4 else (f.drop (p + 8)).take 16
      let vlan := if tagged f then (f.drop 12).take 4 else []
      some { mac := m, src := (f.drop 6).take 6 ++ vlan ++ ip ++ (f.drop u).take 2
             payload := (f.drop (u + 8)).take (beAt f (u + 4) 2 - 8) }
    else none

/-- The UDP header behind the extension headers of an IPv6 packet: `next` is the header at offset o, of the kinds hop-by-hop options,
routing, destination options, fragment (a first one) and authentication. (PRESUMED: log 184) -/
def udpBehind (f : List Byte) : Nat → Nat → Nat → Option Nat
  | 0, _, _ => none
  | fuel + 1, next, o =>
    if next = 17 then some o
    else if next = 0 ∨ next = 43 ∨ next = 60 then udpBehind f fuel (beAt f o 1) (o + 8 * (beAt f (o + 1) 1 + 1))
    else if next = 44 then (if beAt f (o + 2) 2 / 8 = 0 then udpBehind f fuel (beAt f o 1) (o + 8) else none)
    else if next = 51 then udpBehind f fuel (beAt f o 1) (o + 4 * (beAt f (o + 1) 1 + 2))
    else none
/-- The offset of the UDP header of any packet that holds one: a first IPv4 fragment and extension headers too. (PRESUMED: log 184) -/
def udpAnywhere (f : List Byte) : Option Nat :=
  let t := typeAt f
  let p := t + 2
  if beAt f t 2 = 0x0800 ∧ beAt f p 1 / 16 = 4 ∧ beAt f (p + 9) 1 = 17 ∧ beAt f (p + 6) 2 % 0x2000 = 0 then
    some (p + 4 * (beAt f p 1 % 16))
  else if beAt f t 2 = 0x86DD ∧ beAt f p 1 / 16 = 6 then udpBehind f f.length (beAt f (p + 6) 1) (p + 40)
  else none
/-- The timestamp of a received frame, or none (R414): Ethertype 0x88F7, or UDP destination port 319 or 320. -/
def rxStamped (f : List Byte) : Bool :=
  decide (beAt f (typeAt f) 2 = 0x88F7) ||
    (match udpAnywhere f with
     | some u => decide (beAt f (u + 2) 2 = 319) || decide (beAt f (u + 2) 2 = 320)
     | none => false)
/-- A timestamp: the Timebase at the start-of-frame delimiter plus a signed offset of ETH_TSOFS. -/
def ethStamp (sof : DWord) (ofs : Nat) : Nat := wrapInt 64 ((sof.toNat : Int) + toSigned 16 ofs)

/-! ### Reception -/

/-- Post a received frame to the RX ring (R414); a frame that finds the ring full is lost. (DESIGN CHOICE: log 77) -/
def Chip.ethPost (c : Chip) (m : Nat) (f : List Byte) (err : Bool) (sof : DWord) : Chip :=
  let r := Reg.ETHRX_BASE_LO m
  if ringFull c r then c else
  let e := ringEntry c r 16 (ringTail c r)
  let x := c.blockRead e 16
  match x.1 with
  | none => x.2
  | some d =>
    let w1 := leNat ((d.drop 4).take 4)
    let addr := leNat (d.take 4) + natBits w1 23 16 * 2 ^ 32
    let strip := tagged f && c.bit (Reg.ETH_CTL m) 26
    let g := (if strip then f.take 12 ++ f.drop 16 else f).take (macMaxLen c m)
    let ts := rxStamped f
    let w := (ringPhase c r).toNat * 2 ^ 31 + ts.toNat * 2 ^ 30 + strip.toNat * 2 ^ 29 + err.toNat * 2 ^ 28 +
      natBits w1 23 16 * 2 ^ 16 + g.length
    let back := leBytes 4 w ++ (if ts then leBytes 8 (ethStamp sof (c.fld (Reg.ETH_TSOFS m) 31 16)) else (d.drop 8).take 8)
    let c1 := (x.2.blockWriteLong 4 addr g).2
    (((c1.blockStore (e + 4) back).2).ringProduced r).raise (194 + m)

/-- A datagram is dropped (R417): ETH_ODDROP, EV196. -/
def Chip.odDrop (c : Chip) (m : Nat) : Chip := (c.countFld (Reg.ETH_ODDROP m) 15 0 1).raise 196

/-- The quanta of an IEEE 802.3 PAUSE frame (R413), none for any other frame. (PRESUMED: log 184) -/
def pauseOf (f : List Byte) : Option Nat :=
  if beAt f 0 6 = 0x0180C2000001 ∧ beAt f 12 2 = 0x8808 ∧ beAt f 14 2 = 1 then some (beAt f 16 2) else none
/-- The rate of MAC m in Mb/s (R424). -/
def macRate (c : Chip) (m : Nat) : Nat := listGet 10 [10, 100, 1000, 2500, 5000, 10000] (c.fld (Reg.ETH_CTL m) 30 28)
/-- ETH_RX_FRAME (R414, R415): the bytes without FCS, whether the FCS is wrong, and the Timebase at the frame's start.
A PAUSE frame stops transmission for its quanta of 512 bit times (R413). -/
def execEthRxFrame (m : Fin 2) (f : List Byte) (badFcs : Bool) (sof : DWord) (s : State) : Host.Outcome State Fault Refusal :=
  run (fun c =>
    if !macOn c m.val || !(ethMac c m.val).linkUp then c else
    let err := badFcs || decide (macMaxLen c m.val < f.length)
    match if err then none else pauseOf f with
    | some q => c.onMac m.val (fun x => { x with pausedTo := c.ns + q * 512000 / macRate c m.val })
    | none =>
    match if err then none else odDatagramOf c m.val f with
    | some d =>
      if (ethMac c m.val).odq.length < 16 then c.onMac m.val (fun x => { x with odq := x.odq ++ [d] }) else c.odDrop m.val
    | none => c.ethPost m.val f err sof) s

/-! ### Transmission -/

/-- The ones' complement sum of 16-bit big-endian words. -/
def onesSum : List Byte → Nat
  | [] => 0
  | [a] => a.toNat * 256
  | a :: b :: t => a.toNat * 256 + b.toNat + onesSum t
/-- The Internet checksum of bytes. -/
def inetSum (bs : List Byte) : Nat :=
  let fold : Nat → Nat := fun x => x % 65536 + x / 65536
  65535 - fold (fold (fold (onesSum bs)))
/-- Replace two bytes of a frame. -/
def put16 (f : List Byte) (i v : Nat) : List Byte := f.take i ++ beBytes 2 v ++ f.drop (i + 2)
/-- Insert the transport checksum of a UDP (17) or TCP (6) segment at offset u, its pseudo-header beginning with the addresses. -/
def put4sum (f : List Byte) (u n proto : Nat) (addrs : List Byte) : List Byte :=
  let at_ := if proto = 17 then u + 6 else u + 16
  let g := put16 f at_ 0
  let v := inetSum (addrs ++ beBytes 2 proto ++ beBytes 2 n ++ (g.drop u).take n)
  put16 g at_ (if v = 0 ∧ proto = 17 then 65535 else v)
/-- Insert the IPv4 header, UDP and TCP checksums (R413). -/
def withChecksums (f : List Byte) : List Byte :=
  let t := typeAt f
  let p := t + 2
  if beAt f t 2 = 0x0800 ∧ beAt f p 1 / 16 = 4 then
    let h := 4 * (beAt f p 1 % 16)
    let z := put16 f (p + 10) 0
    let g := put16 z (p + 10) (inetSum ((z.drop p).take h))
    let proto := beAt f (p + 9) 1
    if (proto = 17 ∨ proto = 6) ∧ beAt f (p + 6) 2 % 0x4000 = 0 then
      put4sum g (p + h) (beAt f (p + 2) 2 - h) proto ((f.drop (p + 12)).take 8)
    else g
  else if beAt f t 2 = 0x86DD ∧ (beAt f (p + 6) 1 = 17 ∨ beAt f (p + 6) 1 = 6) then
    put4sum f (p + 40) (beAt f (p + 4) 2) (beAt f (p + 6) 1) ((f.drop (p + 8)).take 32)
  else f

/-- Send the descriptor at the head of TX ring r (R414): a frame whose buffer cannot be read, or that is too long, completes with ERR.
(DESIGN CHOICE: log 77) -/
def Chip.ethSend (c : Chip) (m r : Nat) (sof : DWord) : Chip :=
  let e := ringEntry c r 16 (ringHead c r)
  let x := c.blockRead e 16
  match x.1 with
  | none => x.2
  | some d =>
    let w1 := leNat ((d.drop 4).take 4)
    let len := w1 % 65536
    let b := x.2.blockReadLong 18 (leNat (d.take 4) + natBits w1 23 16 * 2 ^ 32) len
    let ok := b.2.1 && decide (0 < len) && decide (len ≤ macMaxLen c m)
    let tag := leNat ((d.drop 8).take 2)
    let f0 := if w1.testBit 29 then b.1.take 12 ++ [0x81, 0x00] ++ beBytes 2 tag ++ b.1.drop 12 else b.1
    let w := (ringPhase c r).toNat * 2 ^ 31 + (!ok).toNat * 2 ^ 28 + w1 % 2 ^ 28 + natBits w1 30 29 * 2 ^ 29
    let ts := w1.testBit 30 && ok
    let back := leBytes 4 w ++ (if ts then leBytes 8 (ethStamp sof (c.fld (Reg.ETH_TSOFS m) 15 0)) else (d.drop 8).take 8)
    let c1 := if ok then b.2.2.onMac m (fun y => { y with sent := y.sent ++ [withChecksums f0] }) else b.2.2
    (((c1.blockStore (e + 4) back).2).ringCompleted r).raise (194 + m)
/-- A UDP datagram of the part's own leaves MAC m (R415, R555): to a MAC address, with a tag (four bytes or none), to an IPv4 or IPv6
address (by its length), from the MAC's own addresses. What no rule gives of the IP header is free. (DESIGN CHOICE: log 185) -/
def Chip.udpSend (c : Chip) (m : Nat) (dst vlan ip : List Byte) (sport dport : Nat) (payload : List Byte) : Chip :=
  if !macOn c m || !(ethMac c m).linkUp then c else
  let q := c.drawBytes 4
  let r : Nat → Nat := fun i => (listGet 0 q.1 i).toNat
  let udp := beBytes 2 sport ++ beBytes 2 dport ++ beBytes 2 (8 + payload.length) ++ [0, 0] ++ payload
  let net := if ip.length = 4 then
      beBytes 2 0x0800 ++ beBytes 1 0x45 ++ beBytes 1 (r 0) ++ beBytes 2 (20 + udp.length) ++ beBytes 2 (r 1 * 256 + r 2) ++ [0, 0] ++
        beBytes 1 (r 3) ++ [17, 0, 0] ++ beBytes 4 (c.reg (Reg.ETH_IPV4 m)).toNat ++ ip
    else
      beBytes 2 0x86DD ++ beBytes 4 (6 * 2 ^ 28 + r 0 * 2 ^ 16 + r 1 * 256 + r 2) ++ beBytes 2 udp.length ++ [17] ++ beBytes 1 (r 3) ++
        (List.range 4).flatMap (fun k => leBytes 4 (c.reg (Reg.ETH_IPV6k m k)).toNat) ++ ip
  q.2.onMac m (fun x => { x with sent := x.sent ++ [withChecksums (dst ++ beBytes 6 (Config.macAddr m).toNat ++ vlan ++ net ++ udp)] })
/-- ETH_TX_FRAME (R414): the second TX ring is served first. -/
def execEthTxFrame (m : Fin 2) (sof : DWord) (s : State) : Host.Outcome State Fault Refusal :=
  run (fun c =>
    if !macOn c m.val || !(ethMac c m.val).linkUp || decide (c.ns < (ethMac c m.val).pausedTo) then c
    else if !ringEmpty c (Reg.ETHTXB_BASE_LO m.val) then c.ethSend m.val (Reg.ETHTXB_BASE_LO m.val) sof
    else if !ringEmpty c (Reg.ETHTX_BASE_LO m.val) then c.ethSend m.val (Reg.ETHTX_BASE_LO m.val) sof
    else c) s

/-- ETH_LINK_CHANGE (R425). -/
def execEthLinkChange (m : Fin 2) (up : Bool) (s : State) : Host.Outcome State Fault Refusal :=
  run (fun c =>
    if (ethMac c m.val).linkUp == up then c else (c.onMac m.val (fun x => { x with linkUp := up })).raise (192 + m.val)) s
/-- ODDROP_READ (R424). -/
def execOddropRead (m : Fin 2) (s : State) : Host.Outcome State Fault Refusal :=
  regRun (Reg.ETH_ODDROP m.val) (fun c => (c.respond (respOk (c.reg (Reg.ETH_ODDROP m.val)).toNat)).setFld (Reg.ETH_ODDROP m.val) 15 0 0) s

end Sys2Proof.Machine
end

