-- ==== Sys2Proof/Machine/Trace.lean ====
section
/-!
DEFINITION. Trace (R552 to R555): the stimulus ports, the sinks, the Reel, the Ethernet sink's datagrams.
-/
namespace Sys2Proof.Machine

/-- Put one packet into the Reel at its next place. -/
def Trace.record (t : Trace) (p : TracePacket) : Trace :=
  { t with
    reel := mapSet { typ := 0 } t.reel t.reelNext p
    reelNext := (t.reelNext + 1) % 32768
    reelCnt := stickAt 32768 (t.reelCnt + 1) }

/-- A packet's 16 bytes (R553). -/
def packetBytes (p : TracePacket) : List Byte :=
  leBytes 1 p.typ ++ leBytes 1 p.src ++ leBytes 1 p.size ++ leBytes 1 p.flags ++ leBytes 4 p.data ++ leBytes 8 p.time.toNat
/-- The header and packets of a datagram (R555). -/
def traceDatagram (d : Nat × List TracePacket) : List Byte :=
  [0x54, 0x52, 1] ++ leBytes 1 d.2.length ++ leBytes 4 d.1 ++ d.2.flatMap packetBytes
/-- The datagram collected so far goes out (R555): its header and packets, from MAC DBG_TRACE_CTL.MAC and port 21571 to DBG_TRACE_DEST.
(DESIGN CHOICE: log 185) -/
def Chip.traceSend (c : Chip) (ps : List TracePacket) : Chip :=
  let t := c.trace
  let m := c.fld Reg.DBG_TRACE_CTL 4 4
  let ip := c.reg Reg.DBG_TRACE_DEST_IP
  Chip.udpSend { c with trace := { t with dgram := [], dseq := (t.dseq + 1) % 2 ^ 32, sent := t.sent ++ [(t.dseq, ps)] } } m
    (beBytes 6 (Config.nextHop m ip).toNat) [] (beBytes 4 ip.toNat) 21571 (c.fld Reg.DBG_TRACE_DEST_PORT 15 0)
    (traceDatagram (t.dseq, ps))
/-- Give one packet to the sink (R554, R555). -/
def Chip.tracePut (c : Chip) (p : TracePacket) : Chip :=
  let t := c.trace
  match traceSink c with
  | 1 => { c with trace := { t.record p with wrapped := t.wrapped || decide (t.reelCnt = 32768) } }
  | 2 =>
    if t.full then { c with trace := { t with lost := t.lost + 1 } }
    else
      let last := decide (32768 ≤ t.reelCnt + 1)
      Chip.raiseIf { c with trace := { t.record p with full := last } } last 245
  | 3 => { c with trace := { t with pins := t.pins ++ [p] } }
  | 4 =>
    if 64 ≤ t.dgram.length + 1 then c.traceSend (t.dgram ++ [p])
    else
      { c with trace := { t with dgram := t.dgram ++ [p], dgramAt := if t.dgram.isEmpty then c.ns else t.dgramAt } }
  | _ => c

/-- Entries of port p's FIFO (R552). -/
def stimCount (c : Chip) (p : Nat) : Nat := (c.trace.queue.filter (fun x => decide (x.typ = 1) && decide (x.src = p))).length

/-- Is a writer of port p held (R552): its FIFO is full, its block bit is set, and the sink is on? -/
def stimHolds (c : Chip) (p : Nat) : Bool :=
  decide (traceSink c ≠ 0) && c.bit Reg.DBG_STIM_BLOCK p &&
    !(decide (stimCount c p < 16) && !c.trace.held.any (fun x => decide (x.src = p)))
/-- A write to DBG_STIMp (R552): a packet, or a lost one for a full FIFO, or a held writer's, which has no response until it is in; with
the sink off nothing (R554). `other`: the initiator is not the Distaff core, whose store waits and is tried again. -/
def Chip.stim (c : Chip) (p size data : Nat) (other : Bool) : Chip :=
  let pkt : TracePacket :=
    { typ := 1, src := p, size := size, flags := other.toNat, data := data % 2 ^ (8 * size), time := c.tai }
  if traceSink c = 0 then c
  else if stimCount c p < 16 && !c.trace.held.any (fun x => decide (x.src = p)) then c.traceAdd pkt
  else if stimHolds c p then (if other then { c with trace := { c.trace with held := c.trace.held ++ [pkt] } } else c)
  else { c with trace := { c.trace with lost := c.trace.lost + 1 } }

/-- A held write enters the FIFO in which an entry has come free (R552), and its response comes; a DBGACC is no longer busy (R535). -/
def Chip.stimAdmit (c : Chip) : Chip :=
  match c.trace.held.find? (fun x => decide (stimCount c x.src < 16)) with
  | some x =>
    let d := Chip.traceAdd { c with trace := { c.trace with held := c.trace.held.erase x } } { x with time := c.tai }
    Chip.respond { d with dbg := { d.dbg with tdr := if d.dbg.tdr / 2 ^ 32 = 2 then 0 else d.dbg.tdr } } {}
  | none => c

/-- Once room has returned, one LOST packet follows the loss, with EV246 (R553). (DESIGN CHOICE: log 117) -/
def Chip.traceLost (c : Chip) : Chip :=
  let room := decide (traceSink c ≠ 0) && !(decide (traceSink c = 2) && c.trace.full) && (List.range 32).all (fun p => decide (stimCount c p < 16))
  if c.trace.lost = 0 || !room then c else
  Chip.raise (Chip.traceAdd { c with trace := { c.trace with lost := 0 } } { typ := 3, data := c.trace.lost, time := c.tai }) 246

/-- The sink takes the oldest packet; the pins take one every 32 ns (R554). (DESIGN CHOICE: log 117) -/
def Chip.traceDrain (c : Chip) : Chip :=
  match c.trace.queue with
  | [] => c.traceLost
  | p :: rest =>
    if traceSink c = 3 ∧ c.ns % 32 ≠ 0 then c
    else (({ c with trace := { c.trace with queue := rest } }).tracePut p).stimAdmit.traceLost

/-- What DBG_REEL_STAT shows (R556). -/
def reelStat (c : Chip) : Nat := c.trace.wrapped.toNat * 2 ^ 31 + c.trace.full.toNat * 2 ^ 30 + c.trace.reelCnt
/-- Word w of the Reel's window (R556). -/
def reelWord (c : Chip) (w : Nat) : Nat :=
  leNat (((packetBytes (mapGet { typ := 0 } c.trace.reel (c.fld Reg.DBG_REEL_RD 14 0))).drop (4 * w)).take 4)
/-- A read of DBG_REEL_WINw (R556): reading WIN3 advances RD. -/
def Chip.reelRead (c : Chip) (w : Nat) : Nat × Chip :=
  (reelWord c w, if w = 3 then c.setFld Reg.DBG_REEL_RD 14 0 (c.fld Reg.DBG_REEL_RD 14 0 + 1) else c)
/-- TRACE_DATAGRAM_TIMEOUT (R555): 1 ms after its first packet a datagram goes out with the packets it has. -/
def execTraceDatagramTimeout (s : State) : Host.Outcome State Fault Refusal :=
  run (fun c =>
    let t := c.trace
    if t.dgram.isEmpty || decide (c.ns < t.dgramAt + 1000000) then c
    else c.traceSend t.dgram) s

end Sys2Proof.Machine
end

