-- ==== Sys2Proof/Machine/Registers.lean ====
section
/-!
DEFINITION. What a bus read of a register returns and leaves behind, and what a bus write does, block by block (R8 to R12 and the
register tables of the chapters). The DBG block, whose accesses depend on a port, is left to Debug.
-/
namespace Sys2Proof.Machine

/-! ### Reads -/

/-- The fields of a register that its block computes, block by block; none where the stored value is what a read shows.
(DESIGN CHOICE: log 12) -/
def derivedSys (c : Chip) (a : Nat) : Option Nat :=
  if Reg.SYS_TSTATEk 0 ≤ a ∧ a ≤ Reg.SYS_TSTATEk 15 then some (tstateWord c ((a - Reg.SYS_TSTATEk 0) / 4))
  else if a = Reg.SYS_INC_LEFT then some (incLeft c)
  else none
/-- EVT_DNEXTL (R484). -/
def derivedEvt (c : Chip) (a : Nat) : Option Nat :=
  if 0x20100050 ≤ a ∧ a ≤ 0x20100060 then some (dnextOf c ((a - 0x20100050) / 4 + 1)) else none
/-- ASQ (R67, R68, R142, R143). -/
def derivedAsq (c : Chip) (a : Nat) : Option Nat :=
  if a = Reg.ASQ_EDGE then
    some (c.fld a 11 0 + bitsOfFn (fun e => decide (c.fld Reg.ASQ_EDGE (3 * e + 2) (3 * e) = 4) && edgeLive c e) 4 * 2 ^ 16)
  else if a = Reg.ASQ_TORk 0 then some (c.seq.tor.toNat % 2 ^ 32)
  else if Reg.ASQ_TORk 1 ≤ a ∧ a ≤ Reg.ASQ_TORk 7 then
    some (c.seq.torShadow.toNat / 2 ^ (32 * ((a - Reg.ASQ_TORk 0) / 4)) % 2 ^ 32)
  else if a = Reg.ASQ_QSTAT then
    let busy := c.seq.running.isSome
    some (c.fld a 31 27 * 2 ^ 27 + c.seq.queue.length * 2 ^ 16 + 2 * busy.toNat + (decide (queueCount c = 0) && !busy && gangIdle c).toNat)
  else if a = Reg.ASQ_UREAD_DATA then
    let u := c.fld Reg.ASQ_UREAD_ADDR 13 0
    if u < 0x2000 ∧ c.bit Reg.ASQ_LOAD_STAT 31 then some 0 else some ((microwordAt c u).getD 0).toNat
  else none
/-- GRN (R188, R190). -/
def derivedGrn (c : Chip) (a : Nat) : Option Nat :=
  if a = Reg.GRN_STAT then
    let free := if c.bit a 31 then 0x40000 - (c.grn.ctxs.filter (fun e => decide (e.2.state ≠ 0))).length else 0
    some ((c.bit a 31).toNat * 2 ^ 31 + c.grn.running.isSome.toNat * 2 ^ 30 + c.grn.staged.isSome.toNat * 2 ^ 29 +
      (c.bit a 28).toNat * 2 ^ 28 + (decide (c.grn.preempt ≠ .idle)).toNat * 2 ^ 27 + (c.bit a 26).toNat * 2 ^ 26 + free)
  else if Reg.GRN_RBOUNDk 0 ≤ a ∧ a ≤ Reg.GRN_RBOUNDk 7 then
    some (bitsOfFn (fun i => (boundCtx c (32 * ((a - Reg.GRN_RBOUNDk 0) / 4) + i)).isSome) 32)
  else if Reg.GRN_RCTXt 0 ≤ a ∧ a ≤ Reg.GRN_RCTXt 255 then
    match boundCtx c ((a - Reg.GRN_RCTXt 0) / 4) with
    | some n => some (2 ^ 31 + n)
    | none => some 0
  else if Reg.GRN_FREEt 0 ≤ a ∧ a ≤ Reg.GRN_FREEt 255 then some (poolFree c ((a - Reg.GRN_FREEt 0) / 4))
  else none
/-- NOC_PORTe (R275) and DRC_STAT.ON (R206). -/
def derivedNet (c : Chip) (a : Nat) : Option Nat :=
  if Reg.NOC_PORTe 0 ≤ a ∧ a ≤ Reg.NOC_PORTe 63 then some (portReg c ((a - Reg.NOC_PORTe 0) / 4))
  else if a = Reg.DRC_STAT then some (c.fld a 31 4 * 16 + bitsOfFn (fun q => c.isOn (.quadrant q)) 4)
  else none
/-- SEAL_STATE (R350) and SILO_STAT.JFREE (R392). -/
def derivedSafe (c : Chip) (a : Nat) : Option Nat :=
  if a = 0x20600008 ∨ a = 0x20600108 then some (sealStateWord c).toNat
  else if a = Reg.SILO_STAT then some (c.fld a 31 17 * 2 ^ 17 + (if c.bit a 31 then ringFree c else 0))
  else none
/-- CAP and PKR (R298 to R300). -/
def derivedCap (c : Chip) (a : Nat) : Option Nat :=
  if a < 0x20801000 then
    if a % 16 = 4 ∧ a < 0x20800080 then
      some (Machine.setBit (c.reg a) 30 (capCfgErr c ((a - 0x20800004) / 16))).toNat
    else none
  else if a = Reg.PKR_STAT then some (laneBusy c * 2 ^ 24 + c.fld a 15 0)
  else none
/-- PCIA_ID (R423), ODE (R464). -/
def derivedIo (c : Chip) (a : Nat) : Option Nat :=
  if a = Reg.PCIA_ID then some (0x53110000 + Config.vendorId.toNat)
  else if a = Reg.ODE_STAT then some (c.fld a 31 30 * 2 ^ 30 + c.od.writes.length % 64 * 2 ^ 24 + c.fld a 23 0)
  else if a = Reg.ODE_WLOG then
    match c.od.wlog with
    | (i, j) :: _ => some (2 ^ 31 + i * 256 + j)
    | [] => some 0
  else if a = Reg.ODE_WLOG_STAT then some ((c.bit a 31).toNat * 2 ^ 31 + c.od.wlog.length)
  else none
/-- WEAVE (R511 to R513). -/
def derivedWeave (c : Chip) (a : Nat) : Option Nat :=
  if a = Reg.WEAVE_CFG_STAT then some (weaveCfgStat c)
  else if a = Reg.WEAVE_BANK then some (weaveBank c)
  else if a = Reg.WEAVE_TRIG then some (trigLines c)
  else if a = Reg.WEAVE_FOUT then some (foutBits c)
  else if Reg.WEAVE_PINk 0 ≤ a ∧ a ≤ Reg.WEAVE_PINk 63 then
    let k := (a - Reg.WEAVE_PINk 0) / 4
    some ((padLevel c k).toNat * 2 ^ 31 + (pinHeld c k).toNat * 2 ^ 30 + c.fld a 29 0)
  else if 0x20F00600 ≤ a ∧ a < 0x20F00680 ∧ a % 32 = 12 then
    some ((i2cOf c ((a - 0x20F00600) / 32)).rx.head?.getD 0).toNat
  else if 0x20F00700 ≤ a ∧ a < 0x20F00740 ∧ a % 32 = 8 then some ((spiOf c ((a - 0x20F00700) / 32)).rx.head?.getD 0)
  else none
/-- SPIN_LINKl (R531), TIME_NOW_LO (R418), WDT_LEFT and WDT_STAT (R557). -/
def derivedLate (c : Chip) (a : Nat) : Option Nat :=
  if Reg.SPIN_LINKl 0 ≤ a ∧ a ≤ Reg.SPIN_LINKl 3 then some (linkWord c ((a - Reg.SPIN_LINKl 0) / 4))
  else if a = Reg.TIME_NOW_LO then some (c.time.now.toNat % 2 ^ 32)
  else if a = Reg.WDT_LEFT then some (wdtLeftMs c)
  else if a = Reg.WDT_STAT then some (wdtStat c).toNat
  else none

/-- What a read of a register shows. (DESIGN CHOICE: log 12; DESIGN CHOICE: log 13) -/
def regShown (c : Chip) (r : RegRow) (a : Nat) : Nat :=
  let d := match regBlock a with
    | 0 => derivedSys c a | 1 => derivedEvt c a | 2 => derivedAsq c a | 3 => derivedGrn c a
    | 4 => derivedNet c a | 5 => derivedNet c a | 6 => derivedSafe c a | 7 => derivedSafe c a
    | 8 => derivedCap c a | 9 => derivedCap c a | 10 => derivedIo c a | 14 => derivedIo c a
    | 15 => derivedWeave c a | 16 => derivedLate c a | 18 => derivedLate c a | 21 => derivedLate c a
    | _ => none
  d.getD (rowRead r (c.reg a)).toNat

/-- What a read leaves behind where it is no PEEK (R9, R12, R59, R418, R464, R513). -/
def Chip.regTouched (c : Chip) (r : RegRow) (a : Nat) : Chip :=
  if a = Reg.ASQ_TORk 0 then { c with seq := { c.seq with torShadow := c.seq.tor } }
  else if a = Reg.TIME_NOW_LO then c.timeRead.2
  else if a = Reg.ODE_WLOG then { c with od := { c.od with wlog := c.od.wlog.drop 1 } }
  else if 0x20F00600 ≤ a ∧ a < 0x20F00680 ∧ a % 32 = 12 then (c.i2cPop ((a - 0x20F00600) / 32)).2
  else if 0x20F00700 ≤ a ∧ a < 0x20F00740 ∧ a % 32 = 8 then (c.spiPop ((a - 0x20F00700) / 32)).2
  else if r.rc = 0 then c
  else c.setReg a (rowAfterRead r (c.reg a))
/-- A bus read of a register. -/
def Chip.regRead (c : Chip) (r : RegRow) (a : Nat) (peek : Bool) : Nat × Chip :=
  (regShown c r a, if peek then c else c.regTouched r a)

/-! ### Writes -/

/-- The write that the access codes alone give (R9, R10). -/
def Chip.regPut (c : Chip) (r : RegRow) (a : Nat) (v : Word) : Chip := c.setReg a (rowWrite r (c.reg a) v)
/-- SYS (R477, R487). -/
def Chip.writeSys (c : Chip) (r : RegRow) (a : Nat) (v : Word) : Chip :=
  if a = Reg.SYS_RESET then (if bitOf v 0 then c.capsuleStart 3 else c)
  else if Reg.SYS_TOL1 ≤ a ∧ a ≤ Reg.SYS_TOL1 + 16 then c.tolWrite ((a - Reg.SYS_TOL1) / 4 + 1) v.toNat
  else c.regPut r a v
/-- EVT (R483, R485, R488): DLINE keeps its value for 0b000, 0b110 and 0b111. -/
def Chip.writeEvt (c : Chip) (r : RegRow) (a : Nat) (v : Word) : Chip :=
  if a < 0x20100020 then c.dpendWrite ((a - 0x20100000) / 4) v
  else if a < 0x20100040 then c.hpendWrite ((a - 0x20100020) / 4) v
  else if a = Reg.EVT_DOORBELL then c.doorbell (Machine.fld v 7 0)
  else if 0x20101000 ≤ a then
    let l := Machine.fld v 2 0
    c.regPut r a (if l = 0 ∨ 6 ≤ l then Machine.setFld v 2 0 (c.fld a 2 0) else v)
  else c.regPut r a v
/-- ASQ (R50, R55, R115). -/
def Chip.writeAsq (c : Chip) (r : RegRow) (a : Nat) (v : Word) : Chip :=
  if a = Reg.ASQ_EDGE then
    let w := (List.range 4).foldl (fun (w : Word) e =>
      if 5 ≤ Machine.fld v (3 * e + 2) (3 * e) then Machine.setFld w (3 * e + 2) (3 * e) (c.fld a (3 * e + 2) (3 * e)) else w) v
    c.regPut r a w
  else if a = Reg.ASQ_QCTL then (if bitOf v 1 then c.seqDiscard else if bitOf v 0 then c.seqResume else c)
  else c.regPut r a v
/-- GRN (R146, R164, R172, R185, R188 to R190). (DESIGN CHOICE: log 21) -/
def Chip.writeGrn (c : Chip) (r : RegRow) (a : Nat) (v : Word) : Chip :=
  if a = Reg.GRN_CTL then
    let c1 := ((c.setBit a 3 (bitOf v 3)).setBit a 1 (bitOf v 1)).setBit a 2 (c.bit a 2 || bitOf v 2)
    if bitOf v 0 then c1.grnEnable else c1
  else if a = Reg.GRN_DTAB ∨ a = Reg.GRN_CAPFIRST ∨ a = Reg.GRN_CAPMAP then
    (if c.bit Reg.GRN_CTL 0 then c else c.regPut r a v)
  else if a = Reg.GRN_RCTL then
    let c1 := c.setFld a 2 1 (Machine.fld v 2 1)
    let c2 := if bitOf v 0 then c1.grnEnd (Machine.fld v 2 1) else c1
    if bitOf v 3 then c2.ackPreempt else c2
  else if 0x20300100 ≤ a ∧ a < 0x20300310 ∧ a % 16 < 8 then c.ringBaseWrite (a / 16 * 16) (decide (a % 16 = 4)) v
  else if 0x20310000 ≤ a ∧ a < 0x20314000 ∧ c.bit Reg.GRN_CTL 2 then c
  else c.regPut r a v
/-- NOC (R270, R271, R275). -/
def Chip.writeNoc (c : Chip) (r : RegRow) (a : Nat) (v : Word) : Chip :=
  if a = Reg.NOC_DRAIN then (if bitOf v 0 then c.drainAbort else c)
  else if Reg.NOC_PORTe 0 ≤ a ∧ a ≤ Reg.NOC_PORTe 63 then c.portDisable ((a - Reg.NOC_PORTe 0) / 4) (bitOf v 0)
  else c.regPut r a v
/-- DRC (R194, R205, R206). -/
def Chip.writeDrc (c : Chip) (r : RegRow) (a : Nat) (v : Word) : Chip :=
  if a = Reg.DRC_CTL then
    let m := Machine.fld v 6 0
    let ok := decide (1 ≤ m) && decide (m ≤ if c.is08X then 16 else 48) && !c.bit Reg.GRN_CTL 0
    c.regPut r a (if ok then v else Machine.setFld v 6 0 (c.fld a 6 0))
  else if a = Reg.DRC_QCTL then
    let c1 := (onesBelow 4 (Machine.fld v 7 4)).foldl Chip.quadrantOn c
    (onesBelow 4 (Machine.fld v 3 0)).foldl (fun c q => if bitOf v (4 + q) then c else c.quadrantOff q) c1
  else c.regPut r a v
/-- SEAL (R349). -/
def Chip.writeSeal (c : Chip) (r : RegRow) (a : Nat) (v : Word) : Chip :=
  if a = 0x20600000 then c.sealCmd false (Machine.fld v 31 24) (Machine.fld v 23 16)
  else if a = 0x20600100 then c.sealCmd true (Machine.fld v 31 24) (Machine.fld v 23 16)
  else c.regPut r a v
/-- CAP (R286, R287, R298, R299): EN that rises begins anew for SYNC; ENABLE that rises starts the stream's count of frames and its
slots anew, and ENABLE that falls stops the stream. (DESIGN CHOICE: log 49; DESIGN CHOICE: log 109) -/
def Chip.writeCap (c : Chip) (r : RegRow) (a : Nat) (v : Word) : Chip :=
  if a < 0x20801000 then
    if a % 16 = 0 ∧ bitOf v 31 ∧ !c.bit a 31 then (c.regPut r a v).setBit (a + 4) 31 false else c.regPut r a v
  else if (a - 0x20801000) % 64 = 0 then
    let st := (a - 0x20801000) / 64
    if bitOf v 31 && !c.bit a 31 then
      let c1 := c.regPut r a v
      { c1 with cap := { c1.cap with streams := mapSet {} c1.cap.streams st {} } }
    else if !bitOf v 31 then (c.disableStream st).regPut r a v
    else c.regPut r a v
  else c.regPut r a v
/-- PKR: the rings' bases (R189); a lane that is enabled keeps domain 0 on (R296). -/
def Chip.writePkr (c : Chip) (r : RegRow) (a : Nat) (v : Word) : Chip :=
  if a = Reg.PKR_CTL then
    let c1 := c.regPut r a v
    match domainNode (.packer 0) with
    | some n => if c1.fld Reg.PKR_CTL 7 0 = 0 then c1 else c1.cancelDown (.packer 0) n
    | none => c1
  else
  if 0x20900100 ≤ a ∧ a < 0x20900120 ∧ a % 16 < 8 then c.ringBaseWrite (a / 16 * 16) (decide (a % 16 = 4)) v else c.regPut r a v
/-- PCIB (R397 to R399, R405, R423). -/
def Chip.writePcib (c : Chip) (r : RegRow) (a : Nat) (v : Word) : Chip :=
  if a = Reg.PCIB_SWCTL then
    let c1 := c.regPut r a (Machine.setBit v 31 (c.bit a 31))
    if bitOf v 31 then c1.swEnable else c1.swDisable
  else if a = Reg.PCIB_NSID ∨ (Reg.PCIB_RING_START_LO ≤ a ∧ a ≤ Reg.PCIB_RING_UNITS) then
    if swState c ≤ 2 then c.regPut r a v else c
  else if a = Reg.PCIB_HOLD then c.holdWrite v
  else c.regPut r a v
/-- ETH: the rings' bases (R189). -/
def Chip.writeEth (c : Chip) (r : RegRow) (a : Nat) (v : Word) : Chip :=
  if 0x20C01000 ≤ a ∧ a % 16 < 8 then c.ringBaseWrite (a / 16 * 16) (decide (a % 16 = 4)) v else c.regPut r a v
/-- CAN (R189, R441, R444): the node's controller takes CTL, NBT and DBT from the Object Dictionary Engine alone. -/
def Chip.writeCan (c : Chip) (who : Initiator) (r : RegRow) (a : Nat) (v : Word) : Chip :=
  if a < 0x20D00100 then
    let k := (a - 0x20D00000) / 64
    if k = c.od.nodeCtl ∧ who ≠ .engine then c
    else if a % 64 = 0 then
      let c1 := c.regPut r a (Machine.setBit v 27 false)
      if bitOf v 27 then c1.canRecover k else c1
    else c.regPut r a v
  else if 0x20D01000 ≤ a ∧ a % 16 < 8 then c.ringBaseWrite (a / 16 * 16) (decide (a % 16 = 4)) v
  else c.regPut r a v
/-- WEAVE (R498, R505, R507 to R509, R511 to R513). (DESIGN CHOICE: log 108) -/
def Chip.writeWeave (c : Chip) (r : RegRow) (a : Nat) (v : Word) : Chip :=
  if a = Reg.WEAVE_CFG_CTL then c.weaveCtl v
  else if 0x20F01000 ≤ a then c.weaveWindow ((a - 0x20F01000) / 4) v.toNat
  else if Reg.WEAVE_PINk 0 ≤ a ∧ a ≤ Reg.WEAVE_PINk 63 then c.weavePin ((a - Reg.WEAVE_PINk 0) / 4) v
  else if a = Reg.WEAVE_ADC_CTL then
    let c1 := c.regPut r a v
    if bitOf v 0 && !c.bit a 0 then
      let c2 := (List.range 16).foldl (fun (c : Chip) k => c.setBit (Reg.WEAVE_ADC_RESc k) 30 false) c1
      { c2 with weave := { c2.weave with adcNext := 0, scans := 0 } }
    else c1
  else if a = Reg.WEAVE_FIN then (c.regPut r a v).weaveSeen
  else if 0x20F00600 ≤ a ∧ a < 0x20F00680 ∧ a % 32 = 0 then (c.regPut r a v).i2cEnable ((a - 0x20F00600) / 32)
  else if 0x20F00700 ≤ a ∧ a < 0x20F00740 ∧ a % 32 = 0 then (c.regPut r a v).spiControl ((a - 0x20F00700) / 32)
  else if 0x20F00600 ≤ a ∧ a < 0x20F00680 ∧ a % 32 = 4 then c.i2cPush ((a - 0x20F00600) / 32) v.toNat
  else if 0x20F00700 ≤ a ∧ a < 0x20F00740 ∧ a % 32 = 4 then c.spiPush ((a - 0x20F00700) / 32) v.toNat
  else c.regPut r a v
/-- LIFE (R564, R567, R570). -/
def Chip.writeLife (c : Chip) (r : RegRow) (a : Nat) (v : Word) : Chip :=
  if a = Reg.LIFE_SNAP then (if bitOf v 31 then c.lifeTake else c)
  else if a = Reg.LIFE_FLUSH then
    let c1 := c.setFld a 16 0 (Machine.fld v 16 0)
    if bitOf v 31 then c1.lifeFlush else c1
  else c.regPut r a v
/-- XSPI (R347, R348): CMDEN takes writes from the Distaff core, and from the Debug Bus Master while some port holds level 3. -/
def Chip.writeXspi (c : Chip) (who : Initiator) (r : RegRow) (a : Nat) (v : Word) : Chip :=
  if a = Reg.XSPI_CTL then
    let may := decide (who = .core) || (decide (who = .debugger) && somePortHolds c 3)
    let v1 := if may then v else Machine.setBit v 31 (c.bit a 31)
    c.regPut r a (if 2 ≤ Machine.fld v1 1 0 then Machine.setFld v1 1 0 (c.fld a 1 0) else v1)
  else if a = Reg.XSPI_CMD then
    let c1 := c.regPut r a (Machine.setBit v 31 false)
    if bitOf v 31 then c1.xspiGo else c1
  else c.regPut r a v
/-- SILO (R388), PCIA (R411), SPIN, TIME (R419, R420) and WDT (R546). -/
def Chip.writeRest (c : Chip) (r : RegRow) (a : Nat) (v : Word) : Chip :=
  if a = Reg.SILO_TXCMD then c.txCmd (Machine.fld v 31 28)
  else if a = Reg.PCIA_ODBELL then c.odDoorbell (Machine.fld v 7 0)
  else if a = Reg.SPIN_CTL then c.spinCtl v.toNat
  else if a = Reg.TIME_CTL then c.timeCtl v.toNat
  else if a = Reg.TIME_ADJCTL then c.timeAdjctl v.toNat
  else if a = Reg.WDT_CTL then c.wdtCtl v.toNat
  else if a = Reg.WDT_KICK then c.wdtKick v.toNat
  else c.regPut r a v

/-- A bus write of a register. (DESIGN CHOICE: log 124) -/
def Chip.regWrite (c : Chip) (who : Initiator) (r : RegRow) (a : Nat) (v : Word) : Chip :=
  match regBlock a with
  | 0 => c.writeSys r a v | 1 => c.writeEvt r a v | 2 => c.writeAsq r a v | 3 => c.writeGrn r a v
  | 4 => c.writeNoc r a v | 5 => c.writeDrc r a v | 6 => c.writeSeal r a v | 8 => c.writeCap r a v
  | 9 => c.writePkr r a v | 11 => c.writePcib r a v | 12 => c.writeEth r a v | 13 => c.writeCan who r a v
  | 15 => c.writeWeave r a v | 19 => c.writeLife r a v | 20 => c.writeXspi who r a v
  | _ => c.writeRest r a v

end Sys2Proof.Machine
end

