-- ==== Sys2Proof/Machine/Bus.lean ====
section
/-!
DEFINITION. An access of an initiator on the mesh, performed as one step: the interface's decode (R26, R29, R256), the port of the
target's node (R268, R271, R272), and the target's read or write (R11, R196 to R199, R203, R205, R232, R259, R260, R263, R266,
R332, R346, R367 to R369). The packet rows of the network take the same accesses apart into packets.
-/
namespace Sys2Proof.Machine

/-- The node of a target in this device, none for an address that the interface itself answers (R256). -/
def targetNode : Target → Option Nat
  | .itcm _ => some 7
  | .dtcm _ => some 7
  | .flash _ => some (32 * 17 + 14)
  | .register a => if regBlock a < 22 then some (regNode a) else none
  | .silo _ => some (32 * 15)
  | .loft t _ => some (tileNode t)
  | _ => none

/-- May this device send to others (R518): it is the manager, or a worker that is placed? -/
def sendsRemote (c : Chip) : Bool := isManager c || c.bit Reg.SPIN_STAT 30
/-- Can this device reach device d (R29, R257, R518): it is placed, the device is in the system map, and every link of the way is up? -/
def deviceReachable (c : Chip) (d : Nat) : Bool :=
  (mapAt c (exitLink c d)).testBit d && sendsRemote c && linkUp c (exitLink c d) && (reachable c).testBit d
/-- What another device answers: its state is not held here, so the response is a free value.
(DESIGN CHOICE: log 11; DESIGN CHOICE: log 45) -/
def Chip.remoteAnswer (c : Chip) (n : Nat) (write : Bool) : Resp × Chip :=
  let f := c.drawFree
  let b := f.2.drawBytes n
  let st := f.1.toNat % 4
  ({ status := st, cause := if st = 1 then f.1.toNat / 4 % 10 else 0
     data := if st = 0 ∧ !write then leNat b.1 else 0, poison := decide (st = 0) && !write && f.1.toNat.testBit 8 }, b.2)

/-- Is the access refused to this initiator (R332, R387, R485, R534)? The DBG block is Debug's. (DESIGN CHOICE: log 40) -/
def regRefused (who : Initiator) (a : Nat) (write : Bool) : Bool :=
  let off := a % 0x100000
  match regBlock a with
  | 6 => if off < 0x100 then decide (who ≠ .core) else decide (who ≠ .engine) || decide (0x200 ≤ off)
  | 7 => decide (0x100 ≤ off) && decide (off < 0x130) && decide (who ≠ .core) && decide (who ≠ .engine) &&
      decide (who ≠ .transactions)
  | 1 => write && decide (off / 4 = 0x10) && decide (who ≠ .core) && decide (who ≠ .host) && decide (who ≠ .debugger)
  | 17 => true
  | _ => false
/-- Is the address in the snapshot window of LIFE (R570)? -/
def inSnapshot (a : Nat) : Bool := decide (0x21380000 ≤ a) && decide (a < 0x21400000)

/-! ### The core's memories (R232) -/

/-- The 32-bit words an access touches. -/
def words4 (a n : Nat) : List Nat := (List.range ((a + n + 3) / 4 - a / 4)).map (fun i => a / 4 * 4 + 4 * i)
/-- A read: single-bit errors are corrected and rewritten, a double-bit error poisons. -/
def Chip.tcmRead (c : Chip) (a n : Nat) : Resp × Chip :=
  let ws := words4 a n
  ({ data := c.rdNat a n, poison := ws.any (fun w => c.eccAt w == .double) },
   ws.foldl (fun c w => if c.eccAt w == .single then c.setEcc w .good else c) c)
/-- A write: a part of a word that holds a double-bit error leaves the word unchanged. -/
def Chip.tcmWrite (c : Chip) (a : Nat) (bs : List Byte) : Resp × Chip :=
  let n := bs.length
  if n < 4 ∧ c.eccAt (a / 4 * 4) = .double then (respErr 3, c)
  else ({}, ((words4 a n).foldl (fun c w => c.setEcc w .good) (c.wrBytes a bs)).snoopWrite a n)

/-! ### DRAM (R28, R150, R197 to R199, R205) -/

/-- A read of DRAM. -/
def Chip.loftRead (c : Chip) (t h : Nat) (common : Bool) (n : Nat) : Resp × Chip :=
  let c1 := c.reachLoft t
  if dramBlocked c1 t common then (respErr 4, c1) else
  let r := c1.dramRead t h n
  ({ data := leNat r.1, poison := r.2.1 }, r.2.2)
/-- A write at the loft controller: the words that arrive poisoned are stored with check bits that read as a double-bit error (R266).
The write is performed where the answer is OK or names poisoned data. -/
def Chip.loftStore (c : Chip) (t h : Nat) (common : Bool) (bs : List Byte) (bad : List Nat) : Resp × Chip :=
  let c1 := c.reachLoft t
  if dramBlocked c1 t common then (respErr 4, c1) else
  let r := c1.dramStore t h bs
  if r.1 then (respErr 3, r.2)
  else (if bad.isEmpty then {} else respErr 8, bad.foldl (fun d w => d.setEcc w .double) r.2)
/-- Has a write with this answer been performed? -/
def stored (r : Resp) : Bool := decide (r.status = 0) || decide (r.cause = 8)
/-- A write of DRAM that is performed as one step: what it means to the core and the Granary comes at once. -/
def Chip.loftWrite (c : Chip) (t h : Nat) (common : Bool) (bs : List Byte) (poison : Bool) : Resp × Chip :=
  let r := c.loftStore t h common bs (if poison then wordsOf h bs.length else [])
  (r.1, if stored r.1 then (r.2.snoopWrite h bs.length).grnSnoop h bs.length else r.2)

/-! ### One access -/

/-- A read of the XIP window (R346, R347): held, it waits, and at the request timeout its initiator gives it up; the access is made again
until then. -/
def Chip.xipRead (c : Chip) (who : Initiator) (b n : Nat) : Resp × Chip :=
  let k := initiatorNo who
  let keep := c.xspi.waits.filter (fun e => decide (e.1 ≠ k))
  let drop := { c with xspi := { c.xspi with waits := keep } }
  if !xipHeld c then ({ data := leNat (xipBytes c b n) }, drop)
  else match c.xspi.waits.find? (fun e => e.1 == k) with
    | none => (respWait, { c with xspi := { c.xspi with waits := keep ++ [(k, c.ns)] } })
    | some e => if c.ns < e.2 + nocTimeout c then (respWait, c) else (respTimeout, drop.raise 103)
/-- A read that may leave its marks on the chip: ECC counts, rewrites, records, events. -/
def Chip.plainRead (c : Chip) (a n : Nat) : Target → Resp × Chip
  | .itcm b => c.tcmRead b n
  | .dtcm b => c.tcmRead b n
  | .silo b =>
    if 0x307C0000 ≤ b then (respErr 2, c) else
    let r := c.siloRead (b - 0x30000000) n
    ({ data := leNat r.1, poison := r.2.1 }, r.2.2)
  | .loft t h => c.loftRead t h (inCommon a) n
  | _ => (respErr 0, c)
/-- What a PEEK of DRAM leaves behind: the tile that its request woke, and its quadrant out of self-refresh (R197, R204, R549). -/
def Chip.peekWake (c : Chip) : Target → Chip
  | .loft t _ => c.reachLoft t
  | _ => c
/-- A read at its target. A PEEK returns what the read would, and has no side effect (R12), but that it wakes the tile of a loft (R549). -/
def Chip.targetRead (c : Chip) (who : Initiator) (a n : Nat) (peek : Bool) : Target → Resp × Chip
  | .register b =>
    if regRefused who b false then (respErr 2, c)
    else if n ≠ 4 then (respErr 1, c)
    else if inSnapshot b then ({ data := leNat ((List.range 4).map (fun i => snapByte c (b - 0x21380000 + i))) }, c)
    else match regRow b with
      | none => (respErr 0, c)
      | some r => ({ data := (c.regRead r b peek).1 }, (c.regRead r b peek).2)
  | .flash b => c.xipRead who b n
  | tgt => ((c.plainRead a n tgt).1, if peek then c.peekWake tgt else (c.plainRead a n tgt).2)
/-- A write at its target. -/
def Chip.targetWrite (c : Chip) (who : Initiator) (a : Nat) (bs : List Byte) (poison : Bool) : Target → Resp × Chip
  | .itcm b => if poison then (respErr 8, c) else
      let r := c.tcmWrite b bs
      (r.1, if who = .core then r.2 else r.2.itcmSeen b bs.length)
  | .dtcm b => if poison then (respErr 8, c) else c.tcmWrite b bs
  | .flash _ => (respErr 2, c)
  | .silo _ => (respErr (if poison then 8 else 2), c)
  | .loft t h => c.loftWrite t h (inCommon a) bs poison
  | .register b =>
    if regRefused who b true then (respErr 2, c)
    else if bs.length ≠ 4 then (respErr 1, c)
    else if poison then (respErr 8, c)
    else if inSnapshot b then ({}, c)
    else match regRow b with
      | none => (respErr 0, c)
      | some r => ({}, c.regWrite who r b (BitVec.ofNat 32 (leNat bs)))
  | _ => (respErr 0, c)

/-- An access for another device leaves by its Spindle node (R29, R257, R271, R276, R519): what the node answers itself; none: it goes on.
A worker without a place sends none (R518). A link that is down or a device that is not in the map is ERR, CAUSE 5, a DISABLED node
UNROUTABLE, each with EV100; a device that the links beyond do not reach is ERR, CAUSE 5, of the node there. -/
def Chip.remoteStop (c : Chip) (d : Nat) : Option (Resp × Chip) :=
  let l := exitLink c d
  if !sendsRemote c then some (respErr 5, c)
  else if !linkUp c l || !(mapAt c l).testBit d then some (respErr 5, c.raise 100)
  else if portState c (spindleNode l) = 2 then some (respUnroutable, c.raise 100)
  else if !deviceReachable c d then some (respErr 5, c)
  else none
/-- An access: what the interface, the route and the port answer by themselves, else what the target does. `go` performs it there;
`n` is its size; `near`: the core's own, which reaches its memories without the network while they are on (R232).
(DESIGN CHOICE: log 40; DESIGN CHOICE: log 46) -/
def Chip.busAccess (c : Chip) (near : Bool) (a n : Nat) (write : Bool) (go : Target → Resp × Chip) : Resp × Chip :=
  match decodeAddr c a with
  | .nothing => (respErr 0, c)
  | .remote d l =>
    match c.remoteStop d with
    | some r => r
    | none =>
    if a % n ≠ 0 then (respErr 1, c)
    else match decodeLocal c l with
      | .nothing => (respErr 0, c)
      | _ => c.remoteAnswer n write
  | tgt =>
    match targetNode tgt with
    | none => (respErr 0, c)
    | some k =>
      if n = 0 ∨ a % n ≠ 0 then (respErr 1, c)
      else match nodeTile k, (if near && decide (k = 7) && c.isOn .coreMem then 0 else portState c k) with
        | none, 1 => (respAsleep, c.raise 102)
        | none, 2 => (respUnroutable, c.raise 100)
        | _, _ => go tgt
/-- A read of n bytes. -/
def Chip.meshRead (c : Chip) (who : Initiator) (a n : Nat) (peek : Bool) : Resp × Chip :=
  c.busAccess (decide (who = .core)) a n false (c.targetRead who a n peek)
/-- A write of bytes. -/
def Chip.meshWrite (c : Chip) (who : Initiator) (a : Nat) (bs : List Byte) (poison : Bool) : Resp × Chip :=
  c.busAccess (decide (who = .core)) a bs.length true (c.targetWrite who a bs poison)

end Sys2Proof.Machine
end

