-- ==== Sys2Proof/Machine/Debug.lean ====
section
/-!
DEFINITION. Run control of the core and the array (R541 to R545), the Debug Bus Master (R548, R549), plane memory (R550), the DBG
block's registers as each port and the core reach them (R534, R535, R556), and the access of any initiator to any address.
-/
namespace Sys2Proof.Machine

/-! ### The array (R545) -/

/-- ASTOP: the debug halt goes to the sequencer (R137). -/
def Chip.arrayStop (c : Chip) : Chip := Chip.takeUrgent { c with seq := { c.seq with debugHalt := true } }
/-- ARELEASE: the debug halt ends; a queue that it holds in STOPPED returns to RUN. A request that waited takes effect (R116, R545). -/
def Chip.arrayRelease (c : Chip) : Chip :=
  let was := c.seq.debugHalt
  let c1 := Chip.endStep { c with seq := { c.seq with debugHalt := false } }
  if !was then c1
  else if queueState c = 3 ∧ !c.seq.powerStop then (c1.enterRest.gangSay .run).takeUrgent else c1.takeUrgent
/-- ASTEP: while the debug halt holds the queue STOPPED the head is dispatched, to run to its end. -/
def Chip.arrayStep (c : Chip) : Chip :=
  if queueState c = 3 && c.seq.debugHalt && !c.seq.powerStop && c.seq.running.isNone && !c.seq.queue.isEmpty &&
      c.bit Reg.ASQ_QSTAT 29 && !c.bit Reg.ASQ_QSTAT 28 && aclkRuns c then
    { c.dispatchHead with dbg := { c.dispatchHead.dbg with astep := true } }
  else c

/-- A write of DBG_RUNCTL (R556): its fields, then what each bit asks for, from bit 0 up. -/
def Chip.runctl (c : Chip) (v : Word) : Chip :=
  let c0 := c.setFld Reg.DBG_RUNCTL 9 8 (Machine.fld v 9 8)
  let c1 := if bitOf v 0 then c0.coreHaltNow else c0
  let c2 := if bitOf v 1 then c1.coreResume else c1
  let c3 := if bitOf v 2 then c2.coreStep else c2
  let c4 := if bitOf v 3 then c3.arrayStop else c3
  let c5 := if bitOf v 4 then c4.arrayRelease else c4
  let c6 := if bitOf v 5 then c5.arrayStep else c5
  if bitOf v 6 then c6.capsuleStart 4 else c6

/-- DBG_RUNSTAT (R556). -/
def runStat (c : Chip) : Nat :=
  (coreHalted c).toNat * 2 ^ 31 + c.core.stepping.isSome.toNat * 2 ^ 30 +
    (c.seq.debugHalt && decide (queueState c = 3)).toNat * 2 ^ 29 + c.dbg.astep.toNat * 2 ^ 28 + c.fld Reg.DBG_RUNSTAT 7 0

/-! ### The Debug Bus Master (R548, R549) -/

/-- Show a response in DBG_DBM_CTL (R550, R556). -/
def Chip.dbmStatus (c : Chip) (r : Resp) : Chip :=
  ((c.setFld Reg.DBG_DBM_CTL 10 8 r.status).setFld Reg.DBG_DBM_CTL 7 4 r.cause).setFld Reg.DBG_DBM_CTL 3 3 r.poison.toNat
/-- Bytes of an access; SIZE above 0b010 acts as 0b010 (R556). -/
def dbmSize (c : Chip) : Nat := if c.fld Reg.DBG_DBM_CTL 26 24 ≤ 2 then 2 ^ c.fld Reg.DBG_DBM_CTL 26 24 else 4
/-- DBG_DBM_ADDR. -/
def dbmAddr (c : Chip) : Nat := c.fld Reg.DBG_DBM_ADDR_HI 7 0 * 2 ^ 32 + (c.reg Reg.DBG_DBM_ADDR_LO).toNat
/-- GO (R548), which a read that the flash controller holds leaves waiting, with BUSY (R347, R556): one access at DBG_DBM_ADDR; with INC the address then advances by its size. PEEK keeps a read free of side effects
(R549). (DESIGN CHOICE: log 113) -/
def Chip.dbmGo (c : Chip) : Chip :=
  let n := dbmSize c
  let a := dbmAddr c
  let isWrite := c.bit Reg.DBG_DBM_CTL 27
  let r := if isWrite then c.meshWrite .debugger a (leBytes n (c.reg Reg.DBG_DBM_DATA).toNat) false
    else c.meshRead .debugger a n (c.bit Reg.DBG_DBM_CTL 29)
  if waitsStill r.1 then r.2.setBit Reg.DBG_DBM_CTL 30 true else
  let r := (r.1, r.2.setBit Reg.DBG_DBM_CTL 30 false)
  let c1 := if !isWrite && decide (r.1.status = 0) then r.2.setReg Reg.DBG_DBM_DATA (BitVec.ofNat 32 r.1.data) else r.2
  let c2 := c1.dbmStatus r.1
  if c.bit Reg.DBG_DBM_CTL 28 then
    let b := (a + n) % 2 ^ 40
    (c2.setReg Reg.DBG_DBM_ADDR_LO (BitVec.ofNat 32 b)).setReg Reg.DBG_DBM_ADDR_HI (BitVec.ofNat 32 (b / 2 ^ 32))
  else c2

/-! ### Plane memory (R550) -/

/-- The tile control request of an initiator that is not the Granary, at tile t's port (R268, R271, R272): the response, and the tile
awake where it is OK. -/
def Chip.tileControl (c : Chip) (t : Nat) : Resp × Chip :=
  if retired c t then (respErr 6, c)
  else if portState c (tileNode t) = 0 then ({}, c)
  else if c.bit (Reg.NOC_WAKEk (t / 32)) (t % 32) then ({}, c.wakeTile t)
  else (respAsleep, c.raise 102)
/-- PMEM_SEL.TILE. -/
def pmemTile (c : Chip) : Nat := c.fld Reg.DBG_PMEM_SEL 23 16
/-- Fill the buffer with words. (DEDUCED: log 116) -/
def Chip.pmemFill (c : Chip) (bs : List Byte) : Chip :=
  { c with dbg := { c.dbg with
    pmem := (List.range 128).foldl (fun m w => mapSet 0 m w (BitVec.ofNat 32 (leNat ((bs.drop (4 * w)).take 4)))) [] } }
/-- A read of DBG_PMEM_DATA0 fetches the row, each skein row checked as any read of it is (R46), or the frame-table entry.
(DESIGN CHOICE: log 113; DEDUCED: log 116) -/
def Chip.pmemFetch (c : Chip) : Chip :=
  let t := pmemTile c
  let r := c.tileControl t
  if r.1.status ≠ 0 then r.2.dbmStatus r.1 else
  let x := r.2.tile t
  let p := c.fld Reg.DBG_PMEM_SEL 9 0
  if c.bit Reg.DBG_PMEM_SEL 31 then
    let e := mapGet {} x.ftab (p % 128)
    (r.2.dbmStatus {}).pmemFill (leBytes 4 (if e.valid && e.resident then 2 ^ 31 + e.frame else 0))
  else
    let bad := (badRows x p).any (fun y => y.2 == .double)
    ((r.2.notePlane t false p).dbmStatus { poison := bad }).pmemFill (leBytes 512 (planeAt x p).toNat)
/-- A write of DBG_PMEM_DATA127 commits the buffer with fresh check bits, or is refused. -/
def Chip.pmemCommit (c : Chip) : Chip :=
  let t := pmemTile c
  let p := c.fld Reg.DBG_PMEM_SEL 9 0
  if c.bit Reg.DBG_PMEM_SEL 31 || (decide (queueState c ≠ 3) && tileBusy c t) then c.dbmStatus (respErr 2) else
  let r := c.tileControl t
  if r.1.status ≠ 0 then r.2.dbmStatus r.1 else
  let v : Plane := BitVec.ofNat 4096 (leNat ((List.range 128).flatMap (fun w => leBytes 4 (mapGet 0 c.dbg.pmem w).toNat)))
  (r.2.onTile t (fun x => { x with
    planes := mapSet 0 x.planes p v, ecc := x.ecc.filter (fun e => decide (e.1 / 64 ≠ p)) })).dbmStatus {}

/-! ### The registers of the DBG block (R534, R556) -/

/-- The level that an access to an offset needs (R534). -/
def dbgLevel (off : Nat) (write : Bool) : Nat :=
  let within : Nat → Nat → Bool := fun lo hi => decide (lo ≤ off) && decide (off < hi)
  if within 0x40 0x44 then (if write then 2 else 0)
  else if within 0x100 0x118 || within 0x500 0x580 then 2
  else if within 0x200 0x210 || within 0x300 0x304 || within 0x2000 0x2200 then 3
  else if within 0x600 0x660 || within 0x700 0x780 || within 0x800 0x810 then 1
  else 0
/-- What the core, which is no port, may do (R534): write stimulus ports, trace control and patch units, read the Reel.
(DEDUCED: log 115) -/
def coreMayDebug (off : Nat) (write : Bool) : Bool :=
  let within : Nat → Nat → Bool := fun lo hi => decide (lo ≤ off) && decide (off < hi)
  if write then within 0x700 0x780 || within 0x600 0x60C || within 0x610 0x614 || within 0x500 0x580
  else within 0x620 0x628 || within 0x800 0x810
/-- Is the access refused under R534? Ports 0 to 2, 3 the core, 4 any other initiator. (DEDUCED: log 115) -/
def dbgRefused (c : Chip) (port off : Nat) (write : Bool) : Bool :=
  if port < 3 then decide (portLevel c port < dbgLevel off write) else !(decide (port = 3) && coreMayDebug off write)
/-- The port of an initiator on the mesh (R533): PCIe-A is port 1. -/
def portOf : Initiator → Nat
  | .host => 1
  | .core => 3
  | _ => 4

/-- What a read of a DBG register shows to a port, its own copies among it (R537). -/
def dbgShown (c : Chip) (r : RegRow) (port a : Nat) : Nat :=
  let off := a % 0x100000
  if off = 0 then portWord c port
  else if off = 4 then (debugPort c port).authctl.toNat
  else if 0x10 ≤ off ∧ off < 0x30 then leNat (((debugPort c port).nonce.drop (off - 0x10)).take 4)
  else if off = 0x104 then runStat c
  else if off = 0x620 then reelStat c
  else if 0x800 ≤ off ∧ off < 0x810 then reelWord c ((off - 0x800) / 4)
  else if 0x2000 ≤ off then (mapGet 0 c.dbg.pmem ((off - 0x2000) / 4)).toNat
  else (rowRead r (c.reg a)).toNat
/-- A read of a register of the DBG block by a port. -/
def Chip.dbgRead (c : Chip) (port a : Nat) : Resp × Chip :=
  let off := a % 0x100000
  if dbgRefused c port off false then (respErr 2, c) else
  match regRow a with
  | none => (respErr 0, c)
  | some r =>
    if off = 0x114 then
      match (if coreHalted c then cselValue c (c.fld Reg.DBG_CSEL 6 0) else none) with
      | some v => (respOk v, c)
      | none => (respErr 2, c)
    else if off = 0x2000 then (respOk (dbgShown c.pmemFetch r port a), c.pmemFetch)
    else if off = 0x80C then (respOk (c.reelRead 3).1, (c.reelRead 3).2)
    else (respOk (dbgShown c r port a), c)
/-- A write of a register of the DBG block by a port. -/
def Chip.dbgWrite (c : Chip) (port a : Nat) (v : Word) : Resp × Chip :=
  let off := a % 0x100000
  if dbgRefused c port off true then (respErr 2, c) else
  match regRow a with
  | none => (respErr 0, c)
  | some r =>
    if off = 0x114 then
      if coreHalted c && (cselValue c (c.fld Reg.DBG_CSEL 6 0)).isSome then
        ({}, c.onCore (fun k => k.cselPut (c.fld Reg.DBG_CSEL 6 0) v))
      else (respErr 2, c)
    else (if 0x700 ≤ off ∧ off < 0x780 ∧ stimHolds c ((off - 0x700) / 4) then respWait else {},
      if off = 4 then c.authCtl port v
      else if 0x1000 ≤ off ∧ off < 0x1404 then
        c.onPort port (fun x => { x with
          buf := (List.range 4).foldl (fun m i => mapSet 0 m (off - 0x1000 + i) (BitVec.ofNat 8 (v.toNat / 256 ^ i))) x.buf })
      else if off = 0x100 then c.runctl v
      else if off = 0x200 then
        let c1 := c.setFld a 29 24 (Machine.fld v 29 24)
        if bitOf v 31 then c1.dbmGo else c1
      else if 0x700 ≤ off ∧ off < 0x780 then c.stim ((off - 0x700) / 4) 4 v.toNat (decide (port ≠ 3))
      else if 0x2000 ≤ off then
        let w := (off - 0x2000) / 4
        let c1 := { c with dbg := { c.dbg with pmem := mapSet 0 c.dbg.pmem w v } }
        if w = 127 then c1.pmemCommit else c1
      else c.regPut r a v)

/-- One access to the DBG block by a port that is no mesh initiator (R535, R536): the status 0 OK, 1 ERR, 2 still busy, 3 refused, the
data, and the chip. -/
def Chip.dbgAccess (c : Chip) (port : Nat) (write : Bool) (off : Nat) (v : Word) : Nat × Nat × Chip :=
  if dbgRefused c port off write then (3, 0, c)
  else if off % 4 ≠ 0 then (1, 0, c)
  else
    let r := if write then c.dbgWrite port (0x21100000 + off) v else c.dbgRead port (0x21100000 + off)
    (if r.1.status = 0 then 0 else if waitsStill r.1 then 2 else 1, r.1.data, r.2)
/-- What the next Capture-DR loads (R535): data in [31:0], status in [34:32]. -/
def captureWord (r : Nat × Nat × Chip) : Nat := r.1 * 2 ^ 32 + r.2.1

/-! ### Any access of a mesh initiator -/

/-- A read at its target, the DBG block included. -/
def Chip.anyRead (c : Chip) (who : Initiator) (a n : Nat) (peek : Bool) (tgt : Target) : Resp × Chip :=
  match tgt with
  | .register b => if regBlock b = 17 then (if n ≠ 4 then (respErr 1, c) else c.dbgRead (portOf who) b)
      else c.targetRead who a n peek tgt
  | _ => c.targetRead who a n peek tgt
/-- A write at its target, the DBG block included: a stimulus port takes 1, 2 or 4 bytes (R552). -/
def Chip.anyWrite (c : Chip) (who : Initiator) (a : Nat) (bs : List Byte) (poison : Bool) (tgt : Target) : Resp × Chip :=
  match tgt with
  | .register b =>
    if regBlock b ≠ 17 then c.targetWrite who a bs poison tgt else
    let off := b % 0x100000
    if 0x700 ≤ off ∧ off < 0x780 ∧ bs.length < 4 then
      if dbgRefused c (portOf who) off true then (respErr 2, c)
      else if poison then (respErr 8, c)
      else (if stimHolds c ((off - 0x700) / 4) then respWait else {}, c.stim ((off - 0x700) / 4) bs.length (leNat bs) (decide (who ≠ .core)))
    else if bs.length ≠ 4 then (respErr 1, c)
    else if poison then (if dbgRefused c (portOf who) off true then (respErr 2, c) else (respErr 8, c))
    else c.dbgWrite (portOf who) b (BitVec.ofNat 32 (leNat bs))
  | _ => c.targetWrite who a bs poison tgt
/-- A read of n bytes by an initiator. -/
def Chip.busRead (c : Chip) (who : Initiator) (a n : Nat) (peek : Bool) : Resp × Chip :=
  c.busAccess (decide (who = .core)) a n false (c.anyRead who a n peek)
/-- A write of bytes by an initiator. -/
def Chip.busWrite (c : Chip) (who : Initiator) (a : Nat) (bs : List Byte) (poison : Bool) : Resp × Chip :=
  c.busAccess (decide (who = .core)) a bs.length true (c.anyWrite who a bs poison)

/-! ### Rows -/

/-- REGISTER_WRITE (R9): an aligned 32-bit write; its response is the command's. -/
def execRegisterWrite (who : Initiator) (a : Addr) (v : Word) (s : State) : Host.Outcome State Fault Refusal :=
  run (fun c => (c.busWrite who a.toNat (leBytes 4 v.toNat) false).2.respond (c.busWrite who a.toNat (leBytes 4 v.toNat) false).1) s
/-- EVT_DOORBELL (R485): from the core, the host and the Debug Bus Master; any other initiator is refused. -/
def execEvtDoorbell (who : Initiator) (v : Word) (s : State) : Host.Outcome State Fault Refusal :=
  run (fun c => (c.busWrite who Reg.EVT_DOORBELL (leBytes 4 v.toNat) false).2.respond
    (c.busWrite who Reg.EVT_DOORBELL (leBytes 4 v.toNat) false).1) s
/-- WLOG_READ (R464). -/
def execWlogRead (who : Initiator) (s : State) : Host.Outcome State Fault Refusal :=
  run (fun c => (c.busRead who Reg.ODE_WLOG 4 false).2.respond (c.busRead who Reg.ODE_WLOG 4 false).1) s
/-- ODE_STAT_READ (R464). -/
def execOdeStatRead (who : Initiator) (s : State) : Host.Outcome State Fault Refusal :=
  run (fun c => (c.busRead who Reg.ODE_STAT 4 false).2.respond (c.busRead who Reg.ODE_STAT 4 false).1) s
/-- The instructions of the TAP (R535). -/
inductive TapInsn where
  | extest | idcode | samplePreload | dbgacc | bypass
  deriving DecidableEq, Repr
/-- The instruction that the TAP's register selects: EXTEST only at level 3 of the JTAG port, BYPASS for every code not listed. -/
def tapInsn (c : Chip) : TapInsn :=
  match c.dbg.ir.toNat with
  | 0 => if 3 ≤ portLevel c 0 then .extest else .bypass
  | 1 => .idcode
  | 2 => .samplePreload
  | 8 => .dbgacc
  | _ => .bypass
/-- What a Capture-DR loads (R535): the length of the selected data register and its value; none for the boundary scan, whose cells the
spec does not list. The version of IDCODE is the silicon revision. (DESIGN CHOICE: log 190) -/
def tapCapture (c : Chip) : Option (Nat × Nat) :=
  match tapInsn c with
  | .extest => none
  | .samplePreload => none
  | .idcode => some (32, Config.siliconRevision.toNat % 16 * 2 ^ 28 + 0x05311879)
  | .dbgacc => some (53, c.dbg.tdr)
  | .bypass => some (1, 0)
/-- DBGACC (R535): the instruction register holds 0x8, and Update-DR makes the access, whose data and status the next Capture-DR loads. -/
def execDbgacc (write : Bool) (off : BitVec 20) (v : Word) (s : State) : Host.Outcome State Fault Refusal :=
  run (fun c =>
    let r := c.dbgAccess 0 write off.toNat v
    { r.2.2 with dbg := { r.2.2.dbg with ir := 8, tdr := captureWord r } }) s
/-- Is an access of a port, or of the core where there is none, to the DBG block refused (R534)? -/
def portRefused (c : Chip) (port : Option (Fin 3)) (off : Nat) (write : Bool) : Bool :=
  dbgRefused c (match port with
    | some p => p.val
    | none => 3) off write
/-- STIM_WRITE (R534, R552): a write of 1, 2 or 4 bytes (`size` 0, 1, 2) to DBG_STIMp, by a debug port or, with none, by the core. -/
def execStimWrite (p : Fin 32) (size : Fin 3) (data : Word) (port : Option (Fin 3)) (s : State) : Host.Outcome State Fault Refusal :=
  run (fun c =>
    if portRefused c port (0x700 + 4 * p.val) true then c.respond (respErr 2) else
    (c.stim p.val (2 ^ size.val) data.toNat port.isSome).respond (if stimHolds c p.val then respWait else {})) s
/-- REEL_WIN_READ (R534, R556): of a word of the window, by a debug port or, with none, by the core. -/
def execReelWinRead (w : Fin 4 × Option (Fin 3)) (s : State) : Host.Outcome State Fault Refusal :=
  run (fun c =>
    if portRefused c w.2 (0x800 + 4 * w.1.val) false then c.respond (respErr 2) else
    (c.reelRead w.1.val).2.respond (respOk (c.reelRead w.1.val).1)) s
/-- DEBUG_RESET (R534, R556): DBG_RUNCTL.RESET, which a port at level 2 or more can write, runs the capsule with CAUSE 0x4. -/
def execDebugReset (s : State) : Host.Outcome State Fault Refusal :=
  run (fun c => if somePortHolds c 2 then c.capsuleStart 4 else c) s
/-- CHALT (R541), from a port at level 2 or more. -/
def execChalt (p : Fin 3) (s : State) : Host.Outcome State Fault Refusal :=
  run (fun c => if 2 ≤ portLevel c p.val then c.coreHaltNow else c) s
/-- CRESUME (R541). -/
def execCresume (p : Fin 3) (s : State) : Host.Outcome State Fault Refusal :=
  run (fun c => if 2 ≤ portLevel c p.val then c.coreResume else c) s
/-- CSTEP (R542): the step begins; the instruction that comes next executes and ends it. -/
def execCstep (p : Fin 3) (s : State) : Host.Outcome State Fault Refusal :=
  run (fun c => if 2 ≤ portLevel c p.val then c.coreStep else c) s
/-- ASTOP (R545). -/
def execAstop (p : Fin 3) (s : State) : Host.Outcome State Fault Refusal :=
  run (fun c => if 2 ≤ portLevel c p.val then c.arrayStop else c) s
/-- ARELEASE (R545). -/
def execArelease (p : Fin 3) (s : State) : Host.Outcome State Fault Refusal :=
  run (fun c => if 2 ≤ portLevel c p.val then c.arrayRelease else c) s
/-- ASTEP (R545). -/
def execAstep (p : Fin 3) (s : State) : Host.Outcome State Fault Refusal :=
  run (fun c => if 2 ≤ portLevel c p.val then c.arrayStep else c) s
/-- DBM_ACCESS (R548). -/
def execDbmAccess (p : Fin 3) (s : State) : Host.Outcome State Fault Refusal :=
  run (fun c => if 3 ≤ portLevel c p.val then c.dbmGo else c) s
/-- PMEM_READ (R550): what DBG_PMEM_DATA0 returns is the response. -/
def execPmemRead (p : Fin 3) (s : State) : Host.Outcome State Fault Refusal :=
  run (fun c =>
    let r := c.dbgRead p.val (Reg.DBG_PMEM_DATAw 0)
    r.2.respond r.1) s
/-- PMEM_COMMIT (R550). -/
def execPmemCommit (p : Fin 3) (v : Word) (s : State) : Host.Outcome State Fault Refusal :=
  run (fun c =>
    let r := c.dbgWrite p.val (Reg.DBG_PMEM_DATAw 127) v
    r.2.respond r.1) s

end Sys2Proof.Machine
end

