-- ==== Sys2Proof/Machine/Dictionary.lean ====
section
/-!
DEFINITION. The Object Dictionary Engine's accesses (R428 to R434, R440, R448, R452 to R456, R459 to R463, R502, R536): what a read
returns, the checks of a write, what a write does, and the writes that transactions stage and apply.
-/
namespace Sys2Proof.Machine

/-! ### Abort codes (R434) and rights (R429, R438 to R440) -/

/-- The codes of R434. -/
def abortCodes : List Nat :=
  [0x05040001, 0x05040003, 0x05040005, 0x06010001, 0x06010002, 0x06020000, 0x06040041, 0x06040042, 0x06070010, 0x06090011,
    0x06090030, 0x08000000, 0x08000020, 0x08000022, 0x08000024]

/-- What an access brings with it: whether it arrives within a session whose MAC has passed (R429), the session, whether it came
over OD-over-UDP (R536), and the CAN client (R439). -/
structure OdRights where
  sealed  : Bool := false
  session : Option Nat := none
  udp     : Bool := false
  client  : Option Nat := none
  deriving DecidableEq, Repr

/-- Log a write of a firmware-backed object (R431, R464): EV232; a full log loses the entry and sets OVF. (DESIGN CHOICE: log 88) -/
def Chip.odLog (c : Chip) (index sub : Nat) : Chip :=
  let c1 := if 64 ≤ c.od.wlog.length then c.setBit Reg.ODE_WLOG_STAT 31 true
    else { c with od := { c.od with wlog := c.od.wlog ++ [(index, sub)] } }
  c1.raise 232

/-! ### The worker window (R456) -/

/-- Does the index lie in the window of a manager? -/
def inWorkerWindow (c : Chip) (index : Nat) : Bool := decide (0x6000 ≤ index) && decide (index < 0xA000) && isManager c
/-- The abort code of an access to worker d, 0 where it reaches the worker. (DESIGN CHOICE: log 84) -/
def workerAbort (c : Chip) (d : Nat) : Nat :=
  if d = 0 then 0x06020000
  else if c.spin.map.testBit d && (reachMask c).testBit d then 0
  else 0x08000024
/-- The worker's answer, a free value: a code of R434 or none, and for a read its data. (DESIGN CHOICE: log 84) -/
def Chip.workerAnswer (c : Chip) (write : Bool) : Nat × List Byte × Chip :=
  let q := c.drawFree
  let code := listGet 0 (0 :: abortCodes) (q.1.toNat % 16)
  if write || decide (code ≠ 0) then (code, [], q.2) else
    let n := q.2.drawFree
    let d := n.2.drawBytes (n.1.toNat % 1441)
    (0, d.1, d.2)

/-! ### Reads (R428, R431) -/

/-- The abort code of a sub-index that does not exist (R426). -/
def missingAbort (c : Chip) (index : Nat) : Nat := if odIndexExists c index then 0x06090011 else 0x06020000

/-- What a sub-index that its rule computes reads as. (PRESUMED: log 86) -/
def odComputed (c : Chip) (client : Option Nat) (index sub : Nat) : List Byte :=
  if index = 0x1009 then Config.hardwareVersion.take 64
  else if index = 0x100A then Config.softwareVersion.take 64
  else if index = 0x1010 ∨ index = 0x1011 then leBytes 4 1
  else if index = 0x1018 then (if sub = 3 then leBytes 4 Config.siliconRevision.toNat else (otpSerial c).take 4)
  else if index = 0x2000 then leBytes 1 (modeOf c)
  else if 0x3000 ≤ index ∧ index < 0x3020 then
    (if sub = 0x15 then leBytes 4 (capStream c (index - 0x3000)).started else leBytes 8 (mapGet 0 c.ev.nextSeq (index - 0x3000)))
  else if index = 0x3200 then [0]
  else if 0x4000 ≤ index ∧ index < 0x4400 then
    leBytes 8 ((c.reg (Reg.kernelWord (index - 0x4000) 0)).toNat + c.fld (Reg.kernelWord (index - 0x4000) 0 + 4) 7 0 * 2 ^ 32)
  else if index = 0x5E10 then (List.range 0x6000).map (snapByte c)
  else if index = 0x5E11 then (List.range 0x4000).map (fun i => snapByte c (0x6000 + i))
  else if index = 0x5E12 then (List.range 0x4000).map (fun i => snapByte c (0xA000 + i))
  else if index = 0x5F11 then mapGet [] c.od.tunnel (client.getD 0)
  else if index = 0x5F21 then c.dbg.answer
  else []

/-- A sub-index's value without an access to its registers: what the dictionary holds, or the stored field. -/
def odValue (c : Chip) (index sub : Nat) (r : OdRow) : List Byte :=
  match r.back with
  | .held => odHeld c index sub
  | .field a hi lo => leBytes r.size (c.fld a hi lo)
  | .words a n => (List.range n).flatMap (fun i => leBytes 4 (c.reg (a + 4 * i)).toNat)
  | .special => odComputed c none index sub

/-- Read n whole registers as the engine. (DESIGN CHOICE: log 90) -/
def Chip.odReadWords (c : Chip) (a : Nat) : Nat → Option (List Byte) × Chip
  | 0 => (some [], c)
  | n + 1 =>
    let x := c.odReadWords a n
    let y := x.2.busRead .engine (a + 4 * n) 4 false
    match x.1 with
    | some bs => (if y.1.status = 0 then some (bs ++ leBytes 4 y.1.data) else none, y.2)
    | none => (none, y.2)

/-- A read of a sub-index (R426, R428, R431): the abort code or 0, and the value. -/
def Chip.odRead (c : Chip) (client : Option Nat) (index sub : Nat) : Nat × List Byte × Chip :=
  if inWorkerWindow c index then
    let a := workerAbort c (odNat c 0x2F00 0)
    if a ≠ 0 then (a, [], c) else c.workerAnswer false
  else
    match odRow c index sub with
    | none => (missingAbort c index, [], c)
    | some r =>
      if r.acc = .wo then (0x06010001, [], c) else
      match r.back with
      | .held => (0, odHeld c index sub, c)
      | .field a hi lo =>
        let x := c.busRead .engine a 4 false
        if x.1.status = 0 then (0, leBytes r.size (natBits x.1.data hi lo), x.2) else (0x08000000, [], x.2)
      | .words a n =>
        match c.odReadWords a n with
        | (some bs, d) => (0, bs, d)
        | (none, d) => (0x08000000, [], d)
      | .special => (0, odComputed c client index sub, c)

/-! ### The checks of a write (R433) -/

/-- The bytes that a mapping names. -/
def mappedBytes (l : List Nat) : Nat := (l.map (fun e => e % 256 / 8)).foldl (· + ·) 0
/-- May a mapping name this object (R428, R446)? (DEDUCED: log 85) -/
def mayMap (c : Chip) (rpdo : Bool) (e : Nat) : Bool :=
  match odRow c (e / 65536) (e / 256 % 256) with
  | some r => !r.var && decide (e % 256 = 8 * r.size) && !r.sealedW &&
      (if rpdo then decide (r.acc = .rww) else decide (r.acc = .ro) || decide (r.acc = .rwr))
  | none => false
/-- The entries of a mapping object: the first n. -/
def mapEntries (c : Chip) (index n : Nat) : List Nat := (List.range n).map (fun i => odNat c index (i + 1))
/-- The abort code of a PDO mapping's value (R434, R446), 0 where it may stand. (DEDUCED: log 85) -/
def mappingAbort (c : Chip) (index sub v : Nat) : Nat :=
  let n := odNat c index 0
  if sub = 0 then (if 64 < mappedBytes (mapEntries c index v) then 0x06040042 else 0)
  else if v = 0 then 0
  else if !mayMap c (decide (index < 0x1700)) v then 0x06040041
  else if sub ≤ n ∧ 64 < mappedBytes (listSet (mapEntries c index n) (sub - 1) v) then 0x06040042
  else 0

/-- Values that a number's bounds do not show (R279, R447, R449, R452): a trigger's reserved bits and SOURCE, device 0 of the system map,
and a stream's WIDTH and HEIGHT, which are multiples of 8.
(DESIGN CHOICE: log 87) -/
def reservedCode (index sub v : Nat) : Bool :=
  if index = 0x3200 ∧ 1 ≤ sub ∧ sub ≤ 8 then
    decide (natBits v 29 24 ≠ 0) || !(decide (v = 0) || (decide (1 ≤ natBits v 23 16) && decide (natBits v 23 16 ≤ 4)))
  else if index = 0x2F01 ∧ sub = 1 then !v.testBit 0
  else if 0x3000 ≤ index ∧ index < 0x3020 ∧ (sub = 4 ∨ sub = 5) then decide (v % 8 ≠ 0)
  else if index = 0x5F30 ∧ sub = 1 then decide (v = 2)
  else false

/-- Is Salun in SERVICE? -/
def inService (c : Chip) : Bool := decide (phaseOf c = 0) && decide (modeOf c = 5)
/-- Does the present mode or state refuse the write (R439, R454, R510, R536)? -/
def stateRefuses (c : Chip) (r : OdRights) (index : Nat) : Bool :=
  if index = 0x4401 then !inService c || !c.bit Reg.GRN_CTL 3
  else if index = 0x5400 then !inService c
  else if index = 0x5F20 then !inService c || !r.udp
  else if index = 0x5F10 then r.client.isNone
  else false

/-- The checks of R433 in order: the abort code of the first that fails, 0 where all pass. (DESIGN CHOICE: log 87) -/
def odWriteAbort (c : Chip) (r : OdRights) (index sub : Nat) (data : List Byte) : Nat :=
  if inWorkerWindow c index then 0 else
  match odRow c index sub with
  | none => missingAbort c index
  | some w =>
    let v := leNat data
    if w.acc = .ro ∨ w.acc = .constant then 0x06010002
    else if (if w.var then decide (w.size < data.length) else decide (data.length ≠ w.size)) then 0x06070010
    else if w.sealedW && !r.sealed then 0x08000020
    else if !w.var && (decide (v < w.lo) || decide (w.hi < v) || reservedCode index sub v) then 0x06090030
    else if (decide (0x1600 ≤ index) && decide (index ≤ 0x1603) || decide (0x1A00 ≤ index) && decide (index ≤ 0x1A03)) &&
        decide (mappingAbort c index sub v ≠ 0) then mappingAbort c index sub v
    else if stateRefuses c r index then 0x08000022
    else 0

/-! ### What a write does -/

/-- Write n whole registers as the engine. -/
def Chip.odWriteWords (c : Chip) (a : Nat) : List Byte → Nat → Bool × Chip
  | _, 0 => (true, c)
  | bs, n + 1 =>
    let x := c.busWrite .engine a (bs.take 4) false
    let y := x.2.odWriteWords (a + 4) (bs.drop 4) n
    (decide (x.1.status = 0) && y.1, y.2)
/-- Write a field of a register as the engine: the other RW bits keep their value. -/
def Chip.odWriteField (c : Chip) (a hi lo v : Nat) : Bool × Chip :=
  let rw := match regRow a with
    | some r => BitVec.ofNat 32 r.rw
    | none => 0
  let x := c.busWrite .engine a (leBytes 4 (Machine.setFld (c.reg a &&& rw) hi lo v).toNat) false
  (decide (x.1.status = 0), x.2)
/-- Store a value by its backing (R431): the abort code. A write of 0x3101 rules the next due instant (R321). A shorter OCTET_STRING
fills its registers up with zeros. (DESIGN CHOICE: log 189) -/
def Chip.odStore (c : Chip) (index sub : Nat) (w : OdRow) (data : List Byte) : Nat × Chip :=
  match w.back with
  | .held => (0, (c.odSet index sub data).followInterval c)
  | .field a hi lo =>
    let x := c.odWriteField a hi lo (leNat data)
    (if x.1 then 0 else 0x08000000, x.2)
  | .words a n =>
    let x := c.odWriteWords a (listFit 0 (4 * n) data) n
    (if x.1 then 0 else 0x08000000, x.2)
  | .special =>
    if 0x4000 ≤ index ∧ index < 0x4400 then
      let a := Reg.kernelWord (index - 0x4000) 0
      let x := c.odWriteWords a (data.take 4) 1
      let y := x.2.odWriteField (a + 4) 7 0 (leNat (data.drop 4))
      (if x.1 && y.1 then 0 else 0x08000000, y.2)
    else (0, c)

/-! #### The persistent store (R460 to R462) -/

/-- Is a sub-index persistent (R460)? -/
def odPersistent (c : Chip) (index sub : Nat) : Bool :=
  match odRow c index sub with
  | some r => decide (r.acc = .rw) && decide (r.size ≤ 44) && decide (index < 0x5E00) && decide (index ≠ 0x2F00)
  | none => false
/-- The indices that exist below the lifetime area, where persistent sub-indices lie. -/
def odIndices (c : Chip) : List Nat :=
  ((List.range 0x800).map (fun i => 0x1000 + i) ++ (List.range 0x300).map (fun i => 0x1800 + i) ++
    [0x2000, 0x2001, 0x2002, 0x2010, 0x2020, 0x2100, 0x2F00, 0x2F01] ++ (List.range 32).map (fun i => 0x3000 + i) ++
    [0x3100, 0x3101, 0x3102, 0x3103, 0x3200] ++ (List.range 0x401).map (fun i => 0x4000 + i) ++
    (List.range 8).map (fun i => 0x5000 + i) ++ [0x5100, 0x5200, 0x5201, 0x5300] ++ (List.range 0x53).map (fun i => 0x5400 + i) ++
    (List.range 16).map (fun i => 0x5500 + i)).filter (odIndexExists c)
/-- The current values of the persistent sub-indices. -/
def persistentRecords (c : Chip) : List StoreRecord :=
  (odIndices c).flatMap (fun i => (List.range 65).filterMap (fun j =>
    match odRow c i j with
    | some r => if odPersistent c i j then some { index := i, sub := j, value := odValue c i j r } else none
    | none => none))
/-- A write of 0x1010:01 (R462): "save". (DESIGN CHOICE: log 90) -/
def Chip.odSave (c : Chip) (v : Nat) : Nat × Chip :=
  if c.silo.capsule.isSome then (0x08000022, c) else
  if v = 0x65766173 then (0, (c.switchHalf (persistentRecords c)).raise 235) else (0x08000020, c)
/-- A write of 0x1011:01 (R462): "load". -/
def Chip.odRestore (c : Chip) (v : Nat) : Nat × Chip :=
  if c.silo.capsule.isSome then (0x08000022, c) else
  if v = 0x64616F6C then (0, (c.switchHalf []).raise 235) else (0x08000020, c)

/-! #### Images (R454, R502) -/

/-- The staging buffer (R464). -/
def odStage (c : Chip) : Nat := c.fld Reg.ODE_STAGE_LO 31 12 * 4096 + c.fld Reg.ODE_STAGE_HI 7 0 * 2 ^ 32
/-- The arguments of IMAGE_LOAD for the staged container. -/
def stagedArgs (c : Chip) (typ : Nat) : List Nat := [odStage c % 2 ^ 32, odStage c / 2 ^ 32, typ]
/-- Does the Seal Unit answer commands (R362, R364)? -/
def sealServes (c : Chip) : Bool :=
  c.isOn .sealUnit && decide (lifecycle c ≠ 3) && (decide (sealState c = 1) || decide (sealState c = 2))
/-- A write of 0x4401 (R454): the container is staged and IMAGE_LOAD of TYPE 0x03 is issued; a load that is refused aborts.
(DESIGN CHOICE: log 64) -/
def Chip.odMicrocode (c : Chip) (data : List Byte) : Nat × Chip :=
  let x := c.blockWriteLong (data.length / 4096 + 2) (odStage c) data
  if !x.1 || !sealServes x.2 then (0x08000000, x.2) else
  let a := imageLoad x.2 (stagedArgs c 3)
  let bad := match a.chip.su.load with
    | some l => a.waits && decide (l.verdict ≠ 0)
    | none => a.waits
  (if a.status = 0 ∧ !bad then 0 else 0x08000000, a.chip)

/-- Firmware commits a record of a Weave image (R498, R502): the frame number, then the 80 words of the window. -/
def Chip.weaveRecord (c : Chip) (r : List Byte) : Chip :=
  (List.range 80).foldl (fun (d : Chip) w => d.weaveWindow w (leNat ((r.drop (4 + 4 * w)).take 4)))
    (c.setFld Reg.WEAVE_CFG_ADDR 9 0 (leNat (r.take 2)))
/-- Firmware's load of a checked Weave payload (R502): HOLD codes, LOAD, CLEAR, the records in order, START. -/
def Chip.weaveImage (c : Chip) (p : List Byte) : Chip :=
  let c1 := (List.range 64).foldl (fun (d : Chip) k =>
    let h := bytesNat p (0x10 + k) 1
    if h = 0xFF then d else d.weavePin k (Machine.setFld (d.reg (Reg.WEAVE_PINk k)) 14 12 h)) c
  let c2 := (c1.weaveLoad (bytesNat p 3 1 % 16)).weaveClear (bytesNat p 4 1 % 16)
  ((List.range (bytesNat p 8 2)).foldl (fun (d : Chip) i => d.weaveRecord ((p.drop (0x50 + 324 * i)).take 324)) c2).weaveStart
/-- Is a payload laid out as R502 gives? -/
def weavePayloadOk (p : List Byte) : Bool :=
  decide (bytesNat p 0 2 = 0x5657) && decide (bytesNat p 2 1 = 1) && decide (bytesNat p 3 1 < 16) && decide (bytesNat p 4 1 < 16) &&
    decide (bytesNat p 8 2 ≤ 1024) && decide (p.length = 0x50 + 324 * bytesNat p 8 2)
/-- A write of 0x5400 (R502, R510): the container is staged; firmware has the Seal Unit check it as TYPE 0x06 and loads its payload.
0x5401 shows 1 loaded, 2 rejected. (DESIGN CHOICE: log 89) -/
def Chip.odWeave (c : Chip) (data : List Byte) : Nat × Chip :=
  let x := c.blockWriteLong (data.length / 4096 + 2) (odStage c) data
  if !x.1 then (0x08000000, x.2) else
  if !sealServes x.2 then (0, x.2.odSet 0x5401 0 [2]) else
  let a := imageLoadEnd x.2 (stagedArgs c 6)
  if a.1 ≠ 0 then (0, a.2.odSet 0x5401 0 [2]) else
  let n := hdrNat data 0x0C 4
  let p := a.2.blockReadLong (n / 4096 + 2) (hdrNat data 0x10 8) n
  if p.2.1 && weavePayloadOk p.1 then (0, (p.2.2.weaveImage p.1).odSet 0x5401 0 [1]) else (0, p.2.2)

/-! #### Debug accesses (R536) -/

/-- The accesses of a write of 0x5F20, made in order by the Ethernet port; their results. -/
def Chip.odDebug (c : Chip) : Nat → List Byte → List Byte × Chip
  | 0, _ => ([], c)
  | n + 1, bs =>
    let v := leNat (bs.take 8)
    let x := c.dbgAccess 2 (v.testBit 52) (natBits v 51 32) (BitVec.ofNat 32 v)
    let y := x.2.2.odDebug n (bs.drop 8)
    (leBytes 8 (captureWord x) ++ y.1, y.2)
/-- A write of 0x5F20. -/
def Chip.odDebugWrite (c : Chip) (data : List Byte) : Nat × Chip :=
  if data.length % 8 ≠ 0 then (0x06070010, c) else
  let x := c.odDebug (data.length / 8) data
  (0, { x.2 with dbg := { x.2.dbg with answer := x.1 } })

/-! #### Transactions (R440) -/

/-- A write of 0x5F30:01: OPEN, COMMIT or ABORT is passed to SILO_TXCMD; a refusal aborts. -/
def Chip.odTxCmd (c : Chip) (session : Option Nat) (op : Nat) : Nat × Chip :=
  if !c.isOn .silo || c.silo.capsule.isSome then (0x08000022, c) else
  let d := c.txCmd op
  if d.fld Reg.SILO_TXSTAT 23 16 ≠ 0 then (0x08000022, d)
  else if op = 1 then (0, { d with silo := { d.silo with txOwner := session } })
  else (0, d)
/-- Has the session a transaction of its own that is OPEN? -/
def stagesWrites (c : Chip) (r : OdRights) : Bool :=
  r.session.isSome && decide (c.silo.txOwner = r.session) && decide (txState c = 1)
/-- The checks of a write that the object's row does not hold, made before it is staged (R433, R440): a mode request's (R448, R457), and
for the worker window the manager's and the worker's own, whose verdict is a free value (R456). (DESIGN CHOICE: log 84) -/
def Chip.odStageCheck (c : Chip) (r : OdRights) (worker index : Nat) (data : List Byte) : Nat × Chip :=
  if inWorkerWindow c index then
    let b := workerAbort c worker
    if b ≠ 0 then (b, c) else ((c.workerAnswer true).1, (c.workerAnswer true).2.2)
  else if index = 0x2000 then c.modeCheck (leNat data) r.sealed
  else (0, c)
/-- Stage a checked write (R440): OD_PERSIST with PERSIST, else OD. After a capsule's start the log takes no entry (R379). -/
def Chip.odStageWrite (c : Chip) (index sub : Nat) (data : List Byte) : Nat × Chip :=
  if 16 < data.length ∨ data.isEmpty ∨ c.silo.capsule.isSome then (0x08000022, c) else
  let kind := if odNat c 0x5F30 2 = 1 then 3 else 2
  let e := leBytes 1 kind ++ leBytes 1 data.length ++ List.replicate 6 0 ++ leBytes 8 (sub * 65536 + index) ++ listFit 0 16 data
  let d := c.txStageEntry e
  if d.fld Reg.SILO_TXSTAT 23 16 = 0 then (0, d) else (0x08000022, d)

/-! #### Messages through the tunnel (R439) -/

/-- A field of a message of R416. -/
def msgNat (m : List Byte) (i n : Nat) : Nat := leNat ((m.drop i).take n)
/-- OP of a message. -/
def msgOp (m : List Byte) : Nat := msgNat m 3 1
/-- SID of a message. -/
def msgSid (m : List Byte) : Nat := msgNat m 4 1
/-- BODY of a message. -/
def msgBody (m : List Byte) : List Byte := (m.drop 0x18).take (msgNat m 6 2)
/-- Bytes of a message before its MAC. -/
def msgCore (m : List Byte) : List Byte := m.take (0x18 + msgNat m 6 2)
/-- Is a MAC due (R416)? -/
def macDue (op sid : Nat) : Bool := !(decide (op = 1) || decide (op = 2) || decide (sid = 0xFF))

/-- What the checks of R417 make of a request. -/
inductive OdVerdict where
  | drop | replay (answer : List Byte) | take
  deriving DecidableEq, Repr

/-- Check 1 of R417: MAGIC, VERSION and the length. -/
def messageOk (window : Bool) (m : List Byte) : Bool :=
  decide (0x18 ≤ m.length) && decide (msgNat m 0 2 = 0x444F) && decide (msgNat m 2 1 = 1) &&
    decide (m.length = 0x18 + msgNat m 6 2 + (if macDue (msgOp m) (msgSid m) then 16 else 0)) &&
    decide (msgNat m 6 2 ≤ if window then 4048 else 1400)
/-- The checks of R417 in order; `window`: the message came through the PCIe-A window, where SID 0xFF may READ and WRITE (R411). -/
def Chip.odCheck (c : Chip) (window : Bool) (m : List Byte) : OdVerdict × Chip :=
  let op := msgOp m
  let sid := msgSid m
  if !messageOk window m then (.drop, c)
  else if op = 1 then (if sid = 0xFF then .take else .drop, c)
  else if sid = 0xFF then (if window && (decide (op = 0x10) || decide (op = 0x11)) then .take else .drop, c)
  else
    match sessionOf c sid with
    | none => (.drop, c)
    | some x =>
      if op = 2 then (if x.isOpen then .drop else .take, c)
      else if !x.isOpen then (.drop, c)
      else
        match (if x.seqLast = some (msgNat m 8 8) then c.od.copies.find? (fun e => e.1 == sid && e.2.1 == m) else none) with
        | some e => (.replay e.2.2, c)
        | none =>
          let k := c.checkMac sid (msgNat m 8 8) (msgCore m) (m.drop (0x18 + msgNat m 6 2))
          (if k.1 = 0 then .take else .drop, k.2)

/-- Does a response carry an abort (R416)? Each abort sent raises EV233, a copied one too (R438). -/
def answerAborts (bs : List Byte) : Bool := (msgNat bs 5 1).testBit 1
/-- The response buffer of a CAN client's tunnel. -/
def Chip.setTunnel (c : Chip) (client : Nat) (bs : List Byte) : Chip :=
  { c with od := { c.od with tunnel := mapSet [] c.od.tunnel client bs } }
/-- A write of 0x5F10 by a CAN client (R439): the request is checked as a datagram would be; one that would be dropped aborts. It is
executed before the accesses that came after it. -/
def Chip.odTunnel (c : Chip) (client : Nat) (m : List Byte) : Nat × Chip :=
  match c.odCheck false m with
  | (.drop, d) => (0x08000020, d)
  | (.replay a, d) => (0, (d.raiseIf (answerAborts a) 233).setTunnel client a)
  | (.take, d) =>
    let e := d.setTunnel client []
    (0, { e with od := { e.od with jobs := .message (.tunnel client) m :: e.od.jobs } })

/-! #### Every write -/

/-- Is an accepted write logged (R431): is the object neither register-backed nor read by the Seal Unit? (DESIGN CHOICE: log 88) -/
def firmwareBacked (index sub : Nat) (w : OdRow) : Bool :=
  match w.back with
  | .held => !(decide (0x3100 ≤ index) && decide (index ≤ 0x3103))
  | .field _ _ _ => false
  | .words _ _ => false
  | .special => !(decide (0x4000 ≤ index) && decide (index < 0x4400)) && decide (index ≠ 0x5E00) && !(decide (index = 0x5F30) && decide (sub = 1))

/-- What a write that has passed R433 does. -/
def Chip.odPerform (c : Chip) (r : OdRights) (index sub : Nat) (w : OdRow) (data : List Byte) : Nat × Chip :=
  let v := leNat data
  if index = 0x1010 ∧ sub = 1 then c.odSave v
  else if index = 0x1011 ∧ sub = 1 then c.odRestore v
  else if index = 0x2000 then c.modeRequest v r.sealed
  else if index = 0x3200 ∧ sub = 0x0A then (0, if v = 1 then c.externalTrigger else c)
  else if index = 0x4401 then c.odMicrocode data
  else if index = 0x5400 then c.odWeave data
  else if index = 0x5E00 ∧ sub = 1 then (0, if v = 1 then c.lifeTake else c)
  else if index = 0x5E00 ∧ sub = 2 then (0, c.lifeFlush)
  else if index = 0x5F10 then c.odTunnel (r.client.getD 0) data
  else if index = 0x5F20 then c.odDebugWrite data
  else if index = 0x5F30 ∧ sub = 1 then c.odTxCmd r.session v
  else c.odStore index sub w data
/-- Note a write that makes firmware stop a stream and start it again (R450): VC, FORMAT, or ENABLE = 0. -/
def Chip.noteRestart (c : Chip) (index sub : Nat) (data : List Byte) : Chip :=
  if 0x3000 ≤ index ∧ index < 0x3020 ∧ (sub = 2 ∨ sub = 3 ∨ (sub = 1 ∧ leNat data = 0)) ∧ !c.od.restarts.contains (index - 0x3000) then
    { c with od := { c.od with restarts := c.od.restarts ++ [index - 0x3000] } }
  else c
/-- A write, complete (R432, R433, R440, R456): `worker` is the worker selected at its first segment. (DESIGN CHOICE: log 89) -/
def Chip.odWrite (c : Chip) (r : OdRights) (worker index sub : Nat) (data : List Byte) : Nat × Chip :=
  let a := odWriteAbort c r index sub data
  if a ≠ 0 then (a, c)
  else if stagesWrites c r && decide (index ≠ 0x5F30) then
    let b := c.odStageCheck r worker index data
    if b.1 ≠ 0 then b else b.2.odStageWrite index sub data
  else if inWorkerWindow c index then
    let b := workerAbort c worker
    if b ≠ 0 then (b, c) else ((c.workerAnswer true).1, (c.workerAnswer true).2.2)
  else
    match odRow c index sub with
    | none => (0, c)
    | some w =>
      let x := c.odPerform r index sub w data
      (x.1, if x.1 = 0 && firmwareBacked index sub w then (x.2.odLog index sub).noteRestart index sub data else x.2)

/-! ### Multi-segment writes (R416, R432) -/

/-- Discard the pending write of a client. -/
def Chip.dropPending (c : Chip) (client : Nat) : Chip :=
  { c with od := { c.od with writes := c.od.writes.filter (fun w => decide (w.client ≠ client)) } }
/-- One segment of a write by a client. -/
def Chip.odSegment (c : Chip) (r : OdRights) (client index sub : Nat) (last : Bool) (offset : Nat) (data : List Byte) : Nat × Chip :=
  if offset = 0 then
    let c1 := c.dropPending client
    let worker := odNat c 0x2F00 0
    if last then c1.odWrite r worker index sub data
    else if 16 ≤ c1.od.writes.length then (0x05040005, c1)
    else (0, { c1 with od := { c1.od with
      writes := c1.od.writes ++ [{ client := client, index := index, sub := sub, data := data, since := c1.ns, worker := worker }] } })
  else
    match c.od.writes.find? (fun w => decide (w.client = client)) with
    | none => (0x05040003, c)
    | some w =>
      if w.index ≠ index ∨ w.sub ≠ sub ∨ w.data.length ≠ offset then (0x05040003, c.dropPending client)
      else if last then (c.dropPending client).odWrite r w.worker index sub (w.data ++ data)
      else (0, { c with od := { c.od with writes := c.od.writes.map (fun x =>
        if x.client = client then { x with data := x.data ++ data, since := c.ns } else x) } })

/-! ### The application of a transaction (R389) -/

/-- One entry: its effect, and whether it went wrong. REG entries read, merge under MASK and write; OD kinds are written with the
core's rights, and OD_PERSIST entries also go to the store. (DESIGN CHOICE: log 96) -/
def Chip.applyEntry (c : Chip) (e : TxEntry) : Bool × Chip :=
  let a := bytesNat e 8 8
  if e.isEmpty then (true, c) else
  if bytesNat e 0 1 = 1 then
    let mask := BitVec.ofNat 32 (bytesNat e 4 4)
    let data := BitVec.ofNat 32 (bytesNat e 16 4)
    if mask = 0xFFFFFFFF#32 then
      let x := c.busWrite .transactions a (leBytes 4 data.toNat) false
      (decide (x.1.status ≠ 0), x.2)
    else
      let x := c.busRead .transactions a 4 false
      if x.1.status ≠ 0 then (true, x.2) else
      let y := x.2.busWrite .transactions a (leBytes 4 ((BitVec.ofNat 32 x.1.data &&& ~~~mask) ||| (data &&& mask)).toNat) false
      (decide (y.1.status ≠ 0), y.2)
  else
    let o := txObject e
    let x := c.odWrite { sealed := true } (odNat c 0x2F00 0) o.index o.sub o.value
    let d := if x.1 = 0 ∧ bytesNat e 0 1 = 3 then x.2.storeAppend o else x.2
    (decide (x.1 ≠ 0), d)
/-- The entries in staging order; each that goes wrong is recorded in SILO_TXERR. A capsule that starts on the way stops the application
after the entry in progress (R390). (DESIGN CHOICE: log 96) -/
def Chip.applyEntries (c : Chip) : Nat → List TxEntry → Chip
  | _, [] => c
  | i, e :: rest =>
    if c.silo.capsule.isSome then c else
    let x := c.applyEntry e
    let n := x.2.fld Reg.SILO_TXERR 28 16
    let d := if x.1 then
        let f := if n = 0 then x.2.setFld Reg.SILO_TXERR 12 0 i else x.2
        (f.setFld Reg.SILO_TXERR 28 16 (n + 1)).setBit Reg.SILO_TXERR 31 true
      else x.2
    d.applyEntries (i + 1) rest

end Sys2Proof.Machine
end

