-- ==== Sys2Proof/Machine/DictEngine.lean ====
section
/-!
DEFINITION. The engine's order of accesses (R432), the messages of R416 on their three ways, the CANopen node (R435 to R437, R442,
R444), the end of a transaction's application (R389), the store's load (R461), and the rows that name one object's write.
-/
namespace Sys2Proof.Machine

/-! ### Responses (R416, R417, R438) -/

/-- Send a response on the way its request came: a datagram's from port 21570 to its source (R415). -/
def Chip.odSend (c : Chip) (via : OdVia) (bs : List Byte) : Chip :=
  match via with
  | .udp m src =>
    let tag := src.length % 12 / 4 % 2 * 4
    let n := src.length
    (c.onMac m (fun x => { x with answers := x.answers ++ [{ mac := m, src := src, payload := bs }] })).udpSend m (src.take 6)
      ((src.drop 6).take tag) ((src.drop (6 + tag)).take (n - 8 - tag)) 21570 (beNat (src.drop (n - 2))) bs
  | .slot k => { c with host := { c.host with answers := c.host.answers ++ [(k, bs)] } }
  | .tunnel client => c.setTunnel client bs
/-- The bytes of a response before its MAC. -/
def responseCore (m : List Byte) (sid : Nat) (err : Bool) (seqNo : Nat) (body : List Byte) : List Byte :=
  [0x4F, 0x44, 0x01] ++ leBytes 1 (msgOp m) ++ leBytes 1 sid ++ leBytes 1 (1 + 2 * err.toNat) ++ leBytes 2 body.length ++
    leBytes 8 seqNo ++ leBytes 8 (msgNat m 8 8) ++ body
/-- Answer a request: an abort code, or a body. The engine keeps a copy of what a session's request was answered with (R417). -/
def Chip.odAnswer (c : Chip) (via : OdVia) (m : List Byte) (sid code : Nat) (body : List Byte) : Chip :=
  let err := decide (code ≠ 0)
  let b := if err then leBytes 4 code else body
  let c1 := c.raiseIf err 233
  if !macDue (msgOp m) sid then c1.odSend via (responseCore m sid err 0 b) else
  match sessionOf c1 sid with
  | none => c1.odSend via (responseCore m sid err 0 b)
  | some x =>
    let core := responseCore m sid err x.own b
    let k := c1.makeMac sid core
    let bs := core ++ (match k.1 with
      | some r => r.2
      | none => [])
    let d := k.2
    Chip.odSend { d with od := { d.od with copies := d.od.copies.filter (fun e => decide (e.1 ≠ sid)) ++ [(sid, m, bs)] } } via bs

/-- The client of a pending write: a session 0–15, a slot 16–23, or 32 and a CAN client. (DESIGN CHOICE: log 94) -/
def clientOf (via : OdVia) (sid : Nat) : Nat :=
  if sid < 16 then sid else match via with
    | .slot k => 16 + k
    | .tunnel n => 32 + n
    | .udp _ _ => 16
/-- The rights of a message's WRITE (R429, R438, R439). -/
def rightsOf (via : OdVia) (sid : Nat) : OdRights :=
  let open_ := decide (sid < 16)
  { sealed := open_, session := if open_ then some sid else none
    udp := match via with
      | .udp _ _ => true
      | .slot _ => false
      | .tunnel _ => false }

/-! ### Executing a message (R416) -/

/-- OPEN: the code of a refusal of SESSION_OPEN is 0x0800_0022. (DESIGN CHOICE: log 81) -/
def Chip.msgOpen (c : Chip) (via : OdVia) (m : List Byte) : Chip :=
  if (msgBody m).length ≠ 16 then c.odAnswer via m 0xFF 0x06070010 []
  else if !sealServes c then c.odAnswer via m 0xFF 0x08000022 []
  else
    let a := sessionOpen c (wordsOfBytes (msgBody m))
    if a.status ≠ 0 then a.chip.odAnswer via m 0xFF 0x08000022 []
    else
      let id := listGet 0 a.rsp 0
      let d := a.chip
      Chip.odAnswer { d with od := { d.od with copies := d.od.copies.filter (fun e => decide (e.1 ≠ id)) } } via m id 0
        ((a.rsp.drop 1).flatMap (leBytes 4))
/-- AUTH: the code of a refused proof is 0x0800_0020. (DESIGN CHOICE: log 81) -/
def Chip.msgAuth (c : Chip) (via : OdVia) (m : List Byte) : Chip :=
  if (msgBody m).length ≠ 16 then c.odAnswer via m (msgSid m) 0x06070010 []
  else if !sealServes c then c.odAnswer via m (msgSid m) 0x08000022 []
  else
    let a := sessionAuth c (msgSid m :: wordsOfBytes (msgBody m))
    if a.status ≠ 0 then a.chip.odAnswer via m (msgSid m) 0x08000020 []
    else a.chip.odAnswer via m (msgSid m) 0 (a.rsp.flatMap (leBytes 4))
/-- CLOSE: the response is made under the session's key, and then the session goes, with its open transaction (R440). -/
def Chip.msgClose (c : Chip) (via : OdVia) (m : List Byte) : Chip :=
  ((c.odAnswer via m (msgSid m) 0 []).dropPending (clientOf via (msgSid m))).dropSession (msgSid m)
/-- READ: the total size, then the bytes from OFFSET, no more than MAX and than a response holds. -/
def Chip.msgRead (c : Chip) (via : OdVia) (m : List Byte) : Chip :=
  let b := msgBody m
  if b.length ≠ 12 then c.odAnswer via m (msgSid m) 0x06070010 [] else
  let client := match via with
    | .tunnel n => some n
    | .udp _ _ => none
    | .slot _ => none
  let room := match via with
    | .slot _ => 4044
    | .udp _ _ => 1396
    | .tunnel _ => 1396
  let x := c.odRead client (bytesNat b 0 2) (bytesNat b 2 1)
  if x.1 ≠ 0 then x.2.2.odAnswer via m (msgSid m) x.1 []
  else x.2.2.odAnswer via m (msgSid m) 0
    (leBytes 4 x.2.1.length ++ (x.2.1.drop (bytesNat b 4 4)).take (Nat.min room (bytesNat b 8 2)))
/-- WRITE. -/
def Chip.msgWrite (c : Chip) (via : OdVia) (m : List Byte) : Chip :=
  let b := msgBody m
  if b.length < 8 then c.odAnswer via m (msgSid m) 0x06070010 [] else
  let x := c.odSegment (rightsOf via (msgSid m)) (clientOf via (msgSid m)) (bytesNat b 0 2) (bytesNat b 2 1)
    (bytesNat b 3 1 % 2 = 1) (bytesNat b 4 4) (b.drop 8)
  x.2.odAnswer via m (msgSid m) x.1 []
/-- A message by its OP; an OP that R416 does not list aborts with 0x0504_0001. -/
def Chip.msgRun (c : Chip) (via : OdVia) (m : List Byte) : Chip :=
  match msgOp m with
  | 0x01 => c.msgOpen via m
  | 0x02 => c.msgAuth via m
  | 0x03 => c.msgClose via m
  | 0x10 => c.msgRead via m
  | 0x11 => c.msgWrite via m
  | _ => c.odAnswer via m (msgSid m) 0x05040001 []

/-- A request whose session has gone while it waited: a datagram is dropped, any other request is answered with 0x0800_0020.
(DESIGN CHOICE: log 82) -/
def Chip.msgLost (c : Chip) (via : OdVia) (m : List Byte) : Chip :=
  match via with
  | .udp mac _ => c.odDrop mac
  | .slot _ => c.odAnswer via m 0xFF 0x08000020 []
  | .tunnel _ => c.odAnswer via m 0xFF 0x08000020 []
/-- Serve a message. A slot's request is checked now, a datagram's and a tunnelled one's was when it came. A slot's request that
R417 would drop is answered with 0x0800_0020. (DESIGN CHOICE: log 82) -/
def Chip.msgServe (c : Chip) (via : OdVia) (m : List Byte) : Chip :=
  let sid := msgSid m
  match via with
  | .slot _ =>
    match c.odCheck true m with
    | (.drop, d) => d.msgLost via m
    | (.replay a, d) => (d.raiseIf (answerAborts a) 233).odSend via a
    | (.take, d) => d.msgRun via m
  | .udp _ _ => if macDue (msgOp m) sid && (sessionOf c sid).isNone then c.msgLost via m else c.msgRun via m
  | .tunnel _ => if macDue (msgOp m) sid && (sessionOf c sid).isNone then c.msgLost via m else c.msgRun via m

/-! ### CAN FD (R435) -/

/-- A USDO response goes out with CAN-ID 0x580 + n (R435). (DESIGN CHOICE: log 92) -/
def Chip.usdoAnswer (c : Chip) (client code : Nat) (data : List Byte) : Chip :=
  let f : CanFrame := { id := 0x580 + c.od.nodeId, fd := true, data := (Config.usdoFrame client code data).take 64 }
  Chip.raiseIf { c with od := { c.od with usdo := c.od.usdo ++ [(client, code, data)], nodeTx := c.od.nodeTx ++ [f] } } (decide (code ≠ 0)) 233
/-- Serve a USDO request. (DESIGN CHOICE: log 92) -/
def Chip.usdoRun (c : Chip) (q : UsdoRequest) : Chip :=
  match q.write with
  | none =>
    let x := c.odRead (some q.client) q.index q.sub
    x.2.2.usdoAnswer q.client x.1 x.2.1
  | some (offset, last, data) =>
    let x := c.odSegment { client := some q.client } (32 + q.client) q.index q.sub last offset data
    x.2.usdoAnswer q.client x.1 []
/-- Write the mapped objects of an RPDO from its data. (DESIGN CHOICE: log 93) -/
def Chip.rpdoApply (c : Chip) : List Nat → List Byte → Chip
  | [], _ => c
  | e :: rest, data =>
    let n := e % 256 / 8
    (c.odWrite {} 0 (e / 65536) (e / 256 % 256) (data.take n)).2.rpdoApply rest (data.drop n)
/-- An RPDO (R435, R436): served while the node is operational; a frame shorter than its mapping is ignored. -/
def Chip.rpdoRun (c : Chip) (f : CanFrame) : Chip :=
  match rpdoOf c f with
  | none => c
  | some i =>
    let l := mapEntries c (0x1600 + i) (odNat c (0x1600 + i) 0)
    if c.od.nmt ≠ 5 ∨ f.data.length < mappedBytes l then c else c.rpdoApply l f.data

/-! ### The order of accesses (R432) -/

/-- A write complete in itself: its abort code is the command's response. (DESIGN CHOICE: log 95) -/
def Chip.directRun (c : Chip) (session : Option Nat) (udp : Bool) (index sub : Nat) (data : List Byte) : Chip :=
  let open_ := match session with
    | some i => c.su.sessions.any (fun e => e.1 == i && e.2.isOpen)
    | none => false
  let r : OdRights := { sealed := open_, session := if open_ then session else none, udp := udp && open_ }
  let x := c.odWrite r (odNat c 0x2F00 0) index sub data
  (x.2.respond { status := if x.1 = 0 then 0 else 1, data := x.1 }).raiseIf (decide (x.1 ≠ 0)) 233
/-- A read of the worker window: its data or abort code is the command's response. (DESIGN CHOICE: log 95) -/
def Chip.windowRead (c : Chip) (index sub : Nat) : Chip :=
  let x := c.odRead none index sub
  (x.2.2.respond { status := if x.1 = 0 then 0 else 1, data := if x.1 = 0 then leNat x.2.1 else x.1 }).raiseIf (decide (x.1 ≠ 0)) 233
/-- On a worker, the manager's access through its window (R456): the worker's own R433 checks it, and a write that the manager accepted as
sealed counts as sealed. (DESIGN CHOICE: log 84) -/
def Chip.managerRun (c : Chip) (isSealed : Bool) (index sub : Nat) (data : Option (List Byte)) : Chip :=
  match data with
  | none => c.windowRead index sub
  | some bs =>
    let x := c.odWrite { sealed := isSealed } 0 index sub bs
    (x.2.respond { status := if x.1 = 0 then 0 else 1, data := x.1 }).raiseIf (decide (x.1 ≠ 0)) 233
/-- Is the access one that waits while a transaction is APPLYING (R432)? -/
def jobHeld (c : Chip) (j : OdJob) : Bool :=
  c.bit Reg.ODE_STAT 30 && match j with
    | .message _ m => decide (msgOp m = 0x11)
    | .usdo q => q.write.isSome
    | .rpdo _ => true
    | .write _ _ _ _ _ => true
    | .read _ _ => false
    | .fromManager _ _ _ data => data.isSome
/-- Does the access have the Seal Unit verify an image (R454, R502)? -/
def jobVerifies (j : OdJob) : Bool :=
  let image := fun index => decide (index = 0x4401) || decide (index = 0x5400)
  match j with
  | .message _ m => decide (msgOp m = 0x11) && image (bytesNat (msgBody m) 0 2) && decide (bytesNat (msgBody m) 3 1 % 2 = 1)
  | .write _ _ index _ _ => image index
  | .fromManager _ index _ data => data.isSome && image index
  | .usdo _ => false
  | .rpdo _ => false
  | .read _ _ => false
/-- The first access that is not held. One whose image would be verified while a stook has the RSA engine, or is due, waits for the stook,
and the accesses behind it wait for it (R322, R432). -/
def nextJob (c : Chip) : Option OdJob :=
  match c.od.jobs.find? (fun j => !jobHeld c j) with
  | some j => if rsaTaken c && inService c && jobVerifies j then none else some j
  | none => none
/-- Take an access out of the queue. -/
def Chip.takeJob (c : Chip) (j : OdJob) : Chip := { c with od := { c.od with jobs := c.od.jobs.erase j } }
/-- Perform the accesses from CAN and over the links, and those complete in themselves, up to the next message. (DESIGN CHOICE: log 83) -/
def Chip.odDrain : Nat → Chip → Chip
  | 0, c => c
  | fuel + 1, c =>
    match nextJob c with
    | some (.usdo q) => Chip.odDrain fuel ((c.takeJob (.usdo q)).usdoRun q)
    | some (.rpdo f) => Chip.odDrain fuel ((c.takeJob (.rpdo f)).rpdoRun f)
    | some (.write a b i j d) => Chip.odDrain fuel ((c.takeJob (.write a b i j d)).directRun a b i j d)
    | some (.read i j) => Chip.odDrain fuel ((c.takeJob (.read i j)).windowRead i j)
    | some (.fromManager a i j d) => Chip.odDrain fuel ((c.takeJob (.fromManager a i j d)).managerRun a i j d)
    | _ => c
/-- Go on with the queue. (DESIGN CHOICE: log 83) -/
def Chip.odGo (c : Chip) : Chip := Chip.odDrain c.od.jobs.length c
/-- An access reaches the engine. (DESIGN CHOICE: log 95) -/
def Chip.odAsk (c : Chip) (j : OdJob) : Chip := Chip.odGo { c with od := { c.od with jobs := c.od.jobs ++ [j] } }

/-- Serve the next access where it is a message whose OP satisfies a condition; what a stook held before it goes first. -/
def Chip.odServe (c : Chip) (want : Nat → Bool) : Chip :=
  let d := c.odGo
  match nextJob d with
  | some (.message via m) => if want (msgOp m) then ((d.takeJob (.message via m)).msgServe via m).odGo else d
  | _ => d
/-- OD_OPEN (R416). -/
def execOdOpen (s : State) : Host.Outcome State Fault Refusal := run (fun c => c.odServe (fun op => decide (op = 0x01))) s
/-- OD_AUTH (R416). -/
def execOdAuth (s : State) : Host.Outcome State Fault Refusal := run (fun c => c.odServe (fun op => decide (op = 0x02))) s
/-- OD_CLOSE (R416). -/
def execOdClose (s : State) : Host.Outcome State Fault Refusal := run (fun c => c.odServe (fun op => decide (op = 0x03))) s
/-- OD_READ (R416). -/
def execOdRead (s : State) : Host.Outcome State Fault Refusal := run (fun c => c.odServe (fun op => decide (op = 0x10))) s
/-- OD_WRITE (R416). -/
def execOdWrite (s : State) : Host.Outcome State Fault Refusal := run (fun c => c.odServe (fun op => decide (op = 0x11))) s
/-- OD_BAD_OP (R416). -/
def execOdBadOp (s : State) : Host.Outcome State Fault Refusal :=
  run (fun c => c.odServe (fun op => !(decide (1 ≤ op) && decide (op ≤ 3)) && decide (op ≠ 0x10) && decide (op ≠ 0x11))) s

/-- OD_UDP_DATAGRAM (R417): the oldest datagram that waits at MAC m is checked: dropped, answered again, or taken. -/
def execOdUdpDatagram (m : Fin 2) (s : State) : Host.Outcome State Fault Refusal :=
  run (fun c =>
    match (ethMac c m.val).odq with
    | [] => c
    | d :: rest =>
      let c1 := c.onMac m.val (fun x => { x with odq := rest })
      match c1.odCheck false d.payload with
      | (.drop, e) => e.odDrop m.val
      | (.replay a, e) => (e.raiseIf (answerAborts a) 233).odSend (.udp m.val d.src) a
      | (.take, e) => e.odAsk (.message (.udp m.val d.src) d.payload)) s

/-- PENDING_WRITE_TIMEOUT (R416): a pending write idle for 10 s is discarded. -/
def execPendingWriteTimeout (s : State) : Host.Outcome State Fault Refusal :=
  run (fun c => { c with od := { c.od with writes := c.od.writes.filter (fun w => decide (c.ns < w.since + 10000000000)) } }) s

/-! ### The node's frames (R435, R436, R444, R419) -/

/-- NMT command of a frame: the command and the node it names. -/
def nmtOf (f : CanFrame) : Option (Nat × Nat) :=
  if f.id = 0 && !f.ext then some (bytesNat f.data 0 1, bytesNat f.data 1 1) else none
/-- Does a frame of the node call for nothing: an NMT command for another node, or one that CiA 301 does not list? -/
def nodeIdle (c : Chip) (f : CanFrame) : Bool :=
  match nmtOf f with
  | some (cmd, n) => !(decide (n = 0) || decide (n = c.od.nodeId)) || !([1, 2, 128, 129, 130].contains cmd)
  | none => false
/-- The node's frames without those that call for nothing at the front. -/
def nodeQueue (c : Chip) : List CanFrame := c.od.nodeRx.dropWhile (nodeIdle c)
/-- Act on the node's first frame where it satisfies a condition. -/
def Chip.nodeFirst (c : Chip) (want : CanFrame → Bool) (act : Chip → CanFrame → Chip) : Chip :=
  match nodeQueue c with
  | f :: rest => if want f then act { c with od := { c.od with nodeRx := rest } } f else c
  | [] => c
/-- The first frame is an NMT command with code `cmd`. -/
def isNmt (cmd : Nat) (f : CanFrame) : Bool :=
  match nmtOf f with
  | some (k, _) => decide (k = cmd)
  | none => false
/-- The communication objects as the store has them (R436): the defaults, then the valid records. -/
def recordFits (c : Chip) (r : StoreRecord) : Bool :=
  odPersistent c r.index r.sub && decide (odWriteAbort c { sealed := true } r.index r.sub r.value = 0)
/-- Apply records that fit, counting the others. -/
def Chip.applyRecords (c : Chip) : List StoreRecord → Nat × Chip
  | [] => (0, c)
  | r :: rest =>
    let d := if recordFits c r then match odRow c r.index r.sub with
        | some w => (c.odStore r.index r.sub w r.value).2
        | none => c
      else c
    let x := d.applyRecords rest
    ((if recordFits c r then 0 else 1) + x.1, x.2)
/-- Reset Communication and Reset Node (R436). -/
def Chip.nmtReset (c : Chip) : Chip :=
  let c1 := { c with od := { c.od with
    objects := c.od.objects.filter (fun e => decide (0x200000 ≤ e.1)), nmt := 127 } }
  let r := c1.storeRead
  (r.2.applyRecords (r.1.filter (fun r => decide (r.index < 0x2000)))).2
/-- Enter an NMT state. -/
def Chip.nmtEnter (c : Chip) (st : Nat) : Chip := { c with od := { c.od with nmt := st } }

/-- USDO_REQUEST (R435): the node's first frame is a USDO request, which says `q` once the frames of its transfer are put together. -/
def execUsdoRequest (q : UsdoRequest) (s : State) : Host.Outcome State Fault Refusal :=
  run (fun c => c.nodeFirst (fun f => !f.ext && decide (f.id = 0x600 + c.od.nodeId)) (fun d _ => d.odAsk (.usdo q))) s
/-- RPDO_RECEIVE (R435). -/
def execRpdoReceive (s : State) : Host.Outcome State Fault Refusal :=
  run (fun c => c.nodeFirst (fun f => (rpdoOf c f).isSome) (fun d f => d.odAsk (.rpdo f))) s
/-- CAN_TIME_OBJECT (R419). -/
def execCanTimeObject (s : State) : Host.Outcome State Fault Refusal :=
  run (fun c => c.nodeFirst (fun f => cobMatches f (odNat c 0x1012 0)) (fun d f => d.canTime f.data)) s
/-- NMT_START (R436). -/
def execNmtStart (s : State) : Host.Outcome State Fault Refusal :=
  run (fun c => c.nodeFirst (isNmt 1) (fun d _ => d.nmtEnter 5)) s
/-- NMT_STOP (R436). -/
def execNmtStop (s : State) : Host.Outcome State Fault Refusal :=
  run (fun c => c.nodeFirst (isNmt 2) (fun d _ => d.nmtEnter 4)) s
/-- NMT_PRE_OPERATIONAL (R436). -/
def execNmtPreOperational (s : State) : Host.Outcome State Fault Refusal :=
  run (fun c => c.nodeFirst (isNmt 128) (fun d _ => d.nmtEnter 127)) s
/-- NMT_RESET_COMMUNICATION (R436). -/
def execNmtResetCommunication (s : State) : Host.Outcome State Fault Refusal :=
  run (fun c => c.nodeFirst (isNmt 130) (fun d _ => d.nmtReset)) s
/-- NMT_RESET_NODE (R436). -/
def execNmtResetNode (s : State) : Host.Outcome State Fault Refusal :=
  run (fun c => c.nodeFirst (isNmt 129) (fun d _ => d.nmtReset)) s

/-- Queue a frame of the node. -/
def Chip.nodeSend (c : Chip) (f : CanFrame) : Chip := { c with od := { c.od with nodeTx := c.od.nodeTx ++ [f] } }
/-- The value of mapped objects. (DESIGN CHOICE: log 93) -/
def mappedData (c : Chip) (l : List Nat) : List Byte :=
  l.flatMap (fun e => match odRow c (e / 65536) (e / 256 % 256) with
    | some r => odValue c (e / 65536) (e / 256 % 256) r
    | none => [])
/-- TPDO_TRANSMIT (R435, R436): TPDO i + 1 is sent, on an event or when its timer runs out (sub-index 05, in ms), no sooner than its
inhibit time (03, in 100 µs) allows. -/
def execTpdoTransmit (i : Fin 4) (timer : Bool) (s : State) : Host.Outcome State Fault Refusal :=
  run (fun c =>
    let p := 0x1800 + i.val
    let cob := odNat c p 1
    let last := mapGet 0 c.od.tpdoAt i.val
    let due := if timer then decide (odNat c p 5 ≠ 0) && decide (last + odNat c p 5 * 1000000 ≤ c.ns) else true
    if c.od.nmt ≠ 5 || cob.testBit 31 || !due || (decide (last ≠ 0) && decide (c.ns < last + odNat c p 3 * 100000)) then c else
    let f : CanFrame := { id := if cob.testBit 29 then cob % 2 ^ 29 else cob % 2 ^ 11, ext := cob.testBit 29, fd := true
                          data := mappedData c (mapEntries c (0x1A00 + i.val) (odNat c (0x1A00 + i.val) 0)) }
    Chip.nodeSend { c with od := { c.od with tpdoAt := mapSet 0 c.od.tpdoAt i.val c.ns } } f) s
/-- HEARTBEAT (R435): every 0x1017 ms, with the node's NMT state. -/
def execHeartbeat (s : State) : Host.Outcome State Fault Refusal :=
  run (fun c =>
    if c.od.nmt = 0 ∨ odNat c 0x1017 0 = 0 ∨ c.ns < c.od.beat + odNat c 0x1017 0 * 1000000 then c else
    Chip.nodeSend { c with od := { c.od with beat := c.ns } } { id := 0x700 + c.od.nodeId, data := leBytes 1 c.od.nmt }) s

/-! ### Rows that name one object's write -/

/-- TUNNEL_REQUEST (R439): a CAN client's write of 0x5F10:00, complete. -/
def execTunnelRequest (client : Fin 128) (m : List Byte) (s : State) : Host.Outcome State Fault Refusal :=
  run (fun c => c.odAsk (.usdo { client := client.val, index := 0x5F10, sub := 0, write := some (0, true, m) })) s
/-- OD_TX_CMD (R440): a write of 0x5F30:01 in a session. -/
def execOdTxCmd (session : Fin 16) (op : Byte) (s : State) : Host.Outcome State Fault Refusal :=
  run (fun c => c.odAsk (.write (some session.val) false 0x5F30 1 [op])) s
/-- MODE_REQUEST (R448): a write of 0x2000:00, in a session or not. -/
def execModeRequest (session : Option (Fin 16)) (m : Byte) (s : State) : Host.Outcome State Fault Refusal :=
  run (fun c => c.odAsk (.write (session.map Fin.val) false 0x2000 0 [m])) s
/-- EXTERNAL_TRIGGER (R452): a write of 0x3200:0A. -/
def execExternalTrigger (v : Byte) (s : State) : Host.Outcome State Fault Refusal :=
  run (fun c => c.odAsk (.write none false 0x3200 0x0A [v])) s
/-- MICROCODE_IMAGE_WRITE (R454): a write of 0x4401:00 in a session. -/
def execMicrocodeImageWrite (session : Fin 16) (data : List Byte) (s : State) : Host.Outcome State Fault Refusal :=
  run (fun c => c.odAsk (.write (some session.val) false 0x4401 0 data)) s
/-- WEAVE_IMAGE_WRITE (R502, R510): a write of 0x5400:00 in a session. -/
def execWeaveImageWrite (session : Fin 16) (data : List Byte) (s : State) : Host.Outcome State Fault Refusal :=
  run (fun c => c.odAsk (.write (some session.val) false 0x5400 0 data)) s
/-- STORE_PARAMETERS (R462): a write of 0x1010:01 in a session. -/
def execStoreParameters (session : Fin 16) (v : Word) (s : State) : Host.Outcome State Fault Refusal :=
  run (fun c => c.odAsk (.write (some session.val) false 0x1010 1 (leBytes 4 v.toNat))) s
/-- RESTORE_DEFAULTS (R462): a write of 0x1011:01 in a session. -/
def execRestoreDefaults (session : Fin 16) (v : Word) (s : State) : Host.Outcome State Fault Refusal :=
  run (fun c => c.odAsk (.write (some session.val) false 0x1011 1 (leBytes 4 v.toNat))) s
/-- DEBUG_OBJECT_WRITE (R536): a write of 0x5F20:00 in a session, over OD-over-UDP or not. -/
def execDebugObjectWrite (session : Fin 16) (udp : Bool) (records : List (BitVec 64)) (s : State) : Host.Outcome State Fault Refusal :=
  run (fun c => c.odAsk (.write (some session.val) udp 0x5F20 0 (records.flatMap (fun r => leBytes 8 r.toNat)))) s
/-- WORKER_WINDOW_ACCESS (R456): on the manager a read, or a write in a session, of an index of the window; on a placed worker the same
access as it arrives from the manager, of the object 0x4000 below, sealed where it came in a session. (DESIGN CHOICE: log 84) -/
def execWorkerWindowAccess (session : Option (Fin 16)) (index : BitVec 16) (sub : Byte) (write : Option (List Byte)) (s : State) :
    Host.Outcome State Fault Refusal :=
  run (fun c =>
    if !(decide (0x6000 ≤ index.toNat) && decide (index.toNat < 0xA000)) then c else
    if isManager c then
      match write with
      | some data => c.odAsk (.write (session.map Fin.val) false index.toNat sub.toNat data)
      | none => c.odAsk (.read index.toNat sub.toNat)
    else if !c.bit Reg.SPIN_STAT 30 then c
    else c.odAsk (.fromManager session.isSome (index.toNat - 0x4000) sub.toNat write)) s

/-! ### Streams (R450) -/

/-- STREAM_RESTART (R450): firmware acts on a write of an enabled stream's VC, FORMAT or ENABLE = 0, of whatever value: it stops the
stream, writes the values, and starts it again where ENABLE is 1. (DESIGN CHOICE: log 97) -/
def execStreamRestart (st : Fin 32) (s : State) : Host.Outcome State Fault Refusal :=
  run (fun c =>
    let k := st.val
    let a := Reg.CAP_SCTL k
    let vc := streamObj c k 2
    let fmt := streamObj c k 3
    let en := decide (streamObj c k 1 = 1)
    if !c.od.restarts.contains k then c else
    let c0 := { c with od := { c.od with restarts := c.od.restarts.filter (fun x => decide (x ≠ k)) } }
    if !streamOn c k then c0 else
    let c1 := ((c0.disableStream k).setFld a 27 24 vc).setFld a 23 22 fmt
    if en then
      { c1.setBit a 31 true with cap := { c1.cap with streams := mapSet {} c1.cap.streams k {} } }
    else c1) s

/-! ### The end of a transaction's application (R389) -/

/-- TX_APPLY_DONE (R389): the entries are applied, the header is written APPLIED with the COMMIT_TAI that the COMMITTED header holds, STATE returns to IDLE with EV40 or EV41, and the
accesses that were held go on. -/
def execTxApplyDone (s : State) : Host.Outcome State Fault Refusal :=
  run (fun c =>
    match c.silo.txApply with
    | none => c
    | some es =>
      let c1 := c.applyEntries 0 es
      if c1.silo.capsule.isSome then c1 else
      let tai := match txHeader c with
        | some h => h.tai
        | none => 0
      let c2 := c1.putTxHeader 2 es.length c.silo.txseq tai
      let c3 := (c2.setFld Reg.SILO_TXSTAT 31 30 0).setBit Reg.ODE_STAT 30 false
      let c4 := Chip.raise { c3 with silo := { c3.silo with txApply := none, txOwner := none } }
        (if c3.fld Reg.SILO_TXERR 28 16 = 0 then 40 else 41)
      c4.odGo) s

/-! ### The store's load (R461), and the node's start (R435, R436, R442) -/

/-- The nominal bit timing of 0x5300:02 (R442): 80 quanta, sampled at 80 %. (DEDUCED: log 91) -/
def nominalTiming (rate : Nat) : Nat := listGet 1 [7, 3, 1, 0] rate * 2 ^ 24 + 63 * 2 ^ 16 + 16 * 2 ^ 8 + 16
/-- The data bit timing of 0x5300:03 (R442): 20 quanta up to 4 Mbit/s, 16 at 5 Mbit/s, sampled at 75 %; 10 at 8 Mbit/s, whose sample
point is not stated. -/
def dataTiming (rate : Nat) : Nat :=
  let w : Nat → Nat → Nat → Nat := fun brp t1 t2 => brp * 2 ^ 24 + t1 * 2 ^ 16 + t2 * 2 ^ 8 + t2
  match rate with
  | 0 => w 3 14 5
  | 1 => w 1 14 5
  | 2 => w 0 14 5
  | 3 => w 0 11 4
  | _ => w 0 (Config.dataSample.val + 1) (8 - Config.dataSample.val)
/-- The node starts on the manager: its controller, node-ID and bit timing are in force, and after its boot-up message it is
operational. (DEDUCED: log 91) -/
def Chip.nodeStart (c : Chip) : Chip :=
  if !isManager c then c else
  let k := odNat c 0x5300 4
  let n := odNat c 0x5300 1
  let c1 := ((c.setReg (Reg.CAN_NBTc k) (BitVec.ofNat 32 (nominalTiming (odNat c 0x5300 2)))).setReg (Reg.CAN_DBTc k)
    (BitVec.ofNat 32 (dataTiming (odNat c 0x5300 3)))).setBit (Reg.CAN_CTLc k) 31 true
  Chip.nodeSend { c1 with od := { c1.od with nodeId := n, nodeCtl := k, nmt := 5, beat := c1.ns } } { id := 0x700 + n, data := [0] }
/-- OD_STORE_LOAD (R461): every object takes its default, then each record of the active half is applied; records that do not fit
are counted in BADREC; READY. -/
def execOdStoreLoad (s : State) : Host.Outcome State Fault Refusal :=
  run (fun c =>
    if !c.bit Reg.SILO_STAT 31 || c.bit Reg.ODE_STAT 31 then c else
    let r := Chip.storeRead { c with od := { c.od with objects := [] } }
    let x := r.2.applyRecords r.1
    (((x.2.followInterval c).setFld Reg.ODE_STAT 15 0 (stickAt 65535 x.1)).setBit Reg.ODE_STAT 31 true).nodeStart) s

end Sys2Proof.Machine
end

