-- ==== Sys2Proof/Machine/Boot.lean ====
section
/-!
DEFINITION. A start (R473, R474): the release of reset, the boot chain of the Seal Unit (R344, R345, R521), RECOVERY (R385, R474), and
the preemption request (R183, R185), which the Granary makes of itself.
-/
namespace Sys2Proof.Machine

/-! ### Release of reset (R63, R64, R360, R473, R573) -/

/-- Record a tile's repairs (R63, R64, R69). -/
def Chip.tileRepaired (c : Chip) (r : RepairReport) : Chip :=
  let a := Reg.ASQ_TILE_STAT r.tile.val
  let c1 := ((c.setFld a 21 12 r.pe.val).setFld a 9 0 r.plane.val).setBit a 31 r.retired
  c1.raiseIf r.retired 83
/-- The soft repairs of a start. -/
def softRepairs (rs : List RepairReport) : Nat := (rs.map (fun r => r.soft.val)).foldl (· + ·) 0
/-- The manager's place is known (R518). -/
def Chip.placeManager (c : Chip) : Chip :=
  if isManager c then (c.setBit Reg.SPIN_STAT 30 true).setFld Reg.SPIN_STAT 27 24 0 else c
/-- The internal reset is released: the Seal Unit and Silo domains come on, and the DRAM quadrants, which are on in every mode but DORMANT
(R204); the self-tests run, the repair unit reports, and the start
is counted (R473 steps 1 and 2, R561). A failed self-test enters the error state (R362); a decommissioned part completes what a
zeroisation left, and is ZEROISED (R364). (DEDUCED: log 119) -/
def Chip.resetRelease (c : Chip) (passed : BitVec 7) (rs : List RepairReport) : Chip :=
  let c0 := (List.range 4).foldl Chip.quadrantOn { c with pow := { c.pow with dormant := false } }
  let c1 := ((c0.domainUp .sealUnit).domainUp .silo).setBit Reg.SILO_PF 31 true
  let c2 := ({ c1 with
    pow := { c1.pow with started := true }
    su := { c1.su with selftest := passed.toNat }
    life := { c1.life with repairs := softRepairs rs }
    spin := { c1.spin with since := c1.ns } }).placeManager.stookRebase
  let c3 := rs.foldl Chip.tileRepaired ((c2.lifeAdd 1 1).lifeAdd 21 (softRepairs rs))
  let c4 := Chip.raiseIf { c3 with pow := { c3.pow with wdReset := false } } c3.pow.wdReset 12
  if lifecycle c4 = 3 then (if zeroiseLeft c4 then c4.zeroise false else c4.setFld Reg.SEAL_STATE 31 28 4)
  else if passed.toNat ≠ 127 then c4.sealError 1 else c4

/-- Has BOOT come to step 6 of R473: the Silo is scanned, the core released, vendor image loading over (BOOT_DONE, R344), the DRAM
initialised and the store loaded? (DEDUCED: log 129) -/
def bootDue (c : Chip) : Bool :=
  decide (phaseOf c = 1) && c.su.released && c.su.bootDone && c.bit Reg.SILO_STAT 31 && c.bit Reg.DRC_STAT 31 && c.bit Reg.ODE_STAT 31
/-- RESET_RELEASE (R473): the next step of the start sequence that is the part's own: the release of reset, and at step 6 the start-up
mode where R385 asks for no RECOVERY. No start begins before every monitored rail has been in range for 1 ms (R573), nor while VIN_SENSE is below its threshold (R380). `passed`: bit i, self-test i of R360. (DESIGN CHOICE: log 120) -/
def execResetRelease (passed : BitVec 7) (rs : List RepairReport) (s : State) : Host.Outcome State Fault Refusal :=
  run (fun c =>
    if !c.pow.started then (if c.pow.vinLow || !railsGood c then c else c.resetRelease passed rs)
    else if bootDue c && !needsRecovery c then c.startUpMode
    else c) s

/-! ### The boot chain (R344, R345, R521) -/

/-- Step 3: the OTP is read and checked, the private region key is derived, the region's records are authenticated and read (R336, R344,
R362); the debug verifier's store is filled (R540). -/
def Chip.bootChecks (c : Chip) : Chip :=
  if !otpGood c then c.sealError 3 else
  let d := c.deriveKey
  if !regionGood d then d.sealError 4 else d.loadRegion.fillVerifier
/-- Step 5 for one copy, read by `rd` from an offset in it: the checks of R341 as TYPE 0x01, and the payload into the ITCM; its ENTRY. -/
def Chip.bootCopy (c : Chip) (rd : Chip → Nat → Nat → Option (List Byte) × Chip) : Option Nat × Chip :=
  let x := rd c 0 0x600
  match x.1 with
  | none => (none, x.2.raise 19)
  | some h =>
    if hdrNat h 3 1 ≠ 1 ∨ headerStatus x.2 h ≠ 0 then (none, x.2.raise 19) else
    let p := rd x.2 0x600 (hdrNat h 0x0C 4)
    match p.1 with
    | none => (none, (p.2.zeroDestination h).raise 19)
    | some bytes =>
      if sha bytes ≠ (h.drop 0x40).take 64 then (none, (p.2.zeroDestination h).raise 19)
      else (some (hdrNat h 0x18 8), ((p.2.dmaWrite (hdrNat h 0x10 8) bytes).2).noteLoaded 1 h)
/-- A reader of the part's own flash from offset `base`. -/
def flashReader (base : Nat) (c : Chip) (off n : Nat) : Option (List Byte) × Chip := c.dmaRead (0x10000000 + base + off) n
/-- A reader of a copy that the manager holds (R521). -/
def farReader (bs : List Byte) (c : Chip) (off n : Nat) : Option (List Byte) × Chip :=
  (if off + n ≤ bs.length then some ((bs.drop off).take n) else none, c)
/-- Step 6: SYS_DENTRY takes ENTRY, BOOTCOPY shows the copy, and the core is released. (DESIGN CHOICE: log 120) -/
def Chip.bootRelease (c : Chip) (entry : Nat) (copyB : Bool) : Chip :=
  let c1 := ((c.setReg Reg.SYS_DENTRY_LO (BitVec.ofNat 32 (entry / 4 * 4))).setFld Reg.SYS_DENTRY_HI 7 0 (entry / 2 ^ 32)).setBit
    Reg.SEAL_STATE 25 copyB
  let c2 := c1.setFld Reg.SEAL_STATE 31 28 1
  Chip.coreStart { c2 with su := { c2.su with released := true } }
/-- Steps 4 to 6: copy A, then copy B once; both failing, the path of R345. (DEDUCED: log 119) -/
def Chip.bootChain (c : Chip) (a b : Chip → Nat → Nat → Option (List Byte) × Chip) : Chip :=
  let c1 := (c.setFld Reg.XSPI_CTL 1 0 1)
  match c1.bootCopy a with
  | (some e, d) => d.bootRelease e false
  | (none, d) =>
    match d.bootCopy b with
    | (some e, f) => f.bootRelease e true
    | (none, f) => f.bootFail
/-- May the boot chain go on from step 3 (R344)? -/
def bootOpen (c : Chip) : Bool :=
  c.pow.started && !c.su.released && !c.bit Reg.SEAL_STATE 24 && (decide (sealState c = 0) || decide (sealState c = 4))
/-- Step 3 of the boot chain, with the core's domains switched on; at step 4 a worker waits for its place (R521). It is done once. -/
def Chip.bootStep3 (c : Chip) : Chip :=
  if c.su.waitAt.isSome then c else
  let d := ((c.domainUp .coreMem).domainUp .core).bootChecks
  { d with su := { d.su with waitAt := some d.ns } }
/-- CORE_RELEASE (R344, R345, R521): steps 3 to 6 of the boot chain, once the self-tests have passed and the Silo is scanned. A worker
waits at step 4 for its upstream link and placement, and reads the copies `copyA` and `copyB` from the manager. -/
def execCoreRelease (copyA copyB : List Byte) (s : State) : Host.Outcome State Fault Refusal :=
  run (fun c =>
    if !bootOpen c || !c.bit Reg.SILO_STAT 31 then c else
    let c1 := c.bootStep3
    if sealState c1 = 3 then c1
    else if !isManager c1 && (upstream c1).isNone then c1
    else if isManager c then c1.bootChain (flashReader 0) (flashReader 0x800000)
    else c1.bootChain (farReader copyA) (farReader copyB)) s

/-- WORKER_BOOT_TIMEOUT (R521): a worker without upstream link and placement 1 s after it has come to step 4; one whose step 3 fails
enters the error state with that step's code. -/
def execWorkerBootTimeout (s : State) : Host.Outcome State Fault Refusal :=
  run (fun c =>
    if isManager c || !c.isOn .sealUnit || !bootOpen c || (upstream c).isSome || decide (c.ns < c.su.waitAt.getD c.spin.since + 1000000000) then c
    else
      let c1 := c.bootStep3
      if sealState c1 = 3 then c1 else c1.bootFail) s

/-! ### RECOVERY (R385, R474) -/

/-- Begin RECOVERY: its first step is the recovery stook (R326). -/
def Chip.recoveryStart (c : Chip) : Chip := c.setFld Reg.SYS_MODE 15 8 2
/-- Has every record been placed in an issued bale, or is the Storage Writer not enabled (R474)? -/
def recordsPlaced (c : Chip) : Bool :=
  !c.bit Reg.PCIB_SWCTL 31 || !(c.sw.queue ++ c.sw.opened).any (fun i => i.jseq.isSome)
/-- RECOVERY (R385, R474): begins when BOOT comes to step 6 with something to recover; ends with the start-up mode, once the
recovery stook is journaled and the records are placed. -/
def execRecovery (s : State) : Host.Outcome State Fault Refusal :=
  run (fun c =>
    if phaseOf c = 2 then (if c.ev.recovered && recordsPlaced c then c.startUpMode else c)
    else if bootDue c && needsRecovery c then c.recoveryStart
    else c) s

/-! ### Preemption (R183, R185) -/

/-- PREEMPT_REQUEST (R183, R185 step 1): the urgent request goes to the sequencer. -/
def execPreemptRequest (s : State) : Host.Outcome State Fault Refusal :=
  run (fun c =>
    if c.grn.preempt = .idle ∧ wantsPreempt c then
      Chip.takeUrgent { c with grn := { c.grn with preempt := .requested } }
    else c) s

end Sys2Proof.Machine
end

