-- ==== Sys2Proof/Machine/Distaff.lean ====
section
/-!
DEFINITION. How the core executes one instruction: conditions and undefined words (R211 to R215), the load-delay slot (R217, R218),
fetch and caches (R231 to R234), exceptions and interrupts (R226 to R230), and a debug step (R542).
-/
namespace Sys2Proof.Machine

/-! ### The instruction word (R211, R213 to R215) -/

/-- Does the condition of a word hold against FLG and GORL (R211)? -/
def condOk (flg : Word) (gorl : Bool) (cond : Nat) : Bool :=
  let n := bitOf flg 31
  let z := bitOf flg 30
  let c := bitOf flg 29
  let v := bitOf flg 28
  match cond with
  | 0 => true | 1 => z | 2 => !z | 3 => n | 4 => !n | 5 => c | 6 => !c | 7 => v | 8 => !v
  | 9 => c && !z | 10 => !c || z | 11 => n == v | 12 => n != v | 13 => !z && n == v | 14 => z || n != v
  | _ => gorl

/-- CLASS, OP, D (or G), A, B, SF of format R (R213). -/
def wCls (w : Word) : Nat := Machine.fld w 27 24
/-- OP. -/
def wOp (w : Word) : Nat := Machine.fld w 23 20
/-- D, or G of formats M, X and S. -/
def wD (w : Word) : Nat := Machine.fld w 19 16
/-- A, or G1 of format K. -/
def wA (w : Word) : Nat := Machine.fld w 15 12
/-- B, or G2 of format K. -/
def wB (w : Word) : Nat := Machine.fld w 11 8
/-- OP of format M with L below it: [23:20]. -/
def wMem (w : Word) : Nat := Machine.fld w 23 20

/-- Does MRS or MSR know the selector (R235)? -/
def selListed (sel : Nat) : Bool :=
  decide (sel ≤ 9) || (decide (0x10 ≤ sel) && decide (sel < 0x28) && decide (sel % 4 ≠ 3))

/-- Is a field of the word nonzero? -/
def wSome (w : Word) (hi lo : Nat) : Bool := decide (Machine.fld w hi lo ≠ 0)

/-- Class 0x5: the bits [15:0] that its operation leaves reserved (R215). -/
def accReserved (op : Nat) : Nat := listGet 0xFFFF [0x000F, 0x000F, 0x000F, 0x0FFF, 0x0F10, 0xFF30, 0xFFFF] op

/-- Is the word an undefined instruction (R215)? -/
def wordUndefined (w : Word) : Bool :=
  let op := wOp w
  match wCls w with
  | 0 => wSome w 6 0 || (decide (op = 12) && wSome w 15 12) || (decide (op = 13) && (wSome w 19 16 || bitOf w 7))
  | 1 =>
    (decide (op = 12) && wSome w 15 12) || (decide (op = 13) && (wSome w 19 16 || bitOf w 11)) ||
      (decide (8 ≤ op) && decide (op ≤ 11) && wSome w 10 5)
  | 2 => decide (2 ≤ Machine.fld w 23 22) || wSome w 21 20
  | 3 =>
    let ld := bitOf w 20
    let mop := Machine.fld w 23 21
    let mode := Machine.fld w 12 11
    !(if ld then decide (mop ≤ 5) else [0, 2, 4, 5].contains mop) ||
      (decide (mop = 5) && (decide (mode ≠ 0) || wSome w 10 0)) || (mode.testBit 0 && wSome w 10 0)
  | 4 =>
    let mop := Machine.fld w 23 21
    decide (2 ≤ mop) || bitOf w 19 || (decide (mop = 0) && bitOf w 18) || (bitOf w 11 && wSome w 10 0)
  | 5 => decide (7 ≤ op) || wSome w 17 16 || decide (w.toNat &&& accReserved op ≠ 0)
  | 6 => decide (7 ≤ op) || wSome w 6 0
  | 7 =>
    decide (13 ≤ op) || wSome w 7 0 || ([4, 9, 10, 11, 12].contains op && wSome w 11 8) || (decide (op = 8) && wSome w 19 16)
  | 8 => decide (3 ≤ op) || wSome w 7 0 || (decide (op = 2) && (wSome w 19 16 || wSome w 11 8))
  | 9 => false
  | 10 => decide (2 ≤ op) || bitOf w 19 || wSome w 15 0
  | 11 =>
    decide (13 ≤ op) || bitOf w 12 || ([0, 4].contains op && wSome w 11 8) || (! [0, 3, 4].contains op && wSome w 11 0) ||
      (decide (op = 3) && wSome w 19 16) || (decide (10 ≤ op) && bitOf w 15)
  | 12 =>
    decide (3 ≤ op) || wSome w 7 0 || (decide (op = 0) && wSome w 19 16) ||
      (decide (op = 1) && (bitOf w 19 || wSome w 15 8)) ||
      (decide (op = 2) && (wSome w 19 12 || !([1, 2, 3].contains (wB w))))
  | 13 =>
    match op with
    | 1 => wSome w 19 16
    | 3 => wSome w 7 0 || !selListed (Machine.fld w 15 8)
    | 4 => wSome w 7 0 || !selListed (Machine.fld w 15 8)
    | 7 => wSome w 19 16
    | 8 => bitOf w 19 || wSome w 15 0
    | 9 => bitOf w 19 || wSome w 15 0
    | n => decide (12 ≤ n) || wSome w 19 0
  | _ => true

/-! ### The general registers -/

/-- G[n]. -/
def coreG (c : Chip) (n : Nat) : Nat := (listGet 0 c.core.g n).toNat
/-- P[n]. -/
def coreP (c : Chip) (n : Nat) : Nat := (listGet 0 c.core.p n).toNat
/-- A[n] as a signed 40-bit number (R221). -/
def coreA (c : Chip) (n : Nat) : Int := (listGet 0 c.core.a n).toInt
/-- Set FLG bit i. -/
def Chip.setFlag (c : Chip) (i : Nat) (b : Bool) : Chip := c.onCore (fun k => { k with flg := Machine.setBit k.flg i b })
/-- FLG bit i. -/
def coreFlag (c : Chip) (i : Nat) : Bool := bitOf c.core.flg i
/-! ### Exceptions and interrupts (R226 to R229) -/

/-- Enter bank k (R228): 0 for a synchronous exception, L for IRQ L, 5 for NMI. A debug step that enters a handler halts before its
first instruction (R542), and so does a CHALT that waited for a load's slot (R541). -/
def Chip.coreEnter (c0 : Chip) (k : Nat) (ret : Nat) : Chip :=
  let c := c0.finishLoad
  let st := c.core.status.toNat &&& 0x107
  let new := if k = 0 then st ||| 0x100 else k
  let c1 := (c.dropWait.onCore (fun x => { x with
    epc := listSet x.epc k (BitVec.ofNat 40 (ret / 4 * 4))
    estat := listSet x.estat k ((x.flg &&& 0xFE000000#32) ||| (x.status &&& 0x1FF#32))
    status := BitVec.ofNat 32 new
    resv := none, hold := .none
    pc := x.vbar + BitVec.ofNat 40 (0x40 * k) })).leaveWfi
  if c1.core.stepping.isSome then c1.coreHalt 2 else if c1.core.haltReq then c1.coreHalt 1 else c1
/-- A synchronous exception (R226, R230): while EXC = 1 the core enters lockup instead. -/
def Chip.coreTrap (c0 : Chip) (code info : Nat) (bad : Option Nat) (ret : Nat) : Chip :=
  let c := c0.finishLoad
  if coreExc c then
    let c1 := (c.onCore (fun k => { k with stepping := none, hold := .none })).setBit Reg.SYS_DCORE 31 true
    if c1.core.haltReq then c1.coreHalt 1 else c1
  else
    let c1 := c.onCore (fun k => { k with
      cause := BitVec.ofNat 32 (info % 2 ^ 16 * 256 + code)
      bad := match bad with
        | some a => BitVec.ofNat 40 a
        | none => k.bad })
    c1.coreEnter 0 ret
/-- May an interrupt be taken at this boundary: not between a load and its slot (R218), unless the slot holds (R227), nor in a step while
STEP_IRQ = 0 (R542)? -/
def asyncOpen (c : Chip) : Bool :=
  (c.core.load.isNone || decide (c.core.hold ≠ .none)) && (c.core.stepping.isNone || c.bit Reg.DBG_RUNCTL 9)
/-- The line that is taken (R227): NMI, or the highest IRQ above IPL while IE = 1. -/
def irqTaken (c : Chip) : Option Nat :=
  if c.lines.contains 5 ∧ coreIpl c < 5 then some 5
  else if !coreIe c then none
  else [4, 3, 2, 1].find? (fun L => c.lines.contains L && decide (coreIpl c < L))
/-- Is the held imprecise error taken at this boundary (R229)? -/
def impreciseTaken (c : Chip) : Bool := asyncOpen c && c.core.badSt.isSome && !coreExc c
/-- Is anything taken before the next instruction? -/
def asyncTaken (c : Chip) : Bool := impreciseTaken c || (asyncOpen c && (irqTaken c).isSome)

/-! ### Memory as the core sees it (R229, R232 to R234) -/

/-- The home line of a cacheable target (R233): the XIP window and DRAM. (DESIGN CHOICE: log 28) -/
def cacheLine : Target → Option Nat
  | .flash a => some (a / 64)
  | .loft _ h => some (h / 64)
  | _ => none
/-- A line into a cache of 4 ways of 128 sets (R233): which line of a full set goes is a free choice. (DESIGN CHOICE: log 28) -/
def Chip.cachePut (c : Chip) (lines : List (Nat × List Byte)) (k : Nat) (bs : List Byte) : List (Nat × List Byte) × Chip :=
  let others := lines.filter (fun e => decide (e.1 ≠ k))
  let set := others.filter (fun e => decide (e.1 % 128 = k % 128))
  if set.length < 4 then (others ++ [(k, bs)], c)
  else
    let r := c.drawFree
    let out := (listGet (0, []) set (r.1.toNat % 4)).1
    (others.filter (fun e => decide (e.1 ≠ out)) ++ [(k, bs)], r.2)
/-- The cached copy of a line: a parity error on a hit is treated as a miss (R233). -/
def cacheHit (c : Chip) (isData : Bool) (k : Nat) : Option (Nat × List Byte) :=
  if c.core.parity.contains (isData, k) then none
  else (if isData then c.core.dcache else c.core.icache).find? (fun e => e.1 == k)
/-- A line is filled with good parity. -/
def Chip.goodParity (c : Chip) (isData : Bool) (k : Nat) : Chip :=
  c.onCore (fun x => { x with parity := x.parity.filter (fun e => decide (e ≠ (isData, k))) })
/-- Bytes of a cached line. -/
def lineNat (bs : List Byte) (a n : Nat) : Nat := leNat ((bs.drop (a % 64)).take n)
/-- A read of n aligned bytes by the core: from the D-cache where it holds the line, which a miss fills (R233, R234).
(DESIGN CHOICE: log 29) -/
def Chip.coreRead (c : Chip) (a n : Nat) : Resp × Chip :=
  match cacheLine (decodeAddr c a), bitOf c.core.cctl 1 with
  | some k, true =>
    match cacheHit c true k with
    | some e => ({ data := lineNat e.2 a n }, c)
    | none =>
      if meshStops c a then (respWait, c) else
      let r := c.busRead .core (a / 64 * 64) 64 false
      if r.1.status ≠ 0 then r
      else if r.1.poison then r.2.busRead .core a n false
      else
        let bs := leBytes 64 r.1.data
        let p := r.2.cachePut r.2.core.dcache k bs
        let isLoft := match decodeAddr c a with
          | .loft _ _ => true
          | _ => false
        ({ data := lineNat bs a n }, (p.2.goodParity true k).onCore (fun x => { x with
          dcache := p.1, fills := if isLoft && !x.fills.contains k then x.fills ++ [k] else x.fills }))
  | _, _ => if meshStops c a then (respWait, c) else c.busRead .core a n false
/-- Bytes written over the cached copy of a line. -/
def linePatch (bs : List Byte) (a : Nat) (new : List Byte) : List Byte :=
  bs.take (a % 64) ++ new ++ bs.drop (a % 64 + new.length)
/-- A store by the core (R229, R232, R234): written through, a cached copy updated; a store to the ITCM is not yet seen by fetch. -/
def Chip.coreWrite (c : Chip) (a : Nat) (bs : List Byte) : Resp × Chip :=
  let r := c.busWrite .core a bs false
  let old : List (Nat × Byte) := match decodeAddr c a with
    | .itcm b => if r.1.status = 0 then
        ((List.range bs.length).filter (fun i => !c.core.itcm.any (fun (e : Nat × Byte) => e.1 == b + i))).map
        (fun i => (b + i, c.rd8 (b + i)))
      else []
    | _ => []
  let line : Option (Nat × List Byte) := match cacheLine (decodeAddr c a) with
    | some k => cacheHit c true k
    | none => none
  (r.1, r.2.onCore (fun x => { x with
    itcm := x.itcm ++ old
    dcache := match line with
      | some e => x.dcache.filter (fun (y : Nat × List Byte) => y.1 != e.1) ++ [(e.1, if r.1.status = 0 then linePatch e.2 a bs else e.2)]
      | none => x.dcache
    fills := match line with
      | some e => if x.fills.contains e.1 then x.fills else x.fills ++ [e.1]
      | none => x.fills }))
/-- A store that leaves through the store buffer (R229): an error response is held for an imprecise BUSERR, and further ones only set
MULTI. (DESIGN CHOICE: log 30) -/
def Chip.coreStore (c : Chip) (a : Nat) (bs : List Byte) : Chip :=
  let r := c.coreWrite a bs
  if r.1.status = 0 then r.2
  else match r.2.core.badSt with
    | none => r.2.onCore (fun k => { k with badSt := some a })
    | some _ => r.2.onCore (fun k => { k with multi := true, cause := Machine.setBit k.cause 30 true })

/-- The instruction word at PC (R231 to R233), none where the fetch waits for the flash controller (R347) or raises FETCH. (DESIGN CHOICE: log 29) -/
def Chip.coreFetch (c : Chip) : Option Word × Chip :=
  let a := c.core.pc.toNat
  let word : Resp × Chip → Option Word × Chip := fun r =>
    (if r.1.status ≠ 0 ∨ r.1.poison then none else some (BitVec.ofNat 32 r.1.data), r.2)
  match decodeAddr c a with
  | .itcm b =>
    let r := word (c.busRead .core a 4 false)
    let seen := (List.range 4).map (fun i => match c.core.itcm.find? (fun e => e.1 == b + i) with
      | some e => e.2
      | none => c.rd8 (b + i))
    (r.1.map (fun _ => BitVec.ofNat 32 (leNat seen)), r.2)
  | tgt =>
    match cacheLine tgt with
    | none => (none, c)
    | some k =>
      if !bitOf c.core.cctl 0 then (if meshStops c a then (none, c) else word (c.busRead .core a 4 false)) else
      match cacheHit c false k with
      | some e => (some (BitVec.ofNat 32 (lineNat e.2 a 4)), c)
      | none =>
        if meshStops c a then (none, c) else
        let r := c.busRead .core (a / 64 * 64) 64 false
        if r.1.status ≠ 0 then (none, r.2)
        else if r.1.poison then word (r.2.busRead .core a 4 false)
        else
          let bs := leBytes 64 r.1.data
          let p := r.2.cachePut r.2.core.icache k bs
          (some (BitVec.ofNat 32 (lineNat bs a 4)), (p.2.goodParity false k).onCore (fun x => { x with icache := p.1 }))

/-! ### One instruction -/

/-- What an instruction comes to: the next one at `pc`, a load with it; an exception with its code, INFO, BADADDR and return address;
a hold at the instruction; a wait for a read of the XIP window or for NCLK, after which it executes as if anew (R347, R479); or a
debug halt. -/
inductive Did where
  | next (c : Chip) (pc : Nat) (load : Option (LoadDest × Addr))
  | trap (c : Chip) (code info : Nat) (bad : Option Nat) (ret : Nat)
  | hold (c : Chip) (h : CoreHold)
  | wait (c : Chip)
  | halt (c : Chip)

/-- An instruction is over: a debug step counts it, and halts where it ends the step (R542); a CHALT that waited takes effect (R541).
`w` is the word as executed, 0 where its condition failed. (DEDUCED: log 114) -/
def Chip.stepDone (c : Chip) (w : Word) : Chip :=
  match c.core.stepping with
  | some (ex, n) =>
    let isLdx := decide (wCls w = 3) && decide (wMem w = 11)
    let isStx := decide (wCls w = 3) && decide (wMem w = 10)
    let excl := if n = 0 then isLdx else ex && !isStx && decide (n + 1 < 64)
    let c1 := c.onCore (fun k => { k with stepping := some (excl, n + 1) })
    if !excl && c1.core.load.isNone then c1.coreHalt 2 else c1
  | none => if c.core.haltReq && c.core.load.isNone then c.coreHalt 1 else c

/-- Carry out what an instruction came to. A load that came before completes after it (R217): an ISSUE that holds in its slot still sees the
old value when it is tried again. -/
def Chip.coreDid (w : Word) : Did → Chip
  | .next c pc load =>
    (c.finishLoad.onCore (fun k => { k with pc := BitVec.ofNat 40 pc, load := load })).stepDone w
  | .trap c code info bad ret => c.coreTrap code info bad ret
  | .hold c h =>
    let c1 := (if h = .wfi then c.finishLoad else c).onCore (fun k => { k with hold := h })
    if c1.core.haltReq then c1.finishLoad.coreHalt 1 else c1
  | .wait c => c
  | .halt c => c.finishLoad.coreHalt 3

/-- May the core begin an instruction now? (DESIGN CHOICE: log 31) -/
def coreReady (c : Chip) : Bool := coreRuns c && decide (c.core.hold = .none) && !asyncTaken c
/-- The instruction rows: the core fetches at PC, and where the word is the row's instruction executes it. A fetch that the flash controller
holds waits (R347); a fetch error raises FETCH; a failed condition only advances PC (R212); a word of another row leaves everything, the fetch included, to that row.
(DESIGN CHOICE: log 31) -/
def Chip.coreInsn (c : Chip) (mine : Word → Bool) (f : Chip → Word → Nat → Did) : Chip :=
  if !coreReady c then c else
  let pc := c.core.pc.toNat
  match c.coreFetch with
  | (none, d) => if coreWaits d then d else d.coreTrap 6 0 (some pc) pc
  | (some w, d) =>
    if wordUndefined w || !mine w then c
    else if !condOk d.core.flg d.core.gorl (Machine.fld w 31 28) then Chip.coreDid 0 (.next d (pc + 4) none)
    else Chip.coreDid w (f d w pc)
/-- UNDEF_INSTRUCTION (R215, R226): whatever its condition. -/
def execUndefInstruction (s : State) : Host.Outcome State Fault Refusal :=
  runAny (fun c =>
    if !coreReady c then c else
    let pc := c.core.pc.toNat
    match c.coreFetch with
    | (none, d) => if coreWaits d then d else d.coreTrap 6 0 (some pc) pc
    | (some w, d) => if wordUndefined w then d.coreTrap 1 0 none pc else c) s
/-- INTERRUPT_ENTRY (R227, R228): in a hold of ISSUE or AWAIT the return address is that instruction; WFI's is the next. -/
def execInterruptEntry (s : State) : Host.Outcome State Fault Refusal :=
  runAny (fun c =>
    if !coreRuns c || !asyncOpen c || impreciseTaken c then c else
    match irqTaken c with
    | some k => c.coreEnter k c.core.pc.toNat
    | none => c) s
/-- IMPRECISE_BUSERR (R229). -/
def execImpreciseBuserr (s : State) : Host.Outcome State Fault Refusal :=
  runAny (fun c =>
    if !coreRuns c || !impreciseTaken c then c else
    match c.core.badSt with
    | none => c
    | some a =>
      let m := c.core.multi
      let c1 := c.onCore (fun k => { k with
        cause := BitVec.ofNat 32 (2 ^ 31 + m.toNat * 2 ^ 30 + 5), bad := BitVec.ofNat 40 a, badSt := none, multi := false })
      c1.coreEnter 0 c1.core.pc.toNat) s

end Sys2Proof.Machine
end

