-- ==== Sys2Proof/Machine/DistaffAlu.lean ====
section
/-!
DEFINITION. The core's arithmetic (chapter 09): classes 0x0 to 0x2 and 0x5 to 0x8, and class 0xB.
-/
namespace Sys2Proof.Machine

/-! ### Integer operations (R238 to R240) -/

/-- A result of the integer classes: its 32 bits, and C and V where the operation sets them. -/
structure AluOut where
  r : Nat
  c : Option Bool := none
  v : Option Bool := none
  sv : Bool := false

/-- Set N and Z from a 32-bit result, C and V where given. -/
def nzcv (flg : Word) (r : Nat) (c v : Option Bool) : Word :=
  let f1 := Machine.setBit (Machine.setBit flg 31 (r.testBit 31)) 30 (decide (r % 2 ^ 32 = 0))
  let f2 := match c with
    | some b => Machine.setBit f1 29 b
    | none => f1
  match v with
  | some b => Machine.setBit f2 28 b
  | none => f2

/-- Is a number outside the signed 32-bit range? -/
def outside32 (x : Int) : Bool := decide (x < -(2 ^ 31)) || decide (2 ^ 31 - 1 < x)
/-- A + B + k with its carry and overflow. -/
def aluAdd (a b k : Nat) : AluOut :=
  { r := (a + b + k) % 2 ^ 32, c := some (decide (2 ^ 32 ≤ a + b + k))
    v := some (outside32 (toSigned 32 a + toSigned 32 b + k)) }
/-- A − B − k: C = 1 says that there was no borrow. -/
def aluSub (a b k : Nat) : AluOut :=
  { r := wrapInt 32 ((a : Int) - b - k), c := some (decide (b + k ≤ a))
    v := some (outside32 (toSigned 32 a - toSigned 32 b - k)) }
/-- A bitwise result. -/
def aluBits (r : Nat) : AluOut := { r := r % 2 ^ 32 }
/-- LSL (R239): `n` is the count 0 to 255. -/
def aluLsl (a n : Nat) : AluOut :=
  if n = 0 then { r := a } else { r := a * 2 ^ n % 2 ^ 32, c := some (decide (n ≤ 32) && a.testBit (32 - n)) }
/-- LSR (R239). -/
def aluLsr (a n : Nat) : AluOut :=
  if n = 0 then { r := a } else { r := a / 2 ^ n, c := some (a.testBit (n - 1)) }
/-- ASR (R239). -/
def aluAsr (a n : Nat) : AluOut :=
  if n = 0 then { r := a }
  else { r := wrapInt 32 (toSigned 32 a / 2 ^ n), c := some (if 32 ≤ n then a.testBit 31 else a.testBit (n - 1)) }
/-- ROR (R239): a count that is a nonzero multiple of 32 returns A and sets C from its top bit. -/
def aluRor (a n : Nat) : AluOut :=
  if n = 0 then { r := a } else { r := rotr 32 a n, c := some ((rotr 32 a n).testBit 31) }
/-- QADD and QSUB (R240). -/
def aluSat (x : Int) : AluOut :=
  let y : Int := if 2 ^ 31 - 1 < x then 2 ^ 31 - 1 else if x < -(2 ^ 31) then -(2 ^ 31) else x
  { r := wrapInt 32 y, v := some (decide (y ≠ x)), sv := decide (y ≠ x) }

/-- The second operand of classes 0x0 and 0x1 (R214, R239): sign- or zero-extended IMM; a shift's count. -/
def aluB (c : Chip) (w : Word) : Nat :=
  let op := wOp w
  let imm := Machine.fld w 10 0
  if wCls w = 0 then (if 8 ≤ op ∧ op ≤ 11 then coreG c (wB w) % 256 else coreG c (wB w))
  else if 4 ≤ op ∧ op ≤ 7 then imm
  else if 8 ≤ op ∧ op ≤ 11 then imm % 32
  else wrapInt 32 (toSigned 11 imm)
/-- SF of classes 0x0 and 0x1 (R213). -/
def aluSf (w : Word) : Bool := if wCls w = 1 then bitOf w 11 else bitOf w 7
/-- An instruction of class 0x0 or 0x1 with operation `op`: D is written unless it is CMP; flags under SF. -/
def Chip.aluInsn (c : Chip) (op : Nat) (f : Nat → Nat → Nat → AluOut) : Chip :=
  c.coreInsn (fun w => decide (wCls w ≤ 1) && decide (wOp w = op)) (fun d w pc =>
    let o := f (coreG d (wA w)) (aluB d w) (coreFlag d 29).toNat
    let d1 := if o.sv then d.setFlag 27 true else d
    let d2 := if op = 13 then d1 else d1.setG (wD w) o.r
    .next (if aluSf w || decide (op = 13) then d2.onCore (fun k => { k with flg := nzcv k.flg o.r o.c o.v }) else d2) (pc + 4) none)

/-- ADD (R238). -/
def execDistaffAdd (s : State) : Host.Outcome State Fault Refusal := runAny (fun c => c.aluInsn 0 (fun a b _ => aluAdd a b 0)) s
/-- ADC (R238). -/
def execAdc (s : State) : Host.Outcome State Fault Refusal := runAny (fun c => c.aluInsn 1 (fun a b k => aluAdd a b k)) s
/-- SUB (R238). -/
def execDistaffSub (s : State) : Host.Outcome State Fault Refusal := runAny (fun c => c.aluInsn 2 (fun a b _ => aluSub a b 0)) s
/-- SBC (R238): A − B − (1 − C). -/
def execSbc (s : State) : Host.Outcome State Fault Refusal := runAny (fun c => c.aluInsn 3 (fun a b k => aluSub a b (1 - k))) s
/-- AND (R214). -/
def execAnd (s : State) : Host.Outcome State Fault Refusal := runAny (fun c => c.aluInsn 4 (fun a b _ => aluBits (a &&& b))) s
/-- OR (R214). -/
def execOr (s : State) : Host.Outcome State Fault Refusal := runAny (fun c => c.aluInsn 5 (fun a b _ => aluBits (a ||| b))) s
/-- XOR (R214). -/
def execXor (s : State) : Host.Outcome State Fault Refusal := runAny (fun c => c.aluInsn 6 (fun a b _ => aluBits (a ^^^ b))) s
/-- BIC (R214). -/
def execBic (s : State) : Host.Outcome State Fault Refusal :=
  runAny (fun c => c.aluInsn 7 (fun a b _ => aluBits (a &&& (2 ^ 32 - 1 - b)))) s
/-- LSL (R239). -/
def execLsl (s : State) : Host.Outcome State Fault Refusal := runAny (fun c => c.aluInsn 8 (fun a b _ => aluLsl a b)) s
/-- LSR (R239). -/
def execLsr (s : State) : Host.Outcome State Fault Refusal := runAny (fun c => c.aluInsn 9 (fun a b _ => aluLsr a b)) s
/-- ASR (R239). -/
def execAsr (s : State) : Host.Outcome State Fault Refusal := runAny (fun c => c.aluInsn 10 (fun a b _ => aluAsr a b)) s
/-- ROR (R239). -/
def execDistaffRor (s : State) : Host.Outcome State Fault Refusal := runAny (fun c => c.aluInsn 11 (fun a b _ => aluRor a b)) s
/-- MOV (R214). -/
def execDistaffMov (s : State) : Host.Outcome State Fault Refusal := runAny (fun c => c.aluInsn 12 (fun _ b _ => aluBits b)) s
/-- CMP (R238): flags only, whatever SF. -/
def execDistaffCmp (s : State) : Host.Outcome State Fault Refusal := runAny (fun c => c.aluInsn 13 (fun a b _ => aluSub a b 0)) s
/-- QADD (R240). -/
def execQadd (s : State) : Host.Outcome State Fault Refusal :=
  runAny (fun c => c.aluInsn 14 (fun a b _ => aluSat (toSigned 32 a + toSigned 32 b))) s
/-- QSUB (R240). -/
def execQsub (s : State) : Host.Outcome State Fault Refusal :=
  runAny (fun c => c.aluInsn 15 (fun a b _ => aluSat (toSigned 32 a - toSigned 32 b))) s

/-- MOVL (R214). -/
def execMovl (s : State) : Host.Outcome State Fault Refusal :=
  runAny (fun c => c.coreInsn (fun w => decide (wCls w = 2) && decide (Machine.fld w 23 22 = 0))
    (fun d w pc => .next (d.setG (wD w) (Machine.fld w 15 0)) (pc + 4) none)) s
/-- MOVH (R214): the low half is kept. -/
def execMovh (s : State) : Host.Outcome State Fault Refusal :=
  runAny (fun c => c.coreInsn (fun w => decide (wCls w = 2) && decide (Machine.fld w 23 22 = 1))
    (fun d w pc => .next (d.setG (wD w) (Machine.fld w 15 0 * 2 ^ 16 + coreG d (wD w) % 2 ^ 16)) (pc + 4) none)) s

/-! ### Accumulators (R221, R242) -/

/-- v with its low k bits removed, rounded by RND (R98): 0b00 floor, 0b01 half up, 0b10 half to even, 0b11 half away from 0. -/
def roundOff (v : Int) (k rnd : Nat) : Int :=
  let q := v / 2 ^ k
  let r := 2 * (v % 2 ^ k)
  let h : Int := 2 ^ k
  if k = 0 then v
  else match rnd with
    | 0 => q
    | 1 => if h ≤ r then q + 1 else q
    | 2 => if h < r ∨ (h = r ∧ q % 2 = 1) then q + 1 else q
    | _ => if (0 ≤ v ∧ h ≤ r) ∨ h < r then q + 1 else q
/-- A signed value narrowed to n bits, and whether it saturated (SAT = 1). -/
def narrowTo (n : Nat) (x : Int) (sat : Bool) : Nat × Bool :=
  let hi : Int := 2 ^ (n - 1) - 1
  let lo : Int := -(2 ^ (n - 1))
  if sat && decide (hi < x) then (wrapInt n hi, true)
  else if sat && decide (x < lo) then (wrapInt n lo, true)
  else (wrapInt n x, false)
/-- An instruction of class 0x5. -/
def Chip.accInsn (c : Chip) (op : Nat) (f : Chip → Word → Chip) : Chip :=
  c.coreInsn (fun w => decide (wCls w = 5) && decide (wOp w = op)) (fun d w pc => .next (f d w) (pc + 4) none)
/-- Ad of class 0x5 (R213). -/
def wAd (w : Word) : Nat := Machine.fld w 19 18
/-- The value of the product as MUL, MAC and MSU take it, and whether the reduction of FRAC = 0 saturated (R242): P reduced to 40 bits
as an accumulator result is, or 2 × P with its low 32 bits rounded off (DEDUCED, log 145: MAC and MSU take the reduced P). -/
def accProduct (d : Chip) (w : Word) : Int × Bool :=
  let p := toSigned 32 (coreG d (wA w)) * toSigned 32 (coreG d (wB w))
  if bitOf w 4 then (roundOff (2 * p) 32 (Machine.fld w 7 6), false)
  else
    let r := narrowTo 40 p (bitOf w 5)
    (toSigned 40 r.1, r.2)
/-- An accumulator result with its one overflow check; SV where it saturates. -/
def Chip.accPut (d : Chip) (w : Word) (x : Int) : Chip :=
  let r := narrowTo 40 x (bitOf w 5)
  (if r.2 then d.setFlag 27 true else d).setA (wAd w) r.1
/-- MUL, MAC and MSU: the accumulator result formed from the value taken; SV where that value or the result saturated. -/
def Chip.accTake (d : Chip) (w : Word) (f : Int → Int) : Chip :=
  let t := accProduct d w
  (if t.2 then d.setFlag 27 true else d).accPut w (f t.1)

/-- MUL of class 0x5 (R242). -/
def execDistaffMulAcc (s : State) : Host.Outcome State Fault Refusal :=
  runAny (fun c => c.accInsn 0 (fun d w => d.accTake w (fun x => x))) s
/-- MAC (R242). -/
def execMac (s : State) : Host.Outcome State Fault Refusal :=
  runAny (fun c => c.accInsn 1 (fun d w => d.accTake w (fun x => coreA d (wAd w) + x))) s
/-- MSU (R242). -/
def execMsu (s : State) : Host.Outcome State Fault Refusal :=
  runAny (fun c => c.accInsn 2 (fun d w => d.accTake w (fun x => coreA d (wAd w) - x))) s
/-- MOVA (R242). -/
def execMova (s : State) : Host.Outcome State Fault Refusal :=
  runAny (fun c => c.accInsn 3 (fun d w => d.setA (wAd w) (wrapInt 40 (toSigned 32 (coreG d (wA w)))))) s
/-- RDA (R242): Ad is unchanged. -/
def execRda (s : State) : Host.Outcome State Fault Refusal :=
  runAny (fun c => c.accInsn 4 (fun d w =>
    let r := narrowTo 32 (roundOff (coreA d (wAd w)) (Machine.fld w 3 0) (Machine.fld w 7 6)) (bitOf w 5)
    (if r.2 then d.setFlag 27 true else d).setG (wA w) r.1)) s
/-- ASRA (R242). -/
def execAsra (s : State) : Host.Outcome State Fault Refusal :=
  runAny (fun c => c.accInsn 5 (fun d w =>
    d.setA (wAd w) (wrapInt 40 (roundOff (coreA d (wAd w)) (Machine.fld w 3 0) (Machine.fld w 7 6))))) s
/-- CLRA (R214). -/
def execClra (s : State) : Host.Outcome State Fault Refusal := runAny (fun c => c.accInsn 6 (fun d w => d.setA (wAd w) 0)) s

/-! ### Multiplication and division (R241, R243, R244) -/

/-- What a division makes: quotient, remainder, DZ, V. -/
structure DivOut where
  q : Nat
  r : Nat
  dz : Bool := false
  v : Bool := false
/-- DIVU and REMU. -/
def divU (a b : Nat) : DivOut := if b = 0 then { q := 2 ^ 32 - 1, r := a, dz := true } else { q := a / b, r := a % b }
/-- DIVS and REMS: truncated toward zero; the remainder takes the dividend's sign. -/
def divS (a b : Nat) : DivOut :=
  let x := toSigned 32 a
  let y := toSigned 32 b
  if y = 0 then { q := if x < 0 then 2 ^ 31 else 2 ^ 31 - 1, r := a, dz := true }
  else
    let q : Int := if (decide (x < 0)) = decide (y < 0) then ((x.natAbs / y.natAbs : Nat) : Int) else -((x.natAbs / y.natAbs : Nat) : Int)
    { q := wrapInt 32 q, r := wrapInt 32 (x - q * y), v := decide (x = -(2 ^ 31)) && decide (y = -1) }
/-- An instruction of class 0x6: D is written; N and Z under SF, V as given; DZ whatever SF is. -/
def Chip.mulInsn (c : Chip) (op : Nat) (f : Nat → Nat → AluOut × Bool) : Chip :=
  c.coreInsn (fun w => decide (wCls w = 6) && decide (wOp w = op)) (fun d w pc =>
    let o := f (coreG d (wA w)) (coreG d (wB w))
    let d1 := (if o.2 then d.setFlag 25 true else d).setG (wD w) o.1.r
    .next (if bitOf w 7 then d1.onCore (fun k => { k with flg := nzcv k.flg o.1.r none o.1.v }) else d1) (pc + 4) none)

/-- MUL of class 0x6 (R241). -/
def execDistaffMul (s : State) : Host.Outcome State Fault Refusal :=
  runAny (fun c => c.mulInsn 0 (fun a b => ({ r := a * b % 2 ^ 32 }, false))) s
/-- MULHS (R241). -/
def execMulhs (s : State) : Host.Outcome State Fault Refusal :=
  runAny (fun c => c.mulInsn 1 (fun a b => ({ r := wrapInt 32 (toSigned 32 a * toSigned 32 b / 2 ^ 32) }, false))) s
/-- MULHU (R241). -/
def execMulhu (s : State) : Host.Outcome State Fault Refusal :=
  runAny (fun c => c.mulInsn 2 (fun a b => ({ r := a * b / 2 ^ 32 }, false))) s
/-- DIVS (R243, R244). -/
def execDivs (s : State) : Host.Outcome State Fault Refusal :=
  runAny (fun c => c.mulInsn 3 (fun a b => ({ r := (divS a b).q, v := some (divS a b).v }, (divS a b).dz))) s
/-- DIVU (R243, R244). -/
def execDivu (s : State) : Host.Outcome State Fault Refusal :=
  runAny (fun c => c.mulInsn 4 (fun a b => ({ r := (divU a b).q, v := some false }, (divU a b).dz))) s
/-- REMS (R243, R244). -/
def execRems (s : State) : Host.Outcome State Fault Refusal :=
  runAny (fun c => c.mulInsn 5 (fun a b => ({ r := (divS a b).r, v := some (divS a b).v }, (divS a b).dz))) s
/-- REMU (R243, R244). -/
def execRemu (s : State) : Host.Outcome State Fault Refusal :=
  runAny (fun c => c.mulInsn 6 (fun a b => ({ r := (divU a b).r, v := some false }, (divU a b).dz))) s

/-! ### binary32 (R245 to R250) -/

/-- The flags in the order of FPSR.FLAGS (R235): invalid, divide-by-zero, overflow, underflow, inexact from bit 4 down. -/
def fpFlagBits (x : FpFlags) : Nat :=
  x.invalid.toNat * 16 + x.divZero.toNat * 8 + x.overflow.toNat * 4 + x.underflow.toNat * 2 + x.inexact.toNat
/-- An instruction of class 0x7: the flags are ORed into FPSR.FLAGS; one whose trap is enabled raises FPTRAP, and nothing else is
written (R226, R250). -/
def Chip.fpInsn (c : Chip) (op : Nat) (f : Chip → Word → FpRound → FpFlags × (Chip → Chip)) : Chip :=
  c.coreInsn (fun w => decide (wCls w = 7) && decide (wOp w = op)) (fun d w pc =>
    let o := f d w (fpRoundOf (Machine.fld d.core.fpsr 17 16))
    let bits := fpFlagBits o.1
    let d1 := d.onCore (fun k => { k with fpsr := k.fpsr ||| BitVec.ofNat 32 bits })
    if bits &&& Machine.fld d.core.fpsr 12 8 ≠ 0 then .trap d1 7 bits none pc else .next (o.2 d1) (pc + 4) none)
/-- An operation that writes D. -/
def Chip.fpWrite (c : Chip) (op : Nat) (f : Nat → Nat → Nat → FpRound → Nat × FpFlags) : Chip :=
  c.fpInsn op (fun d w m =>
    let r := f (coreG d (wA w)) (coreG d (wB w)) (coreG d (wD w)) m
    (r.2, fun (x : Chip) => x.setG (wD w) r.1))

/-- FADD (R245). -/
def execFadd (s : State) : Host.Outcome State Fault Refusal := runAny (fun c => c.fpWrite 0 (fun a b _ m => fpAdd fpSingle m a b)) s
/-- FSUB (R245). -/
def execFsub (s : State) : Host.Outcome State Fault Refusal := runAny (fun c => c.fpWrite 1 (fun a b _ m => fpSub fpSingle m a b)) s
/-- FMUL (R245). -/
def execFmul (s : State) : Host.Outcome State Fault Refusal := runAny (fun c => c.fpWrite 2 (fun a b _ m => fpMul fpSingle m a b)) s
/-- FDIV (R245). -/
def execFdiv (s : State) : Host.Outcome State Fault Refusal := runAny (fun c => c.fpWrite 3 (fun a b _ m => fpDiv fpSingle m a b)) s
/-- FSQRT (R246). -/
def execFsqrt (s : State) : Host.Outcome State Fault Refusal := runAny (fun c => c.fpWrite 4 (fun a _ _ m => fpSqrt fpSingle m a)) s
/-- FMA (R245): D + A × B, rounded once. -/
def execFma (s : State) : Host.Outcome State Fault Refusal := runAny (fun c => c.fpWrite 5 (fun a b d m => fpFma fpSingle m a b d)) s
/-- FMIN (R246). -/
def execFmin (s : State) : Host.Outcome State Fault Refusal :=
  runAny (fun c => c.fpWrite 6 (fun a b _ _ => fpMinMax fpSingle false a b)) s
/-- FMAX (R246). -/
def execFmax (s : State) : Host.Outcome State Fault Refusal :=
  runAny (fun c => c.fpWrite 7 (fun a b _ _ => fpMinMax fpSingle true a b)) s
/-- N Z C V of a comparison (R248), as FLG[31:28]. -/
def fcmpFlags (a b : Fp) : Nat :=
  if fpIsNan a || fpIsNan b then 0b0011
  else match fpCompare a b with
    | .eq => 0b0110
    | .lt => 0b1000
    | .gt => 0b0010
/-- FCMP (R248): flags only; invalid only for a signalling NaN. -/
def execFcmp (s : State) : Host.Outcome State Fault Refusal :=
  runAny (fun c => c.fpInsn 8 (fun d w _ =>
    let a := fpUnpack fpSingle (coreG d (wA w))
    let b := fpUnpack fpSingle (coreG d (wB w))
    ({ invalid := fpIsSnan a || fpIsSnan b },
     fun (x : Chip) => x.onCore (fun k => { k with flg := Machine.setFld k.flg 31 28 (fcmpFlags a b) })))) s
/-- FCVTWS (R247). -/
def execFcvtws (s : State) : Host.Outcome State Fault Refusal :=
  runAny (fun c => c.fpWrite 9 (fun a _ _ m => fpToFixed m (fpUnpack fpSingle a) 0 32 true 0)) s
/-- FCVTSW (R247). -/
def execFcvtsw (s : State) : Host.Outcome State Fault Refusal :=
  runAny (fun c => c.fpWrite 10 (fun a _ _ m => fpOfFixed fpSingle m (toSigned 32 a) 0)) s
/-- FNEG (R246): the sign bit alone, without a flag. -/
def execFneg (s : State) : Host.Outcome State Fault Refusal := runAny (fun c => c.fpWrite 11 (fun a _ _ _ => (a ^^^ 2 ^ 31, {}))) s
/-- FABS (R246). -/
def execFabs (s : State) : Host.Outcome State Fault Refusal := runAny (fun c => c.fpWrite 12 (fun a _ _ _ => (a % 2 ^ 31, {}))) s

/-! ### Packed decimal (R251, R252) -/

/-- Is every nibble a decimal digit? -/
def bcdOk (x : Nat) : Bool := (List.range 8).all (fun i => decide (natBits x (4 * i + 3) (4 * i) ≤ 9))
/-- The value of eight digits. -/
def bcdValue (x : Nat) : Nat := (List.range 8).foldl (fun a i => a + natBits x (4 * i + 3) (4 * i) * 10 ^ i) 0
/-- Eight digits of a value. -/
def bcdOf (v : Nat) : Nat := (List.range 8).foldl (fun a i => a + v / 10 ^ i % 10 * 16 ^ i) 0
/-- DADD and DSUB: a bad digit only sets DV; else Z from the result, C as given, N and V clear. -/
def Chip.bcdInsn (c : Chip) (op : Nat) (f : Nat → Nat → Nat × Bool) : Chip :=
  c.coreInsn (fun w => decide (wCls w = 8) && decide (wOp w = op)) (fun d w pc =>
    let a := coreG d (wA w)
    let b := coreG d (wB w)
    if !bcdOk a || !bcdOk b then .next (d.setFlag 26 true) (pc + 4) none
    else
      let r := f (bcdValue a) (bcdValue b)
      .next ((d.setG (wD w) (bcdOf r.1)).onCore (fun k => { k with
        flg := Machine.setFld k.flg 31 28 ((decide (r.1 = 0)).toNat * 4 + r.2.toNat * 2) })) (pc + 4) none)
/-- DADD (R251). -/
def execDadd (s : State) : Host.Outcome State Fault Refusal :=
  runAny (fun c => c.bcdInsn 0 (fun a b => ((a + b) % 10 ^ 8, decide (10 ^ 8 ≤ a + b)))) s
/-- DSUB (R251). -/
def execDsub (s : State) : Host.Outcome State Fault Refusal :=
  runAny (fun c => c.bcdInsn 1 (fun a b => (if b ≤ a then a - b else 10 ^ 8 - (b - a), decide (b ≤ a)))) s
/-- DCHK (R252): Z alone. -/
def execDchk (s : State) : Host.Outcome State Fault Refusal :=
  runAny (fun c => c.coreInsn (fun w => decide (wCls w = 8) && decide (wOp w = 2))
    (fun d w pc => .next (d.setFlag 30 (bcdOk (coreG d (wA w)))) (pc + 4) none)) s

/-! ### Class 0xB (R214) -/

/-- The index field [15:13]. -/
def wIdx (w : Word) : Nat := Machine.fld w 15 13
/-- An instruction of class 0xB. -/
def Chip.moveInsn (c : Chip) (op : Nat) (f : Chip → Word → Chip) : Chip :=
  c.coreInsn (fun w => decide (wCls w = 11) && decide (wOp w = op)) (fun d w pc => .next (f d w) (pc + 4) none)
/-- SETP. -/
def execSetp (s : State) : Host.Outcome State Fault Refusal :=
  runAny (fun c => c.moveInsn 0 (fun d w => d.setP (wIdx w) (Machine.fld w 7 0 * 2 ^ 32 + coreG d (wD w)))) s
/-- GETP. -/
def execGetp (s : State) : Host.Outcome State Fault Refusal :=
  runAny (fun c => c.moveInsn 1 (fun d w => d.setG (wD w) (coreP d (wIdx w)))) s
/-- GETPH. -/
def execGetph (s : State) : Host.Outcome State Fault Refusal :=
  runAny (fun c => c.moveInsn 2 (fun d w => d.setG (wD w) (coreP d (wIdx w) / 2 ^ 32))) s
/-- ADDP: linear. -/
def execAddp (s : State) : Host.Outcome State Fault Refusal :=
  runAny (fun c => c.moveInsn 3 (fun d w => d.setP (wIdx w) (wrapInt 40 ((coreP d (wIdx w) : Int) + toSigned 12 (Machine.fld w 11 0))))) s
/-- SETB. -/
def execSetb (s : State) : Host.Outcome State Fault Refusal :=
  runAny (fun c => c.moveInsn 4 (fun d w => d.onCore (fun k => { k with
    b := listSet k.b (wIdx w) (BitVec.ofNat 40 (Machine.fld w 7 0 * 2 ^ 32 + coreG d (wD w))) }))) s
/-- SETL. -/
def execSetl (s : State) : Host.Outcome State Fault Refusal :=
  runAny (fun c => c.moveInsn 5 (fun d w => d.onCore (fun k => { k with l := listSet k.l (wIdx w) (BitVec.ofNat 24 (coreG d (wD w))) }))) s
/-- SETN. -/
def execSetn (s : State) : Host.Outcome State Fault Refusal :=
  runAny (fun c => c.moveInsn 6 (fun d w => d.onCore (fun k => { k with n := listSet k.n (wIdx w) (BitVec.ofNat 24 (coreG d (wD w))) }))) s
/-- GETL. -/
def execGetl (s : State) : Host.Outcome State Fault Refusal :=
  runAny (fun c => c.moveInsn 7 (fun d w => d.setG (wD w) (listGet 0 d.core.l (wIdx w)).toNat)) s
/-- GETN: sign-extended. -/
def execGetn (s : State) : Host.Outcome State Fault Refusal :=
  runAny (fun c => c.moveInsn 8 (fun d w => d.setG (wD w) (wrapInt 32 (listGet 0 d.core.n (wIdx w)).toInt))) s
/-- GETB. -/
def execGetb (s : State) : Host.Outcome State Fault Refusal :=
  runAny (fun c => c.moveInsn 9 (fun d w => d.setG (wD w) (listGet 0 d.core.b (wIdx w)).toNat)) s
/-- GETAL. -/
def execGetal (s : State) : Host.Outcome State Fault Refusal :=
  runAny (fun c => c.moveInsn 10 (fun d w => d.setG (wD w) (listGet 0 d.core.a (wIdx w)).toNat)) s
/-- GETAH: sign-extended. -/
def execGetah (s : State) : Host.Outcome State Fault Refusal :=
  runAny (fun c => c.moveInsn 11 (fun d w => d.setG (wD w) (wrapInt 32 (coreA d (wIdx w) / 2 ^ 32)))) s
/-- SETAH. -/
def execSetah (s : State) : Host.Outcome State Fault Refusal :=
  runAny (fun c => c.moveInsn 12 (fun d w => d.onCore (fun k => { k with
    a := listSet k.a (wIdx w) (addrHigh (listGet 0 k.a (wIdx w)) (coreG d (wD w))) }))) s

end Sys2Proof.Machine
end

