-- ==== Sys2Proof/Machine/DistaffMem.lean ====
section
/-!
DEFINITION. Loads and stores, exclusive pairs, branches, the array commands and the system class of the core (chapter 08).
-/
namespace Sys2Proof.Machine

/-! ### Addressing (R219, R220) -/

/-- A pointer stepped by s in its buffer: linear where L = 0. -/
def stepPointer (p b l : Nat) (s : Int) : Nat :=
  if l = 0 then wrapInt 40 ((p : Int) + s) else wrapInt 40 ((b : Int) + (toSigned 40 (wrapInt 40 ((p : Int) - b)) + s) % (l : Int))
/-- The low n bits in reverse order. -/
def reverseBits (n x : Nat) : Nat := bitsOfFn (fun i => x.testBit (n - 1 - i)) n
/-- Reverse-carry addition of a step to P[23:0]. -/
def reverseAdd (p n : Nat) : Nat :=
  p / 2 ^ 24 * 2 ^ 24 + reverseBits 24 ((reverseBits 24 (p % 2 ^ 24) + reverseBits 24 (n % 2 ^ 24)) % 2 ^ 24)
/-- The address of a load or store, and the base pointer afterwards (R219). -/
def memAddress (c : Chip) (w : Word) : Nat × Nat :=
  let b := wIdx w
  let p := coreP c b
  let off := toSigned 11 (Machine.fld w 10 0)
  let base := (listGet 0 c.core.b b).toNat
  let len := (listGet 0 c.core.l b).toNat
  let n := listGet 0 c.core.n b
  match Machine.fld w 12 11 with
  | 0 => (wrapInt 40 ((p : Int) + off), p)
  | 1 => (p, stepPointer p base len n.toInt)
  | 2 => (p, stepPointer p base len off)
  | _ => (p, reverseAdd p n.toNat)

/-- A load of n bytes (R217, R219, R226): ALIGN, BUSERR, or the value on its way to the register that `dest` names. (DEDUCED: log 33) -/
def Chip.loadInsn (c : Chip) (cls mem n : Nat) (dest : Word → Nat → LoadDest × Addr) : Chip :=
  c.coreInsn (fun w => decide (wCls w = cls) && decide (wMem w = mem)) (fun d w pc =>
    let m := memAddress d w
    if m.1 % n ≠ 0 then .trap d 4 0 (some m.1) pc else
    let r := d.coreRead m.1 n
    if waitsStill r.1 then .wait r.2 else
    if r.1.status ≠ 0 ∨ r.1.poison then .trap r.2 5 0 (some m.1) pc
    else .next (r.2.setP (wIdx w) m.2) (pc + 4) (some (dest w r.1.data)))
/-- Does a store of the core wait: for NCLK (R479), or at a stimulus port that blocks (R552)? -/
def storeWaits (c : Chip) (a : Nat) : Bool :=
  meshStops c a || match decodeAddr c a with
    | .register b => decide (0x21100700 ≤ b) && decide (b < 0x21100780) && stimHolds c ((b - 0x21100700) / 4)
    | .itcm _ => false
    | .dtcm _ => false
    | .flash _ => false
    | .silo _ => false
    | .loft _ _ => false
    | .remote _ _ => false
    | .nothing => false
/-- A store of n bytes (R219, R229). -/
def Chip.storeInsn (c : Chip) (cls mem n : Nat) (value : Chip → Word → Nat) : Chip :=
  c.coreInsn (fun w => decide (wCls w = cls) && decide (wMem w = mem)) (fun d w pc =>
    let m := memAddress d w
    if m.1 % n ≠ 0 then .trap d 4 0 (some m.1) pc
    else if storeWaits d m.1 then .wait d
    else .next ((d.coreStore m.1 (leBytes n (value d w))).setP (wIdx w) m.2) (pc + 4) none)
/-- A value for G. -/
def toG (w : Word) (v : Nat) : LoadDest × Addr := (.g (wD w), BitVec.ofNat 40 v)

/-- LDB (R219). -/
def execLdb (s : State) : Host.Outcome State Fault Refusal := runAny (fun c => c.loadInsn 3 1 1 toG) s
/-- LDSB (R219). -/
def execLdsb (s : State) : Host.Outcome State Fault Refusal :=
  runAny (fun c => c.loadInsn 3 3 1 (fun w v => toG w (wrapInt 32 (toSigned 8 v)))) s
/-- LDH (R219). -/
def execLdh (s : State) : Host.Outcome State Fault Refusal := runAny (fun c => c.loadInsn 3 5 2 toG) s
/-- LDSH (R219). -/
def execLdsh (s : State) : Host.Outcome State Fault Refusal :=
  runAny (fun c => c.loadInsn 3 7 2 (fun w v => toG w (wrapInt 32 (toSigned 16 v)))) s
/-- LDW (R219). -/
def execLdw (s : State) : Host.Outcome State Fault Refusal := runAny (fun c => c.loadInsn 3 9 4 toG) s
/-- LDA (R219): the low 40 bits into Ai. -/
def execLda (s : State) : Host.Outcome State Fault Refusal :=
  runAny (fun c => c.loadInsn 4 1 8 (fun w v => (.a (Machine.fld w 17 16), BitVec.ofNat 40 v))) s
/-- LDP (R219). -/
def execLdp (s : State) : Host.Outcome State Fault Refusal :=
  runAny (fun c => c.loadInsn 4 3 8 (fun w v => (.p (Machine.fld w 18 16), BitVec.ofNat 40 v))) s
/-- STB (R219). -/
def execStb (s : State) : Host.Outcome State Fault Refusal := runAny (fun c => c.storeInsn 3 0 1 (fun d w => coreG d (wD w))) s
/-- STH (R219). -/
def execSth (s : State) : Host.Outcome State Fault Refusal := runAny (fun c => c.storeInsn 3 4 2 (fun d w => coreG d (wD w))) s
/-- STW (R229). -/
def execStw (s : State) : Host.Outcome State Fault Refusal := runAny (fun c => c.storeInsn 3 8 4 (fun d w => coreG d (wD w))) s
/-- STA (R219): sign-extended. -/
def execSta (s : State) : Host.Outcome State Fault Refusal :=
  runAny (fun c => c.storeInsn 4 0 8 (fun d w => wrapInt 64 (coreA d (Machine.fld w 17 16)))) s
/-- STP (R219): zero-extended. -/
def execStp (s : State) : Host.Outcome State Fault Refusal := runAny (fun c => c.storeInsn 4 2 8 (fun d w => coreP d (Machine.fld w 18 16))) s

/-! ### Exclusive pairs (R225) -/

/-- The line that a reservation names: by home address; LDX and STX reach the DTCM and local DRAM alone. -/
def exclLine : Target → Option Nat
  | .dtcm a => some (a / 64)
  | .loft _ h => some (h / 64)
  | _ => none
/-- The lines that loft controllers record, with the one that an LDX reads in DRAM (R225, R259). -/
def exclFills (fills : List Nat) (k : Nat) : Target → List Nat
  | .loft _ _ => if fills.contains k then fills else fills ++ [k]
  | _ => fills
/-- LDX (R225): reads past the D-cache. -/
def execLdx (s : State) : Host.Outcome State Fault Refusal :=
  runAny (fun c => c.coreInsn (fun w => decide (wCls w = 3) && decide (wMem w = 11)) (fun d w pc =>
    let a := coreP d (wIdx w)
    if a % 4 ≠ 0 then .trap d 4 0 (some a) pc else
    match exclLine (decodeAddr d a) with
    | none => .trap d 5 0 (some a) pc
    | some k =>
      if meshStops d a then .wait d else
      let r := d.busRead .core a 4 false
      if r.1.status ≠ 0 ∨ r.1.poison then .trap r.2 5 0 (some a) pc
      else .next (r.2.onCore (fun x => { x with resv := some k, fills := exclFills x.fills k (decodeAddr d a) })) (pc + 4)
        (some (toG w r.1.data)))) s
/-- STX (R225): stores only while the reservation covers the line, and clears it. -/
def execStx (s : State) : Host.Outcome State Fault Refusal :=
  runAny (fun c => c.coreInsn (fun w => decide (wCls w = 3) && decide (wMem w = 10)) (fun d w pc =>
    let a := coreP d (wIdx w)
    if a % 4 ≠ 0 then .trap d 4 0 (some a) pc else
    match exclLine (decodeAddr d a) with
    | none => .trap d 5 0 (some a) pc
    | some k =>
      let d1 := d.onCore (fun x => { x with resv := none })
      if d.core.resv ≠ some k then .next (d1.setFlag 30 false) (pc + 4) none
      else if meshStops d a then .wait d
      else
        let r := d1.coreWrite a (leBytes 4 (coreG d (wD w)))
        if r.1.status ≠ 0 then .trap r.2 5 0 (some a) pc else .next (r.2.setFlag 30 true) (pc + 4) none)) s

/-! ### Branches (R214, R216) -/

/-- The target of a branch: PC + 4 × OFFSET. -/
def branchTo (w : Word) (pc : Nat) : Nat := wrapInt 40 ((pc : Int) + 4 * toSigned 23 (Machine.fld w 22 0))
/-- B. -/
def execB (s : State) : Host.Outcome State Fault Refusal :=
  runAny (fun c => c.coreInsn (fun w => decide (wCls w = 9) && !bitOf w 23) (fun d w pc => .next d (branchTo w pc) none)) s
/-- BL: P7 takes the return address. -/
def execBl (s : State) : Host.Outcome State Fault Refusal :=
  runAny (fun c => c.coreInsn (fun w => decide (wCls w = 9) && bitOf w 23)
    (fun d w pc => .next (d.setP 7 (pc + 4)) (branchTo w pc) none)) s
/-- BRP: a target that is no multiple of 4 raises ALIGN (R226). -/
def execBrp (s : State) : Host.Outcome State Fault Refusal :=
  runAny (fun c => c.coreInsn (fun w => decide (wCls w = 10) && decide (wOp w = 0)) (fun d w pc =>
    let t := coreP d (Machine.fld w 18 16)
    if t % 4 ≠ 0 then .trap d 4 0 (some t) pc else .next d t none)) s
/-- BLRP: Pn is read first; ALIGN leaves PC and P7 unchanged. -/
def execBlrp (s : State) : Host.Outcome State Fault Refusal :=
  runAny (fun c => c.coreInsn (fun w => decide (wCls w = 10) && decide (wOp w = 1)) (fun d w pc =>
    let t := coreP d (Machine.fld w 18 16)
    if t % 4 ≠ 0 then .trap d 4 0 (some t) pc else .next (d.setP 7 (pc + 4)) t none)) s

/-! ### Working with the array (R223, R224) -/

/-- Has the Array Issue Queue space (R111), and at the manager of a gang every other queue of it (R527)? -/
def queueRoom (c : Chip) : Bool := decide (queueCount c < 64) && gangRoom c
/-- Does the queue dispatch: STATE = RUN and VREADY = 1? -/
def queueLive (c : Chip) : Bool := decide (queueState c = 0) && c.bit Reg.ASQ_QSTAT 29
/-- What an ISSUE of an entry comes to (R223); none: it holds. A worker in gang mode enqueues nothing (R527). `after` is what an
enqueueing one does besides. -/
def Chip.issueTry (c : Chip) (i : DWord) (after : Chip → Chip) : Option Chip :=
  if c.bit Reg.SPIN_STAT 29 && !c.bit Reg.SPIN_STAT 31 then some (c.setFlag 30 false)
  else if queueRoom c then some ((after (c.enqueue i)).setFlag 30 true)
  else if queueLive c then none
  else some (c.setFlag 30 false)
/-- ISSUE and ISSUEM at `pc`. -/
def Chip.issueAt (d : Chip) (w : Word) (pc : Nat) : Did :=
  if wOp w = 0 then
    match d.issueTry (BitVec.ofNat 64 (coreG d (wA w) * 2 ^ 32 + coreG d (wB w))) id with
    | some e => .next e (pc + 4) none
    | none => .hold d .issue
  else
    let n := Machine.fld w 18 16
    let a := coreP d n
    if a % 8 ≠ 0 then .trap d 4 0 (some a) pc else
    let r := d.coreRead a 8
    if waitsStill r.1 then .wait r.2 else
    if r.1.status ≠ 0 ∨ r.1.poison then .trap r.2 5 0 (some a) pc else
    match r.2.issueTry (BitVec.ofNat 64 r.1.data) (fun x => x.setP n (a + 8)) with
    | some e => .next e (pc + 4) none
    | none => .hold r.2 .issue
/-- Is AWAIT's condition met (R224): 1 DONE, 2 GOR, 3 ROOM? (DEDUCED: log 34) -/
def awaitMet (c : Chip) (mode : Nat) : Bool :=
  let idle := decide (queueCount c = 0) && gangIdle c
  match mode with
  | 1 => idle
  | 2 => idle && c.seq.gorFlight.isEmpty && (c.core.gorl == c.seq.gor)
  | _ => queueRoom c
/-- AWAIT at `pc`. (DEDUCED: log 34) -/
def Chip.awaitAt (d : Chip) (w : Word) (pc : Nat) : Did :=
  if !queueLive d then .next (d.setFlag 30 false) (pc + 4) none
  else if awaitMet d (wB w) then .next (d.setFlag 30 true) (pc + 4) none
  else .hold d .await

/-- ISSUE (R223). -/
def execIssue (s : State) : Host.Outcome State Fault Refusal :=
  runAny (fun c => c.coreInsn (fun w => decide (wCls w = 12) && decide (wOp w = 0)) Chip.issueAt) s
/-- ISSUEM (R223). -/
def execIssuem (s : State) : Host.Outcome State Fault Refusal :=
  runAny (fun c => c.coreInsn (fun w => decide (wCls w = 12) && decide (wOp w = 1)) Chip.issueAt) s
/-- AWAIT (R224). -/
def execAwait (s : State) : Host.Outcome State Fault Refusal :=
  runAny (fun c => c.coreInsn (fun w => decide (wCls w = 12) && decide (wOp w = 2)) Chip.awaitAt) s
/-- A held instruction is tried again; while it still holds nothing changes. -/
def Chip.retryHold (c : Chip) (f : Chip → Word → Nat → Did) : Chip :=
  match c.coreFetch with
  | (some w, d) =>
    match f (d.onCore (fun k => { k with hold := .none })) w c.core.pc.toNat with
    | .hold _ _ => c
    | x => Chip.coreDid w x
  | (none, _) => c
/-- ISSUE_HOLD_RELEASE (R223): space appeared, or the queue no longer dispatches. -/
def execIssueHoldRelease (s : State) : Host.Outcome State Fault Refusal :=
  runAny (fun c => if coreRuns c && decide (c.core.hold = .issue) && !asyncTaken c then c.retryHold Chip.issueAt else c) s
/-- AWAIT_COMPLETE (R224). -/
def execAwaitComplete (s : State) : Host.Outcome State Fault Refusal :=
  runAny (fun c => if coreRuns c && decide (c.core.hold = .await) && !asyncTaken c then c.retryHold Chip.awaitAt else c) s

/-! ### The system class (R214, R226, R230, R231, R234, R235, R544) -/

/-- An instruction of class 0xD. (DEDUCED: log 32) -/
def Chip.sysInsn (c : Chip) (op : Nat) (f : Chip → Word → Nat → Did) : Chip :=
  c.coreInsn (fun w => decide (wCls w = 13) && decide (wOp w = op)) f
/-- NOP. -/
def execDistaffNop (s : State) : Host.Outcome State Fault Refusal := runAny (fun c => c.sysInsn 0 (fun d _ pc => .next d (pc + 4) none)) s
/-- SVC (R226). -/
def execSvc (s : State) : Host.Outcome State Fault Refusal :=
  runAny (fun c => c.sysInsn 1 (fun d w pc => .trap d 2 (Machine.fld w 15 0) none (pc + 4))) s
/-- ERET (R230): ESTAT's N, Z, C, V replace FLG's and its sticky flags are ORed in. -/
def execEret (s : State) : Host.Outcome State Fault Refusal :=
  runAny (fun c => c.sysInsn 2 (fun d _ pc =>
    if !coreExc d ∧ coreIpl d = 0 then .trap d 1 0 none pc else
    let k := if coreExc d then 0 else coreIpl d
    let es := listGet 0 d.core.estat k
    .next (d.onCore (fun x => { x.msr 0 (es &&& 0x1FF#32) with
      flg := (x.flg &&& 0x0E000000#32) ||| (es &&& 0xFE000000#32), resv := none })) (listGet 0 d.core.epc k).toNat none)) s
/-- MRS (R235). -/
def execMrs (s : State) : Host.Outcome State Fault Refusal :=
  runAny (fun c => c.sysInsn 3 (fun d w pc =>
    .next (d.setG (wD w) ((mrsValue d (Machine.fld w 15 8)).getD 0).toNat) (pc + 4) none)) s
/-- MSR (R235). -/
def execMsr (s : State) : Host.Outcome State Fault Refusal :=
  runAny (fun c => c.sysInsn 4 (fun d w pc =>
    .next (d.onCore (fun k => k.msr (Machine.fld w 15 8) (BitVec.ofNat 32 (coreG d (wD w))))) (pc + 4) none)) s
/-- Does a line end WFI (R231), whatever IE is? -/
def wfiReady (c : Chip) : Bool :=
  (c.lines.contains 5 && decide (coreIpl c < 5)) || [1, 2, 3, 4].any (fun L => c.lines.contains L && decide (coreIpl c < L))
/-- WFI (R231): the clock stops, and execution continues after it. -/
def execWfi (s : State) : Host.Outcome State Fault Refusal :=
  runAny (fun c => c.sysInsn 5 (fun d _ pc =>
    .hold ((d.onCore (fun k => { k with pc := BitVec.ofNat 40 (pc + 4) })).setBit Reg.SYS_DCORE 30 true) .wfi)) s
/-- WFI_WAKE (R231). -/
def execWfiWake (s : State) : Host.Outcome State Fault Refusal :=
  runAny (fun c =>
    if coreRuns c && decide (c.core.hold = .wfi) && wfiReady c then
      ((c.onCore (fun k => { k with hold := .none })).leaveWfi).stepDone 0
    else c) s
/-- FENCE (R232, R234): every access of an earlier command has its response, so it completes; fetch sees the stores to the ITCM. -/
def execDistaffFence (s : State) : Host.Outcome State Fault Refusal :=
  runAny (fun c => c.sysInsn 6 (fun d _ pc => .next (d.onCore (fun k => { k with itcm := [] })) (pc + 4) none)) s
/-- BKPT (R226, R544). -/
def execBkpt (s : State) : Host.Outcome State Fault Refusal :=
  runAny (fun c => c.sysInsn 7 (fun d w pc =>
    if c.bit Reg.DBG_RUNCTL 8 && somePortHolds c 2 then .halt d else .trap d 3 (Machine.fld w 15 0) none pc)) s
/-- The home line at Pn. -/
def lineAt (d : Chip) (w : Word) : Option Nat := cacheLine (decodeAddr d (coreP d (Machine.fld w 18 16)))
/-- DCINV (R214). -/
def execDcinv (s : State) : Host.Outcome State Fault Refusal :=
  runAny (fun c => c.sysInsn 8 (fun d w pc =>
    .next (d.onCore (fun k => { k with dcache := k.dcache.filter (fun e => decide (some e.1 ≠ lineAt d w)) })) (pc + 4) none)) s
/-- ICINV (R214). -/
def execIcinv (s : State) : Host.Outcome State Fault Refusal :=
  runAny (fun c => c.sysInsn 9 (fun d w pc =>
    .next (d.onCore (fun k => { k with icache := k.icache.filter (fun e => decide (some e.1 ≠ lineAt d w)) })) (pc + 4) none)) s
/-- ICINVALL (R234). -/
def execIcinvall (s : State) : Host.Outcome State Fault Refusal :=
  runAny (fun c => c.sysInsn 10 (fun d _ pc => .next (d.onCore (fun k => { k with icache := [] })) (pc + 4) none)) s
/-- DCINVALL (R234). -/
def execDcinvall (s : State) : Host.Outcome State Fault Refusal :=
  runAny (fun c => c.sysInsn 11 (fun d _ pc => .next (d.onCore (fun k => { k with dcache := [] })) (pc + 4) none)) s

end Sys2Proof.Machine
end

