-- ==== Sys2Proof/Machine/HostBus.lean ====
section
/-!
DEFINITION. What arrives over PCIe-A (R408 to R410): the BARs, and how the outcomes of the mesh become completions.
-/
namespace Sys2Proof.Machine

/-- A dword's target in BAR0 (R408). -/
inductive BarTarget where
  | mesh (a : Nat) | table (i : Nat) | pba (i : Nat) | slots (off : Nat) | none
  deriving DecidableEq, Repr
/-- The map of BAR0. -/
def bar0Target (off : Nat) : BarTarget :=
  if off < 0x1600000 then .mesh (0x20000000 + off)
  else if 0x1F00000 ≤ off ∧ off < 0x1F00400 then .table ((off - 0x1F00000) / 4)
  else if 0x1F01000 ≤ off ∧ off < 0x1F01008 then .pba ((off - 0x1F01000) / 4)
  else if 0x2000000 ≤ off ∧ off < 0x2800000 then .mesh (0x30000000 + (off - 0x2000000))
  else if 0x3000000 ≤ off ∧ off < 0x3010000 then .slots (off - 0x3000000)
  else .none
/-- The physical address of a BAR2 offset (R409). -/
def bar2Addr (c : Chip) (off : Nat) : Nat := c.fld Reg.PCIA_B2WIN 7 0 * 2 ^ 32 + off

/-- The bytes of a dword that its byte enables select. (DESIGN CHOICE: log 76) -/
def enabledBytes (be : Nat) : List Nat := onesBelow 4 be
/-- One dword of a read: its response and its data. -/
def Chip.hostReadDword (c : Chip) (bar2 : Bool) (off be : Nat) : Resp × Chip :=
  if bar2 then
    if be = 15 then c.busRead .host (bar2Addr c off) 4 false
    else (enabledBytes be).foldl (fun (x : Resp × Chip) i =>
      let r := x.2.busRead .host (bar2Addr x.2 (off + i)) 1 false
      (if x.1.status ≠ 0 then x.1 else if r.1.status ≠ 0 then r.1
       else { data := x.1.data + r.1.data * 256 ^ i, poison := x.1.poison || r.1.poison }, r.2)) ({}, c)
  else match bar0Target off with
    | .none => (respErr 0, c)
    | tgt =>
      if be ≠ 15 then (respErr 1, c) else
      match tgt with
      | .mesh a => c.busRead .host a 4 false
      | .table i => (respOk (msixWord c i), c)
      | .pba i => (respOk (msixPba c i), c)
      | .slots o => (respOk (leNat ((List.range 4).map (fun i => mapGet 0 c.host.slots (o + i)))), c)
      | .none => (respErr 0, c)
/-- One dword of a write. (DESIGN CHOICE: log 76) -/
def Chip.hostWriteDword (c : Chip) (bar2 : Bool) (off be : Nat) (v : Word) (poison : Bool) : Resp × Chip :=
  let bs := leBytes 4 v.toNat
  if bar2 then
    if !c.bit Reg.PCIA_B2WIN 31 then (respErr 2, c)
    else if be = 15 then c.busWrite .host (bar2Addr c off) bs poison
    else (enabledBytes be).foldl (fun (x : Resp × Chip) i =>
      let r := x.2.busWrite .host (bar2Addr x.2 (off + i)) [listGet 0 bs i] poison
      (if x.1.status ≠ 0 then x.1 else r.1, r.2)) ({}, c)
  else match bar0Target off with
    | .none => (respErr 0, c)
    | tgt =>
      if be ≠ 15 then (respErr 1, c) else
      match tgt with
      | .mesh a => c.busWrite .host a bs poison
      | .table i => if poison then (respErr 8, c) else ({}, c.msixWrite i v.toNat)
      | .slots o => if poison then (respErr 8, c) else ({}, c.slotWrite o bs)
      | _ => ({}, c)

/-- The completion status of an outcome (R410): 0 Successful, 1 Unsupported Request, 2 Completer Abort. -/
def completionOf (r : Resp) : Nat :=
  if r.status = 0 then 0 else if (r.status = 1 ∧ r.cause = 0) ∨ r.status = 3 then 1 else 2
/-- A failed access is recorded where no record is held (R410, R423): `write` says which it was. (DEDUCED: log 39) -/
def Chip.hostRecord (c : Chip) (write : Bool) (r : Resp) : Chip :=
  if c.bit Reg.PCIA_ERRLOG 31 then c
  else c.setReg Reg.PCIA_ERRLOG (BitVec.ofNat 32 (2 ^ 31 + write.toNat * 2 ^ 30 + r.status * 2 ^ 27 + r.cause * 2 ^ 23))
/-- An error is reported through AER (R406, R410): the bit of its kind, 15 Completer Abort, 18 a malformed TLP, 20 Unsupported Request.
(PRESUMED: log 183) -/
def Chip.hostAer (c : Chip) (bit : Nat) : Chip :=
  { c with host := { c.host with aer := c.host.aer + 1, config := { c.host.config with aerStatus := c.host.config.aerStatus ||| 2 ^ bit } } }
/-- A failed write (R410): dropped and recorded, reported through AER, EV178. (DEDUCED: log 39) -/
def Chip.hostWriteFailed (c : Chip) (r : Resp) : Chip :=
  Chip.raise ((c.hostRecord true r).hostAer (if completionOf r = 1 then 20 else 15)) 178
/-- The dwords of a read, in order: the data, lowest first, the first failure, and poison. Each that fails is recorded and
raises EV178. (DEDUCED: log 39) -/
def Chip.hostReads (bar2 : Bool) : List (Word × BitVec 4) → Nat → Chip → Resp × Chip
  | [], _, c => ({}, c)
  | (_, be) :: t, off, c =>
    let r := c.hostReadDword bar2 off be.toNat
    if waitsStill r.1 then r else
    let c1 := if r.1.status = 0 then r.2 else (r.2.hostRecord false r.1).raise 178
    let x := Chip.hostReads bar2 t (off + 4) c1
    (if r.1.status ≠ 0 then r.1
     else { x.1 with data := r.1.data % 2 ^ 32 + x.1.data * 2 ^ 32, poison := r.1.poison || x.1.poison }, x.2)
/-- The dwords of a write, in order; each that fails is dropped and recorded. -/
def Chip.hostWrites (bar2 poison : Bool) : List (Word × BitVec 4) → Nat → Chip → Chip
  | [], _, c => c
  | (v, be) :: t, off, c =>
    let r := c.hostWriteDword bar2 off be.toNat v poison
    Chip.hostWrites bar2 poison t (off + 4) (if r.1.status = 0 then r.2 else r.2.hostWriteFailed r.1)
/-- PCIA_INBOUND_TLP (R408 to R410): a memory TLP to BAR0 or BAR2 from a dword offset, a read or a write (`ep`: its EP bit); each
dword comes with its byte enables, and for a write its data. A read that the flash controller holds has no completion yet (R347). In D3hot
no memory request is supported, and a write beyond Max Payload Size is malformed (R406). (PRESUMED: log 183) -/
def execPciaInboundTlp (bar2 write ep : Bool) (off : Word) (dwords : List (Word × BitVec 4)) (s : State) :
    Host.Outcome State Fault Refusal :=
  run (fun c =>
    if !c.host.linkUp || !c.isOn .pcieA then c
    else
      let o := off.toNat / 4 * 4
      if c.host.config.d3hot then
        if write then c.hostAer 20
        else Chip.respond { c with host := { c.host with answer := 1 } } (respErr 0)
      else if write && decide (128 < dwords.length) then c.hostAer 18
      else if write then Chip.hostWrites bar2 ep dwords o c
      else
        let r := Chip.hostReads bar2 dwords o c
        if waitsStill r.1 then r.2 else
        (Chip.respond { r.2 with host := { r.2.host with answer := completionOf r.1 } } r.1)) s

end Sys2Proof.Machine
end

