-- ==== Sys2Proof/Machine/Noc.lean ====
section
/-!
DEFINITION. The packet network (R253 to R275): packets and their checks, routing, delivery to a port, and what the blocks at the ports
do with requests, responses, data and snoops.
-/
namespace Sys2Proof.Machine

/-! ### Counts and records (R265, R266, R272, R275) -/

/-- Record an error in NOC_ERRLOG where none is held. -/
def Chip.nocErrlog (c : Chip) (net kind n : Nat) : Chip :=
  if c.bit Reg.NOC_ERRLOG 31 then c
  else c.setReg Reg.NOC_ERRLOG (BitVec.ofNat 32 (2 ^ 31 + net * 2 ^ 29 + kind * 2 ^ 28 + ownNode c n * 2 ^ 14))
/-- A parity error at router n (R265): the packet is consumed. -/
def Chip.nocParity (c : Chip) (n net : Nat) : Chip :=
  ((c.countFld Reg.NOC_PERR 7 0 1).nocErrlog net 0 n).raiseIf (decide (c.fld Reg.NOC_PERR 7 0 = 0)) 97
/-- A late or orphaned packet is discarded (R267, R272, R275). (DESIGN CHOICE: log 37) -/
def Chip.nocLate (c : Chip) : Chip := c.wrapCount Reg.NOC_LATE 1 106
/-- The check of the data words at their destination n (R266): corrected words are counted, a double-bit error is recorded.
(DESIGN CHOICE: log 38) -/
def Chip.datCheck (c : Chip) (n : Nat) (p : Packet) : Chip :=
  let ce := (p.words.filter (fun e => decide (e = .single))).length
  let c1 := if ce = 0 then c
    else (c.countFld Reg.NOC_DAT_CE 7 0 ce).raiseIf (decide (c.fld Reg.NOC_DAT_CE 7 0 = 0)) 98
  if p.words.any (fun e => decide (e = .double)) then (c1.nocErrlog 3 1 n).raise 99 else c1

/-! ### Routing (R257, R269 to R273) -/

/-- The packets in routers. -/
def Chip.setFlight (c : Chip) (f : List Flight) : Chip := c.setNoc { c.noc with flight := f }
/-- One step from node n toward a position: x first, then y. -/
def stepToward (n x y : Nat) : Nat :=
  if n / 32 < x then n + 32 else if x < n / 32 then n - 32 else if n % 32 < y then n + 1 else n - 1
/-- A packet is consumed at a DISABLED port or where no port is (R271): EV100; a REQ is answered. (DESIGN CHOICE: log 44) -/
def Chip.unroutable (c : Chip) (n : Nat) (p : Packet) (r : Resp) : Chip :=
  (if p.net = 0 then c.answerAt n (rspTo c n p r) else c).raise 100
/-- A request is held in tile t's sleep buffer of 4, and wakes it (R197, R272 to R274): EV104 where it causes the wake. A power-down
that has not committed is cancelled, and a drain opens the port again. (DESIGN CHOICE: log 41) -/
def Chip.sleepHold (c : Chip) (n t : Nat) (p : Packet) : Chip :=
  let first := !c.noc.sleep.any (fun e => decide (e.1 = n))
  let c1 := c.setNoc { c.noc with sleep := c.noc.sleep ++ [(n, p)] }
  if (first || goingDown c1 t) && needsWake c1 t then (if goingDown c1 t then c1.cancelTile t else c1).raise 104 else c1
/-- Delivery to a port in SLEEP (R272) of a packet that does not wait there. An ACK is no snoop to acknowledge: it is late.
(DESIGN CHOICE: log 176) -/
def Chip.deliverAsleep (c : Chip) (n : Nat) (p : Packet) : Chip :=
  match p.net, nodeTile n with
  | 0, some t =>
    if !loftRequest c t p && retired c t then c.answerAt n (rspTo c n p (respErr 6))
    else if !loftRequest c t p && decide (pktSrc p ≠ ownNode c 10) && !c.bit (Reg.NOC_WAKEk (t / 32)) (t % 32) then
      (c.answerAt n (rspTo c n p respAsleep)).raise 102
    else c.sleepHold n t p
  | 0, none => (c.answerAt n (rspTo c n p respAsleep)).raise 102
  | 2, _ => if snpOp p = 3 then c.nocLate else c.answerAt n (ackTo c n p)
  | _, _ => c.nocLate
/-- Delivery to the local port of node n; none: the packet stays in the router (R272, R273). (DEDUCED: log 36; DESIGN CHOICE: log 41) -/
def Chip.deliver (c : Chip) (n : Nat) (p : Packet) : Option Chip :=
  if !hasPort n then some (c.unroutable n p respUnroutable)
  else if waitsHere c n p then none
  else match portState c n with
    | 0 => some (c.arrive n p)
    | 1 => some (c.deliverAsleep n p)
    | _ => some (c.unroutable n p respUnroutable)
/-- Router n takes a packet on (R257, R265, R271); none: it waits. (DESIGN CHOICE: log 35; DESIGN CHOICE: log 44) -/
def Chip.hop (c : Chip) (n : Nat) (p : Packet) : Option Chip :=
  let d := pktDest p / 1024
  let dst := pktDest p % 1024
  if !(List.range p.flits.length).all (flitOk p) || (decide (p.net = 2) && decide (4 ≤ snpOp p)) then some (c.nocParity n p.net)
  else if d ≠ c.deviceNo then
    let l := exitLink c d
    let e := spindleNode l
    if n = e then
      if !linkUp c l || !(mapAt c l).testBit d then some (c.unroutable n p (respErr 5))
      else if portState c n = 2 then some (c.unroutable n p respUnroutable)
      else some (c.setNoc { c.noc with sent := c.noc.sent ++ [(l, p)] })
    else
      let m := stepToward n (e / 32) (e % 32)
      if draining c m then none else some (c.fly m n p)
  else if dst = n then c.deliver n p
  else if 17 < dst / 32 ∨ 17 < dst % 32 then some (c.unroutable n p respUnroutable)
  else
    let m := stepToward n (dst / 32) (dst % 32)
    if draining c m then none else some (c.fly m n p)

/-- A packet that the block at node n sends enters its router, or one comes in over the link there: a REQ or a snoop of the block's own is
outstanding from now on, under a TAG that is free (R259, R262). What comes over a link comes by a Spindle node that is OPEN, to a device that
has its place (R268, R518). -/
def Chip.injectPacket (c : Chip) (n : Nat) (p : Packet) : Chip :=
  let own := decide (pktSrc p = ownNode c n)
  let busy := fun (l : List Asked) => l.any (fun (x : Asked) => decide (x.node = n) && decide (x.tag = pktTag p))
  let asks : Asked := { node := n, tag := pktTag p, since := c.ns, packet := p }
  if 17 < n / 32 ∨ 17 < n % 32 ∨ draining c n then c
  else if !own then
    (if (nodeLink n).isSome && decide (portState c n = 0) && sendsRemote c then c.fly n 1024 p else c)
  else if p.net = 0 then
    if busy c.noc.asked then c else (c.setNoc { c.noc with asked := c.noc.asked ++ [asks] }).fly n n p
  else if p.net = 2 ∧ snpOp p < 3 then
    if busy c.noc.snoops then c else (c.setNoc { c.noc with snoops := c.noc.snoops ++ [asks] }).fly n n p
  else c.fly n n p
/-- The oldest packet of a network in router n that can go on does, in order within each buffer (R261, R264, R273): `blocked` are the
packets met so far that wait. -/
def Chip.hopOf (c : Chip) (n net : Nat) (blocked : List Flight) : List Flight → Chip
  | [] => c
  | e :: rest =>
    if e.node ≠ n ∨ e.packet.net ≠ net ∨ blocked.any (sameBuffer e) then c.hopOf n net blocked rest
    else match (c.setFlight (c.noc.flight.erase e)).hop n e.packet with
      | some d => d
      | none => c.hopOf n net (e :: blocked) rest
/-- A packet of a network in router n goes on. -/
def Chip.hopFirst (c : Chip) (n net : Nat) : Chip := c.hopOf n net [] c.noc.flight
/-- PACKET_HOP (R257): with a packet, it enters router `here` from the block there or over the link there; without, the router's oldest
packet of the network takes its next step. -/
def execPacketHop (here : BitVec 10) (net : Fin 4) (inject : Option Packet) (s : State) : Host.Outcome State Fault Refusal :=
  run (fun c => match inject with
    | some p => c.injectPacket here.toNat p
    | none => c.hopFirst here.toNat net.val) s

/-! ### At the ports (R259, R263, R266, R267) -/

/-- Take an arrival out of the inbox. (DESIGN CHOICE: log 37) -/
def Chip.takeArrival (c : Chip) (x : Arrival) : Chip := c.setNoc { c.noc with inbox := c.noc.inbox.erase x }
/-- The write data of a request, if it has arrived. -/
def dataFor (c : Chip) (n : Nat) (req : Packet) : Option Arrival :=
  c.noc.inbox.find? (fun x => decide (x.node = n) && decide (x.packet.net = 3) && !datRead x.packet &&
    decide (pktSrc x.packet = pktSrc req) && decide (pktTag x.packet = pktTag req))
/-- Does the flash controller hold a read of the XIP window (R347)? -/
def xipWaits (c : Chip) (p : Packet) : Bool :=
  match decodeAddr c (reqAddr p) with
  | .flash _ => xipHeld c && decide (reqOp p < 2)
  | _ => false
/-- Do two requests reach one 64-byte line of a loft (R196)? -/
def sameLine (c : Chip) (p q : Packet) : Bool :=
  match decodeAddr c (reqAddr p), decodeAddr c (reqAddr q) with
  | .loft _ h, .loft _ k => decide (h / 64 = k / 64)
  | _, _ => false
/-- The oldest of some requests at node n that can be performed: those to one line of a loft are, in the order in which they came (R196,
R264); `before` are the requests passed over. -/
def readyAmong (c : Chip) (n : Nat) (before : List Arrival) : List Arrival → Option Arrival
  | [] => none
  | x :: rest =>
    if !xipWaits c x.packet && (!reqData x.packet || (dataFor c n x.packet).isSome) && !before.any (fun y => sameLine c y.packet x.packet)
    then some x else readyAmong c n (x :: before) rest
/-- The oldest request at node n that can be performed. -/
def readyRequest (c : Chip) (n : Nat) : Option Arrival :=
  readyAmong c n [] (c.noc.inbox.filter (fun x => decide (x.node = n) && decide (x.packet.net = 0)))
/-- How many snoops node n awaits the ACK of (R262): at most 64. -/
def snoopsOut (c : Chip) (n : Nat) : Nat := (c.noc.snoops.filter (fun x => decide (x.node = n))).length
/-- The block at node n sends a snoop under a free TAG; `owes` is the response that waits for its ACK (R262, R263). -/
def Chip.sendSnoop (c : Chip) (n dest op addr : Nat) (owes : Option Packet) : Chip :=
  let free : Nat → Bool := fun t => !c.noc.snoops.any (fun x => decide (x.node = n) && decide (x.tag = t))
  let p := snoopOf c n dest op (((List.range 64).find? free).getD 0) addr
  (c.setNoc { c.noc with snoops := c.noc.snoops ++ [{ node := n, tag := pktTag p, since := c.ns, packet := p, owes := owes }] }).send n p
/-- Who sends from a node (R255). -/
def initiatorAt (c : Chip) (n : Nat) : Initiator :=
  if n / 1024 ≠ c.deviceNo then .remote
  else if n % 1024 = 6 then .core
  else if n % 1024 = 32 * 17 + 8 then .engine
  else if n % 1024 = 32 * 17 + 15 then .host
  else if n % 1024 = 32 * 10 + 17 then .debugger
  else .other
/-- The snoops of the Granary that a write of n bytes at home address h by another block makes the loft controller send (R150): for a
descriptor line, unless the bytes are user words, and for a page-map line, of a context from PARKED to RUNNING. -/
def Chip.grnSnoops (c : Chip) (node h n : Nat) : Chip :=
  let c1 := match descHolder c h n with
    | some k => if 1 ≤ (c.ctx k).state ∧ (c.ctx k).state ≤ 4 then c.sendSnoop node 10 2 h none else c
    | none => c
  if (pmapHolders c1 h n).isEmpty then c1 else c1.sendSnoop node 10 1 h none
/-- A write that arrives by the network at the loft controller of node n (R150, R199, R234, R263, R266): the response, none while it waits
for the ACK of the INV_LINE that the write caused. `bad` names poisoned words by the request's address, the loft by the home address. -/
def Chip.loftServe (c : Chip) (n : Nat) (req : Packet) (t h : Nat) (bs : List Byte) (bad : List Nat) : Option Packet × Chip :=
  let r := c.loftStore t h (inCommon (reqAddr req)) bs (bad.map (fun w => h + w - reqAddr req))
  let rsp := rspTo c n req r.1
  if !stored r.1 then (some rsp, r.2) else
  let c1 := if pktSrc req = ownNode c 10 then r.2 else r.2.grnSnoops n h bs.length
  if pktSrc req = ownNode c 6 then (some rsp, c1.snoopWrite h bs.length)
  else if c1.core.fills.contains (h / 64) then
    (none, (c1.onCore (fun k => { k with fills := k.fills.filter (fun x => decide (x ≠ h / 64)) })).sendSnoop n 6 0 h (some rsp))
  else (some rsp, c1)

/-- A request performed at its target (R11, R259, R263): what comes back, none where the response waits. Tile control at an OPEN port has
no target that the spec gives an address: ERR, CAUSE 0, or 6 for a retired tile (DEDUCED: log 36). -/
def Chip.serve (c : Chip) (n : Nat) (p : Packet) (data : Option Packet) : Option Packet × Chip :=
  let a := reqAddr p
  let size := 2 ^ reqSize p
  let who := initiatorAt c (pktSrc p)
  let tgt := decodeAddr c a
  let fail : Nat → Option Packet × Chip := fun k => (some (rspTo c n p (respErr k)), c)
  let put : Chip → List Byte → List Nat → Option Packet × Chip := fun d bs bad =>
    match tgt with
    | .loft t h => d.loftServe n p t h bs bad
    | _ =>
      let r := d.anyWrite who a bs (!bad.isEmpty) tgt
      (some (rspTo c n p r.1), r.2)
  if 3 ≤ reqOp p ∨ reqSize p = 7 then fail 7
  else if targetNode tgt ≠ some n then
    (match nodeTile n with
      | some t => if retired c t then fail 6 else fail 0
      | none => fail 0)
  else if a % size ≠ 0 then fail 1
  else if reqOp p = 2 then
    match data with
    | some q => put (c.datCheck n q) (datBytes q a size) (datPoison q a size)
    | none => if 4 < size then fail 1 else put c (leBytes size (flitBits p 1 31 0 / 256 ^ (a % 4))) []
  else
    let r := c.anyRead who a size (decide (flitBits p 0 22 22 = 1) && decide (who = .debugger)) tgt
    let d := match reqOp p, tgt with
      | 1, .loft _ h => r.2.onCore (fun k => { k with fills := if k.fills.contains (h / 64) then k.fills else k.fills ++ [h / 64] })
      | _, _ => r.2
    (some (if r.1.status = 0 then datTo c n p a size r.1 else rspTo c n p r.1), d)
/-- What a target answers goes out. -/
def Chip.answer (r : Option Packet × Chip) (n : Nat) : Chip :=
  match r.1 with
  | some p => r.2.send n p
  | none => r.2
/-- MEMORY_REQUEST (R259): the oldest request that can be performed is; one waits while the snoops that it may cause have no TAG (R262). -/
def execMemoryRequest (node : BitVec 10) (s : State) : Host.Outcome State Fault Refusal :=
  run (fun c =>
    let n := node.toNat
    match readyRequest c n with
    | none => c
    | some x =>
      if 61 < snoopsOut c n then c else
      let dat := if reqData x.packet then dataFor c n x.packet else none
      let c1 := c.takeArrival x
      let c2 := match dat with
        | some y => c1.takeArrival y
        | none => c1
      Chip.answer (c2.serve n x.packet (dat.map (fun y => y.packet))) n) s

/-- The request of node n under a TAG that waits for its answer. -/
def askedFor (c : Chip) (n tag : Nat) : Option Asked := c.noc.asked.find? (fun x => decide (x.node = n) && decide (x.tag = tag))
/-- The oldest arrival of a kind at a node. -/
def arrivalOf (c : Chip) (n : Nat) (is : Packet → Bool) : Option Arrival :=
  c.noc.inbox.find? (fun x => decide (x.node = n) && is x.packet)
/-- RESPONSE_RECEIVE (R260, R263, R267): a reserved STATUS is treated as ERR; one that nobody waits for is late. -/
def execResponseReceive (node : BitVec 10) (s : State) : Host.Outcome State Fault Refusal :=
  run (fun c =>
    match arrivalOf c node.toNat (fun p => decide (p.net = 1)) with
    | none => c
    | some x =>
      let c1 := c.takeArrival x
      match askedFor c1 node.toNat (pktTag x.packet) with
      | none => c1.nocLate
      | some a =>
        let st := flitBits x.packet 0 30 28
        (c1.setNoc { c1.noc with asked := c1.noc.asked.erase a }).respond
          { status := if 5 ≤ st then 1 else st, cause := flitBits x.packet 0 27 24 }) s
/-- READ_DATA_RECEIVE (R263, R266): the data of the bytes asked for; poison is reported. -/
def execReadDataReceive (node : BitVec 10) (s : State) : Host.Outcome State Fault Refusal :=
  run (fun c =>
    match arrivalOf c node.toNat (fun p => decide (p.net = 3) && datRead p) with
    | none => c
    | some x =>
      let c1 := c.takeArrival x
      match askedFor c1 node.toNat (pktTag x.packet) with
      | none => c1.nocLate
      | some a =>
        let k := c1.datCheck node.toNat x.packet
        let b := reqAddr a.packet
        let size := 2 ^ reqSize a.packet
        (k.setNoc { k.noc with asked := k.noc.asked.erase a }).respond
          { data := leNat (datBytes x.packet b size), poison := !(datPoison x.packet b size).isEmpty }) s
/-- INV_LINE (R225, R234, R262): the core drops its copy of the line and a reservation on it, and acknowledges. -/
def execInvLine (s : State) : Host.Outcome State Fault Refusal :=
  run (fun c =>
    match arrivalOf c 6 (fun p => decide (p.net = 2) && decide (snpOp p = 0)) with
    | none => c
    | some x =>
      let a := flitBits x.packet 1 36 3 * 64
      let c1 := c.takeArrival x
      let c2 := match cacheHome c1 a with
        | some h => c1.snoopWrite h 64
        | none => c1
      c2.send 6 (ackTo c 6 x.packet)) s
/-- The contexts whose line a snoop names (R150, R262): the one of a descriptor line, or the held ones of a page-map line. -/
def snoopNames (c : Chip) (pmap : Bool) (p : Packet) : List Nat :=
  match decodeAddr c (flitBits p 1 36 3 * 64) with
  | .loft _ h => if pmap then pmapHolders c h 64 else (descHolder c h 64).toList
  | _ => []
/-- DESC_SNOOP (R150): a snoop that has come for a line of context n, or for a line that is no context's any more, makes the Granary compare
the line with its own copy, and is acknowledged. -/
def execDescSnoop (n : Nat) (pmap : Bool) (s : State) : Host.Outcome State Fault Refusal :=
  run (fun c =>
    match arrivalOf c 10 (fun p => decide (p.net = 2) && decide (snpOp p = if pmap then 1 else 2) &&
        ((snoopNames c pmap p).contains n || (snoopNames c pmap p).isEmpty)) with
    | none => c
    | some x =>
      (snoopNames c pmap x.packet).foldl (fun d k => d.descSnoop k pmap) ((c.takeArrival x).send 10 (ackTo c 10 x.packet))) s
/-- A snoop's sender goes on (R263, R267): the response that waited for the ACK goes out. -/
def Chip.snoopOver (c : Chip) (a : Asked) : Chip :=
  Chip.answer (a.owes, c.setNoc { c.noc with snoops := c.noc.snoops.erase a }) a.node
/-- SNOOP_ACK (R262, R263): the snoop is no longer outstanding; an ACK that nobody waits for is discarded. -/
def execSnoopAck (node : BitVec 10) (s : State) : Host.Outcome State Fault Refusal :=
  run (fun c =>
    match arrivalOf c node.toNat (fun p => decide (p.net = 2) && decide (snpOp p = 3)) with
    | none => c
    | some x =>
      let c1 := c.takeArrival x
      match c1.noc.snoops.find? (fun a => decide (a.node = node.toNat) && decide (a.tag = pktTag x.packet)) with
      | none => c1.nocLate
      | some a => c1.snoopOver a) s

/-- The snoop timeout. -/
def snoopTimeout (c : Chip) : Nat := Nat.max 0x1000 (c.fld Reg.NOC_SNP_TIMEOUT 19 0)
/-- REQUEST_TIMEOUT (R267). -/
def execRequestTimeout (node : BitVec 10) (tag : BitVec 8) (s : State) : Host.Outcome State Fault Refusal :=
  run (fun c =>
    match askedFor c node.toNat tag.toNat with
    | none => c
    | some a =>
      if c.ns < a.since + nocTimeout c then c
      else ((c.setNoc { c.noc with asked := c.noc.asked.erase a }).respond respTimeout).raise 103) s
/-- DATA_TIMEOUT (R267): the oldest request at the node whose write data has not come in half the request timeout. -/
def execDataTimeout (node : BitVec 10) (s : State) : Host.Outcome State Fault Refusal :=
  run (fun c =>
    let n := node.toNat
    match arrivalOf c n (fun p => decide (p.net = 0) && reqData p && (dataFor c n p).isNone) with
    | none => c
    | some x =>
      if c.ns < x.since + nocTimeout c / 2 then c
      else (c.takeArrival x).send n (rspTo c n x.packet (respErr 9))) s
/-- SNOOP_TIMEOUT (R267): sent once more, then taken as acknowledged. -/
def execSnoopTimeout (node : BitVec 10) (tag : BitVec 6) (s : State) : Host.Outcome State Fault Refusal :=
  run (fun c =>
    match c.noc.snoops.find? (fun a => decide (a.node = node.toNat) && decide (a.tag = tag.toNat)) with
    | none => c
    | some a =>
      if c.ns < a.since + snoopTimeout c then c
      else if a.again then ((c.snoopOver a).setBit Reg.NOC_STAT 3 true).raise 101
      else (c.setNoc { c.noc with snoops := c.noc.snoops.erase a ++ [{ a with again := true, since := c.ns }] }).send node.toNat a.packet) s

end Sys2Proof.Machine
end

