-- ==== Sys2Proof/Machine/Dispatch.lean ====
section
/-! DEFINITION. The dispatch of the commands to their meanings: one arm for each constructor of `Instr`. -/

namespace Sys2Proof.Machine

/-- The effect of a command on everything but the queue (R9). -/
def exec (i : Instr) (s : State) : Host.Outcome State Fault Refusal :=
  match i with
  | .registerWrite who a v => Sys2Proof.Machine.execRegisterWrite who a v s
  | .frameStart p vc hdr => Sys2Proof.Machine.execFrameStart p vc hdr s
  | .linePacket p vc hdr crcBad dt pixels held => Sys2Proof.Machine.execLinePacket p vc hdr crcBad dt pixels held s
  | .frameEnd p vc hdr => Sys2Proof.Machine.execFrameEnd p vc hdr s
  | .bandComplete st => Sys2Proof.Machine.execBandComplete st s
  | .streamDisable st => Sys2Proof.Machine.execStreamDisable st s
  | .slotRelease st => Sys2Proof.Machine.execSlotRelease st s
  | .pstatRead p => Sys2Proof.Machine.execPstatRead p s
  | .sebReceive ctx => Sys2Proof.Machine.execSebReceive ctx s
  | .sliceDone l => Sys2Proof.Machine.execSliceDone l s
  | .tileStatRead t => Sys2Proof.Machine.execTileStatRead t s
  | .thermalSample t temp => Sys2Proof.Machine.execThermalSample t temp s
  | .grnHold hold => Sys2Proof.Machine.execGrnHold hold s
  | .ringBaseWrite ring hi data => Sys2Proof.Machine.execRingBaseWrite ring hi data s
  | .descSnoop n pmap => Sys2Proof.Machine.execDescSnoop n pmap s
  | .pageTransferDone t => Sys2Proof.Machine.execPageTransferDone t s
  | .grnEnd outcome => Sys2Proof.Machine.execGrnEnd outcome s
  | .cqRoom q => Sys2Proof.Machine.execCqRoom q s
  | .dramInitDone failed => Sys2Proof.Machine.execDramInitDone failed s
  | .patrolScrub t => Sys2Proof.Machine.execPatrolScrub t s
  | .dramTempSample q temp => Sys2Proof.Machine.execDramTempSample q temp s
  | .selfRefreshEntry q => Sys2Proof.Machine.execSelfRefreshEntry q s
  | .selfRefreshExit q => Sys2Proof.Machine.execSelfRefreshExit q s
  | .quadrantOnReq q => Sys2Proof.Machine.execQuadrantOnReq q s
  | .quadrantOffReq q => Sys2Proof.Machine.execQuadrantOffReq q s
  | .lstatRead t => Sys2Proof.Machine.execLstatRead t s
  | .packetHop here net inject => Sys2Proof.Machine.execPacketHop here net inject s
  | .memoryRequest node => Sys2Proof.Machine.execMemoryRequest node s
  | .responseReceive node => Sys2Proof.Machine.execResponseReceive node s
  | .readDataReceive node => Sys2Proof.Machine.execReadDataReceive node s
  | .snoopAck node => Sys2Proof.Machine.execSnoopAck node s
  | .requestTimeout node tag => Sys2Proof.Machine.execRequestTimeout node tag s
  | .dataTimeout node => Sys2Proof.Machine.execDataTimeout node s
  | .snoopTimeout node tag => Sys2Proof.Machine.execSnoopTimeout node tag s
  | .portDisable e v => Sys2Proof.Machine.execPortDisable e v s
  | .powerDownCommit d => Sys2Proof.Machine.execPowerDownCommit d s
  | .tileExitDone t => Sys2Proof.Machine.execTileExitDone t s
  | .frameDigestsReady st => Sys2Proof.Machine.execFrameDigestsReady st s
  | .auditLeaf st => Sys2Proof.Machine.execAuditLeaf st s
  | .frameRootDone st => Sys2Proof.Machine.execFrameRootDone st s
  | .sheafClose st => Sys2Proof.Machine.execSheafClose st s
  | .sheafLateClose st => Sys2Proof.Machine.execSheafLateClose st s
  | .systemStook stooks => Sys2Proof.Machine.execSystemStook stooks s
  | .getInfo tag => Sys2Proof.Machine.execGetInfo tag s
  | .imageLoad tag => Sys2Proof.Machine.execImageLoad tag s
  | .verifyImage tag => Sys2Proof.Machine.execVerifyImage tag s
  | .svnCommit tag => Sys2Proof.Machine.execSvnCommit tag s
  | .bootDone tag => Sys2Proof.Machine.execBootDone tag s
  | .vehSnapshot tag => Sys2Proof.Machine.execVehSnapshot tag s
  | .trigger tag => Sys2Proof.Machine.execTrigger tag s
  | .attest tag => Sys2Proof.Machine.execAttest tag s
  | .getCert tag => Sys2Proof.Machine.execGetCert tag s
  | .sessionCloseAll tag => Sys2Proof.Machine.execSessionCloseAll tag s
  | .sessionOpen tag => Sys2Proof.Machine.execSessionOpen tag s
  | .sessionAuth tag => Sys2Proof.Machine.execSessionAuth tag s
  | .sessionClose tag => Sys2Proof.Machine.execSessionClose tag s
  | .checkMac tag => Sys2Proof.Machine.execCheckMac tag s
  | .makeMac tag => Sys2Proof.Machine.execMakeMac tag s
  | .sealBadOp b op tag => Sys2Proof.Machine.execSealBadOp b op tag s
  | .sealCmdComplete b => Sys2Proof.Machine.execSealCmdComplete b s
  | .provision tag => Sys2Proof.Machine.execProvision tag s
  | .revoke tag => Sys2Proof.Machine.execRevoke tag s
  | .decommission tag => Sys2Proof.Machine.execDecommission tag s
  | .enroll tag => Sys2Proof.Machine.execEnroll tag s
  | .manufacture tag => Sys2Proof.Machine.execManufacture tag s
  | .dikCert tag => Sys2Proof.Machine.execDikCert tag s
  | .coreRelease copyA copyB => Sys2Proof.Machine.execCoreRelease copyA copyB s
  | .xspiDone data changed => Sys2Proof.Machine.execXspiDone data changed s
  | .txBadOp op => Sys2Proof.Machine.execTxBadOp op s
  | .swStartupComplete r heads => Sys2Proof.Machine.execSwStartupComplete r heads s
  | .nvmeCompletion cmd ok us => Sys2Proof.Machine.execNvmeCompletion cmd ok us s
  | .nvmeTimeout resetOk => Sys2Proof.Machine.execNvmeTimeout resetOk s
  | .holdWrite v => Sys2Proof.Machine.execHoldWrite v s
  | .pciebLinkChange up => Sys2Proof.Machine.execPciebLinkChange up s
  | .driveRequest a data n => Sys2Proof.Machine.execDriveRequest a data n s
  | .pciaInboundTlp bar2 write ep off dwords => Sys2Proof.Machine.execPciaInboundTlp bar2 write ep off dwords s
  | .pciaLinkChange up => Sys2Proof.Machine.execPciaLinkChange up s
  | .odDoorbell v => Sys2Proof.Machine.execOdDoorbell v s
  | .ethRxFrame m f badFcs sof => Sys2Proof.Machine.execEthRxFrame m f badFcs sof s
  | .ethTxFrame m sof => Sys2Proof.Machine.execEthTxFrame m sof s
  | .ethLinkChange m up => Sys2Proof.Machine.execEthLinkChange m up s
  | .odUdpDatagram m => Sys2Proof.Machine.execOdUdpDatagram m s
  | .oddropRead m => Sys2Proof.Machine.execOddropRead m s
  | .usdoRequest q => Sys2Proof.Machine.execUsdoRequest q s
  | .tpdoTransmit n timer => Sys2Proof.Machine.execTpdoTransmit n timer s
  | .tunnelRequest client m => Sys2Proof.Machine.execTunnelRequest client m s
  | .odTxCmd session op => Sys2Proof.Machine.execOdTxCmd session op s
  | .modeRequest session m => Sys2Proof.Machine.execModeRequest session m s
  | .streamRestart st => Sys2Proof.Machine.execStreamRestart st s
  | .externalTrigger v => Sys2Proof.Machine.execExternalTrigger v s
  | .microcodeImageWrite session data => Sys2Proof.Machine.execMicrocodeImageWrite session data s
  | .workerWindowAccess session index sub write => Sys2Proof.Machine.execWorkerWindowAccess session index sub write s
  | .storeParameters session v => Sys2Proof.Machine.execStoreParameters session v s
  | .restoreDefaults session v => Sys2Proof.Machine.execRestoreDefaults session v s
  | .wlogRead who => Sys2Proof.Machine.execWlogRead who s
  | .odeStatRead who => Sys2Proof.Machine.execOdeStatRead who s
  | .canRxFrame k f sof => Sys2Proof.Machine.execCanRxFrame k f sof s
  | .canTxFrame k sof => Sys2Proof.Machine.execCanTxFrame k sof s
  | .canErrorState k st tec rec_ => Sys2Proof.Machine.execCanErrorState k st tec rec_ s
  | .recover k => Sys2Proof.Machine.execRecover k s
  | .busOffRecoveryDone k => Sys2Proof.Machine.execBusOffRecoveryDone k s
  | .canStatRead k => Sys2Proof.Machine.execCanStatRead k s
  | .incidentTrigger n falling => Sys2Proof.Machine.execIncidentTrigger n falling s
  | .wakeCanFrame f rate => Sys2Proof.Machine.execWakeCanFrame f rate s
  | .accelWake falling => Sys2Proof.Machine.execAccelWake falling s
  | .resetRelease passed rs => Sys2Proof.Machine.execResetRelease passed rs s
  | .powerStateChoice tgt => Sys2Proof.Machine.execPowerStateChoice tgt s
  | .toleranceWrite k data => Sys2Proof.Machine.execToleranceWrite k data s
  | .powerEstimate est => Sys2Proof.Machine.execPowerEstimate est s
  | .pllUnlock k => Sys2Proof.Machine.execPllUnlock k s
  | .domainFail d => Sys2Proof.Machine.execDomainFail d s
  | .supplyWarn r => Sys2Proof.Machine.execSupplyWarn r s
  | .evtPendClear host k v => Sys2Proof.Machine.execEvtPendClear host k v s
  | .evtDoorbell who v => Sys2Proof.Machine.execEvtDoorbell who v s
  | .timeAdjGo tag => Sys2Proof.Machine.execTimeAdjGo tag s
  | .weaveLoad mask => Sys2Proof.Machine.execWeaveLoad mask s
  | .weaveClear mask => Sys2Proof.Machine.execWeaveClear mask s
  | .frameCommit data => Sys2Proof.Machine.execFrameCommit data s
  | .weaveImageWrite session data => Sys2Proof.Machine.execWeaveImageWrite session data s
  | .pinModeWrite k data => Sys2Proof.Machine.execPinModeWrite k data s
  | .triggerLineChange pads ign accel pps => Sys2Proof.Machine.execTriggerLineChange pads ign accel pps s
  | .wvUserEvent pads ign accel pps => Sys2Proof.Machine.execWvUserEvent pads ign accel pps s
  | .bankFault bankB => Sys2Proof.Machine.execBankFault bankB s
  | .adcChannelResult conv => Sys2Proof.Machine.execAdcChannelResult conv s
  | .i2cWrite n ack => Sys2Proof.Machine.execI2cWrite n ack s
  | .i2cReadAck n data => Sys2Proof.Machine.execI2cReadAck n data s
  | .i2cReadNack n data => Sys2Proof.Machine.execI2cReadNack n data s
  | .i2cStop n => Sys2Proof.Machine.execI2cStop n s
  | .i2cTimeout n sdaLow => Sys2Proof.Machine.execI2cTimeout n sdaLow s
  | .i2cRxRead n => Sys2Proof.Machine.execI2cRxRead n s
  | .spiWord n data => Sys2Proof.Machine.execSpiWord n data s
  | .spiRxRead n => Sys2Proof.Machine.execSpiRxRead n s
  | .linkUp l r => Sys2Proof.Machine.execLinkUp l r s
  | .linkDown l => Sys2Proof.Machine.execLinkDown l s
  | .frameReplay l again => Sys2Proof.Machine.execFrameReplay l again s
  | .workerReachTimeout d => Sys2Proof.Machine.execWorkerReachTimeout d s
  | .linkStatRead l => Sys2Proof.Machine.execLinkStatRead l s
  | .dbgacc write off v => Sys2Proof.Machine.execDbgacc write off v s
  | .debugObjectWrite session udp records => Sys2Proof.Machine.execDebugObjectWrite session udp records s
  | .challenge p => Sys2Proof.Machine.execChallenge p s
  | .verify p password level => Sys2Proof.Machine.execVerify p password level s
  | .verifyDone p => Sys2Proof.Machine.execVerifyDone p s
  | .nonceExpiry p => Sys2Proof.Machine.execNonceExpiry p s
  | .close p => Sys2Proof.Machine.execClose p s
  | .chalt p => Sys2Proof.Machine.execChalt p s
  | .cresume p => Sys2Proof.Machine.execCresume p s
  | .cstep p => Sys2Proof.Machine.execCstep p s
  | .astop p => Sys2Proof.Machine.execAstop p s
  | .arelease p => Sys2Proof.Machine.execArelease p s
  | .astep p => Sys2Proof.Machine.execAstep p s
  | .dbmAccess p => Sys2Proof.Machine.execDbmAccess p s
  | .pmemRead p => Sys2Proof.Machine.execPmemRead p s
  | .pmemCommit p v => Sys2Proof.Machine.execPmemCommit p v s
  | .stimWrite p size data port => Sys2Proof.Machine.execStimWrite p size data port s
  | .reelWinRead w => Sys2Proof.Machine.execReelWinRead w s
  | .wdtEnable freeze => Sys2Proof.Machine.execWdtEnable freeze s
  | .wdtKick v => Sys2Proof.Machine.execWdtKick v s
  | .histogramSample h => Sys2Proof.Machine.execHistogramSample h s
  | .pllRelock k => Sys2Proof.Machine.execPllRelock k s
  | .aonPowerOn mgrSel => Sys2Proof.Machine.execAonPowerOn mgrSel s
  | .supplyReturn r => Sys2Proof.Machine.execSupplyReturn r s
  | .domainPowerGood d => Sys2Proof.Machine.execDomainPowerGood d s
  | .swStartFail r => Sys2Proof.Machine.execSwStartFail r s
  | .pictureCommand => Sys2Proof.Machine.execPictureCommand s
  | .sliceStart => Sys2Proof.Machine.execSliceStart s
  | .pictureDone => Sys2Proof.Machine.execPictureDone s
  | .pkrStatRead => Sys2Proof.Machine.execPkrStatRead s
  | .reseed => Sys2Proof.Machine.execReseed s
  | .tor0Read => Sys2Proof.Machine.execTor0Read s
  | .gorResult => Sys2Proof.Machine.execGorResult s
  | .dispatch => Sys2Proof.Machine.execDispatch s
  | .nop => Sys2Proof.Machine.execNop s
  | .mov => Sys2Proof.Machine.execMov s
  | .not => Sys2Proof.Machine.execNot s
  | .ldi => Sys2Proof.Machine.execLdi s
  | .lfsr => Sys2Proof.Machine.execLfsr s
  | .sel => Sys2Proof.Machine.execSel s
  | .bool => Sys2Proof.Machine.execBool s
  | .mset => Sys2Proof.Machine.execMset s
  | .mget => Sys2Proof.Machine.execMget s
  | .sget => Sys2Proof.Machine.execSget s
  | .sclr => Sys2Proof.Machine.execSclr s
  | .nmov => Sys2Proof.Machine.execNmov s
  | .nmovd => Sys2Proof.Machine.execNmovd s
  | .nadd => Sys2Proof.Machine.execNadd s
  | .any => Sys2Proof.Machine.execAny s
  | .cmp => Sys2Proof.Machine.execCmp s
  | .cmpm => Sys2Proof.Machine.execCmpm s
  | .add => Sys2Proof.Machine.execAdd s
  | .sub => Sys2Proof.Machine.execSub s
  | .addi => Sys2Proof.Machine.execAddi s
  | .neg => Sys2Proof.Machine.execNeg s
  | .abs => Sys2Proof.Machine.execAbs s
  | .min => Sys2Proof.Machine.execMin s
  | .max => Sys2Proof.Machine.execMax s
  | .avg => Sys2Proof.Machine.execAvg s
  | .absd => Sys2Proof.Machine.execAbsd s
  | .clip => Sys2Proof.Machine.execClip s
  | .shl => Sys2Proof.Machine.execShl s
  | .shr => Sys2Proof.Machine.execShr s
  | .rol => Sys2Proof.Machine.execRol s
  | .ror => Sys2Proof.Machine.execRor s
  | .mul => Sys2Proof.Machine.execMul s
  | .mulq => Sys2Proof.Machine.execMulq s
  | .div => Sys2Proof.Machine.execDiv s
  | .sqrt => Sys2Proof.Machine.execSqrt s
  | .acc => Sys2Proof.Machine.execAcc s
  | .accn => Sys2Proof.Machine.execAccn s
  | .widen => Sys2Proof.Machine.execWiden s
  | .narrow => Sys2Proof.Machine.execNarrow s
  | .popc => Sys2Proof.Machine.execPopc s
  | .clz => Sys2Proof.Machine.execClz s
  | .sig => Sys2Proof.Machine.execSig s
  | .ch => Sys2Proof.Machine.execCh s
  | .maj => Sys2Proof.Machine.execMaj s
  | .bswap => Sys2Proof.Machine.execBswap s
  | .faddh => Sys2Proof.Machine.execFaddh s
  | .fsubh => Sys2Proof.Machine.execFsubh s
  | .fmulh => Sys2Proof.Machine.execFmulh s
  | .ffmah => Sys2Proof.Machine.execFfmah s
  | .fminh => Sys2Proof.Machine.execFminh s
  | .fmaxh => Sys2Proof.Machine.execFmaxh s
  | .fcmph => Sys2Proof.Machine.execFcmph s
  | .fcvthi => Sys2Proof.Machine.execFcvthi s
  | .fcvtih => Sys2Proof.Machine.execFcvtih s
  | .fcvthq => Sys2Proof.Machine.execFcvthq s
  | .fcvtqh => Sys2Proof.Machine.execFcvtqh s
  | .undef => Sys2Proof.Machine.execUndef s
  | .customerRoutine => Sys2Proof.Machine.execCustomerRoutine s
  | .plane => Sys2Proof.Machine.execPlane s
  | .nbr => Sys2Proof.Machine.execNbr s
  | .reg => Sys2Proof.Machine.execReg s
  | .gor => Sys2Proof.Machine.execGor s
  | .cnt => Sys2Proof.Machine.execCnt s
  | .ofs => Sys2Proof.Machine.execOfs s
  | .br => Sys2Proof.Machine.execBr s
  | .call => Sys2Proof.Machine.execCall s
  | .ret => Sys2Proof.Machine.execRet s
  | .yield => Sys2Proof.Machine.execYield s
  | .endOp => Sys2Proof.Machine.execEnd s
  | .pageTouch => Sys2Proof.Machine.execPageTouch s
  | .pageDeclare => Sys2Proof.Machine.execPageDeclare s
  | .pageCheck => Sys2Proof.Machine.execPageCheck s
  | .wait => Sys2Proof.Machine.execWait s
  | .reservedMicroword => Sys2Proof.Machine.execReservedMicroword s
  | .resume => Sys2Proof.Machine.execResume s
  | .discard => Sys2Proof.Machine.execDiscard s
  | .customerLoadDone => Sys2Proof.Machine.execCustomerLoadDone s
  | .grnEnable => Sys2Proof.Machine.execGrnEnable s
  | .grnInitDone => Sys2Proof.Machine.execGrnInitDone s
  | .klock => Sys2Proof.Machine.execKlock s
  | .submit => Sys2Proof.Machine.execSubmit s
  | .park => Sys2Proof.Machine.execPark s
  | .release => Sys2Proof.Machine.execRelease s
  | .free => Sys2Proof.Machine.execFree s
  | .setDeadline => Sys2Proof.Machine.execSetDeadline s
  | .setPrio => Sys2Proof.Machine.execSetPrio s
  | .fence => Sys2Proof.Machine.execFence s
  | .grnBadOp => Sys2Proof.Machine.execGrnBadOp s
  | .deadlineScan => Sys2Proof.Machine.execDeadlineScan s
  | .selection => Sys2Proof.Machine.execSelection s
  | .stallResume => Sys2Proof.Machine.execStallResume s
  | .turnaround => Sys2Proof.Machine.execTurnaround s
  | .roundQueueRoom => Sys2Proof.Machine.execRoundQueueRoom s
  | .endAccept => Sys2Proof.Machine.execEndAccept s
  | .preemptRequest => Sys2Proof.Machine.execPreemptRequest s
  | .ackPreempt => Sys2Proof.Machine.execAckPreempt s
  | .ackLate => Sys2Proof.Machine.execAckLate s
  | .rstatRead => Sys2Proof.Machine.execRstatRead s
  | .refresh => Sys2Proof.Machine.execRefresh s
  | .distaffAdd => Sys2Proof.Machine.execDistaffAdd s
  | .adc => Sys2Proof.Machine.execAdc s
  | .distaffSub => Sys2Proof.Machine.execDistaffSub s
  | .sbc => Sys2Proof.Machine.execSbc s
  | .and => Sys2Proof.Machine.execAnd s
  | .or => Sys2Proof.Machine.execOr s
  | .xor => Sys2Proof.Machine.execXor s
  | .bic => Sys2Proof.Machine.execBic s
  | .lsl => Sys2Proof.Machine.execLsl s
  | .lsr => Sys2Proof.Machine.execLsr s
  | .asr => Sys2Proof.Machine.execAsr s
  | .distaffRor => Sys2Proof.Machine.execDistaffRor s
  | .distaffMov => Sys2Proof.Machine.execDistaffMov s
  | .distaffCmp => Sys2Proof.Machine.execDistaffCmp s
  | .qadd => Sys2Proof.Machine.execQadd s
  | .qsub => Sys2Proof.Machine.execQsub s
  | .movl => Sys2Proof.Machine.execMovl s
  | .movh => Sys2Proof.Machine.execMovh s
  | .ldb => Sys2Proof.Machine.execLdb s
  | .ldsb => Sys2Proof.Machine.execLdsb s
  | .ldh => Sys2Proof.Machine.execLdh s
  | .ldsh => Sys2Proof.Machine.execLdsh s
  | .ldw => Sys2Proof.Machine.execLdw s
  | .ldx => Sys2Proof.Machine.execLdx s
  | .stb => Sys2Proof.Machine.execStb s
  | .sth => Sys2Proof.Machine.execSth s
  | .stw => Sys2Proof.Machine.execStw s
  | .stx => Sys2Proof.Machine.execStx s
  | .lda => Sys2Proof.Machine.execLda s
  | .ldp => Sys2Proof.Machine.execLdp s
  | .sta => Sys2Proof.Machine.execSta s
  | .stp => Sys2Proof.Machine.execStp s
  | .distaffMulAcc => Sys2Proof.Machine.execDistaffMulAcc s
  | .mac => Sys2Proof.Machine.execMac s
  | .msu => Sys2Proof.Machine.execMsu s
  | .mova => Sys2Proof.Machine.execMova s
  | .rda => Sys2Proof.Machine.execRda s
  | .asra => Sys2Proof.Machine.execAsra s
  | .clra => Sys2Proof.Machine.execClra s
  | .distaffMul => Sys2Proof.Machine.execDistaffMul s
  | .mulhs => Sys2Proof.Machine.execMulhs s
  | .mulhu => Sys2Proof.Machine.execMulhu s
  | .divs => Sys2Proof.Machine.execDivs s
  | .divu => Sys2Proof.Machine.execDivu s
  | .rems => Sys2Proof.Machine.execRems s
  | .remu => Sys2Proof.Machine.execRemu s
  | .fadd => Sys2Proof.Machine.execFadd s
  | .fsub => Sys2Proof.Machine.execFsub s
  | .fmul => Sys2Proof.Machine.execFmul s
  | .fdiv => Sys2Proof.Machine.execFdiv s
  | .fsqrt => Sys2Proof.Machine.execFsqrt s
  | .fma => Sys2Proof.Machine.execFma s
  | .fmin => Sys2Proof.Machine.execFmin s
  | .fmax => Sys2Proof.Machine.execFmax s
  | .fcmp => Sys2Proof.Machine.execFcmp s
  | .fcvtws => Sys2Proof.Machine.execFcvtws s
  | .fcvtsw => Sys2Proof.Machine.execFcvtsw s
  | .fneg => Sys2Proof.Machine.execFneg s
  | .fabs => Sys2Proof.Machine.execFabs s
  | .dadd => Sys2Proof.Machine.execDadd s
  | .dsub => Sys2Proof.Machine.execDsub s
  | .dchk => Sys2Proof.Machine.execDchk s
  | .b => Sys2Proof.Machine.execB s
  | .bl => Sys2Proof.Machine.execBl s
  | .brp => Sys2Proof.Machine.execBrp s
  | .blrp => Sys2Proof.Machine.execBlrp s
  | .setp => Sys2Proof.Machine.execSetp s
  | .getp => Sys2Proof.Machine.execGetp s
  | .getph => Sys2Proof.Machine.execGetph s
  | .addp => Sys2Proof.Machine.execAddp s
  | .setb => Sys2Proof.Machine.execSetb s
  | .setl => Sys2Proof.Machine.execSetl s
  | .setn => Sys2Proof.Machine.execSetn s
  | .getl => Sys2Proof.Machine.execGetl s
  | .getn => Sys2Proof.Machine.execGetn s
  | .getb => Sys2Proof.Machine.execGetb s
  | .getal => Sys2Proof.Machine.execGetal s
  | .getah => Sys2Proof.Machine.execGetah s
  | .setah => Sys2Proof.Machine.execSetah s
  | .issue => Sys2Proof.Machine.execIssue s
  | .issuem => Sys2Proof.Machine.execIssuem s
  | .issueHoldRelease => Sys2Proof.Machine.execIssueHoldRelease s
  | .await => Sys2Proof.Machine.execAwait s
  | .awaitComplete => Sys2Proof.Machine.execAwaitComplete s
  | .distaffNop => Sys2Proof.Machine.execDistaffNop s
  | .svc => Sys2Proof.Machine.execSvc s
  | .eret => Sys2Proof.Machine.execEret s
  | .mrs => Sys2Proof.Machine.execMrs s
  | .msr => Sys2Proof.Machine.execMsr s
  | .wfi => Sys2Proof.Machine.execWfi s
  | .wfiWake => Sys2Proof.Machine.execWfiWake s
  | .distaffFence => Sys2Proof.Machine.execDistaffFence s
  | .bkpt => Sys2Proof.Machine.execBkpt s
  | .dcinv => Sys2Proof.Machine.execDcinv s
  | .icinv => Sys2Proof.Machine.execIcinv s
  | .icinvall => Sys2Proof.Machine.execIcinvall s
  | .dcinvall => Sys2Proof.Machine.execDcinvall s
  | .undefInstruction => Sys2Proof.Machine.execUndefInstruction s
  | .interruptEntry => Sys2Proof.Machine.execInterruptEntry s
  | .impreciseBuserr => Sys2Proof.Machine.execImpreciseBuserr s
  | .invLine => Sys2Proof.Machine.execInvLine s
  | .drainStart => Sys2Proof.Machine.execDrainStart s
  | .drainComplete => Sys2Proof.Machine.execDrainComplete s
  | .drainLate => Sys2Proof.Machine.execDrainLate s
  | .drainAbort => Sys2Proof.Machine.execDrainAbort s
  | .perrRead => Sys2Proof.Machine.execPerrRead s
  | .datCeRead => Sys2Proof.Machine.execDatCeRead s
  | .bitstreamPortInput => Sys2Proof.Machine.execBitstreamPortInput s
  | .stookDue => Sys2Proof.Machine.execStookDue s
  | .stookSignDone => Sys2Proof.Machine.execStookSignDone s
  | .recoveryStook => Sys2Proof.Machine.execRecoveryStook s
  | .journalWriteDone => Sys2Proof.Machine.execJournalWriteDone s
  | .journalSpaceFreed => Sys2Proof.Machine.execJournalSpaceFreed s
  | .progressEntry => Sys2Proof.Machine.execProgressEntry s
  | .siloCeRead => Sys2Proof.Machine.execSiloCeRead s
  | .conditionalTestFail => Sys2Proof.Machine.execConditionalTestFail s
  | .softTamper => Sys2Proof.Machine.execSoftTamper s
  | .hardTamper => Sys2Proof.Machine.execHardTamper s
  | .sessionAuthTimeout => Sys2Proof.Machine.execSessionAuthTimeout s
  | .sessionIdleTimeout => Sys2Proof.Machine.execSessionIdleTimeout s
  | .lockoutEnd => Sys2Proof.Machine.execLockoutEnd s
  | .xspiGo => Sys2Proof.Machine.execXspiGo s
  | .vinSenseFall => Sys2Proof.Machine.execVinSenseFall s
  | .capsuleComplete => Sys2Proof.Machine.execCapsuleComplete s
  | .vinRecovered => Sys2Proof.Machine.execVinRecovered s
  | .pfWarn => Sys2Proof.Machine.execPfWarn s
  | .siloScan => Sys2Proof.Machine.execSiloScan s
  | .recovery => Sys2Proof.Machine.execRecovery s
  | .txOpen => Sys2Proof.Machine.execTxOpen s
  | .txStage => Sys2Proof.Machine.execTxStage s
  | .txCommit => Sys2Proof.Machine.execTxCommit s
  | .txAbort => Sys2Proof.Machine.execTxAbort s
  | .txApplyDone => Sys2Proof.Machine.execTxApplyDone s
  | .swEnable => Sys2Proof.Machine.execSwEnable s
  | .itemAdd => Sys2Proof.Machine.execItemAdd s
  | .baleAgeClose => Sys2Proof.Machine.execBaleAgeClose s
  | .lagMiss => Sys2Proof.Machine.execLagMiss s
  | .swDisable => Sys2Proof.Machine.execSwDisable s
  | .swDrainDone => Sys2Proof.Machine.execSwDrainDone s
  | .swDrainTimeout => Sys2Proof.Machine.execSwDrainTimeout s
  | .pciaReset => Sys2Proof.Machine.execPciaReset s
  | .odSlotAnswer => Sys2Proof.Machine.execOdSlotAnswer s
  | .odOpen => Sys2Proof.Machine.execOdOpen s
  | .odAuth => Sys2Proof.Machine.execOdAuth s
  | .odClose => Sys2Proof.Machine.execOdClose s
  | .odRead => Sys2Proof.Machine.execOdRead s
  | .odWrite => Sys2Proof.Machine.execOdWrite s
  | .odBadOp => Sys2Proof.Machine.execOdBadOp s
  | .pendingWriteTimeout => Sys2Proof.Machine.execPendingWriteTimeout s
  | .rpdoReceive => Sys2Proof.Machine.execRpdoReceive s
  | .heartbeat => Sys2Proof.Machine.execHeartbeat s
  | .canTimeObject => Sys2Proof.Machine.execCanTimeObject s
  | .nmtStart => Sys2Proof.Machine.execNmtStart s
  | .nmtStop => Sys2Proof.Machine.execNmtStop s
  | .nmtPreOperational => Sys2Proof.Machine.execNmtPreOperational s
  | .nmtResetCommunication => Sys2Proof.Machine.execNmtResetCommunication s
  | .nmtResetNode => Sys2Proof.Machine.execNmtResetNode s
  | .odStoreLoad => Sys2Proof.Machine.execOdStoreLoad s
  | .incidentHoldExpiry => Sys2Proof.Machine.execIncidentHoldExpiry s
  | .dormantEntry => Sys2Proof.Machine.execDormantEntry s
  | .ignWake => Sys2Proof.Machine.execIgnWake s
  | .rtcAlarm => Sys2Proof.Machine.execRtcAlarm s
  | .externalReset => Sys2Proof.Machine.execExternalReset s
  | .swReset => Sys2Proof.Machine.execSwReset s
  | .throttleStep => Sys2Proof.Machine.execThrottleStep s
  | .refLost => Sys2Proof.Machine.execRefLost s
  | .xtalFail => Sys2Proof.Machine.execXtalFail s
  | .ppsEdge => Sys2Proof.Machine.execPpsEdge s
  | .timeSourceTimeout => Sys2Proof.Machine.execTimeSourceTimeout s
  | .timebaseWrap => Sys2Proof.Machine.execTimebaseWrap s
  | .timeNowRead => Sys2Proof.Machine.execTimeNowRead s
  | .weaveStart => Sys2Proof.Machine.execWeaveStart s
  | .cfgStatRead => Sys2Proof.Machine.execCfgStatRead s
  | .systemMapCheck => Sys2Proof.Machine.execSystemMapCheck s
  | .workerBootTimeout => Sys2Proof.Machine.execWorkerBootTimeout s
  | .debugReset => Sys2Proof.Machine.execDebugReset s
  | .traceDatagramTimeout => Sys2Proof.Machine.execTraceDatagramTimeout s
  | .wdtWarn => Sys2Proof.Machine.execWdtWarn s
  | .wdtExpiry => Sys2Proof.Machine.execWdtExpiry s
  | .lifeFlushPeriodic => Sys2Proof.Machine.execLifeFlushPeriodic s
  | .lifeFlushNow => Sys2Proof.Machine.execLifeFlushNow s
  | .lifeSnapTake => Sys2Proof.Machine.execLifeSnapTake s
  | .snapshotDone => Sys2Proof.Machine.execSnapshotDone s
  | .lifeLoad => Sys2Proof.Machine.execLifeLoad s

end Sys2Proof.Machine
end

