-- ==== Sys2Proof/Machine/Tick.lean ====
section
/-!
DEFINITION. One nanosecond of the block's clocks: what happens by itself while no command waits.
-/
namespace Sys2Proof.Machine

/-- Does a clock of `num` edges each 10^9 × `den` ns have an edge between nanosecond t and t + 1? (DEDUCED: log 105) -/
def clockEdge (t num den : Nat) : Bool := decide (t * num / (1000000000 * den) ≠ (t + 1) * num / (1000000000 * den))

/-- The global clocks that have an edge in this nanosecond: GCLK0 at 200 MHz and GCLK1 at 50 MHz from NCLK, which stops with the I/O PLL (R479), GCLK2 at 25 MHz from the reference input,
GCLK3 at 32.768 kHz (R489). (DEDUCED: log 105) -/
def gclkEdges (c : Chip) : List Nat :=
  [0, 1, 2, 3].filter (fun g =>
    match g with
    | 0 => nclkRuns c && clockEdge c.ns 200000000 1
    | 1 => nclkRuns c && clockEdge c.ns 50000000 1
    | 2 => !c.pow.refLost && clockEdge c.ns 25000000 1
    | _ => clockEdge c.ns 32768 1)

/-- The fabric's input of whole TAI seconds is high for one GCLK0 cycle (R491). -/
def Chip.secondPulse (c : Chip) (before : Nat) (edge0 : Bool) : Chip :=
  let high := decide (before / 1000000000 ≠ c.tai.toNat / 1000000000)
  { c with weave := { c.weave with second := high || (c.weave.second && !edge0) } }

/-- One nanosecond: the Timebase counts (R418, R420), the fabric's clocks tick (R489, R490), each second outside DORMANT is counted
(R561), the trace unit drains (R554), and a dictionary access that a stook held goes on (R322). (DESIGN CHOICE: log 3) -/
def Chip.tick (c : Chip) : Chip :=
  let es := gclkEdges c
  let before := c.tai.toNat
  let c1 := ((c.timeTick.weaveClock es).secondPulse before (es.contains 0)).weaveSeen
  let c2 := { c1 with ns := c.ns + 1 }
  let c3 := if clockEdge c.ns 1 1 && !c.pow.dormant then c2.lifeAdd 0 1 else c2
  if nclkRuns c then c3.traceDrain.odGo else c3

end Sys2Proof.Machine
end

