-- ==== Sys2Proof/Machine/Step.lean ====
section
/-!
DEFINITION. One step of the block: the command at the front of the queue takes effect; with no command waiting, a nanosecond passes.
-/
namespace Sys2Proof.Machine

/-- One step (R9). (DESIGN CHOICE: log 1; DESIGN CHOICE: log 3; DESIGN CHOICE: log 10) -/
def step (s : State) : Host.Outcome State Fault Refusal :=
  match s.pending with
  | [] => runAny Chip.tick s
  | i :: rest => exec i { s with pending := rest }

/-- The command that the word spells, put at the front of the queue; the state as it is where it spells none. -/
def State.withFetchWord (s : State) (nbits w : Nat) : State :=
  match Sys2Proof.decodeTableWord nbits w with
  | some i => { s with pending := i :: s.pending }
  | none => s

end Sys2Proof.Machine
end

