-- ==== Sys2Proof/WellFormed.lean ====
section
/-!
DEFINITION. Which operands a command can bring from outside: the sizes and shapes the spec gives what arrives at a pin, a link or a bus.
Register accesses carry any value; the meanings judge those themselves.
-/
namespace Sys2Proof

/-- The number of contexts the Granary holds (R145). -/
def contexts : Nat := 262144
/-- The largest boot container: the header of 0x600 bytes and the payload limit of R589. -/
def imageMax : Nat := 0x600 + 524288
/-- Is a node address on the 18 × 18 grid (R253)? Bits [9:5] are x, bits [4:0] y. -/
def onGrid (n : BitVec 10) : Bool := decide (n.toNat / 32 ≤ 17) && decide (n.toNat % 32 ≤ 17)

/-- The data lengths of a CAN FD frame (R441). -/
def fdLengths : List Nat := [0, 1, 2, 3, 4, 5, 6, 7, 8, 12, 16, 20, 24, 32, 48, 64]

/-- A frame a CAN bus can carry (R441): the identifier fits its format, a classical frame has at most 8 bytes and no bit-rate switch, a
remote frame is classical and has no data, an FD frame has one of the sixteen lengths. -/
def CanFrame.wf (f : CanFrame) : Bool :=
  decide (f.id < if f.ext then 2 ^ 29 else 2 ^ 11) && (if f.fd then !f.rtr && fdLengths.contains f.data.length
    else !f.brs && !f.esi && decide (f.data.length ≤ 8)) && (if f.rtr then decide (f.data = []) && decide (f.dlc ≤ 15) else true)

/-- A packet its network can carry (R254, R259 to R262): two REQ flits or one RSP flit of 72 bits, an ACK of one SNP flit of 40 bits or
any other SNP of two, a DAT head with one or two data flits of 288 bits, and a check result for each 64-bit word of the data flits. -/
def Packet.wf (p : Packet) : Bool :=
  match p.net with
  | 0 => decide (p.flits.length = 2) && p.flits.all (fun x => decide (x < 2 ^ 72)) && decide (p.words = [])
  | 1 => decide (p.flits.length = 1) && p.flits.all (fun x => decide (x < 2 ^ 72)) && decide (p.words = [])
  | 2 => decide (p.flits.length = if p.flits.headD 0 / 64 % 8 = 3 then 1 else 2) && p.flits.all (fun x => decide (x < 2 ^ 40)) &&
      decide (p.words = [])
  | 3 => (decide (p.flits.length = 2) || decide (p.flits.length = 3)) && p.flits.all (fun x => decide (x < 2 ^ 288)) &&
      decide (p.words.length = 4 * (p.flits.length - 1))
  | _ => false

/-- A report a drive can give (R397): an LBA has at least 512 bytes, a power of two. -/
def DriveReport.wf (r : DriveReport) : Bool := decide (512 ≤ r.lbaSize) && decide (2 ^ r.lbaSize.log2 = r.lbaSize)

/-- A USDO request (R435): a client's node-ID, an index and a sub-index. -/
def UsdoRequest.wf (q : UsdoRequest) : Bool :=
  decide (0 < q.client) && decide (q.client ≤ 127) && decide (q.index < 0x10000) && decide (q.sub < 0x100)

/-- Can the command arrive with these operands? -/
def Instr.wf (i : Instr) : Bool :=
  match i with
  | .linePacket _ _ _ _ _ pixels _ =>
    decide (pixels.length ≤ 65535)
  | .sebReceive ctx =>
    decide (ctx < contexts)
  | .descSnoop n _ =>
    decide (n < contexts)
  | .dramInitDone failed =>
    decide failed.Nodup
  | .packetHop here _ inject =>
    onGrid here && inject.all Packet.wf
  | .systemStook stooks =>
    stooks.all (fun d => decide (d.1 < 16) && d.2.all (fun r => decide (r.length = 1024)))
  | .coreRelease copyA copyB =>
    decide (copyA.length ≤ imageMax) && decide (copyB.length ≤ imageMax)
  | .xspiDone _ changed =>
    decide (changed.map Prod.fst).Nodup
  | .swStartupComplete r heads =>
    r.wf && heads.all (fun h => decide (h.2.length = 64))
  | .driveRequest _ data n =>
    data.all (fun b => decide (b ≠ []) && decide (b.length ≤ 512)) && (data.isSome || (decide (0 < n) && decide (n ≤ 4096)))
  | .pciaInboundTlp _ write _ _ dwords =>
    decide (dwords ≠ []) && decide (dwords.length ≤ if write then 128 else 1024)
  | .ethRxFrame _ f _ _ =>
    decide (14 ≤ f.length) && decide (f.length ≤ 9216)
  | .usdoRequest q =>
    q.wf
  | .tunnelRequest client m =>
    decide (0 < client.val) && decide (m ≠ [])
  | .microcodeImageWrite _ data =>
    decide (data ≠ [])
  | .workerWindowAccess _ index _ write =>
    decide (0x6000 ≤ index.toNat) && decide (index.toNat < 0xA000) && write.all (fun b => decide (b ≠ []))
  | .canRxFrame _ f _ =>
    f.wf
  | .wakeCanFrame f _ =>
    f.wf && !f.fd
  | .resetRelease _ rs =>
    decide (rs.map RepairReport.tile).Nodup
  | .weaveImageWrite _ data =>
    decide (data ≠ [])
  | .adcChannelResult conv =>
    decide (conv ≠ []) && decide (conv.length ≤ 256)
  | .swStartFail r =>
    r.wf
  | .registerWrite .. | .frameStart .. | .frameEnd .. | .bandComplete .. | .streamDisable .. | .slotRelease .. | .pstatRead ..
  | .sliceDone .. | .tileStatRead .. | .thermalSample .. | .grnHold .. | .ringBaseWrite .. | .pageTransferDone .. | .grnEnd ..
  | .cqRoom .. | .patrolScrub .. | .dramTempSample .. | .selfRefreshEntry .. | .selfRefreshExit .. | .quadrantOnReq ..
  | .quadrantOffReq .. | .lstatRead .. | .memoryRequest .. | .responseReceive .. | .readDataReceive .. | .snoopAck ..
  | .requestTimeout .. | .dataTimeout .. | .snoopTimeout .. | .portDisable .. | .powerDownCommit .. | .tileExitDone ..
  | .frameDigestsReady .. | .auditLeaf .. | .frameRootDone .. | .sheafClose .. | .sheafLateClose .. | .getInfo ..
  | .imageLoad .. | .verifyImage .. | .svnCommit .. | .bootDone .. | .vehSnapshot .. | .trigger .. | .attest .. | .getCert ..
  | .sessionCloseAll .. | .sessionOpen .. | .sessionAuth .. | .sessionClose .. | .checkMac .. | .makeMac .. | .sealBadOp ..
  | .sealCmdComplete .. | .provision .. | .revoke .. | .decommission .. | .enroll .. | .manufacture .. | .dikCert ..
  | .txBadOp .. | .nvmeCompletion .. | .nvmeTimeout .. | .holdWrite .. | .pciebLinkChange .. | .pciaLinkChange ..
  | .odDoorbell .. | .ethTxFrame .. | .ethLinkChange .. | .odUdpDatagram .. | .oddropRead .. | .tpdoTransmit .. | .odTxCmd ..
  | .modeRequest .. | .streamRestart .. | .externalTrigger .. | .storeParameters .. | .restoreDefaults .. | .wlogRead ..
  | .odeStatRead .. | .canTxFrame .. | .canErrorState .. | .recover .. | .busOffRecoveryDone .. | .canStatRead ..
  | .incidentTrigger .. | .accelWake .. | .powerStateChoice .. | .toleranceWrite .. | .powerEstimate .. | .pllUnlock ..
  | .domainFail .. | .supplyWarn .. | .evtPendClear .. | .evtDoorbell .. | .timeAdjGo .. | .weaveLoad .. | .weaveClear ..
  | .frameCommit .. | .pinModeWrite .. | .triggerLineChange .. | .wvUserEvent .. | .bankFault .. | .i2cWrite ..
  | .i2cReadAck .. | .i2cReadNack .. | .i2cStop .. | .i2cTimeout .. | .i2cRxRead .. | .spiWord .. | .spiRxRead .. | .linkUp ..
  | .linkDown .. | .frameReplay .. | .workerReachTimeout .. | .linkStatRead .. | .dbgacc .. | .debugObjectWrite ..
  | .challenge .. | .verify .. | .verifyDone .. | .nonceExpiry .. | .close .. | .chalt .. | .cresume .. | .cstep .. | .astop ..
  | .arelease .. | .astep .. | .dbmAccess .. | .pmemRead .. | .pmemCommit .. | .stimWrite .. | .reelWinRead .. | .wdtEnable ..
  | .wdtKick .. | .histogramSample .. | .pllRelock .. | .aonPowerOn .. | .supplyReturn .. | .domainPowerGood ..
  | .pictureCommand | .sliceStart | .pictureDone | .pkrStatRead | .reseed | .tor0Read | .gorResult | .dispatch | .nop | .mov
  | .not | .ldi | .lfsr | .sel | .bool | .mset | .mget | .sget | .sclr | .nmov | .nmovd | .nadd | .any | .cmp | .cmpm | .add
  | .sub | .addi | .neg | .abs | .min | .max | .avg | .absd | .clip | .shl | .shr | .rol | .ror | .mul | .mulq | .div | .sqrt
  | .acc | .accn | .widen | .narrow | .popc | .clz | .sig | .ch | .maj | .bswap | .faddh | .fsubh | .fmulh | .ffmah | .fminh
  | .fmaxh | .fcmph | .fcvthi | .fcvtih | .fcvthq | .fcvtqh | .undef | .customerRoutine | .plane | .nbr | .reg | .gor | .cnt
  | .ofs | .br | .call | .ret | .yield | .endOp | .pageTouch | .pageDeclare | .pageCheck | .wait | .reservedMicroword | .resume
  | .discard | .customerLoadDone | .grnEnable | .grnInitDone | .klock | .submit | .park | .release | .free | .setDeadline
  | .setPrio | .fence | .grnBadOp | .deadlineScan | .selection | .stallResume | .turnaround | .roundQueueRoom | .endAccept
  | .preemptRequest | .ackPreempt | .ackLate | .rstatRead | .refresh | .distaffAdd | .adc | .distaffSub | .sbc | .and | .or
  | .xor | .bic | .lsl | .lsr | .asr | .distaffRor | .distaffMov | .distaffCmp | .qadd | .qsub | .movl | .movh | .ldb | .ldsb
  | .ldh | .ldsh | .ldw | .ldx | .stb | .sth | .stw | .stx | .lda | .ldp | .sta | .stp | .distaffMulAcc | .mac | .msu | .mova
  | .rda | .asra | .clra | .distaffMul | .mulhs | .mulhu | .divs | .divu | .rems | .remu | .fadd | .fsub | .fmul | .fdiv
  | .fsqrt | .fma | .fmin | .fmax | .fcmp | .fcvtws | .fcvtsw | .fneg | .fabs | .dadd | .dsub | .dchk | .b | .bl | .brp | .blrp
  | .setp | .getp | .getph | .addp | .setb | .setl | .setn | .getl | .getn | .getb | .getal | .getah | .setah | .issue
  | .issuem | .issueHoldRelease | .await | .awaitComplete | .distaffNop | .svc | .eret | .mrs | .msr | .wfi | .wfiWake
  | .distaffFence | .bkpt | .dcinv | .icinv | .icinvall | .dcinvall | .undefInstruction | .interruptEntry | .impreciseBuserr
  | .invLine | .drainStart | .drainComplete | .drainLate | .drainAbort | .perrRead | .datCeRead | .bitstreamPortInput
  | .stookDue | .stookSignDone | .recoveryStook | .journalWriteDone | .journalSpaceFreed | .progressEntry | .siloCeRead
  | .conditionalTestFail | .softTamper | .hardTamper | .sessionAuthTimeout | .sessionIdleTimeout | .lockoutEnd | .xspiGo
  | .vinSenseFall | .capsuleComplete | .vinRecovered | .pfWarn | .siloScan | .recovery | .txOpen | .txStage | .txCommit
  | .txAbort | .txApplyDone | .swEnable | .itemAdd | .baleAgeClose | .lagMiss | .swDisable | .swDrainDone | .swDrainTimeout
  | .pciaReset | .odSlotAnswer | .odOpen | .odAuth | .odClose | .odRead | .odWrite | .odBadOp | .pendingWriteTimeout
  | .rpdoReceive | .heartbeat | .canTimeObject | .nmtStart | .nmtStop | .nmtPreOperational | .nmtResetCommunication
  | .nmtResetNode | .odStoreLoad | .incidentHoldExpiry | .dormantEntry | .ignWake | .rtcAlarm | .externalReset | .swReset
  | .throttleStep | .refLost | .xtalFail | .ppsEdge | .timeSourceTimeout | .timebaseWrap | .timeNowRead | .weaveStart
  | .cfgStatRead | .systemMapCheck | .workerBootTimeout | .debugReset | .traceDatagramTimeout | .wdtWarn | .wdtExpiry
  | .lifeFlushPeriodic | .lifeFlushNow | .lifeSnapTake | .snapshotDone | .lifeLoad => true

end Sys2Proof
end

