-- ==== Sys2Proof/Safety.lean ====
section
/-!
DEFINITION. The terms that claims are stated in: how a command completes, what is settled after it, and what frames keep.
-/
namespace Sys2Proof.Machine

/-- The command completes: from the chip `c` while NCLK runs (R479), whatever waits in the queue, it answers a next state with the same
queue and the chip `c'`, whose interrupt lines are recomputed (R483). -/
def Becomes (i : Instr) (c c' : Chip) : Prop :=
  nclkRuns c = true → ∀ q : List Instr, exec i { pending := q, chip := c } = .next { pending := q, chip := c'.settle }

/-- The lines of the event controller follow its pending bits and routes (R483), and the core's GORL the GOR flag (R222). -/
def Settled (c : Chip) : Prop :=
  c.lines = distaffLines c ∧ c.hostUp = hostLines c ∧ c.core.gorl = c.seq.gor

/-- Event i is pending in both views (R482). -/
def Pending (c : Chip) (i : Nat) : Prop :=
  c.vecBit (Reg.EVT_DPENDk 0) i = true ∧ c.vecBit (Reg.EVT_HPENDk 0) i = true

/-- Every byte of memory reads as before. -/
def SameMemory (c c' : Chip) : Prop := ∀ a : Nat, c'.rd8 a = c.rd8 a

/-- The tiles and the sequencer are as before. -/
def SameArray (c c' : Chip) : Prop := c'.tiles = c.tiles ∧ c'.seq = c.seq

/-- The core's registers are as before: G, A, P, B, L, N, FLG, PC, STATUS, FPSR, the exception registers and CCTL. -/
def SameCore (c c' : Chip) : Prop :=
  c'.core.g = c.core.g ∧ c'.core.a = c.core.a ∧ c'.core.p = c.core.p ∧ c'.core.b = c.core.b ∧ c'.core.l = c.core.l ∧
  c'.core.n = c.core.n ∧ c'.core.flg = c.core.flg ∧ c'.core.pc = c.core.pc ∧ c'.core.status = c.core.status ∧
  c'.core.fpsr = c.core.fpsr ∧ c'.core.cctl = c.core.cctl ∧ c'.core.vbar = c.core.vbar ∧ c'.core.cause = c.core.cause ∧
  c'.core.bad = c.core.bad ∧ c'.core.epc = c.core.epc ∧ c'.core.estat = c.core.estat

/-- The Seal Unit with its OTP and its records, the Silo and the evidence are as before. -/
def SameVault (c c' : Chip) : Prop := c'.su = c.su ∧ c'.silo = c.silo ∧ c'.ev = c.ev

/-- The core begins the instruction `w` (R208, R211, R212, R215, R232): it may begin one, the fetch at PC gives `w` and leaves the chip
`d`, `w` is defined and its condition holds. -/
abbrev CoreBegins (c d : Chip) (w : Word) : Prop :=
  coreReady c = true ∧ c.coreFetch = (some w, d) ∧ wordUndefined w = false ∧
    condOk d.core.flg d.core.gorl (Machine.fld w 31 28) = true

/-- Row `i` carries out the words that `mine` picks (R211, R212, R226): a word whose condition holds comes to what `f` says, one whose
condition fails only advances PC, a fetch that the flash controller holds waits (R347), and a fetch error raises FETCH. -/
def CoreRuns (i : Instr) (mine : Word → Bool) (f : Chip → Word → Nat → Did) : Prop :=
  ∀ (c d : Chip) (w : Word), coreReady c = true →
    (c.coreFetch = (none, d) → coreWaits d = true → Becomes i c d) ∧
    (c.coreFetch = (none, d) → coreWaits d = false → Becomes i c (d.coreTrap 6 0 (some c.core.pc.toNat) c.core.pc.toNat)) ∧
    (c.coreFetch = (some w, d) → wordUndefined w = false → mine w = true →
      (condOk d.core.flg d.core.gorl (Machine.fld w 31 28) = true → Becomes i c (Chip.coreDid w (f d w c.core.pc.toNat))) ∧
      (condOk d.core.flg d.core.gorl (Machine.fld w 31 28) = false → Becomes i c (Chip.coreDid 0 (.next d (c.core.pc.toNat + 4) none))))

/-- What an operation of class 0x0 or 0x1 comes to (R213, R214, R238): `f` takes A, B and C; D takes the result where `put`; under SF, and
always where no register is written, N and Z follow the result, and C and V what `f` says; a saturated result sets SV. -/
def aluDid (put : Bool) (f : Nat → Nat → Nat → AluOut) (d : Chip) (w : Word) (pc : Nat) : Did :=
  let o := f (coreG d (wA w)) (aluB d w) (coreFlag d 29).toNat
  let d1 := if o.sv then d.setFlag 27 true else d
  let d2 := if put then d1.setG (wD w) o.r else d1
  .next (if aluSf w || !put then { d2 with core := { d2.core with flg := nzcv d2.core.flg o.r o.c o.v } } else d2) (pc + 4) none

/-- What an operation of class 0x6 comes to (R238, R241, R244): `f` takes A and B and says the result and whether it divides by zero. -/
def mulDid (f : Nat → Nat → AluOut × Bool) (d : Chip) (w : Word) (pc : Nat) : Did :=
  let o := f (coreG d (wA w)) (coreG d (wB w))
  let d1 := (if o.2 then d.setFlag 25 true else d).setG (wD w) o.1.r
  .next (if bitOf w 7 then { d1 with core := { d1.core with flg := nzcv d1.core.flg o.1.r none o.1.v } } else d1) (pc + 4) none

/-- What an operation of class 0x7 comes to (R235, R245, R250): its flags are ORed into FPSR.FLAGS; without a trapped flag `f` takes effect,
with one FPTRAP is taken and nothing else is written. -/
def fpDid (f : Chip → Word → FpRound → FpFlags × (Chip → Chip)) (d : Chip) (w : Word) (pc : Nat) : Did :=
  let o := f d w (fpRoundOf (Machine.fld d.core.fpsr 17 16))
  let bits := fpFlagBits o.1
  let d1 := { d with core := { d.core with fpsr := d.core.fpsr ||| BitVec.ofNat 32 bits } }
  if bits &&& Machine.fld d.core.fpsr 12 8 = 0 then .next (o.2 d1) (pc + 4) none else .trap d1 7 bits none pc

/-- A binary32 operation on A, B and D that writes D. -/
def fpToD (f : Nat → Nat → Nat → FpRound → Nat × FpFlags) (d : Chip) (w : Word) (m : FpRound) : FpFlags × (Chip → Chip) :=
  let r := f (coreG d (wA w)) (coreG d (wB w)) (coreG d (wD w)) m
  (r.2, fun x => x.setG (wD w) r.1)

/-- What DADD and DSUB come to (R251, R252): `f` takes the values of the eight digits. -/
def bcdDid (f : Nat → Nat → Nat × Bool) (d : Chip) (w : Word) (pc : Nat) : Did :=
  let a := coreG d (wA w)
  let b := coreG d (wB w)
  if bcdOk a && bcdOk b then
    let r := f (bcdValue a) (bcdValue b)
    let d1 := d.setG (wD w) (bcdOf r.1)
    .next { d1 with core := { d1.core with
      flg := Machine.setFld d1.core.flg 31 28 ((decide (r.1 = 0)).toNat * 4 + r.2.toNat * 2) } } (pc + 4) none
  else .next (d.setFlag 26 true) (pc + 4) none

/-- The arguments that a command of mailbox channel `b` takes (R349). -/
def sealArgs (c : Chip) (b : Bool) : List Nat := (List.range 8).map (fun i => (c.reg (boxBase b + 0x10 + 4 * i)).toNat)

/-- The channel takes a command and begins its work (R349, R362, R364): its port is OPEN and the Seal Unit on, in BOOT or OPERATIONAL, not
decommissioned, the channel is not BUSY, and no stook holds the RSA engine or waits for it (R322). -/
def sealReady (c : Chip) (b : Bool) : Bool :=
  decide (portState c (regNode (boxBase b)) = 0) && c.isOn .sealUnit && (decide (sealState c = 1) || decide (sealState c = 2)) &&
    decide (lifecycle c ≠ 3) && !c.bit (boxBase b + 4) 31 && !rsaTaken c

/-- The channel is BUSY with a command whose work gave the answer `a` (R349): it completes with SEAL_CMD_COMPLETE. -/
def sealTaken (b : Bool) (op : Nat) (tag : Byte) (args : List Nat) (a : SealAnswer) : Chip :=
  (a.chip.setBit (boxBase b + 4) 31 true).setBox b (some
    { op := op, tag := tag.toNat, args := args, needs := a.needs, later := a.later
      answer := if a.waits || decide (a.later ≠ .nothing) then none else some (a.status, a.rsp) })

/-- A command's answer is shown on its channel, which is free again (R349): STATUS, TAG, the results, and EV18 on channel A. -/
def sealShown (d : Chip) (b : Bool) (m : Mailbox) (st : Nat) (rs : List Nat) : Chip :=
  let base := boxBase b
  let e := (((d.setBit (base + 4) 31 false).setBit (base + 4) 30 true).setFld (base + 4) 23 16 m.tag).setFld (base + 4) 7 0 st
  ((((List.range 8).zip (listFit 0 8 rs)).foldl (fun x p => x.setReg (base + 0x30 + 4 * p.1) (BitVec.ofNat 32 p.2)) e).setBox b none).raiseIf
    (!b) 18

/-- The header of the container that ARG0 and ARG1 of channel A name, and the chip after it is read. -/
def namedHeader (c : Chip) : List Byte × Chip :=
  let r := c.readHeader (argAddr (sealArgs c false) 0)
  (r.1.getD [], r.2)

/-- A package whose effect is `f` (R341, R350, R352): its header and its payload are checked in order, the first failure answers with
EV19, and a payload whose checks pass takes effect; where it succeeds, its completion does what `later` says. -/
def packageAnswer (c : Chip) (typ : Nat) (f : Chip → List Byte → Nat × Chip) (later : List Byte → SealLater) : SealAnswer :=
  let a := argAddr (sealArgs c false) 0
  let h := namedHeader c
  let l := h.2.packageStatus a h.1
  if l.1 ≠ 0 then { status := l.1, chip := l.2.raise 19 } else
  let p := l.2.readPayload a h.1
  match p.1 with
  | .bad st => { status := st, chip := p.2.raise 19 }
  | .good bytes =>
    if packageSerial p.2 typ bytes then
      let x := f p.2 bytes
      { status := x.1, later := if x.1 = 0 then later bytes else .nothing, chip := x.2 }
    else { status := stBadArg, chip := p.2 }

/-- What the Granary reads of the entry at the head of submission queue q (R158). -/
def sqRead (c : Chip) (q : Nat) : Option (List Byte) × Chip :=
  c.blockRead (ringEntry c (Reg.SQ_BASE_LO q) 16 (ringHead c (Reg.SQ_BASE_LO q))) 16
/-- Bytes i to i + n − 1 of that entry as a number. -/
def sqField (c : Chip) (q i n : Nat) : Nat := leNat ((((sqRead c q).1.getD []).drop i).take n)
/-- CTX_ID of that entry. -/
def sqCtx (c : Chip) (q : Nat) : Nat := natBits (sqField c q 0 4) 17 0
/-- ARG of that entry. -/
def sqArg (c : Chip) (q : Nat) : Nat := sqField c q 8 8
/-- It is the turn of queue q, and its entry can be read and has this OP (R159, R160). -/
def sqReady (c : Chip) (q op : Nat) : Bool :=
  decide (nextSq c = some q) && (sqRead c q).1.isSome && decide (sqField c q 3 1 = op)
/-- The chip once the entry is taken: HEAD has advanced and the turn is the next queue's. -/
def sqTaken (c : Chip) (q : Nat) : Chip :=
  let d := (sqRead c q).2.ringConsumed (Reg.SQ_BASE_LO q)
  { d with grn := { d.grn with sqNext := (q + 1) % 16 } }
/-- The entry is answered (R159, R160): EV48 for a refusal, and a status entry for a refusal, for NOTIFY and for FENCE. -/
def sqAnswered (c : Chip) (q op : Nat) (a : SqAnswer) : Chip :=
  let c1 := a.chip.raiseIf (decide (a.status ≠ 0)) 48
  if a.status ≠ 0 ∨ (sqField c q 0 4).testBit 23 ∨ op = 7 then
    (c1.cqPost q (statusEntry op (sqCtx c q) (sqField c q 4 4) a.status a.state)).2
  else c1

/-- A customer routine executes, and the next microword is `w` (R120, R133). -/
abbrev AtWord (c : Chip) (r : Routine) (w : Word) : Prop :=
  activeRoutine c = some r ∧ r.loaded = true ∧ 0xC0 ≤ insnOpc r.insn ∧ microwordAt c r.upc = some w

/-- What a vendor operation does in tile t (R46, R60, R75): its groups are read and checked, the results of every PE are written under the
mask, and C and T of those PEs end at 0. -/
def vendorTile (i : DWord) (v : VendorOp) (readsD : Bool) (f : DWord → PeIn → PeOut) (c : Chip) (t : Nat) : Chip :=
  let x := c.tile t
  let gs := v.srcs ++ (if readsD then [v.dst] else [])
  ((gs.foldl (fun c g => c.noteGroup t g) c).writeResults t (peMask i x) v.dst (tileResults x i v f)).endRegisters t (peMask i x)
/-- The routine of vendor opcode `opc` executes: where its groups keep the rule of its class (R78) and its TOUCH microwords, one for each
group, find every page (R131, R178), it does what `f` says in every PE of the bound tiles and ends; a group that breaks the rule takes
the fault with CAUSE 3 (R92); the pages that only DECLARE names are asked for first (R587); a page that is missing holds the array (R179). -/
def VendorRuns (i : Instr) (opc : Nat) (op : DWord → VendorOp) (readsD : Bool) (f : DWord → PeIn → PeOut) : Prop :=
  ∀ (c : Chip) (r : Routine), vendorRoutine c opc = some r →
    let v := op r.insn
    let q := (c.vendorDeclare r).vendorTouch r (opGroups v)
    (v.srcs.all (fun g => groupOk v.cls g v.dst) = true → q.1 = true →
      Becomes i c (((boundTiles q.2).foldl (vendorTile r.insn v readsD f) q.2).endRoutine)) ∧
    (v.srcs.all (fun g => groupOk v.cls g v.dst) = false → Becomes i c (c.seqFault r 3)) ∧
    (v.srcs.all (fun g => groupOk v.cls g v.dst) = true → q.1 = false → Becomes i c q.2)

/-- No access waits at the Object Dictionary Engine and no transaction is being applied (R432). -/
def odFree (c : Chip) : Bool := c.od.jobs.isEmpty && !c.bit Reg.ODE_STAT 30
/-- What a write in a session, or in none, brings with it (R429, R536). -/
def odBrings (c : Chip) (session : Option Nat) (udp : Bool) : OdRights :=
  let good := match session with
    | some i => c.su.sessions.any (fun e => e.1 == i && e.2.isOpen)
    | none => false
  { sealed := good, session := if good then session else none, udp := udp && good }
/-- The write passes the checks of R433, and it is made here and now: not staged (R440) and not a worker's (R456). -/
def odPasses (c : Chip) (r : OdRights) (index sub : Nat) (data : List Byte) : Bool :=
  decide (odWriteAbort c r index sub data = 0) && !stagesWrites c r && !inWorkerWindow c index
/-- A write of a firmware-backed object is logged where it is accepted (R431). -/
def odLogged (index sub : Nat) (x : Nat × Chip) : Nat × Chip := (x.1, if x.1 = 0 then x.2.odLog index sub else x.2)
/-- The access is answered: with its abort code and EV233, or without an error (R434). -/
def odDone (x : Nat × Chip) : Chip :=
  (x.2.respond { status := if x.1 = 0 then 0 else 1, data := x.1 }).raiseIf (decide (x.1 ≠ 0)) 233

end Sys2Proof.Machine
end

