-- ==== Sys2Proof/Certificates/Slice0/Obligations.lean ====
section
/-!
DEFINITION. What is claimed of the model: one proposition for each entry of `OBLIGATIONS.json`.
-/
open Sys2Proof Sys2Proof.Machine

/-- A step runs the command at the front of the queue. For every command and state, a step with the command at the front of the queue is
the command's meaning on the state with the rest of the queue. (R9) -/
def Obligations.StepRunsTheFrontCommand : Prop :=
  ∀ (i : Instr) (q : List Instr) (c : Chip),
    step { pending := i :: q, chip := c } = exec i { pending := q, chip := c }

/-- With no command waiting a step is one nanosecond (a choice of the model, log entry 3). With an empty queue a step answers a next state
one nanosecond later. Without a trim the Timebase has counted one nanosecond. (R418, R420) -/
def Obligations.EmptyQueuePassesANanosecond : Prop :=
  ∀ c : Chip,
    ∃ c' : Chip, step { pending := [], chip := c } = .next { pending := [], chip := c' } ∧ c'.ns = c.ns + 1 ∧
      (c.time.trim = 0 → c.time.frac = 0 → c'.time.now = c.time.now + 1)

/-- No command stops the block. Every command, with every operand, in every state, answers a next state with the same queue: no command
faults and none is refused. (R9, R11, R26) -/
def Obligations.EveryCommandAnswersANextState : Prop :=
  ∀ (i : Instr) (s : State), ∃ c' : Chip, exec i s = .next { pending := s.pending, chip := c' }

/-- After every step the interrupt lines follow the pending bits and routes. If a step answers a next state, then in that state each
Distaff line and each host line is pending exactly as the pending bits and the routes make it, and GORL is the GOR flag; so the
property is kept by every step from every state. (R483, R222) -/
def Obligations.EveryStepLeavesTheLinesSettled : Prop :=
  ∀ s s' : State, step s = .next s' → Settled s'.chip

/-- After reset the interrupt lines follow the pending bits and routes. The state after reset has the property that every step keeps.
(R483, R222) -/
def Obligations.ResetIsSettled : Prop :=
  Settled State.reset.chip

/-- After reset every register holds the reset value of the register map. After reset no command waits, memory lists nothing, only the mesh
domain of the switched domains is on, no event is pending, and every register but SPIN_STAT holds its reset value; SPIN_STAT holds it
with MANAGER as MGR_SEL straps it (a manager, log entry 2). (R8, R10, R33, R473, R531) -/
def Obligations.ResetRegistersReadTheirResetValues : Prop :=
  State.reset.pending = [] ∧ (∀ a : Nat, State.reset.chip.rd8 a = 0) ∧ State.reset.chip.domains = [.mesh] ∧
    (∀ a : Nat, a ≠ 0x21000000 → State.reset.chip.reg a = regReset a) ∧ State.reset.chip.reg 0x21000000 = 0x8F000001#32 ∧
    (∀ i : Fin 256, State.reset.chip.vecBit (Reg.EVT_DPENDk 0) i.val = false ∧
      State.reset.chip.vecBit (Reg.EVT_HPENDk 0) i.val = false)

/-- Raising an event sets both pending bits, and each view is cleared only by its own W1C write. For every event the raise sets its pending
bit in both views and changes no other pending bit; a W1C write to one view clears the written ones of that register and leaves the
other view and the other registers; raising a pending event changes no pending bit. (R482) -/
def Obligations.RaisingSetsBothPendingBits : Prop :=
  (∀ (c : Chip) (i : Fin 256), Pending (c.raiseOnly i.val) i.val) ∧
  (∀ (c : Chip) (i j : Fin 256), j ≠ i →
    (c.raiseOnly i.val).vecBit (Reg.EVT_DPENDk 0) j.val = c.vecBit (Reg.EVT_DPENDk 0) j.val ∧
    (c.raiseOnly i.val).vecBit (Reg.EVT_HPENDk 0) j.val = c.vecBit (Reg.EVT_HPENDk 0) j.val) ∧
  (∀ (c : Chip) (host : Bool) (k : Fin 8) (v : Word) (q : List Instr), nclkRuns c = true → ∃ c' : Chip,
    exec (.evtPendClear host k v) { pending := q, chip := c } = .next { pending := q, chip := c' } ∧
    (∀ i : Fin 256,
      c'.vecBit (Reg.EVT_DPENDk 0) i.val =
        (c.vecBit (Reg.EVT_DPENDk 0) i.val && (host || decide (i.val / 32 ≠ k.val) || !bitOf v (i.val % 32))) ∧
      c'.vecBit (Reg.EVT_HPENDk 0) i.val =
        (c.vecBit (Reg.EVT_HPENDk 0) i.val && (!host || decide (i.val / 32 ≠ k.val) || !bitOf v (i.val % 32)))))

/-- A write of memory is read back, leaves every other byte, and keeps the canonical form. Writing a byte makes it read so, leaves every
other address reading as before, and keeps memory in its one canonical form; writing bytes in a row does the same for the whole run.
(R26) -/
def Obligations.MemoryKeepsTheCanonicalForm : Prop :=
  (∀ (c : Chip) (a : Nat) (v : Byte), (c.wr8 a v).rd8 a = v) ∧
  (∀ (c : Chip) (a b : Nat) (v : Byte), b ≠ a → (c.wr8 a v).rd8 b = c.rd8 b) ∧
  (∀ (c : Chip) (a : Nat) (bs : List Byte), c.memWf = true → (c.wrBytes a bs).memWf = true) ∧
  (∀ (c : Chip) (a : Nat) (bs : List Byte), (c.wrBytes a bs).rdBytes a bs.length = bs) ∧
  (∀ (c : Chip) (a b : Nat) (bs : List Byte), (b < a ∨ a + bs.length ≤ b) → (c.wrBytes a bs).rd8 b = c.rd8 b)

/-- A register holds what is stored in it, and storing leaves every other register. Storing a register makes it hold the value, storing a
field sets that field alone, and every other register keeps its value; a bus write of a register with plain access codes sets its RW
bits, clears W1C bits written 1, sets W1S bits written 1 and leaves every other bit. (R8, R9, R10) -/
def Obligations.RegisterWriteIsReadBack : Prop :=
  (∀ (c : Chip) (a : Nat) (v : Word), (c.setReg a v).reg a = v) ∧
  (∀ (c : Chip) (a b : Nat) (v : Word), b ≠ a → (c.setReg a v).reg b = c.reg b) ∧
  (∀ (c : Chip) (a i j : Nat) (v : Bool), i < 32 → j < 32 →
    (c.setBit a i v).bit a j = if j = i then v else c.bit a j) ∧
  (∀ (r : RegRow) (old data : Word) (i : Nat), i < 32 → r.w1c.testBit i = false → r.w1s.testBit i = false →
    bitOf (rowWrite r old data) i = if (r.rw.testBit i || r.wo.testBit i) then bitOf data i else bitOf old i) ∧
  (∀ (r : RegRow) (old data : Word) (i : Nat), i < 32 → r.rw.testBit i = false → r.wo.testBit i = false →
    bitOf (rowWrite r old data) i =
      ((bitOf old i && !(r.w1c.testBit i && bitOf data i)) || (r.w1s.testBit i && bitOf data i)))

/-- The time commands complete. An edge or an adjustment of the source in use steps the Timebase where the offset reaches the step
threshold and trims it else; a TAG other than 2 is ignored; a locked source that misses its timeout leaves HOLDOVER; the last instant
wraps to 0 and sets WRAPPED; a read of TIME_NOW_LO returns the lower half of the Timebase and copies the upper half; a lost crystal
raises EV10. (R418, R419, R420, R421, R424, R479) -/
def Obligations.TimeCommandsComplete : Prop :=
  (∀ (c : Chip),
    let d : Chip := { c with time := { c.time with last := mapSet 0 c.time.last 1 (c.ns + 1) } }
    let e : Int := (c.time.now.toNat : Int) - (ppsInstant c : Int)
    followsManager c = false → timeActive c = 1 → sourceUsed d 1 = true → (c.reg Reg.TIME_STEP_TH).toNat * 1000 ≤ e.natAbs →
    Becomes (.ppsEdge) c
      (d.timeStepBy e)) ∧
  (∀ (c : Chip),
    let d : Chip := { c with time := { c.time with last := mapSet 0 c.time.last 1 (c.ns + 1) } }
    let e : Int := (c.time.now.toNat : Int) - (ppsInstant c : Int)
    followsManager c = false → timeActive c = 1 → sourceUsed d 1 = true → e.natAbs < (c.reg Reg.TIME_STEP_TH).toNat * 1000 →
    Becomes (.ppsEdge) c
      (d.timeTrim 1 e)) ∧
  (∀ (c : Chip),
    let d : Chip := c.setFld Reg.TIME_ADJCTL 2 1 2
    Becomes (.timeAdjGo 2) c
      (d.timeUpdate 2 (timeAdj d))) ∧
  (∀ (c : Chip) (tag : BitVec 2),
    tag ≠ 2 →
    Becomes (.timeAdjGo tag) c
      (c)) ∧
  (∀ (c : Chip),
    timeState c = 2 → followsManager c = false → sourceFresh c (timeActive c) = false →
    Becomes (.timeSourceTimeout) c
      ({ c.timeEnter 3 with time := { c.time with good := 0 } })) ∧
  (∀ (c : Chip),
    c.time.now.toNat = 2 ^ 64 - 1 →
    Becomes (.timebaseWrap) c
      ({ c.setBit Reg.TIME_STAT 26 true with time := { c.time with now := 0 } })) ∧
  (∀ (c : Chip),
    Becomes (.timeNowRead) c
      ((c.setReg Reg.TIME_NOW_HI (BitVec.ofNat 32 (c.time.now.toNat / 2 ^ 32))).respond (respOk (c.time.now.toNat % 2 ^ 32)))) ∧
  (∀ (c : Chip),
    c.pow.xtalLost = false →
    Becomes (.xtalFail) c
      (Chip.raise { c with pow := { c.pow with xtalLost := true } } 10))

/-- The trace and watchdog commands complete. A stimulus write by the core or a port of level 1 with room creates a packet of its size,
port, initiator and time, one for a full port is counted lost or has no response until it is in, as the port's BLOCK bit says, and with
the sink off it is discarded; at level 0 it is refused; the Reel window returns the word at RD and WIN3 advances it; a datagram is sent
1 ms after its first packet; enabling the watchdog starts the count from TIMEOUT, the kick value reloads it and any other is ignored;
it warns once at WARN with EV11; at 0 it sets WDRESET, in a halt HALTRESET too, which is counted, and starts the capsule. (R534, R546,
R547, R552, R553, R554, R555, R556, R378) -/
def Obligations.TraceAndWatchdogCommandsComplete : Prop :=
  (∀ (c : Chip) (p : Fin 32) (size : Fin 3) (data : Word) (port : Option (Fin 3)),
    portRefused c port (0x700 + 4 * p.val) true = false → traceSink c ≠ 0 → stimCount c p.val < 16 →
    c.trace.held.any (fun x => decide (x.src = p.val)) = false →
    Becomes (.stimWrite p size data port) c
      ((c.traceAdd ({ typ := 1, src := p.val, size := 2 ^ size.val, flags := port.isSome.toNat, data := data.toNat % 2 ^ (8 * 2 ^ size.val), time := c.tai })).respond {})) ∧
  (∀ (c : Chip) (p : Fin 32) (size : Fin 3) (data : Word) (port : Option (Fin 3)),
    portRefused c port (0x700 + 4 * p.val) true = false → traceSink c ≠ 0 → 16 ≤ stimCount c p.val →
    c.bit Reg.DBG_STIM_BLOCK p.val = true →
    Becomes (.stimWrite p size data port) c
      (Chip.respond (if port.isSome then { c with trace := { c.trace with held := c.trace.held ++ [{ typ := 1, src := p.val, size := 2 ^ size.val, flags := port.isSome.toNat, data := data.toNat % 2 ^ (8 * 2 ^ size.val), time := c.tai }] } } else c) respWait)) ∧
  (∀ (c : Chip) (p : Fin 32) (size : Fin 3) (data : Word) (port : Option (Fin 3)),
    portRefused c port (0x700 + 4 * p.val) true = false → traceSink c ≠ 0 → 16 ≤ stimCount c p.val →
    c.bit Reg.DBG_STIM_BLOCK p.val = false →
    Becomes (.stimWrite p size data port) c
      (Chip.respond { c with trace := { c.trace with lost := c.trace.lost + 1 } } {})) ∧
  (∀ (c : Chip) (p : Fin 32) (size : Fin 3) (data : Word) (port : Option (Fin 3)),
    portRefused c port (0x700 + 4 * p.val) true = false → traceSink c = 0 →
    Becomes (.stimWrite p size data port) c
      (c.respond {})) ∧
  (∀ (c : Chip) (p : Fin 32) (size : Fin 3) (data : Word) (q : Fin 3),
    portLevel c q.val < dbgLevel (0x700 + 4 * p.val) true →
    Becomes (.stimWrite p size data (some q)) c
      (c.respond (respErr 2))) ∧
  (∀ (c : Chip) (w : Fin 4) (port : Option (Fin 3)),
    w ≠ 3 → portRefused c port (0x800 + 4 * w.val) false = false →
    Becomes (.reelWinRead (w, port)) c
      (c.respond (respOk (reelWord c w.val)))) ∧
  (∀ (c : Chip) (port : Option (Fin 3)),
    portRefused c port 0x80C false = false →
    Becomes (.reelWinRead (3, port)) c
      ((c.setFld Reg.DBG_REEL_RD 14 0 (c.fld Reg.DBG_REEL_RD 14 0 + 1)).respond (respOk (reelWord c 3)))) ∧
  (∀ (c : Chip) (w : Fin 4) (q : Fin 3),
    portLevel c q.val < dbgLevel (0x800 + 4 * w.val) false →
    Becomes (.reelWinRead (w, some q)) c
      (c.respond (respErr 2))) ∧
  (∀ (c : Chip),
    c.trace.dgram ≠ [] → c.trace.dgramAt + 1000000 ≤ c.ns →
    Becomes (.traceDatagramTimeout) c
      ({ c with trace := { c.trace with dgram := [], dseq := (c.trace.dseq + 1) % 2 ^ 32, sent := c.trace.sent ++ [(c.trace.dseq, c.trace.dgram)] } })) ∧
  (∀ (c : Chip) (freeze : Bool),
    c.bit Reg.WDT_CTL 0 = false →
    Becomes (.wdtEnable freeze) c
      (Chip.wdtFollow { (c.setBit Reg.WDT_CTL 1 freeze).setBit Reg.WDT_CTL 0 true with wdt := { held := some (wdtTimeout c) } } false)) ∧
  (∀ (c : Chip),
    Becomes (.wdtKick 0x5A3C) c
      (Chip.wdtFollow { c with wdt := { expires := none, held := some (wdtTimeout c), warned := false } } false)) ∧
  (∀ (c : Chip) (v : Word),
    v ≠ 0x5A3C →
    Becomes (.wdtKick v) c
      (c)) ∧
  (∀ (c : Chip),
    c.wdt.expires.isSome = true → c.wdt.warned = false → 0 < c.fld Reg.WDT_WARN 19 0 →
    wdtLeft c ≤ c.fld Reg.WDT_WARN 19 0 * 1000000 →
    Becomes (.wdtWarn) c
      (Chip.raise { c with wdt := { c.wdt with warned := true } } 11)) ∧
  (∀ (c : Chip),
    c.wdt.expires.isSome = true → wdtLeft c = 0 → c.silo.capsule = none → c.pow.dormant = false →
    c.bit Reg.SYS_DCORE 29 = false →
    Becomes (.wdtExpiry) c
      ((c.setBit Reg.WDT_STAT 31 true).capsuleStart 2)) ∧
  (∀ (c : Chip),
    c.wdt.expires.isSome = true → wdtLeft c = 0 → c.silo.capsule = none → c.pow.dormant = false →
    c.bit Reg.SYS_DCORE 29 = true →
    Becomes (.wdtExpiry) c
      (((((c.setBit Reg.WDT_STAT 31 true).setBit Reg.WDT_STAT 30 true).lifeAdd 7 1).capsuleStart 2)))

/-- The Spindle commands complete. Only links that face each other train: the trained link is UP with its PEER, raises its event and asks
for its node's drain, and the devices reached through it are those its peer reports; a placed worker hears the manager over its
upstream link; a link going down raises its event, is counted in the LIFE record and asks for its node's drain; a replay counts and the
sixteenth of one frame takes the link down; an invalid map is replaced by device 0 alone with EV230; a device of the map not reached
after 500 ms is marked absent; a worker without a place after 1 s takes the boot-failure path unless step 3 of its boot chain fails; a
read of SPIN_LINKl returns and clears REPLAYS. (R515, R516, R517, R519, R521, R531, R345) -/
def Obligations.SpindleCommandsComplete : Prop :=
  (∀ (c : Chip) (l : Fin 4) (r : PeerReport),
    let t : Chip := Chip.place ((Chip.raise (Chip.gangPeer { ((c.pinPort (spindleNode l.val)).setBit (Reg.SPIN_LINKl l.val) 31 true).setFld (Reg.SPIN_LINKl l.val) 27 24 r.device.val with spin := { (c.pinPort (spindleNode l.val)).spin with inRow := mapSet 0 (c.pinPort (spindleNode l.val)).spin.inRow l.val 0 } } l.val r) (224 + l.val)).askDrain (spindleNode l.val) 0)
    let via : Nat := viaLink t l.val
    c.bit Reg.SPIN_CTL l.val = true → c.isOn (.spindle l.val) = true → r.side.val = facing l.val → linkUp c l.val = false →
    isManager t = true →
    Becomes (.linkUp l r) c
      (r.sent.foldl Chip.gangHear (t.reachSet ((reachMask t &&& (65535 ^^^ via)) ||| ((r.reach.toNat ||| 2 ^ r.device.val) &&& via))))) ∧
  (∀ (c : Chip) (l : Fin 4) (r : PeerReport),
    let t : Chip := Chip.place ((Chip.raise (Chip.gangPeer { ((c.pinPort (spindleNode l.val)).setBit (Reg.SPIN_LINKl l.val) 31 true).setFld (Reg.SPIN_LINKl l.val) 27 24 r.device.val with spin := { (c.pinPort (spindleNode l.val)).spin with inRow := mapSet 0 (c.pinPort (spindleNode l.val)).spin.inRow l.val 0 } } l.val r) (224 + l.val)).askDrain (spindleNode l.val) 0)
    let via : Nat := viaLink t l.val
    let d : Chip := { t with spin := { t.spin with far := (t.spin.far &&& (65535 ^^^ via)) ||| ((r.reach.toNat ||| 2 ^ r.device.val) &&& via) } }
    c.bit Reg.SPIN_CTL l.val = true → c.isOn (.spindle l.val) = true → r.side.val = facing l.val → linkUp c l.val = false →
    isManager t = false → upstream d = some l.val →
    Becomes (.linkUp l r) c
      (d.hearManager r)) ∧
  (∀ (c : Chip) (l : Fin 4),
    let t : Chip := Chip.askDrain { ((((c.pinPort (spindleNode l.val)).setBit (Reg.SPIN_LINKl l.val) 31 false).raise (224 + l.val)).lifeAdd 28 1) with spin := { c.spin with inRow := mapSet 0 c.spin.inRow l.val 0, peers := mapErase l.val c.spin.peers } } (spindleNode l.val) 0
    let via : Nat := viaLink c l.val
    linkUp c l.val = true → isManager t = true →
    Becomes (.linkDown l) c
      (t.reachSet (reachMask t &&& (65535 ^^^ via)))) ∧
  (∀ (c : Chip) (l : Fin 4),
    let t : Chip := Chip.askDrain { ((((c.pinPort (spindleNode l.val)).setBit (Reg.SPIN_LINKl l.val) 31 false).raise (224 + l.val)).lifeAdd 28 1) with spin := { c.spin with inRow := mapSet 0 c.spin.inRow l.val 0, peers := mapErase l.val c.spin.peers } } (spindleNode l.val) 0
    linkUp c l.val = true → (upstream c).isSome = true → upstream c ≠ some l.val → isManager t = false →
    Becomes (.linkDown l) c
      (Chip.place { t with spin := { t.spin with far := t.spin.far &&& (65535 ^^^ viaLink c l.val) } })) ∧
  (∀ (c : Chip) (l : Fin 4),
    linkUp c l.val = true →
    Becomes (.frameReplay l false) c
      ({ (c.countFld (Reg.SPIN_LINKl l.val) 15 0 1).raiseIf (decide (c.fld (Reg.SPIN_LINKl l.val) 15 0 = 0)) 228 with spin := { c.spin with inRow := mapSet 0 c.spin.inRow l.val 1 } })) ∧
  (∀ (c : Chip) (l : Fin 4),
    linkUp c l.val = true → mapGet 0 c.spin.inRow l.val = 15 →
    Becomes (.frameReplay l true) c
      (Chip.linkLose { (c.countFld (Reg.SPIN_LINKl l.val) 15 0 1).raiseIf (decide (c.fld (Reg.SPIN_LINKl l.val) 15 0 = 0)) 228 with spin := { c.spin with inRow := mapSet 0 c.spin.inRow l.val 16 } } l.val)) ∧
  (∀ (c : Chip),
    isManager c = true → c.spin.mapOk = none → mapValid (odNat c 0x2F01 1) = false →
    Becomes (.systemMapCheck) c
      (((Chip.setMap { c with spin := { c.spin with mapOk := some false, gang := decide (odNat c 0x2F01 2 = 1) } } 1).setBit Reg.SPIN_STAT 28 true).raise 230)) ∧
  (∀ (c : Chip),
    isManager c = true → c.spin.mapOk = none → mapValid (odNat c 0x2F01 1) = true →
    Becomes (.systemMapCheck) c
      ((Chip.setMap { c with spin := { c.spin with mapOk := some true, gang := decide (odNat c 0x2F01 2 = 1) } } (odNat c 0x2F01 1)).gangTry)) ∧
  (∀ (c : Chip) (d : Fin 16),
    isManager c = true → c.spin.map.testBit d.val = true → (reachMask c).testBit d.val = false →
    c.spin.absent.testBit d.val = false → c.spin.since + 500000000 ≤ c.ns →
    Becomes (.workerReachTimeout d) c
      (Chip.raise { c with spin := { c.spin with absent := c.spin.absent ||| 2 ^ d.val } } 230)) ∧
  (∀ (c : Chip),
    let d : Chip := c.bootStep3
    isManager c = false → c.isOn .sealUnit = true → bootOpen c = true → upstream c = none →
    c.su.waitAt.getD c.spin.since + 1000000000 ≤ c.ns → sealState d ≠ 3 →
    Becomes (.workerBootTimeout) c
      (((d.setBit Reg.SEAL_STATE 24 true).raise 19).sealError 8)) ∧
  (∀ (c : Chip),
    isManager c = false → c.isOn .sealUnit = true → bootOpen c = true → upstream c = none →
    c.su.waitAt.getD c.spin.since + 1000000000 ≤ c.ns → sealState c.bootStep3 = 3 →
    Becomes (.workerBootTimeout) c
      (c.bootStep3)) ∧
  (∀ (c : Chip) (l : Fin 4),
    Becomes (.linkStatRead l) c
      ((c.respond (respOk (linkWord c l.val))).setFld (Reg.SPIN_LINKl l.val) 15 0 0))

/-- The commands of the stacked DRAM complete. Once a start is in BOOT with VDD2 and VPP in range and INIT_DONE 0, training ends with each
failed channel marked with EV118, every other loft zeroed and INIT_DONE set; the patrol scrub, SCRUB_H hours after the last pass,
corrects a word with a single-bit error and raises EV117 when every loft has completed the pass; a refresh changes nothing; a
temperature sample sets TEMP and RATE with EV114 to EV116; self-refresh is entered once no request has come for SR_IDLE µs, and left
when one waits; a quadrant switches on zeroed, switches off only as R205 allows, and is refused with EV119 else; a read of DRC_LSTATt
returns and clears CE_COUNT. (R200, R201, R202, R203, R204, R205, R206, R476) -/
def Obligations.DramCommandsComplete : Prop :=
  (∀ (c : Chip) (failed : List (Fin 256)),
    let bad : List Nat := (List.range 256).filter (fun t => failed.any (fun u => decide (u.val = t)) || !c.isOn (.quadrant (quadrantOf t)))
    let d : Chip := bad.foldl (fun c t => ((c.setBit (Reg.DRC_LSTATt t) 30 true).setBit Reg.DRC_STAT 30 true).raise 118) c
    c.pow.started = true → c.fld Reg.SYS_MODE 15 8 = 1 → c.bit Reg.SYS_SUPPLY 3 = false → c.bit Reg.SYS_SUPPLY 4 = false →
    c.bit Reg.DRC_STAT 31 = false →
    Becomes (.dramInitDone failed) c
      ((List.range 4).foldl Chip.quadrantUsed ((d.zeroLofts (fun t => !d.bit (Reg.DRC_LSTATt t) 30)).setBit Reg.DRC_STAT 31 true))) ∧
  (∀ (c : Chip) (t : Fin 256) (a : Nat),
    let d : Chip := (c.dramCe t.val).setEcc a .good
    mayScrub c t.val = true → loftOf a = some t.val → c.ecc = [(a, Ecc.single)] → d.dram.scrubbed.contains t.val = false →
    (List.range 256).all (fun u => retired d u || (d.dram.scrubbed ++ [t.val]).contains u) = false →
    Becomes (.patrolScrub t) c
      ({ d with dram := { d.dram with scrubbed := d.dram.scrubbed ++ [t.val], passAt := mapSet 0 d.dram.passAt t.val d.ns } })) ∧
  (∀ (c : Chip) (t : Fin 256),
    mayScrub c t.val = true → c.ecc = [] →
    (List.range 256).all (fun u => retired c u || decide (u = t.val) || c.dram.scrubbed.contains u) = true →
    Becomes (.patrolScrub t) c
      (Chip.raise { c with dram := { c.dram with scrubbed := [], passAt := mapSet 0 c.dram.passAt t.val c.ns } } 117)) ∧
  (∀ (c : Chip),
    Becomes (.refresh) c
      (c)) ∧
  (∀ (c : Chip) (q : Fin 4) (temp : BitVec 12),
    c.isOn (.quadrant q.val) = true → c.fld (Reg.DRC_QTEMPq q.val) 13 12 = 0 → 342 ≤ toSigned 12 temp.toNat →
    toSigned 12 temp.toNat ≤ 380 →
    Becomes (.dramTempSample q temp) c
      ((c.setReg (Reg.DRC_QTEMPq q.val) (BitVec.ofNat 32 (2 ^ 12 + temp.toNat))).raise 114)) ∧
  (∀ (c : Chip) (q : Fin 4) (temp : BitVec 12),
    c.isOn (.quadrant q.val) = true → c.fld (Reg.DRC_QTEMPq q.val) 13 12 = 2 → 372 < toSigned 12 temp.toNat →
    toSigned 12 temp.toNat ≤ 420 →
    Becomes (.dramTempSample q temp) c
      (c.setReg (Reg.DRC_QTEMPq q.val) (BitVec.ofNat 32 (2 * 2 ^ 12 + temp.toNat)))) ∧
  (∀ (c : Chip) (q : Fin 4),
    c.isOn (.quadrant q.val) = true → c.fld Reg.DRC_CTL 15 8 ≠ 0 → 3 ≤ tolBound c [1, 4] →
    mapGet 0 c.dram.usedAt q.val + 1000 * c.fld Reg.DRC_CTL 15 8 ≤ c.ns →
    Becomes (.selfRefreshEntry q) c
      (c.setBit Reg.DRC_STAT (4 + q.val) true)) ∧
  (∀ (c : Chip) (q : Fin 4),
    requestWaits c q.val = true →
    Becomes (.selfRefreshExit q) c
      ((c.setBit Reg.DRC_STAT (4 + q.val) false).quadrantUsed q.val)) ∧
  (∀ (c : Chip) (q : Fin 4),
    requestWaits c q.val = false →
    Becomes (.selfRefreshExit q) c
      (c)) ∧
  (∀ (c : Chip) (q : Fin 4),
    c.isOn (.quadrant q.val) = false → c.pow.dormant = false →
    Becomes (.quadrantOnReq q) c
      ((((c.zeroLofts (fun t => decide (quadrantOf t = q.val))).switchOn (.quadrant q.val)).setReg (Reg.DRC_QTEMPq q.val) 0x80000000).quadrantUsed q.val)) ∧
  (∀ (c : Chip) (q : Fin 4),
    c.isOn (.quadrant q.val) = true → mayQuadrantOff c q.val = true →
    Becomes (.quadrantOffReq q) c
      (((c.zeroLofts (fun t => decide (quadrantOf t = q.val))).setBit Reg.DRC_STAT (4 + q.val) false).switchOff (.quadrant q.val))) ∧
  (∀ (c : Chip) (q : Fin 4),
    c.isOn (.quadrant q.val) = true → mayQuadrantOff c q.val = false →
    Becomes (.quadrantOffReq q) c
      (c.raise 119)) ∧
  (∀ (c : Chip) (t : Fin 256),
    Becomes (.lstatRead t) c
      ((c.respond (respOk (c.reg (Reg.DRC_LSTATt t.val)).toNat)).setFld (Reg.DRC_LSTATt t.val) 29 22 0))

/-- The drain and power-down commands complete. The oldest waiting drain starts when none runs; once its router's buffers are empty it is
applied, input resumes and held requests are delivered; after 4,096 ns EV96 is raised once; ABORT keeps the old state, abandons the
power-down it served and raises EV105; a change of DISABLE asks for a drain, and the four nodes of R271 ignore it; a domain in SLEEP
that owes and awaits nothing switches off; a tile that a held request woke is powered and in T1; NOC_PERR and NOC_DAT_CE read and
clear. (R268, R269, R270, R271, R274, R275) -/
def Obligations.DrainCommandsComplete : Prop :=
  (∀ (c : Chip) (d : Drain) (rest : List Drain),
    c.noc.drain = none → c.noc.drains = d :: rest →
    Becomes (.drainStart) c
      (Chip.showDrains { c with noc := { c.noc with drain := some { d with since := c.ns }, drains := rest } })) ∧
  (∀ (c : Chip) (d : Drain),
    c.noc.drain = some d → buffersEmpty c d.node = true →
    Becomes (.drainComplete) c
      (((((c.applyPort d.node d.goals).setNoc { (c.applyPort d.node d.goals).noc with drain := none }).showDrains.resumeInput d.node).releaseHeld d.node))) ∧
  (∀ (c : Chip) (d : Drain),
    c.noc.drain = some d → d.late = false → d.since + 4096 ≤ c.ns →
    Becomes (.drainLate) c
      ((Chip.setBit { c with noc := { c.noc with drain := some { d with late := true } } } Reg.NOC_STAT 2 true).raise 96)) ∧
  (∀ (c : Chip) (d : Drain),
    c.noc.drain = some d → d.goals.contains 1 = false →
    Becomes (.drainAbort) c
      (((Chip.showDrains { c with noc := { c.noc with drain := none } }).resumeInput d.node).raise 105)) ∧
  (∀ (c : Chip) (d : Drain),
    let x : Chip := (Chip.showDrains { c with noc := { c.noc with drain := none } }).resumeInput d.node
    c.noc.drain = some d → d.goals.contains 1 = true →
    Becomes (.drainAbort) c
      ((x.abandonDown d.node).raise 105)) ∧
  (∀ (c : Chip) (e : Fin 64) (v : Bool),
    hasPort (edgeNode e.val) = true → neverDisabled (edgeNode e.val) = false → c.bit (Reg.NOC_PORTe e.val) 0 = !v →
    Becomes (.portDisable e v) c
      ((c.setBit (Reg.NOC_PORTe e.val) 0 v).askDrain (edgeNode e.val) (if v then 2 else 4))) ∧
  (∀ (c : Chip) (e : Fin 64) (v : Bool),
    neverDisabled (edgeNode e.val) = true →
    Becomes (.portDisable e v) c
      (c)) ∧
  (∀ (c : Chip) (t : Fin 256) (st : Nat),
    c.pow.goingDown = [(.tileLogic t.val, st)] → powerPort c (tileNode t.val) = 1 → nothingOwed c (tileNode t.val) = true →
    c.noc.sleep.any (fun e => decide (e.1 = tileNode t.val)) = false →
    Becomes (.powerDownCommit (.tileLogic t.val)) c
      (Chip.tileDown { c with pow := { c.pow with goingDown := [] } } t.val st)) ∧
  (∀ (c : Chip) (k : Fin 4) (st : Nat),
    c.pow.goingDown = [(.packer k.val, st)] → powerPort c (32 * (k.val + 10)) = 1 →
    nothingOwed c (32 * (k.val + 10)) = true → c.noc.sleep.any (fun e => decide (e.1 = 32 * (k.val + 10))) = false →
    lanesNeed c (.packer k.val) = false →
    Becomes (.powerDownCommit (.packer k.val)) c
      (Chip.switchOff { c with pow := { c.pow with goingDown := [] } } (.packer k.val))) ∧
  (∀ (c : Chip) (t : Fin 256),
    c.isOn (.tileLogic t.val) = false → c.noc.sleep.any (fun e => decide (e.1 = tileNode t.val)) = true →
    Becomes (.tileExitDone t) c
      ((c.powerTile t.val).setTileState t.val 1)) ∧
  (∀ (c : Chip),
    Becomes (.perrRead) c
      ((c.respond (respOk (c.fld Reg.NOC_PERR 7 0))).setFld Reg.NOC_PERR 7 0 0)) ∧
  (∀ (c : Chip),
    Becomes (.datCeRead) c
      ((c.respond (respOk (c.fld Reg.NOC_DAT_CE 7 0))).setFld Reg.NOC_DAT_CE 7 0 0))

/-- The power, clock and throttling commands complete. The power controller takes an idle tile to its chosen state and the core PLL stops
and runs as its bound allows; a tolerance write keeps 20 bits; a domain that reports power-good is up, one that fails is switched off
with EV13; a lost PLL or reference raises EV8 or EV9 once, and a PLL relocks; every 100 µs the estimate is shown and kept; at 120 °C
ACLK stops with EV5, a tile at 105 °C lowers the point with EV4, and the stop ends at 110 °C in the lowest point. (R70, R182, R274,
R467, R475, R476, R477, R479, R481, R486, R572) -/
def Obligations.PowerCommandsComplete : Prop :=
  (∀ (c : Chip) (t : Fin 256),
    tileMayChoose c t.val = true →
    Becomes (.powerStateChoice (.tile t)) c
      (c.tileTo t.val (tileChoice c t.val))) ∧
  (∀ (c : Chip),
    17 ≤ tolBound c [2, 3, 5] → c.bit Reg.SYS_DCORE 30 = true →
    Becomes (.powerStateChoice .corePll) c
      ({ c with pow := { c.pow with stopped := c.pow.stopped.filter (fun x => decide (x ≠ 1)) ++ [1] } })) ∧
  (∀ (c : Chip),
    tolBound c [2, 3, 5] < 17 →
    Becomes (.powerStateChoice .corePll) c
      ({ c with pow := { c.pow with stopped := c.pow.stopped.filter (fun x => decide (x ≠ 1)) } })) ∧
  (∀ (c : Chip) (k : Fin 5) (data : Word),
    let d : Chip := c.setReg (Reg.SYS_TOL1 + 4 * k.val) (BitVec.ofNat 32 (data.toNat % 2 ^ 20))
    32 ≤ tolBound d [1, 3] → 3 ≤ tolBound d [1, 4] → 17 ≤ tolBound d [2, 3, 5] → 32 ≤ tolBound d [4] → 15 ≤ tolBound d [3] →
    Becomes (.toleranceWrite k data) c
      (d)) ∧
  (∀ (c : Chip) (data : Word),
    let d : Chip := c.setReg (Reg.SYS_TOL1 + 12) (BitVec.ofNat 32 (data.toNat % 2 ^ 20))
    3 ≤ tolBound d [1, 4] → 17 ≤ tolBound d [2, 3, 5] → tolBound d [4] < 32 → 15 ≤ tolBound d [3] → 32 ≤ tolBound d [1, 3] →
    Becomes (.toleranceWrite 3 data) c
      ({ d with pow := { d.pow with aspmL1 := false } })) ∧
  (∀ (c : Chip) (q : Fin 4),
    c.pow.dormant = false →
    Becomes (.domainPowerGood (.quadrant q.val)) c
      (c.quadrantOn q.val)) ∧
  (∀ (c : Chip) (t : Fin 256),
    c.pow.dormant = false →
    Becomes (.domainPowerGood (.tileLogic t.val)) c
      (c.exitTile t.val)) ∧
  (∀ (c : Chip) (p : Fin 8),
    c.pow.dormant = false →
    Becomes (.domainPowerGood (.capture p.val)) c
      (c.domainUp (.capture p.val))) ∧
  (∀ (c : Chip) (t : Fin 256),
    let d : Chip := c.tileDown t.val 3
    Becomes (.domainFail (.tileLogic t.val)) c
      (Chip.raise { d with pow := { d.pow with goingDown := d.pow.goingDown.filter (fun e => decide (e.1 ≠ .tileLogic t.val)) } } 13)) ∧
  (∀ (c : Chip),
    let d : Chip := c.switchOff .can
    Becomes (.domainFail .can) c
      (Chip.raise { d with pow := { d.pow with goingDown := d.pow.goingDown.filter (fun e => decide (e.1 ≠ .can)) } } 13)) ∧
  (∀ (c : Chip) (k : Fin 3),
    c.pow.unlocked.contains k.val = false →
    Becomes (.pllUnlock k) c
      (Chip.raise { c with pow := { c.pow with unlocked := c.pow.unlocked ++ [k.val] } } 8)) ∧
  (∀ (c : Chip) (k : Fin 3),
    Becomes (.pllRelock k) c
      ({ c with pow := { c.pow with unlocked := c.pow.unlocked.filter (fun x => decide (x ≠ k.val)) } })) ∧
  (∀ (c : Chip),
    c.pow.refLost = false →
    Becomes (.refLost) c
      (Chip.raise { c with pow := { c.pow with refLost := true } } 9)) ∧
  (∀ (c : Chip) (est : BitVec 16),
    c.pow.estAt + 100000 ≤ c.ns →
    Becomes (.powerEstimate est) c
      (Chip.setFld { c with pow := { c.pow with estAt := c.ns, powers := (est.toNat :: c.pow.powers).take 100 } } Reg.SYS_THR 15 0 est.toNat)) ∧
  (∀ (c : Chip),
    let d : Chip := c.thermWarn
    (freshTemps d).any (fun x => decide (480 ≤ x)) = true → c.bit Reg.SYS_THR 31 = false → d.bit Reg.SYS_THR 31 = false →
    Becomes (.throttleStep) c
      (Chip.raise { d.setBit Reg.SYS_THR 31 true with pow := { d.pow with throttled := true } } 5)) ∧
  (∀ (c : Chip),
    let d : Chip := c.thermWarn
    (freshTemps d).all (fun x => decide (x ≤ 440)) = true → d.bit Reg.SYS_THR 31 = true →
    Becomes (.throttleStep) c
      ({ ((d.setBit Reg.SYS_THR 31 false).setFld Reg.SYS_THR 25 24 3).setFld Reg.SYS_AVS 5 0 5 with pow := { d.pow with stepAt := d.ns } })) ∧
  (∀ (c : Chip),
    let d : Chip := c.thermWarn
    let x : Chip := (d.raiseIf (!d.pow.hot) 4).setBit Reg.SYS_THR 30 true
    (freshTemps d).any (fun x => decide (480 ≤ x)) = false → (freshTemps d).any (fun x => decide (420 ≤ x)) = true →
    d.bit Reg.SYS_THR 31 = false → ((d.pow.powers.take 10).foldl (· + ·) 0) ≤ powerCap d * (d.pow.powers.take 10).length →
    Becomes (.throttleStep) c
      (Chip.stepDown { x with pow := { x.pow with throttled := true, hot := true } }))

/-- The mode, trigger and wake commands complete. The end of the INCIDENT hold enters the return mode; an edge that an enabled trigger has
seen marks the sheaves of the stream mask and enters INCIDENT from SENTRY and ROUTE, restarts the hold in INCIDENT, and is ignored in
DEPOT and SERVICE; DORMANT entry goes step by step; in DORMANT each enabled wake source sets its cause bit and resets the machine; a
matching RTC alarm outside DORMANT raises EV15. (R452, R469, R471, R472) -/
def Obligations.ModeCommandsComplete : Prop :=
  (∀ (c : Chip),
    modeOf c = 3 → c.pow.incEnd ≤ c.ns →
    Becomes (.incidentHoldExpiry) c
      (c.enterMode (c.fld Reg.SYS_MODE 23 16))) ∧
  (∀ (c : Chip) (i : Fin 8) (falling : Bool),
    let d : Chip := { c with weave := { c.weave with edges := c.weave.edges.filter (fun e => decide (e ≠ (i.val, falling))) } }
    c.weave.edges.contains (i.val, falling) = true → phaseOf c = 0 → c.pow.dormStep = 0 → modeOf c = 1 ∨ modeOf c = 2 →
    Becomes (.incidentTrigger i falling) c
      (Chip.enterMode (d.markSheaves (fun st => (odNat c 0x3200 0x0B).testBit st) 2) 3)) ∧
  (∀ (c : Chip) (i : Fin 8) (falling : Bool),
    let d : Chip := { c with weave := { c.weave with edges := c.weave.edges.filter (fun e => decide (e ≠ (i.val, falling))) } }
    c.weave.edges.contains (i.val, falling) = true → phaseOf c = 0 → c.pow.dormStep = 0 → modeOf c = 3 →
    Becomes (.incidentTrigger i falling) c
      (Chip.startHold (d.markSheaves (fun st => (odNat c 0x3200 0x0B).testBit st) 2))) ∧
  (∀ (c : Chip) (i : Fin 8) (falling : Bool),
    let d : Chip := { c with weave := { c.weave with edges := c.weave.edges.filter (fun e => decide (e ≠ (i.val, falling))) } }
    c.weave.edges.contains (i.val, falling) = true → phaseOf c = 0 → c.pow.dormStep = 0 → modeOf c = 4 ∨ modeOf c = 5 →
    Becomes (.incidentTrigger i falling) c
      (d)) ∧
  (∀ (c : Chip),
    c.pow.dormant = false → c.silo.capsule = none → c.pow.dormStep = 1 → c.ev.sheaves = [] → c.silo.waiting = [] →
    sealTakes c = true →
    Becomes (.dormantEntry) c
      ({ c with ev := { c.ev with due := true, sysDue := true, dueNext := journaledNext c }, pow := { c.pow with dormStep := 2 } })) ∧
  (∀ (c : Chip),
    c.pow.dormant = false → c.silo.capsule = none → c.pow.dormStep = 2 →
    sealTakes c = false ∨ c.ev.due = false ∧ c.ev.signing = none → c.silo.waiting = [] →
    Becomes (.dormantEntry) c
      ({ c.swDisable with pow := { c.swDisable.pow with dormStep := 3 } })) ∧
  (∀ (c : Chip),
    let d : Chip := c.askProgress
    c.pow.dormant = false → c.silo.capsule = none → c.pow.dormStep = 3 → swState c ≤ 3 →
    Becomes (.dormantEntry) c
      ({ d with pow := { d.pow with dormStep := 4 } })) ∧
  (∀ (c : Chip),
    let d : Chip := (((c.setBit Reg.LIFE_SNAP 30 false).applyHeld).lifeFlush).enterMode 0
    c.pow.dormant = false → c.silo.capsule = none → c.pow.dormStep = 4 → c.silo.waiting = [] → c.pow.wakeDue = false →
    Becomes (.dormantEntry) c
      ({ d.keepOnly [] with wdt := {}, pow := { (d.keepOnly []).pow with dormant := true, pwrEn := false } })) ∧
  (∀ (c : Chip) (f : CanFrame) (rate : Fin 3),
    f.fd = false → f.ext = false → f.id = c.fld Reg.SYS_WAKE_CANID 10 0 →
    rate.val = Nat.min 2 (c.fld Reg.SYS_WAKE_CANID 13 12) → c.bit Reg.SYS_WAKE_EN 0 = true → c.pow.dormant = true →
    Becomes (.wakeCanFrame f rate) c
      ((c.setBit Reg.SYS_WAKE_CAUSE 0 true).resetAll)) ∧
  (∀ (c : Chip),
    c.bit Reg.SYS_WAKE_EN 1 = true → c.pow.dormant = true →
    Becomes (.ignWake) c
      ((c.setBit Reg.SYS_WAKE_CAUSE 1 true).resetAll)) ∧
  (∀ (c : Chip),
    c.bit Reg.SYS_WAKE_EN 1 = true → c.pow.dormant = false → c.pow.dormStep ≠ 0 →
    Becomes (.ignWake) c
      ({ c.setBit Reg.SYS_WAKE_CAUSE 1 true with pow := { c.pow with wakeDue := true } })) ∧
  (∀ (c : Chip),
    let alarm : Nat := (c.reg Reg.SYS_RTC_ALARM_LO).toNat + c.fld Reg.SYS_RTC_ALARM_HI 7 0 * 2 ^ 32
    alarm ≠ 0 → c.tai.toNat / 1000000000 = alarm → c.pow.dormant = true → c.bit Reg.SYS_WAKE_EN 2 = true →
    Becomes (.rtcAlarm) c
      ((c.setBit Reg.SYS_WAKE_CAUSE 2 true).resetAll)) ∧
  (∀ (c : Chip),
    let alarm : Nat := (c.reg Reg.SYS_RTC_ALARM_LO).toNat + c.fld Reg.SYS_RTC_ALARM_HI 7 0 * 2 ^ 32
    alarm ≠ 0 → c.tai.toNat / 1000000000 = alarm → c.pow.dormant = false → c.pow.dormStep = 0 →
    Becomes (.rtcAlarm) c
      (c.raise 15)) ∧
  (∀ (c : Chip) (falling : Bool),
    falling = c.bit Reg.SYS_WAKE_EN 8 → c.bit Reg.SYS_WAKE_EN 3 = true → c.pow.dormant = true →
    Becomes (.accelWake falling) c
      ((c.setBit Reg.SYS_WAKE_CAUSE 3 true).resetAll))

/-- The commands of the capture ports complete. On a receiver that is on, a frame start of an enabled stream first ends a frame in progress
and is counted; where its configuration keeps the limits, the Seal Unit takes frames, its slot is free and the Granary reserves its
descriptors, the frame is opened in that slot with its contexts' IDs, ACTIVE set and LINE 0; a configuration that breaks a limit drops
it with EV152, and a slot that is held, a Seal Unit that takes nothing or a refused reservation drops it, which is counted, with EV128
and on. A corrected header is counted and an uncorrectable one discards the packet. A line is counted and kept, its pixels cut to
WIDTH, and complete groups are written unless the writes are held; a port that holds 32 lines of the stream loses it with OVF and
EV153; a wrong data type is ignored, and a line past HEIGHT marks the length error. A frame end ends the frame. The contexts of a
complete band are created. Disabling a stream truncates its frame in progress, whose bands are completed, and stops its sheaf. A frame
that is through gives its slot back, but not while a journal write waits for space. CAP_PSTATp reads and clears its counts. (R17, R18,
R278, R279, R282, R284, R285, R287, R298, R301, R375) -/
def Obligations.CaptureCommandsComplete : Prop :=
  (∀ (c : Chip) (p : Fin 8) (vc : Fin 16) (st : Nat),
    let d : Chip := c.setBit (Reg.CAP_PSTATp p.val) 31 true
    let x : Chip := (d.endFrame st false).lifeAdd 8 1
    let cfg : List Nat := sampledCfg x st
    let k : CapStream := capStream x st
    let e : Chip := (x.setCapStream st { k with started := k.started + 1 }).setFld (Reg.CAP_SPAGE st) 27 16 (capP st cfg)
    let slot : Nat := k.next % capCfg cfg 0 21 18
    let r : Option (List (Nat × Nat)) × Chip := e.reserveFrame st cfg
    let f : CapFrame := { stream := st, frame := k.started % 2 ^ 32, slot := slot, cfg := cfg, startTai := e.tai.toNat, flags := flagsNow e, ids := r.1.getD [] }
    let y : Chip := r.2.setCapStream st { started := k.started + 1, next := slot + 1 }
    portOn c p.val = true → streamOfVc d p.val vc.val true = some st → capCfgOk e st cfg = true → sealTakes e = true →
    e.cap.frames.any (fun f => decide (f.stream = st) && decide (f.slot = slot)) = false → r.1.isSome = true →
    Becomes (.frameStart p vc .good) c
      (((Chip.setBit { y with cap := { y.cap with frames := y.cap.frames ++ [f] } } (Reg.CAP_SSTAT st) 31 true).setFld (Reg.CAP_SSTAT st) 11 0 0))) ∧
  (∀ (c : Chip) (p : Fin 8) (vc : Fin 16) (st : Nat),
    let d : Chip := c.setBit (Reg.CAP_PSTATp p.val) 31 true
    let x : Chip := (d.endFrame st false).lifeAdd 8 1
    let cfg : List Nat := sampledCfg x st
    let k : CapStream := capStream x st
    let e : Chip := (x.setCapStream st { k with started := k.started + 1 }).setFld (Reg.CAP_SPAGE st) 27 16 (capP st cfg)
    portOn c p.val = true → streamOfVc d p.val vc.val true = some st → capCfgOk e st cfg = false →
    Becomes (.frameStart p vc .good) c
      ((((e.joinDropped st (k.started % 2 ^ 32)).raise (128 + st / 4)).lifeAdd 9 1).raise 152)) ∧
  (∀ (c : Chip) (p : Fin 8) (vc : Fin 16) (st : Nat),
    let d : Chip := c.setBit (Reg.CAP_PSTATp p.val) 31 true
    let x : Chip := (d.endFrame st false).lifeAdd 8 1
    let cfg : List Nat := sampledCfg x st
    let k : CapStream := capStream x st
    let e : Chip := (x.setCapStream st { k with started := k.started + 1 }).setFld (Reg.CAP_SPAGE st) 27 16 (capP st cfg)
    let slot : Nat := k.next % capCfg cfg 0 21 18
    portOn c p.val = true → streamOfVc d p.val vc.val true = some st → capCfgOk e st cfg = true →
    sealTakes e = false ∨ e.cap.frames.any (fun f => decide (f.stream = st) && decide (f.slot = slot)) = true →
    Becomes (.frameStart p vc .good) c
      (((e.joinDropped st (k.started % 2 ^ 32)).raise (128 + st / 4)).lifeAdd 9 1)) ∧
  (∀ (c : Chip) (p : Fin 8) (vc : Fin 16) (st : Nat),
    let d : Chip := c.setBit (Reg.CAP_PSTATp p.val) 31 true
    let x : Chip := (d.endFrame st false).lifeAdd 8 1
    let cfg : List Nat := sampledCfg x st
    let k : CapStream := capStream x st
    let e : Chip := (x.setCapStream st { k with started := k.started + 1 }).setFld (Reg.CAP_SPAGE st) 27 16 (capP st cfg)
    let slot : Nat := k.next % capCfg cfg 0 21 18
    let r : Option (List (Nat × Nat)) × Chip := e.reserveFrame st cfg
    portOn c p.val = true → streamOfVc d p.val vc.val true = some st → capCfgOk e st cfg = true → sealTakes e = true →
    e.cap.frames.any (fun f => decide (f.stream = st) && decide (f.slot = slot)) = false → r.1.isSome = false →
    Becomes (.frameStart p vc .good) c
      (((r.2.joinDropped st (k.started % 2 ^ 32)).raise (128 + st / 4)).lifeAdd 9 1)) ∧
  (∀ (c : Chip) (p : Fin 8) (vc : Fin 16),
    let d : Chip := c.setBit (Reg.CAP_PSTATp p.val) 31 true
    portOn c p.val = true → streamOfVc (d.phyErr p.val 15 8) p.val vc.val false = none →
    streamOfVc d p.val vc.val false = none →
    Becomes (.frameEnd p vc .single) c
      (d.phyErr p.val 15 8)) ∧
  (∀ (c : Chip) (p : Fin 8) (vc : Fin 16),
    portOn c p.val = true →
    Becomes (.frameStart p vc .double) c
      ((c.setBit (Reg.CAP_PSTATp p.val) 31 true).phyErr p.val 15 8)) ∧
  (∀ (c : Chip) (p : Fin 8) (vc : Fin 16) (st : Nat) (f : CapFrame) (px : List (BitVec 16)) (held : Bool),
    let d : Chip := c.setBit (Reg.CAP_PSTATp p.val) 31 true
    let g : CapFrame := noteBands d.tai.toNat { f with lines := f.lines + 1, buf := f.buf ++ [(f.lines, (px.map BitVec.toNat).take (capWidth f.cfg))], ovf := f.ovf, length := f.length || decide (px.length ≠ capWidth f.cfg) }
    let n : Chip := (d.putFrame f g).setFld (Reg.CAP_SSTAT st) 11 0 g.lines
    portOn c p.val = true → streamOfVc d p.val vc.val false = some st → arriving d st = some f → f.lines < capHeight f.cfg →
    linesHeld d st < 32 →
    Becomes (.linePacket p vc .good false (BitVec.ofNat 6 (fmtType (capCfg f.cfg 0 23 22))) px held) c
      (if held then n else n.drainFrame g)) ∧
  (∀ (c : Chip) (p : Fin 8) (vc : Fin 16) (st : Nat) (f : CapFrame) (px : List (BitVec 16)),
    let d : Chip := c.setBit (Reg.CAP_PSTATp p.val) 31 true
    let g : CapFrame := noteBands d.tai.toNat { f with lines := f.lines + 1, ovf := true, length := f.length || decide (px.length ≠ capWidth f.cfg) }
    portOn c p.val = true → streamOfVc d p.val vc.val false = some st → arriving d st = some f → f.lines < capHeight f.cfg →
    32 ≤ linesHeld d st →
    Becomes (.linePacket p vc .good false (BitVec.ofNat 6 (fmtType (capCfg f.cfg 0 23 22))) px true) c
      ((((d.putFrame f g).setFld (Reg.CAP_SSTAT st) 11 0 g.lines).setBit (Reg.CAP_SSTAT st) 29 true).raise 153)) ∧
  (∀ (c : Chip) (p : Fin 8) (vc : Fin 16) (st : Nat) (f : CapFrame) (dt : BitVec 6) (px : List (BitVec 16)) (held : Bool),
    let d : Chip := c.setBit (Reg.CAP_PSTATp p.val) 31 true
    portOn c p.val = true → streamOfVc d p.val vc.val false = some st → arriving d st = some f →
    dt.toNat ≠ fmtType (capCfg f.cfg 0 23 22) →
    Becomes (.linePacket p vc .good false dt px held) c
      (d)) ∧
  (∀ (c : Chip) (p : Fin 8) (vc : Fin 16) (st : Nat) (f : CapFrame) (px : List (BitVec 16)) (held : Bool),
    let d : Chip := c.setBit (Reg.CAP_PSTATp p.val) 31 true
    portOn c p.val = true → streamOfVc d p.val vc.val false = some st → arriving d st = some f → capHeight f.cfg ≤ f.lines →
    Becomes (.linePacket p vc .good false (BitVec.ofNat 6 (fmtType (capCfg f.cfg 0 23 22))) px held) c
      (d.putFrame f { f with length := true })) ∧
  (∀ (c : Chip) (p : Fin 8) (vc : Fin 16) (st : Nat) (f : CapFrame),
    let d : Chip := c.setBit (Reg.CAP_PSTATp p.val) 31 true
    let g : CapFrame := noteBands d.tai.toNat { f with ended := true, endTai := d.tai.toNat, trunc := false, length := f.length || decide (f.lines < capHeight f.cfg) }
    portOn c p.val = true → streamOfVc d p.val vc.val false = some st → arriving d st = some f →
    Becomes (.frameEnd p vc .good) c
      (((d.putFrame f g).setBit (Reg.CAP_SSTAT st) 31 false).joinSheaf g)) ∧
  (∀ (c : Chip) (st : Fin 32) (f : CapFrame) (g : CapFrame),
    c.cap.frames.find? (fun f => decide (f.stream = st.val) && decide (f.band < bandsReady f)) = some f →
    (c.drainFrame f).cap.frames.find? (fun g => decide (g.stream = st.val) && decide (g.band < bandsReady g)) = some g →
    Becomes (.bandComplete st) c
      ((c.drainFrame f).createBand g)) ∧
  (∀ (c : Chip) (st : Fin 32),
    let d : Chip := c.setBit (Reg.CAP_SCTL st.val) 31 false
    portState c (regNode (Reg.CAP_SCTL st.val)) = 0 → streamOn c st.val = true → arriving d st.val = none →
    Becomes (.streamDisable st) c
      (d.stopSheaf st.val)) ∧
  (∀ (c : Chip) (st : Fin 32) (f : CapFrame) (g : CapFrame),
    let d : Chip := c.setBit (Reg.CAP_SCTL st.val) 31 false
    let e : Chip := d.endFrame st.val true
    portState c (regNode (Reg.CAP_SCTL st.val)) = 0 → streamOn c st.val = true → arriving d st.val = some f →
    e.cap.frames.find? (fun g => decide (g.stream = st.val) && decide (g.frame = f.frame) && g.trunc) = some g →
    Becomes (.streamDisable st) c
      ((((((e.drainFrame g).completeBands st.val f.slot (capH64 g.cfg)).setBit (Reg.CAP_SSTAT st.val) 30 true).setFld (Reg.CAP_SSTAT st.val) 11 0 f.lines).raise (144 + st.val / 4)).stopSheaf st.val)) ∧
  (∀ (c : Chip) (st : Fin 32) (f : CapFrame) (rest : List CapFrame),
    c.bit Reg.SILO_STAT 30 = false → c.cap.frames = f :: rest → f.stream = st.val → f.ended = true → f.audited = true →
    frameContextsDone c f = true → rest.contains f = false →
    Becomes (.slotRelease st) c
      ({ c with cap := { c.cap with frames := rest }, grn := { c.grn with capEnded := c.grn.capEnded.filter (fun r => !(decide (r.stream = f.stream) && decide (r.frame = f.frame) && (!r.isPipe || r.passed))) } })) ∧
  (∀ (c : Chip) (st : Fin 32),
    c.bit Reg.SILO_STAT 30 = true →
    Becomes (.slotRelease st) c
      (c)) ∧
  (∀ (c : Chip) (p : Fin 8),
    portState c (regNode (Reg.CAP_PSTATp p.val)) = 0 →
    Becomes (.pstatRead p) c
      ((c.respond (respOk (setBit (c.reg (Reg.CAP_PSTATp p.val)) 30 (capCfgErr c p.val)).toNat)).setFld (Reg.CAP_PSTATp p.val) 15 0 0))

/-- The packer commands complete. The packer takes the next entry of its picture queue: the picture has the slices of its records and its
prefix, joins the syntax-element buffers that came before it, an IRAP ends the dropping of its stream, and what may pass goes to the
port; an entry that cannot be read is passed over, and one with a wrong number of slices drops its picture. A PIPE context's report
waits for its picture's command; then a DONE one's buffer with an acceptable header joins the picture, a FAULTED one abandons it. The
lowest idle lane takes the first waiting slice whose first buffer is well formed, and a malformed one abandons the picture. A slice
that is coded becomes its start code and NAL unit, or its scan, and waits for a buffer that is not there. A picture that has passed
whole posts its entry, or is counted lost with EV162 while the ring is full. PKR_STAT reads and clears LOST. (R290, R291, R292, R293,
R294, R295, R297, R300) -/
def Obligations.PackerCommandsComplete : Prop :=
  (∀ (c : Chip),
    let rd : Option (List Byte) × Chip := c.blockRead (ringEntry c Reg.PKRPIC_BASE_LO 32 (ringHead c Reg.PKRPIC_BASE_LO)) 32
    let e : Chip := rd.2.ringConsumed Reg.PKRPIC_BASE_LO
    let bs : List Byte := rd.1.getD []
    let w : Nat := leNat (bs.take 4)
    let s : Nat := natBits w 31 27
    let frame : Nat := leNat ((bs.drop 4).take 4)
    let n : Nat := natBits w 24 16
    let size : Nat × Nat := pictureSize e s frame
    let pre : List Byte × Bool × Chip := e.blockReadLong 20 (natBits (leNat ((bs.drop 8).take 8)) 39 0) (natBits (leNat ((bs.drop 8).take 8)) 63 48)
    let recs : List Byte × Bool × Chip := pre.2.2.blockReadLong 2 (natBits (leNat ((bs.drop 16).take 8)) 39 0) (16 * n)
    let d : Chip := recs.2.2
    c.isOn (.packer 0) = true → ringEmpty c Reg.PKRPIC_BASE_LO = false → rd.1.isSome = true → 1 ≤ n → n ≤ size.2 → n ≤ 36 →
    w.testBit 26 = true ∨ d.pkr.dropping.contains s = false → d.pkr.pics.find? (fun p => samePicture p s frame) = none →
    Becomes (.pictureCommand) c
      ((Chip.pump { d with pkr := { d.pkr with cmds := d.pkr.cmds + 1, dropping := if w.testBit 26 then d.pkr.dropping.filter (fun x => decide (x ≠ s)) else d.pkr.dropping, pics := d.pkr.pics ++ [{ stream := s, frame := frame, w64 := size.1, h64 := size.2, hasCmd := true, irap := w.testBit 26, jpeg := w.testBit 25, pre := pre.1, slices := (List.range n).map (fun i => sliceOfBytes ((recs.1.drop (16 * i)).take 16)), order := d.pkr.cmds }] } }))) ∧
  (∀ (c : Chip) (q : Picture),
    let rd : Option (List Byte) × Chip := c.blockRead (ringEntry c Reg.PKRPIC_BASE_LO 32 (ringHead c Reg.PKRPIC_BASE_LO)) 32
    let e : Chip := rd.2.ringConsumed Reg.PKRPIC_BASE_LO
    let bs : List Byte := rd.1.getD []
    let w : Nat := leNat (bs.take 4)
    let s : Nat := natBits w 31 27
    let frame : Nat := leNat ((bs.drop 4).take 4)
    let n : Nat := natBits w 24 16
    let size : Nat × Nat := pictureSize e s frame
    let pre : List Byte × Bool × Chip := e.blockReadLong 20 (natBits (leNat ((bs.drop 8).take 8)) 39 0) (natBits (leNat ((bs.drop 8).take 8)) 63 48)
    let recs : List Byte × Bool × Chip := pre.2.2.blockReadLong 2 (natBits (leNat ((bs.drop 16).take 8)) 39 0) (16 * n)
    let d : Chip := recs.2.2
    c.isOn (.packer 0) = true → ringEmpty c Reg.PKRPIC_BASE_LO = false → rd.1.isSome = true → 1 ≤ n → n ≤ size.2 → n ≤ 36 →
    w.testBit 26 = true ∨ d.pkr.dropping.contains s = false → d.pkr.pics.find? (fun p => samePicture p s frame) = some q →
    q.hasCmd = false → q.dropped = false →
    Becomes (.pictureCommand) c
      ((q.reports.foldl Chip.sebTake { d with pkr := { d.pkr with cmds := d.pkr.cmds + 1, dropping := if w.testBit 26 then d.pkr.dropping.filter (fun x => decide (x ≠ s)) else d.pkr.dropping, pics := d.pkr.pics.filter (fun x => !(samePicture x s frame && !x.hasCmd)) ++ [{ q with hasCmd := true, irap := w.testBit 26, jpeg := w.testBit 25, pre := pre.1, slices := (List.range n).map (fun i => sliceOfBytes ((recs.1.drop (16 * i)).take 16)), order := d.pkr.cmds, reports := [] }] } }).pump)) ∧
  (∀ (c : Chip),
    let rd : Option (List Byte) × Chip := c.blockRead (ringEntry c Reg.PKRPIC_BASE_LO 32 (ringHead c Reg.PKRPIC_BASE_LO)) 32
    let e : Chip := rd.2.ringConsumed Reg.PKRPIC_BASE_LO
    let bs : List Byte := rd.1.getD []
    let w : Nat := leNat (bs.take 4)
    let s : Nat := natBits w 31 27
    let frame : Nat := leNat ((bs.drop 4).take 4)
    let n : Nat := natBits w 24 16
    let size : Nat × Nat := pictureSize e s frame
    let pre : List Byte × Bool × Chip := e.blockReadLong 20 (natBits (leNat ((bs.drop 8).take 8)) 39 0) (natBits (leNat ((bs.drop 8).take 8)) 63 48)
    let d : Chip := (pre.2.2.blockReadLong 2 (natBits (leNat ((bs.drop 16).take 8)) 39 0) 0).2.2
    let p : Picture := { stream := s, frame := frame, w64 := size.1, h64 := size.2, hasCmd := true, irap := w.testBit 26, jpeg := w.testBit 25, pre := pre.1, slices := [], order := d.pkr.cmds }
    c.isOn (.packer 0) = true → ringEmpty c Reg.PKRPIC_BASE_LO = false → rd.1.isSome = true → n = 0 ∨ size.2 < n ∨ 36 < n →
    pre.2.2.pkr.pics.find? (fun p => samePicture p s frame) = none →
    Becomes (.pictureCommand) c
      ((Chip.dropPicture { d with pkr := { d.pkr with cmds := d.pkr.cmds + 1, pics := d.pkr.pics ++ [p] } } p).dropLater s [])) ∧
  (∀ (c : Chip),
    let rd : Option (List Byte) × Chip := c.blockRead (ringEntry c Reg.PKRPIC_BASE_LO 32 (ringHead c Reg.PKRPIC_BASE_LO)) 32
    c.isOn (.packer 0) = true → ringEmpty c Reg.PKRPIC_BASE_LO = false → rd.1 = none →
    Becomes (.pictureCommand) c
      (rd.2.ringConsumed Reg.PKRPIC_BASE_LO)) ∧
  (∀ (c : Chip) (n : Nat) (r : CapReport),
    let x : Chip := { c with grn := { c.grn with capEnded := c.grn.capEnded.map (fun q => if q = r then { q with passed := true } else q) } }
    c.grn.capEnded.find? (fun r => decide (r.ctx = n) && r.isPipe && !r.passed) = some r →
    c.cap.frames.any (fun f => decide (f.stream = r.stream) && decide (f.frame = r.frame)) = true →
    c.pkr.pics.any (fun p => samePicture p r.stream r.frame) = true →
    c.pkr.pics.any (fun p => samePicture p r.stream r.frame && p.hasCmd) = false →
    Becomes (.sebReceive n) c
      (((x.onPictures (fun p => samePicture p r.stream r.frame) (fun p => { p with seen := p.seen + 1 })).onPictures (fun p => samePicture p r.stream r.frame && !p.hasCmd) (fun p => { p with reports := p.reports ++ [r] })).pump.forgetPictures)) ∧
  (∀ (c : Chip) (n : Nat) (r : CapReport),
    let x : Chip := { c with grn := { c.grn with capEnded := c.grn.capEnded.map (fun q => if q = r then { q with passed := true } else q) } }
    let y : Chip := { x with pkr := { x.pkr with pics := x.pkr.pics ++ [{ stream := r.stream, frame := r.frame, w64 := (pictureSize x r.stream r.frame).1, h64 := (pictureSize x r.stream r.frame).2 }] } }
    c.grn.capEnded.find? (fun r => decide (r.ctx = n) && r.isPipe && !r.passed) = some r →
    c.cap.frames.any (fun f => decide (f.stream = r.stream) && decide (f.frame = r.frame)) = true →
    c.pkr.pics.any (fun p => samePicture p r.stream r.frame) = false →
    Becomes (.sebReceive n) c
      (((y.onPictures (fun p => samePicture p r.stream r.frame) (fun p => { p with seen := p.seen + 1 })).onPictures (fun p => samePicture p r.stream r.frame && !p.hasCmd) (fun p => { p with reports := p.reports ++ [r] })).pump.forgetPictures)) ∧
  (∀ (c : Chip) (n : Nat) (r : CapReport) (p : Picture) (h : List Byte),
    let x : Chip := { c with grn := { c.grn with capEnded := c.grn.capEnded.map (fun q => if q = r then { q with passed := true } else q) } }
    let rd : Option (List Byte) × Chip := (Chip.blockRead { x with pkr := { c.pkr with pics := [{ p with seen := p.seen + 1 }] } } (natBits r.user0 39 0) 16)
    c.grn.capEnded.find? (fun r => decide (r.ctx = n) && r.isPipe && !r.passed) = some r →
    c.cap.frames.any (fun f => decide (f.stream = r.stream) && decide (f.frame = r.frame)) = true → c.pkr.pics = [p] →
    samePicture p r.stream r.frame = true → p.hasCmd = true → p.dropped = false → r.state = 5 → rd.1 = some h →
    sebHeaderOk r h = true →
    Becomes (.sebReceive n) c
      ((rd.2.onPictures (fun q => q.hasCmd && decide (q.order = p.order) && !q.dropped) (fun q => { q with sebs := q.sebs ++ [{ cx := r.cx, cy := r.cy, addr := natBits r.user0 39 0 }] })).pump.forgetPictures)) ∧
  (∀ (c : Chip) (n : Nat) (r : CapReport) (p : Picture),
    let d : Chip := (Chip.blockRead { c with grn := { c.grn with capEnded := [] }, pkr := { c.pkr with pics := [{ p with seen := p.seen + 1 }] } } (natBits r.user0 39 0) 16).2
    c.grn.capEnded = [r] → r.ctx = n → r.isPipe = true → r.passed = false → r.state = 6 → c.cap.frames = [] →
    c.pkr.pics = [p] → samePicture p r.stream r.frame = true → p.hasCmd = true → p.dropped = false →
    Becomes (.sebReceive n) c
      ((d.abandonPicture { p with seen := p.seen + 1 }).pump.forgetPictures)) ∧
  (∀ (c : Chip) (l : Nat) (p : Picture) (x : Slice) (b : Seb) (ts : List Nat),
    idleLane c = some l → nextSlice c = some (p, x) → sebOf p (x.row * p.w64) = some b → (c.readTokens b.addr).1 = some ts →
    tokensOk p.jpeg ts = true →
    Becomes (.sliceStart) c
      ((c.readTokens b.addr).2.onPictures (fun q => decide (q = p)) (fun q => { q with slices := q.slices.map (fun y => if y = x then { y with state := .coding l } else y) }))) ∧
  (∀ (c : Chip) (l : Nat) (p : Picture) (x : Slice) (b : Seb) (ts : List Nat),
    idleLane c = some l → nextSlice c = some (p, x) → sebOf p (x.row * p.w64) = some b → (c.readTokens b.addr).1 = some ts →
    tokensOk p.jpeg ts = false →
    Becomes (.sliceStart) c
      (((c.readTokens b.addr).2.abandonPicture p).pump.forgetPictures)) ∧
  (∀ (c : Chip) (l : Fin 8) (p : Picture) (x : Slice) (ts : List (List Nat)),
    let r : SliceRun × Chip := c.runSlice p (p.w64 * p.h64 + 1) (x.row * p.w64) []
    let h : List Byte × Bool × Chip := r.2.blockReadLong 3 x.hdrAddr ((x.hdrBits + 7) / 8)
    
    (c.pkr.pics.flatMap (fun p => p.slices.map (fun x => (p, x)))).find? (fun e => decide (e.2.state = .coding l.val)) = some (p, x) →
    r.1 = .coded ts →
    Becomes (.sliceDone l) c
      ((h.2.2.onPictures (fun q => decide (q = p)) (fun q => { q with slices := q.slices.map (fun y => if y = x then { y with state := .done, bytes := if p.jpeg then h.1 ++ Config.scanData p.pre h.1 ts else [0, 0, 0, 1] ++ sliceNal x h.1 ts, bins := (ts.flatMap (fun l => l.map tokenBins)).foldl (· + ·) 0 } else y) })).pump)) ∧
  (∀ (c : Chip) (l : Fin 8) (p : Picture) (x : Slice),
    
    (c.pkr.pics.flatMap (fun p => p.slices.map (fun x => (p, x)))).find? (fun e => decide (e.2.state = .coding l.val)) = some (p, x) →
    (c.runSlice p (p.w64 * p.h64 + 1) (x.row * p.w64) []).1 = .waits →
    Becomes (.sliceDone l) c
      (c)) ∧
  (∀ (c : Chip) (p : Picture) (rest : List Picture),
    c.pkr.pics = p :: rest → p.done = true → p.posted = false → c.pkr.port = [] → rest.contains p = false →
    ringFull c Reg.PKRSTATQ_BASE_LO = false →
    Becomes (.pictureDone) c
      ((Chip.ringPost { c with pkr := { c.pkr with pics := { p with posted := true } :: rest } } Reg.PKRSTATQ_BASE_LO 3 [p.stream * 2 ^ 27 + p.dropped.toNat * 2 ^ 26, p.frame, p.bytes % 2 ^ 32, (p.slices.map (fun x => x.bins)).foldl (· + ·) 0 % 2 ^ 31]).forgetPictures)) ∧
  (∀ (c : Chip) (p : Picture) (rest : List Picture),
    c.pkr.pics = p :: rest → p.done = true → p.posted = false → c.pkr.port = [] → rest.contains p = false →
    ringFull c Reg.PKRSTATQ_BASE_LO = true →
    Becomes (.pictureDone) c
      ((Chip.raise (Chip.countFld { c with pkr := { c.pkr with pics := { p with posted := true } :: rest } } Reg.PKR_STAT 15 0 1) 162).forgetPictures)) ∧
  (∀ (c : Chip),
    portState c (regNode Reg.PKR_STAT) = 0 →
    Becomes (.pkrStatRead) c
      ((c.respond (respOk (laneBusy c * 2 ^ 24 + c.fld Reg.PKR_STAT 15 0))).setFld Reg.PKR_STAT 15 0 0))

/-- The commands of the evidence flow complete. The digests of a frame are read, those of a faulted tile hashed by the Seal Unit with
SELF_HASHED and EV21, and its audit leaves chosen; an audited leaf whose digest agrees counts, one that does not counts a mismatch, its
tile is hashed again, and EV20 is raised, and with the last leaf the audit is done; a frame whose digests and audits are in gets its
descriptor, tree and root; a ready sheaf closes: its record is filled with the next SEQ and goes to the journal; a late one closes with
LATE and EV22; the port hands a picture's bytes to its sheaf or its still; a signed stook goes to the journal; the next journal entry
that fits is written, and a SHEAF or STOOK entry that is journaled is released. (R16, R295, R303, R304, R305, R307, R308, R309, R313,
R314, R316, R322) -/
def Obligations.EvidenceCommandsComplete : Prop :=
  (∀ (c : Chip) (st : Fin 32) (f : CapFrame),
    let d : List (BitVec 512) × Chip := c.frameDigests f (List.range (capW64 f.cfg * capH64 f.cfg))
    let q : List Nat × Chip := d.2.chooseLeaves (odNat c 0x3102 0) (List.range d.1.length)
    let e : Chip := q.2.onCapFrame st.val f.slot (fun g => { g with told := true, audited := g.audited || q.1.isEmpty })
    sealTakes c = true → frameToTell c st.val = some f →
    (List.range (capW64 f.cfg * capH64 f.cfg)).filter (hashFaulted c f) = [] →
    Becomes (.frameDigestsReady st) c
      ({ e with ev := { e.ev with frames := e.ev.frames ++ [{ stream := st.val, frame := f.frame, cap := f, leaves := d.1, perTile := capLeaves f.cfg, audit := q.1 }] } })) ∧
  (∀ (c : Chip) (st : Fin 32) (f : CapFrame) (own : List Nat),
    let d : List (BitVec 512) × Chip := c.frameDigests f (List.range (capW64 f.cfg * capH64 f.cfg))
    let q : List Nat × Chip := d.2.chooseLeaves (odNat c 0x3102 0) ((List.range d.1.length).filter (fun k => !own.contains (k / capLeaves f.cfg)))
    let e : Chip := q.2.onCapFrame st.val f.slot (fun g => { g with told := true, audited := g.audited || q.1.isEmpty })
    sealTakes c = true → frameToTell c st.val = some f →
    (List.range (capW64 f.cfg * capH64 f.cfg)).filter (hashFaulted c f) = own → own ≠ [] →
    Becomes (.frameDigestsReady st) c
      ((Chip.markFrame { e with ev := { e.ev with frames := e.ev.frames ++ [{ stream := st.val, frame := f.frame, cap := f, leaves := d.1, perTile := capLeaves f.cfg, selfT := own, audit := q.1 }] } } f 128).raise 21)) ∧
  (∀ (c : Chip) (st : Fin 32) (f : SealFrame) (k : Nat) (k2 : Nat) (rest : List Nat),
    let i : Nat := k / f.perTile
    let d : Chip := (c.hashLeaf f.cap i (k % f.perTile)).2.onFrameSheaf f.cap (fun x => { x with audited := x.audited + 1 })
    let t : List (BitVec 512) × Chip := d.tileDigests f.cap i true (List.range f.perTile)
    c.isOn .sealUnit = true → c.ev.frames.find? (fun e => decide (e.stream = st.val) && !e.audit.isEmpty) = some f →
    f.audit = k :: k2 :: rest →
    Becomes (.auditLeaf st) c
      (if (c.hashLeaf f.cap i (k % f.perTile)).1 = listGet 0 f.leaves k then d.putSealFrame f { f with audit := k2 :: rest } else ((((t.2.putSealFrame f { f with audit := k2 :: rest, leaves := setTileLeaves f.perTile i t.1 f.leaves, selfT := if f.selfT.contains i then f.selfT else f.selfT ++ [i] }).onFrameSheaf f.cap (fun x => { x with mismatch := x.mismatch + 1, flags := x.flags ||| 256 })).markFrame f.cap 128).raise 20).raiseIf f.selfT.isEmpty 21)) ∧
  (∀ (c : Chip) (st : Fin 32) (f : SealFrame) (k : Nat),
    let i : Nat := k / f.perTile
    let d : Chip := ((c.hashLeaf f.cap i (k % f.perTile)).2.onFrameSheaf f.cap (fun x => { x with audited := x.audited + 1 })).onCapFrame st.val f.cap.slot (fun g => { g with audited := true })
    let t : List (BitVec 512) × Chip := d.tileDigests f.cap i true (List.range f.perTile)
    c.isOn .sealUnit = true → c.ev.frames.find? (fun e => decide (e.stream = st.val) && !e.audit.isEmpty) = some f →
    f.audit = [k] →
    Becomes (.auditLeaf st) c
      (if (c.hashLeaf f.cap i (k % f.perTile)).1 = listGet 0 f.leaves k then d.putSealFrame f { f with audit := [] } else ((((t.2.putSealFrame f { f with audit := [], leaves := setTileLeaves f.perTile i t.1 f.leaves, selfT := if f.selfT.contains i then f.selfT else f.selfT ++ [i] }).onFrameSheaf f.cap (fun x => { x with mismatch := x.mismatch + 1, flags := x.flags ||| 256 })).markFrame f.cap 128).raise 20).raiseIf f.selfT.isEmpty 21)) ∧
  (∀ (c : Chip) (st : Fin 32) (e : SealFrame),
    let tree : List Byte := merkle (e.leaves.map hashBytes)
    let root : Option (BitVec 512) := some (Config.sha512 (2 :: (frameDescriptor c e ++ tree)))
    let d : Chip := c.onSheaf (fun x => decide (x.stream = st.val)) (fun x => { x with frames := x.frames.map (fun g => if ofFrame e.cap g then { g with endTai := e.cap.endTai, fd := frameDescriptor c e, tree := tree, root := root } else g) })
    c.isOn .sealUnit = true → c.ev.frames.find? (fun e => decide (e.stream = st.val) && e.audit.isEmpty) = some e →
    Becomes (.frameRootDone st) c
      ({ d with ev := { d.ev with frames := d.ev.frames.filter (fun x => decide (x ≠ e)), roots := d.ev.roots.filter (fun r => !(decide (r.1 = st.val) && decide (r.2.1 = e.frame))) ++ [(st.val, e.frame, { frame := e.frame, startTai := e.cap.startTai, endTai := e.cap.endTai, fd := frameDescriptor c e, tree := tree, root := root, flags := e.cap.flags ||| ((if e.cap.trunc then 16 else 0) + (if e.cap.ovf then 32 else 0) + (if e.cap.length then 64 else 0) + (if e.selfT.isEmpty then 0 else 128)) })] } })) ∧
  (∀ (c : Chip) (b : PortChunk) (rest : List PortChunk) (y : Sheaf),
    c.isOn .sealUnit = true → c.pkr.port = b :: rest → b.last = false → b.jpeg = false →
    c.cap.frames.any (fun f => decide (f.stream = b.stream) && decide (f.frame = b.frame) && !f.ended) = false →
    c.ev.sheaves.find? (fun x => decide (x.stream = b.stream) && !x.still && x.frames.any (fun g => decide (g.frame = b.frame) && !g.dropped)) = some y →
    Becomes (.bitstreamPortInput) c
      (Chip.onSheaf { c with pkr := { c.pkr with port := rest } } (fun x => decide (x = y)) (fun x => takeBytes x b))) ∧
  (∀ (c : Chip) (b : PortChunk) (rest : List PortChunk),
    c.isOn .sealUnit = true → c.pkr.port = b :: rest → b.jpeg = false →
    Becomes (.bitstreamPortInput) c
      (if b.last then (Chip.videoBytes { c with pkr := { c.pkr with port := rest } } b).picturePassed b else Chip.videoBytes { c with pkr := { c.pkr with port := rest } } b)) ∧
  (∀ (c : Chip) (b : PortChunk) (rest : List PortChunk),
    c.isOn .sealUnit = true → c.pkr.port = b :: rest → b.last = true → b.jpeg = true →
    Becomes (.bitstreamPortInput) c
      ((Chip.stillBytes { c with pkr := { c.pkr with port := rest } } b).picturePassed b)) ∧
  (∀ (c : Chip) (st : Fin 32) (x : Sheaf),
    let n : Nat := mapGet 0 c.ev.nextSeq x.stream
    let status : Nat := if x.status = 0 ∧ x.flags.testBit 4 then 1 else x.status
    let r : List Byte := sheafRecord c x n status (c.fld Reg.SYS_MODE 7 0) 0
    sealHeld c = false →
    c.ev.sheaves.find? (fun x => decide (x.stream = st.val) && sheafReady x && (stillsBefore c x).isEmpty) = some x →
    sealTakes c = true → x.seqNo = none → c.fld Reg.SYS_MODE 7 0 < 6 →
    Becomes (.sheafClose st) c
      (Chip.journal { c with ev := { c.ev with sheaves := c.ev.sheaves.filter (fun y => decide (y ≠ x)), nextSeq := mapSet 0 c.ev.nextSeq x.stream (n + 1), prevHash := mapInsert x.stream (sha r) (mapErase x.stream c.ev.prevHash), staged := c.ev.staged ++ [(x.stream, n, x.still, frameIndex x, x.data)] } } { typ := 1, stream := x.stream, key := n, nextSeq := n + 1, payload := r })) ∧
  (∀ (c : Chip) (st : Fin 32) (x : Sheaf) (t : Nat),
    sealHeld c = false → sealTakes c = true → c.ev.sheaves = [x] → x.stream = st.val → x.complete = some t →
    t + 1000000000 ≤ c.ns →
    Becomes (.sheafLateClose st) c
      ((c.fillRecord x x.status 512).raise 22)) ∧
  (∀ (c : Chip) (w : StookWork),
    let q : List Byte × Chip := c.drawBytes 64
    c.ev.signing = some w → sealTakes c = true → c.silo.capsule = none →
    Becomes (.stookSignDone) c
      (Chip.journal { q.2 with ev := { q.2.ev with signing := none } } { typ := 2, key := w.counter, payload := w.record ++ beBytes 512 (Config.pssSign (c.su.priv.dek.getD []) w.record q.1).toNat })) ∧
  (∀ (c : Chip) (w : JWrite) (rest : List JWrite),
    c.silo.waiting = w :: rest → w.typ ≠ 1 → w.typ ≠ 2 → c.isOn .silo = true → entryFits c w.typ = true →
    Becomes (.journalWriteDone) c
      ((Chip.writeEntry { c with silo := { c.silo with waiting := rest } } w).2.noteFull)) ∧
  (∀ (c : Chip) (w : JWrite) (rest : List JWrite),
    let r : JEntry × Chip := Chip.writeEntry { c with silo := { c.silo with waiting := rest } } w
    c.silo.waiting = w :: rest → w.typ = 1 → c.isOn .silo = true → entryFits c 1 = true →
    Becomes (.journalWriteDone) c
      ((r.2.sheafJournaled r.1).noteFull)) ∧
  (∀ (c : Chip) (w : JWrite) (rest : List JWrite),
    let r : JEntry × Chip := Chip.writeEntry { c with silo := { c.silo with waiting := rest } } w
    c.silo.waiting = w :: rest → w.typ = 2 → c.isOn .silo = true → entryFits c 2 = true →
    Becomes (.journalWriteDone) c
      ((r.2.stookJournaled r.1).noteFull))

/-- The stook commands complete. A stook falls due at its boundary and waits for a busy engine; with no record to cover none is signed;
with records, counter 0 rises and the record is filled; in RECOVERY a counter behind the journal is a Seal error, and else the recovery
stook of KIND 1 with the modes, loss time and gap is begun, with EV24 where counters were skipped; the manager signs no system stook
without new stooks of the workers it reaches, and one over a new stook else. (R321, R322, R323, R324, R326, R523, R524, R525) -/
def Obligations.StookCommandsComplete : Prop :=
  (∀ (c : Chip),
    let d : Chip := { c.stookRebase with ev := { c.stookRebase.ev with due := true, sysDue := true, sysStep := c.stookRebase.ev.sysStep || c.stookRebase.ev.timeStep, dueNext := journaledNext c.stookRebase } }
    sealTakes c = true → sealHeld c = false → c.ev.dueAt ≤ c.tai.toNat → stookFree d = false →
    Becomes (.stookDue) c
      (d)) ∧
  (∀ (c : Chip),
    sealTakes c = true → sealHeld c = false → c.tai.toNat < c.ev.dueAt → c.ev.due = true → stookFree c = true →
    coveredBy c c.ev.dueNext = [] →
    Becomes (.stookDue) c
      ({ c with ev := { c.ev with due := false, timeStep := false } })) ∧
  (∀ (c : Chip),
    sealTakes c = true → sealHeld c = false → c.tai.toNat < c.ev.dueAt → c.ev.due = true → stookFree c = true →
    coveredBy c c.ev.dueNext ≠ [] → c.fld Reg.SYS_MODE 7 0 < 6 →
    Becomes (.stookDue) c
      (Chip.startStook { c with ev := { c.ev with due := false, timeStep := false } } (sheafStook 0 (c.fld Reg.SYS_MODE 7 0) (coveredBy c c.ev.dueNext) (if c.ev.timeStep then 8 else 0) c.ev.dueNext))) ∧
  (∀ (c : Chip),
    inRecovery c = true → c.ev.recovered = false → stookFree c = true → sealCounter c 0 < c.ev.stookCtr →
    Becomes (.recoveryStook) c
      (c.sealError 5)) ∧
  (∀ (c : Chip) (k : Nat),
    inRecovery c = true → c.ev.recovered = false → stookFree c = true → c.ev.stookCtr ≤ sealCounter c 0 →
    c.silo.lossMode = some k → k < 6 →
    Becomes (.recoveryStook) c
      ((c.raiseIf (decide (c.ev.stookCtr + 1 < sealCounter c 0)) 24).startStook { sheafStook 1 k (coveredBy c (journaledNext c)) (if decide (c.ev.stookCtr + 1 < sealCounter c 0) then 2 else 0) (journaledNext c) with loss := c.silo.lossTai, skipped := sealCounter c 0 - c.ev.stookCtr })) ∧
  (∀ (c : Chip) (stooks : List (Nat × List (List Byte))),
    c.ev.sysDue = true → c.ev.due = false → stookFree c = true → sealHeld c = false → c.deviceNo = 0 →
    c.bit Reg.SPIN_STAT 31 = true → c.spin.gang = false →
    stooks.all (fun e => e.2.all (fun r => decide (recNat r 8 8 < mapGet 0 c.ev.sysCov e.1))) = true →
    Becomes (.systemStook stooks) c
      ({ c with ev := { c.ev with sysDue := false, sysStep := false } })) ∧
  (∀ (c : Chip) (d : Nat) (r : List Byte),
    c.ev.sysDue = true → c.ev.due = false → stookFree c = true → sealHeld c = false → c.deviceNo = 0 →
    c.bit Reg.SPIN_STAT 31 = true → c.spin.gang = false → 1 ≤ d → d < 16 → (reachMask c).testBit d = true →
    c.ev.sysCov = [] → c.spin.map = 1 + 2 ^ d → c.ev.sysStep = false → (recNat r 0x2E 2).testBit 2 = false →
    c.fld Reg.SYS_MODE 7 0 < 6 →
    Becomes (.systemStook [(d, [r])]) c
      (Chip.startStook { c with ev := { c.ev with sysDue := false, sysStep := false } } { kind := 2, mode := c.fld Reg.SYS_MODE 7 0, taint := (recNat r 5 1).testBit 0, count := 1, first := recNat r 0x10 8, last := recNat r 0x10 8, streams := 1 + 2 ^ d + 2 ^ 16 * 2 ^ d, sflags := 0, root := merkle [sha r], bound := [(d, recNat r 8 8 + 1)] }))

/-- The Silo and transaction commands complete. A report gives a PROGRESS entry 250 ms after the last; freed journal space lets a waiting
write go on; the scan runs once at a start; OPEN begins an empty transaction and is refused with RESULT 3 in one; STAGE adds a sound
entry, refuses a bad one with RESULT 5 and a full log with 4; COMMIT commits a non-empty transaction with EV39 and begins its
application, and an empty one has RESULT 2; ABORT ends an open one; an undefined op has RESULT 1; SILO_CE reads and clears. (R371,
R374, R375, R384, R387, R388, R389, R392) -/
def Obligations.SiloAndTransactionCommandsComplete : Prop :=
  (∀ (c : Chip),
    c.silo.reported = true → c.silo.progAt.all (fun t => decide (t + 250000000 ≤ c.ns)) = true → c.silo.capsule = none →
    Becomes (.progressEntry) c
      (Chip.journal { c with silo := { c.silo with reported := false, progAt := some c.ns } } { typ := 3, payload := [] })) ∧
  (∀ (c : Chip) (t : Nat),
    c.silo.progAt = some t → c.ns < t + 250000000 →
    Becomes (.progressEntry) c
      (c)) ∧
  (∀ (c : Chip) (w : JWrite) (rest : List JWrite),
    let d : Chip := Chip.advanceOldest c.silo.entries.length c
    d.silo.waiting = w :: rest → entryFits d w.typ = true →
    Becomes (.journalSpaceFreed) c
      (d.setBit Reg.SILO_STAT 30 false)) ∧
  (∀ (c : Chip) (w : JWrite) (rest : List JWrite),
    let d : Chip := Chip.advanceOldest c.silo.entries.length c
    d.silo.waiting = w :: rest → entryFits d w.typ = false →
    Becomes (.journalSpaceFreed) c
      (if d.bit Reg.SILO_STAT 30 then d.setBit Reg.SILO_STAT 30 true else (d.setBit Reg.SILO_STAT 30 true).raise 36)) ∧
  (∀ (c : Chip),
    portState c (regNode Reg.SILO_CE) = 0 →
    Becomes (.siloCeRead) c
      ((c.respond (respOk (c.fld Reg.SILO_CE 7 0))).setFld Reg.SILO_CE 7 0 0)) ∧
  (∀ (c : Chip),
    let e : Chip := c.siloCheckRange 0 0x600000
    let n : Nat × Nat := match (foundJournal e).getLast? with | some j => (j.jseq + 1, j.pos + j.grains + 1) | none => ((controlWords e).next, (controlWords e).pos)
    let d : Chip := Chip.adoptJournal { e with silo := { e.silo with entries := foundJournal e, jnext := n.1, pos := n.2 } } (foundJournal e)
    c.isOn .silo = true → c.bit Reg.SILO_STAT 31 = false →
    Becomes (.siloScan) c
      (((d.showJseq.rollForward).latchRstat (foundJournal e)).setBit Reg.SILO_STAT 31 true)) ∧
  (∀ (c : Chip),
    portState c (regNode Reg.SILO_TXCMD) = 0 → c.isOn .silo = true → c.silo.capsule = none → txState c = 0 →
    Becomes (.txOpen) c
      ((((c.setFld Reg.SILO_TXSTAT 31 30 1).setFld Reg.SILO_TXSTAT 12 0 0).setReg Reg.SILO_TXERR 0).setFld Reg.SILO_TXSTAT 23 16 0)) ∧
  (∀ (c : Chip),
    portState c (regNode Reg.SILO_TXCMD) = 0 → c.isOn .silo = true → c.silo.capsule = none → txState c = 1 →
    Becomes (.txOpen) c
      (c.setFld Reg.SILO_TXSTAT 23 16 3)) ∧
  (∀ (c : Chip),
    portState c (regNode Reg.SILO_TXCMD) = 0 → c.isOn .silo = true → c.silo.capsule = none → txState c = 1 →
    c.fld Reg.SILO_TXSTAT 12 0 < 4096 → txEntryOk (txEntRegs c) = true →
    Becomes (.txStage) c
      (((c.siloTurn.siloPut (txEntryOffset (c.fld Reg.SILO_TXSTAT 12 0)) (txEntRegs c)).setFld Reg.SILO_TXSTAT 12 0 (c.fld Reg.SILO_TXSTAT 12 0 + 1)).setFld Reg.SILO_TXSTAT 23 16 0)) ∧
  (∀ (c : Chip),
    portState c (regNode Reg.SILO_TXCMD) = 0 → c.isOn .silo = true → c.silo.capsule = none → txState c = 1 →
    c.fld Reg.SILO_TXSTAT 12 0 < 4096 → txEntryOk (txEntRegs c) = false →
    Becomes (.txStage) c
      (c.setFld Reg.SILO_TXSTAT 23 16 5)) ∧
  (∀ (c : Chip),
    portState c (regNode Reg.SILO_TXCMD) = 0 → c.isOn .silo = true → c.silo.capsule = none → txState c = 1 →
    4096 ≤ c.fld Reg.SILO_TXSTAT 12 0 →
    Becomes (.txStage) c
      (c.setFld Reg.SILO_TXSTAT 23 16 4)) ∧
  (∀ (c : Chip),
    let r : Chip := c.siloCheckRange (txEntryOffset 0) (32 * c.fld Reg.SILO_TXSTAT 12 0)
    let d : Chip := (((r.setFld Reg.SILO_TXSTAT 31 30 2).setBit Reg.ODE_STAT 30 true).putTxHeader 1 (c.fld Reg.SILO_TXSTAT 12 0) (c.silo.txseq + 1) c.tai.toNat).setFld Reg.SILO_TXSTAT 23 16 0
    portState c (regNode Reg.SILO_TXCMD) = 0 → c.isOn .silo = true → c.silo.capsule = none → txState c = 1 →
    c.fld Reg.SILO_TXSTAT 12 0 ≠ 0 → txModeOk c = true →
    Becomes (.txCommit) c
      (Chip.raise { d with silo := { d.silo with txseq := c.silo.txseq + 1, txApply := some ((List.range (c.fld Reg.SILO_TXSTAT 12 0)).map (txEntryRead d)) } } 39)) ∧
  (∀ (c : Chip),
    portState c (regNode Reg.SILO_TXCMD) = 0 → c.isOn .silo = true → c.silo.capsule = none → txState c = 1 →
    c.fld Reg.SILO_TXSTAT 12 0 = 0 →
    Becomes (.txCommit) c
      (c.setFld Reg.SILO_TXSTAT 23 16 2)) ∧
  (∀ (c : Chip),
    portState c (regNode Reg.SILO_TXCMD) = 0 → c.isOn .silo = true → c.silo.capsule = none → txState c = 1 →
    Becomes (.txAbort) c
      (Chip.setFld { (c.setFld Reg.SILO_TXSTAT 31 30 0).setFld Reg.SILO_TXSTAT 12 0 0 with silo := { c.silo with txOwner := none } } Reg.SILO_TXSTAT 23 16 0)) ∧
  (∀ (c : Chip) (op : Fin 16),
    portState c (regNode Reg.SILO_TXCMD) = 0 → c.isOn .silo = true → c.silo.capsule = none → op = 0 ∨ 5 ≤ op →
    Becomes (.txBadOp op) c
      (c.setFld Reg.SILO_TXSTAT 23 16 1))

/-- The commands of the lifetime records complete. A flush runs when its period is over and on demand; a histogram sample counts its bin;
the records load once after the Silo is ready; TAKE begins a snapshot at the present TAI and is ignored while one is copied; its end
numbers it and fills the buffer; before the load a count is held. (R562, R563, R564, R565, R567, R570) -/
def Obligations.LifetimeCommandsComplete : Prop :=
  (∀ (c : Chip),
    c.isOn .mesh = true → c.isOn .silo = true → c.life.flushAt + 1000000000 * Nat.max 60 (c.fld Reg.LIFE_FLUSH 16 0) ≤ c.ns →
    Becomes (.lifeFlushPeriodic) c
      (c.lifeFlush)) ∧
  (∀ (c : Chip),
    c.isOn .mesh = true → c.isOn .silo = true → c.bit Reg.LIFE_STAT 31 = true →
    Becomes (.lifeFlushNow) c
      ({ Chip.flushFrom 640 0 c.siloTurn with life := { (Chip.flushFrom 640 0 c.siloTurn).life with flushAt := (Chip.flushFrom 640 0 c.siloTurn).ns } })) ∧
  (∀ (c : Chip) (h : Fin 5) (b : Nat),
    sampleBin c h.val = some b → c.isOn .mesh = true →
    mapGet 0 c.life.sampledAt h.val + (if h.val < 2 then 60000000000 else 1000000000) ≤ c.ns →
    c.bit Reg.LIFE_STAT 31 = false →
    Becomes (.histogramSample h) c
      ({ c with life := { c.life with sampledAt := mapSet 0 c.life.sampledAt h.val c.ns, held := c.life.held ++ [(4096 + 14 * h.val + b, 1)] } })) ∧
  (∀ (c : Chip) (h : Fin 5) (b : Nat),
    sampleBin c h.val = some b → c.isOn .mesh = true →
    mapGet 0 c.life.sampledAt h.val + (if h.val < 2 then 60000000000 else 1000000000) ≤ c.ns →
    c.bit Reg.LIFE_STAT 31 = true → c.bit Reg.LIFE_SNAP 30 = false →
    Becomes (.histogramSample h) c
      (Chip.lifeApply { c with life := { c.life with sampledAt := mapSet 0 c.life.sampledAt h.val c.ns } } (4096 + 14 * h.val + b) 1)) ∧
  (∀ (c : Chip) (h : Fin 5),
    c.ns < mapGet 0 c.life.sampledAt h.val + (if h.val < 2 then 60000000000 else 1000000000) →
    Becomes (.histogramSample h) c
      (c)) ∧
  (∀ (c : Chip),
    c.bit Reg.SILO_STAT 31 = true → c.bit Reg.LIFE_STAT 31 = false →
    Becomes (.lifeLoad) c
      (c.lifeLoad)) ∧
  (∀ (c : Chip),
    c.bit Reg.LIFE_SNAP 30 = false →
    Becomes (.lifeSnapTake) c
      ({ c.setBit Reg.LIFE_SNAP 30 true with life := { c.life with snapTai := c.tai.toNat } })) ∧
  (∀ (c : Chip),
    c.bit Reg.LIFE_SNAP 30 = true →
    Becomes (.lifeSnapTake) c
      (c)) ∧
  (∀ (c : Chip),
    let e : Chip := c.siloCheckRange 0x70A000 0x4000
    let d : Chip := (((e.setBit Reg.LIFE_SNAP 30 false).setFld Reg.LIFE_SNAP 29 0 (c.fld Reg.LIFE_SNAP 29 0 + 1)).setReg Reg.LIFE_SNAP_TAI_LO (BitVec.ofNat 32 c.life.snapTai)).setReg Reg.LIFE_SNAP_TAI_HI (BitVec.ofNat 32 (c.life.snapTai / 2 ^ 32))
    c.bit Reg.LIFE_SNAP 30 = true →
    Becomes (.snapshotDone) c
      (Chip.applyHeld { d with life := { d.life with snap := definedGrains.map (fun g => (g, grainBytes c g)) ++ (List.range 256).map (fun i => (640 + i, e.rdBytes (siloAddr (0x70A000 + 64 * i)) 64)) } }))

/-- The commands of the Storage Writer complete. ENABLE starts the writer; a failing check of the start names its state and CODE with
EV181, a passing one ends ACTIVE with EV188; an item joins the open bale where it fits; an aged bale closes; a completion of a command
counts for its bale, which is durable with its last Write where none was sent with FUA = 0, and with a Flush after it; a failed command
is issued again, a time-out fails every command in flight with EV184, and a reset that fails ends in FAULT with EV182; an item late for
the drive is counted, and its bale raises EV183; the hold position ends HELD; DISABLE begins DRAINING, which ends IDLE with EV186 or
after 1,000 ms with EV184; a lost link raises EV180 and EV181; the drive reads and writes inside its window only. (R395, R397, R399,
R400, R401, R402, R403, R404, R405, R425, R562) -/
def Obligations.StorageWriterCommandsComplete : Prop :=
  (∀ (c : Chip),
    portState c (regNode Reg.PCIB_SWCTL) = 0 → c.bit Reg.PCIB_SWCTL 31 = false → swRuns c = true → swState c ≤ 2 →
    Becomes (.swEnable) c
      (((c.setBit Reg.PCIB_SWCTL 31 true).setFld Reg.PCIB_SWSTAT 31 28 3).setFld Reg.PCIB_SWSTAT 27 24 0)) ∧
  (∀ (c : Chip) (r : DriveReport) (st : Nat) (code : Nat),
    swRuns c = true → swState c = 3 → driveCheck c r = some (st, code) →
    Becomes (.swStartFail r) c
      (((c.swEnter st code).setSw { c.sw with drive := r, linkUp := r.link, admin := decide (st ≠ 1), queues := 0, sent := c.sw.sent ++ startCommands r (some (st, code)) }).raise 181)) ∧
  (∀ (c : Chip) (r : DriveReport) (heads : List (Nat × List Byte)),
    let pos : Nat := if ringChanged c then 0 else (resumePoint c r heads).1
    let num : Nat := Nat.max (resumePoint c r heads).2 c.sw.nextBale
    swRuns c = true → swState c = 3 → driveCheck c r = none →
    Becomes (.swStartupComplete r heads) c
      (Chip.raise (Chip.setFld (Chip.setFld (c.setSw { c.sw with drive := r, linkUp := true, admin := true, queues := Nat.min 8 r.queues, turn := 0, cmds := [], ready := [], sent := c.sw.sent ++ startCommands r none ++ (heads.filter (fun h => scanned c r (journaledProgress c).2 h.1)).map (fun h => { op := .read, queue := 1, lba := unitLba c r h.1, lbas := 1 }) ++ ringTrim c r, ring := some (ringRegs c), queue := (c.sw.bales.filter (fun b => !b.durable)).flatMap (fun b => b.items) ++ c.sw.opened ++ c.sw.queue, durJseq := c.sw.durJseq ++ (c.sw.bales.filter (fun b => b.durable)).flatMap (fun b => b.items.filterMap (fun i => i.jseq)), opened := [], bales := [], nextPos := pos, nextBale := num, prefSeq := num, prefPos := pos }) Reg.PCIB_SWSTAT 31 28 4) Reg.PCIB_SWSTAT 27 24 0) 188)) ∧
  (∀ (c : Chip) (i : Item) (rest : List Item),
    swRuns c = true → swState c = 4 → c.sw.queue = i :: rest →
    itemsBytes c.sw.opened + itemBytes i ≤ baleRoom (baleUnits c) →
    Becomes (.itemAdd) c
      (c.setSw { c.sw with opened := c.sw.opened ++ [i], queue := rest })) ∧
  (∀ (c : Chip),
    swRuns c = true → swState c = 4 → c.sw.opened.any (fun i => decide (i.since + storageLag c / 4 ≤ c.ns)) = true →
    Becomes (.baleAgeClose) c
      (c.closeBale)) ∧
  (∀ (c : Chip) (n : Nat) (us : Nat) (x : NvCommand),
    let e : Chip := c.lifeAdd (4096 + 14 * 5 + driveBin us) 1
    let d : Chip := e.setSw { e.sw with cmds := e.sw.cmds.erase x }
    swLive c = true → cmdOut c (some n) = some x →
    Becomes (.nvmeCompletion (some n) true us) c
      ((((d.setSw { d.sw with bales := d.sw.bales.map (fun b => if x.op.bale = some b.seqNo then { b with writes := b.writes - 1, plain := b.plain || sentPlain x, written := decide (b.writes - 1 = 0), durable := decide (b.writes - 1 = 0) && !(b.plain || sentPlain x) } else b) }).swIssue []).needFlush).growPrefix)) ∧
  (∀ (c : Chip) (us : Nat) (x : NvCommand),
    let e : Chip := c.lifeAdd (4096 + 14 * 5 + driveBin us) 1
    let d : Chip := e.setSw { e.sw with cmds := e.sw.cmds.erase x }
    swLive c = true → cmdOut c none = some x →
    Becomes (.nvmeCompletion none true us) c
      ((((d.setSw { d.sw with bales := d.sw.bales.map (fun b => if b.flushed && b.written then { b with durable := true } else b) }).swIssue []).needFlush).growPrefix)) ∧
  (∀ (c : Chip) (o : Option Nat) (us : Nat) (x : NvCommand),
    let e : Chip := c.lifeAdd (4096 + 14 * 5 + driveBin us) 1
    swLive c = true → cmdOut c o = some x →
    Becomes (.nvmeCompletion o false us) c
      ((e.setSw { e.sw with cmds := e.sw.cmds.erase x }).cmdsFailed [x])) ∧
  (∀ (c : Chip) (o : Option Nat) (ok : Bool) (us : Nat),
    cmdOut c o = none →
    Becomes (.nvmeCompletion o ok us) c
      (c)) ∧
  (∀ (c : Chip),
    let d : Chip := (c.setSw { c.sw with cmds := [], turn := 0 }).raise 184
    swLive c = true → driveSilent c = true → swState c ≠ 7 →
    Becomes (.nvmeTimeout false) c
      (((((c.setSw { c.sw with cmds := [], turn := 0 }).raise 184).setSw { d.sw with ready := [] }).swEnter 7 6).raise 182)) ∧
  (∀ (c : Chip),
    swLive c = true → driveSilent c = true →
    Becomes (.nvmeTimeout true) c
      (((c.setSw { c.sw with cmds := [], turn := 0, sent := c.sw.sent ++ createQueues c.sw.queues }).raise 184).cmdsFailed c.sw.cmds)) ∧
  (∀ (c : Chip) (i : Item),
    c.isOn .storageWriter = true → c.sw.queue = [i] → c.sw.opened = [] → c.sw.bales = [] → lagged c i = true →
    Becomes (.lagMiss) c
      ((c.setSw { c.sw with queue := [{ i with missed := true }] }).wrapCount Reg.PCIB_LAGMISS 1 190)) ∧
  (∀ (c : Chip) (b : Bale) (i : Item),
    c.isOn .storageWriter = true → c.sw.queue = [] → c.sw.opened = [] → c.sw.bales = [b] → b.items = [i] →
    b.durable = false → b.missed = false → lagged c i = true →
    Becomes (.lagMiss) c
      (((c.setSw { c.sw with bales := [{ b with items := [{ i with missed := true }], missed := true }] }).wrapCount Reg.PCIB_LAGMISS 1 190).raise 183)) ∧
  (∀ (c : Chip) (v : Word),
    portState c (regNode Reg.PCIB_HOLD) = 0 → swState c = 5 → bitOf v 31 = false →
    Becomes (.holdWrite v) c
      (((c.setReg Reg.PCIB_HOLD v).setFld Reg.PCIB_SWSTAT 31 28 4).setFld Reg.PCIB_SWSTAT 27 24 0)) ∧
  (∀ (c : Chip),
    portState c (regNode Reg.PCIB_SWCTL) = 0 → swState c = 4 ∨ swState c = 5 ∨ swState c = 7 →
    Becomes (.swDisable) c
      ((((c.setBit Reg.PCIB_SWCTL 31 false).setFld Reg.PCIB_SWSTAT 31 28 6).setFld Reg.PCIB_SWSTAT 27 24 0).setSw { c.sw with drainAt := c.ns })) ∧
  (∀ (c : Chip),
    swRuns c = true → swState c = 6 → swQuiet c = true → c.bit Reg.PCIB_SWCTL 31 = false →
    Becomes (.swDrainDone) c
      (((c.setFld Reg.PCIB_SWSTAT 31 28 0).setFld Reg.PCIB_SWSTAT 27 24 0).raise 186)) ∧
  (∀ (c : Chip),
    swRuns c = true → swState c = 6 → c.sw.drainAt + 1000000000 ≤ c.ns → c.bit Reg.PCIB_SWCTL 31 = false →
    Becomes (.swDrainTimeout) c
      ((((c.setSw { c.sw with cmds := [], ready := [], bales := c.sw.bales.map (fun b => if ((c.sw.cmds ++ c.sw.ready).filterMap (failedBale c)).contains b.seqNo then { b with fails := b.fails + 1 } else b) }).swEnter 0 0).raise 184))) ∧
  (∀ (c : Chip),
    swState c ≤ 2 →
    Becomes (.pciebLinkChange true) c
      ((c.setSw { c.sw with linkUp := true }).raise 180)) ∧
  (∀ (c : Chip),
    let d : Chip := (c.setSw { c.sw with linkUp := false }).raise 180
    3 ≤ swState c →
    Becomes (.pciebLinkChange false) c
      (((d.setSw { d.sw with cmds := [], ready := [] }).swEnter 1 0).raise 181)) ∧
  (∀ (c : Chip) (a : Addr) (bs : List Byte),
    bs ≠ [] → inWindow c a.toNat bs.length = true →
    Becomes (.driveRequest a (some bs) 0) c
      (((c.blockWriteLong (bs.length / 4096 + 2) a.toNat bs).2).respond (respOk 0))) ∧
  (∀ (c : Chip) (a : Addr) (n : Nat),
    n ≠ 0 → inWindow c a.toNat n = true →
    Becomes (.driveRequest a none n) c
      ((c.blockReadLong (n / 4096 + 2) a.toNat n).2.2.respond { data := leNat (c.blockReadLong (n / 4096 + 2) a.toNat n).1, poison := !(c.blockReadLong (n / 4096 + 2) a.toNat n).2.1 })) ∧
  (∀ (c : Chip) (a : Addr) (n : Nat),
    n ≠ 0 → inWindow c a.toNat n = false →
    Becomes (.driveRequest a none n) c
      ((c.respond (respErr 0)).raise 187))

/-- The reset, capsule and supply commands complete. The fall of VIN_SENSE, a software reset and a debug reset start the capsule with their
cause; its end journals what is left, leaves the always-on, mesh and Silo domains on, and resets but for VIN_SENSE, whose reset follows
the return of the supply; an external reset resets at once; the first power-up starts the time at 0; a supply warning sets OUT and SEEN
with EV2 and its return clears OUT; a write of 1s clears pending events, and on the host side every line still pending signals again.
(R376, R378, R380, R422, R482, R483, R487, R556, R573, R574, R576) -/
def Obligations.ResetAndSupplyCommandsComplete : Prop :=
  (∀ (c : Chip),
    Becomes (.vinSenseFall) c
      (Chip.capsuleStart (Chip.setBit { c with pow := { c.pow with vinLow := true } } Reg.SILO_PF 31 false) 1)) ∧
  (∀ (c : Chip),
    Becomes (.swReset) c
      (c.capsuleStart 3)) ∧
  (∀ (c : Chip),
    somePortHolds c 2 = true →
    Becomes (.debugReset) c
      (c.capsuleStart 4)) ∧
  (∀ (c : Chip) (k : Capsule),
    let d : Chip := (Chip.journalAll c.silo.waiting.length c).lifeFlush
    let e : Chip := Chip.journalNext (Chip.journal { d with silo := { d.silo with waiting := [] } } { typ := 5, payload := [] })
    c.silo.capsule = some k → k.ended = false → k.cause = 1 →
    Becomes (.capsuleComplete) c
      (Chip.keepOnly { e with silo := { e.silo with capsule := some { k with ended := true } } } [.mesh, .silo])) ∧
  (∀ (c : Chip) (k : Capsule),
    let d : Chip := (Chip.journalAll c.silo.waiting.length c).lifeFlush
    let e : Chip := Chip.journalNext (Chip.journal { d with silo := { d.silo with waiting := [] } } { typ := 5, payload := [] })
    let f : Chip := (Chip.keepOnly { e with silo := { e.silo with capsule := some { k with ended := true } } } [.mesh, .silo]).resetAll
    c.silo.capsule = some k → k.ended = false → k.cause ≠ 1 →
    Becomes (.capsuleComplete) c
      ({ f with pow := { f.pow with wdReset := decide (k.cause = 2) } })) ∧
  (∀ (c : Chip) (k : Capsule),
    c.silo.capsule = some k → k.ended = true → k.cause = 1 →
    Becomes (.vinRecovered) c
      ((Chip.setBit { c with pow := { c.pow with vinLow := false } } Reg.SILO_PF 31 (c.isOn .silo)).resetAll)) ∧
  (∀ (c : Chip),
    c.silo.capsule = none →
    Becomes (.vinRecovered) c
      (Chip.setBit { c with pow := { c.pow with vinLow := false } } Reg.SILO_PF 31 (c.isOn .silo))) ∧
  (∀ (c : Chip),
    Becomes (.pfWarn) c
      (c.raise 1)) ∧
  (∀ (c : Chip),
    Becomes (.externalReset) c
      (Chip.resetAll (c.weaveOffAll [0, 1, 2, 3]))) ∧
  (∀ (c : Chip) (m : Bool),
    let d : Chip := Chip.resetAll { c with regs := [], mgrSel := m, time := {}, dbg := {}, weave := {} }
    Becomes (.aonPowerOn m) c
      ({ d with time := { now := 0 }, pow := { pwrEn := true, vinLow := c.pow.vinLow } })) ∧
  (∀ (c : Chip) (r : Fin 8),
    c.bit Reg.SYS_SUPPLY r.val = false → railWatched c r.val = true →
    Becomes (.supplyWarn r) c
      (((c.setBit Reg.SYS_SUPPLY r.val true).setBit Reg.SYS_SUPPLY (8 + r.val) true).raise 2)) ∧
  (∀ (c : Chip) (r : Fin 8),
    c.bit Reg.SYS_SUPPLY r.val = true →
    Becomes (.supplyReturn r) c
      ({ c.setBit Reg.SYS_SUPPLY r.val false with pow := { c.pow with supplyAt := some c.ns } })) ∧
  (∀ (c : Chip) (k : Fin 8) (v : Word),
    Becomes (.evtPendClear false k v) c
      (c.setReg (Reg.EVT_DPENDk k.val) (c.reg (Reg.EVT_DPENDk k.val) &&& ~~~v))) ∧
  (∀ (c : Chip) (k : Fin 8) (v : Word),
    Becomes (.evtPendClear true k v) c
      ({ c.setReg (Reg.EVT_HPENDk k.val) (c.reg (Reg.EVT_HPENDk k.val) &&& ~~~v) with hostUp := [] }))

/-- The commands of the Weave fabric complete. LOAD puts the named quadrants that are on into loading with their pins held; CLEAR empties
the frames of loading quadrants; START ends loading, gives the flip-flops INIT and raises EV209; word 79 commits the window to its
frame, or discards it with EV210 where its quadrant is not loading; WEAVE_CFG_STAT reads and clears DISCARD; a pin write keeps HOLD
where its code is reserved; an input change whose trigger lines stay as seen raises the event of each event line that rises, and one
that changes a trigger line latches it with EV208; a bank fault holds the bank's pins and raises EV211. (R498, R501, R503, R504, R505,
R506, R511, R512) -/
def Obligations.WeaveFabricCommandsComplete : Prop :=
  (∀ (c : Chip) (q : Fin 4),
    let d : Chip := c.keepPins (quadPins q.val)
    c.isOn (.weave q.val) = true → c.weave.loading.contains q.val = false →
    Becomes (.weaveLoad (BitVec.ofNat 4 (2 ^ q.val))) c
      (Chip.weaveSeen { d with weave := { d.weave with loading := d.weave.loading ++ [q.val] } })) ∧
  (∀ (c : Chip) (m : BitVec 4),
    Becomes (.weaveClear m) c
      ({ c with weave := { c.weave with frames := c.weave.frames.filter (fun e => !(m.toNat.testBit (e.1 / 256) && c.weave.loading.contains (e.1 / 256))) } })) ∧
  (∀ (c : Chip),
    let cells : List Nat := (c.weave.frames.filter (fun e => c.weave.loading.contains (e.1 / 256))).flatMap (fun e => (List.range 8).map (fun m => 8 * e.1 + m))
    c.weave.loading ≠ [] →
    Becomes (.weaveStart) c
      ((Chip.weaveSeen { c with weave := { c.weave with loading := [], ffs := cells.foldl (fun m n => mapSet false m n (cellBit c n 116)) (c.weave.ffs.filter (fun e => !c.weave.loading.contains (cellQuad e.1))) } }).raise 209)) ∧
  (∀ (c : Chip) (data : Word) (f : Nat),
    c.fld Reg.WEAVE_CFG_ADDR 9 0 = f → c.weave.loading.contains (f / 256) = true →
    Becomes (.frameCommit data) c
      ({ c.setFld Reg.WEAVE_CFG_ADDR 9 0 (f + 1) with weave := { c.weave with window := [], frames := mapSet 0 c.weave.frames f ((mapSet 0 c.weave.window 79 data.toNat).foldl (fun b e => b + e.2 * 2 ^ (32 * e.1)) 0) } })) ∧
  (∀ (c : Chip) (data : Word) (f : Nat),
    c.fld Reg.WEAVE_CFG_ADDR 9 0 = f → c.weave.loading.contains (f / 256) = false →
    Becomes (.frameCommit data) c
      ((Chip.countFld { c.setFld Reg.WEAVE_CFG_ADDR 9 0 (f + 1) with weave := { c.weave with window := [] } } Reg.WEAVE_CFG_STAT 15 0 1).raise 210)) ∧
  (∀ (c : Chip),
    Becomes (.cfgStatRead) c
      ((c.respond (respOk (weaveCfgStat c))).setFld Reg.WEAVE_CFG_STAT 15 0 0)) ∧
  (∀ (c : Chip) (k : Fin 64) (data : Word),
    Machine.fld data 14 12 < 6 → c.weave.loading = [] →
    Becomes (.pinModeWrite k data) c
      ((c.setReg (Reg.WEAVE_PINk k.val) (Machine.setFld (data &&& 0x71FC) 14 12 (Machine.fld data 14 12))).weaveSeen)) ∧
  (∀ (c : Chip) (k : Fin 64) (data : Word),
    6 ≤ Machine.fld data 14 12 → c.weave.loading = [] →
    Becomes (.pinModeWrite k data) c
      ((c.setReg (Reg.WEAVE_PINk k.val) (Machine.setFld (data &&& 0x71FC) 14 12 (c.fld (Reg.WEAVE_PINk k.val) 14 12))).weaveSeen)) ∧
  (∀ (c : Chip) (pads : BitVec 64) (ign : Bool) (accel : Bool) (pps : Bool),
    let d : Chip := c.weaveInputs pads ign accel pps
    trigLines d = d.weave.trig →
    Becomes (.triggerLineChange pads ign accel pps) c
      ((List.range 4).foldl (fun x e => x.raiseIf ((userLines d).testBit e && !d.weave.user.testBit e) (212 + e)) { d with weave := { d.weave with user := userLines d } })) ∧
  (∀ (c : Chip) (pads : BitVec 64) (ign : Bool) (accel : Bool) (pps : Bool),
    let d : Chip := c.weaveInputs pads ign accel pps
    trigLines d ≠ d.weave.trig →
    Becomes (.triggerLineChange pads ign accel pps) c
      ((((d.setReg Reg.WEAVE_TRIG_EDGE (d.reg Reg.WEAVE_TRIG_EDGE ||| BitVec.ofNat 32 (trigLines d ^^^ d.weave.trig))).sawLines (trigLines d)).raise 208).latchUser)) ∧
  (∀ (c : Chip) (pads : BitVec 64) (ign : Bool) (accel : Bool) (pps : Bool),
    let d : Chip := c.weaveInputs pads ign accel pps
    trigLines d = d.weave.trig →
    Becomes (.wvUserEvent pads ign accel pps) c
      ((List.range 4).foldl (fun x e => x.raiseIf ((userLines d).testBit e && !d.weave.user.testBit e) (212 + e)) { d with weave := { d.weave with user := userLines d } })) ∧
  (∀ (c : Chip) (pads : BitVec 64) (ign : Bool) (accel : Bool) (pps : Bool),
    let d : Chip := c.weaveInputs pads ign accel pps
    trigLines d ≠ d.weave.trig →
    Becomes (.wvUserEvent pads ign accel pps) c
      ((((d.setReg Reg.WEAVE_TRIG_EDGE (d.reg Reg.WEAVE_TRIG_EDGE ||| BitVec.ofNat 32 (trigLines d ^^^ d.weave.trig))).sawLines (trigLines d)).raise 208).latchUser)) ∧
  (∀ (c : Chip),
    c.bit Reg.WEAVE_BANK 3 = false →
    Becomes (.bankFault true) c
      (((c.keepPins ((List.range 32).map (fun k => 32 + k))).setBit Reg.WEAVE_BANK 3 true).weaveSeen.raise 211)) ∧
  (∀ (c : Chip),
    c.bit Reg.WEAVE_BANK 1 = true →
    Becomes (.bankFault false) c
      (c.keepPins ((List.range 32).map (fun k => 0 + k))))

/-- The ADC and the serial buses of the Weave complete. The result of an ADC channel is the mean of its conversions with the scan count,
its flag clears below LOW and sets above HIGH with EV216 for a change, and the last channel ends the scan with EV217; an acknowledged
byte goes on, a NACK drops the commands up to STOP and raises the master's event; a byte read enters the receive FIFO; a stretch beyond
its limit sets TIMEOUT, a held line BUSERR; an SPI word leaves the transmit FIFO and one enters the receive FIFO; the receive registers
pop their heads and read 0 when empty. (R507, R508, R509, R513) -/
def Obligations.WeaveBusCommandsComplete : Prop :=
  (∀ (c : Chip) (conv : List (BitVec 12)) (k : Nat),
    let v : Nat := (conv.take (2 ^ adcAvg c k)).foldl (fun a x => a + x.toNat) 0 / 2 ^ adcAvg c k % 4096
    let flag : Bool := if c.fld (Reg.WEAVE_ADC_CHc k) 23 12 < v then true else if v < c.fld (Reg.WEAVE_ADC_CHc k) 11 0 then false else c.bit (Reg.WEAVE_ADC_RESc k) 31
    let d : Chip := c.setReg (Reg.WEAVE_ADC_RESc k) (BitVec.ofNat 32 (flag.toNat * 2 ^ 31 + 2 ^ 30 + c.weave.scans % 4096 * 2 ^ 16 + v))
    let e : Chip := ((adcEdges c k v d).raiseIf (decide (flag ≠ c.bit (Reg.WEAVE_ADC_RESc k) 31)) 216).weaveSeen
    c.bit Reg.WEAVE_ADC_CTL 0 = true → adcChannel c = some k →
    (List.range 16).any (fun j => decide (k < j) && adcEn c j) = true →
    Becomes (.adcChannelResult conv) c
      ({ e with weave := { e.weave with adcNext := k + 1 } })) ∧
  (∀ (c : Chip) (conv : List (BitVec 12)) (k : Nat),
    let v : Nat := (conv.take (2 ^ adcAvg c k)).foldl (fun a x => a + x.toNat) 0 / 2 ^ adcAvg c k % 4096
    let flag : Bool := if c.fld (Reg.WEAVE_ADC_CHc k) 23 12 < v then true else if v < c.fld (Reg.WEAVE_ADC_CHc k) 11 0 then false else c.bit (Reg.WEAVE_ADC_RESc k) 31
    let d : Chip := c.setReg (Reg.WEAVE_ADC_RESc k) (BitVec.ofNat 32 (flag.toNat * 2 ^ 31 + 2 ^ 30 + c.weave.scans % 4096 * 2 ^ 16 + v))
    let e : Chip := ((adcEdges c k v d).raiseIf (decide (flag ≠ c.bit (Reg.WEAVE_ADC_RESc k) 31)) 216).weaveSeen
    c.bit Reg.WEAVE_ADC_CTL 0 = true → adcChannel c = some k →
    (List.range 16).any (fun j => decide (k < j) && adcEn c j) = false →
    Becomes (.adcChannelResult conv) c
      (Chip.raise { e with weave := { e.weave with adcNext := 0, scans := e.weave.scans + 1 } } 217)) ∧
  (∀ (c : Chip) (n : Fin 4) (x : I2c) (v : Nat) (rest : List Nat),
    c.bit (Reg.WEAVE_I2Cn_CTL n.val) 31 = true → i2cOf c n.val = x → x.cmds = v :: rest → natBits v 9 8 = 0 →
    Becomes (.i2cWrite n true) c
      (c.i2cNext n.val x rest ((if v.testBit 10 then [I2cAct.start] else []) ++ [.wrote (v % 256)]))) ∧
  (∀ (c : Chip) (n : Fin 4) (x : I2c) (v : Nat) (rest : List Nat),
    c.bit (Reg.WEAVE_I2Cn_CTL n.val) 31 = true → i2cOf c n.val = x → x.cmds = v :: rest → natBits v 9 8 = 0 →
    Becomes (.i2cWrite n false) c
      ((((c.setI2c n.val { x with cmds := afterStop rest, sent := x.sent ++ (if v.testBit 10 then [I2cAct.start] else []) ++ [.wrote (v % 256)] ++ [.stop] }).setBit (Reg.WEAVE_I2Cn_STAT n.val) 30 true).setBit (Reg.WEAVE_I2Cn_STAT n.val) 31 (!(afterStop rest).isEmpty)).raise (218 + n.val))) ∧
  (∀ (c : Chip) (n : Fin 4) (b : Byte) (x : I2c) (v : Nat) (rest : List Nat),
    c.bit (Reg.WEAVE_I2Cn_CTL n.val) 31 = true → i2cOf c n.val = x → x.cmds = v :: rest → natBits v 9 8 = 1 →
    x.rx.length < 32 →
    Becomes (.i2cReadAck n b) c
      (c.i2cNext n.val { x with rx := x.rx ++ [b] } rest ((if v.testBit 10 then [I2cAct.start] else []) ++ [.read true]))) ∧
  (∀ (c : Chip) (n : Fin 4) (b : Byte) (x : I2c) (v : Nat) (rest : List Nat),
    c.bit (Reg.WEAVE_I2Cn_CTL n.val) 31 = true → i2cOf c n.val = x → x.cmds = v :: rest → natBits v 9 8 = 2 →
    x.rx.length < 32 →
    Becomes (.i2cReadNack n b) c
      (c.i2cNext n.val { x with rx := x.rx ++ [b] } rest ((if v.testBit 10 then [I2cAct.start] else []) ++ [.read false]))) ∧
  (∀ (c : Chip) (n : Fin 4) (x : I2c) (v : Nat) (rest : List Nat),
    c.bit (Reg.WEAVE_I2Cn_CTL n.val) 31 = true → i2cOf c n.val = x → x.cmds = v :: rest → natBits v 9 8 = 3 →
    Becomes (.i2cStop n) c
      (c.i2cNext n.val x rest ((if v.testBit 10 then [I2cAct.start] else []) ++ [.stop]))) ∧
  (∀ (c : Chip) (n : Fin 4) (x : I2c),
    c.bit (Reg.WEAVE_I2Cn_CTL n.val) 31 = true → i2cOf c n.val = x → x.cmds ≠ [] →
    Becomes (.i2cTimeout n false) c
      ((((c.setI2c n.val { x with cmds := afterStop x.cmds, sent := x.sent ++ [.nineClocks, .stop] }).setBit (Reg.WEAVE_I2Cn_STAT n.val) 29 true).setBit (Reg.WEAVE_I2Cn_STAT n.val) 31 (!(afterStop x.cmds).isEmpty)).raise (218 + n.val))) ∧
  (∀ (c : Chip) (n : Fin 4),
    c.bit (Reg.WEAVE_I2Cn_CTL n.val) 31 = true → (i2cOf c n.val).cmds = [] →
    Becomes (.i2cTimeout n true) c
      (((c.setI2c n.val { i2cOf c n.val with sent := (i2cOf c n.val).sent ++ [.nineClocks, .stop] }).setBit (Reg.WEAVE_I2Cn_STAT n.val) 28 true).raise (218 + n.val))) ∧
  (∀ (c : Chip) (n : Fin 4) (b : Byte) (rest : List Byte),
    (i2cOf c n.val).rx = b :: rest →
    Becomes (.i2cRxRead n) c
      ((c.setI2c n.val { i2cOf c n.val with rx := rest }).respond (respOk b.toNat))) ∧
  (∀ (c : Chip) (n : Fin 4),
    (i2cOf c n.val).rx = [] →
    Becomes (.i2cRxRead n) c
      (c.respond (respOk 0))) ∧
  (∀ (c : Chip) (n : Fin 2) (data : Word) (v : Nat) (rest : List Nat),
    c.bit (Reg.WEAVE_SPIn_CTL n.val) 31 = true → (spiOf c n.val).tx = v :: rest → (spiOf c n.val).rx.length < 16 →
    Becomes (.spiWord n data) c
      ((c.setSpi n.val { tx := rest, rx := (spiOf c n.val).rx ++ [data.toNat % 2 ^ spiBits c n.val], held := spiHold c n.val rest, sent := (spiOf c n.val).sent ++ [{ cs := c.fld (Reg.WEAVE_SPIn_CTL n.val) 27 26, mode := c.fld (Reg.WEAVE_SPIn_CTL n.val) 29 28, bits := spiBits c n.val, word := v % 2 ^ spiBits c n.val }] }).raiseIf rest.isEmpty (222 + n.val))) ∧
  (∀ (c : Chip) (n : Fin 2) (v : Nat) (rest : List Nat),
    (spiOf c n.val).rx = v :: rest →
    Becomes (.spiRxRead n) c
      ((c.setSpi n.val { spiOf c n.val with rx := rest }).respond (respOk v)))

/-- The start-up and debug authentication commands complete. The release of reset starts the machine once, and at step 6 enters the
start-up mode where nothing is to recover, else RECOVERY, which ends with the start-up mode; step 3 of the boot chain ends in the error
state or lets the core be released from copy A or copy B, for which a worker waits for its place; a wanted preemption goes to the
sequencer; at a port that is there, the Ethernet port in SERVICE only, a challenge draws a fresh nonce valid from now and a locked port
shows RESULT 6; a key verification uses the nonce up, one for level 0 closes the port; a granted one sets the level with EV240, the
eighth refusal locks with EV242; an old nonce expires; CLOSE gives level 0. (R183, R185, R344, R345, R385, R473, R474, R521, R537,
R538, R539, R540) -/
def Obligations.BootAndDebugAccessCommandsComplete : Prop :=
  (∀ (c : Chip) (passed : BitVec 7) (rs : List RepairReport),
    c.pow.started = false → c.pow.vinLow = false → railsGood c = true →
    Becomes (.resetRelease passed rs) c
      (c.resetRelease passed rs)) ∧
  (∀ (c : Chip) (passed : BitVec 7) (rs : List RepairReport),
    c.pow.started = false → c.pow.vinLow = true ∨ railsGood c = false →
    Becomes (.resetRelease passed rs) c
      (c)) ∧
  (∀ (c : Chip) (passed : BitVec 7) (rs : List RepairReport),
    c.pow.started = true → bootDue c = true → needsRecovery c = false → odNat c 0x2002 0 ≠ 5 → checkFailure c = none →
    Becomes (.resetRelease passed rs) c
      (c.enterMode (odNat c 0x2002 0))) ∧
  (∀ (c : Chip) (passed : BitVec 7) (rs : List RepairReport) (f : Nat × Nat),
    c.pow.started = true → bootDue c = true → needsRecovery c = false → odNat c 0x2002 0 ≠ 5 → checkFailure c = some f →
    Becomes (.resetRelease passed rs) c
      ((c.modeRefused f).enterMode 5)) ∧
  (∀ (c : Chip) (a : List Byte) (b : List Byte),
    let d : Chip := c.bootStep3
    bootOpen c = true → c.bit Reg.SILO_STAT 31 = true → isManager c = true → isManager d = true → sealState d ≠ 3 →
    Becomes (.coreRelease a b) c
      (d.bootChain (flashReader 0) (flashReader 0x800000))) ∧
  (∀ (c : Chip) (a : List Byte) (b : List Byte),
    let d : Chip := c.bootStep3
    bootOpen c = true → c.bit Reg.SILO_STAT 31 = true → isManager c = false → (upstream d).isSome = true → sealState d ≠ 3 →
    Becomes (.coreRelease a b) c
      (d.bootChain (farReader a) (farReader b))) ∧
  (∀ (c : Chip) (a : List Byte) (b : List Byte),
    let d : Chip := c.bootStep3
    bootOpen c = true → c.bit Reg.SILO_STAT 31 = true → sealState d = 3 ∨ isManager d = false ∧ upstream d = none →
    Becomes (.coreRelease a b) c
      (d)) ∧
  (∀ (c : Chip),
    phaseOf c = 1 → bootDue c = true → needsRecovery c = true →
    Becomes (.recovery) c
      (c.recoveryStart)) ∧
  (∀ (c : Chip),
    phaseOf c = 2 → c.ev.recovered = true → recordsPlaced c = true →
    Becomes (.recovery) c
      (c.startUpMode)) ∧
  (∀ (c : Chip),
    phaseOf c = 2 → c.ev.recovered = false →
    Becomes (.recovery) c
      (c)) ∧
  (∀ (c : Chip),
    c.grn.preempt = .idle → wantsPreempt c = true →
    Becomes (.preemptRequest) c
      (Chip.takeUrgent { c with grn := { c.grn with preempt := .requested } })) ∧
  (∀ (c : Chip) (p : Fin 3),
    portThere c p.val = true → (debugPort c p.val).locked = false →
    Becomes (.challenge p) c
      ((c.drawBytes 32).2.onPort p.val (fun x => { x with nonce := (c.drawBytes 32).1, nonceAt := some c.ns }))) ∧
  (∀ (c : Chip),
    c.fld Reg.SYS_MODE 7 0 ≠ 5 →
    Becomes (.challenge 2) c
      (c)) ∧
  (∀ (c : Chip) (p : Fin 3),
    portThere c p.val = true → (debugPort c p.val).locked = true →
    Becomes (.challenge p) c
      (c.onPort p.val (fun x => { x with result := 6 }))) ∧
  (∀ (c : Chip) (p : Fin 3) (level : Fin 4),
    let d : Chip := c.onPort p.val (fun x => { x with authctl := ((debugPort c p.val).authctl &&& 0xFF0000#32) ||| BitVec.ofNat 32 level.val })
    portThere c p.val = true → level ≠ 0 → (debugPort d p.val).locked = false → (debugPort d p.val).verify = none →
    Becomes (.verify p false level) c
      (d.onPort p.val (fun x => { x with verify := some (keyVerdict d p.val level.val, level.val), nonceAt := none }))) ∧
  (∀ (c : Chip) (p : Fin 3) (level : Fin 4),
    let d : Chip := c.onPort p.val (fun x => { x with authctl := ((debugPort c p.val).authctl &&& 0xFF0000#32) ||| BitVec.ofNat 32 (256 + level.val) })
    portThere c p.val = true → level ≠ 0 → (debugPort d p.val).locked = false → (debugPort d p.val).verify = none →
    Becomes (.verify p true level) c
      (d.onPort p.val (fun x => { x with verify := some (passwordVerdict d p.val, Nat.min 2 level.val) }))) ∧
  (∀ (c : Chip) (p : Fin 3) (password : Bool),
    portThere c p.val = true →
    Becomes (.verify p password 0) c
      ((c.onPort p.val (fun x => { x with authctl := ((debugPort c p.val).authctl &&& 0xFF0000#32) ||| BitVec.ofNat 32 (256 * password.toNat) })).onPort p.val (fun x => { x with level := 0 }))) ∧
  (∀ (c : Chip) (p : Fin 3),
    (debugPort c p.val).verify = some (1, 1) → c.fld Reg.DBG_AON 30 29 < 1 →
    Becomes (.verifyDone p) c
      ((((c.onPort p.val (fun x => { x with verify := none, result := 1 })).onPort p.val (fun x => { x with level := 1 })).setFld Reg.DBG_AON 30 29 1).raise 240)) ∧
  (∀ (c : Chip) (p : Fin 3) (v : Nat) (l : Nat),
    (debugPort c p.val).verify = some (v, l) → v ≠ 1 → (debugPort c p.val).fails = 7 →
    Becomes (.verifyDone p) c
      ((((c.onPort p.val (fun x => { x with verify := none, result := v })).onPort p.val (fun x => { x with fails := 8, locked := true })).raise 241).raise 242)) ∧
  (∀ (c : Chip) (p : Fin 3),
    nonceValid c p.val = false →
    Becomes (.nonceExpiry p) c
      (c.onPort p.val (fun x => { x with nonceAt := none }))) ∧
  (∀ (c : Chip) (p : Fin 3),
    Becomes (.close p) c
      (c.onPort p.val (fun x => { x with level := 0 })))

/-- The commands of the CAN controllers, the Ethernet MACs and the host port complete. A CAN frame that no filter takes changes nothing,
one the first matching filter takes is posted; a waiting entry is sent, or completed with ERR by a disabled controller; the error state
and its counters are taken with their event, and recovery ends error-active; an Ethernet frame for the engine joins its queue or is
dropped at 16 with EV196, from which a datagram that passes the checks of R417 is handed to the engine, a PAUSE frame stops
transmission for its quanta, any other is posted; the second TX ring is served first; a change of a link is reported; a host reset
keeps the link and closes its debug port; a doorbell queues a slot's request; an answer goes into its slot with EV179; a read TLP
answers data and completion status. (R407, R408, R410, R411, R414, R415, R417, R424, R425, R441, R443, R444) -/
def Obligations.NetworkAndHostCommandsComplete : Prop :=
  (∀ (c : Chip) (k : Fin 4) (f : CanFrame) (sof : DWord),
    canOn c k.val = true → f.fd = false → nodeOn c k.val = false →
    (List.range 32).find? (fun n => filterMatches c k.val n f) = none →
    Becomes (.canRxFrame k f sof) c
      (c)) ∧
  (∀ (c : Chip) (k : Fin 4) (f : CanFrame) (sof : DWord) (n : Nat),
    canOn c k.val = true → f.fd = false → nodeOn c k.val = false →
    (List.range 32).find? (fun n => filterMatches c k.val n f) = some n → ringFull c (Reg.CANRX_BASE_LO k.val) = false →
    Becomes (.canRxFrame k f sof) c
      ((((c.blockStore (ringEntry c (Reg.CANRX_BASE_LO k.val) 128 (ringTail c (Reg.CANRX_BASE_LO k.val))) (listFit 0 128 (canHeader f (ringPhase c (Reg.CANRX_BASE_LO k.val)) false n sof ++ (if f.rtr then [] else f.data.take 64)))).2).ringProduced (Reg.CANRX_BASE_LO k.val)).raise (204 + k.val))) ∧
  (∀ (c : Chip) (k : Fin 4) (f : CanFrame) (d : Chip) (sof : DWord),
    c.isOn .can = true → c.canHead k.val = (some f, d) → c.bit (Reg.CAN_CTLc k.val) 31 = false →
    Becomes (.canTxFrame k sof) c
      (d.canDone k.val f true sof)) ∧
  (∀ (c : Chip) (k : Fin 4) (f : CanFrame) (d : Chip) (sof : DWord),
    c.isOn .can = true → c.canHead k.val = (some f, d) → c.bit (Reg.CAN_CTLc k.val) 31 = true →
    c.bit (Reg.CAN_CTLc k.val) 29 = false → canState c k.val ≠ 2 → nodeOn c k.val = false → f.fd = false →
    Becomes (.canTxFrame k sof) c
      ((d.canPut k.val f).canDone k.val f false sof)) ∧
  (∀ (c : Chip) (k : Fin 4) (tec : Byte) (r : Byte),
    c.isOn .can = true → c.bit (Reg.CAN_CTLc k.val) 31 = true → canState c k.val = 0 →
    Becomes (.canErrorState k 1 tec r) c
      ((((c.setFld (Reg.CAN_STATc k.val) 31 30 1).setFld (Reg.CAN_STATc k.val) 23 16 r.toNat).setFld (Reg.CAN_STATc k.val) 15 8 tec.toNat).raise (200 + k.val))) ∧
  (∀ (c : Chip) (k : Fin 4) (tec : Byte) (r : Byte),
    let d : Chip := ((c.setFld (Reg.CAN_STATc k.val) 31 30 2).setFld (Reg.CAN_STATc k.val) 23 16 r.toNat).setFld (Reg.CAN_STATc k.val) 15 8 255
    c.isOn .can = true → c.bit (Reg.CAN_CTLc k.val) 31 = true → canState c k.val ≠ 2 → c.bit (Reg.CAN_CTLc k.val) 28 = true →
    Becomes (.canErrorState k 2 tec r) c
      (Chip.raise { d with can := { d.can with recov := d.can.recov ++ [k.val] } } (200 + k.val))) ∧
  (∀ (c : Chip) (k : Fin 4),
    portState c (regNode (Reg.CAN_CTLc k.val)) = 0 → canState c k.val = 2 → c.can.recov.contains k.val = false →
    Becomes (.recover k) c
      ({ c with can := { c.can with recov := c.can.recov ++ [k.val] } })) ∧
  (∀ (c : Chip) (k : Fin 4),
    c.can.recov.contains k.val = true →
    Becomes (.busOffRecoveryDone k) c
      ({ (c.setFld (Reg.CAN_STATc k.val) 31 30 0).setFld (Reg.CAN_STATc k.val) 23 8 0 with can := { c.can with recov := c.can.recov.filter (fun x => decide (x ≠ k.val)) } })) ∧
  (∀ (c : Chip) (k : Fin 4),
    portState c (regNode (Reg.CAN_STATc k.val)) = 0 →
    Becomes (.canStatRead k) c
      ((c.respond (respOk (c.reg (Reg.CAN_STATc k.val)).toNat)).setFld (Reg.CAN_STATc k.val) 7 0 0)) ∧
  (∀ (c : Chip) (m : Fin 2) (f : List Byte) (sof : DWord) (g : OdDatagram),
    macOn c m.val = true → (ethMac c m.val).linkUp = true → f.length ≤ macMaxLen c m.val → pauseOf f = none →
    odDatagramOf c m.val f = some g → (ethMac c m.val).odq.length < 16 →
    Becomes (.ethRxFrame m f false sof) c
      (c.onMac m.val (fun x => { x with odq := x.odq ++ [g] }))) ∧
  (∀ (c : Chip) (m : Fin 2) (f : List Byte) (sof : DWord) (g : OdDatagram),
    macOn c m.val = true → (ethMac c m.val).linkUp = true → f.length ≤ macMaxLen c m.val → pauseOf f = none →
    odDatagramOf c m.val f = some g → 16 ≤ (ethMac c m.val).odq.length →
    Becomes (.ethRxFrame m f false sof) c
      ((c.countFld (Reg.ETH_ODDROP m.val) 15 0 1).raise 196)) ∧
  (∀ (c : Chip) (m : Fin 2) (f : List Byte) (sof : DWord) (q : Nat),
    macOn c m.val = true → (ethMac c m.val).linkUp = true → f.length ≤ macMaxLen c m.val → pauseOf f = some q →
    Becomes (.ethRxFrame m f false sof) c
      (c.onMac m.val (fun x => { x with pausedTo := c.ns + q * 512000 / macRate c m.val }))) ∧
  (∀ (c : Chip) (m : Fin 2) (f : List Byte) (sof : DWord),
    macOn c m.val = true → (ethMac c m.val).linkUp = true →
    Becomes (.ethRxFrame m f true sof) c
      (c.ethPost m.val f true sof)) ∧
  (∀ (c : Chip) (m : Fin 2) (sof : DWord),
    macOn c m.val = true → (ethMac c m.val).linkUp = true → (ethMac c m.val).pausedTo ≤ c.ns →
    ringEmpty c (Reg.ETHTXB_BASE_LO m.val) = false →
    Becomes (.ethTxFrame m sof) c
      (c.ethSend m.val (Reg.ETHTXB_BASE_LO m.val) sof)) ∧
  (∀ (c : Chip) (m : Fin 2) (sof : DWord),
    macOn c m.val = true → (ethMac c m.val).linkUp = true → (ethMac c m.val).pausedTo ≤ c.ns →
    ringEmpty c (Reg.ETHTXB_BASE_LO m.val) = true → ringEmpty c (Reg.ETHTX_BASE_LO m.val) = false →
    Becomes (.ethTxFrame m sof) c
      (c.ethSend m.val (Reg.ETHTX_BASE_LO m.val) sof)) ∧
  (∀ (c : Chip) (m : Fin 2) (up : Bool),
    (ethMac c m.val).linkUp = !up →
    Becomes (.ethLinkChange m up) c
      ((c.onMac m.val (fun x => { x with linkUp := up })).raise (192 + m.val))) ∧
  (∀ (c : Chip) (m : Fin 2),
    portState c (regNode (Reg.ETH_ODDROP m.val)) = 0 →
    Becomes (.oddropRead m) c
      ((c.respond (respOk (c.reg (Reg.ETH_ODDROP m.val)).toNat)).setFld (Reg.ETH_ODDROP m.val) 15 0 0)) ∧
  (∀ (c : Chip),
    Becomes (.pciaReset) c
      ((Chip.closePort { (c.setReg Reg.PCIA_B2WIN (regReset Reg.PCIA_B2WIN)).setReg Reg.PCIA_ODDONE 0 with host := { linkUp := c.host.linkUp, memWr := c.host.memWr, aer := c.host.aer }, od := { c.od with jobs := c.od.jobs.filter (fun j => match j with | .message (.slot _) _ => false | _ => true), writes := c.od.writes.filter (fun w => !(decide (16 ≤ w.client) && decide (w.client < 24))) } } 1).raise 177)) ∧
  (∀ (c : Chip) (up : Bool),
    c.host.linkUp = !up →
    Becomes (.pciaLinkChange up) c
      (Chip.raise { c with host := { c.host with linkUp := up } } 176)) ∧
  (∀ (c : Chip) (k : Fin 8),
    portState c (regNode Reg.PCIA_ODBELL) = 0 → c.host.pending.contains k.val = false →
    Becomes (.odDoorbell (BitVec.ofNat 8 (2 ^ k.val))) c
      ({ c with host := { c.host with pending := c.host.pending ++ [k.val] }, od := { c.od with jobs := c.od.jobs ++ [.message (.slot k.val) (slotRequest c k.val)] } })) ∧
  (∀ (c : Chip) (k : Nat) (bs : List Byte) (rest : List (Nat × List Byte)),
    c.host.answers = (k, bs) :: rest →
    Becomes (.odSlotAnswer) c
      (((Chip.slotWrite { c with host := { c.host with answers := rest, pending := c.host.pending.filter (fun x => decide (x ≠ k)) } } (0x2000 * k + 0x1000) (bs.take 4096)).setBit Reg.PCIA_ODDONE k true).raise 179)) ∧
  (∀ (c : Chip) (off : Word),
    let d : Chip := (c.hostRecord false (respErr 0)).raise 178
    c.host.linkUp = true → c.isOn .pcieA = true → c.host.config.d3hot = false → bar0Target (off.toNat / 4 * 4) = .none →
    Becomes (.pciaInboundTlp false false false off [(0, 15)]) c
      (Chip.respond { d with host := { d.host with answer := 1 } } (respErr 0))) ∧
  (∀ (c : Chip) (off : Word) (a : Nat) (r : Resp) (d : Chip),
    c.host.linkUp = true → c.isOn .pcieA = true → c.host.config.d3hot = false → bar0Target (off.toNat / 4 * 4) = .mesh a →
    c.busRead .host a 4 false = (r, d) → r.status = 0 →
    Becomes (.pciaInboundTlp false false false off [(0, 15)]) c
      (Chip.respond { d with host := { d.host with answer := 0 } } { data := r.data % 2 ^ 32, poison := r.poison })) ∧
  (∀ (c : Chip) (off : Word) (v : Word) (ep : Bool) (r : Resp) (d : Chip),
    c.host.linkUp = true → c.isOn .pcieA = true → c.host.config.d3hot = false →
    c.hostWriteDword false (off.toNat / 4 * 4) 15 v ep = (r, d) → r.status = 0 →
    Becomes (.pciaInboundTlp false true ep off [(v, 15)]) c
      (d)) ∧
  (∀ (c : Chip) (k : Fin 2) (d : OdDatagram) (rest : List OdDatagram),
    let e : Chip := c.onMac k.val (fun x => { x with odq := rest })
    (ethMac c k.val).odq = d :: rest → messageOk false d.payload = true → msgOp d.payload = 1 → msgSid d.payload = 0xFF →
    Becomes (.odUdpDatagram k) c
      (Chip.odGo { e with od := { e.od with jobs := e.od.jobs ++ [.message (.udp k.val d.src) d.payload] } })) ∧
  (∀ (c : Chip) (k : Fin 2) (d : OdDatagram) (rest : List OdDatagram) (x : Session),
    let m : List Byte := d.payload
    let e : Chip := (c.onMac k.val (fun x => { x with odq := rest })).putSession (msgSid m) { x with seqLast := some (msgNat m 8 8), since := c.ns }
    (ethMac c k.val).odq = d :: rest → messageOk false m = true → msgOp m ≠ 1 → msgOp m ≠ 2 → msgSid m ≠ 0xFF →
    sessionOf c (msgSid m) = some x → x.isOpen = true → x.seqLast.all (fun n => decide (n < msgNat m 8 8)) = true →
    mac16 x.key (leBytes 8 (msgNat m 8 8) ++ msgCore m) = m.drop (0x18 + msgNat m 6 2) →
    Becomes (.odUdpDatagram k) c
      (Chip.odGo { e with od := { e.od with jobs := e.od.jobs ++ [.message (.udp k.val d.src) m] } }))

/-- The mailbox commands of the Seal Unit are taken and do their work. On a channel that is free, with the Seal Unit in BOOT or OPERATIONAL
and no read of the command held by the flash controller, each command is taken with its arguments and TAG, the channel is BUSY, and its
answer is as R350 gives: GET_INFO, the loading and verification of an image, SVN_COMMIT, BOOT_DONE, VEH_SNAPSHOT, TRIGGER, ATTEST,
GET_CERT, the session and the MAC commands; an OP that a channel does not list answers 1; the completion shows STATUS, TAG and the
results, with EV18 on channel A, and loads the payload of an image that check 6 passes. (R341, R343, R344, R349, R350, R357, R358,
R359, R362) -/
def Obligations.SealMailboxCommandsComplete : Prop :=
  (∀ (c : Chip) (tag : Byte),
    let args : List Nat := sealArgs c false
    sealReady c false = true →
    Becomes (.getInfo tag) c
      (sealTaken false 1 tag args ({ status := 0, rsp := wordsOfBytes (otpSerial c) ++ [(sealStateWord c).toNat, sealCounter c 5 % 2 ^ 32, sealCounter c 0 % 2 ^ 32, sealCounter c 0 / 2 ^ 32 % 2 ^ 32], chip := c }))) ∧
  (∀ (c : Chip) (tag : Byte) (t : Nat),
    let args : List Nat := sealArgs c false
    sealReady c false = true → flashHolds c (sealReads false 2 args) = false → 1 ≤ t → t ≤ 6 →
    natBits (argOf args 2) 7 0 = t → namedType c = some t →
    Becomes (.imageLoad tag) c
      (sealTaken false 2 tag args ((namedHeader c).2.loadContainer (argAddr args 0) (namedHeader c).1))) ∧
  (∀ (c : Chip) (tag : Byte),
    let args : List Nat := sealArgs c false
    sealReady c false = true → flashHolds c (sealReads false 2 args) = false → natBits (argOf args 2) 7 0 = 3 →
    namedType c = some 3 → phaseAllows (namedHeader c).2 3 (hdrOem (namedHeader c).1) = true →
    (namedHeader c).2.bit Reg.ASQ_LOAD_STAT 31 = true → (namedHeader c).2.seq.queue = [] →
    (namedHeader c).2.seq.running = none →
    Becomes (.imageLoad tag) c
      (sealTaken false 2 tag args ({ status := 0, waits := true, chip := Chip.customerLoad (namedHeader c).2 (argAddr args 0) (namedHeader c).1 }))) ∧
  (∀ (c : Chip) (tag : Byte) (t : Nat),
    let args : List Nat := sealArgs c false
    let h : List Byte × Chip := namedHeader c
    let r : Option (List Byte) × Chip := h.2.dmaRead (argAddr args 0 + 0x600) (hdrNat h.1 0x0C 4)
    sealReady c false = true → flashHolds c (sealReads false 3 args) = false → 1 ≤ t → t ≤ 6 →
    natBits (argOf args 2) 7 0 = t → namedType c = some t →
    Becomes (.verifyImage tag) c
      (sealTaken false 3 tag args (if headerStatus h.2 h.1 ≠ 0 then { status := headerStatus h.2 h.1, chip := h.2.raise 19 } else match r.1 with | none => { status := stBusError, chip := r.2.raise 19 } | some raw => if sha raw = (h.1.drop 0x40).take 64 then { status := 0, rsp := [hdrNat h.1 8 4], chip := r.2 } else { status := 0x08, chip := r.2.raise 19 }))) ∧
  (∀ (c : Chip) (tag : Byte) (k : Nat) (e : Nat × LoadedImage),
    let args : List Nat := sealArgs c false
    sealReady c false = true → classCounter (natBits (argOf args 0) 7 0) = some k →
    c.su.loaded.reverse.find? (fun e => classCounter e.1 == some k) = some e →
    Becomes (.svnCommit tag) c
      (sealTaken false 4 tag args ({ status := 0, chip := if sealCounter c k < e.2.svn then c.setCounter k e.2.svn else c }))) ∧
  (∀ (c : Chip) (tag : Byte),
    let args : List Nat := sealArgs c false
    sealReady c false = true → c.su.bootDone = false →
    Becomes (.bootDone tag) c
      (sealTaken false 5 tag args ({ status := 0, chip := Chip.setFld { c with su := { c.su with bootDone := true } } Reg.SEAL_STATE 31 28 2 }))) ∧
  (∀ (c : Chip) (tag : Byte),
    let args : List Nat := sealArgs c false
    sealReady c false = true →
    Becomes (.vehSnapshot tag) c
      (sealTaken false 0x10 tag args ({ status := 0, chip := c }))) ∧
  (∀ (c : Chip) (tag : Byte),
    let args : List Nat := sealArgs c false
    sealReady c false = true →
    Becomes (.trigger tag) c
      (sealTaken false 0x11 tag args ({ status := 0, chip := c.markSheaves (fun x => (argOf args 0).testBit x) 2 }))) ∧
  (∀ (c : Chip) (tag : Byte) (k : Nat) (m : List Byte),
    let args : List Nat := sealArgs c false
    let n : Option (List Byte) × Chip := c.dmaRead (argAddr args 0) 32
    let d : Chip := n.2.setCounter 6 (sealCounter n.2 6 + 1)
    let msg : List Byte := attestReport d k m (n.1.getD [])
    let sig : List Byte × Chip := d.signBytes m msg
    let w : Bool × Chip := sig.2.dmaWrite (argAddr args 2) (msg ++ sig.1)
    sealReady c false = true → flashHolds c (sealReads false 0x20 args) = false → attestKey c = some (k, m) →
    insideCommon c (argAddr args 2) 1024 = true → (c.dmaRead (argAddr args 0) 32).1 ≠ none →
    Becomes (.attest tag) c
      (sealTaken false 0x20 tag args ({ status := if w.1 then 0 else stBusError, chip := w.2 }))) ∧
  (∀ (c : Chip) (tag : Byte) (bs : List Byte),
    let args : List Nat := sealArgs c false
    let w : Bool × Chip := c.dmaWrite (argAddr args 1) bs
    sealReady c false = true → argOf args 0 = 1 → c.su.priv.dikCert = some bs → bs.length ≤ argOf args 3 →
    insideCommon c (argAddr args 1) bs.length = true →
    Becomes (.getCert tag) c
      (sealTaken false 0x21 tag args (if w.1 then { status := 0, rsp := [bs.length], chip := w.2 } else { status := stBusError, chip := w.2 }))) ∧
  (∀ (c : Chip) (tag : Byte),
    let args : List Nat := sealArgs c false
    sealReady c false = true →
    Becomes (.sessionCloseAll tag) c
      (sealTaken false 0x23 tag args ({ status := 0, chip := c.dropSessions }))) ∧
  (∀ (c : Chip) (tag : Byte) (fas : List Byte),
    let args : List Nat := sealArgs c true
    let ids : List Nat := (List.range 16).filter (fun i => (sessionOf c i).isNone)
    let id : Nat := listGet 0 ids (c.drawFree.1.toNat % ids.length)
    let ns : List Byte × Chip := c.drawFree.2.drawBytes 16
    sealReady c true = true → c.su.priv.fas = some fas → c.su.lockedAt = none → ids ≠ [] →
    Becomes (.sessionOpen tag) c
      (sealTaken true 0x30 tag args ({ status := 0, rsp := id :: wordsOfBytes ns.1, chip := ns.2.putSession id { nc := argBytes args 0 4, ns := ns.1, key := (leBytes 64 (Config.hmac512 fas ([0x53, 0x4C, 0x4E, 0x31] ++ otpSerial c ++ argBytes args 0 4 ++ ns.1)).toNat).take 32, since := c.ns } }))) ∧
  (∀ (c : Chip) (tag : Byte) (x : Session),
    let args : List Nat := sealArgs c true
    let d : Chip := c.dropSession (argOf args 0)
    sealReady c true = true → sessionOf c (argOf args 0) = some x → x.isOpen = false →
    Becomes (.sessionAuth tag) c
      (sealTaken true 0x31 tag args (if mac16 x.key (1 :: (x.nc ++ x.ns)) = argBytes args 1 4 then { status := 0, rsp := wordsOfBytes (mac16 x.key (2 :: (x.ns ++ x.nc))), needs := some (argOf args 0), chip := Chip.raise { c with su := { c.su with sessions := mapInsert (argOf args 0) { x with isOpen := true, since := c.ns } (mapErase (argOf args 0) c.su.sessions), fails := 0 } } 234 } else { status := 0x0E, chip := (if c.su.fails + 1 = 8 then { d with su := { d.su with fails := 0, lockedAt := some d.ns } } else { d with su := { d.su with fails := c.su.fails + 1 } }).raise 25 }))) ∧
  (∀ (c : Chip) (tag : Byte),
    let args : List Nat := sealArgs c true
    sealReady c true = true → (sessionOf c (argOf args 0)).isSome = true →
    Becomes (.sessionClose tag) c
      (sealTaken true 0x32 tag args ({ status := 0, chip := c.dropSession (argOf args 0) }))) ∧
  (∀ (c : Chip) (tag : Byte) (x : Session),
    let args : List Nat := sealArgs c true
    let n : Nat := argOf args 1 + argOf args 2 * 2 ^ 32
    let m : Option (List Byte) × Chip := c.dmaRead (argAddr args 3) (argOf args 5)
    let k : Option (List Byte) × Chip := m.2.dmaRead (argAddr args 6) 16
    sealReady c true = true → flashHolds c (sealReads true 0x40 args) = false → sessionOf c (argOf args 0) = some x →
    sessionOf k.2 (argOf args 0) = some x → x.isOpen = true → x.seqLast = none → m.1.isSome = true → k.1.isSome = true →
    Becomes (.checkMac tag) c
      (sealTaken true 0x40 tag args (if mac16 x.key (leBytes 8 n ++ m.1.getD []) ≠ k.1.getD [] then { status := 0x0E, needs := some (argOf args 0), chip := k.2 } else { status := 0, needs := some (argOf args 0), chip := k.2.putSession (argOf args 0) { x with seqLast := some n, since := k.2.ns } }))) ∧
  (∀ (c : Chip) (tag : Byte) (x : Session),
    let args : List Nat := sealArgs c true
    let m : Option (List Byte) × Chip := c.dmaRead (argAddr args 3) (argOf args 5)
    sealReady c true = true → flashHolds c (sealReads true 0x41 args) = false → sessionOf c (argOf args 0) = some x →
    sessionOf m.2 (argOf args 0) = some x → x.isOpen = true → m.1.isSome = true →
    Becomes (.makeMac tag) c
      (sealTaken true 0x41 tag args ({ status := 0, rsp := [x.own % 2 ^ 32, x.own / 2 ^ 32] ++ wordsOfBytes (mac16 x.key (leBytes 8 x.own ++ m.1.getD [])), needs := some (argOf args 0), chip := m.2.putSession (argOf args 0) { x with own := x.own + 1 } }))) ∧
  (∀ (c : Chip) (b : Bool) (op : Byte) (tag : Byte),
    sealReady c b = true →
    (b, op.toNat) ∉ [(false, 1), (false, 2), (false, 3), (false, 4), (false, 5), (false, 0x10), (false, 0x11), (false, 0x20), (false, 0x21), (false, 0x22), (false, 0x23), (true, 0x30), (true, 0x31), (true, 0x32), (true, 0x40), (true, 0x41)] →
    Becomes (.sealBadOp b op tag) c
      (sealTaken b op.toNat tag (sealArgs c b) { status := 1, chip := c })) ∧
  (∀ (c : Chip) (m : Mailbox) (st : Nat) (rs : List Nat),
    c.isOn .sealUnit = true → c.su.boxB = some m → m.later = .nothing → m.answer = some (st, rs) → m.needs = none →
    Becomes (.sealCmdComplete true) c
      (sealShown c true m st rs)) ∧
  (∀ (c : Chip) (m : Mailbox) (st : Nat) (rs : List Nat),
    c.isOn .sealUnit = true → c.su.boxA = some m → m.later = .nothing → m.answer = some (st, rs) → m.needs = none →
    m.op ≠ 0x10 →
    Becomes (.sealCmdComplete false) c
      (sealShown c false m st rs)) ∧
  (∀ (c : Chip) (m : Mailbox) (a : Nat) (h : List Byte),
    c.isOn .sealUnit = true → c.su.boxA = some m → m.later = .payload a h → flashHolds c [a] = false → m.needs = none →
    m.op = 2 →
    Becomes (.sealCmdComplete false) c
      (sealShown (c.loadPayload a h).2 false m (c.loadPayload a h).1 []))

/-- The package, tamper, time-out and flash commands of the Seal Unit complete. APPLY_PACKAGE for a container of each TYPE is taken, and
its payload takes effect once every check has passed, else the first failure answers with EV19; MANUFACTURE and PROVISION do their last
steps at their completion; a finished customer load writes its sections and raises EV84; a failed conditional test and a soft tamper
enter the error state, a hard tamper zeroises; sessions not authenticated in 10 s and idle for 300 s go; a lock-out ends after 60 s; an
xSPI command starts where the interface is enabled, and its end stores the data and the flash bytes that changed. (R136, R341, R347,
R352, R353, R354, R356, R358, R359, R361, R363, R364) -/
def Obligations.SealPackageTamperAndFlashCommandsComplete : Prop :=
  (∀ (c : Chip) (tag : Byte),
    let args : List Nat := sealArgs c false
    sealReady c false = true → flashHolds c (sealReads false 0x22 args) = false → namedType c = some 7 →
    Becomes (.provision tag) c
      (sealTaken false 0x22 tag args (packageAnswer c 7 (fun d _ => provisionPackage d) (fun p => .provision ((p.drop 16).take 32) ((p.drop 48).take 32))))) ∧
  (∀ (c : Chip) (tag : Byte),
    let args : List Nat := sealArgs c false
    sealReady c false = true → flashHolds c (sealReads false 0x22 args) = false → namedType c = some 8 →
    Becomes (.revoke tag) c
      (sealTaken false 0x22 tag args (packageAnswer c 8 (fun d p => revokePackage d (hdrOem (namedHeader c).1) p) (fun _ => .nothing)))) ∧
  (∀ (c : Chip) (tag : Byte),
    let args : List Nat := sealArgs c false
    sealReady c false = true → flashHolds c (sealReads false 0x22 args) = false → namedType c = some 9 →
    Becomes (.decommission tag) c
      (sealTaken false 0x22 tag args (packageAnswer c 9 (fun d _ => (0, d.zeroise false)) (fun _ => .nothing)))) ∧
  (∀ (c : Chip) (tag : Byte),
    let args : List Nat := sealArgs c false
    sealReady c false = true → flashHolds c (sealReads false 0x22 args) = false → namedType c = some 10 →
    Becomes (.enroll tag) c
      (sealTaken false 0x22 tag args (packageAnswer c 10 (fun d p => enrollPackage d (hdrOem (namedHeader c).1) p) (fun _ => .nothing)))) ∧
  (∀ (c : Chip) (tag : Byte),
    let args : List Nat := sealArgs c false
    sealReady c false = true → flashHolds c (sealReads false 0x22 args) = false → namedType c = some 11 →
    Becomes (.manufacture tag) c
      (sealTaken false 0x22 tag args (packageAnswer c 11 manufacturePackage (fun _ => .manufacture)))) ∧
  (∀ (c : Chip) (tag : Byte),
    let args : List Nat := sealArgs c false
    sealReady c false = true → flashHolds c (sealReads false 0x22 args) = false → namedType c = some 12 →
    Becomes (.dikCert tag) c
      (sealTaken false 0x22 tag args (packageAnswer c 12 dikCertPackage (fun _ => .nothing)))) ∧
  (∀ (c : Chip) (m : Mailbox),
    c.isOn .sealUnit = true → c.su.boxA = some m → m.later = .manufacture → m.needs = none → m.op = 0x22 →
    Becomes (.sealCmdComplete false) c
      (sealShown c.manufactureEnd false m 0 [])) ∧
  (∀ (c : Chip) (m : Mailbox) (fleet : List Byte) (fas : List Byte),
    c.isOn .sealUnit = true → c.su.boxA = some m → m.later = .provision fleet fas → m.needs = none → m.op = 0x22 →
    Becomes (.sealCmdComplete false) c
      (sealShown (c.provisionEnd fleet fas) false m 0 [])) ∧
  (∀ (c : Chip) (l : CustomerLoad),
    let d : Chip := c.writeMicrocode l.words l.entries
    let e : Chip := ((Chip.loadStat { d with su := { d.su with loaded := d.su.loaded.filter (fun e => decide (e.1 ≠ 3)) ++ [(3, l.image)] } } 2).setBit Reg.ASQ_QSTAT 28 false).raise 84
    c.isOn .sealUnit = true → c.su.load = some l → l.status = 2 →
    Becomes (.customerLoadDone) c
      ({ e with su := { e.su with load := none, boxA := e.su.boxA.map (fun m => if m.op = 2 then { m with answer := some (l.verdict, []) } else m) } })) ∧
  (∀ (c : Chip) (l : CustomerLoad),
    let e : Chip := (((c.raise 19).loadStat l.status).setBit Reg.ASQ_QSTAT 28 false).raise 84
    c.isOn .sealUnit = true → c.su.load = some l → l.status ≠ 2 →
    Becomes (.customerLoadDone) c
      ({ e with su := { e.su with load := none, boxA := e.su.boxA.map (fun m => if m.op = 2 then { m with answer := some (l.verdict, []) } else m) } })) ∧
  (∀ (c : Chip),
    c.isOn .sealUnit = true →
    Becomes (.conditionalTestFail) c
      (c.sealError 2)) ∧
  (∀ (c : Chip),
    c.isOn .sealUnit = true →
    Becomes (.softTamper) c
      ((c.raise 17).sealError 6)) ∧
  (∀ (c : Chip),
    c.isOn .sealUnit = true →
    Becomes (.hardTamper) c
      ((c.raise 17).zeroise true)) ∧
  (∀ (c : Chip) (i : Nat) (x : Session),
    c.su.sessions = [(i, x)] → x.isOpen = false → x.since + 10000000000 ≤ c.ns →
    Becomes (.sessionAuthTimeout) c
      (c.dropSession i)) ∧
  (∀ (c : Chip) (i : Nat) (x : Session),
    c.su.sessions = [(i, x)] → x.isOpen = true → x.since + 300000000000 ≤ c.ns →
    Becomes (.sessionIdleTimeout) c
      (c.dropSession i)) ∧
  (∀ (c : Chip) (t : Nat),
    c.su.lockedAt = some t → t + 60000000000 ≤ c.ns →
    Becomes (.lockoutEnd) c
      ({ c with su := { c.su with lockedAt := none } })) ∧
  (∀ (c : Chip),
    c.xspi.running = false → c.bit Reg.XSPI_CTL 31 = true →
    Becomes (.xspiGo) c
      (Chip.setBit { c with xspi := { c.xspi with running := true } } Reg.XSPI_CMD 31 true)) ∧
  (∀ (c : Chip),
    c.xspi.running = false → c.bit Reg.XSPI_CTL 31 = false →
    Becomes (.xspiGo) c
      (c.setBit Reg.XSPI_CMD 29 true)) ∧
  (∀ (c : Chip) (data : List Byte) (a : BitVec 28) (b : Byte),
    c.xspi.running = true → c.bit Reg.XSPI_CMD 28 = true →
    Becomes (.xspiDone data [(a, b)]) c
      ((Chip.setBit { c.wr8 (0x10000000 + a.toNat) b with xspi := { (c.wr8 (0x10000000 + a.toNat) b).xspi with running := false } } Reg.XSPI_CMD 31 false).setBit Reg.XSPI_CMD 30 true)) ∧
  (∀ (c : Chip) (data : List Byte),
    let d : Chip := c.xspiBuf (listFit 0 (xspiLen c) data)
    c.xspi.running = true → c.bit Reg.XSPI_CMD 28 = false →
    Becomes (.xspiDone data []) c
      ((Chip.setBit { d with xspi := { d.xspi with running := false } } Reg.XSPI_CMD 31 false).setBit Reg.XSPI_CMD 30 true))

/-- The submission commands of the Granary complete. With an entry that can be read and whose target can be read: SUBMIT of a FREE
descriptor that passes the checks of R159 records the context, READY or PARKED; PARK takes READY to PARKED, RELEASE PARKED to READY;
FREE frees a context that is neither STAGED nor RUNNING; SET_DEADLINE and SET_PRIO change those fields; FENCE posts its status; an
undefined OP is refused with BAD_OP; a command refused by state leaves the context and answers BAD_STATE or BUSY. (R149, R150, R153,
R154, R155, R158, R159, R160, R161, R187) -/
def Obligations.GranaryQueueCommandsComplete : Prop :=
  (∀ (c : Chip) (q : Nat) (es : List Nat) (pages : List Nat) (e : Chip),
    let t : Option (List Nat) × Chip := (sqTaken c q).readTarget (sqCtx c q)
    let n : Nat := sqCtx c q
    let d : List Nat := t.1.getD []
    let x : Ctx := { state := 0, desc := d }
    let m : Chip := (t.2.readPmap (pmapAddr x)).2
    let valid : List Nat := (List.range (pcount { x with pmap := es })).filter (fun p => (listGet 0 es p).testBit 31)
    let want : List Nat := valid.filter (fun p => natBits (listGet 0 es p) 19 0 = 0xFFFFF)
    let fs : List Nat := (want.zip pages).foldl (fun l p => listSet l p.1 ((listGet 0 l p.1 &&& (2 ^ 31 + 2 ^ 28)) + 2 ^ 27 + 2 ^ 26 + p.2)) es
    let z : Ctx := ctxSet (ctxSetFlag (ctxSetFlag (ctxSetFlag (ctxSet { x with pmap := fs } 1 23 16 (rehome m (ctxHome { x with pmap := es }))) 6 false) 5 false) 1 false) 14 11 4 0
    sqReady c q 1 = true → t.1.isSome = true → natBits (listGet 0 d 0) 17 0 = n → n < t.2.fld Reg.GRN_CAPFIRST 17 0 →
    natBits (listGet 0 d 0) 21 18 = 0 → (t.2.ctx n).state = 0 → ctxChainLen x ≤ 4 → ctxChainPos x ≤ ctxChainLen x →
    (ctxKernel x :: chainToCome x).all (fun k => kernelValid t.2 k) = true → (t.2.readPmap (pmapAddr x)).1 = some es →
    (valid.filter (fun p => natBits (listGet 0 es p) 19 0 ≠ 0xFFFFF)).any (fun p => !pageAccepted m (listGet 0 es p)) = false →
    m.allocPages (rehome m (ctxHome { x with pmap := es })) want.length = (some pages, e) →
    Becomes (.submit) c
      (sqAnswered c q 1 { status := 0, state := 0, chip := (e.blockWrite (pmapAddr z) (fs.flatMap (leBytes 4))).2.putCtx n { z with state := if (sqArg c q).testBit 0 then 1 else 2 } })) ∧
  (∀ (c : Chip) (q : Nat),
    let t : Option (List Nat) × Chip := (sqTaken c q).readTarget (sqCtx c q)
    sqReady c q 2 = true → t.1.isSome = true → (t.2.ctx (sqCtx c q)).state ∈ [2] →
    Becomes (.park) c
      (sqAnswered c q 2 { status := 0, state := (t.2.ctx (sqCtx c q)).state, chip := t.2.moveCtx (sqCtx c q) 1 })) ∧
  (∀ (c : Chip) (q : Nat),
    let t : Option (List Nat) × Chip := (sqTaken c q).readTarget (sqCtx c q)
    sqReady c q 2 = true → t.1.isSome = true → (t.2.ctx (sqCtx c q)).state = 4 →
    Becomes (.park) c
      (sqAnswered c q 2 { status := 3, state := 4, chip := t.2 })) ∧
  (∀ (c : Chip) (q : Nat),
    let t : Option (List Nat) × Chip := (sqTaken c q).readTarget (sqCtx c q)
    sqReady c q 2 = true → t.1.isSome = true → (t.2.ctx (sqCtx c q)).state = 5 →
    Becomes (.park) c
      (sqAnswered c q 2 { status := 2, state := 5, chip := t.2 })) ∧
  (∀ (c : Chip) (q : Nat),
    let t : Option (List Nat) × Chip := (sqTaken c q).readTarget (sqCtx c q)
    sqReady c q 3 = true → t.1.isSome = true → (t.2.ctx (sqCtx c q)).state ∈ [1] →
    Becomes (.release) c
      (sqAnswered c q 3 { status := 0, state := (t.2.ctx (sqCtx c q)).state, chip := t.2.moveCtx (sqCtx c q) 2 })) ∧
  (∀ (c : Chip) (q : Nat),
    let t : Option (List Nat) × Chip := (sqTaken c q).readTarget (sqCtx c q)
    sqReady c q 3 = true → t.1.isSome = true → (t.2.ctx (sqCtx c q)).state = 2 →
    Becomes (.release) c
      (sqAnswered c q 3 { status := 2, state := 2, chip := t.2 })) ∧
  (∀ (c : Chip) (q : Nat),
    let t : Option (List Nat) × Chip := (sqTaken c q).readTarget (sqCtx c q)
    sqReady c q 4 = true → t.1.isSome = true → (t.2.ctx (sqCtx c q)).state ∈ [1, 2, 5, 6] →
    Becomes (.free) c
      (sqAnswered c q 4 { status := 0, state := (t.2.ctx (sqCtx c q)).state, chip := t.2.freeCtx (sqCtx c q) })) ∧
  (∀ (c : Chip) (q : Nat),
    let t : Option (List Nat) × Chip := (sqTaken c q).readTarget (sqCtx c q)
    sqReady c q 4 = true → t.1.isSome = true → (t.2.ctx (sqCtx c q)).state = 4 →
    Becomes (.free) c
      (sqAnswered c q 4 { status := 3, state := 4, chip := t.2 })) ∧
  (∀ (c : Chip) (q : Nat),
    let t : Option (List Nat) × Chip := (sqTaken c q).readTarget (sqCtx c q)
    sqReady c q 5 = true → t.1.isSome = true → (t.2.ctx (sqCtx c q)).state ∈ [1, 2, 3, 4, 5, 6] →
    Becomes (.setDeadline) c
      (sqAnswered c q 5 { status := 0, state := (t.2.ctx (sqCtx c q)).state, chip := t.2.putCtx (sqCtx c q) (ctxSetFlag (ctxSet (ctxSet (t.2.ctx (sqCtx c q)) 4 31 0 (sqArg c q)) 5 15 0 (sqArg c q / 2 ^ 32)) 5 false) })) ∧
  (∀ (c : Chip) (q : Nat),
    let t : Option (List Nat) × Chip := (sqTaken c q).readTarget (sqCtx c q)
    sqReady c q 6 = true → t.1.isSome = true → (t.2.ctx (sqCtx c q)).state ∈ [1, 2, 3, 4, 5, 6] →
    Becomes (.setPrio) c
      (sqAnswered c q 6 { status := 0, state := (t.2.ctx (sqCtx c q)).state, chip := t.2.putCtx (sqCtx c q) (ctxSet (t.2.ctx (sqCtx c q)) 0 23 22 (sqArg c q)) })) ∧
  (∀ (c : Chip) (q : Nat),
    let t : Option (List Nat) × Chip := (sqTaken c q).readTarget (sqCtx c q)
    sqReady c q 6 = true → t.1.isSome = true → (t.2.ctx (sqCtx c q)).state = 0 →
    Becomes (.setPrio) c
      (sqAnswered c q 6 { status := 2, state := 0, chip := t.2 })) ∧
  (∀ (c : Chip) (q : Nat),
    sqReady c q 7 = true →
    Becomes (.fence) c
      (sqAnswered c q 7 { status := 0, state := ((sqTaken c q).ctx (sqCtx c q)).state, chip := sqTaken c q })) ∧
  (∀ (c : Chip) (q : Nat) (op : Nat),
    let t : Option (List Nat) × Chip := (sqTaken c q).readTarget (sqCtx c q)
    sqReady c q op = true → op = 0 ∨ 8 ≤ op → t.1.isSome = true →
    Becomes (.grnBadOp) c
      (sqAnswered c q op { status := 1, state := (t.2.ctx (sqCtx c q)).state, chip := t.2 }))

/-- The control commands of the Granary complete. ENABLE zeroes the table and begins the initialisation, or fails with INITERR and EV78;
its end sets READY with EV60; KLOCK locks, HOLD holds; a ring's base is written only while the ring is empty, and resets it; a context
past its deadline is LATE with EV55; a round is selected, its pages arrive, and it turns around; an END is accepted at once when the
queue is idle, held when it is busy, and an error without a round; waiting entries are posted once there is room; a preemption is
acknowledged once posted, late after 100 us with EV61; GRN_RSTAT reads and clears ERR. (R146, R151, R161, R162, R164, R168, R172, R176,
R179, R185, R188, R189) -/
def Obligations.GranaryControlCommandsComplete : Prop :=
  (∀ (c : Chip),
    portState c (regNode Reg.GRN_CTL) = 0 → c.bit Reg.GRN_CTL 0 = false → commonReady c = true → commonBlocked c = false →
    insideCommon c (descAddr c 0) 0x1000000 = true →
    insideCommon c (c.fld Reg.GRN_CAPMAP 15 0 * 2 ^ 24) (512 * (0x40000 - c.fld Reg.GRN_CAPFIRST 17 0)) = true →
    Becomes (.grnEnable) c
      ({ (c.setBit Reg.GRN_CTL 0 true).zeroCommon (descAddr c 0) 0x1000000 with grn := { ((c.setBit Reg.GRN_CTL 0 true).zeroCommon (descAddr c 0) 0x1000000).grn with initLeft := true, ctxs := [], pool := [], reserved := [] } })) ∧
  (∀ (c : Chip),
    let d : Chip := (c.setBit Reg.GRN_CTL 0 true).zeroCommon (descAddr c 0) 0x1000000
    portState c (regNode Reg.GRN_CTL) = 0 → c.bit Reg.GRN_CTL 0 = false → commonReady c = true → commonBlocked c = true →
    insideCommon c (descAddr c 0) 0x1000000 = true →
    insideCommon c (c.fld Reg.GRN_CAPMAP 15 0 * 2 ^ 24) (512 * (0x40000 - c.fld Reg.GRN_CAPFIRST 17 0)) = true →
    Becomes (.grnEnable) c
      ({ ((d.setBit Reg.GRN_CTL 0 false).setBit Reg.GRN_STAT 26 true).raise 78 with grn := { (((d.setBit Reg.GRN_CTL 0 false).setBit Reg.GRN_STAT 26 true).raise 78).grn with initLeft := false } })) ∧
  (∀ (c : Chip),
    portState c (regNode Reg.GRN_CTL) = 0 → c.bit Reg.GRN_CTL 0 = false → commonReady c = false →
    Becomes (.grnEnable) c
      ({ ((c.setBit Reg.GRN_CTL 0 false).setBit Reg.GRN_STAT 26 true).raise 78 with grn := { (((c.setBit Reg.GRN_CTL 0 false).setBit Reg.GRN_STAT 26 true).raise 78).grn with initLeft := false } })) ∧
  (∀ (c : Chip),
    let d : Chip := { (c.setBit Reg.GRN_STAT 31 true).raise 60 with grn := { ((c.setBit Reg.GRN_STAT 31 true).raise 60).grn with initLeft := false } }
    c.grn.initLeft = true → commonReady c = true → commonBlocked c = false →
    Becomes (.grnInitDone) c
      (if 32 ≤ tolBound d [1, 3] then d else (List.range 256).foldl Chip.leaveT3 d)) ∧
  (∀ (c : Chip),
    portState c (regNode Reg.GRN_CTL) = 0 →
    Becomes (.klock) c
      (c.setBit Reg.GRN_CTL 2 true)) ∧
  (∀ (c : Chip) (b : Bool),
    portState c (regNode Reg.GRN_CTL) = 0 →
    Becomes (.grnHold b) c
      (c.setBit Reg.GRN_CTL 3 b)) ∧
  (∀ (c : Chip) (r : RingId) (hi : Bool) (data : Word) (x : RegRow),
    let a : Nat := if hi then ringReg r + 4 else ringReg r
    let d : Chip := ((c.setReg a (rowWrite x (c.reg a) data)).setFld (ringReg r + 8) 15 0 0).setFld (ringReg r + 12) 15 0 0
    portState c (regNode (ringReg r)) = 0 → ringEmpty c (ringReg r) = true →
    regRow (if hi then ringReg r + 4 else ringReg r) = some x →
    Becomes (.ringBaseWrite r hi data) c
      ({ d with grn := { d.grn with phase := mapSet true d.grn.phase (ringReg r) true } })) ∧
  (∀ (c : Chip) (r : RingId) (hi : Bool) (data : Word),
    portState c (regNode (ringReg r)) = 0 → ringEmpty c (ringReg r) = false →
    Becomes (.ringBaseWrite r hi data) c
      (c)) ∧
  (∀ (c : Chip) (n : Nat) (x : Ctx),
    c.grn.ctxs = [(n, x)] → 1 ≤ x.state → x.state ≤ 4 → ctxDeadline x ≠ 0 → ctxFlag x 5 = false → deadlineLeft c x < 0 →
    Becomes (.deadlineScan) c
      ((c.putCtx n (ctxSetFlag (c.ctx n) 5 true)).raise 55)) ∧
  (∀ (c : Chip) (cls : Nat) (k : Candidate) (bound : List (Nat × Nat)),
    let d : Chip := bound.foldl (fun c b => c.bindCtx b.1 b.2) c
    let e : Chip := { d with grn := { d.grn with staged := some { kernel := k.kernel, cls := cls, isPart := decide (k.fill < kernelMinFill c k.kernel), bound := bound, decl := kernelDecl c k.kernel, restart := kernelRestart c k.kernel }, gangNext := none } }
    let f : Chip := (e.gangChosen cls k.kernel).stageMore
    c.bit Reg.GRN_CTL 3 = false → c.bit Reg.GRN_STAT 31 = true → c.grn.staged = none → selectRound c = some (cls, k) →
    placeAll c [] (k.ctxs.take k.fill) = bound →
    Becomes (.selection) c
      (if f.grn.preempt = .acked ∧ f.grn.staged.isNone ∧ !f.bit Reg.GRN_CTL 3 then f.endPreempt else f)) ∧
  (∀ (c : Chip) (t : Fin 256) (m : PageMove),
    c.grn.moves.find? (fun m => m.tile == t.val) = some m →
    Becomes (.pageTransferDone t) c
      (((c.wakeTile t.val).finishMove m).stageMore)) ∧
  (∀ (c : Chip) (st : Stall),
    c.grn.stall = some st →
    st.waits.any (fun w => c.grn.moves.any (fun m => m.tile == w.1 && m.page == w.2 && boundCtx c w.1 == some m.ctx)) = false →
    st.isFault = false →
    Becomes (.stallResume) c
      ({ c with grn := { c.grn with stall := none } })) ∧
  (∀ (c : Chip) (st : Stall),
    let d : Chip := (c.wrapCount Reg.GRN_STALL (((c.ns - st.since) * aclkMHz c + 999) / 1000) 58).setBit Reg.GRN_STAT 28 false
    c.grn.stall = some st →
    st.waits.any (fun w => c.grn.moves.any (fun m => m.tile == w.1 && m.page == w.2 && boundCtx c w.1 == some m.ctx)) = false →
    st.isFault = true →
    Becomes (.stallResume) c
      ({ d with grn := { d.grn with stall := none } })) ∧
  (∀ (c : Chip) (r : Round),
    let d : Chip := r.bound.foldl (fun (c : Chip) b => (((c.onTile b.1 (fun x => { x with ftab := frameTableOf (c.ctx b.2) })).resetPes b.1).loadLfsr b.1).putCtx b.2 { c.ctx b.2 with state := 4, last := some r.kernel, late := 0 }) { c with grn := { c.grn with running := some { r with seqNo := c.grn.nextSeq }, staged := none, causes := [], noticeDue := false, acked := false, gangStart := false, nextSeq := (c.grn.nextSeq + 1) % 2 ^ 32 } }
    let e : Chip := ((d.setFld Reg.GRN_RSTAT 9 0 r.kernel).postRound 1 { r with seqNo := c.grn.nextSeq } c.grn.nextSeq).managerSay .start
    c.grn.staged = some r → c.grn.running = none → stagedReady c = true → ringFull c Reg.RQ_BASE_LO = false →
    Becomes (.turnaround) c
      (if e.grn.preempt = .acked then e.endPreempt else e)) ∧
  (∀ (c : Chip) (o : Fin 4),
    let d : Chip := c.setFld Reg.GRN_RCTL 2 1 o.val
    portState c (regNode Reg.GRN_RCTL) = 0 → d.bit Reg.GRN_RCTL 0 = false → d.grn.running.isSome = true →
    d.fld Reg.ASQ_QSTAT 31 30 = 0 → queueIdle d = true →
    Becomes (.grnEnd o) c
      (d.acceptEnd)) ∧
  (∀ (c : Chip) (o : Fin 4),
    let d : Chip := c.setFld Reg.GRN_RCTL 2 1 o.val
    portState c (regNode Reg.GRN_RCTL) = 0 → d.bit Reg.GRN_RCTL 0 = false → d.grn.running.isSome = true →
    d.fld Reg.ASQ_QSTAT 31 30 = 0 → queueIdle d = false →
    Becomes (.grnEnd o) c
      (d.setBit Reg.GRN_RCTL 0 true)) ∧
  (∀ (c : Chip) (o : Fin 4),
    let d : Chip := c.setFld Reg.GRN_RCTL 2 1 o.val
    portState c (regNode Reg.GRN_RCTL) = 0 → d.bit Reg.GRN_RCTL 0 = false → d.grn.running = none →
    Becomes (.grnEnd o) c
      (d.setFld Reg.GRN_RSTAT 31 24 2)) ∧
  (∀ (c : Chip),
    c.bit Reg.GRN_RCTL 0 = true → c.fld Reg.ASQ_QSTAT 31 30 = 0 → queueIdle c = true →
    Becomes (.endAccept) c
      (c.acceptEnd)) ∧
  (∀ (c : Chip) (q : Fin 16) (e : RingEntry),
    cqWaiting c q.val = [e] → ringFull c (Reg.CQ_BASE_LO q.val) = false → e.ctx = none →
    Becomes (.cqRoom q) c
      ((c.setCqWaiting q.val []).cqPut q.val e)) ∧
  (∀ (c : Chip) (r : Round),
    ringFull c Reg.RQ_BASE_LO = false → c.grn.preempt = .posting → c.grn.running = some r →
    Becomes (.roundQueueRoom) c
      ({ c.postRound 2 r r.seqNo with grn := { (c.postRound 2 r r.seqNo).grn with preempt := .posted (c.postRound 2 r r.seqNo).ns false } })) ∧
  (∀ (c : Chip),
    portState c (regNode Reg.GRN_RCTL) = 0 → c.grn.preempt = .idle →
    Becomes (.ackPreempt) c
      (c.setFld Reg.GRN_RSTAT 31 24 3)) ∧
  (∀ (c : Chip) (i : Nat) (l : Bool) (r : Round),
    let d : Chip := { c.setBit Reg.ASQ_QSTAT 27 false with seq := { c.seq with queue := [], running := none } }
    let e : Chip := if d.fld Reg.ASQ_QSTAT 31 30 = 1 then (d.setBit Reg.ASQ_FAULT 31 false).enterRest else d
    let ends : List (Nat × Nat) := r.boundInOrder.map (fun b => (b.2, roundCause e false b.1 b.2))
    let f : Chip := ends.foldl (fun g p => if p.2 = 0 then g.putCtx p.1 { g.ctx p.1 with late := 0, state := 2 } else (g.setCtx p.1 { g.ctx p.1 with late := 0 }).faultCtx p.1 p.2) ((e.clearRound r).withdraw)
    let g : Chip := f.managerSay .preempt
    portState c (regNode Reg.GRN_RCTL) = 0 → c.grn.preempt = .posted i l → c.grn.running = some r →
    Becomes (.ackPreempt) c
      (Chip.selectAfterPreempt { g with grn := { g.grn with preempt := .acked, acked := true } })) ∧
  (∀ (c : Chip) (i : Nat),
    c.grn.preempt = .posted i false → i + 100000 ≤ c.ns →
    Becomes (.ackLate) c
      (Chip.raise { c with grn := { c.grn with preempt := .posted i true } } 61)) ∧
  (∀ (c : Chip),
    portState c (regNode Reg.GRN_RSTAT) = 0 →
    Becomes (.rstatRead) c
      ((c.respond (respOk (c.reg Reg.GRN_RSTAT).toNat)).setFld Reg.GRN_RSTAT 31 24 0))

/-- The packet rows of the network complete. A request of a block enters its router and is outstanding; a packet goes first along x, then
along y, to the port of its destination; a flit that fails its check is counted and consumed; a request to a node without a port is
answered UNROUTABLE with EV100. A block performs a read request and sends the data, performs a write and responds, and answers an
undefined OP with ERR; a sender takes the response or the data of its request; INV_LINE drops the core's copy of the line and a
reservation on it; a descriptor snoop compares the written line and is acknowledged; an ACK ends a snoop and lets a write's response go
that waited for it; a request times out with EV103, write data with ERR, and a snoop is sent twice before it is taken as acknowledged
with EV101. (R150, R253, R257, R259, R260, R262, R263, R265, R266, R267, R271, R275) -/
def Obligations.NetworkCommandsComplete : Prop :=
  (∀ (c : Chip) (n : BitVec 10) (v : Fin 4) (p : Packet),
    n.toNat / 32 ≤ 17 → n.toNat % 32 ≤ 17 → draining c n.toNat = false → p.net = 0 → pktSrc p = ownNode c n.toNat →
    c.noc.asked = [] →
    Becomes (.packetHop n v (some p)) c
      ({ c with noc := { c.noc with asked := [{ node := n.toNat, tag := pktTag p, since := c.ns, packet := p }], flight := c.noc.flight ++ [{ node := n.toNat, input := n.toNat, packet := p }] } })) ∧
  (∀ (c : Chip) (n : BitVec 10) (i : Nat) (v : Fin 4) (p : Packet),
    c.noc.flight = [{ node := n.toNat, input := i, packet := p }] → p.net = v.val →
    (List.range p.flits.length).all (flitOk p) = true → (p.net = 2 → snpOp p < 4) → pktDest p / 1024 = c.deviceNo →
    pktDest p % 1024 / 32 ≤ 17 → pktDest p % 32 ≤ 17 → n.toNat / 32 < pktDest p % 1024 / 32 →
    draining c (n.toNat + 32) = false →
    Becomes (.packetHop n v none) c
      ({ c with noc := { c.noc with flight := [{ node := n.toNat + 32, input := n.toNat, packet := p }] } })) ∧
  (∀ (c : Chip) (n : BitVec 10) (i : Nat) (v : Fin 4) (p : Packet),
    c.noc.flight = [{ node := n.toNat, input := i, packet := p }] → p.net = v.val →
    (List.range p.flits.length).all (flitOk p) = true → (p.net = 2 → snpOp p < 4) → pktDest p / 1024 = c.deviceNo →
    pktDest p % 1024 / 32 ≤ 17 → pktDest p % 32 ≤ 17 → n.toNat / 32 = pktDest p % 1024 / 32 → n.toNat % 32 < pktDest p % 32 →
    draining c (n.toNat + 1) = false →
    Becomes (.packetHop n v none) c
      ({ c with noc := { c.noc with flight := [{ node := n.toNat + 1, input := n.toNat, packet := p }] } })) ∧
  (∀ (c : Chip) (n : BitVec 10) (i : Nat) (v : Fin 4) (p : Packet),
    c.noc.flight = [{ node := n.toNat, input := i, packet := p }] → p.net = v.val →
    (List.range p.flits.length).all (flitOk p) = false →
    Becomes (.packetHop n v none) c
      (Chip.nocParity { c with noc := { c.noc with flight := [] } } n.toNat p.net)) ∧
  (∀ (c : Chip) (n : BitVec 10) (i : Nat) (v : Fin 4) (p : Packet),
    c.noc.flight = [{ node := n.toNat, input := i, packet := p }] → p.net = v.val →
    (List.range p.flits.length).all (flitOk p) = true → (p.net = 2 → snpOp p < 4) → pktDest p = ownNode c n.toNat →
    hasPort n.toNat = true → portState { c with noc := { c.noc with flight := [] } } n.toNat = 0 →
    Becomes (.packetHop n v none) c
      ({ c with noc := { c.noc with flight := [], inbox := c.noc.inbox ++ [{ node := n.toNat, since := c.ns, packet := p }] } })) ∧
  (∀ (c : Chip) (n : BitVec 10) (i : Nat) (v : Fin 4) (p : Packet),
    c.noc.flight = [{ node := n.toNat, input := i, packet := p }] → p.net = v.val →
    (List.range p.flits.length).all (flitOk p) = true → (p.net = 2 → snpOp p < 4) → p.net = 0 →
    pktDest p = ownNode c n.toNat → hasPort n.toNat = false →
    Becomes (.packetHop n v none) c
      (Chip.raise { c with noc := { c.noc with flight := [{ node := n.toNat, input := 2048, packet := rspTo c n.toNat p respUnroutable }] } } 100)) ∧
  (∀ (c : Chip) (n : BitVec 10) (x : Arrival) (b : Nat),
    let p : Packet := x.packet
    let size : Nat := 2 ^ reqSize p
    readyRequest c n.toNat = some x → snoopsOut c n.toNat ≤ 61 → reqOp p = 0 → reqSize p < 7 → flitBits p 0 22 22 = 0 →
    n = 7 → decodeAddr (c.takeArrival x) (reqAddr p) = .dtcm b → reqAddr p % size = 0 →
    Becomes (.memoryRequest n) c
      (((c.takeArrival x).tcmRead b size).2.send 7 (datTo (c.takeArrival x) 7 p (reqAddr p) size ((c.takeArrival x).tcmRead b size).1))) ∧
  (∀ (c : Chip) (n : BitVec 10) (x : Arrival) (b : Nat),
    let p : Packet := x.packet
    let size : Nat := 2 ^ reqSize p
    let w : Resp × Chip := (c.takeArrival x).tcmWrite b (leBytes size (flitBits p 1 31 0 / 256 ^ (reqAddr p % 4)))
    readyRequest c n.toNat = some x → snoopsOut c n.toNat ≤ 61 → reqOp p = 2 → reqData p = false → reqSize p ≤ 2 → n = 7 →
    decodeAddr (c.takeArrival x) (reqAddr p) = .dtcm b → reqAddr p % size = 0 →
    Becomes (.memoryRequest n) c
      (w.2.send 7 (rspTo (c.takeArrival x) 7 p w.1))) ∧
  (∀ (c : Chip) (n : BitVec 10) (x : Arrival) (t : Nat) (h : Nat),
    let p : Packet := x.packet
    let size : Nat := 2 ^ reqSize p
    let d : Chip := (c.takeArrival x).reachLoft t
    readyRequest c n.toNat = some x → snoopsOut c n.toNat ≤ 61 → reqOp p = 0 → reqSize p < 7 → flitBits p 0 22 22 = 0 →
    tileNode t = n.toNat → decodeAddr (c.takeArrival x) (reqAddr p) = .loft t h → reqAddr p % size = 0 →
    dramBlocked d t (inCommon (reqAddr p)) = false →
    Becomes (.memoryRequest n) c
      ((d.dramRead t h size).2.2.send n.toNat (datTo (c.takeArrival x) n.toNat p (reqAddr p) size { data := leNat (d.dramRead t h size).1, poison := (d.dramRead t h size).2.1 }))) ∧
  (∀ (c : Chip) (n : BitVec 10) (x : Arrival),
    let p : Packet := x.packet
    readyRequest c n.toNat = some x → snoopsOut c n.toNat ≤ 61 → 3 ≤ reqOp p →
    Becomes (.memoryRequest n) c
      ((c.takeArrival x).send n.toNat (rspTo (c.takeArrival x) n.toNat p (respErr 7)))) ∧
  (∀ (c : Chip) (n : BitVec 10) (x : Arrival) (a : Asked),
    arrivalOf c n.toNat (fun p => decide (p.net = 1)) = some x → askedFor c n.toNat (pktTag x.packet) = some a →
    Becomes (.responseReceive n) c
      ({ c with noc := { c.noc with inbox := c.noc.inbox.erase x, asked := c.noc.asked.erase a }, resp := { status := if 5 ≤ flitBits x.packet 0 30 28 then 1 else flitBits x.packet 0 30 28, cause := flitBits x.packet 0 27 24 } })) ∧
  (∀ (c : Chip) (n : BitVec 10) (x : Arrival) (a : Asked),
    let k : Chip := (c.takeArrival x).datCheck n.toNat x.packet
    let b : Nat := reqAddr a.packet
    let size : Nat := 2 ^ reqSize a.packet
    arrivalOf c n.toNat (fun p => decide (p.net = 3) && datRead p) = some x → askedFor c n.toNat (pktTag x.packet) = some a →
    Becomes (.readDataReceive n) c
      ({ k with noc := { k.noc with asked := k.noc.asked.erase a }, resp := { data := leNat (datBytes x.packet b size), poison := !(datPoison x.packet b size).isEmpty } })) ∧
  (∀ (c : Chip) (n : BitVec 10),
    c.noc.inbox = [] →
    Becomes (.responseReceive n) c
      (c)) ∧
  (∀ (c : Chip) (x : Arrival) (h : Nat),
    arrivalOf c 6 (fun p => decide (p.net = 2) && decide (snpOp p = 0)) = some x →
    cacheHome (c.takeArrival x) (flitBits x.packet 1 36 3 * 64) = some h →
    Becomes (.invLine) c
      (((c.takeArrival x).snoopWrite h 64).send 6 (ackTo c 6 x.packet))) ∧
  (∀ (c : Chip) (n : Nat) (x : Arrival) (pm : Bool),
    
    arrivalOf c 10 (fun p => decide (p.net = 2) && decide (snpOp p = if pm then 1 else 2) && ((snoopNames c pm p).contains n || (snoopNames c pm p).isEmpty)) = some x →
    snoopNames c pm x.packet = [n] →
    Becomes (.descSnoop n pm) c
      (((c.takeArrival x).send 10 (ackTo c 10 x.packet)).descSnoop n pm)) ∧
  (∀ (c : Chip) (n : Nat) (pm : Bool),
    c.noc.inbox = [] →
    Becomes (.descSnoop n pm) c
      (c)) ∧
  (∀ (c : Chip) (n : BitVec 10) (x : Arrival) (a : Asked),
    arrivalOf c n.toNat (fun p => decide (p.net = 2) && decide (snpOp p = 3)) = some x →
    c.noc.snoops.find? (fun a => decide (a.node = n.toNat) && decide (a.tag = pktTag x.packet)) = some a → a.owes = none →
    Becomes (.snoopAck n) c
      ({ c with noc := { c.noc with inbox := c.noc.inbox.erase x, snoops := c.noc.snoops.erase a } })) ∧
  (∀ (c : Chip) (n : BitVec 10) (x : Arrival) (a : Asked) (q : Packet),
    arrivalOf c n.toNat (fun p => decide (p.net = 2) && decide (snpOp p = 3)) = some x →
    c.noc.snoops.find? (fun a => decide (a.node = n.toNat) && decide (a.tag = pktTag x.packet)) = some a → a.owes = some q →
    Becomes (.snoopAck n) c
      (Chip.send { c with noc := { c.noc with inbox := c.noc.inbox.erase x, snoops := c.noc.snoops.erase a } } n.toNat q)) ∧
  (∀ (c : Chip) (n : BitVec 10) (tag : BitVec 8) (a : Asked),
    askedFor c n.toNat tag.toNat = some a → a.since + Nat.max 0x10000 (c.reg Reg.NOC_TIMEOUT).toNat ≤ c.ns →
    Becomes (.requestTimeout n tag) c
      (Chip.raise { c with noc := { c.noc with asked := c.noc.asked.erase a }, resp := { status := 4 } } 103)) ∧
  (∀ (c : Chip) (n : BitVec 10) (x : Arrival),
    arrivalOf c n.toNat (fun p => decide (p.net = 0) && reqData p && (dataFor c n.toNat p).isNone) = some x →
    x.since + nocTimeout c / 2 ≤ c.ns →
    Becomes (.dataTimeout n) c
      ((c.takeArrival x).send n.toNat (rspTo c n.toNat x.packet (respErr 9)))) ∧
  (∀ (c : Chip) (n : BitVec 10) (tag : BitVec 6) (a : Asked),
    c.noc.snoops = [a] → a.node = n.toNat → a.tag = tag.toNat → a.owes = none → a.again = true →
    a.since + Nat.max 0x1000 (c.fld Reg.NOC_SNP_TIMEOUT 19 0) ≤ c.ns →
    Becomes (.snoopTimeout n tag) c
      ((Chip.setBit { c with noc := { c.noc with snoops := [] } } Reg.NOC_STAT 3 true).raise 101)) ∧
  (∀ (c : Chip) (n : BitVec 10) (tag : BitVec 6) (a : Asked),
    c.noc.snoops = [a] → a.node = n.toNat → a.tag = tag.toNat → a.again = false →
    a.since + Nat.max 0x1000 (c.fld Reg.NOC_SNP_TIMEOUT 19 0) ≤ c.ns →
    Becomes (.snoopTimeout n tag) c
      (Chip.send { c with noc := { c.noc with snoops := [{ a with again := true, since := c.ns }] } } n.toNat a.packet))

/-- Register accesses and the debug rows complete. A register write at an open port takes the written bits; a read of WLOG takes its oldest
entry, one of ODE_STAT clears its counted field, and a doorbell raises its events or is refused; a JTAG access without the level is
refused with status 3, and one with it shows its data; with level 2 a port halts a running core, resumes a halted one, starts a step,
and stops, releases and steps the array; with level 3 the Debug Bus Master performs its access and plane memory is read and written;
without the level nothing happens. (R9, R464, R485, R534, R535, R541, R542, R545, R548, R549, R550, R556) -/
def Obligations.DebugRowsComplete : Prop :=
  (∀ (c : Chip) (who : Initiator) (a : Addr) (v : Word) (r : RegRow),
    decodeAddr c a.toNat = .register a.toNat → targetNode (.register a.toNat) = some (regNode a.toNat) → a.toNat % 4 = 0 →
    regBlock a.toNat ≠ 17 → portState c (regNode a.toNat) = 0 → nodeTile (regNode a.toNat) = none →
    regRefused who a.toNat true = false → inSnapshot a.toNat = false → regRow a.toNat = some r →
    Becomes (.registerWrite who a v) c
      ({ c.regWrite who r a.toNat v with resp := {} })) ∧
  (∀ (c : Chip) (who : Initiator) (a : Addr) (v : Word),
    decodeAddr c a.toNat = .nothing →
    Becomes (.registerWrite who a v) c
      ({ c with resp := { status := 1, cause := 0 } })) ∧
  (∀ (c : Chip) (who : Initiator) (v : Word),
    who ∈ [Initiator.core, Initiator.host, Initiator.debugger] → portState c (regNode Reg.EVT_DOORBELL) = 0 →
    Becomes (.evtDoorbell who v) c
      ({ (onesBelow 8 (Machine.fld v 7 0)).foldl (fun d j => d.raise (248 + j)) c with resp := {} })) ∧
  (∀ (c : Chip) (who : Initiator) (v : Word),
    who ∉ [Initiator.core, Initiator.host, Initiator.debugger] → portState c (regNode Reg.EVT_DOORBELL) = 0 →
    Becomes (.evtDoorbell who v) c
      ({ c with resp := { status := 1, cause := 2 } })) ∧
  (∀ (c : Chip) (who : Initiator) (i : Nat) (j : Nat) (rest : List (Nat × Nat)),
    portState c (regNode Reg.ODE_WLOG) = 0 → c.od.wlog = (i, j) :: rest →
    Becomes (.wlogRead who) c
      ({ c with od := { c.od with wlog := rest }, resp := { data := 2 ^ 31 + i * 256 + j } })) ∧
  (∀ (c : Chip) (who : Initiator),
    portState c (regNode Reg.ODE_WLOG) = 0 → c.od.wlog = [] →
    Becomes (.wlogRead who) c
      ({ c with resp := { data := 0 } })) ∧
  (∀ (c : Chip) (who : Initiator),
    portState c (regNode Reg.ODE_STAT) = 0 →
    Becomes (.odeStatRead who) c
      ({ c.setReg Reg.ODE_STAT (c.reg Reg.ODE_STAT &&& 0xFF00FFFF#32) with resp := { data := c.fld Reg.ODE_STAT 31 30 * 2 ^ 30 + c.od.writes.length % 64 * 2 ^ 24 + c.fld Reg.ODE_STAT 23 0 } })) ∧
  (∀ (c : Chip) (w : Bool) (off : BitVec 20) (v : Word),
    portLevel c 0 < dbgLevel off.toNat w →
    Becomes (.dbgacc w off v) c
      ({ c with dbg := { c.dbg with ir := 8, tdr := 3 * 2 ^ 32 } })) ∧
  (∀ (c : Chip) (off : BitVec 20) (v : Word) (r : RegRow),
    dbgLevel off.toNat false ≤ portLevel c 0 → off.toNat % 4 = 0 → off.toNat ∉ [0x114, 0x2000, 0x80C] →
    regRow (0x21100000 + off.toNat) = some r →
    Becomes (.dbgacc false off v) c
      ({ c with dbg := { c.dbg with ir := 8, tdr := dbgShown c r 0 (0x21100000 + off.toNat) } })) ∧
  (∀ (c : Chip) (off : BitVec 20) (v : Word) (r : RegRow),
    let d : Chip := c.setReg (0x21100000 + off.toNat) (rowWrite r (c.reg (0x21100000 + off.toNat)) v)
    dbgLevel off.toNat true ≤ portLevel c 0 → off.toNat % 4 = 0 → off.toNat ∉ [4, 0x100, 0x114, 0x200] →
    off.toNat < 0x700 ∨ 0x780 ≤ off.toNat ∧ off.toNat < 0x1000 ∨ 0x1404 ≤ off.toNat ∧ off.toNat < 0x2000 →
    regRow (0x21100000 + off.toNat) = some r →
    Becomes (.dbgacc true off v) c
      ({ d with dbg := { d.dbg with ir := 8, tdr := 0 } })) ∧
  (∀ (c : Chip) (w : Bool) (off : BitVec 20) (v : Word),
    dbgLevel off.toNat w ≤ portLevel c 0 → off.toNat % 4 ≠ 0 ∨ regRow (0x21100000 + off.toNat) = none →
    Becomes (.dbgacc w off v) c
      ({ c with dbg := { c.dbg with ir := 8, tdr := 2 ^ 32 } })) ∧
  (∀ (c : Chip) (p : Fin 3),
    portLevel c p.val < 2 →
    Becomes (.chalt p) c
      (c)) ∧
  (∀ (c : Chip) (p : Fin 3),
    2 ≤ portLevel c p.val → coreAlive c = true → coreHalted c = false → lockedUp c = false → c.core.load = none →
    Becomes (.chalt p) c
      (c.coreHalt 1)) ∧
  (∀ (c : Chip) (p : Fin 3),
    2 ≤ portLevel c p.val → coreHalted c = true → lockedUp c = false →
    Becomes (.cresume p) c
      (c.coreUnhalt)) ∧
  (∀ (c : Chip) (p : Fin 3),
    2 ≤ portLevel c p.val → coreHalted c = true → lockedUp c = false →
    Becomes (.cstep p) c
      ({ c.coreUnhalt with core := { c.coreUnhalt.core with stepping := some (false, 0) } })) ∧
  (∀ (c : Chip) (p : Fin 3),
    2 ≤ portLevel c p.val →
    Becomes (.astop p) c
      (Chip.takeUrgent { c with seq := { c.seq with debugHalt := true } })) ∧
  (∀ (c : Chip) (p : Fin 3),
    let d : Chip := Chip.endStep { c with seq := { c.seq with debugHalt := false } }
    2 ≤ portLevel c p.val → c.seq.debugHalt = true → queueState c = 3 → c.seq.powerStop = false →
    Becomes (.arelease p) c
      (((d.setFld Reg.ASQ_QSTAT 31 30 (restState d)).gangSay .run).takeUrgent)) ∧
  (∀ (c : Chip) (p : Fin 3),
    2 ≤ portLevel c p.val → c.seq.debugHalt = true → queueState c = 1 →
    Becomes (.arelease p) c
      (Chip.takeUrgent (Chip.endStep { c with seq := { c.seq with debugHalt := false } }))) ∧
  (∀ (c : Chip) (p : Fin 3),
    2 ≤ portLevel c p.val → queueState c = 3 → c.seq.debugHalt = true → c.seq.powerStop = false → c.seq.running = none →
    c.seq.queue ≠ [] → c.bit Reg.ASQ_QSTAT 29 = true → c.bit Reg.ASQ_QSTAT 28 = false → aclkRuns c = true →
    Becomes (.astep p) c
      ({ c.dispatchHead with dbg := { c.dispatchHead.dbg with astep := true } })) ∧
  (∀ (c : Chip) (p : Fin 3) (r : RegRow),
    let a : Nat := dbmAddr c
    3 ≤ portLevel c p.val → c.fld Reg.DBG_DBM_CTL 26 24 = 2 → c.bit Reg.DBG_DBM_CTL 27 = false →
    c.bit Reg.DBG_DBM_CTL 28 = false → decodeAddr c a = .register a → targetNode (.register a) = some (regNode a) →
    a % 4 = 0 → portState c (regNode a) = 0 → nodeTile (regNode a) = none → inSnapshot a = false → regRow a = some r →
    regRefused .debugger a false = false →
    Becomes (.dbmAccess p) c
      ((((if c.bit Reg.DBG_DBM_CTL 29 then c else c.regTouched r a).setBit Reg.DBG_DBM_CTL 30 false).setReg Reg.DBG_DBM_DATA (BitVec.ofNat 32 (regShown c r a))).dbmStatus {})) ∧
  (∀ (c : Chip) (p : Fin 3) (r : RegRow),
    let a : Nat := dbmAddr c
    3 ≤ portLevel c p.val → c.fld Reg.DBG_DBM_CTL 26 24 = 2 → c.bit Reg.DBG_DBM_CTL 27 = true →
    c.bit Reg.DBG_DBM_CTL 28 = true → decodeAddr c a = .register a → targetNode (.register a) = some (regNode a) →
    a % 4 = 0 → portState c (regNode a) = 0 → nodeTile (regNode a) = none → inSnapshot a = false → regRow a = some r →
    regRefused .debugger a true = false →
    Becomes (.dbmAccess p) c
      (((((c.regWrite .debugger r a (c.reg Reg.DBG_DBM_DATA)).setBit Reg.DBG_DBM_CTL 30 false).dbmStatus {}).setReg Reg.DBG_DBM_ADDR_LO (BitVec.ofNat 32 ((a + 4) % 2 ^ 40))).setReg Reg.DBG_DBM_ADDR_HI (BitVec.ofNat 32 ((a + 4) % 2 ^ 40 / 2 ^ 32)))) ∧
  (∀ (c : Chip) (p : Fin 3),
    3 ≤ portLevel c p.val → c.fld Reg.DBG_DBM_CTL 26 24 = 2 → c.bit Reg.DBG_DBM_CTL 27 = true →
    c.bit Reg.DBG_DBM_CTL 28 = false → decodeAddr c (dbmAddr c) = .nothing →
    Becomes (.dbmAccess p) c
      ((c.setBit Reg.DBG_DBM_CTL 30 false).dbmStatus { status := 1, cause := 0 })) ∧
  (∀ (c : Chip) (p : Fin 3),
    portLevel c p.val < 3 →
    Becomes (.pmemRead p) c
      ({ c with resp := { status := 1, cause := 2 } })) ∧
  (∀ (c : Chip) (p : Fin 3),
    let n : Nat := c.fld Reg.DBG_PMEM_SEL 9 0
    let v : Plane := planeAt (c.tile (pmemTile c)) n
    3 ≤ portLevel c p.val → retired c (pmemTile c) = false → portState c (tileNode (pmemTile c)) = 0 →
    c.bit Reg.DBG_PMEM_SEL 31 = false →
    Becomes (.pmemRead p) c
      ({ ((c.notePlane (pmemTile c) false n).dbmStatus { poison := (badRows (c.tile (pmemTile c)) n).any (fun y => y.2 == .double) }).pmemFill (leBytes 512 v.toNat) with resp := { data := natBits v.toNat 31 0 } })) ∧
  (∀ (c : Chip) (p : Fin 3) (v : Word),
    let b : Chip := { c with dbg := { c.dbg with pmem := mapSet 0 c.dbg.pmem 127 v } }
    3 ≤ portLevel c p.val → queueState b = 3 → retired b (pmemTile b) = false → portState b (tileNode (pmemTile b)) = 0 →
    b.bit Reg.DBG_PMEM_SEL 31 = false →
    Becomes (.pmemCommit p v) c
      ({ (b.onTile (pmemTile b) (fun x => { x with planes := mapSet 0 x.planes (b.fld Reg.DBG_PMEM_SEL 9 0) (BitVec.ofNat 4096 (leNat ((List.range 128).flatMap (fun w => leBytes 4 (mapGet 0 b.dbg.pmem w).toNat)))), ecc := x.ecc.filter (fun e => decide (e.1 / 64 ≠ b.fld Reg.DBG_PMEM_SEL 9 0)) })).dbmStatus {} with resp := {} }))

/-- The messages to the Object Dictionary Engine complete. The message that is next at the engine runs: OPEN and AUTH answer what the Seal
Unit answers, or abort; CLOSE answers under the session's key and then ends the session; READ answers the total size and the bytes
asked for, or the abort code; WRITE takes a segment; an OP that R416 does not list aborts with 0x05040001. The accesses that waited
behind it then go on. A datagram is dropped, answered from the copy, or handed to the engine; writes that have been pending for 10 s
are discarded. (R411, R416, R417, R432, R435, R438, R439) -/
def Obligations.DictionaryMessagesComplete : Prop :=
  (∀ (c : Chip) (mac : Nat) (src : List Byte) (m : List Byte),
    let b : Chip := { c with od := { c.od with jobs := [] } }
    let via : OdVia := .udp mac src
    let a : SealAnswer := sessionOpen b (wordsOfBytes (msgBody m))
    c.od.jobs = [.message (.udp mac src) m] → msgOp m = 1 → (msgBody m).length = 16 → sealServes b = true →
    Becomes (.odOpen) c
      (Chip.odGo (if a.status ≠ 0 then a.chip.odAnswer via m 0xFF 0x08000022 [] else Chip.odAnswer { a.chip with od := { a.chip.od with copies := a.chip.od.copies.filter (fun e => decide (e.1 ≠ listGet 0 a.rsp 0)) } } via m (listGet 0 a.rsp 0) 0 ((a.rsp.drop 1).flatMap (leBytes 4))))) ∧
  (∀ (c : Chip) (mac : Nat) (src : List Byte) (m : List Byte) (fas : List Byte) (ids : List Nat),
    let b : Chip := { c with od := { c.od with jobs := [] } }
    let id : Nat := listGet 0 ids (b.drawFree.1.toNat % ids.length)
    let ns : List Byte × Chip := b.drawFree.2.drawBytes 16
    let nc : List Byte := argBytes (wordsOfBytes (msgBody m)) 0 4
    let key : List Byte := (leBytes 64 (Config.hmac512 fas ([0x53, 0x4C, 0x4E, 0x31] ++ otpSerial b ++ nc ++ ns.1)).toNat).take 32
    let e : Chip := ns.2.putSession id { nc := nc, ns := ns.1, key := key, since := b.ns }
    c.od.jobs = [.message (.udp mac src) m] → msgOp m = 1 → (msgBody m).length = 16 → sealServes b = true →
    b.su.priv.fas = some fas → b.su.lockedAt = none → (List.range 16).filter (fun i => (sessionOf b i).isNone) = ids →
    ids ≠ [] →
    Becomes (.odOpen) c
      (Chip.odGo (Chip.odAnswer { e with od := { e.od with copies := e.od.copies.filter (fun x => decide (x.1 ≠ id)) } } (.udp mac src) m id 0 ((wordsOfBytes ns.1).flatMap (leBytes 4))))) ∧
  (∀ (c : Chip) (mac : Nat) (src : List Byte) (m : List Byte) (x : Session),
    let b : Chip := { c with od := { c.od with jobs := [] } }
    let d : Chip := b.putSession (msgSid m) { x with isOpen := true, since := b.ns }
    c.od.jobs = [.message (.udp mac src) m] → msgOp m = 2 → (msgBody m).length = 16 → sealServes b = true →
    sessionOf b (msgSid m) = some x → x.isOpen = false →
    mac16 x.key (1 :: (x.nc ++ x.ns)) = argBytes (msgSid m :: wordsOfBytes (msgBody m)) 1 4 →
    Becomes (.odAuth) c
      ((Chip.odAnswer (Chip.raise { d with su := { d.su with fails := 0 } } 234) (.udp mac src) m (msgSid m) 0 ((wordsOfBytes (mac16 x.key (2 :: (x.ns ++ x.nc)))).flatMap (leBytes 4))).odGo)) ∧
  (∀ (c : Chip) (mac : Nat) (src : List Byte) (m : List Byte),
    let b : Chip := { c with od := { c.od with jobs := [] } }
    let via : OdVia := .udp mac src
    let a : SealAnswer := sessionAuth b (msgSid m :: wordsOfBytes (msgBody m))
    c.od.jobs = [.message (.udp mac src) m] → msgOp m = 2 → (msgBody m).length = 16 → sealServes b = true →
    Becomes (.odAuth) c
      (Chip.odGo (if a.status ≠ 0 then a.chip.odAnswer via m (msgSid m) 0x08000020 [] else a.chip.odAnswer via m (msgSid m) 0 (a.rsp.flatMap (leBytes 4))))) ∧
  (∀ (c : Chip) (mac : Nat) (src : List Byte) (m : List Byte),
    let b : Chip := { c with od := { c.od with jobs := [] } }
    let via : OdVia := .udp mac src
    c.od.jobs = [.message (.udp mac src) m] → msgOp m = 3 → (sessionOf b (msgSid m)).isSome = true →
    Becomes (.odClose) c
      ((((b.odAnswer via m (msgSid m) 0 []).dropPending (clientOf via (msgSid m))).dropSession (msgSid m)).odGo)) ∧
  (∀ (c : Chip) (mac : Nat) (src : List Byte) (m : List Byte),
    let b : Chip := { c with od := { c.od with jobs := [] } }
    let via : OdVia := .udp mac src
    let v : List Byte := odHeld b (bytesNat (msgBody m) 0 2) (bytesNat (msgBody m) 2 1)
    c.od.jobs = [.message (.udp mac src) m] → msgOp m = 0x10 → (msgBody m).length = 12 →
    (sessionOf b (msgSid m)).isSome = true → inWorkerWindow b (bytesNat (msgBody m) 0 2) = false →
    (odRow b (bytesNat (msgBody m) 0 2) (bytesNat (msgBody m) 2 1)).any (fun r => decide (r.back = .held ∧ r.acc ≠ .wo)) = true →
    Becomes (.odRead) c
      ((b.odAnswer via m (msgSid m) 0 (leBytes 4 v.length ++ (v.drop (bytesNat (msgBody m) 4 4)).take (Nat.min 1396 (bytesNat (msgBody m) 8 2)))).odGo)) ∧
  (∀ (c : Chip) (mac : Nat) (src : List Byte) (m : List Byte),
    let b : Chip := { c with od := { c.od with jobs := [] } }
    let via : OdVia := .udp mac src
    let r : OdRights := rightsOf via (msgSid m)
    let i : Nat := bytesNat (msgBody m) 0 2
    let j : Nat := bytesNat (msgBody m) 2 1
    let d : List Byte := (msgBody m).drop 8
    let w : OdRow := (odRow b i j).getD { size := 0 }
    c.od.jobs = [.message (.udp mac src) m] → msgOp m = 0x11 → c.bit Reg.ODE_STAT 30 = false → rsaTaken c = false →
    8 ≤ (msgBody m).length → (sessionOf b (msgSid m)).isSome = true → bytesNat (msgBody m) 3 1 % 2 = 1 →
    bytesNat (msgBody m) 4 4 = 0 → odPasses b r i j d = true → (odRow b i j).isSome = true → firmwareBacked i j w = true →
    (b.odPerform r i j w d).1 = 0 → b.od.writes = [] →
    Becomes (.odWrite) c
      (((Chip.noteRestart ((b.odPerform r i j w d).2.odLog i j) i j d).odAnswer via m (msgSid m) 0 []).odGo)) ∧
  (∀ (c : Chip) (mac : Nat) (src : List Byte) (m : List Byte),
    let b : Chip := { c with od := { c.od with jobs := [] } }
    let via : OdVia := .udp mac src
    let k : Nat := clientOf via (msgSid m)
    c.od.jobs = [.message (.udp mac src) m] → msgOp m = 0x11 → c.bit Reg.ODE_STAT 30 = false → 8 ≤ (msgBody m).length →
    (sessionOf b (msgSid m)).isSome = true → bytesNat (msgBody m) 3 1 % 2 = 0 → bytesNat (msgBody m) 4 4 = 0 →
    (b.od.writes.filter (fun w => decide (w.client ≠ k))).length < 16 →
    Becomes (.odWrite) c
      ((Chip.odAnswer { b with od := { b.od with writes := b.od.writes.filter (fun w => decide (w.client ≠ k)) ++ [{ client := k, index := bytesNat (msgBody m) 0 2, sub := bytesNat (msgBody m) 2 1, data := (msgBody m).drop 8, since := b.ns, worker := odNat b 0x2F00 0 }] } } via m (msgSid m) 0 []).odGo)) ∧
  (∀ (c : Chip) (mac : Nat) (src : List Byte) (m : List Byte),
    let b : Chip := { c with od := { c.od with jobs := [] } }
    let via : OdVia := .udp mac src
    let x : Nat × List Byte × Chip := b.odRead none (bytesNat (msgBody m) 0 2) (bytesNat (msgBody m) 2 1)
    c.od.jobs = [.message (.udp mac src) m] → msgOp m = 0x10 → (msgBody m).length = 12 →
    (sessionOf b (msgSid m)).isSome = true →
    Becomes (.odRead) c
      (Chip.odGo (if x.1 ≠ 0 then x.2.2.odAnswer via m (msgSid m) x.1 [] else x.2.2.odAnswer via m (msgSid m) 0 (leBytes 4 x.2.1.length ++ (x.2.1.drop (bytesNat (msgBody m) 4 4)).take (Nat.min 1396 (bytesNat (msgBody m) 8 2)))))) ∧
  (∀ (c : Chip) (mac : Nat) (src : List Byte) (m : List Byte),
    let b : Chip := { c with od := { c.od with jobs := [] } }
    let via : OdVia := .udp mac src
    let x : Nat × Chip := b.odSegment (rightsOf via (msgSid m)) (clientOf via (msgSid m)) (bytesNat (msgBody m) 0 2) (bytesNat (msgBody m) 2 1) (bytesNat (msgBody m) 3 1 % 2 = 1) (bytesNat (msgBody m) 4 4) ((msgBody m).drop 8)
    c.od.jobs = [.message (.udp mac src) m] → msgOp m = 0x11 → c.bit Reg.ODE_STAT 30 = false → rsaTaken c = false →
    8 ≤ (msgBody m).length → (sessionOf b (msgSid m)).isSome = true →
    Becomes (.odWrite) c
      ((x.2.odAnswer via m (msgSid m) x.1 []).odGo)) ∧
  (∀ (c : Chip) (mac : Nat) (src : List Byte) (m : List Byte),
    let b : Chip := { c with od := { c.od with jobs := [] } }
    let via : OdVia := .udp mac src
    c.od.jobs = [.message (.udp mac src) m] → msgOp m ∉ [1, 2, 3, 0x10, 0x11] → (sessionOf b (msgSid m)).isSome = true →
    Becomes (.odBadOp) c
      ((b.odAnswer via m (msgSid m) 0x05040001 []).odGo)) ∧
  (∀ (c : Chip) (k : Fin 2) (d : OdDatagram) (rest : List OdDatagram) (e : Chip),
    (ethMac c k.val).odq = d :: rest →
    (c.onMac k.val (fun x => { x with odq := rest })).odCheck false d.payload = (.drop, e) →
    Becomes (.odUdpDatagram k) c
      (e.odDrop k.val)) ∧
  (∀ (c : Chip) (k : Fin 2) (d : OdDatagram) (rest : List OdDatagram) (e : Chip),
    (ethMac c k.val).odq = d :: rest →
    (c.onMac k.val (fun x => { x with odq := rest })).odCheck false d.payload = (.take, e) →
    Becomes (.odUdpDatagram k) c
      (Chip.odGo { e with od := { e.od with jobs := e.od.jobs ++ [.message (.udp k.val d.src) d.payload] } })) ∧
  (∀ (c : Chip),
    Becomes (.pendingWriteTimeout) c
      ({ c with od := { c.od with writes := c.od.writes.filter (fun w => decide (c.ns < w.since + 10000000000)) } })) ∧
  (∀ (c : Chip) (n : Fin 128) (m : List Byte),
    let x : Nat × Chip := c.odSegment { client := some n.val } (32 + n.val) 0x5F10 0 true 0 m
    odFree c = true →
    Becomes (.tunnelRequest n m) c
      (x.2.usdoAnswer n.val x.1 []))

/-- The rows that write one object complete. A write that passes the checks of R433 does what its object says: 0x2000 asks for a mode,
0x3200:0A triggers, 0x4401 loads the staged microcode, 0x5400 a Weave image, 0x1010:01 saves and 0x1011:01 restores, 0x5F20 makes debug
accesses, 0x5F30:01 passes its operation to the Transaction Unit; each but the last is logged. A write that fails a check aborts with
the code of the check and EV233. Worker 0 does not exist; a worker checks and makes the manager's access itself; an image waits while a
stook has the RSA engine; a stream is restarted with its new values; a transaction's application ends with EV40 or EV41; the store is
loaded once. (R389, R433, R440, R448, R450, R452, R454, R456, R461, R462, R502, R536) -/
def Obligations.DictionaryWritesComplete : Prop :=
  (∀ (c : Chip) (s : Option (Fin 16)) (m : Byte),
    let r : OdRights := odBrings c (s.map Fin.val) false
    odFree c = true → odPasses c r 0x2000 0 [m] = true →
    Becomes (.modeRequest s m) c
      (odDone (odLogged 0x2000 0 (c.modeRequest (leNat [m]) r.sealed)))) ∧
  (∀ (c : Chip) (s : Option (Fin 16)) (m : Byte),
    odFree c = true → stagesWrites c (odBrings c (s.map Fin.val) false) = false → m.toNat > 5 →
    Becomes (.modeRequest s m) c
      (odDone (0x06090030, c))) ∧
  (∀ (c : Chip) (v : Byte),
    let r : OdRights := odBrings c (none) false
    odFree c = true → odPasses c r 0x3200 0x0A [v] = true →
    Becomes (.externalTrigger v) c
      (odDone (odLogged 0x3200 0x0A (0, if v = 1 then c.externalTrigger else c)))) ∧
  (∀ (c : Chip) (k : Fin 16) (d : List Byte),
    let r : OdRights := odBrings c (some k.val) false
    odFree c = true → rsaTaken c = false → odPasses c r 0x4401 0 d = true →
    Becomes (.microcodeImageWrite k d) c
      (odDone (odLogged 0x4401 0 (c.odMicrocode d)))) ∧
  (∀ (c : Chip) (k : Fin 16) (d : List Byte),
    odFree c = true → rsaTaken c = false → odBrings c (some k.val) false = {} → d.length ≤ 0x100000 →
    Becomes (.microcodeImageWrite k d) c
      (odDone (0x08000020, c))) ∧
  (∀ (c : Chip) (k : Fin 16) (d : List Byte),
    let r : OdRights := odBrings c (some k.val) false
    odFree c = true → rsaTaken c = false → odPasses c r 0x5400 0 d = true →
    Becomes (.weaveImageWrite k d) c
      (odDone (odLogged 0x5400 0 (c.odWeave d)))) ∧
  (∀ (c : Chip) (k : Fin 16) (d : List Byte),
    c.od.jobs = [] → rsaTaken c = true → inService c = true →
    Becomes (.weaveImageWrite k d) c
      ({ c with od := { c.od with jobs := [.write (some k.val) false 0x5400 0 d] } })) ∧
  (∀ (c : Chip) (k : Fin 16) (v : Word),
    let r : OdRights := odBrings c (some k.val) false
    odFree c = true → odPasses c r 0x1010 1 (leBytes 4 v.toNat) = true → v = 0x65766173 → c.silo.capsule = none →
    Becomes (.storeParameters k v) c
      (odDone (odLogged 0x1010 1 (0, (c.switchHalf (persistentRecords c)).raise 235)))) ∧
  (∀ (c : Chip) (k : Fin 16) (v : Word),
    let r : OdRights := odBrings c (some k.val) false
    odFree c = true → odPasses c r 0x1010 1 (leBytes 4 v.toNat) = true → v ≠ 0x65766173 → c.silo.capsule = none →
    Becomes (.storeParameters k v) c
      (odDone (0x08000020, c))) ∧
  (∀ (c : Chip) (k : Fin 16) (v : Word),
    let r : OdRights := odBrings c (some k.val) false
    odFree c = true → odPasses c r 0x1010 1 (leBytes 4 v.toNat) = true → c.silo.capsule.isSome = true →
    Becomes (.storeParameters k v) c
      (odDone (0x08000022, c))) ∧
  (∀ (c : Chip) (k : Fin 16) (v : Word),
    let r : OdRights := odBrings c (some k.val) false
    odFree c = true → odPasses c r 0x1011 1 (leBytes 4 v.toNat) = true → v = 0x64616F6C → c.silo.capsule = none →
    Becomes (.restoreDefaults k v) c
      (odDone (odLogged 0x1011 1 (0, (c.switchHalf []).raise 235)))) ∧
  (∀ (c : Chip) (k : Fin 16) (rs : List (BitVec 64)),
    let r : OdRights := odBrings c (some k.val) true
    let x : List Byte × Chip := c.odDebug rs.length (rs.flatMap (fun r => leBytes 8 r.toNat))
    odFree c = true → odPasses c r 0x5F20 0 (rs.flatMap (fun r => leBytes 8 r.toNat)) = true →
    Becomes (.debugObjectWrite k true rs) c
      (odDone (odLogged 0x5F20 0 (0, { x.2 with dbg := { x.2.dbg with answer := x.1 } })))) ∧
  (∀ (c : Chip) (k : Fin 16) (op : Byte),
    let r : OdRights := odBrings c (some k.val) false
    odFree c = true → odPasses c r 0x5F30 1 [op] = true → c.isOn .silo = true → c.silo.capsule = none →
    (c.txCmd op.toNat).fld Reg.SILO_TXSTAT 23 16 = 0 →
    Becomes (.odTxCmd k op) c
      (odDone (0, if op = 1 then { c.txCmd op.toNat with silo := { (c.txCmd op.toNat).silo with txOwner := some k.val } } else c.txCmd op.toNat))) ∧
  (∀ (c : Chip) (s : Option (Fin 16)) (i : BitVec 16) (b : Byte) (w : Option (List Byte)),
    i.toNat < 0x6000 ∨ 0xA000 ≤ i.toNat →
    Becomes (.workerWindowAccess s i b w) c
      (c)) ∧
  (∀ (c : Chip) (s : Option (Fin 16)) (i : BitVec 16) (b : Byte),
    c.od.jobs = [] → 0x6000 ≤ i.toNat → i.toNat < 0xA000 → isManager c = true → odNat c 0x2F00 0 = 0 →
    Becomes (.workerWindowAccess s i b none) c
      ((c.respond { status := 1, data := 0x06020000 }).raise 233)) ∧
  (∀ (c : Chip) (s : Option (Fin 16)) (i : BitVec 16) (b : Byte) (d : List Byte),
    odFree c = true → 0x6000 ≤ i.toNat → i.toNat < 0xA000 → isManager c = true →
    stagesWrites c (odBrings c (s.map Fin.val) false) = false → workerAbort c (odNat c 0x2F00 0) = 0 →
    Becomes (.workerWindowAccess s i b (some d)) c
      (odDone ((c.workerAnswer true).1, (c.workerAnswer true).2.2))) ∧
  (∀ (c : Chip) (s : Option (Fin 16)) (i : BitVec 16) (b : Byte),
    c.od.jobs = [] → 0x6000 ≤ i.toNat → i.toNat < 0xA000 → isManager c = false → c.bit Reg.SPIN_STAT 30 = true →
    Becomes (.workerWindowAccess s i b none) c
      (c.windowRead (i.toNat - 0x4000) b.toNat)) ∧
  (∀ (c : Chip) (s : Option (Fin 16)) (i : BitVec 16) (b : Byte) (d : List Byte),
    odFree c = true → rsaTaken c = false → 0x6000 ≤ i.toNat → i.toNat < 0xA000 → isManager c = false →
    c.bit Reg.SPIN_STAT 30 = true →
    Becomes (.workerWindowAccess s i b (some d)) c
      (odDone (c.odWrite { sealed := s.isSome } 0 (i.toNat - 0x4000) b.toNat d))) ∧
  (∀ (c : Chip) (st : Fin 32),
    let a : Nat := Reg.CAP_SCTL st.val
    let b : Chip := { c with od := { c.od with restarts := c.od.restarts.filter (fun x => decide (x ≠ st.val)) } }
    let d : Chip := (((b.disableStream st.val).setFld a 27 24 (streamObj c st.val 2)).setFld a 23 22 (streamObj c st.val 3)).setBit a 31 true
    c.od.restarts.contains st.val = true → streamOn c st.val = true → streamObj c st.val 1 = 1 →
    Becomes (.streamRestart st) c
      ({ d with cap := { d.cap with streams := mapSet {} d.cap.streams st.val {} } })) ∧
  (∀ (c : Chip) (es : List TxEntry),
    let b : Chip := (c.applyEntries 0 es)
    let tai : Nat := match txHeader c with | some h => h.tai | none => 0
    let d : Chip := ((b.putTxHeader 2 es.length c.silo.txseq tai).setFld Reg.SILO_TXSTAT 31 30 0).setBit Reg.ODE_STAT 30 false
    c.silo.txApply = some es →
    Becomes (.txApplyDone) c
      (if b.silo.capsule.isSome then b else (Chip.raise { d with silo := { d.silo with txApply := none, txOwner := none } } (if d.fld Reg.SILO_TXERR 28 16 = 0 then 40 else 41)).odGo)) ∧
  (∀ (c : Chip),
    let r : List StoreRecord × Chip := Chip.storeRead { c with od := { c.od with objects := [] } }
    let x : Nat × Chip := r.2.applyRecords r.1
    c.bit Reg.SILO_STAT 31 = true → c.bit Reg.ODE_STAT 31 = false →
    Becomes (.odStoreLoad) c
      ((((x.2.followInterval c).setFld Reg.ODE_STAT 15 0 (stickAt 65535 x.1)).setBit Reg.ODE_STAT 31 true).nodeStart))

/-- The frames of the CANopen node are acted on. The node's first frame that calls for something is acted on: an NMT command starts, stops
or readies the node, or resets its communication objects to their defaults and the store's records; the TIME object goes to the
Timebase; a USDO request is served as a read or a segment of a write; an RPDO writes its mapped objects while the node is operational.
A CAN client's OPEN through 0x5F10 is handed to the engine, answered as written, and its tunnel emptied. A TPDO that is due is sent
with its mapped values, and the heartbeat with the NMT state. (R416, R417, R419, R435, R436, R439, R446) -/
def Obligations.CanNodeCompletes : Prop :=
  (∀ (c : Chip) (f : CanFrame) (l : List CanFrame),
    nodeQueue c = f :: l → isNmt 1 f = true →
    Becomes (.nmtStart) c
      ({ c with od := { c.od with nodeRx := l, nmt := 5 } })) ∧
  (∀ (c : Chip) (f : CanFrame) (l : List CanFrame),
    nodeQueue c = f :: l → isNmt 2 f = true →
    Becomes (.nmtStop) c
      ({ c with od := { c.od with nodeRx := l, nmt := 4 } })) ∧
  (∀ (c : Chip) (f : CanFrame) (l : List CanFrame),
    nodeQueue c = f :: l → isNmt 128 f = true →
    Becomes (.nmtPreOperational) c
      ({ c with od := { c.od with nodeRx := l, nmt := 127 } })) ∧
  (∀ (c : Chip) (f : CanFrame) (l : List CanFrame),
    let d : Chip := { c with od := { c.od with nodeRx := l, objects := c.od.objects.filter (fun e => decide (0x200000 ≤ e.1)), nmt := 127 } }
    let r : List StoreRecord × Chip := d.storeRead
    nodeQueue c = f :: l → isNmt 130 f = true →
    Becomes (.nmtResetCommunication) c
      ((r.2.applyRecords (r.1.filter (fun x => decide (x.index < 0x2000)))).2)) ∧
  (∀ (c : Chip) (f : CanFrame) (l : List CanFrame),
    let d : Chip := { c with od := { c.od with nodeRx := l, objects := c.od.objects.filter (fun e => decide (0x200000 ≤ e.1)), nmt := 127 } }
    let r : List StoreRecord × Chip := d.storeRead
    nodeQueue c = f :: l → isNmt 129 f = true →
    Becomes (.nmtResetNode) c
      ((r.2.applyRecords (r.1.filter (fun x => decide (x.index < 0x2000)))).2)) ∧
  (∀ (c : Chip) (f : CanFrame) (l : List CanFrame),
    nodeQueue c = f :: l → cobMatches f (odNat c 0x1012 0) = true →
    Becomes (.canTimeObject) c
      (Chip.canTime { c with od := { c.od with nodeRx := l } } f.data)) ∧
  (∀ (c : Chip) (f : CanFrame) (l : List CanFrame) (q : UsdoRequest),
    let d : Chip := { c with od := { c.od with nodeRx := l } }
    let x : Nat × List Byte × Chip := d.odRead (some q.client) q.index q.sub
    nodeQueue c = f :: l → f.ext = false → f.id = 0x600 + c.od.nodeId → c.od.jobs = [] → q.write = none →
    Becomes (.usdoRequest q) c
      (x.2.2.usdoAnswer q.client x.1 x.2.1)) ∧
  (∀ (c : Chip) (f : CanFrame) (l : List CanFrame) (q : UsdoRequest) (o : Nat) (e : Bool) (b : List Byte),
    let d : Chip := { c with od := { c.od with nodeRx := l } }
    let x : Nat × Chip := d.odSegment { client := some q.client } (32 + q.client) q.index q.sub e o b
    nodeQueue c = f :: l → f.ext = false → f.id = 0x600 + c.od.nodeId → odFree c = true → q.write = some (o, e, b) →
    Becomes (.usdoRequest q) c
      (x.2.usdoAnswer q.client x.1 [])) ∧
  (∀ (c : Chip) (n : Fin 128) (m : List Byte),
    let e : Chip := (c.dropPending (32 + n.val)).setTunnel n.val []
    odFree c = true → odPasses c { client := some n.val } 0x5F10 0 m = true → messageOk false m = true → msgOp m = 1 →
    msgSid m = 0xFF →
    Becomes (.tunnelRequest n m) c
      ((Chip.odLog { e with od := { e.od with jobs := [.message (.tunnel n.val) m] } } 0x5F10 0).usdoAnswer n.val 0 [])) ∧
  (∀ (c : Chip) (f : CanFrame) (l : List CanFrame) (i : Nat) (e : Nat),
    nodeQueue c = f :: l → odFree c = true → rpdoOf c f = some i → c.od.nmt = 5 →
    mapEntries c (0x1600 + i) (odNat c (0x1600 + i) 0) = [e] → e % 256 / 8 ≤ f.data.length →
    Becomes (.rpdoReceive) c
      ((Chip.odWrite { c with od := { c.od with nodeRx := l } } {} 0 (e / 65536) (e / 256 % 256) (f.data.take (e % 256 / 8))).2)) ∧
  (∀ (c : Chip) (f : CanFrame) (l : List CanFrame) (i : Nat),
    nodeQueue c = f :: l → odFree c = true → rpdoOf c f = some i → c.od.nmt ≠ 5 →
    Becomes (.rpdoReceive) c
      ({ c with od := { c.od with nodeRx := l } })) ∧
  (∀ (c : Chip) (i : Fin 4),
    c.od.nmt = 5 → (odNat c (0x1800 + i.val) 1).testBit 31 = false → (odNat c (0x1800 + i.val) 1).testBit 29 = false →
    mapGet 0 c.od.tpdoAt i.val + odNat c (0x1800 + i.val) 3 * 100000 ≤ c.ns →
    Becomes (.tpdoTransmit i false) c
      ({ c with od := { c.od with tpdoAt := mapSet 0 c.od.tpdoAt i.val c.ns, nodeTx := c.od.nodeTx ++ [{ id := odNat c (0x1800 + i.val) 1 % 2 ^ 11, fd := true, data := mappedData c (mapEntries c (0x1A00 + i.val) (odNat c (0x1A00 + i.val) 0)) }] } })) ∧
  (∀ (c : Chip),
    c.od.nmt ≠ 0 → odNat c 0x1017 0 ≠ 0 → c.od.beat + odNat c 0x1017 0 * 1000000 ≤ c.ns →
    Becomes (.heartbeat) c
      ({ c with od := { c.od with beat := c.ns, nodeTx := c.od.nodeTx ++ [{ id := 0x700 + c.od.nodeId, data := leBytes 1 c.od.nmt }] } }))

/-- Every class of microword completes. PLANE, NBR, REG and GOR, once their planes translate, do in every bound tile what their fields say,
and the routine goes on with the O registers they increment; CNT and OFS load or change one K or O register; BR, CALL and RET go where
their condition sends them, with DEC counting down; CALL on a full micro-stack and RET on an empty one fault with CAUSE 5 and 6; YIELD
without an urgent request, PAGE and WAIT go on; YIELD in a yielding routine with a request pending abandons it; END ends the routine; a
reserved class faults with CAUSE 4. (R57, R119, R122, R123, R124, R125, R126, R127, R128, R129, R131, R132) -/
def Obligations.MicrowordsComplete : Prop :=
  (∀ (c : Chip) (r : Routine) (w : Word),
    let na : Nat := Machine.fld w 27 26
    let nb : Nat := Machine.fld w 25 24
    let nw : Nat := Machine.fld w 23 22
    let used : List Nat := (if planeUsesA w then [routineO r na] else []) ++ (if planeUsesB w then [routineO r nb] else []) ++ (if planeWrites w then [routineO r nw] else [])
    AtWord c r w → Machine.fld w 31 28 = 0 → (c.touch used).1 = true →
    Becomes (.plane) c
      (((c.touch used).2.onBound (fun c t => c.planeTile t r.insn w (routineO r na) (routineO r nb) (routineO r nw))).onRoutine (fun r => incO (nextWord r) ((if bitOf w 21 then [na] else []) ++ (if bitOf w 20 then [nb] else []) ++ (if bitOf w 19 then [nw] else []))))) ∧
  (∀ (c : Chip) (r : Routine) (w : Word),
    AtWord c r w → Machine.fld w 31 28 = 1 → bitOf w 27 = false → bitOf w 26 = false → bitOf w 25 = true →
    (c.touch []).1 = true →
    Becomes (.nbr) c
      (((c.touch []).2.moveNx 1 (Machine.fld w 24 23)).onRoutine (fun r => incO (nextWord r) ((if bitOf w 18 then [Machine.fld w 22 21] else []) ++ (if bitOf w 17 then [Machine.fld w 20 19] else []))))) ∧
  (∀ (c : Chip) (r : Routine) (w : Word),
    let v : Nat := routineO r (Machine.fld w 22 21)
    let d : Chip := (c.touch [v]).2
    AtWord c r w → Machine.fld w 31 28 = 1 → bitOf w 27 = false → bitOf w 26 = true → (c.touch [v]).1 = true →
    Becomes (.nbr) c
      (((d.onBound (fun c t => c.readChecked t v)).setNx ((boundTiles d).map (fun t => (t, readVirtual (d.tile t) v)))).onRoutine (fun r => incO (nextWord r) ((if bitOf w 18 then [Machine.fld w 22 21] else []) ++ (if bitOf w 17 then [Machine.fld w 20 19] else []))))) ∧
  (∀ (c : Chip) (r : Routine) (w : Word),
    AtWord c r w → Machine.fld w 31 28 = 2 → Machine.fld w 24 22 ≠ 7 → (c.touch []).1 = true →
    Becomes (.reg) c
      (((c.touch []).2.onBound (fun c t => c.onTile t (fun x => regTile x r.insn w (routineO r (Machine.fld w 20 19))))).onRoutine (fun r => incO (nextWord r) (if bitOf w 18 then [Machine.fld w 20 19] else [])))) ∧
  (∀ (c : Chip) (r : Routine) (w : Word),
    let d : Chip := (c.touch []).2
    AtWord c r w → Machine.fld w 31 28 = 3 → Machine.fld w 27 25 = 3 → bitOf w 22 = false → (c.touch []).1 = true →
    Becomes (.gor) c
      (Chip.onRoutine { d with seq := { d.seq with gorFlight := d.seq.gorFlight ++ [gorResult d (fun x => x.M)] } } (fun r => incO (nextWord r) []))) ∧
  (∀ (c : Chip) (r : Routine) (w : Word),
    AtWord c r w → Machine.fld w 31 28 = 4 → Machine.fld w 25 23 = 0 →
    Becomes (.cnt) c
      ({ c with seq := { c.seq with running := some { r with upc := r.upc + 1, started := true, waiting := false, k := listSet r.k (Machine.fld w 27 26) (Machine.fld w 9 0 % 1024) } } })) ∧
  (∀ (c : Chip) (r : Routine) (w : Word),
    AtWord c r w → Machine.fld w 31 28 = 4 → Machine.fld w 25 23 = 4 →
    Becomes (.cnt) c
      ({ c with seq := { c.seq with running := some { r with upc := r.upc + 1, started := true, waiting := false, k := listSet r.k (Machine.fld w 27 26) ((routineK r (Machine.fld w 27 26) + 1023) % 1024) } } })) ∧
  (∀ (c : Chip) (r : Routine) (w : Word),
    AtWord c r w → Machine.fld w 31 28 = 11 → Machine.fld w 25 23 = 3 →
    Becomes (.ofs) c
      ({ c with seq := { c.seq with running := some { r with upc := r.upc + 1, started := true, waiting := false, o := listSet r.o (Machine.fld w 27 26) ((baseField r.insn (Machine.fld w 22 21) + Machine.fld w 11 0) % 4096) } } })) ∧
  (∀ (c : Chip) (r : Routine) (w : Word),
    AtWord c r w → Machine.fld w 31 28 = 5 → condHolds c r (Machine.fld w 27 24) = false →
    Becomes (.br) c
      ({ c with seq := { c.seq with running := some { r with upc := r.upc + 1, started := true, waiting := false } } })) ∧
  (∀ (c : Chip) (r : Routine) (w : Word),
    AtWord c r w → Machine.fld w 31 28 = 5 → condHolds c r (Machine.fld w 27 24) = true → bitOf w 23 = false →
    Becomes (.br) c
      ({ c with seq := { c.seq with running := some { r with upc := Machine.fld w 13 0, started := true, waiting := false } } })) ∧
  (∀ (c : Chip) (r : Routine) (w : Word),
    let k : Nat := Machine.fld w 27 24 - 3
    AtWord c r w → Machine.fld w 31 28 = 5 → 3 ≤ Machine.fld w 27 24 → Machine.fld w 27 24 ≤ 6 → routineK r k ≠ 0 →
    bitOf w 23 = true →
    Becomes (.br) c
      ({ c with seq := { c.seq with running := some { r with upc := Machine.fld w 13 0, started := true, waiting := false, k := listSet r.k k ((routineK r k + 1023) % 1024) } } })) ∧
  (∀ (c : Chip) (r : Routine) (w : Word),
    AtWord c r w → Machine.fld w 31 28 = 6 → Machine.fld w 27 24 = 0 → r.stack.length < 8 →
    Becomes (.call) c
      ({ c with seq := { c.seq with running := some { r with upc := Machine.fld w 13 0, started := true, waiting := false, stack := (r.upc + 1) :: r.stack } } })) ∧
  (∀ (c : Chip) (r : Routine) (w : Word),
    AtWord c r w → Machine.fld w 31 28 = 6 → Machine.fld w 27 24 = 0 → 8 ≤ r.stack.length →
    Becomes (.call) c
      (c.seqFault r 5)) ∧
  (∀ (c : Chip) (r : Routine) (w : Word) (a : Nat) (l : List Nat),
    AtWord c r w → Machine.fld w 31 28 = 7 → Machine.fld w 27 24 = 0 → r.stack = a :: l →
    Becomes (.ret) c
      ({ c with seq := { c.seq with running := some { r with upc := a, started := true, waiting := false, stack := l } } })) ∧
  (∀ (c : Chip) (r : Routine) (w : Word),
    AtWord c r w → Machine.fld w 31 28 = 7 → Machine.fld w 27 24 = 0 → r.stack = [] →
    Becomes (.ret) c
      (c.seqFault r 6)) ∧
  (∀ (c : Chip) (r : Routine) (w : Word),
    AtWord c r w → Machine.fld w 31 28 = 8 → urgentPending c = false → c.seq.powerStop = false →
    Becomes (.yield) c
      ({ c with seq := { c.seq with running := some { r with upc := r.upc + 1, started := true, waiting := false } } })) ∧
  (∀ (c : Chip) (r : Routine) (w : Word),
    AtWord c r w → Machine.fld w 31 28 = 8 → r.isYield = true → queueState c = 0 → urgentPending c = true →
    Becomes (.yield) c
      (c.abandon r)) ∧
  (∀ (c : Chip) (r : Routine) (w : Word),
    AtWord c r w → Machine.fld w 31 28 = 9 →
    Becomes (.endOp) c
      (c.endRoutine)) ∧
  (∀ (c : Chip) (r : Routine) (w : Word),
    AtWord c r w → Machine.fld w 31 28 = 10 → Machine.fld w 27 26 = 0 →
    (c.touch (groupPlanes (pageGroup r.insn w))).1 = true →
    Becomes (.pageTouch) c
      ((c.touch (groupPlanes (pageGroup r.insn w))).2.onRoutine nextWord)) ∧
  (∀ (c : Chip) (r : Routine) (w : Word),
    AtWord c r w → Machine.fld w 31 28 = 10 → Machine.fld w 27 26 = 0 →
    (c.touch (groupPlanes (pageGroup r.insn w))).1 = false →
    Becomes (.pageTouch) c
      ((c.touch (groupPlanes (pageGroup r.insn w))).2)) ∧
  (∀ (c : Chip) (r : Routine) (w : Word),
    AtWord c r w → Machine.fld w 31 28 = 10 → Machine.fld w 27 26 = 1 →
    Becomes (.pageDeclare) c
      ((c.declare (pagesOf [pageGroup r.insn w])).setRoutine (some (nextWord r)))) ∧
  (∀ (c : Chip) (r : Routine) (w : Word),
    AtWord c r w → Machine.fld w 31 28 = 10 → Machine.fld w 27 26 = 2 →
    groupOk (if bitOf w 15 then OperandClass.inPlace else OperandClass.separate) (pageGroup r.insn w) ⟨insnDst r.insn, wselWidth r.insn (Machine.fld w 19 16)⟩ = true →
    Becomes (.pageCheck) c
      ({ c with seq := { c.seq with running := some { r with upc := r.upc + 1, started := true, waiting := false } } })) ∧
  (∀ (c : Chip) (r : Routine) (w : Word),
    AtWord c r w → Machine.fld w 31 28 = 10 → Machine.fld w 27 26 = 2 →
    groupOk (if bitOf w 15 then OperandClass.inPlace else OperandClass.separate) (pageGroup r.insn w) ⟨insnDst r.insn, wselWidth r.insn (Machine.fld w 19 16)⟩ = false →
    Becomes (.pageCheck) c
      (c.seqFault r 3)) ∧
  (∀ (c : Chip) (r : Routine) (w : Word),
    AtWord c r w → Machine.fld w 31 28 = 12 → (bitOf w 27 = true → c.seq.gorFlight = []) →
    Becomes (.wait) c
      ({ c with seq := { c.seq with running := some { r with upc := r.upc + 1, started := true, waiting := false } } })) ∧
  (∀ (c : Chip) (r : Routine) (w : Word),
    AtWord c r w → Machine.fld w 31 28 = 12 → bitOf w 27 = true → c.seq.gorFlight ≠ [] →
    Becomes (.wait) c
      (c.setRoutine (some { r with waiting := true }))) ∧
  (∀ (c : Chip) (r : Routine) (w : Word),
    AtWord c r w → 0xD ≤ Machine.fld w 31 28 →
    Becomes (.reservedMicroword) c
      (c.seqFault r 4))

/-- The commands of the Array Sequencer complete. In RUN with vendor microcode ready and no routine running the head of the queue is
dispatched to its entry with the micro-registers of R113; an entry not loaded faults with CAUSE 2, a vendor opcode that R80 leaves
undefined with CAUSE 1. RESUME removes the faulting macro-instruction, DISCARD all that have not dispatched, each on every device of
the manager's gang; RESEED asks for the LFSRs to be loaded. The oldest GOR result reaches the flag and the vector; a read of TOR0
copies the vector, a read of a tile's status clears its count; a powered tile takes its temperature. (R50, R57, R58, R59, R69, R70,
R90, R91, R113, R115, R117) -/
def Obligations.SequencerCommandsComplete : Prop :=
  (∀ (c : Chip) (i : DWord) (l : List DWord),
    let d : Chip := Chip.setBit { c with seq := { c.seq with edges := c.fld Reg.ASQ_EDGE 11 0 }, pow := { c.pow with stopped := c.pow.stopped.filter (fun k => decide (k ≠ 0)) } } Reg.ASQ_QSTAT 27 false
    let e : Word := d.reg (Reg.ASQ_DISPn (insnOpc i))
    c.seq.queue = i :: l → mayDispatch c = true → c.bit Reg.ASQ_LFSR_CTL 0 = false →
    Becomes (.dispatch) c
      ({ d with seq := { d.seq with queue := l, running := some { insn := i, upc := Machine.fld e 13 0, isYield := bitOf e 30, loaded := bitOf e 31, o := [insnDst i, insnSra i, insnSrb i, (insnSrb i + insnW i) % 4096], k := [insnW i - 1, insnShf i, 0, 0] } } })) ∧
  (∀ (c : Chip) (i : DWord) (l : List DWord),
    let d : Chip := Chip.setBit { c with seq := { c.seq with edges := c.fld Reg.ASQ_EDGE 11 0 }, pow := { c.pow with stopped := c.pow.stopped.filter (fun k => decide (k ≠ 0)) } } Reg.ASQ_QSTAT 27 false
    let e : Word := d.reg (Reg.ASQ_DISPn (insnOpc i))
    c.seq.queue = i :: l → mayDispatch c = true → 0xC0 ≤ insnOpc i → c.bit (Reg.ASQ_DISPn (insnOpc i)) 31 = true →
    c.bit Reg.ASQ_LFSR_CTL 0 = false →
    Becomes (.customerRoutine) c
      ({ d with seq := { d.seq with queue := l, running := some { insn := i, upc := Machine.fld e 13 0, isYield := bitOf e 30, loaded := bitOf e 31, o := [insnDst i, insnSra i, insnSrb i, (insnSrb i + insnW i) % 4096], k := [insnW i - 1, insnShf i, 0, 0] } } })) ∧
  (∀ (c : Chip) (r : Routine),
    activeRoutine c = some r → r.started = false → r.loaded = false →
    Becomes (.undef) c
      (c.seqFault r 2)) ∧
  (∀ (c : Chip) (r : Routine),
    activeRoutine c = some r → r.started = false → r.loaded = true → insnOpc r.insn < 0xC0 →
    vendorDefined (insnOpc r.insn) = false →
    Becomes (.undef) c
      (c.seqFault r 1)) ∧
  (∀ (c : Chip) (i : DWord) (l : List DWord),
    let d : Chip := c.managerSay .resume
    portState c (regNode Reg.ASQ_QCTL) = 0 → queueState c = 1 → c.seq.queue = i :: l → stopInForce c = false →
    preemptHolds c = false → c.grn.preempt ≠ .requested → c.seq.running = none →
    Becomes (.resume) c
      (((Chip.setQueueState (Chip.setBit { d with seq := { d.seq with queue := l } } Reg.ASQ_FAULT 31 false) 0)))) ∧
  (∀ (c : Chip),
    let d : Chip := c.managerSay .discard
    portState c (regNode Reg.ASQ_QCTL) = 0 → queueState c ≠ 1 →
    Becomes (.discard) c
      (Chip.setBit { d with seq := { d.seq with queue := [] } } Reg.ASQ_QSTAT 27 false)) ∧
  (∀ (c : Chip),
    let d : Chip := c.managerSay .discard
    portState c (regNode Reg.ASQ_QCTL) = 0 → queueState c = 1 →
    Becomes (.discard) c
      ((Chip.setBit { d with seq := { d.seq with queue := [] } } Reg.ASQ_QSTAT 27 false).leaveHalted)) ∧
  (∀ (c : Chip),
    portState c (regNode Reg.ASQ_LFSR_CTL) = 0 →
    Becomes (.reseed) c
      (c.setBit Reg.ASQ_LFSR_CTL 0 true)) ∧
  (∀ (c : Chip) (g : Bool × TileBits) (l : List (Bool × TileBits)),
    c.seq.gorFlight = g :: l → (c.bit Reg.SPIN_STAT 29 && c.bit Reg.SPIN_STAT 31) = false ∨ c.spin.gangMap = 1 →
    Becomes (.gorResult) c
      ({ c with seq := { c.seq with gor := g.1, tor := g.2, gorFlight := l } })) ∧
  (∀ (c : Chip),
    portState c (regNode (Reg.ASQ_TORk 0)) = 0 →
    Becomes (.tor0Read) c
      ({ c with seq := { c.seq with torShadow := c.seq.tor }, resp := { data := c.seq.tor.toNat % 2 ^ 32 } })) ∧
  (∀ (c : Chip) (t : Fin 256),
    portState c (regNode (Reg.ASQ_TILE_STAT t.val)) = 0 →
    Becomes (.tileStatRead t) c
      ((c.respond { data := (c.reg (Reg.ASQ_TILE_STAT t.val)).toNat }).setFld (Reg.ASQ_TILE_STAT t.val) 29 22 0)) ∧
  (∀ (c : Chip) (t : Fin 256) (x : BitVec 12),
    c.isOn (.tileLogic t.val) = true →
    Becomes (.thermalSample t x) c
      (c.setReg (Reg.SYS_TTEMP t.val) (BitVec.ofNat 32 x.toNat)))

/-- The logic and integer routines of the array complete. The routines of MOV to SGET, CMP and ADD to ROR run whole: where the groups keep
the rule of their class and the TOUCH microword of each group finds its pages, every PE of every bound tile with its mask set gets the
result of its operation and the routine ends; a group that breaks the rule faults with CAUSE 3; a missing page holds the array. (R75,
R77, R78, R81, R83, R84, R92) -/
def Obligations.ArrayLogicAndIntegerRoutinesComplete : Prop :=
  VendorRuns .mov 0x01 opUnary false peMov ∧
  VendorRuns .not 0x02 opUnary false peNot ∧
  VendorRuns .ldi 0x03 (fun i => ⟨.inPlace, [], grpD i (insnW i)⟩) false peLdi ∧
  VendorRuns .sel 0x05 opBinary false peSel ∧
  VendorRuns .bool 0x06 opBinary false peBool ∧
  VendorRuns .mget 0x09 (fun i => ⟨.inPlace, [], grpD i 1⟩) false peMget ∧
  VendorRuns .sget 0x0A (fun i => ⟨.inPlace, [], grpD i 1⟩) false peSget ∧
  VendorRuns .cmp 0x28 (fun i => ⟨.inPlace, cmpSources i, grpD i 1⟩) false peCmp ∧
  VendorRuns .add 0x30 opBinary false peAdd ∧
  VendorRuns .sub 0x31 opBinary false peSub ∧
  VendorRuns .addi 0x32 opUnary false peAddi ∧
  VendorRuns .neg 0x33 opUnary false peNeg ∧
  VendorRuns .abs 0x34 opUnary false peAbs ∧
  VendorRuns .min 0x35 opBinary false peMin ∧
  VendorRuns .max 0x36 opBinary false peMax ∧
  VendorRuns .avg 0x37 opBinary false peAvg ∧
  VendorRuns .absd 0x38 opBinary false peAbsd ∧
  VendorRuns .clip 0x39 opUnary false peClip ∧
  VendorRuns .shl 0x3C opUnarySep false peShl ∧
  VendorRuns .shr 0x3D opUnarySep false peShr ∧
  VendorRuns .rol 0x3E opUnarySep false peRol ∧
  VendorRuns .ror 0x3F opUnarySep false peRor

/-- The multiplying, accumulating, hash and binary16 routines of the array complete. The routines of MUL, MULQ, DIV, SQRT, ACC to CLZ, SIG
to BSWAP and the binary16 operations run whole, as the logic and integer routines do. (R75, R77, R78, R85, R86, R87, R88, R92) -/
def Obligations.ArrayWideRoutinesComplete : Prop :=
  VendorRuns .mul 0x40 (fun i => opBinarySep i (insnW i) (insnShf i + 1) (insnW i + insnShf i + 1)) false peMul ∧
  VendorRuns .mulq 0x41 (fun i => opBinarySep i (insnW i) (insnW i) (insnW i)) false peMulq ∧
  VendorRuns .div 0x44 (fun i => opBinarySep i (insnW i) (insnW i) (2 * insnW i)) false peDiv ∧
  VendorRuns .sqrt 0x48 (fun i => ⟨.separate, [grpA i (insnW i)], grpD i (2 * insnW i)⟩) false peSqrt ∧
  VendorRuns .acc 0x50 opAccum true peAcc ∧
  VendorRuns .accn 0x51 opAccum true peAccn ∧
  VendorRuns .widen 0x52 opAccum false peWiden ∧
  VendorRuns .narrow 0x53 (fun i => ⟨.separate, [grpA i (insnW i + 8)], grpD i (insnW i)⟩) false peNarrowOp ∧
  VendorRuns .popc 0x54 (fun i => ⟨.separate, [grpA i (insnW i)], grpD i 7⟩) false pePopc ∧
  VendorRuns .clz 0x55 (fun i => ⟨.separate, [grpA i (insnW i)], grpD i 7⟩) false peClz ∧
  VendorRuns .sig 0x60 (fun i => ⟨.separate, [grpA i (sigWidth i)], grpD i (sigWidth i)⟩) false peSig ∧
  VendorRuns .ch 0x61 opTernary false peCh ∧
  VendorRuns .maj 0x62 opTernary false peMaj ∧
  VendorRuns .bswap 0x63 (fun i => ⟨.separate, [grpA i (bswapWidth i)], grpD i (bswapWidth i)⟩) false peBswap ∧
  VendorRuns .faddh 0x80 (fun i => opBinarySep i 16 16 32) false peFaddh ∧
  VendorRuns .fsubh 0x81 (fun i => opBinarySep i 16 16 32) false peFsubh ∧
  VendorRuns .fmulh 0x82 (fun i => opBinarySep i 16 16 32) false peFmulh ∧
  VendorRuns .ffmah 0x83 (fun i => opBinarySep i 16 16 32) true peFfmah ∧
  VendorRuns .fminh 0x84 (fun i => opBinarySep i 16 16 32) false peFminh ∧
  VendorRuns .fmaxh 0x85 (fun i => opBinarySep i 16 16 32) false peFmaxh ∧
  VendorRuns .fcmph 0x86 (fun i => opBinarySep i 16 16 32) false peFcmph ∧
  VendorRuns .fcvthi 0x88 (fun i => ⟨.separate, [grpA i 16], grpD i 32⟩) false peFcvthi ∧
  VendorRuns .fcvtih 0x89 (fun i => ⟨.separate, [grpA i (insnW i)], grpD i 32⟩) false peFcvtih ∧
  VendorRuns .fcvthq 0x8A (fun i => ⟨.separate, [grpA i 16], grpD i 32⟩) false peFcvthq ∧
  VendorRuns .fcvtqh 0x8B (fun i => ⟨.separate, [grpA i (insnW i)], grpD i 32⟩) false peFcvtqh

/-- The routines that move planes or set the registers of the PEs complete. NOP ends; LFSR writes one read of the pseudo-plane to each
plane of D; MSET sets M; SCLR clears S under the mask; NMOV and NMOVD write A moved, NADD the sum or difference of A and B moved; ANY
sends a GOR result on its way; CMPM sets M from the relation. A separate-class vendor routine at a YIELD, past its CHECK and TOUCH
microwords, with an urgent request pending is abandoned and leaves free values in what it may have written; without a request it goes
on. (R49, R56, R60, R61, R75, R81, R82, R83, R131, R137, R138) -/
def Obligations.ArrayControlRoutinesComplete : Prop :=
  (∀ (c : Chip) (r : Routine),
    vendorRoutine c 0x00 = some r →
    Becomes (.nop) c
      (c.endRoutine)) ∧
  (∀ (c : Chip) (r : Routine),
    let i : DWord := r.insn
    let q : Bool × Chip := c.vendorTouch r ([groupPlanes (grpD i (insnW i))])
    let d : Chip := q.2
    vendorRoutine c 0x04 = some r → q.1 = true →
    Becomes (.lfsr) c
      (((boundTiles d).foldl (fun c t => ((groupPlanes (grpD i (insnW i))).foldl (fun b v => (b.onTile t (fun x => { x with lfsr := (lfsrRead (b.tile t)).2.lfsr })).writeVirtual t v (peMask i (c.tile t)) (lfsrRead (b.tile t)).1) c).endRegisters t (peMask i (c.tile t))) d).endRoutine)) ∧
  (∀ (c : Chip) (r : Routine),
    let i : DWord := r.insn
    let q : Bool × Chip := c.vendorTouch r ([msetPlanes i])
    let d : Chip := q.2
    vendorRoutine c 0x08 = some r → q.1 = true →
    Becomes (.mset) c
      (((boundTiles d).foldl (fun c t => (((msetPlanes i).foldl (fun c p => c.readVendor t p) c).onTile t (fun x => { x with M := msetValue i (c.tile t) })).endRegisters t allPes) d).endRoutine)) ∧
  (∀ (c : Chip) (r : Routine),
    let i : DWord := r.insn
    let q : Bool × Chip := c.vendorTouch r ([])
    let d : Chip := q.2
    vendorRoutine c 0x0B = some r → q.1 = true →
    Becomes (.sclr) c
      (((boundTiles d).foldl (fun c t => (c.onTile t (fun x => { x with S := x.S &&& ~~~peMask i (c.tile t) })).endRegisters t (peMask i (c.tile t))) d).endRoutine)) ∧
  (∀ (c : Chip) (r : Routine),
    let i : DWord := r.insn
    let q : Bool × Chip := c.vendorTouch r ([groupPlanes (grpD i (insnW i)), groupPlanes (grpA i (insnW i))])
    let d : Chip := q.2
    vendorRoutine c 0x10 = some r →
    ([grpA r.insn (insnW r.insn)]).all (fun g => groupOk .inPlace g (grpD r.insn (insnW r.insn))) = true → q.1 = true →
    Becomes (.nmov) c
      ((d.moveBody i [(insnShf i, insnAux i % 4)]).endRoutine)) ∧
  (∀ (c : Chip) (r : Routine),
    let i : DWord := r.insn
    let q : Bool × Chip := c.vendorTouch r ([groupPlanes (grpD i (insnW i)), groupPlanes (grpA i (insnW i))])
    let d : Chip := q.2
    vendorRoutine c 0x11 = some r →
    ([grpA r.insn (insnW r.insn)]).all (fun g => groupOk .inPlace g (grpD r.insn (insnW r.insn))) = true → q.1 = true →
    Becomes (.nmovd) c
      ((d.moveBody i (twoDirs (insnAux i) (insnShf i))).endRoutine)) ∧
  (∀ (c : Chip) (r : Routine),
    let i : DWord := r.insn
    let q : Bool × Chip := c.vendorTouch r ([groupPlanes (grpD i (insnW i)), groupPlanes (grpA i (insnW i)), groupPlanes (grpB i (insnW i))])
    let d : Chip := q.2
    vendorRoutine c 0x12 = some r →
    ([grpA r.insn (insnW r.insn), grpB r.insn (insnW r.insn)]).all (fun g => groupOk .inPlace g (grpD r.insn (insnW r.insn))) = true →
    q.1 = true →
    Becomes (.nadd) c
      ((d.naddBody i).endRoutine)) ∧
  (∀ (c : Chip) (r : Routine),
    let i : DWord := r.insn
    let q : Bool × Chip := c.vendorTouch r ([anyPlanes i])
    let d : Chip := q.2
    vendorRoutine c 0x20 = some r → q.1 = true →
    Becomes (.any) c
      (((boundTiles d).foldl (fun c t => c.endRegisters t allPes) (Chip.gorIssue ((boundTiles d).foldl (fun c t => (anyPlanes i).foldl (fun c p => c.readVendor t p) c) d) (gorResult ((boundTiles d).foldl (fun c t => (anyPlanes i).foldl (fun c p => c.readVendor t p) c) d) (anyPlane i)))).endRoutine)) ∧
  (∀ (c : Chip) (r : Routine),
    let i : DWord := r.insn
    let q : Bool × Chip := c.vendorTouch r ((cmpSources i).map groupPlanes)
    let d : Chip := q.2
    vendorRoutine c 0x29 = some r → q.1 = true →
    Becomes (.cmpm) c
      (((boundTiles d).foldl (fun c t => (((cmpSources i).foldl (fun c g => c.noteGroup t g) c).onTile t (fun y => { y with M := if insnMsk i then (c.tile t).M &&& planeOfList ((tileResults (c.tile t) i ⟨.none, cmpSources i, ⟨0, 0⟩⟩ peCmp).map (fun r => r.1.testBit 0)) else planeOfList ((tileResults (c.tile t) i ⟨.none, cmpSources i, ⟨0, 0⟩⟩ peCmp).map (fun r => r.1.testBit 0)) })).endRegisters t (peMask i (c.tile t))) d).endRoutine)) ∧
  (∀ (c : Chip) (r : Routine) (o : SepOp),
    let v : VendorOp := o.op r.insn
    let q : Bool × Chip := (c.vendorDeclare r).vendorTouch r (opGroups v)
    activeRoutine c = some r → sepOp (insnOpc r.insn) = some o → insnOpc r.insn < 0xC0 → r.loaded = true → r.isYield = true →
    queueState c = 0 → urgentPending c = true → v.srcs.all (fun g => groupOk v.cls g v.dst) = true → q.1 = true →
    Becomes (.yield) c
      (((boundTiles q.2).foldl (fun c t => c.abandonTile t r.insn o) q.2).abandon r)) ∧
  (∀ (c : Chip) (r : Routine),
    activeRoutine c = some r → insnOpc r.insn < 0xC0 → urgentPending c = false → queueState c = 0 →
    Becomes (.yield) c
      (c))

/-- The integer and move-immediate instructions of the core complete. ADD, ADC, SUB, SBC, CMP, the bitwise operations, the shifts, MOV,
QADD, QSUB, MOVL and MOVH write D and set the flags as R214 and R238 to R240 give: C of a subtraction says that there was no borrow, V
that the signed result left the range, a shift's C is the last bit shifted out, and a saturating operation sets SV when it saturates.
(R211, R212, R213, R214, R226, R238, R239, R240) -/
def Obligations.CoreIntegerInstructionsComplete : Prop :=
  CoreRuns .distaffAdd (fun w => decide (wCls w ≤ 1) && decide (wOp w = 0))
    (aluDid true (fun a b _ => { r := (a + b) % 2 ^ 32, c := some (decide (2 ^ 32 ≤ a + b)), v := some (outside32 (toSigned 32 a + toSigned 32 b)) })) ∧
  CoreRuns .adc (fun w => decide (wCls w ≤ 1) && decide (wOp w = 1))
    (aluDid true (fun a b k => { r := (a + b + k) % 2 ^ 32, c := some (decide (2 ^ 32 ≤ a + b + k)), v := some (outside32 (toSigned 32 a + toSigned 32 b + k)) })) ∧
  CoreRuns .distaffSub (fun w => decide (wCls w ≤ 1) && decide (wOp w = 2))
    (aluDid true (fun a b _ => { r := wrapInt 32 ((a : Int) - b), c := some (decide (b ≤ a)), v := some (outside32 (toSigned 32 a - toSigned 32 b)) })) ∧
  CoreRuns .sbc (fun w => decide (wCls w ≤ 1) && decide (wOp w = 3))
    (aluDid true (fun a b k => { r := wrapInt 32 ((a : Int) - b - (1 - k : Nat)), c := some (decide (b + (1 - k) ≤ a)), v := some (outside32 (toSigned 32 a - toSigned 32 b - (1 - k : Nat))) })) ∧
  CoreRuns .and (fun w => decide (wCls w ≤ 1) && decide (wOp w = 4))
    (aluDid true (fun a b _ => { r := (a &&& b) % 2 ^ 32 })) ∧
  CoreRuns .or (fun w => decide (wCls w ≤ 1) && decide (wOp w = 5))
    (aluDid true (fun a b _ => { r := (a ||| b) % 2 ^ 32 })) ∧
  CoreRuns .xor (fun w => decide (wCls w ≤ 1) && decide (wOp w = 6))
    (aluDid true (fun a b _ => { r := (a ^^^ b) % 2 ^ 32 })) ∧
  CoreRuns .bic (fun w => decide (wCls w ≤ 1) && decide (wOp w = 7))
    (aluDid true (fun a b _ => { r := (a &&& (2 ^ 32 - 1 - b)) % 2 ^ 32 })) ∧
  CoreRuns .lsl (fun w => decide (wCls w ≤ 1) && decide (wOp w = 8))
    (aluDid true (fun a n _ => if n = 0 then { r := a } else { r := a * 2 ^ n % 2 ^ 32, c := some (decide (n ≤ 32) && a.testBit (32 - n)) })) ∧
  CoreRuns .lsr (fun w => decide (wCls w ≤ 1) && decide (wOp w = 9))
    (aluDid true (fun a n _ => if n = 0 then { r := a } else { r := a / 2 ^ n, c := some (a.testBit (n - 1)) })) ∧
  CoreRuns .asr (fun w => decide (wCls w ≤ 1) && decide (wOp w = 10))
    (aluDid true (fun a n _ => if n = 0 then { r := a } else { r := wrapInt 32 (toSigned 32 a / 2 ^ n), c := some (if 32 ≤ n then a.testBit 31 else a.testBit (n - 1)) })) ∧
  CoreRuns .distaffRor (fun w => decide (wCls w ≤ 1) && decide (wOp w = 11))
    (aluDid true (fun a n _ => if n = 0 then { r := a } else { r := rotr 32 a n, c := some ((rotr 32 a n).testBit 31) })) ∧
  CoreRuns .distaffMov (fun w => decide (wCls w ≤ 1) && decide (wOp w = 12))
    (aluDid true (fun _ b _ => { r := b % 2 ^ 32 })) ∧
  CoreRuns .distaffCmp (fun w => decide (wCls w ≤ 1) && decide (wOp w = 13))
    (aluDid false (fun a b _ => { r := wrapInt 32 ((a : Int) - b), c := some (decide (b ≤ a)), v := some (outside32 (toSigned 32 a - toSigned 32 b)) })) ∧
  CoreRuns .qadd (fun w => decide (wCls w ≤ 1) && decide (wOp w = 14))
    (aluDid true (fun a b _ => aluSat (toSigned 32 a + toSigned 32 b))) ∧
  CoreRuns .qsub (fun w => decide (wCls w ≤ 1) && decide (wOp w = 15))
    (aluDid true (fun a b _ => aluSat (toSigned 32 a - toSigned 32 b))) ∧
  CoreRuns .movl (fun w => decide (wCls w = 2) && decide (Machine.fld w 23 22 = 0))
    (fun d w pc => .next (d.setG (wD w) (Machine.fld w 15 0)) (pc + 4) none) ∧
  CoreRuns .movh (fun w => decide (wCls w = 2) && decide (Machine.fld w 23 22 = 1))
    (fun d w pc => .next (d.setG (wD w) (Machine.fld w 15 0 * 2 ^ 16 + coreG d (wD w) % 2 ^ 16)) (pc + 4) none)

/-- The accumulator and division instructions of the core complete. MUL, MAC, MSU, MOVA, RDA, ASRA and CLRA of class 0x5 write the
accumulator, or G for RDA; without FRAC the product is first reduced to 40 bits (MAC and MSU take the reduced product: DEDUCED, log
145), and a result that saturates under SAT sets SV; DIVS, DIVU, REMS and REMU write the quotient or the remainder, set DZ when they
divide by zero, and under SF set N, Z and V. (R213, R214, R221, R238, R242, R243, R244) -/
def Obligations.CoreAccumulatorAndDivisionInstructionsComplete : Prop :=
  CoreRuns .distaffMulAcc (fun w => decide (wCls w = 5) && decide (wOp w = 0))
    (fun d w pc => .next (if bitOf w 4 then d.accPut w (roundOff (2 * (toSigned 32 (coreG d (wA w)) * toSigned 32 (coreG d (wB w)))) 32 (Machine.fld w 7 6)) else (if (narrowTo 40 (toSigned 32 (coreG d (wA w)) * toSigned 32 (coreG d (wB w))) (bitOf w 5)).2 then d.setFlag 27 true else d).accPut w (toSigned 40 (narrowTo 40 (toSigned 32 (coreG d (wA w)) * toSigned 32 (coreG d (wB w))) (bitOf w 5)).1)) (pc + 4) none) ∧
  CoreRuns .mac (fun w => decide (wCls w = 5) && decide (wOp w = 1))
    (fun d w pc => .next (if bitOf w 4 then d.accPut w (coreA d (wAd w) + roundOff (2 * (toSigned 32 (coreG d (wA w)) * toSigned 32 (coreG d (wB w)))) 32 (Machine.fld w 7 6)) else (if (narrowTo 40 (toSigned 32 (coreG d (wA w)) * toSigned 32 (coreG d (wB w))) (bitOf w 5)).2 then d.setFlag 27 true else d).accPut w (coreA d (wAd w) + toSigned 40 (narrowTo 40 (toSigned 32 (coreG d (wA w)) * toSigned 32 (coreG d (wB w))) (bitOf w 5)).1)) (pc + 4) none) ∧
  CoreRuns .msu (fun w => decide (wCls w = 5) && decide (wOp w = 2))
    (fun d w pc => .next (if bitOf w 4 then d.accPut w (coreA d (wAd w) - roundOff (2 * (toSigned 32 (coreG d (wA w)) * toSigned 32 (coreG d (wB w)))) 32 (Machine.fld w 7 6)) else (if (narrowTo 40 (toSigned 32 (coreG d (wA w)) * toSigned 32 (coreG d (wB w))) (bitOf w 5)).2 then d.setFlag 27 true else d).accPut w (coreA d (wAd w) - toSigned 40 (narrowTo 40 (toSigned 32 (coreG d (wA w)) * toSigned 32 (coreG d (wB w))) (bitOf w 5)).1)) (pc + 4) none) ∧
  CoreRuns .mova (fun w => decide (wCls w = 5) && decide (wOp w = 3))
    (fun d w pc => .next (d.setA (wAd w) (wrapInt 40 (toSigned 32 (coreG d (wA w))))) (pc + 4) none) ∧
  CoreRuns .rda (fun w => decide (wCls w = 5) && decide (wOp w = 4))
    (fun d w pc => .next (if (narrowTo 32 (roundOff (coreA d (wAd w)) (Machine.fld w 3 0) (Machine.fld w 7 6)) (bitOf w 5)).2 then (d.setFlag 27 true).setG (wA w) (narrowTo 32 (roundOff (coreA d (wAd w)) (Machine.fld w 3 0) (Machine.fld w 7 6)) (bitOf w 5)).1 else d.setG (wA w) (narrowTo 32 (roundOff (coreA d (wAd w)) (Machine.fld w 3 0) (Machine.fld w 7 6)) (bitOf w 5)).1) (pc + 4) none) ∧
  CoreRuns .asra (fun w => decide (wCls w = 5) && decide (wOp w = 5))
    (fun d w pc => .next (d.setA (wAd w) (wrapInt 40 (roundOff (coreA d (wAd w)) (Machine.fld w 3 0) (Machine.fld w 7 6)))) (pc + 4) none) ∧
  CoreRuns .clra (fun w => decide (wCls w = 5) && decide (wOp w = 6))
    (fun d w pc => .next (d.setA (wAd w) 0) (pc + 4) none) ∧
  CoreRuns .divs (fun w => decide (wCls w = 6) && decide (wOp w = 3))
    (mulDid (fun a b => ({ r := (divS a b).q, v := some (divS a b).v }, (divS a b).dz))) ∧
  CoreRuns .divu (fun w => decide (wCls w = 6) && decide (wOp w = 4))
    (mulDid (fun a b => ({ r := (divU a b).q, v := some false }, decide (b = 0)))) ∧
  CoreRuns .rems (fun w => decide (wCls w = 6) && decide (wOp w = 5))
    (mulDid (fun a b => ({ r := (divS a b).r, v := some (divS a b).v }, (divS a b).dz))) ∧
  CoreRuns .remu (fun w => decide (wCls w = 6) && decide (wOp w = 6))
    (mulDid (fun a b => ({ r := (divU a b).r, v := some false }, decide (b = 0))))

/-- MUL, MULHS and MULHU of class 0x6 write the halves of the product. MUL writes the low 32 bits of A x B, which the signed and the
unsigned product share; MULHS writes bits 63:32 of the signed, MULHU of the unsigned product; none sets V or SV. (R241) -/
def Obligations.ClassSixMultiplication : Prop :=
  CoreRuns .distaffMul (fun w => decide (wCls w = 6) && decide (wOp w = 0))
    (mulDid (fun a b => ({ r := a * b % 2 ^ 32 }, false))) ∧
  CoreRuns .mulhs (fun w => decide (wCls w = 6) && decide (wOp w = 1))
    (mulDid (fun a b => ({ r := wrapInt 32 (toSigned 32 a * toSigned 32 b / 2 ^ 32) }, false))) ∧
  CoreRuns .mulhu (fun w => decide (wCls w = 6) && decide (wOp w = 2))
    (mulDid (fun a b => ({ r := a * b / 2 ^ 32 }, false))) ∧
  (∀ a b : Nat, wrapInt 32 (toSigned 32 a * toSigned 32 b) = a * b % 2 ^ 32) ∧
  (∀ (f : Nat → Nat → AluOut × Bool) (d : Chip) (w : Word) (pc : Nat), (∀ a b, (f a b).2 = false ∧ (f a b).1.v = none) →
    ∃ e, mulDid f d w pc = .next e (pc + 4) none ∧ ∀ i, i < 29 → coreFlag e i = coreFlag d i)

/-- The binary32 instructions of the core complete. FADD to FABS write D with the operation's result rounded by FPSR.RM, FCMP the flags N,
Z, C and V; the flags that are raised are ORed into FPSR.FLAGS, and one whose trap is enabled raises FPTRAP with nothing else written.
(R235, R245, R246, R247, R248, R250) -/
def Obligations.CoreBinary32InstructionsComplete : Prop :=
  CoreRuns .fadd (fun w => decide (wCls w = 7) && decide (wOp w = 0))
    (fpDid (fpToD (fun a b _ m => fpAdd fpSingle m a b))) ∧
  CoreRuns .fsub (fun w => decide (wCls w = 7) && decide (wOp w = 1))
    (fpDid (fpToD (fun a b _ m => fpSub fpSingle m a b))) ∧
  CoreRuns .fmul (fun w => decide (wCls w = 7) && decide (wOp w = 2))
    (fpDid (fpToD (fun a b _ m => fpMul fpSingle m a b))) ∧
  CoreRuns .fdiv (fun w => decide (wCls w = 7) && decide (wOp w = 3))
    (fpDid (fpToD (fun a b _ m => fpDiv fpSingle m a b))) ∧
  CoreRuns .fsqrt (fun w => decide (wCls w = 7) && decide (wOp w = 4))
    (fpDid (fpToD (fun a _ _ m => fpSqrt fpSingle m a))) ∧
  CoreRuns .fma (fun w => decide (wCls w = 7) && decide (wOp w = 5))
    (fpDid (fpToD (fun a b d m => fpFma fpSingle m a b d))) ∧
  CoreRuns .fmin (fun w => decide (wCls w = 7) && decide (wOp w = 6))
    (fpDid (fpToD (fun a b _ _ => fpMinMax fpSingle false a b))) ∧
  CoreRuns .fmax (fun w => decide (wCls w = 7) && decide (wOp w = 7))
    (fpDid (fpToD (fun a b _ _ => fpMinMax fpSingle true a b))) ∧
  CoreRuns .fcmp (fun w => decide (wCls w = 7) && decide (wOp w = 8))
    (fpDid (fun d w _ => ({ invalid := fpIsSnan (fpUnpack fpSingle (coreG d (wA w))) || fpIsSnan (fpUnpack fpSingle (coreG d (wB w))) }, fun x => { x with core := { x.core with flg := Machine.setFld x.core.flg 31 28 (fcmpFlags (fpUnpack fpSingle (coreG d (wA w))) (fpUnpack fpSingle (coreG d (wB w)))) } }))) ∧
  CoreRuns .fcvtws (fun w => decide (wCls w = 7) && decide (wOp w = 9))
    (fpDid (fpToD (fun a _ _ m => fpToFixed m (fpUnpack fpSingle a) 0 32 true 0))) ∧
  CoreRuns .fcvtsw (fun w => decide (wCls w = 7) && decide (wOp w = 10))
    (fpDid (fpToD (fun a _ _ m => fpOfFixed fpSingle m (toSigned 32 a) 0))) ∧
  CoreRuns .fneg (fun w => decide (wCls w = 7) && decide (wOp w = 11))
    (fpDid (fpToD (fun a _ _ _ => (a ^^^ 2 ^ 31, {})))) ∧
  CoreRuns .fabs (fun w => decide (wCls w = 7) && decide (wOp w = 12))
    (fpDid (fpToD (fun a _ _ _ => (a % 2 ^ 31, {}))))

/-- The decimal and pointer-move instructions of the core complete. DADD and DSUB write eight digits, with C for the carry or for no borrow
and Z for zero, or only set DV where a nibble is above 9; DCHK sets Z alone; the instructions of class 0xB move between G and P, B, L,
N and A, with the widths and extensions of R214. (R213, R214, R251, R252) -/
def Obligations.CoreDecimalAndMoveInstructionsComplete : Prop :=
  CoreRuns .dadd (fun w => decide (wCls w = 8) && decide (wOp w = 0))
    (bcdDid (fun a b => ((a + b) % 10 ^ 8, decide (10 ^ 8 ≤ a + b)))) ∧
  CoreRuns .dsub (fun w => decide (wCls w = 8) && decide (wOp w = 1))
    (bcdDid (fun a b => (if b ≤ a then a - b else 10 ^ 8 - (b - a), decide (b ≤ a)))) ∧
  CoreRuns .dchk (fun w => decide (wCls w = 8) && decide (wOp w = 2))
    (fun d w pc => .next (d.setFlag 30 (bcdOk (coreG d (wA w)))) (pc + 4) none) ∧
  CoreRuns .setp (fun w => decide (wCls w = 11) && decide (wOp w = 0))
    (fun d w pc => .next (d.setP (Machine.fld w 15 13) (Machine.fld w 7 0 * 2 ^ 32 + coreG d (wD w))) (pc + 4) none) ∧
  CoreRuns .getp (fun w => decide (wCls w = 11) && decide (wOp w = 1))
    (fun d w pc => .next (d.setG (wD w) (coreP d (Machine.fld w 15 13))) (pc + 4) none) ∧
  CoreRuns .getph (fun w => decide (wCls w = 11) && decide (wOp w = 2))
    (fun d w pc => .next (d.setG (wD w) (coreP d (Machine.fld w 15 13) / 2 ^ 32)) (pc + 4) none) ∧
  CoreRuns .addp (fun w => decide (wCls w = 11) && decide (wOp w = 3))
    (fun d w pc => .next (d.setP (Machine.fld w 15 13) (wrapInt 40 ((coreP d (Machine.fld w 15 13) : Int) + toSigned 12 (Machine.fld w 11 0)))) (pc + 4) none) ∧
  CoreRuns .setb (fun w => decide (wCls w = 11) && decide (wOp w = 4))
    (fun d w pc => .next ({ d with core := { d.core with b := listSet d.core.b (Machine.fld w 15 13) (BitVec.ofNat 40 (Machine.fld w 7 0 * 2 ^ 32 + coreG d (wD w))) } }) (pc + 4) none) ∧
  CoreRuns .setl (fun w => decide (wCls w = 11) && decide (wOp w = 5))
    (fun d w pc => .next ({ d with core := { d.core with l := listSet d.core.l (Machine.fld w 15 13) (BitVec.ofNat 24 (coreG d (wD w))) } }) (pc + 4) none) ∧
  CoreRuns .setn (fun w => decide (wCls w = 11) && decide (wOp w = 6))
    (fun d w pc => .next ({ d with core := { d.core with n := listSet d.core.n (Machine.fld w 15 13) (BitVec.ofNat 24 (coreG d (wD w))) } }) (pc + 4) none) ∧
  CoreRuns .getl (fun w => decide (wCls w = 11) && decide (wOp w = 7))
    (fun d w pc => .next (d.setG (wD w) (listGet 0 d.core.l (Machine.fld w 15 13)).toNat) (pc + 4) none) ∧
  CoreRuns .getn (fun w => decide (wCls w = 11) && decide (wOp w = 8))
    (fun d w pc => .next (d.setG (wD w) (wrapInt 32 (listGet 0 d.core.n (Machine.fld w 15 13)).toInt)) (pc + 4) none) ∧
  CoreRuns .getb (fun w => decide (wCls w = 11) && decide (wOp w = 9))
    (fun d w pc => .next (d.setG (wD w) (listGet 0 d.core.b (Machine.fld w 15 13)).toNat) (pc + 4) none) ∧
  CoreRuns .getal (fun w => decide (wCls w = 11) && decide (wOp w = 10))
    (fun d w pc => .next (d.setG (wD w) (listGet 0 d.core.a (Machine.fld w 15 13)).toNat) (pc + 4) none) ∧
  CoreRuns .getah (fun w => decide (wCls w = 11) && decide (wOp w = 11))
    (fun d w pc => .next (d.setG (wD w) (wrapInt 32 (coreA d (Machine.fld w 15 13) / 2 ^ 32))) (pc + 4) none) ∧
  CoreRuns .setah (fun w => decide (wCls w = 11) && decide (wOp w = 12))
    (fun d w pc => .next ({ d with core := { d.core with a := listSet d.core.a (Machine.fld w 15 13) (addrHigh (listGet 0 d.core.a (Machine.fld w 15 13)) (coreG d (wD w))) } }) (pc + 4) none)

/-- The loads of the core complete. A load whose address is aligned and whose access succeeds steps its base pointer and has its value,
zero- or sign-extended, on its way to its register, which it reaches after the next instruction; a misaligned address raises ALIGN and
an access that fails raises BUSERR, with the address in BADADDR. (R214, R217, R219, R220, R226) -/
def Obligations.CoreLoadsComplete : Prop :=
  (∀ (c : Chip) (d : Chip) (w : Word),
    let pc : Nat := c.core.pc.toNat
    let m : Nat × Nat := memAddress d w
    let r : Resp × Chip := d.coreRead m.1 1
    CoreBegins c d w → wCls w = 3 → wOp w = 1 → r.1.status = 0 → r.1.poison = false →
    Becomes (.ldb) c
      (Chip.coreDid w (.next (r.2.setP (wIdx w) m.2) (pc + 4) (some (.g (wD w), BitVec.ofNat 40 (r.1.data)))))) ∧
  (∀ (c : Chip) (d : Chip) (w : Word),
    let pc : Nat := c.core.pc.toNat
    let m : Nat × Nat := memAddress d w
    let r : Resp × Chip := d.coreRead m.1 1
    CoreBegins c d w → wCls w = 3 → wOp w = 1 → r.1.status ≠ 0 ∨ r.1.poison = true → r.1.status ≠ 5 →
    Becomes (.ldb) c
      (r.2.coreTrap 5 0 (some m.1) pc)) ∧
  (∀ (c : Chip) (d : Chip) (w : Word),
    let pc : Nat := c.core.pc.toNat
    let m : Nat × Nat := memAddress d w
    let r : Resp × Chip := d.coreRead m.1 1
    CoreBegins c d w → wCls w = 3 → wOp w = 3 → r.1.status = 0 → r.1.poison = false →
    Becomes (.ldsb) c
      (Chip.coreDid w (.next (r.2.setP (wIdx w) m.2) (pc + 4) (some (.g (wD w), BitVec.ofNat 40 (wrapInt 32 (toSigned 8 r.1.data))))))) ∧
  (∀ (c : Chip) (d : Chip) (w : Word),
    let pc : Nat := c.core.pc.toNat
    let m : Nat × Nat := memAddress d w
    let r : Resp × Chip := d.coreRead m.1 1
    CoreBegins c d w → wCls w = 3 → wOp w = 3 → r.1.status ≠ 0 ∨ r.1.poison = true → r.1.status ≠ 5 →
    Becomes (.ldsb) c
      (r.2.coreTrap 5 0 (some m.1) pc)) ∧
  (∀ (c : Chip) (d : Chip) (w : Word),
    let pc : Nat := c.core.pc.toNat
    let m : Nat × Nat := memAddress d w
    let r : Resp × Chip := d.coreRead m.1 2
    CoreBegins c d w → wCls w = 3 → wOp w = 5 → m.1 % 2 = 0 → r.1.status = 0 → r.1.poison = false →
    Becomes (.ldh) c
      (Chip.coreDid w (.next (r.2.setP (wIdx w) m.2) (pc + 4) (some (.g (wD w), BitVec.ofNat 40 (r.1.data)))))) ∧
  (∀ (c : Chip) (d : Chip) (w : Word),
    let pc : Nat := c.core.pc.toNat
    let m : Nat × Nat := memAddress d w
    let r : Resp × Chip := d.coreRead m.1 2
    CoreBegins c d w → wCls w = 3 → wOp w = 5 → m.1 % 2 = 0 → r.1.status ≠ 0 ∨ r.1.poison = true → r.1.status ≠ 5 →
    Becomes (.ldh) c
      (r.2.coreTrap 5 0 (some m.1) pc)) ∧
  (∀ (c : Chip) (d : Chip) (w : Word),
    let pc : Nat := c.core.pc.toNat
    let m : Nat × Nat := memAddress d w
    CoreBegins c d w → wCls w = 3 → wOp w = 5 → m.1 % 2 ≠ 0 →
    Becomes (.ldh) c
      (d.coreTrap 4 0 (some m.1) pc)) ∧
  (∀ (c : Chip) (d : Chip) (w : Word),
    let pc : Nat := c.core.pc.toNat
    let m : Nat × Nat := memAddress d w
    let r : Resp × Chip := d.coreRead m.1 2
    CoreBegins c d w → wCls w = 3 → wOp w = 7 → m.1 % 2 = 0 → r.1.status = 0 → r.1.poison = false →
    Becomes (.ldsh) c
      (Chip.coreDid w (.next (r.2.setP (wIdx w) m.2) (pc + 4) (some (.g (wD w), BitVec.ofNat 40 (wrapInt 32 (toSigned 16 r.1.data))))))) ∧
  (∀ (c : Chip) (d : Chip) (w : Word),
    let pc : Nat := c.core.pc.toNat
    let m : Nat × Nat := memAddress d w
    let r : Resp × Chip := d.coreRead m.1 2
    CoreBegins c d w → wCls w = 3 → wOp w = 7 → m.1 % 2 = 0 → r.1.status ≠ 0 ∨ r.1.poison = true → r.1.status ≠ 5 →
    Becomes (.ldsh) c
      (r.2.coreTrap 5 0 (some m.1) pc)) ∧
  (∀ (c : Chip) (d : Chip) (w : Word),
    let pc : Nat := c.core.pc.toNat
    let m : Nat × Nat := memAddress d w
    CoreBegins c d w → wCls w = 3 → wOp w = 7 → m.1 % 2 ≠ 0 →
    Becomes (.ldsh) c
      (d.coreTrap 4 0 (some m.1) pc)) ∧
  (∀ (c : Chip) (d : Chip) (w : Word),
    let pc : Nat := c.core.pc.toNat
    let m : Nat × Nat := memAddress d w
    let r : Resp × Chip := d.coreRead m.1 4
    CoreBegins c d w → wCls w = 3 → wOp w = 9 → m.1 % 4 = 0 → r.1.status = 0 → r.1.poison = false →
    Becomes (.ldw) c
      (Chip.coreDid w (.next (r.2.setP (wIdx w) m.2) (pc + 4) (some (.g (wD w), BitVec.ofNat 40 (r.1.data)))))) ∧
  (∀ (c : Chip) (d : Chip) (w : Word),
    let pc : Nat := c.core.pc.toNat
    let m : Nat × Nat := memAddress d w
    let r : Resp × Chip := d.coreRead m.1 4
    CoreBegins c d w → wCls w = 3 → wOp w = 9 → m.1 % 4 = 0 → r.1.status ≠ 0 ∨ r.1.poison = true → r.1.status ≠ 5 →
    Becomes (.ldw) c
      (r.2.coreTrap 5 0 (some m.1) pc)) ∧
  (∀ (c : Chip) (d : Chip) (w : Word),
    let pc : Nat := c.core.pc.toNat
    let m : Nat × Nat := memAddress d w
    CoreBegins c d w → wCls w = 3 → wOp w = 9 → m.1 % 4 ≠ 0 →
    Becomes (.ldw) c
      (d.coreTrap 4 0 (some m.1) pc)) ∧
  (∀ (c : Chip) (d : Chip) (w : Word),
    let pc : Nat := c.core.pc.toNat
    let m : Nat × Nat := memAddress d w
    let r : Resp × Chip := d.coreRead m.1 8
    CoreBegins c d w → wCls w = 4 → wOp w = 1 → m.1 % 8 = 0 → r.1.status = 0 → r.1.poison = false →
    Becomes (.lda) c
      (Chip.coreDid w (.next (r.2.setP (wIdx w) m.2) (pc + 4) (some (.a (Machine.fld w 17 16), BitVec.ofNat 40 r.1.data))))) ∧
  (∀ (c : Chip) (d : Chip) (w : Word),
    let pc : Nat := c.core.pc.toNat
    let m : Nat × Nat := memAddress d w
    let r : Resp × Chip := d.coreRead m.1 8
    CoreBegins c d w → wCls w = 4 → wOp w = 1 → m.1 % 8 = 0 → r.1.status ≠ 0 ∨ r.1.poison = true → r.1.status ≠ 5 →
    Becomes (.lda) c
      (r.2.coreTrap 5 0 (some m.1) pc)) ∧
  (∀ (c : Chip) (d : Chip) (w : Word),
    let pc : Nat := c.core.pc.toNat
    let m : Nat × Nat := memAddress d w
    CoreBegins c d w → wCls w = 4 → wOp w = 1 → m.1 % 8 ≠ 0 →
    Becomes (.lda) c
      (d.coreTrap 4 0 (some m.1) pc)) ∧
  (∀ (c : Chip) (d : Chip) (w : Word),
    let pc : Nat := c.core.pc.toNat
    let m : Nat × Nat := memAddress d w
    let r : Resp × Chip := d.coreRead m.1 8
    CoreBegins c d w → wCls w = 4 → wOp w = 3 → m.1 % 8 = 0 → r.1.status = 0 → r.1.poison = false →
    Becomes (.ldp) c
      (Chip.coreDid w (.next (r.2.setP (wIdx w) m.2) (pc + 4) (some (.p (Machine.fld w 18 16), BitVec.ofNat 40 r.1.data))))) ∧
  (∀ (c : Chip) (d : Chip) (w : Word),
    let pc : Nat := c.core.pc.toNat
    let m : Nat × Nat := memAddress d w
    let r : Resp × Chip := d.coreRead m.1 8
    CoreBegins c d w → wCls w = 4 → wOp w = 3 → m.1 % 8 = 0 → r.1.status ≠ 0 ∨ r.1.poison = true → r.1.status ≠ 5 →
    Becomes (.ldp) c
      (r.2.coreTrap 5 0 (some m.1) pc)) ∧
  (∀ (c : Chip) (d : Chip) (w : Word),
    let pc : Nat := c.core.pc.toNat
    let m : Nat × Nat := memAddress d w
    CoreBegins c d w → wCls w = 4 → wOp w = 3 → m.1 % 8 ≠ 0 →
    Becomes (.ldp) c
      (d.coreTrap 4 0 (some m.1) pc))

/-- The stores and the exclusive pair of the core complete. A store of an aligned address goes out and steps its base pointer, or waits at
a stimulus port that blocks; a misaligned one raises ALIGN. LDX reserves the line that it reads; STX stores and sets Z while the
reservation covers its line, else it only clears Z; both clear or take the reservation of the line by its home address, and an address
outside the DTCM and local DRAM raises BUSERR. (R219, R225, R226, R229, R259, R552) -/
def Obligations.CoreStoresAndExclusivesComplete : Prop :=
  (∀ (c : Chip) (d : Chip) (w : Word),
    let pc : Nat := c.core.pc.toNat
    let m : Nat × Nat := memAddress d w
    CoreBegins c d w → wCls w = 3 → wOp w = 0 → storeWaits d m.1 = false →
    Becomes (.stb) c
      (Chip.coreDid w (.next ((d.coreStore m.1 (leBytes 1 (coreG d (wD w)))).setP (wIdx w) m.2) (pc + 4) none))) ∧
  (∀ (c : Chip) (d : Chip) (w : Word),
    let pc : Nat := c.core.pc.toNat
    let m : Nat × Nat := memAddress d w
    CoreBegins c d w → wCls w = 3 → wOp w = 4 → m.1 % 2 = 0 → storeWaits d m.1 = false →
    Becomes (.sth) c
      (Chip.coreDid w (.next ((d.coreStore m.1 (leBytes 2 (coreG d (wD w)))).setP (wIdx w) m.2) (pc + 4) none))) ∧
  (∀ (c : Chip) (d : Chip) (w : Word),
    let pc : Nat := c.core.pc.toNat
    let m : Nat × Nat := memAddress d w
    CoreBegins c d w → wCls w = 3 → wOp w = 4 → m.1 % 2 ≠ 0 →
    Becomes (.sth) c
      (d.coreTrap 4 0 (some m.1) pc)) ∧
  (∀ (c : Chip) (d : Chip) (w : Word),
    let pc : Nat := c.core.pc.toNat
    let m : Nat × Nat := memAddress d w
    CoreBegins c d w → wCls w = 3 → wOp w = 8 → m.1 % 4 = 0 → storeWaits d m.1 = false →
    Becomes (.stw) c
      (Chip.coreDid w (.next ((d.coreStore m.1 (leBytes 4 (coreG d (wD w)))).setP (wIdx w) m.2) (pc + 4) none))) ∧
  (∀ (c : Chip) (d : Chip) (w : Word),
    let pc : Nat := c.core.pc.toNat
    let m : Nat × Nat := memAddress d w
    CoreBegins c d w → wCls w = 3 → wOp w = 8 → m.1 % 4 ≠ 0 →
    Becomes (.stw) c
      (d.coreTrap 4 0 (some m.1) pc)) ∧
  (∀ (c : Chip) (d : Chip) (w : Word),
    let m : Nat × Nat := memAddress d w
    CoreBegins c d w → wCls w = 3 → wOp w = 8 → m.1 % 4 = 0 → storeWaits d m.1 = true →
    Becomes (.stw) c
      (d)) ∧
  (∀ (c : Chip) (d : Chip) (w : Word),
    let pc : Nat := c.core.pc.toNat
    let m : Nat × Nat := memAddress d w
    CoreBegins c d w → wCls w = 4 → wOp w = 0 → m.1 % 8 = 0 → storeWaits d m.1 = false →
    Becomes (.sta) c
      (Chip.coreDid w (.next ((d.coreStore m.1 (leBytes 8 (wrapInt 64 (coreA d (Machine.fld w 17 16))))).setP (wIdx w) m.2) (pc + 4) none))) ∧
  (∀ (c : Chip) (d : Chip) (w : Word),
    let pc : Nat := c.core.pc.toNat
    let m : Nat × Nat := memAddress d w
    CoreBegins c d w → wCls w = 4 → wOp w = 0 → m.1 % 8 ≠ 0 →
    Becomes (.sta) c
      (d.coreTrap 4 0 (some m.1) pc)) ∧
  (∀ (c : Chip) (d : Chip) (w : Word),
    let pc : Nat := c.core.pc.toNat
    let m : Nat × Nat := memAddress d w
    CoreBegins c d w → wCls w = 4 → wOp w = 2 → m.1 % 8 = 0 → storeWaits d m.1 = false →
    Becomes (.stp) c
      (Chip.coreDid w (.next ((d.coreStore m.1 (leBytes 8 (coreP d (Machine.fld w 18 16)))).setP (wIdx w) m.2) (pc + 4) none))) ∧
  (∀ (c : Chip) (d : Chip) (w : Word),
    let pc : Nat := c.core.pc.toNat
    let m : Nat × Nat := memAddress d w
    CoreBegins c d w → wCls w = 4 → wOp w = 2 → m.1 % 8 ≠ 0 →
    Becomes (.stp) c
      (d.coreTrap 4 0 (some m.1) pc)) ∧
  (∀ (c : Chip) (d : Chip) (w : Word) (k : Nat),
    let pc : Nat := c.core.pc.toNat
    let a : Nat := coreP d (Machine.fld w 15 13)
    let r : Resp × Chip := d.busRead .core a 4 false
    CoreBegins c d w → wCls w = 3 → wOp w = 11 → a % 4 = 0 → exclLine (decodeAddr d a) = some k → r.1.status = 0 →
    r.1.poison = false →
    Becomes (.ldx) c
      (Chip.coreDid w (.next ({ r.2 with core := { r.2.core with resv := some k, fills := exclFills r.2.core.fills k (decodeAddr d a) } }) (pc + 4) (some (.g (wD w), BitVec.ofNat 40 r.1.data))))) ∧
  (∀ (c : Chip) (d : Chip) (w : Word),
    let pc : Nat := c.core.pc.toNat
    let a : Nat := coreP d (Machine.fld w 15 13)
    CoreBegins c d w → wCls w = 3 → wOp w = 11 → a % 4 ≠ 0 →
    Becomes (.ldx) c
      (d.coreTrap 4 0 (some a) pc)) ∧
  (∀ (c : Chip) (d : Chip) (w : Word),
    let pc : Nat := c.core.pc.toNat
    let a : Nat := coreP d (Machine.fld w 15 13)
    CoreBegins c d w → wCls w = 3 → wOp w = 11 → a % 4 = 0 → exclLine (decodeAddr d a) = none →
    Becomes (.ldx) c
      (d.coreTrap 5 0 (some a) pc)) ∧
  (∀ (c : Chip) (d : Chip) (w : Word) (k : Nat),
    let pc : Nat := c.core.pc.toNat
    let a : Nat := coreP d (Machine.fld w 15 13)
    CoreBegins c d w → wCls w = 3 → wOp w = 10 → a % 4 = 0 → exclLine (decodeAddr d a) = some k → d.core.resv = some k →
    (Chip.coreWrite { d with core := { d.core with resv := none } } a (leBytes 4 (coreG d (wD w)))).1.status = 0 →
    Becomes (.stx) c
      (Chip.coreDid w (.next ((Chip.coreWrite { d with core := { d.core with resv := none } } a (leBytes 4 (coreG d (wD w)))).2.setFlag 30 true) (pc + 4) none))) ∧
  (∀ (c : Chip) (d : Chip) (w : Word) (k : Nat),
    let pc : Nat := c.core.pc.toNat
    let a : Nat := coreP d (Machine.fld w 15 13)
    CoreBegins c d w → wCls w = 3 → wOp w = 10 → a % 4 = 0 → exclLine (decodeAddr d a) = some k → d.core.resv ≠ some k →
    Becomes (.stx) c
      (Chip.coreDid w (.next (Chip.setFlag { d with core := { d.core with resv := none } } 30 false) (pc + 4) none))) ∧
  (∀ (c : Chip) (d : Chip) (w : Word),
    let pc : Nat := c.core.pc.toNat
    let a : Nat := coreP d (Machine.fld w 15 13)
    CoreBegins c d w → wCls w = 3 → wOp w = 10 → a % 4 ≠ 0 →
    Becomes (.stx) c
      (d.coreTrap 4 0 (some a) pc))

/-- The branches and the array instructions of the core complete. B and BL go to PC + 4 x OFFSET and BL leaves the return address in P7;
BRP and BLRP go to Pn, or raise ALIGN. ISSUE and ISSUEM put a macro-instruction on the queue where it has room and set Z, ISSUEM
stepping Pn by 8; on a full queue that dispatches, their own or another of the gang, they hold, on one that does not they clear Z.
AWAIT sets Z once its condition is met, holds until then, and clears Z where the queue does not dispatch. A held instruction is tried
again. (R214, R216, R223, R224, R226, R527) -/
def Obligations.CoreBranchesAndIssueComplete : Prop :=
  (∀ (c : Chip) (d : Chip) (w : Word),
    let pc : Nat := c.core.pc.toNat
    CoreBegins c d w → wCls w = 9 → bitOf w 23 = false →
    Becomes (.b) c
      (Chip.coreDid w (.next (d) (wrapInt 40 ((pc : Int) + 4 * toSigned 23 (Machine.fld w 22 0))) none))) ∧
  (∀ (c : Chip) (d : Chip) (w : Word),
    let pc : Nat := c.core.pc.toNat
    CoreBegins c d w → wCls w = 9 → bitOf w 23 = true →
    Becomes (.bl) c
      (Chip.coreDid w (.next (d.setP 7 (pc + 4)) (wrapInt 40 ((pc : Int) + 4 * toSigned 23 (Machine.fld w 22 0))) none))) ∧
  (∀ (c : Chip) (d : Chip) (w : Word),
    let t : Nat := coreP d (Machine.fld w 18 16)
    CoreBegins c d w → wCls w = 10 → wOp w = 0 → t % 4 = 0 →
    Becomes (.brp) c
      (Chip.coreDid w (.next (d) t none))) ∧
  (∀ (c : Chip) (d : Chip) (w : Word),
    let pc : Nat := c.core.pc.toNat
    let t : Nat := coreP d (Machine.fld w 18 16)
    CoreBegins c d w → wCls w = 10 → wOp w = 0 → t % 4 ≠ 0 →
    Becomes (.brp) c
      (d.coreTrap 4 0 (some t) pc)) ∧
  (∀ (c : Chip) (d : Chip) (w : Word),
    let pc : Nat := c.core.pc.toNat
    let t : Nat := coreP d (Machine.fld w 18 16)
    CoreBegins c d w → wCls w = 10 → wOp w = 1 → t % 4 = 0 →
    Becomes (.blrp) c
      (Chip.coreDid w (.next (d.setP 7 (pc + 4)) t none))) ∧
  (∀ (c : Chip) (d : Chip) (w : Word),
    let pc : Nat := c.core.pc.toNat
    let t : Nat := coreP d (Machine.fld w 18 16)
    CoreBegins c d w → wCls w = 10 → wOp w = 1 → t % 4 ≠ 0 →
    Becomes (.blrp) c
      (d.coreTrap 4 0 (some t) pc)) ∧
  (∀ (c : Chip) (d : Chip) (w : Word),
    let pc : Nat := c.core.pc.toNat
    CoreBegins c d w → wCls w = 12 → wOp w = 0 → (d.bit Reg.SPIN_STAT 29 && !d.bit Reg.SPIN_STAT 31) = false →
    queueRoom d = true →
    Becomes (.issue) c
      (Chip.coreDid w (.next ((d.enqueue (BitVec.ofNat 64 (coreG d (wA w) * 2 ^ 32 + coreG d (wB w)))).setFlag 30 true) (pc + 4) none))) ∧
  (∀ (c : Chip) (d : Chip) (w : Word),
    let pc : Nat := c.core.pc.toNat
    CoreBegins c d w → wCls w = 12 → wOp w = 0 → (d.bit Reg.SPIN_STAT 29 && !d.bit Reg.SPIN_STAT 31) = false →
    queueRoom d = false → queueLive d = false →
    Becomes (.issue) c
      (Chip.coreDid w (.next (d.setFlag 30 false) (pc + 4) none))) ∧
  (∀ (c : Chip) (d : Chip) (w : Word),
    CoreBegins c d w → wCls w = 12 → wOp w = 0 → (d.bit Reg.SPIN_STAT 29 && !d.bit Reg.SPIN_STAT 31) = false →
    queueRoom d = false → queueLive d = true →
    Becomes (.issue) c
      (Chip.coreDid w (.hold d .issue))) ∧
  (∀ (c : Chip) (d : Chip) (w : Word),
    let pc : Nat := c.core.pc.toNat
    let t : Nat := coreP d (Machine.fld w 18 16)
    let r : Resp × Chip := d.coreRead t 8
    CoreBegins c d w → wCls w = 12 → wOp w = 1 → t % 8 = 0 → r.1.status = 0 → r.1.poison = false →
    (r.2.bit Reg.SPIN_STAT 29 && !r.2.bit Reg.SPIN_STAT 31) = false → queueRoom r.2 = true →
    Becomes (.issuem) c
      (Chip.coreDid w (.next (((r.2.enqueue (BitVec.ofNat 64 r.1.data)).setP (Machine.fld w 18 16) (t + 8)).setFlag 30 true) (pc + 4) none))) ∧
  (∀ (c : Chip) (d : Chip) (w : Word),
    let pc : Nat := c.core.pc.toNat
    CoreBegins c d w → wCls w = 12 → wOp w = 2 → queueLive d = true → awaitMet d (wB w) = true →
    Becomes (.await) c
      (Chip.coreDid w (.next (d.setFlag 30 true) (pc + 4) none))) ∧
  (∀ (c : Chip) (d : Chip) (w : Word),
    CoreBegins c d w → wCls w = 12 → wOp w = 2 → queueLive d = true → awaitMet d (wB w) = false →
    Becomes (.await) c
      (Chip.coreDid w (.hold d .await))) ∧
  (∀ (c : Chip) (d : Chip) (w : Word),
    let pc : Nat := c.core.pc.toNat
    CoreBegins c d w → wCls w = 12 → wOp w = 2 → queueLive d = false →
    Becomes (.await) c
      (Chip.coreDid w (.next (d.setFlag 30 false) (pc + 4) none))) ∧
  (∀ (c : Chip) (d : Chip) (w : Word),
    coreRuns c = true → c.core.hold = .issue → asyncTaken c = false → c.coreFetch = (some w, d) → wOp w = 0 →
    (d.bit Reg.SPIN_STAT 29 && !d.bit Reg.SPIN_STAT 31) = false → queueRoom d = true →
    Becomes (.issueHoldRelease) c
      (Chip.coreDid w (.next ((Chip.enqueue { d with core := { d.core with hold := .none } } (BitVec.ofNat 64 (coreG d (wA w) * 2 ^ 32 + coreG d (wB w)))).setFlag 30 true) (c.core.pc.toNat + 4) none))) ∧
  (∀ (c : Chip) (d : Chip) (w : Word),
    coreRuns c = true → c.core.hold = .await → asyncTaken c = false → c.coreFetch = (some w, d) → queueLive d = true →
    awaitMet d (wB w) = true →
    Becomes (.awaitComplete) c
      (Chip.coreDid w (.next (Chip.setFlag { d with core := { d.core with hold := .none } } 30 true) (c.core.pc.toNat + 4) none)))

/-- The system instructions, the exceptions and the interrupts of the core complete. SVC, BKPT and an undefined word take their exceptions;
ERET restores PC, STATUS and FLG from its bank; MRS and MSR read and write the control registers; WFI stops the core until a line wakes
it; FENCE lets fetch see the stores to the ITCM; the cache instructions drop their lines; NOP does nothing. An interrupt enters its
bank with PC, FLG and STATUS saved, EXC clear and IPL raised; a held imprecise error enters bank 0. (R214, R215, R226, R227, R228,
R229, R230, R231, R234, R235, R544) -/
def Obligations.CoreSystemInstructionsComplete : Prop :=
  (∀ (c : Chip) (d : Chip) (w : Word),
    let pc : Nat := c.core.pc.toNat
    CoreBegins c d w → wCls w = 13 → wOp w = 0 →
    Becomes (.distaffNop) c
      (Chip.coreDid w (.next (d) (pc + 4) none))) ∧
  (∀ (c : Chip) (d : Chip) (w : Word),
    let pc : Nat := c.core.pc.toNat
    CoreBegins c d w → wCls w = 13 → wOp w = 1 →
    Becomes (.svc) c
      (d.coreTrap 2 (Machine.fld w 15 0) none (pc + 4))) ∧
  (∀ (c : Chip) (d : Chip) (w : Word),
    CoreBegins c d w → wCls w = 13 → wOp w = 2 → coreExc d = true →
    Becomes (.eret) c
      (Chip.coreDid w (.next ({ d with core := { d.core.msr 0 (listGet 0 d.core.estat 0 &&& 0x1FF#32) with flg := (d.core.flg &&& 0x0E000000#32) ||| (listGet 0 d.core.estat 0 &&& 0xFE000000#32), resv := none } }) (listGet 0 d.core.epc 0).toNat none))) ∧
  (∀ (c : Chip) (d : Chip) (w : Word),
    CoreBegins c d w → wCls w = 13 → wOp w = 2 → coreExc d = false → coreIpl d ≠ 0 →
    Becomes (.eret) c
      (Chip.coreDid w (.next ({ d with core := { d.core.msr 0 (listGet 0 d.core.estat (coreIpl d) &&& 0x1FF#32) with flg := (d.core.flg &&& 0x0E000000#32) ||| (listGet 0 d.core.estat (coreIpl d) &&& 0xFE000000#32), resv := none } }) (listGet 0 d.core.epc (coreIpl d)).toNat none))) ∧
  (∀ (c : Chip) (d : Chip) (w : Word),
    let pc : Nat := c.core.pc.toNat
    CoreBegins c d w → wCls w = 13 → wOp w = 2 → coreExc d = false → coreIpl d = 0 →
    Becomes (.eret) c
      (d.coreTrap 1 0 none pc)) ∧
  (∀ (c : Chip) (d : Chip) (w : Word) (v : Word),
    let pc : Nat := c.core.pc.toNat
    CoreBegins c d w → wCls w = 13 → wOp w = 3 → mrsValue d (Machine.fld w 15 8) = some v →
    Becomes (.mrs) c
      (Chip.coreDid w (.next (d.setG (wD w) v.toNat) (pc + 4) none))) ∧
  (∀ (c : Chip) (d : Chip) (w : Word),
    let pc : Nat := c.core.pc.toNat
    CoreBegins c d w → wCls w = 13 → wOp w = 4 →
    Becomes (.msr) c
      (Chip.coreDid w (.next ({ d with core := d.core.msr (Machine.fld w 15 8) (BitVec.ofNat 32 (coreG d (wD w))) }) (pc + 4) none))) ∧
  (∀ (c : Chip) (d : Chip) (w : Word),
    let pc : Nat := c.core.pc.toNat
    CoreBegins c d w → wCls w = 13 → wOp w = 5 →
    Becomes (.wfi) c
      (Chip.coreDid w (.hold (Chip.setBit { d with core := { d.core with pc := BitVec.ofNat 40 (pc + 4) } } Reg.SYS_DCORE 30 true) .wfi))) ∧
  (∀ (c : Chip),
    coreRuns c = true → c.core.hold = .wfi → wfiReady c = true →
    Becomes (.wfiWake) c
      (Chip.stepDone { c.setBit Reg.SYS_DCORE 30 false with core := { c.core with hold := .none }, pow := { c.pow with stopped := c.pow.stopped.filter (fun k => decide (k ≠ 1)) } } 0)) ∧
  (∀ (c : Chip) (d : Chip) (w : Word),
    let pc : Nat := c.core.pc.toNat
    CoreBegins c d w → wCls w = 13 → wOp w = 6 →
    Becomes (.distaffFence) c
      (Chip.coreDid w (.next ({ d with core := { d.core with itcm := [] } }) (pc + 4) none))) ∧
  (∀ (c : Chip) (d : Chip) (w : Word),
    let pc : Nat := c.core.pc.toNat
    CoreBegins c d w → wCls w = 13 → wOp w = 7 → d.bit Reg.DBG_RUNCTL 8 = false →
    Becomes (.bkpt) c
      (d.coreTrap 3 (Machine.fld w 15 0) none pc)) ∧
  (∀ (c : Chip) (d : Chip) (w : Word),
    CoreBegins c d w → wCls w = 13 → wOp w = 7 → d.bit Reg.DBG_RUNCTL 8 = true → somePortHolds d 2 = true →
    Becomes (.bkpt) c
      (Chip.coreDid w (.halt d))) ∧
  (∀ (c : Chip) (d : Chip) (w : Word),
    let pc : Nat := c.core.pc.toNat
    CoreBegins c d w → wCls w = 13 → wOp w = 8 →
    Becomes (.dcinv) c
      (Chip.coreDid w (.next ({ d with core := { d.core with dcache := d.core.dcache.filter (fun e => decide (some e.1 ≠ cacheLine (decodeAddr d (coreP d (Machine.fld w 18 16))))) } }) (pc + 4) none))) ∧
  (∀ (c : Chip) (d : Chip) (w : Word),
    let pc : Nat := c.core.pc.toNat
    CoreBegins c d w → wCls w = 13 → wOp w = 9 →
    Becomes (.icinv) c
      (Chip.coreDid w (.next ({ d with core := { d.core with icache := d.core.icache.filter (fun e => decide (some e.1 ≠ cacheLine (decodeAddr d (coreP d (Machine.fld w 18 16))))) } }) (pc + 4) none))) ∧
  (∀ (c : Chip) (d : Chip) (w : Word),
    let pc : Nat := c.core.pc.toNat
    CoreBegins c d w → wCls w = 13 → wOp w = 10 →
    Becomes (.icinvall) c
      (Chip.coreDid w (.next ({ d with core := { d.core with icache := [] } }) (pc + 4) none))) ∧
  (∀ (c : Chip) (d : Chip) (w : Word),
    let pc : Nat := c.core.pc.toNat
    CoreBegins c d w → wCls w = 13 → wOp w = 11 →
    Becomes (.dcinvall) c
      (Chip.coreDid w (.next ({ d with core := { d.core with dcache := [] } }) (pc + 4) none))) ∧
  (∀ (c : Chip) (d : Chip) (w : Word),
    coreReady c = true → c.coreFetch = (some w, d) → wordUndefined w = true →
    Becomes (.undefInstruction) c
      (d.coreTrap 1 0 none c.core.pc.toNat)) ∧
  (∀ (c : Chip) (k : Nat),
    coreRuns c = true → c.core.load = none → c.core.stepping = none → impreciseTaken c = false → c.core.haltReq = false →
    irqTaken c = some k → k ≠ 0 →
    Becomes (.interruptEntry) c
      ({ c.setBit Reg.SYS_DCORE 30 false with pow := { c.pow with stopped := c.pow.stopped.filter (fun k => decide (k ≠ 1)) }, xspi := { c.xspi with waits := c.xspi.waits.filter (fun e => decide (e.1 ≠ 0)) }, core := { c.core with epc := listSet c.core.epc k (BitVec.ofNat 40 (c.core.pc.toNat / 4 * 4)), estat := listSet c.core.estat k ((c.core.flg &&& 0xFE000000#32) ||| (c.core.status &&& 0x1FF#32)), status := BitVec.ofNat 32 k, resv := none, hold := .none, pc := c.core.vbar + BitVec.ofNat 40 (0x40 * k) } })) ∧
  (∀ (c : Chip) (a : Nat),
    coreRuns c = true → impreciseTaken c = true → c.core.badSt = some a →
    Becomes (.impreciseBuserr) c
      (Chip.coreEnter { c with core := { c.core with cause := BitVec.ofNat 32 (2 ^ 31 + c.core.multi.toNat * 2 ^ 30 + 5), bad := BitVec.ofNat 40 a, badSt := none, multi := false } } 0 c.core.pc.toNat))

/-- Unsigned ADD, SUB and NEG overflow, and ABS does not. For SGN = 0 and operands of the width: ADD, ADDI and ACC set S exactly when a
carry leaves the top bit and then give all ones under SAT; SUB and ACCN set S exactly when the result would be below 0 and then give 0
under SAT; NEG sets S for every nonzero operand and then gives 0 under SAT; without SAT they wrap; ABS copies A. (R102) -/
def Obligations.ArrayUnsignedOverflow : Prop :=
  ∀ (i : DWord) (x : PeIn), insnSgn i = false → x.a < 2 ^ insnW i → x.b < 2 ^ insnW i → x.d < 2 ^ (insnW i + 8) →
    (let m := 2 ^ insnW i
     let m8 := 2 ^ (insnW i + 8)
     peAdd i x = (if m ≤ x.a + x.b ∧ insnSat i = true then m - 1 else (x.a + x.b) % m, decide (m ≤ x.a + x.b)) ∧
     peAddi i x = (if m ≤ x.a + immOf i ∧ insnSat i = true then m - 1 else (x.a + immOf i) % m, decide (m ≤ x.a + immOf i)) ∧
     peAcc i x = (if m8 ≤ x.d + x.a ∧ insnSat i = true then m8 - 1 else (x.d + x.a) % m8, decide (m8 ≤ x.d + x.a)) ∧
     peSub i x = (if x.a < x.b ∧ insnSat i = true then 0 else (x.a + m - x.b) % m, decide (x.a < x.b)) ∧
     peAccn i x = (if x.d < x.a ∧ insnSat i = true then 0 else (x.d + m8 - x.a) % m8, decide (x.d < x.a)) ∧
     peNeg i x = (if insnSat i then 0 else (m - x.a) % m, decide (x.a ≠ 0)) ∧
     peAbs i x = (x.a, false))

/-- The array's DIV by zero. With B = 0 and whatever SAT: for SGN = 0 the quotient is all ones; for SGN = 1 it is the most positive value
where A is not negative and the most negative where it is; the remainder is A, and S is set. (R104) -/
def Obligations.ArrayDivideByZero : Prop :=
  ∀ (i : DWord) (x : PeIn), x.a < 2 ^ insnW i → x.b = 0 →
    (let w := insnW i
     (insnSgn i = false → peDiv i x = ((2 ^ w - 1) + x.a * 2 ^ w, true)) ∧
     (insnSgn i = true → x.a < 2 ^ (w - 1) → peDiv i x = ((2 ^ (w - 1) - 1) + x.a * 2 ^ w, true)) ∧
     (insnSgn i = true → 2 ^ (w - 1) ≤ x.a → peDiv i x = (2 ^ (w - 1) + x.a * 2 ^ w, true)))

/-- Narrowing keeps a value that fits, and wraps or saturates one that does not. A value that fits w bits in the format of SGN is written
as itself and leaves S; one that does not sets S, and is written as the nearest extreme under SAT, or else as a value of the format
that differs from it by a multiple of 2^w. (R94, R97, R101) -/
def Obligations.ArrayNarrowing : Prop :=
  ∀ (sgn sat : Bool) (w : Nat) (v : Int), 0 < w →
    (let r := narrow sgn sat w v
     let x := intOf sgn w r.1
     r.1 < 2 ^ w ∧ intLo sgn w ≤ x ∧ x ≤ intHi sgn w ∧
     (r.2 = false ↔ intLo sgn w ≤ v ∧ v ≤ intHi sgn w) ∧
     (r.2 = false → x = v) ∧
     (v < intLo sgn w → sat = true → x = intLo sgn w) ∧
     (intHi sgn w < v → sat = true → x = intHi sgn w) ∧
     (sat = false → (x - v) % (2 : Int) ^ w = 0))

/-- The array's products, quotients and roots are exact. MUL gives A x B exactly; DIV by a B other than 0 gives a quotient truncated toward
zero and a remainder below B in magnitude with the sign of A, whose values give A back, but for the most negative value divided by -1,
which sets S; SQRT of an A that is not negative gives its floor root and what is left; WIDEN keeps the value. (R85, R86, R101) -/
def Obligations.ArrayExactResults : Prop :=
  ∀ (i : DWord) (x : PeIn), x.a < 2 ^ insnW i → x.b < 2 ^ insnW i →
    (let w := insnW i
     let s := insnSgn i
     let a := intOf s w x.a
     let b := intOf s w x.b
     (insnShf i + 1 = w → intOf s (w + w) (peMul i x).1 = a * b ∧ (peMul i x).2 = false) ∧
     (b ≠ 0 → ¬(s = true ∧ a = intLo true w ∧ b = -1) →
       ∃ q r : Int, (peDiv i x).2 = false ∧ intOf s w ((peDiv i x).1 % 2 ^ w) = q ∧ intOf s w ((peDiv i x).1 / 2 ^ w) = r ∧
         a = q * b + r ∧ r.natAbs < b.natAbs ∧ (r = 0 ∨ (0 < r ↔ 0 < a))) ∧
     (s = true → a = intLo true w → b = -1 → (peDiv i x).2 = true) ∧
     (0 ≤ a → ∃ n : Nat, (peSqrt i x).2 = false ∧ (peSqrt i x).1 % 2 ^ w = n ∧ n * n ≤ x.a ∧ x.a < (n + 1) * (n + 1) ∧
       (peSqrt i x).1 / 2 ^ w = x.a - n * n) ∧
     (a < 0 → peSqrt i x = (x.a * 2 ^ w, true)) ∧
     intOf s (w + 8) (peWiden i x).1 = a)

/-- QADD and QSUB saturate the signed 32-bit result and set SV. QADD and QSUB write the exact signed sum or difference clamped to 32 bits
and set SV exactly when it was clamped, whatever SF is; a SUB from zero wraps, and a QSUB from zero saturates. (R240) -/
def Obligations.SaturatingAdditionOfTheCore : Prop :=
  (∀ (c d : Chip) (w : Word), CoreBegins c d w → wCls w ≤ 1 → 14 ≤ wOp w →
    (let a := toSigned 32 (coreG d (wA w))
     let b := toSigned 32 (aluB d w)
     let x : Int := if wOp w = 14 then a + b else a - b
     let y : Int := if 0x7FFFFFFF < x then 0x7FFFFFFF else if x < -0x80000000 then -0x80000000 else x
     ∃ e : Chip, Becomes (if wOp w = 14 then .qadd else .qsub) c (Chip.coreDid w (.next e (c.core.pc.toNat + 4) none)) ∧
       e.core.g = listSet d.core.g (wD w) (BitVec.ofInt 32 y) ∧ coreFlag e 27 = (coreFlag d 27 || decide (y ≠ x)))) ∧
  (∀ (c d : Chip) (w : Word), CoreBegins c d w → wCls w ≤ 1 → wOp w = 2 → coreG d (wA w) = 0 → aluB d w = 0x80000000 →
    ∃ e : Chip, Becomes .distaffSub c (Chip.coreDid w (.next e (c.core.pc.toNat + 4) none)) ∧
      e.core.g = listSet d.core.g (wD w) 0x80000000 ∧ (aluSf w = true → coreFlag e 28 = true) ∧ coreFlag e 27 = coreFlag d 27)

/-- The quotients and remainders of the core give the dividend back. DIVU and REMU: A = quotient x B + remainder with the remainder below
B. DIVS and REMS: the same of the signed values, the remainder below B in magnitude with the sign of A, but for 0x80000000 / -1, which
gives 0x80000000, 0 and V. By zero the quotient is all ones, or the extreme that takes the sign of A, the remainder A, and DZ is set.
(R243, R244) -/
def Obligations.DivisionOfTheCore : Prop :=
  ∀ a b : Nat, a < 2 ^ 32 → b < 2 ^ 32 →
    (b ≠ 0 → (divU a b).dz = false ∧ a = (divU a b).q * b + (divU a b).r ∧ (divU a b).r < b) ∧
    (b = 0 → (divU a b).dz = true ∧ (divU a b).q = 2 ^ 32 - 1 ∧ (divU a b).r = a) ∧
    (b ≠ 0 → ¬(a = 2 ^ 31 ∧ b = 2 ^ 32 - 1) → ∃ q r : Int, toSigned 32 (divS a b).q = q ∧ toSigned 32 (divS a b).r = r ∧
      (divS a b).q < 2 ^ 32 ∧ (divS a b).r < 2 ^ 32 ∧ (divS a b).dz = false ∧ (divS a b).v = false ∧
      toSigned 32 a = q * toSigned 32 b + r ∧ r.natAbs < (toSigned 32 b).natAbs ∧ (r = 0 ∨ (0 < r ↔ 0 < toSigned 32 a))) ∧
    (a = 2 ^ 31 → b = 2 ^ 32 - 1 → (divS a b).q = 2 ^ 31 ∧ (divS a b).r = 0 ∧ (divS a b).v = true ∧ (divS a b).dz = false) ∧
    (b = 0 → (divS a b).q = (if a < 2 ^ 31 then 2 ^ 31 - 1 else 2 ^ 31) ∧ (divS a b).r = a ∧ (divS a b).dz = true ∧ (divS a b).v = false)

/-- No command of the array touches the core's registers, the Seal Unit, the Silo or the evidence. Whatever state an array routine or a
command of the sequencer starts in, where it answers a next state the registers of the core, the Seal Unit with its OTP and its
records, the Silo and the evidence records are as before, and the queue of commands is as before. (R38, R40, R75, R120) -/
def Obligations.ArrayCommandsTouchNoSecret : Prop :=
  ∀ i ∈ (([.mov, .not, .ldi, .sel, .bool, .mget, .sget, .cmp, .add] : List Instr) ++
      ([.sub, .addi, .neg, .abs, .min, .max, .avg, .absd, .clip] : List Instr) ++
      ([.shl, .shr, .rol, .ror, .mul, .mulq, .div, .sqrt, .acc] : List Instr) ++
      ([.accn, .widen, .narrow, .popc, .clz, .sig, .ch, .maj, .bswap] : List Instr) ++
      ([.faddh, .fsubh, .fmulh, .ffmah, .fminh, .fmaxh, .fcmph, .fcvthi, .fcvtih] : List Instr) ++
      ([.fcvthq, .fcvtqh, .nop, .lfsr, .mset, .sclr, .nmov, .nmovd, .nadd] : List Instr) ++
      ([.any, .cmpm, .yield, .plane, .nbr, .reg, .gor, .cnt, .ofs] : List Instr) ++
      ([.br, .call, .ret, .endOp, .pageTouch, .pageDeclare, .pageCheck, .wait, .reservedMicroword] : List Instr) ++
      ([.undef, .dispatch, .customerRoutine, .gorResult, .tor0Read] : List Instr) : List Instr),
    ∀ (s t : State), exec i s = .next t → t.pending = s.pending ∧ SameCore s.chip t.chip ∧ SameVault s.chip t.chip

/-- The core's register, branch and system instructions leave memory, the Seal Unit, the Silo and the evidence. Whatever state the command
of such an instruction starts in, where it answers a next state every byte of memory reads as before, and the Seal Unit, the Silo and
the evidence records are as before, whether the instruction runs, traps, fails its condition or cannot be fetched. (R208, R214, R228,
R232) -/
def Obligations.RegisterInstructionsLeaveMemory : Prop :=
  ∀ i ∈ (([.distaffAdd, .adc, .distaffSub, .sbc, .and, .or, .xor, .bic, .lsl] : List Instr) ++
      ([.lsr, .asr, .distaffRor, .distaffMov, .distaffCmp, .qadd, .qsub, .movl, .movh] : List Instr) ++
      ([.distaffMulAcc, .mac, .msu, .mova, .rda, .asra, .clra, .distaffMul, .mulhs] : List Instr) ++
      ([.mulhu, .divs, .divu, .rems, .remu, .fadd, .fsub, .fmul, .fdiv] : List Instr) ++
      ([.fsqrt, .fma, .fmin, .fmax, .fcmp, .fcvtws, .fcvtsw, .fneg, .fabs] : List Instr) ++
      ([.dadd, .dsub, .dchk, .setp, .getp, .getph, .addp, .setb, .setl] : List Instr) ++
      ([.setn, .getl, .getn, .getb, .getal, .getah, .setah, .b, .bl] : List Instr) ++
      ([.brp, .blrp, .distaffNop, .svc, .eret, .mrs, .msr, .wfi, .distaffFence] : List Instr) ++
      ([.bkpt, .dcinv, .icinv, .icinvall, .dcinvall] : List Instr) : List Instr),
    ∀ (s t : State), exec i s = .next t → SameMemory s.chip t.chip ∧ SameVault s.chip t.chip

/-- A store to the DTCM writes only its bytes. STB, STH, STW, STA and STP of an aligned address in the DTCM complete, and every byte
outside the 1, 2, 4 or 8 bytes at that address reads as before; without a double-bit error in the word and with the port open the bytes
stored read back. (R219, R229, R232) -/
def Obligations.StoresWriteOnlyTheirBytes : Prop :=
  ∀ (c d : Chip) (w : Word) (b : Nat), CoreBegins c d w →
    (let m := memAddress d w
     ∀ (i : Instr) (n v : Nat),
      (i = .stb ∧ wCls w = 3 ∧ wOp w = 0 ∧ n = 1 ∧ v = coreG d (wD w)) ∨ (i = .sth ∧ wCls w = 3 ∧ wOp w = 4 ∧ n = 2 ∧ v = coreG d (wD w)) ∨
      (i = .stw ∧ wCls w = 3 ∧ wOp w = 8 ∧ n = 4 ∧ v = coreG d (wD w)) ∨
      (i = .sta ∧ wCls w = 4 ∧ wOp w = 0 ∧ n = 8 ∧ v = wrapInt 64 (coreA d (Machine.fld w 17 16))) ∨
      (i = .stp ∧ wCls w = 4 ∧ wOp w = 2 ∧ n = 8 ∧ v = coreP d (Machine.fld w 18 16)) →
      m.1 % n = 0 → decodeAddr d m.1 = .dtcm b →
      ∃ t : State, exec i { pending := [], chip := c } = .next t ∧
        (∀ a, a < b ∨ b + n ≤ a → t.chip.rd8 a = c.rd8 a) ∧
        (portState d 7 = 0 → d.eccAt (b / 4 * 4) ≠ .double → ∀ j, j < n → t.chip.rd8 (b + j) = BitVec.ofNat 8 (v / 256 ^ j)))
end

