-- ==== Sys2Proof/Laws/Bits.lean ====
section
/-!
SUPPORT. Bit fields: what a field that is set reads as, bit by bit.
-/
namespace Sys2Proof.Machine

theorem testBit_natBits (x hi lo j : Nat) :
    (natBits x hi lo).testBit j = (decide (j < hi + 1 - lo) && x.testBit (lo + j)) := by
  simp [natBits, Nat.testBit_mod_two_pow, Nat.testBit_shiftRight]

/-- A number with a field replaced, as its high part, the field and its low part. -/
theorem natSetBits_eq (x hi lo v : Nat) :
    natSetBits x hi lo v =
      2 ^ lo * (2 ^ (hi + 1 - lo) * (x / 2 ^ lo / 2 ^ (hi + 1 - lo)) + v % 2 ^ (hi + 1 - lo)) + x % 2 ^ lo := by
  have h1 := Nat.div_add_mod x (2 ^ lo)
  have h2 := Nat.div_add_mod (x / 2 ^ lo) (2 ^ (hi + 1 - lo))
  have h3 : natBits x hi lo = x / 2 ^ lo % 2 ^ (hi + 1 - lo) := by simp [natBits, Nat.shiftRight_eq_div_pow]
  rw [natSetBits, h3]
  generalize x / 2 ^ lo = y at *
  generalize hq : y / 2 ^ (hi + 1 - lo) = q at *
  generalize y % 2 ^ (hi + 1 - lo) = m at *
  generalize v % 2 ^ (hi + 1 - lo) = u at *
  rw [← h1, ← h2]
  have e1 : 2 ^ lo * (2 ^ (hi + 1 - lo) * q + m) = 2 ^ lo * (2 ^ (hi + 1 - lo) * q) + m * 2 ^ lo := by ring
  have e2 : 2 ^ lo * (2 ^ (hi + 1 - lo) * q + u) = 2 ^ lo * (2 ^ (hi + 1 - lo) * q) + u * 2 ^ lo := by ring
  have e3 : (2 ^ lo * (2 ^ (hi + 1 - lo) * q + m) + x % 2 ^ lo) % 2 ^ lo = x % 2 ^ lo := by
    rw [Nat.mul_add_mod, Nat.mod_mod]
  rw [e3, e1, e2]; omega

/-- A field that is set: its bits are the value's, every other bit is as before. -/
theorem testBit_natSetBits (x hi lo v j : Nat) :
    (natSetBits x hi lo v).testBit j =
      if lo ≤ j ∧ j < lo + (hi + 1 - lo) then v.testBit (j - lo) else x.testBit j := by
  rw [natSetBits_eq, Nat.testBit_two_pow_mul_add _ (Nat.mod_lt _ (Nat.two_pow_pos _))]
  by_cases h1 : j < lo
  · simp [h1, Nat.not_le.mpr h1, Nat.testBit_mod_two_pow]
  · rw [if_neg h1, Nat.testBit_two_pow_mul_add _ (Nat.mod_lt _ (Nat.two_pow_pos _))]
    have h2 : lo ≤ j := Nat.not_lt.mp h1
    by_cases h3 : j - lo < hi + 1 - lo
    · have h4 : j < lo + (hi + 1 - lo) := by omega
      simp [h2, h3, h4, Nat.testBit_mod_two_pow]
    · have h4 : ¬ j < lo + (hi + 1 - lo) := by omega
      rw [if_neg h3, if_neg (fun h => h4 h.2), Nat.testBit_div_two_pow, Nat.testBit_div_two_pow]
      congr 1; omega

theorem bitOf_setFld (w : Word) (hi lo v j : Nat) (hj : j < 32) :
    bitOf (setFld w hi lo v) j = if lo ≤ j ∧ j < lo + (hi + 1 - lo) then v.testBit (j - lo) else bitOf w j := by
  simp only [bitOf, setFld, BitVec.toNat_ofNat, Nat.testBit_mod_two_pow, hj, decide_true, Bool.true_and]
  exact testBit_natSetBits _ _ _ _ _

end Sys2Proof.Machine
end

