-- ==== Sys2Proof/Laws/Dispatch.lean ====
section
/-!
SUPPORT. The dispatch, arm by arm: what `exec` does with each command is its meaning.
-/
namespace Sys2Proof.Machine

@[simp] theorem exec_registerWrite (who : Initiator) (a : Addr) (v : Word) (s : State) :
    exec (.registerWrite who a v) s = execRegisterWrite who a v s := rfl
@[simp] theorem exec_frameStart (p : Fin 8) (vc : Fin 16) (hdr : Ecc) (s : State) :
    exec (.frameStart p vc hdr) s = execFrameStart p vc hdr s := rfl
@[simp] theorem exec_linePacket (p : Fin 8) (vc : Fin 16) (hdr : Ecc) (crcBad : Bool) (dt : BitVec 6) (pixels : List (BitVec 16)) (held : Bool) (s : State) :
    exec (.linePacket p vc hdr crcBad dt pixels held) s = execLinePacket p vc hdr crcBad dt pixels held s := rfl
@[simp] theorem exec_frameEnd (p : Fin 8) (vc : Fin 16) (hdr : Ecc) (s : State) :
    exec (.frameEnd p vc hdr) s = execFrameEnd p vc hdr s := rfl
@[simp] theorem exec_bandComplete (st : Fin 32) (s : State) :
    exec (.bandComplete st) s = execBandComplete st s := rfl
@[simp] theorem exec_streamDisable (st : Fin 32) (s : State) :
    exec (.streamDisable st) s = execStreamDisable st s := rfl
@[simp] theorem exec_slotRelease (st : Fin 32) (s : State) :
    exec (.slotRelease st) s = execSlotRelease st s := rfl
@[simp] theorem exec_pstatRead (p : Fin 8) (s : State) :
    exec (.pstatRead p) s = execPstatRead p s := rfl
@[simp] theorem exec_sebReceive (ctx : Nat) (s : State) :
    exec (.sebReceive ctx) s = execSebReceive ctx s := rfl
@[simp] theorem exec_sliceDone (l : Fin 8) (s : State) :
    exec (.sliceDone l) s = execSliceDone l s := rfl
@[simp] theorem exec_tileStatRead (t : Fin 256) (s : State) :
    exec (.tileStatRead t) s = execTileStatRead t s := rfl
@[simp] theorem exec_thermalSample (t : Fin 256) (temp : BitVec 12) (s : State) :
    exec (.thermalSample t temp) s = execThermalSample t temp s := rfl
@[simp] theorem exec_grnHold (hold : Bool) (s : State) :
    exec (.grnHold hold) s = execGrnHold hold s := rfl
@[simp] theorem exec_ringBaseWrite (ring : RingId) (hi : Bool) (data : Word) (s : State) :
    exec (.ringBaseWrite ring hi data) s = execRingBaseWrite ring hi data s := rfl
@[simp] theorem exec_descSnoop (n : Nat) (pmap : Bool) (s : State) :
    exec (.descSnoop n pmap) s = execDescSnoop n pmap s := rfl
@[simp] theorem exec_pageTransferDone (t : Fin 256) (s : State) :
    exec (.pageTransferDone t) s = execPageTransferDone t s := rfl
@[simp] theorem exec_grnEnd (outcome : Fin 4) (s : State) :
    exec (.grnEnd outcome) s = execGrnEnd outcome s := rfl
@[simp] theorem exec_cqRoom (q : Fin 16) (s : State) :
    exec (.cqRoom q) s = execCqRoom q s := rfl
@[simp] theorem exec_dramInitDone (failed : List (Fin 256)) (s : State) :
    exec (.dramInitDone failed) s = execDramInitDone failed s := rfl
@[simp] theorem exec_patrolScrub (t : Fin 256) (s : State) :
    exec (.patrolScrub t) s = execPatrolScrub t s := rfl
@[simp] theorem exec_dramTempSample (q : Fin 4) (temp : BitVec 12) (s : State) :
    exec (.dramTempSample q temp) s = execDramTempSample q temp s := rfl
@[simp] theorem exec_selfRefreshEntry (q : Fin 4) (s : State) :
    exec (.selfRefreshEntry q) s = execSelfRefreshEntry q s := rfl
@[simp] theorem exec_selfRefreshExit (q : Fin 4) (s : State) :
    exec (.selfRefreshExit q) s = execSelfRefreshExit q s := rfl
@[simp] theorem exec_quadrantOnReq (q : Fin 4) (s : State) :
    exec (.quadrantOnReq q) s = execQuadrantOnReq q s := rfl
@[simp] theorem exec_quadrantOffReq (q : Fin 4) (s : State) :
    exec (.quadrantOffReq q) s = execQuadrantOffReq q s := rfl
@[simp] theorem exec_lstatRead (t : Fin 256) (s : State) :
    exec (.lstatRead t) s = execLstatRead t s := rfl
@[simp] theorem exec_packetHop (here : BitVec 10) (net : Fin 4) (inject : Option Packet) (s : State) :
    exec (.packetHop here net inject) s = execPacketHop here net inject s := rfl
@[simp] theorem exec_memoryRequest (node : BitVec 10) (s : State) :
    exec (.memoryRequest node) s = execMemoryRequest node s := rfl
@[simp] theorem exec_responseReceive (node : BitVec 10) (s : State) :
    exec (.responseReceive node) s = execResponseReceive node s := rfl
@[simp] theorem exec_readDataReceive (node : BitVec 10) (s : State) :
    exec (.readDataReceive node) s = execReadDataReceive node s := rfl
@[simp] theorem exec_snoopAck (node : BitVec 10) (s : State) :
    exec (.snoopAck node) s = execSnoopAck node s := rfl
@[simp] theorem exec_requestTimeout (node : BitVec 10) (tag : BitVec 8) (s : State) :
    exec (.requestTimeout node tag) s = execRequestTimeout node tag s := rfl
@[simp] theorem exec_dataTimeout (node : BitVec 10) (s : State) :
    exec (.dataTimeout node) s = execDataTimeout node s := rfl
@[simp] theorem exec_snoopTimeout (node : BitVec 10) (tag : BitVec 6) (s : State) :
    exec (.snoopTimeout node tag) s = execSnoopTimeout node tag s := rfl
@[simp] theorem exec_portDisable (e : Fin 64) (v : Bool) (s : State) :
    exec (.portDisable e v) s = execPortDisable e v s := rfl
@[simp] theorem exec_powerDownCommit (d : Domain) (s : State) :
    exec (.powerDownCommit d) s = execPowerDownCommit d s := rfl
@[simp] theorem exec_tileExitDone (t : Fin 256) (s : State) :
    exec (.tileExitDone t) s = execTileExitDone t s := rfl
@[simp] theorem exec_frameDigestsReady (st : Fin 32) (s : State) :
    exec (.frameDigestsReady st) s = execFrameDigestsReady st s := rfl
@[simp] theorem exec_auditLeaf (st : Fin 32) (s : State) :
    exec (.auditLeaf st) s = execAuditLeaf st s := rfl
@[simp] theorem exec_frameRootDone (st : Fin 32) (s : State) :
    exec (.frameRootDone st) s = execFrameRootDone st s := rfl
@[simp] theorem exec_sheafClose (st : Fin 32) (s : State) :
    exec (.sheafClose st) s = execSheafClose st s := rfl
@[simp] theorem exec_sheafLateClose (st : Fin 32) (s : State) :
    exec (.sheafLateClose st) s = execSheafLateClose st s := rfl
@[simp] theorem exec_systemStook (stooks : List (Nat × List (List Byte))) (s : State) :
    exec (.systemStook stooks) s = execSystemStook stooks s := rfl
@[simp] theorem exec_getInfo (tag : Byte) (s : State) :
    exec (.getInfo tag) s = execGetInfo tag s := rfl
@[simp] theorem exec_imageLoad (tag : Byte) (s : State) :
    exec (.imageLoad tag) s = execImageLoad tag s := rfl
@[simp] theorem exec_verifyImage (tag : Byte) (s : State) :
    exec (.verifyImage tag) s = execVerifyImage tag s := rfl
@[simp] theorem exec_svnCommit (tag : Byte) (s : State) :
    exec (.svnCommit tag) s = execSvnCommit tag s := rfl
@[simp] theorem exec_bootDone (tag : Byte) (s : State) :
    exec (.bootDone tag) s = execBootDone tag s := rfl
@[simp] theorem exec_vehSnapshot (tag : Byte) (s : State) :
    exec (.vehSnapshot tag) s = execVehSnapshot tag s := rfl
@[simp] theorem exec_trigger (tag : Byte) (s : State) :
    exec (.trigger tag) s = execTrigger tag s := rfl
@[simp] theorem exec_attest (tag : Byte) (s : State) :
    exec (.attest tag) s = execAttest tag s := rfl
@[simp] theorem exec_getCert (tag : Byte) (s : State) :
    exec (.getCert tag) s = execGetCert tag s := rfl
@[simp] theorem exec_sessionCloseAll (tag : Byte) (s : State) :
    exec (.sessionCloseAll tag) s = execSessionCloseAll tag s := rfl
@[simp] theorem exec_sessionOpen (tag : Byte) (s : State) :
    exec (.sessionOpen tag) s = execSessionOpen tag s := rfl
@[simp] theorem exec_sessionAuth (tag : Byte) (s : State) :
    exec (.sessionAuth tag) s = execSessionAuth tag s := rfl
@[simp] theorem exec_sessionClose (tag : Byte) (s : State) :
    exec (.sessionClose tag) s = execSessionClose tag s := rfl
@[simp] theorem exec_checkMac (tag : Byte) (s : State) :
    exec (.checkMac tag) s = execCheckMac tag s := rfl
@[simp] theorem exec_makeMac (tag : Byte) (s : State) :
    exec (.makeMac tag) s = execMakeMac tag s := rfl
@[simp] theorem exec_sealBadOp (b : Bool) (op tag : Byte) (s : State) :
    exec (.sealBadOp b op tag) s = execSealBadOp b op tag s := rfl
@[simp] theorem exec_sealCmdComplete (b : Bool) (s : State) :
    exec (.sealCmdComplete b) s = execSealCmdComplete b s := rfl
@[simp] theorem exec_provision (tag : Byte) (s : State) :
    exec (.provision tag) s = execProvision tag s := rfl
@[simp] theorem exec_revoke (tag : Byte) (s : State) :
    exec (.revoke tag) s = execRevoke tag s := rfl
@[simp] theorem exec_decommission (tag : Byte) (s : State) :
    exec (.decommission tag) s = execDecommission tag s := rfl
@[simp] theorem exec_enroll (tag : Byte) (s : State) :
    exec (.enroll tag) s = execEnroll tag s := rfl
@[simp] theorem exec_manufacture (tag : Byte) (s : State) :
    exec (.manufacture tag) s = execManufacture tag s := rfl
@[simp] theorem exec_dikCert (tag : Byte) (s : State) :
    exec (.dikCert tag) s = execDikCert tag s := rfl
@[simp] theorem exec_coreRelease (copyA copyB : List Byte) (s : State) :
    exec (.coreRelease copyA copyB) s = execCoreRelease copyA copyB s := rfl
@[simp] theorem exec_xspiDone (data : List Byte) (changed : List (BitVec 28 × Byte)) (s : State) :
    exec (.xspiDone data changed) s = execXspiDone data changed s := rfl
@[simp] theorem exec_txBadOp (op : Fin 16) (s : State) :
    exec (.txBadOp op) s = execTxBadOp op s := rfl
@[simp] theorem exec_swStartupComplete (r : DriveReport) (heads : List (Nat × List Byte)) (s : State) :
    exec (.swStartupComplete r heads) s = execSwStartupComplete r heads s := rfl
@[simp] theorem exec_nvmeCompletion (cmd : Option Nat) (ok : Bool) (us : Nat) (s : State) :
    exec (.nvmeCompletion cmd ok us) s = execNvmeCompletion cmd ok us s := rfl
@[simp] theorem exec_nvmeTimeout (resetOk : Bool) (s : State) :
    exec (.nvmeTimeout resetOk) s = execNvmeTimeout resetOk s := rfl
@[simp] theorem exec_holdWrite (v : Word) (s : State) :
    exec (.holdWrite v) s = execHoldWrite v s := rfl
@[simp] theorem exec_pciebLinkChange (up : Bool) (s : State) :
    exec (.pciebLinkChange up) s = execPciebLinkChange up s := rfl
@[simp] theorem exec_driveRequest (a : Addr) (data : Option (List Byte)) (n : Nat) (s : State) :
    exec (.driveRequest a data n) s = execDriveRequest a data n s := rfl
@[simp] theorem exec_pciaInboundTlp (bar2 write ep : Bool) (off : Word) (dwords : List (Word × BitVec 4)) (s : State) :
    exec (.pciaInboundTlp bar2 write ep off dwords) s = execPciaInboundTlp bar2 write ep off dwords s := rfl
@[simp] theorem exec_pciaLinkChange (up : Bool) (s : State) :
    exec (.pciaLinkChange up) s = execPciaLinkChange up s := rfl
@[simp] theorem exec_odDoorbell (v : Byte) (s : State) :
    exec (.odDoorbell v) s = execOdDoorbell v s := rfl
@[simp] theorem exec_ethRxFrame (m : Fin 2) (f : List Byte) (badFcs : Bool) (sof : DWord) (s : State) :
    exec (.ethRxFrame m f badFcs sof) s = execEthRxFrame m f badFcs sof s := rfl
@[simp] theorem exec_ethTxFrame (m : Fin 2) (sof : DWord) (s : State) :
    exec (.ethTxFrame m sof) s = execEthTxFrame m sof s := rfl
@[simp] theorem exec_ethLinkChange (m : Fin 2) (up : Bool) (s : State) :
    exec (.ethLinkChange m up) s = execEthLinkChange m up s := rfl
@[simp] theorem exec_odUdpDatagram (m : Fin 2) (s : State) :
    exec (.odUdpDatagram m) s = execOdUdpDatagram m s := rfl
@[simp] theorem exec_oddropRead (m : Fin 2) (s : State) :
    exec (.oddropRead m) s = execOddropRead m s := rfl
@[simp] theorem exec_usdoRequest (q : UsdoRequest) (s : State) :
    exec (.usdoRequest q) s = execUsdoRequest q s := rfl
@[simp] theorem exec_tpdoTransmit (i : Fin 4) (timer : Bool) (s : State) :
    exec (.tpdoTransmit i timer) s = execTpdoTransmit i timer s := rfl
@[simp] theorem exec_tunnelRequest (client : Fin 128) (m : List Byte) (s : State) :
    exec (.tunnelRequest client m) s = execTunnelRequest client m s := rfl
@[simp] theorem exec_odTxCmd (session : Fin 16) (op : Byte) (s : State) :
    exec (.odTxCmd session op) s = execOdTxCmd session op s := rfl
@[simp] theorem exec_modeRequest (session : Option (Fin 16)) (m : Byte) (s : State) :
    exec (.modeRequest session m) s = execModeRequest session m s := rfl
@[simp] theorem exec_streamRestart (st : Fin 32) (s : State) :
    exec (.streamRestart st) s = execStreamRestart st s := rfl
@[simp] theorem exec_externalTrigger (v : Byte) (s : State) :
    exec (.externalTrigger v) s = execExternalTrigger v s := rfl
@[simp] theorem exec_microcodeImageWrite (session : Fin 16) (data : List Byte) (s : State) :
    exec (.microcodeImageWrite session data) s = execMicrocodeImageWrite session data s := rfl
@[simp] theorem exec_workerWindowAccess (session : Option (Fin 16)) (index : BitVec 16) (sub : Byte) (write : Option (List Byte)) (s : State) :
    exec (.workerWindowAccess session index sub write) s = execWorkerWindowAccess session index sub write s := rfl
@[simp] theorem exec_storeParameters (session : Fin 16) (v : Word) (s : State) :
    exec (.storeParameters session v) s = execStoreParameters session v s := rfl
@[simp] theorem exec_restoreDefaults (session : Fin 16) (v : Word) (s : State) :
    exec (.restoreDefaults session v) s = execRestoreDefaults session v s := rfl
@[simp] theorem exec_wlogRead (who : Initiator) (s : State) :
    exec (.wlogRead who) s = execWlogRead who s := rfl
@[simp] theorem exec_odeStatRead (who : Initiator) (s : State) :
    exec (.odeStatRead who) s = execOdeStatRead who s := rfl
@[simp] theorem exec_canRxFrame (k : Fin 4) (f : CanFrame) (sof : DWord) (s : State) :
    exec (.canRxFrame k f sof) s = execCanRxFrame k f sof s := rfl
@[simp] theorem exec_canTxFrame (k : Fin 4) (sof : DWord) (s : State) :
    exec (.canTxFrame k sof) s = execCanTxFrame k sof s := rfl
@[simp] theorem exec_canErrorState (k : Fin 4) (st : Fin 3) (tec rec_ : Byte) (s : State) :
    exec (.canErrorState k st tec rec_) s = execCanErrorState k st tec rec_ s := rfl
@[simp] theorem exec_recover (k : Fin 4) (s : State) :
    exec (.recover k) s = execRecover k s := rfl
@[simp] theorem exec_busOffRecoveryDone (k : Fin 4) (s : State) :
    exec (.busOffRecoveryDone k) s = execBusOffRecoveryDone k s := rfl
@[simp] theorem exec_canStatRead (k : Fin 4) (s : State) :
    exec (.canStatRead k) s = execCanStatRead k s := rfl
@[simp] theorem exec_incidentTrigger (i : Fin 8) (falling : Bool) (s : State) :
    exec (.incidentTrigger i falling) s = execIncidentTrigger i falling s := rfl
@[simp] theorem exec_wakeCanFrame (f : CanFrame) (rate : Fin 3) (s : State) :
    exec (.wakeCanFrame f rate) s = execWakeCanFrame f rate s := rfl
@[simp] theorem exec_accelWake (falling : Bool) (s : State) :
    exec (.accelWake falling) s = execAccelWake falling s := rfl
@[simp] theorem exec_resetRelease (passed : BitVec 7) (rs : List RepairReport) (s : State) :
    exec (.resetRelease passed rs) s = execResetRelease passed rs s := rfl
@[simp] theorem exec_powerStateChoice (tgt : PowerTarget) (s : State) :
    exec (.powerStateChoice tgt) s = execPowerStateChoice tgt s := rfl
@[simp] theorem exec_toleranceWrite (k : Fin 5) (data : Word) (s : State) :
    exec (.toleranceWrite k data) s = execToleranceWrite k data s := rfl
@[simp] theorem exec_powerEstimate (est : BitVec 16) (s : State) :
    exec (.powerEstimate est) s = execPowerEstimate est s := rfl
@[simp] theorem exec_pllUnlock (k : Fin 3) (s : State) :
    exec (.pllUnlock k) s = execPllUnlock k s := rfl
@[simp] theorem exec_domainFail (d : Domain) (s : State) :
    exec (.domainFail d) s = execDomainFail d s := rfl
@[simp] theorem exec_supplyWarn (r : Fin 8) (s : State) :
    exec (.supplyWarn r) s = execSupplyWarn r s := rfl
@[simp] theorem exec_evtPendClear (host : Bool) (k : Fin 8) (v : Word) (s : State) :
    exec (.evtPendClear host k v) s = execEvtPendClear host k v s := rfl
@[simp] theorem exec_evtDoorbell (who : Initiator) (v : Word) (s : State) :
    exec (.evtDoorbell who v) s = execEvtDoorbell who v s := rfl
@[simp] theorem exec_timeAdjGo (tag : BitVec 2) (s : State) :
    exec (.timeAdjGo tag) s = execTimeAdjGo tag s := rfl
@[simp] theorem exec_weaveLoad (mask : BitVec 4) (s : State) :
    exec (.weaveLoad mask) s = execWeaveLoad mask s := rfl
@[simp] theorem exec_weaveClear (mask : BitVec 4) (s : State) :
    exec (.weaveClear mask) s = execWeaveClear mask s := rfl
@[simp] theorem exec_frameCommit (data : Word) (s : State) :
    exec (.frameCommit data) s = execFrameCommit data s := rfl
@[simp] theorem exec_weaveImageWrite (session : Fin 16) (data : List Byte) (s : State) :
    exec (.weaveImageWrite session data) s = execWeaveImageWrite session data s := rfl
@[simp] theorem exec_pinModeWrite (k : Fin 64) (data : Word) (s : State) :
    exec (.pinModeWrite k data) s = execPinModeWrite k data s := rfl
@[simp] theorem exec_triggerLineChange (pads : BitVec 64) (ign accel pps : Bool) (s : State) :
    exec (.triggerLineChange pads ign accel pps) s = execTriggerLineChange pads ign accel pps s := rfl
@[simp] theorem exec_wvUserEvent (pads : BitVec 64) (ign accel pps : Bool) (s : State) :
    exec (.wvUserEvent pads ign accel pps) s = execWvUserEvent pads ign accel pps s := rfl
@[simp] theorem exec_bankFault (bankB : Bool) (s : State) :
    exec (.bankFault bankB) s = execBankFault bankB s := rfl
@[simp] theorem exec_adcChannelResult (conv : List (BitVec 12)) (s : State) :
    exec (.adcChannelResult conv) s = execAdcChannelResult conv s := rfl
@[simp] theorem exec_i2cWrite (n : Fin 4) (ack : Bool) (s : State) :
    exec (.i2cWrite n ack) s = execI2cWrite n ack s := rfl
@[simp] theorem exec_i2cReadAck (n : Fin 4) (data : Byte) (s : State) :
    exec (.i2cReadAck n data) s = execI2cReadAck n data s := rfl
@[simp] theorem exec_i2cReadNack (n : Fin 4) (data : Byte) (s : State) :
    exec (.i2cReadNack n data) s = execI2cReadNack n data s := rfl
@[simp] theorem exec_i2cStop (n : Fin 4) (s : State) :
    exec (.i2cStop n) s = execI2cStop n s := rfl
@[simp] theorem exec_i2cTimeout (n : Fin 4) (sdaLow : Bool) (s : State) :
    exec (.i2cTimeout n sdaLow) s = execI2cTimeout n sdaLow s := rfl
@[simp] theorem exec_i2cRxRead (n : Fin 4) (s : State) :
    exec (.i2cRxRead n) s = execI2cRxRead n s := rfl
@[simp] theorem exec_spiWord (n : Fin 2) (data : Word) (s : State) :
    exec (.spiWord n data) s = execSpiWord n data s := rfl
@[simp] theorem exec_spiRxRead (n : Fin 2) (s : State) :
    exec (.spiRxRead n) s = execSpiRxRead n s := rfl
@[simp] theorem exec_linkUp (l : Fin 4) (r : PeerReport) (s : State) :
    exec (.linkUp l r) s = execLinkUp l r s := rfl
@[simp] theorem exec_linkDown (l : Fin 4) (s : State) :
    exec (.linkDown l) s = execLinkDown l s := rfl
@[simp] theorem exec_frameReplay (l : Fin 4) (again : Bool) (s : State) :
    exec (.frameReplay l again) s = execFrameReplay l again s := rfl
@[simp] theorem exec_workerReachTimeout (d : Fin 16) (s : State) :
    exec (.workerReachTimeout d) s = execWorkerReachTimeout d s := rfl
@[simp] theorem exec_linkStatRead (l : Fin 4) (s : State) :
    exec (.linkStatRead l) s = execLinkStatRead l s := rfl
@[simp] theorem exec_dbgacc (write : Bool) (off : BitVec 20) (v : Word) (s : State) :
    exec (.dbgacc write off v) s = execDbgacc write off v s := rfl
@[simp] theorem exec_debugObjectWrite (session : Fin 16) (udp : Bool) (records : List (BitVec 64)) (s : State) :
    exec (.debugObjectWrite session udp records) s = execDebugObjectWrite session udp records s := rfl
@[simp] theorem exec_challenge (p : Fin 3) (s : State) :
    exec (.challenge p) s = execChallenge p s := rfl
@[simp] theorem exec_verify (p : Fin 3) (password : Bool) (level : Fin 4) (s : State) :
    exec (.verify p password level) s = execVerify p password level s := rfl
@[simp] theorem exec_verifyDone (p : Fin 3) (s : State) :
    exec (.verifyDone p) s = execVerifyDone p s := rfl
@[simp] theorem exec_nonceExpiry (p : Fin 3) (s : State) :
    exec (.nonceExpiry p) s = execNonceExpiry p s := rfl
@[simp] theorem exec_close (p : Fin 3) (s : State) :
    exec (.close p) s = execClose p s := rfl
@[simp] theorem exec_chalt (p : Fin 3) (s : State) :
    exec (.chalt p) s = execChalt p s := rfl
@[simp] theorem exec_cresume (p : Fin 3) (s : State) :
    exec (.cresume p) s = execCresume p s := rfl
@[simp] theorem exec_cstep (p : Fin 3) (s : State) :
    exec (.cstep p) s = execCstep p s := rfl
@[simp] theorem exec_astop (p : Fin 3) (s : State) :
    exec (.astop p) s = execAstop p s := rfl
@[simp] theorem exec_arelease (p : Fin 3) (s : State) :
    exec (.arelease p) s = execArelease p s := rfl
@[simp] theorem exec_astep (p : Fin 3) (s : State) :
    exec (.astep p) s = execAstep p s := rfl
@[simp] theorem exec_dbmAccess (p : Fin 3) (s : State) :
    exec (.dbmAccess p) s = execDbmAccess p s := rfl
@[simp] theorem exec_pmemRead (p : Fin 3) (s : State) :
    exec (.pmemRead p) s = execPmemRead p s := rfl
@[simp] theorem exec_pmemCommit (p : Fin 3) (v : Word) (s : State) :
    exec (.pmemCommit p v) s = execPmemCommit p v s := rfl
@[simp] theorem exec_stimWrite (p : Fin 32) (size : Fin 3) (data : Word) (port : Option (Fin 3)) (s : State) :
    exec (.stimWrite p size data port) s = execStimWrite p size data port s := rfl
@[simp] theorem exec_reelWinRead (w : Fin 4 × Option (Fin 3)) (s : State) :
    exec (.reelWinRead w) s = execReelWinRead w s := rfl
@[simp] theorem exec_wdtEnable (freeze : Bool) (s : State) :
    exec (.wdtEnable freeze) s = execWdtEnable freeze s := rfl
@[simp] theorem exec_wdtKick (v : Word) (s : State) :
    exec (.wdtKick v) s = execWdtKick v s := rfl
@[simp] theorem exec_histogramSample (h : Fin 5) (s : State) :
    exec (.histogramSample h) s = execHistogramSample h s := rfl
@[simp] theorem exec_pllRelock (k : Fin 3) (s : State) :
    exec (.pllRelock k) s = execPllRelock k s := rfl
@[simp] theorem exec_aonPowerOn (mgrSel : Bool) (s : State) :
    exec (.aonPowerOn mgrSel) s = execAonPowerOn mgrSel s := rfl
@[simp] theorem exec_supplyReturn (r : Fin 8) (s : State) :
    exec (.supplyReturn r) s = execSupplyReturn r s := rfl
@[simp] theorem exec_domainPowerGood (d : Domain) (s : State) :
    exec (.domainPowerGood d) s = execDomainPowerGood d s := rfl
@[simp] theorem exec_swStartFail (r : DriveReport) (s : State) :
    exec (.swStartFail r) s = execSwStartFail r s := rfl
@[simp] theorem exec_pictureCommand (s : State) :
    exec (.pictureCommand) s = execPictureCommand s := rfl
@[simp] theorem exec_sliceStart (s : State) :
    exec (.sliceStart) s = execSliceStart s := rfl
@[simp] theorem exec_pictureDone (s : State) :
    exec (.pictureDone) s = execPictureDone s := rfl
@[simp] theorem exec_pkrStatRead (s : State) :
    exec (.pkrStatRead) s = execPkrStatRead s := rfl
@[simp] theorem exec_reseed (s : State) :
    exec (.reseed) s = execReseed s := rfl
@[simp] theorem exec_tor0Read (s : State) :
    exec (.tor0Read) s = execTor0Read s := rfl
@[simp] theorem exec_gorResult (s : State) :
    exec (.gorResult) s = execGorResult s := rfl
@[simp] theorem exec_dispatch (s : State) :
    exec (.dispatch) s = execDispatch s := rfl
@[simp] theorem exec_nop (s : State) :
    exec (.nop) s = execNop s := rfl
@[simp] theorem exec_mov (s : State) :
    exec (.mov) s = execMov s := rfl
@[simp] theorem exec_not (s : State) :
    exec (.not) s = execNot s := rfl
@[simp] theorem exec_ldi (s : State) :
    exec (.ldi) s = execLdi s := rfl
@[simp] theorem exec_lfsr (s : State) :
    exec (.lfsr) s = execLfsr s := rfl
@[simp] theorem exec_sel (s : State) :
    exec (.sel) s = execSel s := rfl
@[simp] theorem exec_bool (s : State) :
    exec (.bool) s = execBool s := rfl
@[simp] theorem exec_mset (s : State) :
    exec (.mset) s = execMset s := rfl
@[simp] theorem exec_mget (s : State) :
    exec (.mget) s = execMget s := rfl
@[simp] theorem exec_sget (s : State) :
    exec (.sget) s = execSget s := rfl
@[simp] theorem exec_sclr (s : State) :
    exec (.sclr) s = execSclr s := rfl
@[simp] theorem exec_nmov (s : State) :
    exec (.nmov) s = execNmov s := rfl
@[simp] theorem exec_nmovd (s : State) :
    exec (.nmovd) s = execNmovd s := rfl
@[simp] theorem exec_nadd (s : State) :
    exec (.nadd) s = execNadd s := rfl
@[simp] theorem exec_any (s : State) :
    exec (.any) s = execAny s := rfl
@[simp] theorem exec_cmp (s : State) :
    exec (.cmp) s = execCmp s := rfl
@[simp] theorem exec_cmpm (s : State) :
    exec (.cmpm) s = execCmpm s := rfl
@[simp] theorem exec_add (s : State) :
    exec (.add) s = execAdd s := rfl
@[simp] theorem exec_sub (s : State) :
    exec (.sub) s = execSub s := rfl
@[simp] theorem exec_addi (s : State) :
    exec (.addi) s = execAddi s := rfl
@[simp] theorem exec_neg (s : State) :
    exec (.neg) s = execNeg s := rfl
@[simp] theorem exec_abs (s : State) :
    exec (.abs) s = execAbs s := rfl
@[simp] theorem exec_min (s : State) :
    exec (.min) s = execMin s := rfl
@[simp] theorem exec_max (s : State) :
    exec (.max) s = execMax s := rfl
@[simp] theorem exec_avg (s : State) :
    exec (.avg) s = execAvg s := rfl
@[simp] theorem exec_absd (s : State) :
    exec (.absd) s = execAbsd s := rfl
@[simp] theorem exec_clip (s : State) :
    exec (.clip) s = execClip s := rfl
@[simp] theorem exec_shl (s : State) :
    exec (.shl) s = execShl s := rfl
@[simp] theorem exec_shr (s : State) :
    exec (.shr) s = execShr s := rfl
@[simp] theorem exec_rol (s : State) :
    exec (.rol) s = execRol s := rfl
@[simp] theorem exec_ror (s : State) :
    exec (.ror) s = execRor s := rfl
@[simp] theorem exec_mul (s : State) :
    exec (.mul) s = execMul s := rfl
@[simp] theorem exec_mulq (s : State) :
    exec (.mulq) s = execMulq s := rfl
@[simp] theorem exec_div (s : State) :
    exec (.div) s = execDiv s := rfl
@[simp] theorem exec_sqrt (s : State) :
    exec (.sqrt) s = execSqrt s := rfl
@[simp] theorem exec_acc (s : State) :
    exec (.acc) s = execAcc s := rfl
@[simp] theorem exec_accn (s : State) :
    exec (.accn) s = execAccn s := rfl
@[simp] theorem exec_widen (s : State) :
    exec (.widen) s = execWiden s := rfl
@[simp] theorem exec_narrow (s : State) :
    exec (.narrow) s = execNarrow s := rfl
@[simp] theorem exec_popc (s : State) :
    exec (.popc) s = execPopc s := rfl
@[simp] theorem exec_clz (s : State) :
    exec (.clz) s = execClz s := rfl
@[simp] theorem exec_sig (s : State) :
    exec (.sig) s = execSig s := rfl
@[simp] theorem exec_ch (s : State) :
    exec (.ch) s = execCh s := rfl
@[simp] theorem exec_maj (s : State) :
    exec (.maj) s = execMaj s := rfl
@[simp] theorem exec_bswap (s : State) :
    exec (.bswap) s = execBswap s := rfl
@[simp] theorem exec_faddh (s : State) :
    exec (.faddh) s = execFaddh s := rfl
@[simp] theorem exec_fsubh (s : State) :
    exec (.fsubh) s = execFsubh s := rfl
@[simp] theorem exec_fmulh (s : State) :
    exec (.fmulh) s = execFmulh s := rfl
@[simp] theorem exec_ffmah (s : State) :
    exec (.ffmah) s = execFfmah s := rfl
@[simp] theorem exec_fminh (s : State) :
    exec (.fminh) s = execFminh s := rfl
@[simp] theorem exec_fmaxh (s : State) :
    exec (.fmaxh) s = execFmaxh s := rfl
@[simp] theorem exec_fcmph (s : State) :
    exec (.fcmph) s = execFcmph s := rfl
@[simp] theorem exec_fcvthi (s : State) :
    exec (.fcvthi) s = execFcvthi s := rfl
@[simp] theorem exec_fcvtih (s : State) :
    exec (.fcvtih) s = execFcvtih s := rfl
@[simp] theorem exec_fcvthq (s : State) :
    exec (.fcvthq) s = execFcvthq s := rfl
@[simp] theorem exec_fcvtqh (s : State) :
    exec (.fcvtqh) s = execFcvtqh s := rfl
@[simp] theorem exec_undef (s : State) :
    exec (.undef) s = execUndef s := rfl
@[simp] theorem exec_customerRoutine (s : State) :
    exec (.customerRoutine) s = execCustomerRoutine s := rfl
@[simp] theorem exec_plane (s : State) :
    exec (.plane) s = execPlane s := rfl
@[simp] theorem exec_nbr (s : State) :
    exec (.nbr) s = execNbr s := rfl
@[simp] theorem exec_reg (s : State) :
    exec (.reg) s = execReg s := rfl
@[simp] theorem exec_gor (s : State) :
    exec (.gor) s = execGor s := rfl
@[simp] theorem exec_cnt (s : State) :
    exec (.cnt) s = execCnt s := rfl
@[simp] theorem exec_ofs (s : State) :
    exec (.ofs) s = execOfs s := rfl
@[simp] theorem exec_br (s : State) :
    exec (.br) s = execBr s := rfl
@[simp] theorem exec_call (s : State) :
    exec (.call) s = execCall s := rfl
@[simp] theorem exec_ret (s : State) :
    exec (.ret) s = execRet s := rfl
@[simp] theorem exec_yield (s : State) :
    exec (.yield) s = execYield s := rfl
@[simp] theorem exec_endOp (s : State) :
    exec (.endOp) s = execEnd s := rfl
@[simp] theorem exec_pageTouch (s : State) :
    exec (.pageTouch) s = execPageTouch s := rfl
@[simp] theorem exec_pageDeclare (s : State) :
    exec (.pageDeclare) s = execPageDeclare s := rfl
@[simp] theorem exec_pageCheck (s : State) :
    exec (.pageCheck) s = execPageCheck s := rfl
@[simp] theorem exec_wait (s : State) :
    exec (.wait) s = execWait s := rfl
@[simp] theorem exec_reservedMicroword (s : State) :
    exec (.reservedMicroword) s = execReservedMicroword s := rfl
@[simp] theorem exec_resume (s : State) :
    exec (.resume) s = execResume s := rfl
@[simp] theorem exec_discard (s : State) :
    exec (.discard) s = execDiscard s := rfl
@[simp] theorem exec_customerLoadDone (s : State) :
    exec (.customerLoadDone) s = execCustomerLoadDone s := rfl
@[simp] theorem exec_grnEnable (s : State) :
    exec (.grnEnable) s = execGrnEnable s := rfl
@[simp] theorem exec_grnInitDone (s : State) :
    exec (.grnInitDone) s = execGrnInitDone s := rfl
@[simp] theorem exec_klock (s : State) :
    exec (.klock) s = execKlock s := rfl
@[simp] theorem exec_submit (s : State) :
    exec (.submit) s = execSubmit s := rfl
@[simp] theorem exec_park (s : State) :
    exec (.park) s = execPark s := rfl
@[simp] theorem exec_release (s : State) :
    exec (.release) s = execRelease s := rfl
@[simp] theorem exec_free (s : State) :
    exec (.free) s = execFree s := rfl
@[simp] theorem exec_setDeadline (s : State) :
    exec (.setDeadline) s = execSetDeadline s := rfl
@[simp] theorem exec_setPrio (s : State) :
    exec (.setPrio) s = execSetPrio s := rfl
@[simp] theorem exec_fence (s : State) :
    exec (.fence) s = execFence s := rfl
@[simp] theorem exec_grnBadOp (s : State) :
    exec (.grnBadOp) s = execGrnBadOp s := rfl
@[simp] theorem exec_deadlineScan (s : State) :
    exec (.deadlineScan) s = execDeadlineScan s := rfl
@[simp] theorem exec_selection (s : State) :
    exec (.selection) s = execSelection s := rfl
@[simp] theorem exec_stallResume (s : State) :
    exec (.stallResume) s = execStallResume s := rfl
@[simp] theorem exec_turnaround (s : State) :
    exec (.turnaround) s = execTurnaround s := rfl
@[simp] theorem exec_roundQueueRoom (s : State) :
    exec (.roundQueueRoom) s = execRoundQueueRoom s := rfl
@[simp] theorem exec_endAccept (s : State) :
    exec (.endAccept) s = execEndAccept s := rfl
@[simp] theorem exec_preemptRequest (s : State) :
    exec (.preemptRequest) s = execPreemptRequest s := rfl
@[simp] theorem exec_ackPreempt (s : State) :
    exec (.ackPreempt) s = execAckPreempt s := rfl
@[simp] theorem exec_ackLate (s : State) :
    exec (.ackLate) s = execAckLate s := rfl
@[simp] theorem exec_rstatRead (s : State) :
    exec (.rstatRead) s = execRstatRead s := rfl
@[simp] theorem exec_refresh (s : State) :
    exec (.refresh) s = execRefresh s := rfl
@[simp] theorem exec_distaffAdd (s : State) :
    exec (.distaffAdd) s = execDistaffAdd s := rfl
@[simp] theorem exec_adc (s : State) :
    exec (.adc) s = execAdc s := rfl
@[simp] theorem exec_distaffSub (s : State) :
    exec (.distaffSub) s = execDistaffSub s := rfl
@[simp] theorem exec_sbc (s : State) :
    exec (.sbc) s = execSbc s := rfl
@[simp] theorem exec_and (s : State) :
    exec (.and) s = execAnd s := rfl
@[simp] theorem exec_or (s : State) :
    exec (.or) s = execOr s := rfl
@[simp] theorem exec_xor (s : State) :
    exec (.xor) s = execXor s := rfl
@[simp] theorem exec_bic (s : State) :
    exec (.bic) s = execBic s := rfl
@[simp] theorem exec_lsl (s : State) :
    exec (.lsl) s = execLsl s := rfl
@[simp] theorem exec_lsr (s : State) :
    exec (.lsr) s = execLsr s := rfl
@[simp] theorem exec_asr (s : State) :
    exec (.asr) s = execAsr s := rfl
@[simp] theorem exec_distaffRor (s : State) :
    exec (.distaffRor) s = execDistaffRor s := rfl
@[simp] theorem exec_distaffMov (s : State) :
    exec (.distaffMov) s = execDistaffMov s := rfl
@[simp] theorem exec_distaffCmp (s : State) :
    exec (.distaffCmp) s = execDistaffCmp s := rfl
@[simp] theorem exec_qadd (s : State) :
    exec (.qadd) s = execQadd s := rfl
@[simp] theorem exec_qsub (s : State) :
    exec (.qsub) s = execQsub s := rfl
@[simp] theorem exec_movl (s : State) :
    exec (.movl) s = execMovl s := rfl
@[simp] theorem exec_movh (s : State) :
    exec (.movh) s = execMovh s := rfl
@[simp] theorem exec_ldb (s : State) :
    exec (.ldb) s = execLdb s := rfl
@[simp] theorem exec_ldsb (s : State) :
    exec (.ldsb) s = execLdsb s := rfl
@[simp] theorem exec_ldh (s : State) :
    exec (.ldh) s = execLdh s := rfl
@[simp] theorem exec_ldsh (s : State) :
    exec (.ldsh) s = execLdsh s := rfl
@[simp] theorem exec_ldw (s : State) :
    exec (.ldw) s = execLdw s := rfl
@[simp] theorem exec_ldx (s : State) :
    exec (.ldx) s = execLdx s := rfl
@[simp] theorem exec_stb (s : State) :
    exec (.stb) s = execStb s := rfl
@[simp] theorem exec_sth (s : State) :
    exec (.sth) s = execSth s := rfl
@[simp] theorem exec_stw (s : State) :
    exec (.stw) s = execStw s := rfl
@[simp] theorem exec_stx (s : State) :
    exec (.stx) s = execStx s := rfl
@[simp] theorem exec_lda (s : State) :
    exec (.lda) s = execLda s := rfl
@[simp] theorem exec_ldp (s : State) :
    exec (.ldp) s = execLdp s := rfl
@[simp] theorem exec_sta (s : State) :
    exec (.sta) s = execSta s := rfl
@[simp] theorem exec_stp (s : State) :
    exec (.stp) s = execStp s := rfl
@[simp] theorem exec_distaffMulAcc (s : State) :
    exec (.distaffMulAcc) s = execDistaffMulAcc s := rfl
@[simp] theorem exec_mac (s : State) :
    exec (.mac) s = execMac s := rfl
@[simp] theorem exec_msu (s : State) :
    exec (.msu) s = execMsu s := rfl
@[simp] theorem exec_mova (s : State) :
    exec (.mova) s = execMova s := rfl
@[simp] theorem exec_rda (s : State) :
    exec (.rda) s = execRda s := rfl
@[simp] theorem exec_asra (s : State) :
    exec (.asra) s = execAsra s := rfl
@[simp] theorem exec_clra (s : State) :
    exec (.clra) s = execClra s := rfl
@[simp] theorem exec_distaffMul (s : State) :
    exec (.distaffMul) s = execDistaffMul s := rfl
@[simp] theorem exec_mulhs (s : State) :
    exec (.mulhs) s = execMulhs s := rfl
@[simp] theorem exec_mulhu (s : State) :
    exec (.mulhu) s = execMulhu s := rfl
@[simp] theorem exec_divs (s : State) :
    exec (.divs) s = execDivs s := rfl
@[simp] theorem exec_divu (s : State) :
    exec (.divu) s = execDivu s := rfl
@[simp] theorem exec_rems (s : State) :
    exec (.rems) s = execRems s := rfl
@[simp] theorem exec_remu (s : State) :
    exec (.remu) s = execRemu s := rfl
@[simp] theorem exec_fadd (s : State) :
    exec (.fadd) s = execFadd s := rfl
@[simp] theorem exec_fsub (s : State) :
    exec (.fsub) s = execFsub s := rfl
@[simp] theorem exec_fmul (s : State) :
    exec (.fmul) s = execFmul s := rfl
@[simp] theorem exec_fdiv (s : State) :
    exec (.fdiv) s = execFdiv s := rfl
@[simp] theorem exec_fsqrt (s : State) :
    exec (.fsqrt) s = execFsqrt s := rfl
@[simp] theorem exec_fma (s : State) :
    exec (.fma) s = execFma s := rfl
@[simp] theorem exec_fmin (s : State) :
    exec (.fmin) s = execFmin s := rfl
@[simp] theorem exec_fmax (s : State) :
    exec (.fmax) s = execFmax s := rfl
@[simp] theorem exec_fcmp (s : State) :
    exec (.fcmp) s = execFcmp s := rfl
@[simp] theorem exec_fcvtws (s : State) :
    exec (.fcvtws) s = execFcvtws s := rfl
@[simp] theorem exec_fcvtsw (s : State) :
    exec (.fcvtsw) s = execFcvtsw s := rfl
@[simp] theorem exec_fneg (s : State) :
    exec (.fneg) s = execFneg s := rfl
@[simp] theorem exec_fabs (s : State) :
    exec (.fabs) s = execFabs s := rfl
@[simp] theorem exec_dadd (s : State) :
    exec (.dadd) s = execDadd s := rfl
@[simp] theorem exec_dsub (s : State) :
    exec (.dsub) s = execDsub s := rfl
@[simp] theorem exec_dchk (s : State) :
    exec (.dchk) s = execDchk s := rfl
@[simp] theorem exec_b (s : State) :
    exec (.b) s = execB s := rfl
@[simp] theorem exec_bl (s : State) :
    exec (.bl) s = execBl s := rfl
@[simp] theorem exec_brp (s : State) :
    exec (.brp) s = execBrp s := rfl
@[simp] theorem exec_blrp (s : State) :
    exec (.blrp) s = execBlrp s := rfl
@[simp] theorem exec_setp (s : State) :
    exec (.setp) s = execSetp s := rfl
@[simp] theorem exec_getp (s : State) :
    exec (.getp) s = execGetp s := rfl
@[simp] theorem exec_getph (s : State) :
    exec (.getph) s = execGetph s := rfl
@[simp] theorem exec_addp (s : State) :
    exec (.addp) s = execAddp s := rfl
@[simp] theorem exec_setb (s : State) :
    exec (.setb) s = execSetb s := rfl
@[simp] theorem exec_setl (s : State) :
    exec (.setl) s = execSetl s := rfl
@[simp] theorem exec_setn (s : State) :
    exec (.setn) s = execSetn s := rfl
@[simp] theorem exec_getl (s : State) :
    exec (.getl) s = execGetl s := rfl
@[simp] theorem exec_getn (s : State) :
    exec (.getn) s = execGetn s := rfl
@[simp] theorem exec_getb (s : State) :
    exec (.getb) s = execGetb s := rfl
@[simp] theorem exec_getal (s : State) :
    exec (.getal) s = execGetal s := rfl
@[simp] theorem exec_getah (s : State) :
    exec (.getah) s = execGetah s := rfl
@[simp] theorem exec_setah (s : State) :
    exec (.setah) s = execSetah s := rfl
@[simp] theorem exec_issue (s : State) :
    exec (.issue) s = execIssue s := rfl
@[simp] theorem exec_issuem (s : State) :
    exec (.issuem) s = execIssuem s := rfl
@[simp] theorem exec_issueHoldRelease (s : State) :
    exec (.issueHoldRelease) s = execIssueHoldRelease s := rfl
@[simp] theorem exec_await (s : State) :
    exec (.await) s = execAwait s := rfl
@[simp] theorem exec_awaitComplete (s : State) :
    exec (.awaitComplete) s = execAwaitComplete s := rfl
@[simp] theorem exec_distaffNop (s : State) :
    exec (.distaffNop) s = execDistaffNop s := rfl
@[simp] theorem exec_svc (s : State) :
    exec (.svc) s = execSvc s := rfl
@[simp] theorem exec_eret (s : State) :
    exec (.eret) s = execEret s := rfl
@[simp] theorem exec_mrs (s : State) :
    exec (.mrs) s = execMrs s := rfl
@[simp] theorem exec_msr (s : State) :
    exec (.msr) s = execMsr s := rfl
@[simp] theorem exec_wfi (s : State) :
    exec (.wfi) s = execWfi s := rfl
@[simp] theorem exec_wfiWake (s : State) :
    exec (.wfiWake) s = execWfiWake s := rfl
@[simp] theorem exec_distaffFence (s : State) :
    exec (.distaffFence) s = execDistaffFence s := rfl
@[simp] theorem exec_bkpt (s : State) :
    exec (.bkpt) s = execBkpt s := rfl
@[simp] theorem exec_dcinv (s : State) :
    exec (.dcinv) s = execDcinv s := rfl
@[simp] theorem exec_icinv (s : State) :
    exec (.icinv) s = execIcinv s := rfl
@[simp] theorem exec_icinvall (s : State) :
    exec (.icinvall) s = execIcinvall s := rfl
@[simp] theorem exec_dcinvall (s : State) :
    exec (.dcinvall) s = execDcinvall s := rfl
@[simp] theorem exec_undefInstruction (s : State) :
    exec (.undefInstruction) s = execUndefInstruction s := rfl
@[simp] theorem exec_interruptEntry (s : State) :
    exec (.interruptEntry) s = execInterruptEntry s := rfl
@[simp] theorem exec_impreciseBuserr (s : State) :
    exec (.impreciseBuserr) s = execImpreciseBuserr s := rfl
@[simp] theorem exec_invLine (s : State) :
    exec (.invLine) s = execInvLine s := rfl
@[simp] theorem exec_drainStart (s : State) :
    exec (.drainStart) s = execDrainStart s := rfl
@[simp] theorem exec_drainComplete (s : State) :
    exec (.drainComplete) s = execDrainComplete s := rfl
@[simp] theorem exec_drainLate (s : State) :
    exec (.drainLate) s = execDrainLate s := rfl
@[simp] theorem exec_drainAbort (s : State) :
    exec (.drainAbort) s = execDrainAbort s := rfl
@[simp] theorem exec_perrRead (s : State) :
    exec (.perrRead) s = execPerrRead s := rfl
@[simp] theorem exec_datCeRead (s : State) :
    exec (.datCeRead) s = execDatCeRead s := rfl
@[simp] theorem exec_bitstreamPortInput (s : State) :
    exec (.bitstreamPortInput) s = execBitstreamPortInput s := rfl
@[simp] theorem exec_stookDue (s : State) :
    exec (.stookDue) s = execStookDue s := rfl
@[simp] theorem exec_stookSignDone (s : State) :
    exec (.stookSignDone) s = execStookSignDone s := rfl
@[simp] theorem exec_recoveryStook (s : State) :
    exec (.recoveryStook) s = execRecoveryStook s := rfl
@[simp] theorem exec_journalWriteDone (s : State) :
    exec (.journalWriteDone) s = execJournalWriteDone s := rfl
@[simp] theorem exec_journalSpaceFreed (s : State) :
    exec (.journalSpaceFreed) s = execJournalSpaceFreed s := rfl
@[simp] theorem exec_progressEntry (s : State) :
    exec (.progressEntry) s = execProgressEntry s := rfl
@[simp] theorem exec_siloCeRead (s : State) :
    exec (.siloCeRead) s = execSiloCeRead s := rfl
@[simp] theorem exec_conditionalTestFail (s : State) :
    exec (.conditionalTestFail) s = execConditionalTestFail s := rfl
@[simp] theorem exec_softTamper (s : State) :
    exec (.softTamper) s = execSoftTamper s := rfl
@[simp] theorem exec_hardTamper (s : State) :
    exec (.hardTamper) s = execHardTamper s := rfl
@[simp] theorem exec_sessionAuthTimeout (s : State) :
    exec (.sessionAuthTimeout) s = execSessionAuthTimeout s := rfl
@[simp] theorem exec_sessionIdleTimeout (s : State) :
    exec (.sessionIdleTimeout) s = execSessionIdleTimeout s := rfl
@[simp] theorem exec_lockoutEnd (s : State) :
    exec (.lockoutEnd) s = execLockoutEnd s := rfl
@[simp] theorem exec_xspiGo (s : State) :
    exec (.xspiGo) s = execXspiGo s := rfl
@[simp] theorem exec_vinSenseFall (s : State) :
    exec (.vinSenseFall) s = execVinSenseFall s := rfl
@[simp] theorem exec_capsuleComplete (s : State) :
    exec (.capsuleComplete) s = execCapsuleComplete s := rfl
@[simp] theorem exec_vinRecovered (s : State) :
    exec (.vinRecovered) s = execVinRecovered s := rfl
@[simp] theorem exec_pfWarn (s : State) :
    exec (.pfWarn) s = execPfWarn s := rfl
@[simp] theorem exec_siloScan (s : State) :
    exec (.siloScan) s = execSiloScan s := rfl
@[simp] theorem exec_recovery (s : State) :
    exec (.recovery) s = execRecovery s := rfl
@[simp] theorem exec_txOpen (s : State) :
    exec (.txOpen) s = execTxOpen s := rfl
@[simp] theorem exec_txStage (s : State) :
    exec (.txStage) s = execTxStage s := rfl
@[simp] theorem exec_txCommit (s : State) :
    exec (.txCommit) s = execTxCommit s := rfl
@[simp] theorem exec_txAbort (s : State) :
    exec (.txAbort) s = execTxAbort s := rfl
@[simp] theorem exec_txApplyDone (s : State) :
    exec (.txApplyDone) s = execTxApplyDone s := rfl
@[simp] theorem exec_swEnable (s : State) :
    exec (.swEnable) s = execSwEnable s := rfl
@[simp] theorem exec_itemAdd (s : State) :
    exec (.itemAdd) s = execItemAdd s := rfl
@[simp] theorem exec_baleAgeClose (s : State) :
    exec (.baleAgeClose) s = execBaleAgeClose s := rfl
@[simp] theorem exec_lagMiss (s : State) :
    exec (.lagMiss) s = execLagMiss s := rfl
@[simp] theorem exec_swDisable (s : State) :
    exec (.swDisable) s = execSwDisable s := rfl
@[simp] theorem exec_swDrainDone (s : State) :
    exec (.swDrainDone) s = execSwDrainDone s := rfl
@[simp] theorem exec_swDrainTimeout (s : State) :
    exec (.swDrainTimeout) s = execSwDrainTimeout s := rfl
@[simp] theorem exec_pciaReset (s : State) :
    exec (.pciaReset) s = execPciaReset s := rfl
@[simp] theorem exec_odSlotAnswer (s : State) :
    exec (.odSlotAnswer) s = execOdSlotAnswer s := rfl
@[simp] theorem exec_odOpen (s : State) :
    exec (.odOpen) s = execOdOpen s := rfl
@[simp] theorem exec_odAuth (s : State) :
    exec (.odAuth) s = execOdAuth s := rfl
@[simp] theorem exec_odClose (s : State) :
    exec (.odClose) s = execOdClose s := rfl
@[simp] theorem exec_odRead (s : State) :
    exec (.odRead) s = execOdRead s := rfl
@[simp] theorem exec_odWrite (s : State) :
    exec (.odWrite) s = execOdWrite s := rfl
@[simp] theorem exec_odBadOp (s : State) :
    exec (.odBadOp) s = execOdBadOp s := rfl
@[simp] theorem exec_pendingWriteTimeout (s : State) :
    exec (.pendingWriteTimeout) s = execPendingWriteTimeout s := rfl
@[simp] theorem exec_rpdoReceive (s : State) :
    exec (.rpdoReceive) s = execRpdoReceive s := rfl
@[simp] theorem exec_heartbeat (s : State) :
    exec (.heartbeat) s = execHeartbeat s := rfl
@[simp] theorem exec_canTimeObject (s : State) :
    exec (.canTimeObject) s = execCanTimeObject s := rfl
@[simp] theorem exec_nmtStart (s : State) :
    exec (.nmtStart) s = execNmtStart s := rfl
@[simp] theorem exec_nmtStop (s : State) :
    exec (.nmtStop) s = execNmtStop s := rfl
@[simp] theorem exec_nmtPreOperational (s : State) :
    exec (.nmtPreOperational) s = execNmtPreOperational s := rfl
@[simp] theorem exec_nmtResetCommunication (s : State) :
    exec (.nmtResetCommunication) s = execNmtResetCommunication s := rfl
@[simp] theorem exec_nmtResetNode (s : State) :
    exec (.nmtResetNode) s = execNmtResetNode s := rfl
@[simp] theorem exec_odStoreLoad (s : State) :
    exec (.odStoreLoad) s = execOdStoreLoad s := rfl
@[simp] theorem exec_incidentHoldExpiry (s : State) :
    exec (.incidentHoldExpiry) s = execIncidentHoldExpiry s := rfl
@[simp] theorem exec_dormantEntry (s : State) :
    exec (.dormantEntry) s = execDormantEntry s := rfl
@[simp] theorem exec_ignWake (s : State) :
    exec (.ignWake) s = execIgnWake s := rfl
@[simp] theorem exec_rtcAlarm (s : State) :
    exec (.rtcAlarm) s = execRtcAlarm s := rfl
@[simp] theorem exec_externalReset (s : State) :
    exec (.externalReset) s = execExternalReset s := rfl
@[simp] theorem exec_swReset (s : State) :
    exec (.swReset) s = execSwReset s := rfl
@[simp] theorem exec_throttleStep (s : State) :
    exec (.throttleStep) s = execThrottleStep s := rfl
@[simp] theorem exec_refLost (s : State) :
    exec (.refLost) s = execRefLost s := rfl
@[simp] theorem exec_xtalFail (s : State) :
    exec (.xtalFail) s = execXtalFail s := rfl
@[simp] theorem exec_ppsEdge (s : State) :
    exec (.ppsEdge) s = execPpsEdge s := rfl
@[simp] theorem exec_timeSourceTimeout (s : State) :
    exec (.timeSourceTimeout) s = execTimeSourceTimeout s := rfl
@[simp] theorem exec_timebaseWrap (s : State) :
    exec (.timebaseWrap) s = execTimebaseWrap s := rfl
@[simp] theorem exec_timeNowRead (s : State) :
    exec (.timeNowRead) s = execTimeNowRead s := rfl
@[simp] theorem exec_weaveStart (s : State) :
    exec (.weaveStart) s = execWeaveStart s := rfl
@[simp] theorem exec_cfgStatRead (s : State) :
    exec (.cfgStatRead) s = execCfgStatRead s := rfl
@[simp] theorem exec_systemMapCheck (s : State) :
    exec (.systemMapCheck) s = execSystemMapCheck s := rfl
@[simp] theorem exec_workerBootTimeout (s : State) :
    exec (.workerBootTimeout) s = execWorkerBootTimeout s := rfl
@[simp] theorem exec_debugReset (s : State) :
    exec (.debugReset) s = execDebugReset s := rfl
@[simp] theorem exec_traceDatagramTimeout (s : State) :
    exec (.traceDatagramTimeout) s = execTraceDatagramTimeout s := rfl
@[simp] theorem exec_wdtWarn (s : State) :
    exec (.wdtWarn) s = execWdtWarn s := rfl
@[simp] theorem exec_wdtExpiry (s : State) :
    exec (.wdtExpiry) s = execWdtExpiry s := rfl
@[simp] theorem exec_lifeFlushPeriodic (s : State) :
    exec (.lifeFlushPeriodic) s = execLifeFlushPeriodic s := rfl
@[simp] theorem exec_lifeFlushNow (s : State) :
    exec (.lifeFlushNow) s = execLifeFlushNow s := rfl
@[simp] theorem exec_lifeSnapTake (s : State) :
    exec (.lifeSnapTake) s = execLifeSnapTake s := rfl
@[simp] theorem exec_snapshotDone (s : State) :
    exec (.snapshotDone) s = execSnapshotDone s := rfl
@[simp] theorem exec_lifeLoad (s : State) :
    exec (.lifeLoad) s = execLifeLoad s := rfl

end Sys2Proof.Machine
end

