-- ==== Sys2Proof/Laws/Map.lean ====
section
/-!
SUPPORT. Sparse data by key: reading after a write, and that a write keeps the canonical form.
-/
namespace Sys2Proof.Machine

variable {α : Type}

theorem mapGet_mapErase_same (d : α) (m : List (Nat × α)) (k : Nat) : mapGet d (mapErase k m) k = d := by
  induction m with
  | nil => rfl
  | cons e t ih =>
    obtain ⟨k', v⟩ := e
    by_cases h : k' = k
    · simpa [mapErase, h] using ih
    · simpa [mapErase, h, mapGet] using ih

theorem mapGet_mapErase_ne (d : α) (m : List (Nat × α)) {j k : Nat} (h : j ≠ k) :
    mapGet d (mapErase k m) j = mapGet d m j := by
  induction m with
  | nil => rfl
  | cons e t ih =>
    obtain ⟨k', v⟩ := e
    by_cases hk : k' = k
    · subst hk; simpa [mapErase, mapGet, Ne.symm h] using ih
    · simp only [mapErase, if_neg hk, mapGet, ih]

theorem mapGet_mapInsert_ne (d : α) (m : List (Nat × α)) {j k : Nat} (v : α) (h : j ≠ k) :
    mapGet d (mapInsert k v m) j = mapGet d m j := by
  induction m with
  | nil => simp [mapInsert, mapGet, Ne.symm h]
  | cons e t ih =>
    obtain ⟨k', v'⟩ := e
    by_cases hlt : k < k'
    · simp [mapInsert, mapGet, hlt, Ne.symm h]
    · simp only [mapInsert, if_neg hlt, mapGet, ih]

theorem mapGet_mapInsert_same (d : α) (m : List (Nat × α)) (k : Nat) (v : α) (h : ∀ e ∈ m, e.1 ≠ k) :
    mapGet d (mapInsert k v m) k = v := by
  induction m with
  | nil => simp [mapInsert, mapGet]
  | cons e t ih =>
    obtain ⟨k', v'⟩ := e
    have hk : k' ≠ k := h (k', v') (by simp)
    by_cases hlt : k < k'
    · simp [mapInsert, mapGet, hlt]
    · simpa [mapInsert, mapGet, hlt, hk] using ih (fun e he => h e (by simp [he]))

theorem mapErase_keys (m : List (Nat × α)) (k : Nat) : ∀ e ∈ mapErase k m, e.1 ≠ k ∧ e ∈ m := by
  induction m with
  | nil => simp [mapErase]
  | cons e t ih =>
    obtain ⟨k', v⟩ := e
    intro x hx
    by_cases h : k' = k
    · simp only [mapErase, h, if_true] at hx
      exact ⟨(ih x hx).1, List.mem_cons_of_mem _ (ih x hx).2⟩
    · simp only [mapErase, h, if_false, List.mem_cons] at hx
      rcases hx with rfl | hx
      · exact ⟨h, by simp⟩
      · exact ⟨(ih x hx).1, List.mem_cons_of_mem _ (ih x hx).2⟩

/-- A write is read back. -/
theorem mapGet_mapSet_same [DecidableEq α] (d : α) (m : List (Nat × α)) (k : Nat) (v : α) :
    mapGet d (mapSet d m k v) k = v := by
  by_cases h : v = d
  · simp [mapSet, h, mapGet_mapErase_same]
  · simpa [mapSet, h] using mapGet_mapInsert_same d (mapErase k m) k v (fun e he => (mapErase_keys m k e he).1)

/-- A write leaves every other key, whatever an unlisted key reads as. -/
theorem mapGet_mapSet_ne [DecidableEq α] (d d' : α) (m : List (Nat × α)) {j k : Nat} (v : α) (h : j ≠ k) :
    mapGet d (mapSet d' m k v) j = mapGet d m j := by
  by_cases hv : v = d'
  · simp [mapSet, hv, mapGet_mapErase_ne d m h]
  · simp [mapSet, hv, mapGet_mapInsert_ne d _ v h, mapGet_mapErase_ne d m h]

theorem mapAbove_mem {m : List (Nat × α)} {k : Nat} (h : mapAbove k m = true) : ∀ e ∈ m, k < e.1 := by
  induction m with
  | nil => simp
  | cons x t ih =>
    obtain ⟨k', v⟩ := x
    simp only [mapAbove, Bool.and_eq_true, decide_eq_true_eq] at h
    intro e he
    rcases List.mem_cons.mp he with rfl | he
    · exact h.1
    · exact ih h.2 e he

theorem mapAbove_of_mem {m : List (Nat × α)} {k : Nat} (h : ∀ e ∈ m, k < e.1) : mapAbove k m = true := by
  induction m with
  | nil => rfl
  | cons x t ih =>
    obtain ⟨k', v⟩ := x
    simp only [mapAbove, Bool.and_eq_true, decide_eq_true_eq]
    exact ⟨h (k', v) (by simp), ih (fun e he => h e (by simp [he]))⟩

theorem mapWf_mapErase [DecidableEq α] (d : α) {m : List (Nat × α)} (k : Nat) (h : mapWf d m = true) :
    mapWf d (mapErase k m) = true := by
  induction m with
  | nil => rfl
  | cons x t ih =>
    obtain ⟨k', v⟩ := x
    simp only [mapWf, Bool.and_eq_true] at h
    by_cases hk : k' = k
    · simpa [mapErase, hk] using ih h.2
    · simp only [mapErase, hk, if_false, mapWf, Bool.and_eq_true]
      exact ⟨⟨h.1.1, mapAbove_of_mem (fun e he => mapAbove_mem h.1.2 e (mapErase_keys t k e he).2)⟩, ih h.2⟩

theorem mapInsert_mem {m : List (Nat × α)} {k : Nat} {v : α} : ∀ e ∈ mapInsert k v m, e = (k, v) ∨ e ∈ m := by
  induction m with
  | nil => simp [mapInsert]
  | cons x t ih =>
    obtain ⟨k', v'⟩ := x
    intro e he
    by_cases h : k < k'
    · simpa [mapInsert, h] using he
    · simp only [mapInsert, h, if_false, List.mem_cons] at he
      rcases he with rfl | he
      · exact Or.inr (by simp)
      · rcases ih e he with rfl | he
        · exact Or.inl rfl
        · exact Or.inr (List.mem_cons_of_mem _ he)

theorem mapWf_mapInsert [DecidableEq α] (d : α) {m : List (Nat × α)} {k : Nat} {v : α} (hv : v ≠ d)
    (hk : ∀ e ∈ m, e.1 ≠ k) (h : mapWf d m = true) : mapWf d (mapInsert k v m) = true := by
  induction m with
  | nil => simp [mapInsert, mapWf, mapAbove, hv]
  | cons x t ih =>
    obtain ⟨k', v'⟩ := x
    have hne : k' ≠ k := hk (k', v') (by simp)
    by_cases hlt : k < k'
    · have ht : mapAbove k' t = true := by
        simp only [mapWf, Bool.and_eq_true] at h; exact h.1.2
      simp only [mapInsert, hlt, if_true]
      rw [mapWf, h, mapAbove]
      simp [hv, hlt, mapAbove_of_mem (fun e he => Nat.lt_trans hlt (mapAbove_mem ht e he))]
    · simp only [mapWf, Bool.and_eq_true] at h
      simp only [mapInsert, hlt, if_false, mapWf, Bool.and_eq_true]
      refine ⟨⟨h.1.1, mapAbove_of_mem (fun e he => ?_)⟩, ih (fun e he => hk e (by simp [he])) h.2⟩
      rcases mapInsert_mem e he with rfl | he
      · exact Nat.lt_of_le_of_ne (Nat.le_of_not_lt hlt) hne
      · exact mapAbove_mem h.1.2 e he

/-- A write keeps the canonical form. -/
theorem mapWf_mapSet [DecidableEq α] (d : α) {m : List (Nat × α)} (k : Nat) (v : α) (h : mapWf d m = true) :
    mapWf d (mapSet d m k v) = true := by
  by_cases hv : v = d
  · simpa [mapSet, hv] using mapWf_mapErase d k h
  · simpa [mapSet, hv] using mapWf_mapInsert d hv (fun e he => (mapErase_keys m k e he).1) (mapWf_mapErase d k h)

end Sys2Proof.Machine
end

