-- ==== Sys2Proof/Laws/State.lean ====
section
/-!
SUPPORT. What the plain updates of the chip leave: one lemma for each field and update.
-/
namespace Sys2Proof.Machine

@[simp] theorem Chip.regs_is08X (c : Chip) (x : List (Nat × Word)) : ({ c with regs := x } : Chip).is08X = c.is08X := rfl
@[simp] theorem Chip.regs_mgrSel (c : Chip) (x : List (Nat × Word)) : ({ c with regs := x } : Chip).mgrSel = c.mgrSel := rfl
@[simp] theorem Chip.regs_deviceNo (c : Chip) (x : List (Nat × Word)) : ({ c with regs := x } : Chip).deviceNo = c.deviceNo := rfl
@[simp] theorem Chip.regs_ns (c : Chip) (x : List (Nat × Word)) : ({ c with regs := x } : Chip).ns = c.ns := rfl
@[simp] theorem Chip.regs_fresh (c : Chip) (x : List (Nat × Word)) : ({ c with regs := x } : Chip).fresh = c.fresh := rfl
@[simp] theorem Chip.regs_resp (c : Chip) (x : List (Nat × Word)) : ({ c with regs := x } : Chip).resp = c.resp := rfl
@[simp] theorem Chip.regs_domains (c : Chip) (x : List (Nat × Word)) : ({ c with regs := x } : Chip).domains = c.domains := rfl
@[simp] theorem Chip.regs_mem (c : Chip) (x : List (Nat × Word)) : ({ c with regs := x } : Chip).mem = c.mem := rfl
@[simp] theorem Chip.regs_ecc (c : Chip) (x : List (Nat × Word)) : ({ c with regs := x } : Chip).ecc = c.ecc := rfl
@[simp] theorem Chip.regs_lines (c : Chip) (x : List (Nat × Word)) : ({ c with regs := x } : Chip).lines = c.lines := rfl
@[simp] theorem Chip.regs_hostUp (c : Chip) (x : List (Nat × Word)) : ({ c with regs := x } : Chip).hostUp = c.hostUp := rfl
@[simp] theorem Chip.regs_msix (c : Chip) (x : List (Nat × Word)) : ({ c with regs := x } : Chip).msix = c.msix := rfl
@[simp] theorem Chip.regs_tiles (c : Chip) (x : List (Nat × Word)) : ({ c with regs := x } : Chip).tiles = c.tiles := rfl
@[simp] theorem Chip.regs_seq (c : Chip) (x : List (Nat × Word)) : ({ c with regs := x } : Chip).seq = c.seq := rfl
@[simp] theorem Chip.regs_grn (c : Chip) (x : List (Nat × Word)) : ({ c with regs := x } : Chip).grn = c.grn := rfl
@[simp] theorem Chip.regs_trace (c : Chip) (x : List (Nat × Word)) : ({ c with regs := x } : Chip).trace = c.trace := rfl
@[simp] theorem Chip.regs_time (c : Chip) (x : List (Nat × Word)) : ({ c with regs := x } : Chip).time = c.time := rfl
@[simp] theorem Chip.regs_od (c : Chip) (x : List (Nat × Word)) : ({ c with regs := x } : Chip).od = c.od := rfl
@[simp] theorem Chip.regs_pow (c : Chip) (x : List (Nat × Word)) : ({ c with regs := x } : Chip).pow = c.pow := rfl
@[simp] theorem Chip.regs_dram (c : Chip) (x : List (Nat × Word)) : ({ c with regs := x } : Chip).dram = c.dram := rfl
@[simp] theorem Chip.regs_cap (c : Chip) (x : List (Nat × Word)) : ({ c with regs := x } : Chip).cap = c.cap := rfl
@[simp] theorem Chip.regs_pkr (c : Chip) (x : List (Nat × Word)) : ({ c with regs := x } : Chip).pkr = c.pkr := rfl
@[simp] theorem Chip.regs_ev (c : Chip) (x : List (Nat × Word)) : ({ c with regs := x } : Chip).ev = c.ev := rfl
@[simp] theorem Chip.regs_su (c : Chip) (x : List (Nat × Word)) : ({ c with regs := x } : Chip).su = c.su := rfl
@[simp] theorem Chip.regs_xspi (c : Chip) (x : List (Nat × Word)) : ({ c with regs := x } : Chip).xspi = c.xspi := rfl
@[simp] theorem Chip.regs_silo (c : Chip) (x : List (Nat × Word)) : ({ c with regs := x } : Chip).silo = c.silo := rfl
@[simp] theorem Chip.regs_life (c : Chip) (x : List (Nat × Word)) : ({ c with regs := x } : Chip).life = c.life := rfl
@[simp] theorem Chip.regs_sw (c : Chip) (x : List (Nat × Word)) : ({ c with regs := x } : Chip).sw = c.sw := rfl
@[simp] theorem Chip.regs_host (c : Chip) (x : List (Nat × Word)) : ({ c with regs := x } : Chip).host = c.host := rfl
@[simp] theorem Chip.regs_eth (c : Chip) (x : List (Nat × Word)) : ({ c with regs := x } : Chip).eth = c.eth := rfl
@[simp] theorem Chip.regs_weave (c : Chip) (x : List (Nat × Word)) : ({ c with regs := x } : Chip).weave = c.weave := rfl
@[simp] theorem Chip.regs_dbg (c : Chip) (x : List (Nat × Word)) : ({ c with regs := x } : Chip).dbg = c.dbg := rfl
@[simp] theorem Chip.regs_wdt (c : Chip) (x : List (Nat × Word)) : ({ c with regs := x } : Chip).wdt = c.wdt := rfl
@[simp] theorem Chip.regs_noc (c : Chip) (x : List (Nat × Word)) : ({ c with regs := x } : Chip).noc = c.noc := rfl
@[simp] theorem Chip.regs_core (c : Chip) (x : List (Nat × Word)) : ({ c with regs := x } : Chip).core = c.core := rfl
@[simp] theorem Chip.regs_spin (c : Chip) (x : List (Nat × Word)) : ({ c with regs := x } : Chip).spin = c.spin := rfl
@[simp] theorem Chip.regs_can (c : Chip) (x : List (Nat × Word)) : ({ c with regs := x } : Chip).can = c.can := rfl

@[simp] theorem Chip.resp_is08X (c : Chip) (x : Resp) : ({ c with resp := x } : Chip).is08X = c.is08X := rfl
@[simp] theorem Chip.resp_mgrSel (c : Chip) (x : Resp) : ({ c with resp := x } : Chip).mgrSel = c.mgrSel := rfl
@[simp] theorem Chip.resp_deviceNo (c : Chip) (x : Resp) : ({ c with resp := x } : Chip).deviceNo = c.deviceNo := rfl
@[simp] theorem Chip.resp_ns (c : Chip) (x : Resp) : ({ c with resp := x } : Chip).ns = c.ns := rfl
@[simp] theorem Chip.resp_fresh (c : Chip) (x : Resp) : ({ c with resp := x } : Chip).fresh = c.fresh := rfl
@[simp] theorem Chip.resp_domains (c : Chip) (x : Resp) : ({ c with resp := x } : Chip).domains = c.domains := rfl
@[simp] theorem Chip.resp_mem (c : Chip) (x : Resp) : ({ c with resp := x } : Chip).mem = c.mem := rfl
@[simp] theorem Chip.resp_ecc (c : Chip) (x : Resp) : ({ c with resp := x } : Chip).ecc = c.ecc := rfl
@[simp] theorem Chip.resp_regs (c : Chip) (x : Resp) : ({ c with resp := x } : Chip).regs = c.regs := rfl
@[simp] theorem Chip.resp_lines (c : Chip) (x : Resp) : ({ c with resp := x } : Chip).lines = c.lines := rfl
@[simp] theorem Chip.resp_hostUp (c : Chip) (x : Resp) : ({ c with resp := x } : Chip).hostUp = c.hostUp := rfl
@[simp] theorem Chip.resp_msix (c : Chip) (x : Resp) : ({ c with resp := x } : Chip).msix = c.msix := rfl
@[simp] theorem Chip.resp_tiles (c : Chip) (x : Resp) : ({ c with resp := x } : Chip).tiles = c.tiles := rfl
@[simp] theorem Chip.resp_seq (c : Chip) (x : Resp) : ({ c with resp := x } : Chip).seq = c.seq := rfl
@[simp] theorem Chip.resp_grn (c : Chip) (x : Resp) : ({ c with resp := x } : Chip).grn = c.grn := rfl
@[simp] theorem Chip.resp_trace (c : Chip) (x : Resp) : ({ c with resp := x } : Chip).trace = c.trace := rfl
@[simp] theorem Chip.resp_time (c : Chip) (x : Resp) : ({ c with resp := x } : Chip).time = c.time := rfl
@[simp] theorem Chip.resp_od (c : Chip) (x : Resp) : ({ c with resp := x } : Chip).od = c.od := rfl
@[simp] theorem Chip.resp_pow (c : Chip) (x : Resp) : ({ c with resp := x } : Chip).pow = c.pow := rfl
@[simp] theorem Chip.resp_dram (c : Chip) (x : Resp) : ({ c with resp := x } : Chip).dram = c.dram := rfl
@[simp] theorem Chip.resp_cap (c : Chip) (x : Resp) : ({ c with resp := x } : Chip).cap = c.cap := rfl
@[simp] theorem Chip.resp_pkr (c : Chip) (x : Resp) : ({ c with resp := x } : Chip).pkr = c.pkr := rfl
@[simp] theorem Chip.resp_ev (c : Chip) (x : Resp) : ({ c with resp := x } : Chip).ev = c.ev := rfl
@[simp] theorem Chip.resp_su (c : Chip) (x : Resp) : ({ c with resp := x } : Chip).su = c.su := rfl
@[simp] theorem Chip.resp_xspi (c : Chip) (x : Resp) : ({ c with resp := x } : Chip).xspi = c.xspi := rfl
@[simp] theorem Chip.resp_silo (c : Chip) (x : Resp) : ({ c with resp := x } : Chip).silo = c.silo := rfl
@[simp] theorem Chip.resp_life (c : Chip) (x : Resp) : ({ c with resp := x } : Chip).life = c.life := rfl
@[simp] theorem Chip.resp_sw (c : Chip) (x : Resp) : ({ c with resp := x } : Chip).sw = c.sw := rfl
@[simp] theorem Chip.resp_host (c : Chip) (x : Resp) : ({ c with resp := x } : Chip).host = c.host := rfl
@[simp] theorem Chip.resp_eth (c : Chip) (x : Resp) : ({ c with resp := x } : Chip).eth = c.eth := rfl
@[simp] theorem Chip.resp_weave (c : Chip) (x : Resp) : ({ c with resp := x } : Chip).weave = c.weave := rfl
@[simp] theorem Chip.resp_dbg (c : Chip) (x : Resp) : ({ c with resp := x } : Chip).dbg = c.dbg := rfl
@[simp] theorem Chip.resp_wdt (c : Chip) (x : Resp) : ({ c with resp := x } : Chip).wdt = c.wdt := rfl
@[simp] theorem Chip.resp_noc (c : Chip) (x : Resp) : ({ c with resp := x } : Chip).noc = c.noc := rfl
@[simp] theorem Chip.resp_core (c : Chip) (x : Resp) : ({ c with resp := x } : Chip).core = c.core := rfl
@[simp] theorem Chip.resp_spin (c : Chip) (x : Resp) : ({ c with resp := x } : Chip).spin = c.spin := rfl
@[simp] theorem Chip.resp_can (c : Chip) (x : Resp) : ({ c with resp := x } : Chip).can = c.can := rfl

@[simp] theorem Chip.mem_is08X (c : Chip) (x : List Host.Cell) : ({ c with mem := x } : Chip).is08X = c.is08X := rfl
@[simp] theorem Chip.mem_mgrSel (c : Chip) (x : List Host.Cell) : ({ c with mem := x } : Chip).mgrSel = c.mgrSel := rfl
@[simp] theorem Chip.mem_deviceNo (c : Chip) (x : List Host.Cell) : ({ c with mem := x } : Chip).deviceNo = c.deviceNo := rfl
@[simp] theorem Chip.mem_ns (c : Chip) (x : List Host.Cell) : ({ c with mem := x } : Chip).ns = c.ns := rfl
@[simp] theorem Chip.mem_fresh (c : Chip) (x : List Host.Cell) : ({ c with mem := x } : Chip).fresh = c.fresh := rfl
@[simp] theorem Chip.mem_resp (c : Chip) (x : List Host.Cell) : ({ c with mem := x } : Chip).resp = c.resp := rfl
@[simp] theorem Chip.mem_domains (c : Chip) (x : List Host.Cell) : ({ c with mem := x } : Chip).domains = c.domains := rfl
@[simp] theorem Chip.mem_ecc (c : Chip) (x : List Host.Cell) : ({ c with mem := x } : Chip).ecc = c.ecc := rfl
@[simp] theorem Chip.mem_regs (c : Chip) (x : List Host.Cell) : ({ c with mem := x } : Chip).regs = c.regs := rfl
@[simp] theorem Chip.mem_lines (c : Chip) (x : List Host.Cell) : ({ c with mem := x } : Chip).lines = c.lines := rfl
@[simp] theorem Chip.mem_hostUp (c : Chip) (x : List Host.Cell) : ({ c with mem := x } : Chip).hostUp = c.hostUp := rfl
@[simp] theorem Chip.mem_msix (c : Chip) (x : List Host.Cell) : ({ c with mem := x } : Chip).msix = c.msix := rfl
@[simp] theorem Chip.mem_tiles (c : Chip) (x : List Host.Cell) : ({ c with mem := x } : Chip).tiles = c.tiles := rfl
@[simp] theorem Chip.mem_seq (c : Chip) (x : List Host.Cell) : ({ c with mem := x } : Chip).seq = c.seq := rfl
@[simp] theorem Chip.mem_grn (c : Chip) (x : List Host.Cell) : ({ c with mem := x } : Chip).grn = c.grn := rfl
@[simp] theorem Chip.mem_trace (c : Chip) (x : List Host.Cell) : ({ c with mem := x } : Chip).trace = c.trace := rfl
@[simp] theorem Chip.mem_time (c : Chip) (x : List Host.Cell) : ({ c with mem := x } : Chip).time = c.time := rfl
@[simp] theorem Chip.mem_od (c : Chip) (x : List Host.Cell) : ({ c with mem := x } : Chip).od = c.od := rfl
@[simp] theorem Chip.mem_pow (c : Chip) (x : List Host.Cell) : ({ c with mem := x } : Chip).pow = c.pow := rfl
@[simp] theorem Chip.mem_dram (c : Chip) (x : List Host.Cell) : ({ c with mem := x } : Chip).dram = c.dram := rfl
@[simp] theorem Chip.mem_cap (c : Chip) (x : List Host.Cell) : ({ c with mem := x } : Chip).cap = c.cap := rfl
@[simp] theorem Chip.mem_pkr (c : Chip) (x : List Host.Cell) : ({ c with mem := x } : Chip).pkr = c.pkr := rfl
@[simp] theorem Chip.mem_ev (c : Chip) (x : List Host.Cell) : ({ c with mem := x } : Chip).ev = c.ev := rfl
@[simp] theorem Chip.mem_su (c : Chip) (x : List Host.Cell) : ({ c with mem := x } : Chip).su = c.su := rfl
@[simp] theorem Chip.mem_xspi (c : Chip) (x : List Host.Cell) : ({ c with mem := x } : Chip).xspi = c.xspi := rfl
@[simp] theorem Chip.mem_silo (c : Chip) (x : List Host.Cell) : ({ c with mem := x } : Chip).silo = c.silo := rfl
@[simp] theorem Chip.mem_life (c : Chip) (x : List Host.Cell) : ({ c with mem := x } : Chip).life = c.life := rfl
@[simp] theorem Chip.mem_sw (c : Chip) (x : List Host.Cell) : ({ c with mem := x } : Chip).sw = c.sw := rfl
@[simp] theorem Chip.mem_host (c : Chip) (x : List Host.Cell) : ({ c with mem := x } : Chip).host = c.host := rfl
@[simp] theorem Chip.mem_eth (c : Chip) (x : List Host.Cell) : ({ c with mem := x } : Chip).eth = c.eth := rfl
@[simp] theorem Chip.mem_weave (c : Chip) (x : List Host.Cell) : ({ c with mem := x } : Chip).weave = c.weave := rfl
@[simp] theorem Chip.mem_dbg (c : Chip) (x : List Host.Cell) : ({ c with mem := x } : Chip).dbg = c.dbg := rfl
@[simp] theorem Chip.mem_wdt (c : Chip) (x : List Host.Cell) : ({ c with mem := x } : Chip).wdt = c.wdt := rfl
@[simp] theorem Chip.mem_noc (c : Chip) (x : List Host.Cell) : ({ c with mem := x } : Chip).noc = c.noc := rfl
@[simp] theorem Chip.mem_core (c : Chip) (x : List Host.Cell) : ({ c with mem := x } : Chip).core = c.core := rfl
@[simp] theorem Chip.mem_spin (c : Chip) (x : List Host.Cell) : ({ c with mem := x } : Chip).spin = c.spin := rfl
@[simp] theorem Chip.mem_can (c : Chip) (x : List Host.Cell) : ({ c with mem := x } : Chip).can = c.can := rfl

@[simp] theorem Chip.ecc_is08X (c : Chip) (x : List (Nat × Ecc)) : ({ c with ecc := x } : Chip).is08X = c.is08X := rfl
@[simp] theorem Chip.ecc_mgrSel (c : Chip) (x : List (Nat × Ecc)) : ({ c with ecc := x } : Chip).mgrSel = c.mgrSel := rfl
@[simp] theorem Chip.ecc_deviceNo (c : Chip) (x : List (Nat × Ecc)) : ({ c with ecc := x } : Chip).deviceNo = c.deviceNo := rfl
@[simp] theorem Chip.ecc_ns (c : Chip) (x : List (Nat × Ecc)) : ({ c with ecc := x } : Chip).ns = c.ns := rfl
@[simp] theorem Chip.ecc_fresh (c : Chip) (x : List (Nat × Ecc)) : ({ c with ecc := x } : Chip).fresh = c.fresh := rfl
@[simp] theorem Chip.ecc_resp (c : Chip) (x : List (Nat × Ecc)) : ({ c with ecc := x } : Chip).resp = c.resp := rfl
@[simp] theorem Chip.ecc_domains (c : Chip) (x : List (Nat × Ecc)) : ({ c with ecc := x } : Chip).domains = c.domains := rfl
@[simp] theorem Chip.ecc_mem (c : Chip) (x : List (Nat × Ecc)) : ({ c with ecc := x } : Chip).mem = c.mem := rfl
@[simp] theorem Chip.ecc_regs (c : Chip) (x : List (Nat × Ecc)) : ({ c with ecc := x } : Chip).regs = c.regs := rfl
@[simp] theorem Chip.ecc_lines (c : Chip) (x : List (Nat × Ecc)) : ({ c with ecc := x } : Chip).lines = c.lines := rfl
@[simp] theorem Chip.ecc_hostUp (c : Chip) (x : List (Nat × Ecc)) : ({ c with ecc := x } : Chip).hostUp = c.hostUp := rfl
@[simp] theorem Chip.ecc_msix (c : Chip) (x : List (Nat × Ecc)) : ({ c with ecc := x } : Chip).msix = c.msix := rfl
@[simp] theorem Chip.ecc_tiles (c : Chip) (x : List (Nat × Ecc)) : ({ c with ecc := x } : Chip).tiles = c.tiles := rfl
@[simp] theorem Chip.ecc_seq (c : Chip) (x : List (Nat × Ecc)) : ({ c with ecc := x } : Chip).seq = c.seq := rfl
@[simp] theorem Chip.ecc_grn (c : Chip) (x : List (Nat × Ecc)) : ({ c with ecc := x } : Chip).grn = c.grn := rfl
@[simp] theorem Chip.ecc_trace (c : Chip) (x : List (Nat × Ecc)) : ({ c with ecc := x } : Chip).trace = c.trace := rfl
@[simp] theorem Chip.ecc_time (c : Chip) (x : List (Nat × Ecc)) : ({ c with ecc := x } : Chip).time = c.time := rfl
@[simp] theorem Chip.ecc_od (c : Chip) (x : List (Nat × Ecc)) : ({ c with ecc := x } : Chip).od = c.od := rfl
@[simp] theorem Chip.ecc_pow (c : Chip) (x : List (Nat × Ecc)) : ({ c with ecc := x } : Chip).pow = c.pow := rfl
@[simp] theorem Chip.ecc_dram (c : Chip) (x : List (Nat × Ecc)) : ({ c with ecc := x } : Chip).dram = c.dram := rfl
@[simp] theorem Chip.ecc_cap (c : Chip) (x : List (Nat × Ecc)) : ({ c with ecc := x } : Chip).cap = c.cap := rfl
@[simp] theorem Chip.ecc_pkr (c : Chip) (x : List (Nat × Ecc)) : ({ c with ecc := x } : Chip).pkr = c.pkr := rfl
@[simp] theorem Chip.ecc_ev (c : Chip) (x : List (Nat × Ecc)) : ({ c with ecc := x } : Chip).ev = c.ev := rfl
@[simp] theorem Chip.ecc_su (c : Chip) (x : List (Nat × Ecc)) : ({ c with ecc := x } : Chip).su = c.su := rfl
@[simp] theorem Chip.ecc_xspi (c : Chip) (x : List (Nat × Ecc)) : ({ c with ecc := x } : Chip).xspi = c.xspi := rfl
@[simp] theorem Chip.ecc_silo (c : Chip) (x : List (Nat × Ecc)) : ({ c with ecc := x } : Chip).silo = c.silo := rfl
@[simp] theorem Chip.ecc_life (c : Chip) (x : List (Nat × Ecc)) : ({ c with ecc := x } : Chip).life = c.life := rfl
@[simp] theorem Chip.ecc_sw (c : Chip) (x : List (Nat × Ecc)) : ({ c with ecc := x } : Chip).sw = c.sw := rfl
@[simp] theorem Chip.ecc_host (c : Chip) (x : List (Nat × Ecc)) : ({ c with ecc := x } : Chip).host = c.host := rfl
@[simp] theorem Chip.ecc_eth (c : Chip) (x : List (Nat × Ecc)) : ({ c with ecc := x } : Chip).eth = c.eth := rfl
@[simp] theorem Chip.ecc_weave (c : Chip) (x : List (Nat × Ecc)) : ({ c with ecc := x } : Chip).weave = c.weave := rfl
@[simp] theorem Chip.ecc_dbg (c : Chip) (x : List (Nat × Ecc)) : ({ c with ecc := x } : Chip).dbg = c.dbg := rfl
@[simp] theorem Chip.ecc_wdt (c : Chip) (x : List (Nat × Ecc)) : ({ c with ecc := x } : Chip).wdt = c.wdt := rfl
@[simp] theorem Chip.ecc_noc (c : Chip) (x : List (Nat × Ecc)) : ({ c with ecc := x } : Chip).noc = c.noc := rfl
@[simp] theorem Chip.ecc_core (c : Chip) (x : List (Nat × Ecc)) : ({ c with ecc := x } : Chip).core = c.core := rfl
@[simp] theorem Chip.ecc_spin (c : Chip) (x : List (Nat × Ecc)) : ({ c with ecc := x } : Chip).spin = c.spin := rfl
@[simp] theorem Chip.ecc_can (c : Chip) (x : List (Nat × Ecc)) : ({ c with ecc := x } : Chip).can = c.can := rfl

@[simp] theorem Chip.trace_is08X (c : Chip) (x : Trace) : ({ c with trace := x } : Chip).is08X = c.is08X := rfl
@[simp] theorem Chip.trace_mgrSel (c : Chip) (x : Trace) : ({ c with trace := x } : Chip).mgrSel = c.mgrSel := rfl
@[simp] theorem Chip.trace_deviceNo (c : Chip) (x : Trace) : ({ c with trace := x } : Chip).deviceNo = c.deviceNo := rfl
@[simp] theorem Chip.trace_ns (c : Chip) (x : Trace) : ({ c with trace := x } : Chip).ns = c.ns := rfl
@[simp] theorem Chip.trace_fresh (c : Chip) (x : Trace) : ({ c with trace := x } : Chip).fresh = c.fresh := rfl
@[simp] theorem Chip.trace_resp (c : Chip) (x : Trace) : ({ c with trace := x } : Chip).resp = c.resp := rfl
@[simp] theorem Chip.trace_domains (c : Chip) (x : Trace) : ({ c with trace := x } : Chip).domains = c.domains := rfl
@[simp] theorem Chip.trace_mem (c : Chip) (x : Trace) : ({ c with trace := x } : Chip).mem = c.mem := rfl
@[simp] theorem Chip.trace_ecc (c : Chip) (x : Trace) : ({ c with trace := x } : Chip).ecc = c.ecc := rfl
@[simp] theorem Chip.trace_regs (c : Chip) (x : Trace) : ({ c with trace := x } : Chip).regs = c.regs := rfl
@[simp] theorem Chip.trace_lines (c : Chip) (x : Trace) : ({ c with trace := x } : Chip).lines = c.lines := rfl
@[simp] theorem Chip.trace_hostUp (c : Chip) (x : Trace) : ({ c with trace := x } : Chip).hostUp = c.hostUp := rfl
@[simp] theorem Chip.trace_msix (c : Chip) (x : Trace) : ({ c with trace := x } : Chip).msix = c.msix := rfl
@[simp] theorem Chip.trace_tiles (c : Chip) (x : Trace) : ({ c with trace := x } : Chip).tiles = c.tiles := rfl
@[simp] theorem Chip.trace_seq (c : Chip) (x : Trace) : ({ c with trace := x } : Chip).seq = c.seq := rfl
@[simp] theorem Chip.trace_grn (c : Chip) (x : Trace) : ({ c with trace := x } : Chip).grn = c.grn := rfl
@[simp] theorem Chip.trace_time (c : Chip) (x : Trace) : ({ c with trace := x } : Chip).time = c.time := rfl
@[simp] theorem Chip.trace_od (c : Chip) (x : Trace) : ({ c with trace := x } : Chip).od = c.od := rfl
@[simp] theorem Chip.trace_pow (c : Chip) (x : Trace) : ({ c with trace := x } : Chip).pow = c.pow := rfl
@[simp] theorem Chip.trace_dram (c : Chip) (x : Trace) : ({ c with trace := x } : Chip).dram = c.dram := rfl
@[simp] theorem Chip.trace_cap (c : Chip) (x : Trace) : ({ c with trace := x } : Chip).cap = c.cap := rfl
@[simp] theorem Chip.trace_pkr (c : Chip) (x : Trace) : ({ c with trace := x } : Chip).pkr = c.pkr := rfl
@[simp] theorem Chip.trace_ev (c : Chip) (x : Trace) : ({ c with trace := x } : Chip).ev = c.ev := rfl
@[simp] theorem Chip.trace_su (c : Chip) (x : Trace) : ({ c with trace := x } : Chip).su = c.su := rfl
@[simp] theorem Chip.trace_xspi (c : Chip) (x : Trace) : ({ c with trace := x } : Chip).xspi = c.xspi := rfl
@[simp] theorem Chip.trace_silo (c : Chip) (x : Trace) : ({ c with trace := x } : Chip).silo = c.silo := rfl
@[simp] theorem Chip.trace_life (c : Chip) (x : Trace) : ({ c with trace := x } : Chip).life = c.life := rfl
@[simp] theorem Chip.trace_sw (c : Chip) (x : Trace) : ({ c with trace := x } : Chip).sw = c.sw := rfl
@[simp] theorem Chip.trace_host (c : Chip) (x : Trace) : ({ c with trace := x } : Chip).host = c.host := rfl
@[simp] theorem Chip.trace_eth (c : Chip) (x : Trace) : ({ c with trace := x } : Chip).eth = c.eth := rfl
@[simp] theorem Chip.trace_weave (c : Chip) (x : Trace) : ({ c with trace := x } : Chip).weave = c.weave := rfl
@[simp] theorem Chip.trace_dbg (c : Chip) (x : Trace) : ({ c with trace := x } : Chip).dbg = c.dbg := rfl
@[simp] theorem Chip.trace_wdt (c : Chip) (x : Trace) : ({ c with trace := x } : Chip).wdt = c.wdt := rfl
@[simp] theorem Chip.trace_noc (c : Chip) (x : Trace) : ({ c with trace := x } : Chip).noc = c.noc := rfl
@[simp] theorem Chip.trace_core (c : Chip) (x : Trace) : ({ c with trace := x } : Chip).core = c.core := rfl
@[simp] theorem Chip.trace_spin (c : Chip) (x : Trace) : ({ c with trace := x } : Chip).spin = c.spin := rfl
@[simp] theorem Chip.trace_can (c : Chip) (x : Trace) : ({ c with trace := x } : Chip).can = c.can := rfl

@[simp] theorem Chip.domains_is08X (c : Chip) (x : List Domain) : ({ c with domains := x } : Chip).is08X = c.is08X := rfl
@[simp] theorem Chip.domains_mgrSel (c : Chip) (x : List Domain) : ({ c with domains := x } : Chip).mgrSel = c.mgrSel := rfl
@[simp] theorem Chip.domains_deviceNo (c : Chip) (x : List Domain) : ({ c with domains := x } : Chip).deviceNo = c.deviceNo := rfl
@[simp] theorem Chip.domains_ns (c : Chip) (x : List Domain) : ({ c with domains := x } : Chip).ns = c.ns := rfl
@[simp] theorem Chip.domains_fresh (c : Chip) (x : List Domain) : ({ c with domains := x } : Chip).fresh = c.fresh := rfl
@[simp] theorem Chip.domains_resp (c : Chip) (x : List Domain) : ({ c with domains := x } : Chip).resp = c.resp := rfl
@[simp] theorem Chip.domains_mem (c : Chip) (x : List Domain) : ({ c with domains := x } : Chip).mem = c.mem := rfl
@[simp] theorem Chip.domains_ecc (c : Chip) (x : List Domain) : ({ c with domains := x } : Chip).ecc = c.ecc := rfl
@[simp] theorem Chip.domains_regs (c : Chip) (x : List Domain) : ({ c with domains := x } : Chip).regs = c.regs := rfl
@[simp] theorem Chip.domains_lines (c : Chip) (x : List Domain) : ({ c with domains := x } : Chip).lines = c.lines := rfl
@[simp] theorem Chip.domains_hostUp (c : Chip) (x : List Domain) : ({ c with domains := x } : Chip).hostUp = c.hostUp := rfl
@[simp] theorem Chip.domains_msix (c : Chip) (x : List Domain) : ({ c with domains := x } : Chip).msix = c.msix := rfl
@[simp] theorem Chip.domains_tiles (c : Chip) (x : List Domain) : ({ c with domains := x } : Chip).tiles = c.tiles := rfl
@[simp] theorem Chip.domains_seq (c : Chip) (x : List Domain) : ({ c with domains := x } : Chip).seq = c.seq := rfl
@[simp] theorem Chip.domains_grn (c : Chip) (x : List Domain) : ({ c with domains := x } : Chip).grn = c.grn := rfl
@[simp] theorem Chip.domains_trace (c : Chip) (x : List Domain) : ({ c with domains := x } : Chip).trace = c.trace := rfl
@[simp] theorem Chip.domains_time (c : Chip) (x : List Domain) : ({ c with domains := x } : Chip).time = c.time := rfl
@[simp] theorem Chip.domains_od (c : Chip) (x : List Domain) : ({ c with domains := x } : Chip).od = c.od := rfl
@[simp] theorem Chip.domains_pow (c : Chip) (x : List Domain) : ({ c with domains := x } : Chip).pow = c.pow := rfl
@[simp] theorem Chip.domains_dram (c : Chip) (x : List Domain) : ({ c with domains := x } : Chip).dram = c.dram := rfl
@[simp] theorem Chip.domains_cap (c : Chip) (x : List Domain) : ({ c with domains := x } : Chip).cap = c.cap := rfl
@[simp] theorem Chip.domains_pkr (c : Chip) (x : List Domain) : ({ c with domains := x } : Chip).pkr = c.pkr := rfl
@[simp] theorem Chip.domains_ev (c : Chip) (x : List Domain) : ({ c with domains := x } : Chip).ev = c.ev := rfl
@[simp] theorem Chip.domains_su (c : Chip) (x : List Domain) : ({ c with domains := x } : Chip).su = c.su := rfl
@[simp] theorem Chip.domains_xspi (c : Chip) (x : List Domain) : ({ c with domains := x } : Chip).xspi = c.xspi := rfl
@[simp] theorem Chip.domains_silo (c : Chip) (x : List Domain) : ({ c with domains := x } : Chip).silo = c.silo := rfl
@[simp] theorem Chip.domains_life (c : Chip) (x : List Domain) : ({ c with domains := x } : Chip).life = c.life := rfl
@[simp] theorem Chip.domains_sw (c : Chip) (x : List Domain) : ({ c with domains := x } : Chip).sw = c.sw := rfl
@[simp] theorem Chip.domains_host (c : Chip) (x : List Domain) : ({ c with domains := x } : Chip).host = c.host := rfl
@[simp] theorem Chip.domains_eth (c : Chip) (x : List Domain) : ({ c with domains := x } : Chip).eth = c.eth := rfl
@[simp] theorem Chip.domains_weave (c : Chip) (x : List Domain) : ({ c with domains := x } : Chip).weave = c.weave := rfl
@[simp] theorem Chip.domains_dbg (c : Chip) (x : List Domain) : ({ c with domains := x } : Chip).dbg = c.dbg := rfl
@[simp] theorem Chip.domains_wdt (c : Chip) (x : List Domain) : ({ c with domains := x } : Chip).wdt = c.wdt := rfl
@[simp] theorem Chip.domains_noc (c : Chip) (x : List Domain) : ({ c with domains := x } : Chip).noc = c.noc := rfl
@[simp] theorem Chip.domains_core (c : Chip) (x : List Domain) : ({ c with domains := x } : Chip).core = c.core := rfl
@[simp] theorem Chip.domains_spin (c : Chip) (x : List Domain) : ({ c with domains := x } : Chip).spin = c.spin := rfl
@[simp] theorem Chip.domains_can (c : Chip) (x : List Domain) : ({ c with domains := x } : Chip).can = c.can := rfl

@[simp] theorem Chip.core_is08X (c : Chip) (x : Core) : ({ c with core := x } : Chip).is08X = c.is08X := rfl
@[simp] theorem Chip.core_mgrSel (c : Chip) (x : Core) : ({ c with core := x } : Chip).mgrSel = c.mgrSel := rfl
@[simp] theorem Chip.core_deviceNo (c : Chip) (x : Core) : ({ c with core := x } : Chip).deviceNo = c.deviceNo := rfl
@[simp] theorem Chip.core_ns (c : Chip) (x : Core) : ({ c with core := x } : Chip).ns = c.ns := rfl
@[simp] theorem Chip.core_fresh (c : Chip) (x : Core) : ({ c with core := x } : Chip).fresh = c.fresh := rfl
@[simp] theorem Chip.core_resp (c : Chip) (x : Core) : ({ c with core := x } : Chip).resp = c.resp := rfl
@[simp] theorem Chip.core_domains (c : Chip) (x : Core) : ({ c with core := x } : Chip).domains = c.domains := rfl
@[simp] theorem Chip.core_mem (c : Chip) (x : Core) : ({ c with core := x } : Chip).mem = c.mem := rfl
@[simp] theorem Chip.core_ecc (c : Chip) (x : Core) : ({ c with core := x } : Chip).ecc = c.ecc := rfl
@[simp] theorem Chip.core_regs (c : Chip) (x : Core) : ({ c with core := x } : Chip).regs = c.regs := rfl
@[simp] theorem Chip.core_lines (c : Chip) (x : Core) : ({ c with core := x } : Chip).lines = c.lines := rfl
@[simp] theorem Chip.core_hostUp (c : Chip) (x : Core) : ({ c with core := x } : Chip).hostUp = c.hostUp := rfl
@[simp] theorem Chip.core_msix (c : Chip) (x : Core) : ({ c with core := x } : Chip).msix = c.msix := rfl
@[simp] theorem Chip.core_tiles (c : Chip) (x : Core) : ({ c with core := x } : Chip).tiles = c.tiles := rfl
@[simp] theorem Chip.core_seq (c : Chip) (x : Core) : ({ c with core := x } : Chip).seq = c.seq := rfl
@[simp] theorem Chip.core_grn (c : Chip) (x : Core) : ({ c with core := x } : Chip).grn = c.grn := rfl
@[simp] theorem Chip.core_trace (c : Chip) (x : Core) : ({ c with core := x } : Chip).trace = c.trace := rfl
@[simp] theorem Chip.core_time (c : Chip) (x : Core) : ({ c with core := x } : Chip).time = c.time := rfl
@[simp] theorem Chip.core_od (c : Chip) (x : Core) : ({ c with core := x } : Chip).od = c.od := rfl
@[simp] theorem Chip.core_pow (c : Chip) (x : Core) : ({ c with core := x } : Chip).pow = c.pow := rfl
@[simp] theorem Chip.core_dram (c : Chip) (x : Core) : ({ c with core := x } : Chip).dram = c.dram := rfl
@[simp] theorem Chip.core_cap (c : Chip) (x : Core) : ({ c with core := x } : Chip).cap = c.cap := rfl
@[simp] theorem Chip.core_pkr (c : Chip) (x : Core) : ({ c with core := x } : Chip).pkr = c.pkr := rfl
@[simp] theorem Chip.core_ev (c : Chip) (x : Core) : ({ c with core := x } : Chip).ev = c.ev := rfl
@[simp] theorem Chip.core_su (c : Chip) (x : Core) : ({ c with core := x } : Chip).su = c.su := rfl
@[simp] theorem Chip.core_xspi (c : Chip) (x : Core) : ({ c with core := x } : Chip).xspi = c.xspi := rfl
@[simp] theorem Chip.core_silo (c : Chip) (x : Core) : ({ c with core := x } : Chip).silo = c.silo := rfl
@[simp] theorem Chip.core_life (c : Chip) (x : Core) : ({ c with core := x } : Chip).life = c.life := rfl
@[simp] theorem Chip.core_sw (c : Chip) (x : Core) : ({ c with core := x } : Chip).sw = c.sw := rfl
@[simp] theorem Chip.core_host (c : Chip) (x : Core) : ({ c with core := x } : Chip).host = c.host := rfl
@[simp] theorem Chip.core_eth (c : Chip) (x : Core) : ({ c with core := x } : Chip).eth = c.eth := rfl
@[simp] theorem Chip.core_weave (c : Chip) (x : Core) : ({ c with core := x } : Chip).weave = c.weave := rfl
@[simp] theorem Chip.core_dbg (c : Chip) (x : Core) : ({ c with core := x } : Chip).dbg = c.dbg := rfl
@[simp] theorem Chip.core_wdt (c : Chip) (x : Core) : ({ c with core := x } : Chip).wdt = c.wdt := rfl
@[simp] theorem Chip.core_noc (c : Chip) (x : Core) : ({ c with core := x } : Chip).noc = c.noc := rfl
@[simp] theorem Chip.core_spin (c : Chip) (x : Core) : ({ c with core := x } : Chip).spin = c.spin := rfl
@[simp] theorem Chip.core_can (c : Chip) (x : Core) : ({ c with core := x } : Chip).can = c.can := rfl

@[simp] theorem setReg_is08X (c : Chip) (a : Nat) (v : Word) : (c.setReg a v).is08X = c.is08X := Chip.regs_is08X c _
@[simp] theorem setReg_mgrSel (c : Chip) (a : Nat) (v : Word) : (c.setReg a v).mgrSel = c.mgrSel := Chip.regs_mgrSel c _
@[simp] theorem setReg_deviceNo (c : Chip) (a : Nat) (v : Word) : (c.setReg a v).deviceNo = c.deviceNo := Chip.regs_deviceNo c _
@[simp] theorem setReg_ns (c : Chip) (a : Nat) (v : Word) : (c.setReg a v).ns = c.ns := Chip.regs_ns c _
@[simp] theorem setReg_fresh (c : Chip) (a : Nat) (v : Word) : (c.setReg a v).fresh = c.fresh := Chip.regs_fresh c _
@[simp] theorem setReg_resp (c : Chip) (a : Nat) (v : Word) : (c.setReg a v).resp = c.resp := Chip.regs_resp c _
@[simp] theorem setReg_domains (c : Chip) (a : Nat) (v : Word) : (c.setReg a v).domains = c.domains := Chip.regs_domains c _
@[simp] theorem setReg_mem (c : Chip) (a : Nat) (v : Word) : (c.setReg a v).mem = c.mem := Chip.regs_mem c _
@[simp] theorem setReg_ecc (c : Chip) (a : Nat) (v : Word) : (c.setReg a v).ecc = c.ecc := Chip.regs_ecc c _
@[simp] theorem setReg_lines (c : Chip) (a : Nat) (v : Word) : (c.setReg a v).lines = c.lines := Chip.regs_lines c _
@[simp] theorem setReg_hostUp (c : Chip) (a : Nat) (v : Word) : (c.setReg a v).hostUp = c.hostUp := Chip.regs_hostUp c _
@[simp] theorem setReg_msix (c : Chip) (a : Nat) (v : Word) : (c.setReg a v).msix = c.msix := Chip.regs_msix c _
@[simp] theorem setReg_tiles (c : Chip) (a : Nat) (v : Word) : (c.setReg a v).tiles = c.tiles := Chip.regs_tiles c _
@[simp] theorem setReg_seq (c : Chip) (a : Nat) (v : Word) : (c.setReg a v).seq = c.seq := Chip.regs_seq c _
@[simp] theorem setReg_grn (c : Chip) (a : Nat) (v : Word) : (c.setReg a v).grn = c.grn := Chip.regs_grn c _
@[simp] theorem setReg_trace (c : Chip) (a : Nat) (v : Word) : (c.setReg a v).trace = c.trace := Chip.regs_trace c _
@[simp] theorem setReg_time (c : Chip) (a : Nat) (v : Word) : (c.setReg a v).time = c.time := Chip.regs_time c _
@[simp] theorem setReg_od (c : Chip) (a : Nat) (v : Word) : (c.setReg a v).od = c.od := Chip.regs_od c _
@[simp] theorem setReg_pow (c : Chip) (a : Nat) (v : Word) : (c.setReg a v).pow = c.pow := Chip.regs_pow c _
@[simp] theorem setReg_dram (c : Chip) (a : Nat) (v : Word) : (c.setReg a v).dram = c.dram := Chip.regs_dram c _
@[simp] theorem setReg_cap (c : Chip) (a : Nat) (v : Word) : (c.setReg a v).cap = c.cap := Chip.regs_cap c _
@[simp] theorem setReg_pkr (c : Chip) (a : Nat) (v : Word) : (c.setReg a v).pkr = c.pkr := Chip.regs_pkr c _
@[simp] theorem setReg_ev (c : Chip) (a : Nat) (v : Word) : (c.setReg a v).ev = c.ev := Chip.regs_ev c _
@[simp] theorem setReg_su (c : Chip) (a : Nat) (v : Word) : (c.setReg a v).su = c.su := Chip.regs_su c _
@[simp] theorem setReg_xspi (c : Chip) (a : Nat) (v : Word) : (c.setReg a v).xspi = c.xspi := Chip.regs_xspi c _
@[simp] theorem setReg_silo (c : Chip) (a : Nat) (v : Word) : (c.setReg a v).silo = c.silo := Chip.regs_silo c _
@[simp] theorem setReg_life (c : Chip) (a : Nat) (v : Word) : (c.setReg a v).life = c.life := Chip.regs_life c _
@[simp] theorem setReg_sw (c : Chip) (a : Nat) (v : Word) : (c.setReg a v).sw = c.sw := Chip.regs_sw c _
@[simp] theorem setReg_host (c : Chip) (a : Nat) (v : Word) : (c.setReg a v).host = c.host := Chip.regs_host c _
@[simp] theorem setReg_eth (c : Chip) (a : Nat) (v : Word) : (c.setReg a v).eth = c.eth := Chip.regs_eth c _
@[simp] theorem setReg_weave (c : Chip) (a : Nat) (v : Word) : (c.setReg a v).weave = c.weave := Chip.regs_weave c _
@[simp] theorem setReg_dbg (c : Chip) (a : Nat) (v : Word) : (c.setReg a v).dbg = c.dbg := Chip.regs_dbg c _
@[simp] theorem setReg_wdt (c : Chip) (a : Nat) (v : Word) : (c.setReg a v).wdt = c.wdt := Chip.regs_wdt c _
@[simp] theorem setReg_noc (c : Chip) (a : Nat) (v : Word) : (c.setReg a v).noc = c.noc := Chip.regs_noc c _
@[simp] theorem setReg_core (c : Chip) (a : Nat) (v : Word) : (c.setReg a v).core = c.core := Chip.regs_core c _
@[simp] theorem setReg_spin (c : Chip) (a : Nat) (v : Word) : (c.setReg a v).spin = c.spin := Chip.regs_spin c _
@[simp] theorem setReg_can (c : Chip) (a : Nat) (v : Word) : (c.setReg a v).can = c.can := Chip.regs_can c _

@[simp] theorem setFld_is08X (c : Chip) (a hi lo v : Nat) : (c.setFld a hi lo v).is08X = c.is08X := setReg_is08X c _ _
@[simp] theorem setFld_mgrSel (c : Chip) (a hi lo v : Nat) : (c.setFld a hi lo v).mgrSel = c.mgrSel := setReg_mgrSel c _ _
@[simp] theorem setFld_deviceNo (c : Chip) (a hi lo v : Nat) : (c.setFld a hi lo v).deviceNo = c.deviceNo := setReg_deviceNo c _ _
@[simp] theorem setFld_ns (c : Chip) (a hi lo v : Nat) : (c.setFld a hi lo v).ns = c.ns := setReg_ns c _ _
@[simp] theorem setFld_fresh (c : Chip) (a hi lo v : Nat) : (c.setFld a hi lo v).fresh = c.fresh := setReg_fresh c _ _
@[simp] theorem setFld_resp (c : Chip) (a hi lo v : Nat) : (c.setFld a hi lo v).resp = c.resp := setReg_resp c _ _
@[simp] theorem setFld_domains (c : Chip) (a hi lo v : Nat) : (c.setFld a hi lo v).domains = c.domains := setReg_domains c _ _
@[simp] theorem setFld_mem (c : Chip) (a hi lo v : Nat) : (c.setFld a hi lo v).mem = c.mem := setReg_mem c _ _
@[simp] theorem setFld_ecc (c : Chip) (a hi lo v : Nat) : (c.setFld a hi lo v).ecc = c.ecc := setReg_ecc c _ _
@[simp] theorem setFld_lines (c : Chip) (a hi lo v : Nat) : (c.setFld a hi lo v).lines = c.lines := setReg_lines c _ _
@[simp] theorem setFld_hostUp (c : Chip) (a hi lo v : Nat) : (c.setFld a hi lo v).hostUp = c.hostUp := setReg_hostUp c _ _
@[simp] theorem setFld_msix (c : Chip) (a hi lo v : Nat) : (c.setFld a hi lo v).msix = c.msix := setReg_msix c _ _
@[simp] theorem setFld_tiles (c : Chip) (a hi lo v : Nat) : (c.setFld a hi lo v).tiles = c.tiles := setReg_tiles c _ _
@[simp] theorem setFld_seq (c : Chip) (a hi lo v : Nat) : (c.setFld a hi lo v).seq = c.seq := setReg_seq c _ _
@[simp] theorem setFld_grn (c : Chip) (a hi lo v : Nat) : (c.setFld a hi lo v).grn = c.grn := setReg_grn c _ _
@[simp] theorem setFld_trace (c : Chip) (a hi lo v : Nat) : (c.setFld a hi lo v).trace = c.trace := setReg_trace c _ _
@[simp] theorem setFld_time (c : Chip) (a hi lo v : Nat) : (c.setFld a hi lo v).time = c.time := setReg_time c _ _
@[simp] theorem setFld_od (c : Chip) (a hi lo v : Nat) : (c.setFld a hi lo v).od = c.od := setReg_od c _ _
@[simp] theorem setFld_pow (c : Chip) (a hi lo v : Nat) : (c.setFld a hi lo v).pow = c.pow := setReg_pow c _ _
@[simp] theorem setFld_dram (c : Chip) (a hi lo v : Nat) : (c.setFld a hi lo v).dram = c.dram := setReg_dram c _ _
@[simp] theorem setFld_cap (c : Chip) (a hi lo v : Nat) : (c.setFld a hi lo v).cap = c.cap := setReg_cap c _ _
@[simp] theorem setFld_pkr (c : Chip) (a hi lo v : Nat) : (c.setFld a hi lo v).pkr = c.pkr := setReg_pkr c _ _
@[simp] theorem setFld_ev (c : Chip) (a hi lo v : Nat) : (c.setFld a hi lo v).ev = c.ev := setReg_ev c _ _
@[simp] theorem setFld_su (c : Chip) (a hi lo v : Nat) : (c.setFld a hi lo v).su = c.su := setReg_su c _ _
@[simp] theorem setFld_xspi (c : Chip) (a hi lo v : Nat) : (c.setFld a hi lo v).xspi = c.xspi := setReg_xspi c _ _
@[simp] theorem setFld_silo (c : Chip) (a hi lo v : Nat) : (c.setFld a hi lo v).silo = c.silo := setReg_silo c _ _
@[simp] theorem setFld_life (c : Chip) (a hi lo v : Nat) : (c.setFld a hi lo v).life = c.life := setReg_life c _ _
@[simp] theorem setFld_sw (c : Chip) (a hi lo v : Nat) : (c.setFld a hi lo v).sw = c.sw := setReg_sw c _ _
@[simp] theorem setFld_host (c : Chip) (a hi lo v : Nat) : (c.setFld a hi lo v).host = c.host := setReg_host c _ _
@[simp] theorem setFld_eth (c : Chip) (a hi lo v : Nat) : (c.setFld a hi lo v).eth = c.eth := setReg_eth c _ _
@[simp] theorem setFld_weave (c : Chip) (a hi lo v : Nat) : (c.setFld a hi lo v).weave = c.weave := setReg_weave c _ _
@[simp] theorem setFld_dbg (c : Chip) (a hi lo v : Nat) : (c.setFld a hi lo v).dbg = c.dbg := setReg_dbg c _ _
@[simp] theorem setFld_wdt (c : Chip) (a hi lo v : Nat) : (c.setFld a hi lo v).wdt = c.wdt := setReg_wdt c _ _
@[simp] theorem setFld_noc (c : Chip) (a hi lo v : Nat) : (c.setFld a hi lo v).noc = c.noc := setReg_noc c _ _
@[simp] theorem setFld_core (c : Chip) (a hi lo v : Nat) : (c.setFld a hi lo v).core = c.core := setReg_core c _ _
@[simp] theorem setFld_spin (c : Chip) (a hi lo v : Nat) : (c.setFld a hi lo v).spin = c.spin := setReg_spin c _ _
@[simp] theorem setFld_can (c : Chip) (a hi lo v : Nat) : (c.setFld a hi lo v).can = c.can := setReg_can c _ _

@[simp] theorem setBit_is08X (c : Chip) (a i : Nat) (b : Bool) : (c.setBit a i b).is08X = c.is08X := setReg_is08X c _ _
@[simp] theorem setBit_mgrSel (c : Chip) (a i : Nat) (b : Bool) : (c.setBit a i b).mgrSel = c.mgrSel := setReg_mgrSel c _ _
@[simp] theorem setBit_deviceNo (c : Chip) (a i : Nat) (b : Bool) : (c.setBit a i b).deviceNo = c.deviceNo := setReg_deviceNo c _ _
@[simp] theorem setBit_ns (c : Chip) (a i : Nat) (b : Bool) : (c.setBit a i b).ns = c.ns := setReg_ns c _ _
@[simp] theorem setBit_fresh (c : Chip) (a i : Nat) (b : Bool) : (c.setBit a i b).fresh = c.fresh := setReg_fresh c _ _
@[simp] theorem setBit_resp (c : Chip) (a i : Nat) (b : Bool) : (c.setBit a i b).resp = c.resp := setReg_resp c _ _
@[simp] theorem setBit_domains (c : Chip) (a i : Nat) (b : Bool) : (c.setBit a i b).domains = c.domains := setReg_domains c _ _
@[simp] theorem setBit_mem (c : Chip) (a i : Nat) (b : Bool) : (c.setBit a i b).mem = c.mem := setReg_mem c _ _
@[simp] theorem setBit_ecc (c : Chip) (a i : Nat) (b : Bool) : (c.setBit a i b).ecc = c.ecc := setReg_ecc c _ _
@[simp] theorem setBit_lines (c : Chip) (a i : Nat) (b : Bool) : (c.setBit a i b).lines = c.lines := setReg_lines c _ _
@[simp] theorem setBit_hostUp (c : Chip) (a i : Nat) (b : Bool) : (c.setBit a i b).hostUp = c.hostUp := setReg_hostUp c _ _
@[simp] theorem setBit_msix (c : Chip) (a i : Nat) (b : Bool) : (c.setBit a i b).msix = c.msix := setReg_msix c _ _
@[simp] theorem setBit_tiles (c : Chip) (a i : Nat) (b : Bool) : (c.setBit a i b).tiles = c.tiles := setReg_tiles c _ _
@[simp] theorem setBit_seq (c : Chip) (a i : Nat) (b : Bool) : (c.setBit a i b).seq = c.seq := setReg_seq c _ _
@[simp] theorem setBit_grn (c : Chip) (a i : Nat) (b : Bool) : (c.setBit a i b).grn = c.grn := setReg_grn c _ _
@[simp] theorem setBit_trace (c : Chip) (a i : Nat) (b : Bool) : (c.setBit a i b).trace = c.trace := setReg_trace c _ _
@[simp] theorem setBit_time (c : Chip) (a i : Nat) (b : Bool) : (c.setBit a i b).time = c.time := setReg_time c _ _
@[simp] theorem setBit_od (c : Chip) (a i : Nat) (b : Bool) : (c.setBit a i b).od = c.od := setReg_od c _ _
@[simp] theorem setBit_pow (c : Chip) (a i : Nat) (b : Bool) : (c.setBit a i b).pow = c.pow := setReg_pow c _ _
@[simp] theorem setBit_dram (c : Chip) (a i : Nat) (b : Bool) : (c.setBit a i b).dram = c.dram := setReg_dram c _ _
@[simp] theorem setBit_cap (c : Chip) (a i : Nat) (b : Bool) : (c.setBit a i b).cap = c.cap := setReg_cap c _ _
@[simp] theorem setBit_pkr (c : Chip) (a i : Nat) (b : Bool) : (c.setBit a i b).pkr = c.pkr := setReg_pkr c _ _
@[simp] theorem setBit_ev (c : Chip) (a i : Nat) (b : Bool) : (c.setBit a i b).ev = c.ev := setReg_ev c _ _
@[simp] theorem setBit_su (c : Chip) (a i : Nat) (b : Bool) : (c.setBit a i b).su = c.su := setReg_su c _ _
@[simp] theorem setBit_xspi (c : Chip) (a i : Nat) (b : Bool) : (c.setBit a i b).xspi = c.xspi := setReg_xspi c _ _
@[simp] theorem setBit_silo (c : Chip) (a i : Nat) (b : Bool) : (c.setBit a i b).silo = c.silo := setReg_silo c _ _
@[simp] theorem setBit_life (c : Chip) (a i : Nat) (b : Bool) : (c.setBit a i b).life = c.life := setReg_life c _ _
@[simp] theorem setBit_sw (c : Chip) (a i : Nat) (b : Bool) : (c.setBit a i b).sw = c.sw := setReg_sw c _ _
@[simp] theorem setBit_host (c : Chip) (a i : Nat) (b : Bool) : (c.setBit a i b).host = c.host := setReg_host c _ _
@[simp] theorem setBit_eth (c : Chip) (a i : Nat) (b : Bool) : (c.setBit a i b).eth = c.eth := setReg_eth c _ _
@[simp] theorem setBit_weave (c : Chip) (a i : Nat) (b : Bool) : (c.setBit a i b).weave = c.weave := setReg_weave c _ _
@[simp] theorem setBit_dbg (c : Chip) (a i : Nat) (b : Bool) : (c.setBit a i b).dbg = c.dbg := setReg_dbg c _ _
@[simp] theorem setBit_wdt (c : Chip) (a i : Nat) (b : Bool) : (c.setBit a i b).wdt = c.wdt := setReg_wdt c _ _
@[simp] theorem setBit_noc (c : Chip) (a i : Nat) (b : Bool) : (c.setBit a i b).noc = c.noc := setReg_noc c _ _
@[simp] theorem setBit_core (c : Chip) (a i : Nat) (b : Bool) : (c.setBit a i b).core = c.core := setReg_core c _ _
@[simp] theorem setBit_spin (c : Chip) (a i : Nat) (b : Bool) : (c.setBit a i b).spin = c.spin := setReg_spin c _ _
@[simp] theorem setBit_can (c : Chip) (a i : Nat) (b : Bool) : (c.setBit a i b).can = c.can := setReg_can c _ _

@[simp] theorem respond_is08X (c : Chip) (r : Resp) : (c.respond r).is08X = c.is08X := Chip.resp_is08X c _
@[simp] theorem respond_mgrSel (c : Chip) (r : Resp) : (c.respond r).mgrSel = c.mgrSel := Chip.resp_mgrSel c _
@[simp] theorem respond_deviceNo (c : Chip) (r : Resp) : (c.respond r).deviceNo = c.deviceNo := Chip.resp_deviceNo c _
@[simp] theorem respond_ns (c : Chip) (r : Resp) : (c.respond r).ns = c.ns := Chip.resp_ns c _
@[simp] theorem respond_fresh (c : Chip) (r : Resp) : (c.respond r).fresh = c.fresh := Chip.resp_fresh c _
@[simp] theorem respond_domains (c : Chip) (r : Resp) : (c.respond r).domains = c.domains := Chip.resp_domains c _
@[simp] theorem respond_mem (c : Chip) (r : Resp) : (c.respond r).mem = c.mem := Chip.resp_mem c _
@[simp] theorem respond_ecc (c : Chip) (r : Resp) : (c.respond r).ecc = c.ecc := Chip.resp_ecc c _
@[simp] theorem respond_regs (c : Chip) (r : Resp) : (c.respond r).regs = c.regs := Chip.resp_regs c _
@[simp] theorem respond_lines (c : Chip) (r : Resp) : (c.respond r).lines = c.lines := Chip.resp_lines c _
@[simp] theorem respond_hostUp (c : Chip) (r : Resp) : (c.respond r).hostUp = c.hostUp := Chip.resp_hostUp c _
@[simp] theorem respond_msix (c : Chip) (r : Resp) : (c.respond r).msix = c.msix := Chip.resp_msix c _
@[simp] theorem respond_tiles (c : Chip) (r : Resp) : (c.respond r).tiles = c.tiles := Chip.resp_tiles c _
@[simp] theorem respond_seq (c : Chip) (r : Resp) : (c.respond r).seq = c.seq := Chip.resp_seq c _
@[simp] theorem respond_grn (c : Chip) (r : Resp) : (c.respond r).grn = c.grn := Chip.resp_grn c _
@[simp] theorem respond_trace (c : Chip) (r : Resp) : (c.respond r).trace = c.trace := Chip.resp_trace c _
@[simp] theorem respond_time (c : Chip) (r : Resp) : (c.respond r).time = c.time := Chip.resp_time c _
@[simp] theorem respond_od (c : Chip) (r : Resp) : (c.respond r).od = c.od := Chip.resp_od c _
@[simp] theorem respond_pow (c : Chip) (r : Resp) : (c.respond r).pow = c.pow := Chip.resp_pow c _
@[simp] theorem respond_dram (c : Chip) (r : Resp) : (c.respond r).dram = c.dram := Chip.resp_dram c _
@[simp] theorem respond_cap (c : Chip) (r : Resp) : (c.respond r).cap = c.cap := Chip.resp_cap c _
@[simp] theorem respond_pkr (c : Chip) (r : Resp) : (c.respond r).pkr = c.pkr := Chip.resp_pkr c _
@[simp] theorem respond_ev (c : Chip) (r : Resp) : (c.respond r).ev = c.ev := Chip.resp_ev c _
@[simp] theorem respond_su (c : Chip) (r : Resp) : (c.respond r).su = c.su := Chip.resp_su c _
@[simp] theorem respond_xspi (c : Chip) (r : Resp) : (c.respond r).xspi = c.xspi := Chip.resp_xspi c _
@[simp] theorem respond_silo (c : Chip) (r : Resp) : (c.respond r).silo = c.silo := Chip.resp_silo c _
@[simp] theorem respond_life (c : Chip) (r : Resp) : (c.respond r).life = c.life := Chip.resp_life c _
@[simp] theorem respond_sw (c : Chip) (r : Resp) : (c.respond r).sw = c.sw := Chip.resp_sw c _
@[simp] theorem respond_host (c : Chip) (r : Resp) : (c.respond r).host = c.host := Chip.resp_host c _
@[simp] theorem respond_eth (c : Chip) (r : Resp) : (c.respond r).eth = c.eth := Chip.resp_eth c _
@[simp] theorem respond_weave (c : Chip) (r : Resp) : (c.respond r).weave = c.weave := Chip.resp_weave c _
@[simp] theorem respond_dbg (c : Chip) (r : Resp) : (c.respond r).dbg = c.dbg := Chip.resp_dbg c _
@[simp] theorem respond_wdt (c : Chip) (r : Resp) : (c.respond r).wdt = c.wdt := Chip.resp_wdt c _
@[simp] theorem respond_noc (c : Chip) (r : Resp) : (c.respond r).noc = c.noc := Chip.resp_noc c _
@[simp] theorem respond_core (c : Chip) (r : Resp) : (c.respond r).core = c.core := Chip.resp_core c _
@[simp] theorem respond_spin (c : Chip) (r : Resp) : (c.respond r).spin = c.spin := Chip.resp_spin c _
@[simp] theorem respond_can (c : Chip) (r : Resp) : (c.respond r).can = c.can := Chip.resp_can c _

@[simp] theorem wr8_is08X (c : Chip) (a : Nat) (v : Byte) : (c.wr8 a v).is08X = c.is08X := Chip.mem_is08X c _
@[simp] theorem wr8_mgrSel (c : Chip) (a : Nat) (v : Byte) : (c.wr8 a v).mgrSel = c.mgrSel := Chip.mem_mgrSel c _
@[simp] theorem wr8_deviceNo (c : Chip) (a : Nat) (v : Byte) : (c.wr8 a v).deviceNo = c.deviceNo := Chip.mem_deviceNo c _
@[simp] theorem wr8_ns (c : Chip) (a : Nat) (v : Byte) : (c.wr8 a v).ns = c.ns := Chip.mem_ns c _
@[simp] theorem wr8_fresh (c : Chip) (a : Nat) (v : Byte) : (c.wr8 a v).fresh = c.fresh := Chip.mem_fresh c _
@[simp] theorem wr8_resp (c : Chip) (a : Nat) (v : Byte) : (c.wr8 a v).resp = c.resp := Chip.mem_resp c _
@[simp] theorem wr8_domains (c : Chip) (a : Nat) (v : Byte) : (c.wr8 a v).domains = c.domains := Chip.mem_domains c _
@[simp] theorem wr8_ecc (c : Chip) (a : Nat) (v : Byte) : (c.wr8 a v).ecc = c.ecc := Chip.mem_ecc c _
@[simp] theorem wr8_regs (c : Chip) (a : Nat) (v : Byte) : (c.wr8 a v).regs = c.regs := Chip.mem_regs c _
@[simp] theorem wr8_lines (c : Chip) (a : Nat) (v : Byte) : (c.wr8 a v).lines = c.lines := Chip.mem_lines c _
@[simp] theorem wr8_hostUp (c : Chip) (a : Nat) (v : Byte) : (c.wr8 a v).hostUp = c.hostUp := Chip.mem_hostUp c _
@[simp] theorem wr8_msix (c : Chip) (a : Nat) (v : Byte) : (c.wr8 a v).msix = c.msix := Chip.mem_msix c _
@[simp] theorem wr8_tiles (c : Chip) (a : Nat) (v : Byte) : (c.wr8 a v).tiles = c.tiles := Chip.mem_tiles c _
@[simp] theorem wr8_seq (c : Chip) (a : Nat) (v : Byte) : (c.wr8 a v).seq = c.seq := Chip.mem_seq c _
@[simp] theorem wr8_grn (c : Chip) (a : Nat) (v : Byte) : (c.wr8 a v).grn = c.grn := Chip.mem_grn c _
@[simp] theorem wr8_trace (c : Chip) (a : Nat) (v : Byte) : (c.wr8 a v).trace = c.trace := Chip.mem_trace c _
@[simp] theorem wr8_time (c : Chip) (a : Nat) (v : Byte) : (c.wr8 a v).time = c.time := Chip.mem_time c _
@[simp] theorem wr8_od (c : Chip) (a : Nat) (v : Byte) : (c.wr8 a v).od = c.od := Chip.mem_od c _
@[simp] theorem wr8_pow (c : Chip) (a : Nat) (v : Byte) : (c.wr8 a v).pow = c.pow := Chip.mem_pow c _
@[simp] theorem wr8_dram (c : Chip) (a : Nat) (v : Byte) : (c.wr8 a v).dram = c.dram := Chip.mem_dram c _
@[simp] theorem wr8_cap (c : Chip) (a : Nat) (v : Byte) : (c.wr8 a v).cap = c.cap := Chip.mem_cap c _
@[simp] theorem wr8_pkr (c : Chip) (a : Nat) (v : Byte) : (c.wr8 a v).pkr = c.pkr := Chip.mem_pkr c _
@[simp] theorem wr8_ev (c : Chip) (a : Nat) (v : Byte) : (c.wr8 a v).ev = c.ev := Chip.mem_ev c _
@[simp] theorem wr8_su (c : Chip) (a : Nat) (v : Byte) : (c.wr8 a v).su = c.su := Chip.mem_su c _
@[simp] theorem wr8_xspi (c : Chip) (a : Nat) (v : Byte) : (c.wr8 a v).xspi = c.xspi := Chip.mem_xspi c _
@[simp] theorem wr8_silo (c : Chip) (a : Nat) (v : Byte) : (c.wr8 a v).silo = c.silo := Chip.mem_silo c _
@[simp] theorem wr8_life (c : Chip) (a : Nat) (v : Byte) : (c.wr8 a v).life = c.life := Chip.mem_life c _
@[simp] theorem wr8_sw (c : Chip) (a : Nat) (v : Byte) : (c.wr8 a v).sw = c.sw := Chip.mem_sw c _
@[simp] theorem wr8_host (c : Chip) (a : Nat) (v : Byte) : (c.wr8 a v).host = c.host := Chip.mem_host c _
@[simp] theorem wr8_eth (c : Chip) (a : Nat) (v : Byte) : (c.wr8 a v).eth = c.eth := Chip.mem_eth c _
@[simp] theorem wr8_weave (c : Chip) (a : Nat) (v : Byte) : (c.wr8 a v).weave = c.weave := Chip.mem_weave c _
@[simp] theorem wr8_dbg (c : Chip) (a : Nat) (v : Byte) : (c.wr8 a v).dbg = c.dbg := Chip.mem_dbg c _
@[simp] theorem wr8_wdt (c : Chip) (a : Nat) (v : Byte) : (c.wr8 a v).wdt = c.wdt := Chip.mem_wdt c _
@[simp] theorem wr8_noc (c : Chip) (a : Nat) (v : Byte) : (c.wr8 a v).noc = c.noc := Chip.mem_noc c _
@[simp] theorem wr8_core (c : Chip) (a : Nat) (v : Byte) : (c.wr8 a v).core = c.core := Chip.mem_core c _
@[simp] theorem wr8_spin (c : Chip) (a : Nat) (v : Byte) : (c.wr8 a v).spin = c.spin := Chip.mem_spin c _
@[simp] theorem wr8_can (c : Chip) (a : Nat) (v : Byte) : (c.wr8 a v).can = c.can := Chip.mem_can c _

@[simp] theorem setEcc_is08X (c : Chip) (a : Nat) (e : Ecc) : (c.setEcc a e).is08X = c.is08X := Chip.ecc_is08X c _
@[simp] theorem setEcc_mgrSel (c : Chip) (a : Nat) (e : Ecc) : (c.setEcc a e).mgrSel = c.mgrSel := Chip.ecc_mgrSel c _
@[simp] theorem setEcc_deviceNo (c : Chip) (a : Nat) (e : Ecc) : (c.setEcc a e).deviceNo = c.deviceNo := Chip.ecc_deviceNo c _
@[simp] theorem setEcc_ns (c : Chip) (a : Nat) (e : Ecc) : (c.setEcc a e).ns = c.ns := Chip.ecc_ns c _
@[simp] theorem setEcc_fresh (c : Chip) (a : Nat) (e : Ecc) : (c.setEcc a e).fresh = c.fresh := Chip.ecc_fresh c _
@[simp] theorem setEcc_resp (c : Chip) (a : Nat) (e : Ecc) : (c.setEcc a e).resp = c.resp := Chip.ecc_resp c _
@[simp] theorem setEcc_domains (c : Chip) (a : Nat) (e : Ecc) : (c.setEcc a e).domains = c.domains := Chip.ecc_domains c _
@[simp] theorem setEcc_mem (c : Chip) (a : Nat) (e : Ecc) : (c.setEcc a e).mem = c.mem := Chip.ecc_mem c _
@[simp] theorem setEcc_regs (c : Chip) (a : Nat) (e : Ecc) : (c.setEcc a e).regs = c.regs := Chip.ecc_regs c _
@[simp] theorem setEcc_lines (c : Chip) (a : Nat) (e : Ecc) : (c.setEcc a e).lines = c.lines := Chip.ecc_lines c _
@[simp] theorem setEcc_hostUp (c : Chip) (a : Nat) (e : Ecc) : (c.setEcc a e).hostUp = c.hostUp := Chip.ecc_hostUp c _
@[simp] theorem setEcc_msix (c : Chip) (a : Nat) (e : Ecc) : (c.setEcc a e).msix = c.msix := Chip.ecc_msix c _
@[simp] theorem setEcc_tiles (c : Chip) (a : Nat) (e : Ecc) : (c.setEcc a e).tiles = c.tiles := Chip.ecc_tiles c _
@[simp] theorem setEcc_seq (c : Chip) (a : Nat) (e : Ecc) : (c.setEcc a e).seq = c.seq := Chip.ecc_seq c _
@[simp] theorem setEcc_grn (c : Chip) (a : Nat) (e : Ecc) : (c.setEcc a e).grn = c.grn := Chip.ecc_grn c _
@[simp] theorem setEcc_trace (c : Chip) (a : Nat) (e : Ecc) : (c.setEcc a e).trace = c.trace := Chip.ecc_trace c _
@[simp] theorem setEcc_time (c : Chip) (a : Nat) (e : Ecc) : (c.setEcc a e).time = c.time := Chip.ecc_time c _
@[simp] theorem setEcc_od (c : Chip) (a : Nat) (e : Ecc) : (c.setEcc a e).od = c.od := Chip.ecc_od c _
@[simp] theorem setEcc_pow (c : Chip) (a : Nat) (e : Ecc) : (c.setEcc a e).pow = c.pow := Chip.ecc_pow c _
@[simp] theorem setEcc_dram (c : Chip) (a : Nat) (e : Ecc) : (c.setEcc a e).dram = c.dram := Chip.ecc_dram c _
@[simp] theorem setEcc_cap (c : Chip) (a : Nat) (e : Ecc) : (c.setEcc a e).cap = c.cap := Chip.ecc_cap c _
@[simp] theorem setEcc_pkr (c : Chip) (a : Nat) (e : Ecc) : (c.setEcc a e).pkr = c.pkr := Chip.ecc_pkr c _
@[simp] theorem setEcc_ev (c : Chip) (a : Nat) (e : Ecc) : (c.setEcc a e).ev = c.ev := Chip.ecc_ev c _
@[simp] theorem setEcc_su (c : Chip) (a : Nat) (e : Ecc) : (c.setEcc a e).su = c.su := Chip.ecc_su c _
@[simp] theorem setEcc_xspi (c : Chip) (a : Nat) (e : Ecc) : (c.setEcc a e).xspi = c.xspi := Chip.ecc_xspi c _
@[simp] theorem setEcc_silo (c : Chip) (a : Nat) (e : Ecc) : (c.setEcc a e).silo = c.silo := Chip.ecc_silo c _
@[simp] theorem setEcc_life (c : Chip) (a : Nat) (e : Ecc) : (c.setEcc a e).life = c.life := Chip.ecc_life c _
@[simp] theorem setEcc_sw (c : Chip) (a : Nat) (e : Ecc) : (c.setEcc a e).sw = c.sw := Chip.ecc_sw c _
@[simp] theorem setEcc_host (c : Chip) (a : Nat) (e : Ecc) : (c.setEcc a e).host = c.host := Chip.ecc_host c _
@[simp] theorem setEcc_eth (c : Chip) (a : Nat) (e : Ecc) : (c.setEcc a e).eth = c.eth := Chip.ecc_eth c _
@[simp] theorem setEcc_weave (c : Chip) (a : Nat) (e : Ecc) : (c.setEcc a e).weave = c.weave := Chip.ecc_weave c _
@[simp] theorem setEcc_dbg (c : Chip) (a : Nat) (e : Ecc) : (c.setEcc a e).dbg = c.dbg := Chip.ecc_dbg c _
@[simp] theorem setEcc_wdt (c : Chip) (a : Nat) (e : Ecc) : (c.setEcc a e).wdt = c.wdt := Chip.ecc_wdt c _
@[simp] theorem setEcc_noc (c : Chip) (a : Nat) (e : Ecc) : (c.setEcc a e).noc = c.noc := Chip.ecc_noc c _
@[simp] theorem setEcc_core (c : Chip) (a : Nat) (e : Ecc) : (c.setEcc a e).core = c.core := Chip.ecc_core c _
@[simp] theorem setEcc_spin (c : Chip) (a : Nat) (e : Ecc) : (c.setEcc a e).spin = c.spin := Chip.ecc_spin c _
@[simp] theorem setEcc_can (c : Chip) (a : Nat) (e : Ecc) : (c.setEcc a e).can = c.can := Chip.ecc_can c _

@[simp] theorem traceAdd_is08X (c : Chip) (p : TracePacket) : (c.traceAdd p).is08X = c.is08X := Chip.trace_is08X c _
@[simp] theorem traceAdd_mgrSel (c : Chip) (p : TracePacket) : (c.traceAdd p).mgrSel = c.mgrSel := Chip.trace_mgrSel c _
@[simp] theorem traceAdd_deviceNo (c : Chip) (p : TracePacket) : (c.traceAdd p).deviceNo = c.deviceNo := Chip.trace_deviceNo c _
@[simp] theorem traceAdd_ns (c : Chip) (p : TracePacket) : (c.traceAdd p).ns = c.ns := Chip.trace_ns c _
@[simp] theorem traceAdd_fresh (c : Chip) (p : TracePacket) : (c.traceAdd p).fresh = c.fresh := Chip.trace_fresh c _
@[simp] theorem traceAdd_resp (c : Chip) (p : TracePacket) : (c.traceAdd p).resp = c.resp := Chip.trace_resp c _
@[simp] theorem traceAdd_domains (c : Chip) (p : TracePacket) : (c.traceAdd p).domains = c.domains := Chip.trace_domains c _
@[simp] theorem traceAdd_mem (c : Chip) (p : TracePacket) : (c.traceAdd p).mem = c.mem := Chip.trace_mem c _
@[simp] theorem traceAdd_ecc (c : Chip) (p : TracePacket) : (c.traceAdd p).ecc = c.ecc := Chip.trace_ecc c _
@[simp] theorem traceAdd_regs (c : Chip) (p : TracePacket) : (c.traceAdd p).regs = c.regs := Chip.trace_regs c _
@[simp] theorem traceAdd_lines (c : Chip) (p : TracePacket) : (c.traceAdd p).lines = c.lines := Chip.trace_lines c _
@[simp] theorem traceAdd_hostUp (c : Chip) (p : TracePacket) : (c.traceAdd p).hostUp = c.hostUp := Chip.trace_hostUp c _
@[simp] theorem traceAdd_msix (c : Chip) (p : TracePacket) : (c.traceAdd p).msix = c.msix := Chip.trace_msix c _
@[simp] theorem traceAdd_tiles (c : Chip) (p : TracePacket) : (c.traceAdd p).tiles = c.tiles := Chip.trace_tiles c _
@[simp] theorem traceAdd_seq (c : Chip) (p : TracePacket) : (c.traceAdd p).seq = c.seq := Chip.trace_seq c _
@[simp] theorem traceAdd_grn (c : Chip) (p : TracePacket) : (c.traceAdd p).grn = c.grn := Chip.trace_grn c _
@[simp] theorem traceAdd_time (c : Chip) (p : TracePacket) : (c.traceAdd p).time = c.time := Chip.trace_time c _
@[simp] theorem traceAdd_od (c : Chip) (p : TracePacket) : (c.traceAdd p).od = c.od := Chip.trace_od c _
@[simp] theorem traceAdd_pow (c : Chip) (p : TracePacket) : (c.traceAdd p).pow = c.pow := Chip.trace_pow c _
@[simp] theorem traceAdd_dram (c : Chip) (p : TracePacket) : (c.traceAdd p).dram = c.dram := Chip.trace_dram c _
@[simp] theorem traceAdd_cap (c : Chip) (p : TracePacket) : (c.traceAdd p).cap = c.cap := Chip.trace_cap c _
@[simp] theorem traceAdd_pkr (c : Chip) (p : TracePacket) : (c.traceAdd p).pkr = c.pkr := Chip.trace_pkr c _
@[simp] theorem traceAdd_ev (c : Chip) (p : TracePacket) : (c.traceAdd p).ev = c.ev := Chip.trace_ev c _
@[simp] theorem traceAdd_su (c : Chip) (p : TracePacket) : (c.traceAdd p).su = c.su := Chip.trace_su c _
@[simp] theorem traceAdd_xspi (c : Chip) (p : TracePacket) : (c.traceAdd p).xspi = c.xspi := Chip.trace_xspi c _
@[simp] theorem traceAdd_silo (c : Chip) (p : TracePacket) : (c.traceAdd p).silo = c.silo := Chip.trace_silo c _
@[simp] theorem traceAdd_life (c : Chip) (p : TracePacket) : (c.traceAdd p).life = c.life := Chip.trace_life c _
@[simp] theorem traceAdd_sw (c : Chip) (p : TracePacket) : (c.traceAdd p).sw = c.sw := Chip.trace_sw c _
@[simp] theorem traceAdd_host (c : Chip) (p : TracePacket) : (c.traceAdd p).host = c.host := Chip.trace_host c _
@[simp] theorem traceAdd_eth (c : Chip) (p : TracePacket) : (c.traceAdd p).eth = c.eth := Chip.trace_eth c _
@[simp] theorem traceAdd_weave (c : Chip) (p : TracePacket) : (c.traceAdd p).weave = c.weave := Chip.trace_weave c _
@[simp] theorem traceAdd_dbg (c : Chip) (p : TracePacket) : (c.traceAdd p).dbg = c.dbg := Chip.trace_dbg c _
@[simp] theorem traceAdd_wdt (c : Chip) (p : TracePacket) : (c.traceAdd p).wdt = c.wdt := Chip.trace_wdt c _
@[simp] theorem traceAdd_noc (c : Chip) (p : TracePacket) : (c.traceAdd p).noc = c.noc := Chip.trace_noc c _
@[simp] theorem traceAdd_core (c : Chip) (p : TracePacket) : (c.traceAdd p).core = c.core := Chip.trace_core c _
@[simp] theorem traceAdd_spin (c : Chip) (p : TracePacket) : (c.traceAdd p).spin = c.spin := Chip.trace_spin c _
@[simp] theorem traceAdd_can (c : Chip) (p : TracePacket) : (c.traceAdd p).can = c.can := Chip.trace_can c _

@[simp] theorem switchOff_is08X (c : Chip) (d : Domain) : (c.switchOff d).is08X = c.is08X := Chip.domains_is08X c _
@[simp] theorem switchOff_mgrSel (c : Chip) (d : Domain) : (c.switchOff d).mgrSel = c.mgrSel := Chip.domains_mgrSel c _
@[simp] theorem switchOff_deviceNo (c : Chip) (d : Domain) : (c.switchOff d).deviceNo = c.deviceNo := Chip.domains_deviceNo c _
@[simp] theorem switchOff_ns (c : Chip) (d : Domain) : (c.switchOff d).ns = c.ns := Chip.domains_ns c _
@[simp] theorem switchOff_fresh (c : Chip) (d : Domain) : (c.switchOff d).fresh = c.fresh := Chip.domains_fresh c _
@[simp] theorem switchOff_resp (c : Chip) (d : Domain) : (c.switchOff d).resp = c.resp := Chip.domains_resp c _
@[simp] theorem switchOff_mem (c : Chip) (d : Domain) : (c.switchOff d).mem = c.mem := Chip.domains_mem c _
@[simp] theorem switchOff_ecc (c : Chip) (d : Domain) : (c.switchOff d).ecc = c.ecc := Chip.domains_ecc c _
@[simp] theorem switchOff_regs (c : Chip) (d : Domain) : (c.switchOff d).regs = c.regs := Chip.domains_regs c _
@[simp] theorem switchOff_lines (c : Chip) (d : Domain) : (c.switchOff d).lines = c.lines := Chip.domains_lines c _
@[simp] theorem switchOff_hostUp (c : Chip) (d : Domain) : (c.switchOff d).hostUp = c.hostUp := Chip.domains_hostUp c _
@[simp] theorem switchOff_msix (c : Chip) (d : Domain) : (c.switchOff d).msix = c.msix := Chip.domains_msix c _
@[simp] theorem switchOff_tiles (c : Chip) (d : Domain) : (c.switchOff d).tiles = c.tiles := Chip.domains_tiles c _
@[simp] theorem switchOff_seq (c : Chip) (d : Domain) : (c.switchOff d).seq = c.seq := Chip.domains_seq c _
@[simp] theorem switchOff_grn (c : Chip) (d : Domain) : (c.switchOff d).grn = c.grn := Chip.domains_grn c _
@[simp] theorem switchOff_trace (c : Chip) (d : Domain) : (c.switchOff d).trace = c.trace := Chip.domains_trace c _
@[simp] theorem switchOff_time (c : Chip) (d : Domain) : (c.switchOff d).time = c.time := Chip.domains_time c _
@[simp] theorem switchOff_od (c : Chip) (d : Domain) : (c.switchOff d).od = c.od := Chip.domains_od c _
@[simp] theorem switchOff_pow (c : Chip) (d : Domain) : (c.switchOff d).pow = c.pow := Chip.domains_pow c _
@[simp] theorem switchOff_dram (c : Chip) (d : Domain) : (c.switchOff d).dram = c.dram := Chip.domains_dram c _
@[simp] theorem switchOff_cap (c : Chip) (d : Domain) : (c.switchOff d).cap = c.cap := Chip.domains_cap c _
@[simp] theorem switchOff_pkr (c : Chip) (d : Domain) : (c.switchOff d).pkr = c.pkr := Chip.domains_pkr c _
@[simp] theorem switchOff_ev (c : Chip) (d : Domain) : (c.switchOff d).ev = c.ev := Chip.domains_ev c _
@[simp] theorem switchOff_su (c : Chip) (d : Domain) : (c.switchOff d).su = c.su := Chip.domains_su c _
@[simp] theorem switchOff_xspi (c : Chip) (d : Domain) : (c.switchOff d).xspi = c.xspi := Chip.domains_xspi c _
@[simp] theorem switchOff_silo (c : Chip) (d : Domain) : (c.switchOff d).silo = c.silo := Chip.domains_silo c _
@[simp] theorem switchOff_life (c : Chip) (d : Domain) : (c.switchOff d).life = c.life := Chip.domains_life c _
@[simp] theorem switchOff_sw (c : Chip) (d : Domain) : (c.switchOff d).sw = c.sw := Chip.domains_sw c _
@[simp] theorem switchOff_host (c : Chip) (d : Domain) : (c.switchOff d).host = c.host := Chip.domains_host c _
@[simp] theorem switchOff_eth (c : Chip) (d : Domain) : (c.switchOff d).eth = c.eth := Chip.domains_eth c _
@[simp] theorem switchOff_weave (c : Chip) (d : Domain) : (c.switchOff d).weave = c.weave := Chip.domains_weave c _
@[simp] theorem switchOff_dbg (c : Chip) (d : Domain) : (c.switchOff d).dbg = c.dbg := Chip.domains_dbg c _
@[simp] theorem switchOff_wdt (c : Chip) (d : Domain) : (c.switchOff d).wdt = c.wdt := Chip.domains_wdt c _
@[simp] theorem switchOff_noc (c : Chip) (d : Domain) : (c.switchOff d).noc = c.noc := Chip.domains_noc c _
@[simp] theorem switchOff_core (c : Chip) (d : Domain) : (c.switchOff d).core = c.core := Chip.domains_core c _
@[simp] theorem switchOff_spin (c : Chip) (d : Domain) : (c.switchOff d).spin = c.spin := Chip.domains_spin c _
@[simp] theorem switchOff_can (c : Chip) (d : Domain) : (c.switchOff d).can = c.can := Chip.domains_can c _

@[simp] theorem onCore_is08X (c : Chip) (f : Core → Core) : (c.onCore f).is08X = c.is08X := Chip.core_is08X c _
@[simp] theorem onCore_mgrSel (c : Chip) (f : Core → Core) : (c.onCore f).mgrSel = c.mgrSel := Chip.core_mgrSel c _
@[simp] theorem onCore_deviceNo (c : Chip) (f : Core → Core) : (c.onCore f).deviceNo = c.deviceNo := Chip.core_deviceNo c _
@[simp] theorem onCore_ns (c : Chip) (f : Core → Core) : (c.onCore f).ns = c.ns := Chip.core_ns c _
@[simp] theorem onCore_fresh (c : Chip) (f : Core → Core) : (c.onCore f).fresh = c.fresh := Chip.core_fresh c _
@[simp] theorem onCore_resp (c : Chip) (f : Core → Core) : (c.onCore f).resp = c.resp := Chip.core_resp c _
@[simp] theorem onCore_domains (c : Chip) (f : Core → Core) : (c.onCore f).domains = c.domains := Chip.core_domains c _
@[simp] theorem onCore_mem (c : Chip) (f : Core → Core) : (c.onCore f).mem = c.mem := Chip.core_mem c _
@[simp] theorem onCore_ecc (c : Chip) (f : Core → Core) : (c.onCore f).ecc = c.ecc := Chip.core_ecc c _
@[simp] theorem onCore_regs (c : Chip) (f : Core → Core) : (c.onCore f).regs = c.regs := Chip.core_regs c _
@[simp] theorem onCore_lines (c : Chip) (f : Core → Core) : (c.onCore f).lines = c.lines := Chip.core_lines c _
@[simp] theorem onCore_hostUp (c : Chip) (f : Core → Core) : (c.onCore f).hostUp = c.hostUp := Chip.core_hostUp c _
@[simp] theorem onCore_msix (c : Chip) (f : Core → Core) : (c.onCore f).msix = c.msix := Chip.core_msix c _
@[simp] theorem onCore_tiles (c : Chip) (f : Core → Core) : (c.onCore f).tiles = c.tiles := Chip.core_tiles c _
@[simp] theorem onCore_seq (c : Chip) (f : Core → Core) : (c.onCore f).seq = c.seq := Chip.core_seq c _
@[simp] theorem onCore_grn (c : Chip) (f : Core → Core) : (c.onCore f).grn = c.grn := Chip.core_grn c _
@[simp] theorem onCore_trace (c : Chip) (f : Core → Core) : (c.onCore f).trace = c.trace := Chip.core_trace c _
@[simp] theorem onCore_time (c : Chip) (f : Core → Core) : (c.onCore f).time = c.time := Chip.core_time c _
@[simp] theorem onCore_od (c : Chip) (f : Core → Core) : (c.onCore f).od = c.od := Chip.core_od c _
@[simp] theorem onCore_pow (c : Chip) (f : Core → Core) : (c.onCore f).pow = c.pow := Chip.core_pow c _
@[simp] theorem onCore_dram (c : Chip) (f : Core → Core) : (c.onCore f).dram = c.dram := Chip.core_dram c _
@[simp] theorem onCore_cap (c : Chip) (f : Core → Core) : (c.onCore f).cap = c.cap := Chip.core_cap c _
@[simp] theorem onCore_pkr (c : Chip) (f : Core → Core) : (c.onCore f).pkr = c.pkr := Chip.core_pkr c _
@[simp] theorem onCore_ev (c : Chip) (f : Core → Core) : (c.onCore f).ev = c.ev := Chip.core_ev c _
@[simp] theorem onCore_su (c : Chip) (f : Core → Core) : (c.onCore f).su = c.su := Chip.core_su c _
@[simp] theorem onCore_xspi (c : Chip) (f : Core → Core) : (c.onCore f).xspi = c.xspi := Chip.core_xspi c _
@[simp] theorem onCore_silo (c : Chip) (f : Core → Core) : (c.onCore f).silo = c.silo := Chip.core_silo c _
@[simp] theorem onCore_life (c : Chip) (f : Core → Core) : (c.onCore f).life = c.life := Chip.core_life c _
@[simp] theorem onCore_sw (c : Chip) (f : Core → Core) : (c.onCore f).sw = c.sw := Chip.core_sw c _
@[simp] theorem onCore_host (c : Chip) (f : Core → Core) : (c.onCore f).host = c.host := Chip.core_host c _
@[simp] theorem onCore_eth (c : Chip) (f : Core → Core) : (c.onCore f).eth = c.eth := Chip.core_eth c _
@[simp] theorem onCore_weave (c : Chip) (f : Core → Core) : (c.onCore f).weave = c.weave := Chip.core_weave c _
@[simp] theorem onCore_dbg (c : Chip) (f : Core → Core) : (c.onCore f).dbg = c.dbg := Chip.core_dbg c _
@[simp] theorem onCore_wdt (c : Chip) (f : Core → Core) : (c.onCore f).wdt = c.wdt := Chip.core_wdt c _
@[simp] theorem onCore_noc (c : Chip) (f : Core → Core) : (c.onCore f).noc = c.noc := Chip.core_noc c _
@[simp] theorem onCore_spin (c : Chip) (f : Core → Core) : (c.onCore f).spin = c.spin := Chip.core_spin c _
@[simp] theorem onCore_can (c : Chip) (f : Core → Core) : (c.onCore f).can = c.can := Chip.core_can c _

@[simp] theorem respond_resp (c : Chip) (r : Resp) : (c.respond r).resp = r := rfl
@[simp] theorem onCore_core (c : Chip) (f : Core → Core) : (c.onCore f).core = f c.core := rfl

end Sys2Proof.Machine
end

