-- ==== Sys2Proof/Laws/Ops.lean ====
section
/-!
SUPPORT. What the shared operations do: the register file, memory, raising an event, and settling the lines after a command.
-/
namespace Sys2Proof.Machine

/-! ### The register file -/

@[simp] theorem reg_setReg_same (c : Chip) (a : Nat) (v : Word) : (c.setReg a v).reg a = v := by
  unfold Chip.reg Chip.setReg; exact mapGet_mapSet_same _ _ _ _
theorem reg_setReg_ne (c : Chip) {a b : Nat} (v : Word) (h : b ≠ a) : (c.setReg a v).reg b = c.reg b := by
  unfold Chip.reg Chip.setReg; exact mapGet_mapSet_ne _ _ _ _ h
theorem reg_setFld_ne (c : Chip) {a b : Nat} (hi lo v : Nat) (h : b ≠ a) : (c.setFld a hi lo v).reg b = c.reg b :=
  reg_setReg_ne c _ h
theorem reg_setBit_ne (c : Chip) {a b : Nat} (i : Nat) (v : Bool) (h : b ≠ a) : (c.setBit a i v).reg b = c.reg b :=
  reg_setReg_ne c _ h

/-- The bits of a register after one of its fields is stored. -/
theorem bit_setFld (c : Chip) (a hi lo v j : Nat) (hj : j < 32) :
    (c.setFld a hi lo v).bit a j = if lo ≤ j ∧ j < lo + (hi + 1 - lo) then v.testBit (j - lo) else c.bit a j := by
  have h : (c.setFld a hi lo v).reg a = Machine.setFld (c.reg a) hi lo v := reg_setReg_same _ _ _
  simp only [Chip.bit, h]
  exact bitOf_setFld (c.reg a) hi lo v j hj
/-- The bits of a register after one of them is stored. -/
theorem bit_setBit (c : Chip) (a i j : Nat) (b : Bool) (hj : j < 32) :
    (c.setBit a i b).bit a j = if j = i then b else c.bit a j := by
  rw [Chip.setBit, bit_setFld c a i i b.toNat j hj]
  by_cases h : j = i
  · subst h; cases b <;> simp
  · have h' : ¬ (i ≤ j ∧ j < i + (i + 1 - i)) := by omega
    rw [if_neg h', if_neg h]
theorem bit_setReg_ne (c : Chip) {a b : Nat} (v : Word) (j : Nat) (h : b ≠ a) : (c.setReg a v).bit b j = c.bit b j := by
  simp only [Chip.bit, reg_setReg_ne c v h]
theorem bit_setBit_ne (c : Chip) {a b : Nat} (i j : Nat) (v : Bool) (h : b ≠ a) : (c.setBit a i v).bit b j = c.bit b j :=
  bit_setReg_ne c _ j h
theorem bit_setFld_ne (c : Chip) {a b : Nat} (hi lo v j : Nat) (h : b ≠ a) : (c.setFld a hi lo v).bit b j = c.bit b j :=
  bit_setReg_ne c _ j h

/-- Reading the register file depends on it alone. -/
theorem reg_congr {c c' : Chip} (h : c'.regs = c.regs) (a : Nat) : c'.reg a = c.reg a := by
  unfold Chip.reg; rw [h]
theorem bit_congr {c c' : Chip} (h : c'.regs = c.regs) (a i : Nat) : c'.bit a i = c.bit a i := by
  unfold Chip.bit; rw [reg_congr h]
theorem fld_congr {c c' : Chip} (h : c'.regs = c.regs) (a hi lo : Nat) : c'.fld a hi lo = c.fld a hi lo := by
  unfold Chip.fld; rw [reg_congr h]

/-! ### Memory -/

@[simp] theorem rd8_wr8_same (c : Chip) (a : Nat) (v : Byte) : (c.wr8 a v).rd8 a = v :=
  mapGet_mapSet_same _ _ _ _
theorem rd8_wr8_ne (c : Chip) {a b : Nat} (v : Byte) (h : b ≠ a) : (c.wr8 a v).rd8 b = c.rd8 b :=
  mapGet_mapSet_ne _ _ _ _ h
theorem memWf_wr8 {c : Chip} (a : Nat) (v : Byte) (h : c.memWf = true) : (c.wr8 a v).memWf = true := mapWf_mapSet _ _ _ h

/-- Bytes written in a row keep the canonical form. -/
theorem memWf_wrBytes {c : Chip} (a : Nat) (bs : List Byte) (h : c.memWf = true) : (c.wrBytes a bs).memWf = true := by
  induction bs generalizing c a with
  | nil => exact h
  | cons b t ih => exact ih (a + 1) (memWf_wr8 a b h)
/-- Bytes written in a row leave every address outside them. -/
theorem rd8_wrBytes_out (c : Chip) (a b : Nat) (bs : List Byte) (h : b < a ∨ a + bs.length ≤ b) :
    (c.wrBytes a bs).rd8 b = c.rd8 b := by
  induction bs generalizing c a with
  | nil => rfl
  | cons x t ih =>
    simp only [List.length_cons] at h
    have h1 : b < a + 1 ∨ a + 1 + t.length ≤ b := by omega
    have h2 : b ≠ a := by omega
    exact (ih (c.wr8 a x) (a + 1) h1).trans (rd8_wr8_ne c x h2)
/-- Memory in canonical form of which bytes are filtered away stays so. -/
theorem memWf_filter {m : List Host.Cell} (f : Host.Cell → Bool) (h : mapWf 0 m = true) : mapWf 0 (m.filter f) = true := by
  induction m with
  | nil => rfl
  | cons x t ih =>
    obtain ⟨k, v⟩ := x
    simp only [mapWf, Bool.and_eq_true] at h
    by_cases hf : f (k, v) = true
    · simp only [List.filter_cons_of_pos hf, mapWf, Bool.and_eq_true]
      exact ⟨⟨h.1.1, mapAbove_of_mem (fun e he => mapAbove_mem h.1.2 e (List.mem_filter.mp he).1)⟩, ih h.2⟩
    · simpa only [List.filter_cons_of_neg hf] using ih h.2
theorem memWf_reset : State.reset.chip.memWf = true := rfl

/-! ### Settling -/

/-- A view of the chip that does not depend on PCIe-A nor on the vectors signalled. -/
structure MsixBlind {β : Type} (f : Chip → β) : Prop where
  msix : ∀ (d : Chip) (x : List Nat), f { d with msix := x } = f d
  host : ∀ (d : Chip) (x : HostLink), f { d with host := x } = f d

theorem msixSignal_keeps {β : Type} {f : Chip → β} (h : MsixBlind f) (c : Chip) (v : Nat) : f (c.msixSignal v) = f c := by
  unfold Chip.msixSignal; dsimp only
  split
  · exact h.msix _ _
  · split <;> exact (h.host { c with msix := c.msix ++ [v] } _).trans (h.msix c _)
theorem msixRetire_keeps {β : Type} {f : Chip → β} (h : MsixBlind f) (c : Chip) (up : List Nat) : f (c.msixRetire up) = f c := by
  unfold Chip.msixRetire
  generalize c.host.table.filter (fun e => e.2.pend && !up.contains e.1) = l
  induction l generalizing c with
  | nil => rfl
  | cons e t ih => exact (ih _).trans (h.host _ _)
/-- Retiring and signalling vectors leaves everything but PCIe-A and the vectors signalled. -/
theorem msixDone_keeps {β : Type} {f : Chip → β} (h : MsixBlind f) (l up : List Nat) (c : Chip) :
    f (l.foldl Chip.msixSignal (c.msixRetire up)) = f c := by
  refine Eq.trans ?_ (msixRetire_keeps h c up)
  generalize c.msixRetire up = d
  induction l generalizing d with
  | nil => rfl
  | cons v t ih => exact (ih _).trans (msixSignal_keeps h d v)

@[simp] theorem settle_is08X (c : Chip) : c.settle.is08X = c.is08X :=
  msixDone_keeps (f := Chip.is08X) ⟨fun _ _ => rfl, fun _ _ => rfl⟩ _ _ c
@[simp] theorem settle_mgrSel (c : Chip) : c.settle.mgrSel = c.mgrSel :=
  msixDone_keeps (f := Chip.mgrSel) ⟨fun _ _ => rfl, fun _ _ => rfl⟩ _ _ c
@[simp] theorem settle_deviceNo (c : Chip) : c.settle.deviceNo = c.deviceNo :=
  msixDone_keeps (f := Chip.deviceNo) ⟨fun _ _ => rfl, fun _ _ => rfl⟩ _ _ c
@[simp] theorem settle_ns (c : Chip) : c.settle.ns = c.ns :=
  msixDone_keeps (f := Chip.ns) ⟨fun _ _ => rfl, fun _ _ => rfl⟩ _ _ c
@[simp] theorem settle_fresh (c : Chip) : c.settle.fresh = c.fresh :=
  msixDone_keeps (f := Chip.fresh) ⟨fun _ _ => rfl, fun _ _ => rfl⟩ _ _ c
@[simp] theorem settle_resp (c : Chip) : c.settle.resp = c.resp :=
  msixDone_keeps (f := Chip.resp) ⟨fun _ _ => rfl, fun _ _ => rfl⟩ _ _ c
@[simp] theorem settle_domains (c : Chip) : c.settle.domains = c.domains :=
  msixDone_keeps (f := Chip.domains) ⟨fun _ _ => rfl, fun _ _ => rfl⟩ _ _ c
@[simp] theorem settle_mem (c : Chip) : c.settle.mem = c.mem :=
  msixDone_keeps (f := Chip.mem) ⟨fun _ _ => rfl, fun _ _ => rfl⟩ _ _ c
@[simp] theorem settle_ecc (c : Chip) : c.settle.ecc = c.ecc :=
  msixDone_keeps (f := Chip.ecc) ⟨fun _ _ => rfl, fun _ _ => rfl⟩ _ _ c
@[simp] theorem settle_regs (c : Chip) : c.settle.regs = c.regs :=
  msixDone_keeps (f := Chip.regs) ⟨fun _ _ => rfl, fun _ _ => rfl⟩ _ _ c
@[simp] theorem settle_tiles (c : Chip) : c.settle.tiles = c.tiles :=
  msixDone_keeps (f := Chip.tiles) ⟨fun _ _ => rfl, fun _ _ => rfl⟩ _ _ c
@[simp] theorem settle_seq (c : Chip) : c.settle.seq = c.seq :=
  msixDone_keeps (f := Chip.seq) ⟨fun _ _ => rfl, fun _ _ => rfl⟩ _ _ c
@[simp] theorem settle_grn (c : Chip) : c.settle.grn = c.grn :=
  msixDone_keeps (f := Chip.grn) ⟨fun _ _ => rfl, fun _ _ => rfl⟩ _ _ c
@[simp] theorem settle_trace (c : Chip) : c.settle.trace = c.trace :=
  msixDone_keeps (f := Chip.trace) ⟨fun _ _ => rfl, fun _ _ => rfl⟩ _ _ c
@[simp] theorem settle_time (c : Chip) : c.settle.time = c.time :=
  msixDone_keeps (f := Chip.time) ⟨fun _ _ => rfl, fun _ _ => rfl⟩ _ _ c
@[simp] theorem settle_od (c : Chip) : c.settle.od = c.od :=
  msixDone_keeps (f := Chip.od) ⟨fun _ _ => rfl, fun _ _ => rfl⟩ _ _ c
@[simp] theorem settle_pow (c : Chip) : c.settle.pow = c.pow :=
  msixDone_keeps (f := Chip.pow) ⟨fun _ _ => rfl, fun _ _ => rfl⟩ _ _ c
@[simp] theorem settle_dram (c : Chip) : c.settle.dram = c.dram :=
  msixDone_keeps (f := Chip.dram) ⟨fun _ _ => rfl, fun _ _ => rfl⟩ _ _ c
@[simp] theorem settle_cap (c : Chip) : c.settle.cap = c.cap :=
  msixDone_keeps (f := Chip.cap) ⟨fun _ _ => rfl, fun _ _ => rfl⟩ _ _ c
@[simp] theorem settle_pkr (c : Chip) : c.settle.pkr = c.pkr :=
  msixDone_keeps (f := Chip.pkr) ⟨fun _ _ => rfl, fun _ _ => rfl⟩ _ _ c
@[simp] theorem settle_ev (c : Chip) : c.settle.ev = c.ev :=
  msixDone_keeps (f := Chip.ev) ⟨fun _ _ => rfl, fun _ _ => rfl⟩ _ _ c
@[simp] theorem settle_su (c : Chip) : c.settle.su = c.su :=
  msixDone_keeps (f := Chip.su) ⟨fun _ _ => rfl, fun _ _ => rfl⟩ _ _ c
@[simp] theorem settle_xspi (c : Chip) : c.settle.xspi = c.xspi :=
  msixDone_keeps (f := Chip.xspi) ⟨fun _ _ => rfl, fun _ _ => rfl⟩ _ _ c
@[simp] theorem settle_silo (c : Chip) : c.settle.silo = c.silo :=
  msixDone_keeps (f := Chip.silo) ⟨fun _ _ => rfl, fun _ _ => rfl⟩ _ _ c
@[simp] theorem settle_life (c : Chip) : c.settle.life = c.life :=
  msixDone_keeps (f := Chip.life) ⟨fun _ _ => rfl, fun _ _ => rfl⟩ _ _ c
@[simp] theorem settle_sw (c : Chip) : c.settle.sw = c.sw :=
  msixDone_keeps (f := Chip.sw) ⟨fun _ _ => rfl, fun _ _ => rfl⟩ _ _ c
@[simp] theorem settle_eth (c : Chip) : c.settle.eth = c.eth :=
  msixDone_keeps (f := Chip.eth) ⟨fun _ _ => rfl, fun _ _ => rfl⟩ _ _ c
@[simp] theorem settle_weave (c : Chip) : c.settle.weave = c.weave :=
  msixDone_keeps (f := Chip.weave) ⟨fun _ _ => rfl, fun _ _ => rfl⟩ _ _ c
@[simp] theorem settle_dbg (c : Chip) : c.settle.dbg = c.dbg :=
  msixDone_keeps (f := Chip.dbg) ⟨fun _ _ => rfl, fun _ _ => rfl⟩ _ _ c
@[simp] theorem settle_wdt (c : Chip) : c.settle.wdt = c.wdt :=
  msixDone_keeps (f := Chip.wdt) ⟨fun _ _ => rfl, fun _ _ => rfl⟩ _ _ c
@[simp] theorem settle_noc (c : Chip) : c.settle.noc = c.noc :=
  msixDone_keeps (f := Chip.noc) ⟨fun _ _ => rfl, fun _ _ => rfl⟩ _ _ c
@[simp] theorem settle_spin (c : Chip) : c.settle.spin = c.spin :=
  msixDone_keeps (f := Chip.spin) ⟨fun _ _ => rfl, fun _ _ => rfl⟩ _ _ c
@[simp] theorem settle_can (c : Chip) : c.settle.can = c.can :=
  msixDone_keeps (f := Chip.can) ⟨fun _ _ => rfl, fun _ _ => rfl⟩ _ _ c
@[simp] theorem settle_lines (c : Chip) : c.settle.lines = distaffLines c := rfl
@[simp] theorem settle_hostUp (c : Chip) : c.settle.hostUp = hostLines c := rfl
@[simp] theorem settle_core (c : Chip) : c.settle.core = { c.core with gorl := c.seq.gor } := by
  have h1 := msixDone_keeps (f := Chip.core) ⟨fun _ _ => rfl, fun _ _ => rfl⟩ ((hostLines c).filter (fun v => !c.hostUp.contains v))
    (hostLines c) c
  have h2 := msixDone_keeps (f := Chip.seq) ⟨fun _ _ => rfl, fun _ _ => rfl⟩ ((hostLines c).filter (fun v => !c.hostUp.contains v))
    (hostLines c) c
  unfold Chip.settle
  simp only [h1, h2]
@[simp] theorem settle_reg (c : Chip) (a : Nat) : c.settle.reg a = c.reg a := reg_congr (settle_regs c) a
@[simp] theorem settle_bit (c : Chip) (a i : Nat) : c.settle.bit a i = c.bit a i := bit_congr (settle_regs c) a i
@[simp] theorem settle_rd8 (c : Chip) (a : Nat) : c.settle.rd8 a = c.rd8 a := by unfold Chip.rd8; rw [settle_mem]

theorem pendingOf_congr {c c' : Chip} (h : c'.regs = c.regs) (b : Nat) : pendingOf c' b = pendingOf c b := by
  unfold pendingOf; simp only [reg_congr h]
theorem distaffLines_congr {c c' : Chip} (h : c'.regs = c.regs) : distaffLines c' = distaffLines c := by
  have h1 : ∀ L, linePending c' L = linePending c L := by
    intro L; unfold linePending distaffLine; simp only [pendingOf_congr h, bit_congr h, fld_congr h]
  unfold distaffLines; simp only [h1]
theorem hostLines_congr {c c' : Chip} (h : c'.regs = c.regs) : hostLines c' = hostLines c := by
  unfold hostLines; simp only [pendingOf_congr h, bit_congr h, fld_congr h]

/-- Whatever a command did, settling makes the lines follow the pending bits and routes. -/
theorem settled_settle (c : Chip) : Settled c.settle := by
  refine ⟨?_, ?_, ?_⟩
  · rw [settle_lines, distaffLines_congr (settle_regs c)]
  · rw [settle_hostUp, hostLines_congr (settle_regs c)]
  · simp

/-! ### Raising an event -/

theorem iteKeeps {α β : Type} (f : α → β) {p : Prop} [Decidable p] {a b : α} {x : β} (h1 : f a = x) (h2 : f b = x) :
    f (if p then a else b) = x := by split <;> assumption

/-- A view of the chip that does not depend on the register file, the dictionary, the trace unit and the lifetime records. -/
structure RaiseBlind {β : Type} (f : Chip → β) : Prop where
  regs  : ∀ (d : Chip) (x : List (Nat × Word)), f { d with regs := x } = f d
  od    : ∀ (d : Chip) (x : Dictionary), f { d with od := x } = f d
  trace : ∀ (d : Chip) (x : Trace), f { d with trace := x } = f d
  life  : ∀ (d : Chip) (x : Life), f { d with life := x } = f d

theorem emcy_keeps {β : Type} {f : Chip → β} (h : RaiseBlind f) (c : Chip) (i : Nat) : f (c.emcy i) = f c :=
  iteKeeps f (h.regs c _) (h.od c _)
theorem raiseOnly_keeps {β : Type} {f : Chip → β} (h : RaiseBlind f) (c : Chip) (i : Nat) : f (c.raiseOnly i) = f c := by
  unfold Chip.raiseOnly
  have h1 : f ((c.setVecBit (Reg.EVT_DPENDk 0) i true).setVecBit (Reg.EVT_HPENDk 0) i true) = f c :=
    (h.regs _ _).trans (h.regs _ _)
  generalize (c.setVecBit (Reg.EVT_DPENDk 0) i true).setVecBit (Reg.EVT_HPENDk 0) i true = c1 at h1 ⊢
  dsimp only
  have h2 : f (if c1.bit (Reg.EVT_ROUTEi i) 31 = true then c1.emcy i else c1) = f c :=
    iteKeeps f ((emcy_keeps h _ _).trans h1) h1
  generalize (if c1.bit (Reg.EVT_ROUTEi i) 31 = true then c1.emcy i else c1) = c2 at h2 ⊢
  exact iteKeeps f ((h.trace _ _).trans h2) h2
theorem lifeAdd_keeps {β : Type} {f : Chip → β} (h : RaiseBlind f) (c : Chip) (k n : Nat) : f (c.lifeAdd k n) = f c := by
  unfold Chip.lifeAdd
  refine iteKeeps f rfl (iteKeeps f (h.life _ _) ?_)
  unfold Chip.lifeApply
  exact iteKeeps f ((raiseOnly_keeps h _ _).trans ((h.regs _ _).trans (h.life _ _))) (h.life _ _)
/-- Raising an event leaves everything but the register file, the dictionary, the trace unit and the lifetime records. -/
theorem raise_keeps {β : Type} {f : Chip → β} (h : RaiseBlind f) (c : Chip) (i : Nat) : f (c.raise i) = f c := by
  unfold Chip.raise; split
  · exact (lifeAdd_keeps h _ _ _).trans (raiseOnly_keeps h _ _)
  · exact raiseOnly_keeps h _ _
theorem raiseIf_keeps {β : Type} {f : Chip → β} (h : RaiseBlind f) (c : Chip) (b : Bool) (i : Nat) : f (c.raiseIf b i) = f c :=
  iteKeeps f (raise_keeps h _ _) rfl

theorem raiseBlind_is08X : RaiseBlind Chip.is08X := ⟨fun _ _ => rfl, fun _ _ => rfl, fun _ _ => rfl, fun _ _ => rfl⟩
@[simp] theorem raise_is08X (c : Chip) (i : Nat) : (c.raise i).is08X = c.is08X := raise_keeps raiseBlind_is08X c i
@[simp] theorem raiseIf_is08X (c : Chip) (b : Bool) (i : Nat) : (c.raiseIf b i).is08X = c.is08X := raiseIf_keeps raiseBlind_is08X c b i
@[simp] theorem lifeAdd_is08X (c : Chip) (k n : Nat) : (c.lifeAdd k n).is08X = c.is08X := lifeAdd_keeps raiseBlind_is08X c k n
theorem raiseBlind_mgrSel : RaiseBlind Chip.mgrSel := ⟨fun _ _ => rfl, fun _ _ => rfl, fun _ _ => rfl, fun _ _ => rfl⟩
@[simp] theorem raise_mgrSel (c : Chip) (i : Nat) : (c.raise i).mgrSel = c.mgrSel := raise_keeps raiseBlind_mgrSel c i
@[simp] theorem raiseIf_mgrSel (c : Chip) (b : Bool) (i : Nat) : (c.raiseIf b i).mgrSel = c.mgrSel := raiseIf_keeps raiseBlind_mgrSel c b i
@[simp] theorem lifeAdd_mgrSel (c : Chip) (k n : Nat) : (c.lifeAdd k n).mgrSel = c.mgrSel := lifeAdd_keeps raiseBlind_mgrSel c k n
theorem raiseBlind_deviceNo : RaiseBlind Chip.deviceNo := ⟨fun _ _ => rfl, fun _ _ => rfl, fun _ _ => rfl, fun _ _ => rfl⟩
@[simp] theorem raise_deviceNo (c : Chip) (i : Nat) : (c.raise i).deviceNo = c.deviceNo := raise_keeps raiseBlind_deviceNo c i
@[simp] theorem raiseIf_deviceNo (c : Chip) (b : Bool) (i : Nat) : (c.raiseIf b i).deviceNo = c.deviceNo := raiseIf_keeps raiseBlind_deviceNo c b i
@[simp] theorem lifeAdd_deviceNo (c : Chip) (k n : Nat) : (c.lifeAdd k n).deviceNo = c.deviceNo := lifeAdd_keeps raiseBlind_deviceNo c k n
theorem raiseBlind_ns : RaiseBlind Chip.ns := ⟨fun _ _ => rfl, fun _ _ => rfl, fun _ _ => rfl, fun _ _ => rfl⟩
@[simp] theorem raise_ns (c : Chip) (i : Nat) : (c.raise i).ns = c.ns := raise_keeps raiseBlind_ns c i
@[simp] theorem raiseIf_ns (c : Chip) (b : Bool) (i : Nat) : (c.raiseIf b i).ns = c.ns := raiseIf_keeps raiseBlind_ns c b i
@[simp] theorem lifeAdd_ns (c : Chip) (k n : Nat) : (c.lifeAdd k n).ns = c.ns := lifeAdd_keeps raiseBlind_ns c k n
theorem raiseBlind_fresh : RaiseBlind Chip.fresh := ⟨fun _ _ => rfl, fun _ _ => rfl, fun _ _ => rfl, fun _ _ => rfl⟩
@[simp] theorem raise_fresh (c : Chip) (i : Nat) : (c.raise i).fresh = c.fresh := raise_keeps raiseBlind_fresh c i
@[simp] theorem raiseIf_fresh (c : Chip) (b : Bool) (i : Nat) : (c.raiseIf b i).fresh = c.fresh := raiseIf_keeps raiseBlind_fresh c b i
@[simp] theorem lifeAdd_fresh (c : Chip) (k n : Nat) : (c.lifeAdd k n).fresh = c.fresh := lifeAdd_keeps raiseBlind_fresh c k n
theorem raiseBlind_resp : RaiseBlind Chip.resp := ⟨fun _ _ => rfl, fun _ _ => rfl, fun _ _ => rfl, fun _ _ => rfl⟩
@[simp] theorem raise_resp (c : Chip) (i : Nat) : (c.raise i).resp = c.resp := raise_keeps raiseBlind_resp c i
@[simp] theorem raiseIf_resp (c : Chip) (b : Bool) (i : Nat) : (c.raiseIf b i).resp = c.resp := raiseIf_keeps raiseBlind_resp c b i
@[simp] theorem lifeAdd_resp (c : Chip) (k n : Nat) : (c.lifeAdd k n).resp = c.resp := lifeAdd_keeps raiseBlind_resp c k n
theorem raiseBlind_domains : RaiseBlind Chip.domains := ⟨fun _ _ => rfl, fun _ _ => rfl, fun _ _ => rfl, fun _ _ => rfl⟩
@[simp] theorem raise_domains (c : Chip) (i : Nat) : (c.raise i).domains = c.domains := raise_keeps raiseBlind_domains c i
@[simp] theorem raiseIf_domains (c : Chip) (b : Bool) (i : Nat) : (c.raiseIf b i).domains = c.domains := raiseIf_keeps raiseBlind_domains c b i
@[simp] theorem lifeAdd_domains (c : Chip) (k n : Nat) : (c.lifeAdd k n).domains = c.domains := lifeAdd_keeps raiseBlind_domains c k n
theorem raiseBlind_mem : RaiseBlind Chip.mem := ⟨fun _ _ => rfl, fun _ _ => rfl, fun _ _ => rfl, fun _ _ => rfl⟩
@[simp] theorem raise_mem (c : Chip) (i : Nat) : (c.raise i).mem = c.mem := raise_keeps raiseBlind_mem c i
@[simp] theorem raiseIf_mem (c : Chip) (b : Bool) (i : Nat) : (c.raiseIf b i).mem = c.mem := raiseIf_keeps raiseBlind_mem c b i
@[simp] theorem lifeAdd_mem (c : Chip) (k n : Nat) : (c.lifeAdd k n).mem = c.mem := lifeAdd_keeps raiseBlind_mem c k n
theorem raiseBlind_ecc : RaiseBlind Chip.ecc := ⟨fun _ _ => rfl, fun _ _ => rfl, fun _ _ => rfl, fun _ _ => rfl⟩
@[simp] theorem raise_ecc (c : Chip) (i : Nat) : (c.raise i).ecc = c.ecc := raise_keeps raiseBlind_ecc c i
@[simp] theorem raiseIf_ecc (c : Chip) (b : Bool) (i : Nat) : (c.raiseIf b i).ecc = c.ecc := raiseIf_keeps raiseBlind_ecc c b i
@[simp] theorem lifeAdd_ecc (c : Chip) (k n : Nat) : (c.lifeAdd k n).ecc = c.ecc := lifeAdd_keeps raiseBlind_ecc c k n
theorem raiseBlind_lines : RaiseBlind Chip.lines := ⟨fun _ _ => rfl, fun _ _ => rfl, fun _ _ => rfl, fun _ _ => rfl⟩
@[simp] theorem raise_lines (c : Chip) (i : Nat) : (c.raise i).lines = c.lines := raise_keeps raiseBlind_lines c i
@[simp] theorem raiseIf_lines (c : Chip) (b : Bool) (i : Nat) : (c.raiseIf b i).lines = c.lines := raiseIf_keeps raiseBlind_lines c b i
@[simp] theorem lifeAdd_lines (c : Chip) (k n : Nat) : (c.lifeAdd k n).lines = c.lines := lifeAdd_keeps raiseBlind_lines c k n
theorem raiseBlind_hostUp : RaiseBlind Chip.hostUp := ⟨fun _ _ => rfl, fun _ _ => rfl, fun _ _ => rfl, fun _ _ => rfl⟩
@[simp] theorem raise_hostUp (c : Chip) (i : Nat) : (c.raise i).hostUp = c.hostUp := raise_keeps raiseBlind_hostUp c i
@[simp] theorem raiseIf_hostUp (c : Chip) (b : Bool) (i : Nat) : (c.raiseIf b i).hostUp = c.hostUp := raiseIf_keeps raiseBlind_hostUp c b i
@[simp] theorem lifeAdd_hostUp (c : Chip) (k n : Nat) : (c.lifeAdd k n).hostUp = c.hostUp := lifeAdd_keeps raiseBlind_hostUp c k n
theorem raiseBlind_msix : RaiseBlind Chip.msix := ⟨fun _ _ => rfl, fun _ _ => rfl, fun _ _ => rfl, fun _ _ => rfl⟩
@[simp] theorem raise_msix (c : Chip) (i : Nat) : (c.raise i).msix = c.msix := raise_keeps raiseBlind_msix c i
@[simp] theorem raiseIf_msix (c : Chip) (b : Bool) (i : Nat) : (c.raiseIf b i).msix = c.msix := raiseIf_keeps raiseBlind_msix c b i
@[simp] theorem lifeAdd_msix (c : Chip) (k n : Nat) : (c.lifeAdd k n).msix = c.msix := lifeAdd_keeps raiseBlind_msix c k n
theorem raiseBlind_tiles : RaiseBlind Chip.tiles := ⟨fun _ _ => rfl, fun _ _ => rfl, fun _ _ => rfl, fun _ _ => rfl⟩
@[simp] theorem raise_tiles (c : Chip) (i : Nat) : (c.raise i).tiles = c.tiles := raise_keeps raiseBlind_tiles c i
@[simp] theorem raiseIf_tiles (c : Chip) (b : Bool) (i : Nat) : (c.raiseIf b i).tiles = c.tiles := raiseIf_keeps raiseBlind_tiles c b i
@[simp] theorem lifeAdd_tiles (c : Chip) (k n : Nat) : (c.lifeAdd k n).tiles = c.tiles := lifeAdd_keeps raiseBlind_tiles c k n
theorem raiseBlind_seq : RaiseBlind Chip.seq := ⟨fun _ _ => rfl, fun _ _ => rfl, fun _ _ => rfl, fun _ _ => rfl⟩
@[simp] theorem raise_seq (c : Chip) (i : Nat) : (c.raise i).seq = c.seq := raise_keeps raiseBlind_seq c i
@[simp] theorem raiseIf_seq (c : Chip) (b : Bool) (i : Nat) : (c.raiseIf b i).seq = c.seq := raiseIf_keeps raiseBlind_seq c b i
@[simp] theorem lifeAdd_seq (c : Chip) (k n : Nat) : (c.lifeAdd k n).seq = c.seq := lifeAdd_keeps raiseBlind_seq c k n
theorem raiseBlind_grn : RaiseBlind Chip.grn := ⟨fun _ _ => rfl, fun _ _ => rfl, fun _ _ => rfl, fun _ _ => rfl⟩
@[simp] theorem raise_grn (c : Chip) (i : Nat) : (c.raise i).grn = c.grn := raise_keeps raiseBlind_grn c i
@[simp] theorem raiseIf_grn (c : Chip) (b : Bool) (i : Nat) : (c.raiseIf b i).grn = c.grn := raiseIf_keeps raiseBlind_grn c b i
@[simp] theorem lifeAdd_grn (c : Chip) (k n : Nat) : (c.lifeAdd k n).grn = c.grn := lifeAdd_keeps raiseBlind_grn c k n
theorem raiseBlind_time : RaiseBlind Chip.time := ⟨fun _ _ => rfl, fun _ _ => rfl, fun _ _ => rfl, fun _ _ => rfl⟩
@[simp] theorem raise_time (c : Chip) (i : Nat) : (c.raise i).time = c.time := raise_keeps raiseBlind_time c i
@[simp] theorem raiseIf_time (c : Chip) (b : Bool) (i : Nat) : (c.raiseIf b i).time = c.time := raiseIf_keeps raiseBlind_time c b i
@[simp] theorem lifeAdd_time (c : Chip) (k n : Nat) : (c.lifeAdd k n).time = c.time := lifeAdd_keeps raiseBlind_time c k n
theorem raiseBlind_pow : RaiseBlind Chip.pow := ⟨fun _ _ => rfl, fun _ _ => rfl, fun _ _ => rfl, fun _ _ => rfl⟩
@[simp] theorem raise_pow (c : Chip) (i : Nat) : (c.raise i).pow = c.pow := raise_keeps raiseBlind_pow c i
@[simp] theorem raiseIf_pow (c : Chip) (b : Bool) (i : Nat) : (c.raiseIf b i).pow = c.pow := raiseIf_keeps raiseBlind_pow c b i
@[simp] theorem lifeAdd_pow (c : Chip) (k n : Nat) : (c.lifeAdd k n).pow = c.pow := lifeAdd_keeps raiseBlind_pow c k n
theorem raiseBlind_dram : RaiseBlind Chip.dram := ⟨fun _ _ => rfl, fun _ _ => rfl, fun _ _ => rfl, fun _ _ => rfl⟩
@[simp] theorem raise_dram (c : Chip) (i : Nat) : (c.raise i).dram = c.dram := raise_keeps raiseBlind_dram c i
@[simp] theorem raiseIf_dram (c : Chip) (b : Bool) (i : Nat) : (c.raiseIf b i).dram = c.dram := raiseIf_keeps raiseBlind_dram c b i
@[simp] theorem lifeAdd_dram (c : Chip) (k n : Nat) : (c.lifeAdd k n).dram = c.dram := lifeAdd_keeps raiseBlind_dram c k n
theorem raiseBlind_cap : RaiseBlind Chip.cap := ⟨fun _ _ => rfl, fun _ _ => rfl, fun _ _ => rfl, fun _ _ => rfl⟩
@[simp] theorem raise_cap (c : Chip) (i : Nat) : (c.raise i).cap = c.cap := raise_keeps raiseBlind_cap c i
@[simp] theorem raiseIf_cap (c : Chip) (b : Bool) (i : Nat) : (c.raiseIf b i).cap = c.cap := raiseIf_keeps raiseBlind_cap c b i
@[simp] theorem lifeAdd_cap (c : Chip) (k n : Nat) : (c.lifeAdd k n).cap = c.cap := lifeAdd_keeps raiseBlind_cap c k n
theorem raiseBlind_pkr : RaiseBlind Chip.pkr := ⟨fun _ _ => rfl, fun _ _ => rfl, fun _ _ => rfl, fun _ _ => rfl⟩
@[simp] theorem raise_pkr (c : Chip) (i : Nat) : (c.raise i).pkr = c.pkr := raise_keeps raiseBlind_pkr c i
@[simp] theorem raiseIf_pkr (c : Chip) (b : Bool) (i : Nat) : (c.raiseIf b i).pkr = c.pkr := raiseIf_keeps raiseBlind_pkr c b i
@[simp] theorem lifeAdd_pkr (c : Chip) (k n : Nat) : (c.lifeAdd k n).pkr = c.pkr := lifeAdd_keeps raiseBlind_pkr c k n
theorem raiseBlind_ev : RaiseBlind Chip.ev := ⟨fun _ _ => rfl, fun _ _ => rfl, fun _ _ => rfl, fun _ _ => rfl⟩
@[simp] theorem raise_ev (c : Chip) (i : Nat) : (c.raise i).ev = c.ev := raise_keeps raiseBlind_ev c i
@[simp] theorem raiseIf_ev (c : Chip) (b : Bool) (i : Nat) : (c.raiseIf b i).ev = c.ev := raiseIf_keeps raiseBlind_ev c b i
@[simp] theorem lifeAdd_ev (c : Chip) (k n : Nat) : (c.lifeAdd k n).ev = c.ev := lifeAdd_keeps raiseBlind_ev c k n
theorem raiseBlind_su : RaiseBlind Chip.su := ⟨fun _ _ => rfl, fun _ _ => rfl, fun _ _ => rfl, fun _ _ => rfl⟩
@[simp] theorem raise_su (c : Chip) (i : Nat) : (c.raise i).su = c.su := raise_keeps raiseBlind_su c i
@[simp] theorem raiseIf_su (c : Chip) (b : Bool) (i : Nat) : (c.raiseIf b i).su = c.su := raiseIf_keeps raiseBlind_su c b i
@[simp] theorem lifeAdd_su (c : Chip) (k n : Nat) : (c.lifeAdd k n).su = c.su := lifeAdd_keeps raiseBlind_su c k n
theorem raiseBlind_xspi : RaiseBlind Chip.xspi := ⟨fun _ _ => rfl, fun _ _ => rfl, fun _ _ => rfl, fun _ _ => rfl⟩
@[simp] theorem raise_xspi (c : Chip) (i : Nat) : (c.raise i).xspi = c.xspi := raise_keeps raiseBlind_xspi c i
@[simp] theorem raiseIf_xspi (c : Chip) (b : Bool) (i : Nat) : (c.raiseIf b i).xspi = c.xspi := raiseIf_keeps raiseBlind_xspi c b i
@[simp] theorem lifeAdd_xspi (c : Chip) (k n : Nat) : (c.lifeAdd k n).xspi = c.xspi := lifeAdd_keeps raiseBlind_xspi c k n
theorem raiseBlind_silo : RaiseBlind Chip.silo := ⟨fun _ _ => rfl, fun _ _ => rfl, fun _ _ => rfl, fun _ _ => rfl⟩
@[simp] theorem raise_silo (c : Chip) (i : Nat) : (c.raise i).silo = c.silo := raise_keeps raiseBlind_silo c i
@[simp] theorem raiseIf_silo (c : Chip) (b : Bool) (i : Nat) : (c.raiseIf b i).silo = c.silo := raiseIf_keeps raiseBlind_silo c b i
@[simp] theorem lifeAdd_silo (c : Chip) (k n : Nat) : (c.lifeAdd k n).silo = c.silo := lifeAdd_keeps raiseBlind_silo c k n
theorem raiseBlind_sw : RaiseBlind Chip.sw := ⟨fun _ _ => rfl, fun _ _ => rfl, fun _ _ => rfl, fun _ _ => rfl⟩
@[simp] theorem raise_sw (c : Chip) (i : Nat) : (c.raise i).sw = c.sw := raise_keeps raiseBlind_sw c i
@[simp] theorem raiseIf_sw (c : Chip) (b : Bool) (i : Nat) : (c.raiseIf b i).sw = c.sw := raiseIf_keeps raiseBlind_sw c b i
@[simp] theorem lifeAdd_sw (c : Chip) (k n : Nat) : (c.lifeAdd k n).sw = c.sw := lifeAdd_keeps raiseBlind_sw c k n
theorem raiseBlind_host : RaiseBlind Chip.host := ⟨fun _ _ => rfl, fun _ _ => rfl, fun _ _ => rfl, fun _ _ => rfl⟩
@[simp] theorem raise_host (c : Chip) (i : Nat) : (c.raise i).host = c.host := raise_keeps raiseBlind_host c i
@[simp] theorem raiseIf_host (c : Chip) (b : Bool) (i : Nat) : (c.raiseIf b i).host = c.host := raiseIf_keeps raiseBlind_host c b i
@[simp] theorem lifeAdd_host (c : Chip) (k n : Nat) : (c.lifeAdd k n).host = c.host := lifeAdd_keeps raiseBlind_host c k n
theorem raiseBlind_eth : RaiseBlind Chip.eth := ⟨fun _ _ => rfl, fun _ _ => rfl, fun _ _ => rfl, fun _ _ => rfl⟩
@[simp] theorem raise_eth (c : Chip) (i : Nat) : (c.raise i).eth = c.eth := raise_keeps raiseBlind_eth c i
@[simp] theorem raiseIf_eth (c : Chip) (b : Bool) (i : Nat) : (c.raiseIf b i).eth = c.eth := raiseIf_keeps raiseBlind_eth c b i
@[simp] theorem lifeAdd_eth (c : Chip) (k n : Nat) : (c.lifeAdd k n).eth = c.eth := lifeAdd_keeps raiseBlind_eth c k n
theorem raiseBlind_weave : RaiseBlind Chip.weave := ⟨fun _ _ => rfl, fun _ _ => rfl, fun _ _ => rfl, fun _ _ => rfl⟩
@[simp] theorem raise_weave (c : Chip) (i : Nat) : (c.raise i).weave = c.weave := raise_keeps raiseBlind_weave c i
@[simp] theorem raiseIf_weave (c : Chip) (b : Bool) (i : Nat) : (c.raiseIf b i).weave = c.weave := raiseIf_keeps raiseBlind_weave c b i
@[simp] theorem lifeAdd_weave (c : Chip) (k n : Nat) : (c.lifeAdd k n).weave = c.weave := lifeAdd_keeps raiseBlind_weave c k n
theorem raiseBlind_dbg : RaiseBlind Chip.dbg := ⟨fun _ _ => rfl, fun _ _ => rfl, fun _ _ => rfl, fun _ _ => rfl⟩
@[simp] theorem raise_dbg (c : Chip) (i : Nat) : (c.raise i).dbg = c.dbg := raise_keeps raiseBlind_dbg c i
@[simp] theorem raiseIf_dbg (c : Chip) (b : Bool) (i : Nat) : (c.raiseIf b i).dbg = c.dbg := raiseIf_keeps raiseBlind_dbg c b i
@[simp] theorem lifeAdd_dbg (c : Chip) (k n : Nat) : (c.lifeAdd k n).dbg = c.dbg := lifeAdd_keeps raiseBlind_dbg c k n
theorem raiseBlind_wdt : RaiseBlind Chip.wdt := ⟨fun _ _ => rfl, fun _ _ => rfl, fun _ _ => rfl, fun _ _ => rfl⟩
@[simp] theorem raise_wdt (c : Chip) (i : Nat) : (c.raise i).wdt = c.wdt := raise_keeps raiseBlind_wdt c i
@[simp] theorem raiseIf_wdt (c : Chip) (b : Bool) (i : Nat) : (c.raiseIf b i).wdt = c.wdt := raiseIf_keeps raiseBlind_wdt c b i
@[simp] theorem lifeAdd_wdt (c : Chip) (k n : Nat) : (c.lifeAdd k n).wdt = c.wdt := lifeAdd_keeps raiseBlind_wdt c k n
theorem raiseBlind_noc : RaiseBlind Chip.noc := ⟨fun _ _ => rfl, fun _ _ => rfl, fun _ _ => rfl, fun _ _ => rfl⟩
@[simp] theorem raise_noc (c : Chip) (i : Nat) : (c.raise i).noc = c.noc := raise_keeps raiseBlind_noc c i
@[simp] theorem raiseIf_noc (c : Chip) (b : Bool) (i : Nat) : (c.raiseIf b i).noc = c.noc := raiseIf_keeps raiseBlind_noc c b i
@[simp] theorem lifeAdd_noc (c : Chip) (k n : Nat) : (c.lifeAdd k n).noc = c.noc := lifeAdd_keeps raiseBlind_noc c k n
theorem raiseBlind_core : RaiseBlind Chip.core := ⟨fun _ _ => rfl, fun _ _ => rfl, fun _ _ => rfl, fun _ _ => rfl⟩
@[simp] theorem raise_core (c : Chip) (i : Nat) : (c.raise i).core = c.core := raise_keeps raiseBlind_core c i
@[simp] theorem raiseIf_core (c : Chip) (b : Bool) (i : Nat) : (c.raiseIf b i).core = c.core := raiseIf_keeps raiseBlind_core c b i
@[simp] theorem lifeAdd_core (c : Chip) (k n : Nat) : (c.lifeAdd k n).core = c.core := lifeAdd_keeps raiseBlind_core c k n
theorem raiseBlind_spin : RaiseBlind Chip.spin := ⟨fun _ _ => rfl, fun _ _ => rfl, fun _ _ => rfl, fun _ _ => rfl⟩
@[simp] theorem raise_spin (c : Chip) (i : Nat) : (c.raise i).spin = c.spin := raise_keeps raiseBlind_spin c i
@[simp] theorem raiseIf_spin (c : Chip) (b : Bool) (i : Nat) : (c.raiseIf b i).spin = c.spin := raiseIf_keeps raiseBlind_spin c b i
@[simp] theorem lifeAdd_spin (c : Chip) (k n : Nat) : (c.lifeAdd k n).spin = c.spin := lifeAdd_keeps raiseBlind_spin c k n
theorem raiseBlind_can : RaiseBlind Chip.can := ⟨fun _ _ => rfl, fun _ _ => rfl, fun _ _ => rfl, fun _ _ => rfl⟩
@[simp] theorem raise_can (c : Chip) (i : Nat) : (c.raise i).can = c.can := raise_keeps raiseBlind_can c i
@[simp] theorem raiseIf_can (c : Chip) (b : Bool) (i : Nat) : (c.raiseIf b i).can = c.can := raiseIf_keeps raiseBlind_can c b i
@[simp] theorem lifeAdd_can (c : Chip) (k n : Nat) : (c.lifeAdd k n).can = c.can := lifeAdd_keeps raiseBlind_can c k n

end Sys2Proof.Machine
end

