-- ==== Sys2Proof/Laws/Updates.lean ====
section
/-!
SUPPORT. What the updates of one unit of the chip leave of the others: one lemma for each field and update.
-/
namespace Sys2Proof.Machine

@[simp] theorem Chip.setTile_is08X (c : Chip) (t : Nat) (x : Tile) : (c.setTile t x).is08X = c.is08X := rfl
@[simp] theorem Chip.setTile_mgrSel (c : Chip) (t : Nat) (x : Tile) : (c.setTile t x).mgrSel = c.mgrSel := rfl
@[simp] theorem Chip.setTile_deviceNo (c : Chip) (t : Nat) (x : Tile) : (c.setTile t x).deviceNo = c.deviceNo := rfl
@[simp] theorem Chip.setTile_ns (c : Chip) (t : Nat) (x : Tile) : (c.setTile t x).ns = c.ns := rfl
@[simp] theorem Chip.setTile_fresh (c : Chip) (t : Nat) (x : Tile) : (c.setTile t x).fresh = c.fresh := rfl
@[simp] theorem Chip.setTile_resp (c : Chip) (t : Nat) (x : Tile) : (c.setTile t x).resp = c.resp := rfl
@[simp] theorem Chip.setTile_domains (c : Chip) (t : Nat) (x : Tile) : (c.setTile t x).domains = c.domains := rfl
@[simp] theorem Chip.setTile_mem (c : Chip) (t : Nat) (x : Tile) : (c.setTile t x).mem = c.mem := rfl
@[simp] theorem Chip.setTile_ecc (c : Chip) (t : Nat) (x : Tile) : (c.setTile t x).ecc = c.ecc := rfl
@[simp] theorem Chip.setTile_regs (c : Chip) (t : Nat) (x : Tile) : (c.setTile t x).regs = c.regs := rfl
@[simp] theorem Chip.setTile_lines (c : Chip) (t : Nat) (x : Tile) : (c.setTile t x).lines = c.lines := rfl
@[simp] theorem Chip.setTile_hostUp (c : Chip) (t : Nat) (x : Tile) : (c.setTile t x).hostUp = c.hostUp := rfl
@[simp] theorem Chip.setTile_msix (c : Chip) (t : Nat) (x : Tile) : (c.setTile t x).msix = c.msix := rfl
@[simp] theorem Chip.setTile_seq (c : Chip) (t : Nat) (x : Tile) : (c.setTile t x).seq = c.seq := rfl
@[simp] theorem Chip.setTile_grn (c : Chip) (t : Nat) (x : Tile) : (c.setTile t x).grn = c.grn := rfl
@[simp] theorem Chip.setTile_trace (c : Chip) (t : Nat) (x : Tile) : (c.setTile t x).trace = c.trace := rfl
@[simp] theorem Chip.setTile_time (c : Chip) (t : Nat) (x : Tile) : (c.setTile t x).time = c.time := rfl
@[simp] theorem Chip.setTile_od (c : Chip) (t : Nat) (x : Tile) : (c.setTile t x).od = c.od := rfl
@[simp] theorem Chip.setTile_pow (c : Chip) (t : Nat) (x : Tile) : (c.setTile t x).pow = c.pow := rfl
@[simp] theorem Chip.setTile_dram (c : Chip) (t : Nat) (x : Tile) : (c.setTile t x).dram = c.dram := rfl
@[simp] theorem Chip.setTile_cap (c : Chip) (t : Nat) (x : Tile) : (c.setTile t x).cap = c.cap := rfl
@[simp] theorem Chip.setTile_pkr (c : Chip) (t : Nat) (x : Tile) : (c.setTile t x).pkr = c.pkr := rfl
@[simp] theorem Chip.setTile_ev (c : Chip) (t : Nat) (x : Tile) : (c.setTile t x).ev = c.ev := rfl
@[simp] theorem Chip.setTile_su (c : Chip) (t : Nat) (x : Tile) : (c.setTile t x).su = c.su := rfl
@[simp] theorem Chip.setTile_xspi (c : Chip) (t : Nat) (x : Tile) : (c.setTile t x).xspi = c.xspi := rfl
@[simp] theorem Chip.setTile_silo (c : Chip) (t : Nat) (x : Tile) : (c.setTile t x).silo = c.silo := rfl
@[simp] theorem Chip.setTile_life (c : Chip) (t : Nat) (x : Tile) : (c.setTile t x).life = c.life := rfl
@[simp] theorem Chip.setTile_sw (c : Chip) (t : Nat) (x : Tile) : (c.setTile t x).sw = c.sw := rfl
@[simp] theorem Chip.setTile_host (c : Chip) (t : Nat) (x : Tile) : (c.setTile t x).host = c.host := rfl
@[simp] theorem Chip.setTile_eth (c : Chip) (t : Nat) (x : Tile) : (c.setTile t x).eth = c.eth := rfl
@[simp] theorem Chip.setTile_weave (c : Chip) (t : Nat) (x : Tile) : (c.setTile t x).weave = c.weave := rfl
@[simp] theorem Chip.setTile_dbg (c : Chip) (t : Nat) (x : Tile) : (c.setTile t x).dbg = c.dbg := rfl
@[simp] theorem Chip.setTile_wdt (c : Chip) (t : Nat) (x : Tile) : (c.setTile t x).wdt = c.wdt := rfl
@[simp] theorem Chip.setTile_noc (c : Chip) (t : Nat) (x : Tile) : (c.setTile t x).noc = c.noc := rfl
@[simp] theorem Chip.setTile_core (c : Chip) (t : Nat) (x : Tile) : (c.setTile t x).core = c.core := rfl
@[simp] theorem Chip.setTile_spin (c : Chip) (t : Nat) (x : Tile) : (c.setTile t x).spin = c.spin := rfl
@[simp] theorem Chip.setTile_can (c : Chip) (t : Nat) (x : Tile) : (c.setTile t x).can = c.can := rfl

@[simp] theorem Chip.onTile_is08X (c : Chip) (t : Nat) (f : Tile → Tile) : (c.onTile t f).is08X = c.is08X := rfl
@[simp] theorem Chip.onTile_mgrSel (c : Chip) (t : Nat) (f : Tile → Tile) : (c.onTile t f).mgrSel = c.mgrSel := rfl
@[simp] theorem Chip.onTile_deviceNo (c : Chip) (t : Nat) (f : Tile → Tile) : (c.onTile t f).deviceNo = c.deviceNo := rfl
@[simp] theorem Chip.onTile_ns (c : Chip) (t : Nat) (f : Tile → Tile) : (c.onTile t f).ns = c.ns := rfl
@[simp] theorem Chip.onTile_fresh (c : Chip) (t : Nat) (f : Tile → Tile) : (c.onTile t f).fresh = c.fresh := rfl
@[simp] theorem Chip.onTile_resp (c : Chip) (t : Nat) (f : Tile → Tile) : (c.onTile t f).resp = c.resp := rfl
@[simp] theorem Chip.onTile_domains (c : Chip) (t : Nat) (f : Tile → Tile) : (c.onTile t f).domains = c.domains := rfl
@[simp] theorem Chip.onTile_mem (c : Chip) (t : Nat) (f : Tile → Tile) : (c.onTile t f).mem = c.mem := rfl
@[simp] theorem Chip.onTile_ecc (c : Chip) (t : Nat) (f : Tile → Tile) : (c.onTile t f).ecc = c.ecc := rfl
@[simp] theorem Chip.onTile_regs (c : Chip) (t : Nat) (f : Tile → Tile) : (c.onTile t f).regs = c.regs := rfl
@[simp] theorem Chip.onTile_lines (c : Chip) (t : Nat) (f : Tile → Tile) : (c.onTile t f).lines = c.lines := rfl
@[simp] theorem Chip.onTile_hostUp (c : Chip) (t : Nat) (f : Tile → Tile) : (c.onTile t f).hostUp = c.hostUp := rfl
@[simp] theorem Chip.onTile_msix (c : Chip) (t : Nat) (f : Tile → Tile) : (c.onTile t f).msix = c.msix := rfl
@[simp] theorem Chip.onTile_seq (c : Chip) (t : Nat) (f : Tile → Tile) : (c.onTile t f).seq = c.seq := rfl
@[simp] theorem Chip.onTile_grn (c : Chip) (t : Nat) (f : Tile → Tile) : (c.onTile t f).grn = c.grn := rfl
@[simp] theorem Chip.onTile_trace (c : Chip) (t : Nat) (f : Tile → Tile) : (c.onTile t f).trace = c.trace := rfl
@[simp] theorem Chip.onTile_time (c : Chip) (t : Nat) (f : Tile → Tile) : (c.onTile t f).time = c.time := rfl
@[simp] theorem Chip.onTile_od (c : Chip) (t : Nat) (f : Tile → Tile) : (c.onTile t f).od = c.od := rfl
@[simp] theorem Chip.onTile_pow (c : Chip) (t : Nat) (f : Tile → Tile) : (c.onTile t f).pow = c.pow := rfl
@[simp] theorem Chip.onTile_dram (c : Chip) (t : Nat) (f : Tile → Tile) : (c.onTile t f).dram = c.dram := rfl
@[simp] theorem Chip.onTile_cap (c : Chip) (t : Nat) (f : Tile → Tile) : (c.onTile t f).cap = c.cap := rfl
@[simp] theorem Chip.onTile_pkr (c : Chip) (t : Nat) (f : Tile → Tile) : (c.onTile t f).pkr = c.pkr := rfl
@[simp] theorem Chip.onTile_ev (c : Chip) (t : Nat) (f : Tile → Tile) : (c.onTile t f).ev = c.ev := rfl
@[simp] theorem Chip.onTile_su (c : Chip) (t : Nat) (f : Tile → Tile) : (c.onTile t f).su = c.su := rfl
@[simp] theorem Chip.onTile_xspi (c : Chip) (t : Nat) (f : Tile → Tile) : (c.onTile t f).xspi = c.xspi := rfl
@[simp] theorem Chip.onTile_silo (c : Chip) (t : Nat) (f : Tile → Tile) : (c.onTile t f).silo = c.silo := rfl
@[simp] theorem Chip.onTile_life (c : Chip) (t : Nat) (f : Tile → Tile) : (c.onTile t f).life = c.life := rfl
@[simp] theorem Chip.onTile_sw (c : Chip) (t : Nat) (f : Tile → Tile) : (c.onTile t f).sw = c.sw := rfl
@[simp] theorem Chip.onTile_host (c : Chip) (t : Nat) (f : Tile → Tile) : (c.onTile t f).host = c.host := rfl
@[simp] theorem Chip.onTile_eth (c : Chip) (t : Nat) (f : Tile → Tile) : (c.onTile t f).eth = c.eth := rfl
@[simp] theorem Chip.onTile_weave (c : Chip) (t : Nat) (f : Tile → Tile) : (c.onTile t f).weave = c.weave := rfl
@[simp] theorem Chip.onTile_dbg (c : Chip) (t : Nat) (f : Tile → Tile) : (c.onTile t f).dbg = c.dbg := rfl
@[simp] theorem Chip.onTile_wdt (c : Chip) (t : Nat) (f : Tile → Tile) : (c.onTile t f).wdt = c.wdt := rfl
@[simp] theorem Chip.onTile_noc (c : Chip) (t : Nat) (f : Tile → Tile) : (c.onTile t f).noc = c.noc := rfl
@[simp] theorem Chip.onTile_core (c : Chip) (t : Nat) (f : Tile → Tile) : (c.onTile t f).core = c.core := rfl
@[simp] theorem Chip.onTile_spin (c : Chip) (t : Nat) (f : Tile → Tile) : (c.onTile t f).spin = c.spin := rfl
@[simp] theorem Chip.onTile_can (c : Chip) (t : Nat) (f : Tile → Tile) : (c.onTile t f).can = c.can := rfl

@[simp] theorem Chip.setRoutine_is08X (c : Chip) (r : Option Routine) : (c.setRoutine r).is08X = c.is08X := rfl
@[simp] theorem Chip.setRoutine_mgrSel (c : Chip) (r : Option Routine) : (c.setRoutine r).mgrSel = c.mgrSel := rfl
@[simp] theorem Chip.setRoutine_deviceNo (c : Chip) (r : Option Routine) : (c.setRoutine r).deviceNo = c.deviceNo := rfl
@[simp] theorem Chip.setRoutine_ns (c : Chip) (r : Option Routine) : (c.setRoutine r).ns = c.ns := rfl
@[simp] theorem Chip.setRoutine_fresh (c : Chip) (r : Option Routine) : (c.setRoutine r).fresh = c.fresh := rfl
@[simp] theorem Chip.setRoutine_resp (c : Chip) (r : Option Routine) : (c.setRoutine r).resp = c.resp := rfl
@[simp] theorem Chip.setRoutine_domains (c : Chip) (r : Option Routine) : (c.setRoutine r).domains = c.domains := rfl
@[simp] theorem Chip.setRoutine_mem (c : Chip) (r : Option Routine) : (c.setRoutine r).mem = c.mem := rfl
@[simp] theorem Chip.setRoutine_ecc (c : Chip) (r : Option Routine) : (c.setRoutine r).ecc = c.ecc := rfl
@[simp] theorem Chip.setRoutine_regs (c : Chip) (r : Option Routine) : (c.setRoutine r).regs = c.regs := rfl
@[simp] theorem Chip.setRoutine_lines (c : Chip) (r : Option Routine) : (c.setRoutine r).lines = c.lines := rfl
@[simp] theorem Chip.setRoutine_hostUp (c : Chip) (r : Option Routine) : (c.setRoutine r).hostUp = c.hostUp := rfl
@[simp] theorem Chip.setRoutine_msix (c : Chip) (r : Option Routine) : (c.setRoutine r).msix = c.msix := rfl
@[simp] theorem Chip.setRoutine_tiles (c : Chip) (r : Option Routine) : (c.setRoutine r).tiles = c.tiles := rfl
@[simp] theorem Chip.setRoutine_grn (c : Chip) (r : Option Routine) : (c.setRoutine r).grn = c.grn := rfl
@[simp] theorem Chip.setRoutine_trace (c : Chip) (r : Option Routine) : (c.setRoutine r).trace = c.trace := rfl
@[simp] theorem Chip.setRoutine_time (c : Chip) (r : Option Routine) : (c.setRoutine r).time = c.time := rfl
@[simp] theorem Chip.setRoutine_od (c : Chip) (r : Option Routine) : (c.setRoutine r).od = c.od := rfl
@[simp] theorem Chip.setRoutine_pow (c : Chip) (r : Option Routine) : (c.setRoutine r).pow = c.pow := rfl
@[simp] theorem Chip.setRoutine_dram (c : Chip) (r : Option Routine) : (c.setRoutine r).dram = c.dram := rfl
@[simp] theorem Chip.setRoutine_cap (c : Chip) (r : Option Routine) : (c.setRoutine r).cap = c.cap := rfl
@[simp] theorem Chip.setRoutine_pkr (c : Chip) (r : Option Routine) : (c.setRoutine r).pkr = c.pkr := rfl
@[simp] theorem Chip.setRoutine_ev (c : Chip) (r : Option Routine) : (c.setRoutine r).ev = c.ev := rfl
@[simp] theorem Chip.setRoutine_su (c : Chip) (r : Option Routine) : (c.setRoutine r).su = c.su := rfl
@[simp] theorem Chip.setRoutine_xspi (c : Chip) (r : Option Routine) : (c.setRoutine r).xspi = c.xspi := rfl
@[simp] theorem Chip.setRoutine_silo (c : Chip) (r : Option Routine) : (c.setRoutine r).silo = c.silo := rfl
@[simp] theorem Chip.setRoutine_life (c : Chip) (r : Option Routine) : (c.setRoutine r).life = c.life := rfl
@[simp] theorem Chip.setRoutine_sw (c : Chip) (r : Option Routine) : (c.setRoutine r).sw = c.sw := rfl
@[simp] theorem Chip.setRoutine_host (c : Chip) (r : Option Routine) : (c.setRoutine r).host = c.host := rfl
@[simp] theorem Chip.setRoutine_eth (c : Chip) (r : Option Routine) : (c.setRoutine r).eth = c.eth := rfl
@[simp] theorem Chip.setRoutine_weave (c : Chip) (r : Option Routine) : (c.setRoutine r).weave = c.weave := rfl
@[simp] theorem Chip.setRoutine_dbg (c : Chip) (r : Option Routine) : (c.setRoutine r).dbg = c.dbg := rfl
@[simp] theorem Chip.setRoutine_wdt (c : Chip) (r : Option Routine) : (c.setRoutine r).wdt = c.wdt := rfl
@[simp] theorem Chip.setRoutine_noc (c : Chip) (r : Option Routine) : (c.setRoutine r).noc = c.noc := rfl
@[simp] theorem Chip.setRoutine_core (c : Chip) (r : Option Routine) : (c.setRoutine r).core = c.core := rfl
@[simp] theorem Chip.setRoutine_spin (c : Chip) (r : Option Routine) : (c.setRoutine r).spin = c.spin := rfl
@[simp] theorem Chip.setRoutine_can (c : Chip) (r : Option Routine) : (c.setRoutine r).can = c.can := rfl

@[simp] theorem Chip.onRoutine_is08X (c : Chip) (f : Routine → Routine) : (c.onRoutine f).is08X = c.is08X := rfl
@[simp] theorem Chip.onRoutine_mgrSel (c : Chip) (f : Routine → Routine) : (c.onRoutine f).mgrSel = c.mgrSel := rfl
@[simp] theorem Chip.onRoutine_deviceNo (c : Chip) (f : Routine → Routine) : (c.onRoutine f).deviceNo = c.deviceNo := rfl
@[simp] theorem Chip.onRoutine_ns (c : Chip) (f : Routine → Routine) : (c.onRoutine f).ns = c.ns := rfl
@[simp] theorem Chip.onRoutine_fresh (c : Chip) (f : Routine → Routine) : (c.onRoutine f).fresh = c.fresh := rfl
@[simp] theorem Chip.onRoutine_resp (c : Chip) (f : Routine → Routine) : (c.onRoutine f).resp = c.resp := rfl
@[simp] theorem Chip.onRoutine_domains (c : Chip) (f : Routine → Routine) : (c.onRoutine f).domains = c.domains := rfl
@[simp] theorem Chip.onRoutine_mem (c : Chip) (f : Routine → Routine) : (c.onRoutine f).mem = c.mem := rfl
@[simp] theorem Chip.onRoutine_ecc (c : Chip) (f : Routine → Routine) : (c.onRoutine f).ecc = c.ecc := rfl
@[simp] theorem Chip.onRoutine_regs (c : Chip) (f : Routine → Routine) : (c.onRoutine f).regs = c.regs := rfl
@[simp] theorem Chip.onRoutine_lines (c : Chip) (f : Routine → Routine) : (c.onRoutine f).lines = c.lines := rfl
@[simp] theorem Chip.onRoutine_hostUp (c : Chip) (f : Routine → Routine) : (c.onRoutine f).hostUp = c.hostUp := rfl
@[simp] theorem Chip.onRoutine_msix (c : Chip) (f : Routine → Routine) : (c.onRoutine f).msix = c.msix := rfl
@[simp] theorem Chip.onRoutine_tiles (c : Chip) (f : Routine → Routine) : (c.onRoutine f).tiles = c.tiles := rfl
@[simp] theorem Chip.onRoutine_grn (c : Chip) (f : Routine → Routine) : (c.onRoutine f).grn = c.grn := rfl
@[simp] theorem Chip.onRoutine_trace (c : Chip) (f : Routine → Routine) : (c.onRoutine f).trace = c.trace := rfl
@[simp] theorem Chip.onRoutine_time (c : Chip) (f : Routine → Routine) : (c.onRoutine f).time = c.time := rfl
@[simp] theorem Chip.onRoutine_od (c : Chip) (f : Routine → Routine) : (c.onRoutine f).od = c.od := rfl
@[simp] theorem Chip.onRoutine_pow (c : Chip) (f : Routine → Routine) : (c.onRoutine f).pow = c.pow := rfl
@[simp] theorem Chip.onRoutine_dram (c : Chip) (f : Routine → Routine) : (c.onRoutine f).dram = c.dram := rfl
@[simp] theorem Chip.onRoutine_cap (c : Chip) (f : Routine → Routine) : (c.onRoutine f).cap = c.cap := rfl
@[simp] theorem Chip.onRoutine_pkr (c : Chip) (f : Routine → Routine) : (c.onRoutine f).pkr = c.pkr := rfl
@[simp] theorem Chip.onRoutine_ev (c : Chip) (f : Routine → Routine) : (c.onRoutine f).ev = c.ev := rfl
@[simp] theorem Chip.onRoutine_su (c : Chip) (f : Routine → Routine) : (c.onRoutine f).su = c.su := rfl
@[simp] theorem Chip.onRoutine_xspi (c : Chip) (f : Routine → Routine) : (c.onRoutine f).xspi = c.xspi := rfl
@[simp] theorem Chip.onRoutine_silo (c : Chip) (f : Routine → Routine) : (c.onRoutine f).silo = c.silo := rfl
@[simp] theorem Chip.onRoutine_life (c : Chip) (f : Routine → Routine) : (c.onRoutine f).life = c.life := rfl
@[simp] theorem Chip.onRoutine_sw (c : Chip) (f : Routine → Routine) : (c.onRoutine f).sw = c.sw := rfl
@[simp] theorem Chip.onRoutine_host (c : Chip) (f : Routine → Routine) : (c.onRoutine f).host = c.host := rfl
@[simp] theorem Chip.onRoutine_eth (c : Chip) (f : Routine → Routine) : (c.onRoutine f).eth = c.eth := rfl
@[simp] theorem Chip.onRoutine_weave (c : Chip) (f : Routine → Routine) : (c.onRoutine f).weave = c.weave := rfl
@[simp] theorem Chip.onRoutine_dbg (c : Chip) (f : Routine → Routine) : (c.onRoutine f).dbg = c.dbg := rfl
@[simp] theorem Chip.onRoutine_wdt (c : Chip) (f : Routine → Routine) : (c.onRoutine f).wdt = c.wdt := rfl
@[simp] theorem Chip.onRoutine_noc (c : Chip) (f : Routine → Routine) : (c.onRoutine f).noc = c.noc := rfl
@[simp] theorem Chip.onRoutine_core (c : Chip) (f : Routine → Routine) : (c.onRoutine f).core = c.core := rfl
@[simp] theorem Chip.onRoutine_spin (c : Chip) (f : Routine → Routine) : (c.onRoutine f).spin = c.spin := rfl
@[simp] theorem Chip.onRoutine_can (c : Chip) (f : Routine → Routine) : (c.onRoutine f).can = c.can := rfl

@[simp] theorem Chip.setQueue_is08X (c : Chip) (q : List DWord) : (c.setQueue q).is08X = c.is08X := rfl
@[simp] theorem Chip.setQueue_mgrSel (c : Chip) (q : List DWord) : (c.setQueue q).mgrSel = c.mgrSel := rfl
@[simp] theorem Chip.setQueue_deviceNo (c : Chip) (q : List DWord) : (c.setQueue q).deviceNo = c.deviceNo := rfl
@[simp] theorem Chip.setQueue_ns (c : Chip) (q : List DWord) : (c.setQueue q).ns = c.ns := rfl
@[simp] theorem Chip.setQueue_fresh (c : Chip) (q : List DWord) : (c.setQueue q).fresh = c.fresh := rfl
@[simp] theorem Chip.setQueue_resp (c : Chip) (q : List DWord) : (c.setQueue q).resp = c.resp := rfl
@[simp] theorem Chip.setQueue_domains (c : Chip) (q : List DWord) : (c.setQueue q).domains = c.domains := rfl
@[simp] theorem Chip.setQueue_mem (c : Chip) (q : List DWord) : (c.setQueue q).mem = c.mem := rfl
@[simp] theorem Chip.setQueue_ecc (c : Chip) (q : List DWord) : (c.setQueue q).ecc = c.ecc := rfl
@[simp] theorem Chip.setQueue_regs (c : Chip) (q : List DWord) : (c.setQueue q).regs = c.regs := rfl
@[simp] theorem Chip.setQueue_lines (c : Chip) (q : List DWord) : (c.setQueue q).lines = c.lines := rfl
@[simp] theorem Chip.setQueue_hostUp (c : Chip) (q : List DWord) : (c.setQueue q).hostUp = c.hostUp := rfl
@[simp] theorem Chip.setQueue_msix (c : Chip) (q : List DWord) : (c.setQueue q).msix = c.msix := rfl
@[simp] theorem Chip.setQueue_tiles (c : Chip) (q : List DWord) : (c.setQueue q).tiles = c.tiles := rfl
@[simp] theorem Chip.setQueue_grn (c : Chip) (q : List DWord) : (c.setQueue q).grn = c.grn := rfl
@[simp] theorem Chip.setQueue_trace (c : Chip) (q : List DWord) : (c.setQueue q).trace = c.trace := rfl
@[simp] theorem Chip.setQueue_time (c : Chip) (q : List DWord) : (c.setQueue q).time = c.time := rfl
@[simp] theorem Chip.setQueue_od (c : Chip) (q : List DWord) : (c.setQueue q).od = c.od := rfl
@[simp] theorem Chip.setQueue_pow (c : Chip) (q : List DWord) : (c.setQueue q).pow = c.pow := rfl
@[simp] theorem Chip.setQueue_dram (c : Chip) (q : List DWord) : (c.setQueue q).dram = c.dram := rfl
@[simp] theorem Chip.setQueue_cap (c : Chip) (q : List DWord) : (c.setQueue q).cap = c.cap := rfl
@[simp] theorem Chip.setQueue_pkr (c : Chip) (q : List DWord) : (c.setQueue q).pkr = c.pkr := rfl
@[simp] theorem Chip.setQueue_ev (c : Chip) (q : List DWord) : (c.setQueue q).ev = c.ev := rfl
@[simp] theorem Chip.setQueue_su (c : Chip) (q : List DWord) : (c.setQueue q).su = c.su := rfl
@[simp] theorem Chip.setQueue_xspi (c : Chip) (q : List DWord) : (c.setQueue q).xspi = c.xspi := rfl
@[simp] theorem Chip.setQueue_silo (c : Chip) (q : List DWord) : (c.setQueue q).silo = c.silo := rfl
@[simp] theorem Chip.setQueue_life (c : Chip) (q : List DWord) : (c.setQueue q).life = c.life := rfl
@[simp] theorem Chip.setQueue_sw (c : Chip) (q : List DWord) : (c.setQueue q).sw = c.sw := rfl
@[simp] theorem Chip.setQueue_host (c : Chip) (q : List DWord) : (c.setQueue q).host = c.host := rfl
@[simp] theorem Chip.setQueue_eth (c : Chip) (q : List DWord) : (c.setQueue q).eth = c.eth := rfl
@[simp] theorem Chip.setQueue_weave (c : Chip) (q : List DWord) : (c.setQueue q).weave = c.weave := rfl
@[simp] theorem Chip.setQueue_dbg (c : Chip) (q : List DWord) : (c.setQueue q).dbg = c.dbg := rfl
@[simp] theorem Chip.setQueue_wdt (c : Chip) (q : List DWord) : (c.setQueue q).wdt = c.wdt := rfl
@[simp] theorem Chip.setQueue_noc (c : Chip) (q : List DWord) : (c.setQueue q).noc = c.noc := rfl
@[simp] theorem Chip.setQueue_core (c : Chip) (q : List DWord) : (c.setQueue q).core = c.core := rfl
@[simp] theorem Chip.setQueue_spin (c : Chip) (q : List DWord) : (c.setQueue q).spin = c.spin := rfl
@[simp] theorem Chip.setQueue_can (c : Chip) (q : List DWord) : (c.setQueue q).can = c.can := rfl

@[simp] theorem Chip.notePages_is08X (c : Chip) (ps : List Nat) : (c.notePages ps).is08X = c.is08X := rfl
@[simp] theorem Chip.notePages_mgrSel (c : Chip) (ps : List Nat) : (c.notePages ps).mgrSel = c.mgrSel := rfl
@[simp] theorem Chip.notePages_deviceNo (c : Chip) (ps : List Nat) : (c.notePages ps).deviceNo = c.deviceNo := rfl
@[simp] theorem Chip.notePages_ns (c : Chip) (ps : List Nat) : (c.notePages ps).ns = c.ns := rfl
@[simp] theorem Chip.notePages_fresh (c : Chip) (ps : List Nat) : (c.notePages ps).fresh = c.fresh := rfl
@[simp] theorem Chip.notePages_resp (c : Chip) (ps : List Nat) : (c.notePages ps).resp = c.resp := rfl
@[simp] theorem Chip.notePages_domains (c : Chip) (ps : List Nat) : (c.notePages ps).domains = c.domains := rfl
@[simp] theorem Chip.notePages_mem (c : Chip) (ps : List Nat) : (c.notePages ps).mem = c.mem := rfl
@[simp] theorem Chip.notePages_ecc (c : Chip) (ps : List Nat) : (c.notePages ps).ecc = c.ecc := rfl
@[simp] theorem Chip.notePages_regs (c : Chip) (ps : List Nat) : (c.notePages ps).regs = c.regs := rfl
@[simp] theorem Chip.notePages_lines (c : Chip) (ps : List Nat) : (c.notePages ps).lines = c.lines := rfl
@[simp] theorem Chip.notePages_hostUp (c : Chip) (ps : List Nat) : (c.notePages ps).hostUp = c.hostUp := rfl
@[simp] theorem Chip.notePages_msix (c : Chip) (ps : List Nat) : (c.notePages ps).msix = c.msix := rfl
@[simp] theorem Chip.notePages_tiles (c : Chip) (ps : List Nat) : (c.notePages ps).tiles = c.tiles := rfl
@[simp] theorem Chip.notePages_grn (c : Chip) (ps : List Nat) : (c.notePages ps).grn = c.grn := rfl
@[simp] theorem Chip.notePages_trace (c : Chip) (ps : List Nat) : (c.notePages ps).trace = c.trace := rfl
@[simp] theorem Chip.notePages_time (c : Chip) (ps : List Nat) : (c.notePages ps).time = c.time := rfl
@[simp] theorem Chip.notePages_od (c : Chip) (ps : List Nat) : (c.notePages ps).od = c.od := rfl
@[simp] theorem Chip.notePages_pow (c : Chip) (ps : List Nat) : (c.notePages ps).pow = c.pow := rfl
@[simp] theorem Chip.notePages_dram (c : Chip) (ps : List Nat) : (c.notePages ps).dram = c.dram := rfl
@[simp] theorem Chip.notePages_cap (c : Chip) (ps : List Nat) : (c.notePages ps).cap = c.cap := rfl
@[simp] theorem Chip.notePages_pkr (c : Chip) (ps : List Nat) : (c.notePages ps).pkr = c.pkr := rfl
@[simp] theorem Chip.notePages_ev (c : Chip) (ps : List Nat) : (c.notePages ps).ev = c.ev := rfl
@[simp] theorem Chip.notePages_su (c : Chip) (ps : List Nat) : (c.notePages ps).su = c.su := rfl
@[simp] theorem Chip.notePages_xspi (c : Chip) (ps : List Nat) : (c.notePages ps).xspi = c.xspi := rfl
@[simp] theorem Chip.notePages_silo (c : Chip) (ps : List Nat) : (c.notePages ps).silo = c.silo := rfl
@[simp] theorem Chip.notePages_life (c : Chip) (ps : List Nat) : (c.notePages ps).life = c.life := rfl
@[simp] theorem Chip.notePages_sw (c : Chip) (ps : List Nat) : (c.notePages ps).sw = c.sw := rfl
@[simp] theorem Chip.notePages_host (c : Chip) (ps : List Nat) : (c.notePages ps).host = c.host := rfl
@[simp] theorem Chip.notePages_eth (c : Chip) (ps : List Nat) : (c.notePages ps).eth = c.eth := rfl
@[simp] theorem Chip.notePages_weave (c : Chip) (ps : List Nat) : (c.notePages ps).weave = c.weave := rfl
@[simp] theorem Chip.notePages_dbg (c : Chip) (ps : List Nat) : (c.notePages ps).dbg = c.dbg := rfl
@[simp] theorem Chip.notePages_wdt (c : Chip) (ps : List Nat) : (c.notePages ps).wdt = c.wdt := rfl
@[simp] theorem Chip.notePages_noc (c : Chip) (ps : List Nat) : (c.notePages ps).noc = c.noc := rfl
@[simp] theorem Chip.notePages_core (c : Chip) (ps : List Nat) : (c.notePages ps).core = c.core := rfl
@[simp] theorem Chip.notePages_spin (c : Chip) (ps : List Nat) : (c.notePages ps).spin = c.spin := rfl
@[simp] theorem Chip.notePages_can (c : Chip) (ps : List Nat) : (c.notePages ps).can = c.can := rfl

@[simp] theorem Chip.setCtx_is08X (c : Chip) (n : Nat) (x : Ctx) : (c.setCtx n x).is08X = c.is08X := rfl
@[simp] theorem Chip.setCtx_mgrSel (c : Chip) (n : Nat) (x : Ctx) : (c.setCtx n x).mgrSel = c.mgrSel := rfl
@[simp] theorem Chip.setCtx_deviceNo (c : Chip) (n : Nat) (x : Ctx) : (c.setCtx n x).deviceNo = c.deviceNo := rfl
@[simp] theorem Chip.setCtx_ns (c : Chip) (n : Nat) (x : Ctx) : (c.setCtx n x).ns = c.ns := rfl
@[simp] theorem Chip.setCtx_fresh (c : Chip) (n : Nat) (x : Ctx) : (c.setCtx n x).fresh = c.fresh := rfl
@[simp] theorem Chip.setCtx_resp (c : Chip) (n : Nat) (x : Ctx) : (c.setCtx n x).resp = c.resp := rfl
@[simp] theorem Chip.setCtx_domains (c : Chip) (n : Nat) (x : Ctx) : (c.setCtx n x).domains = c.domains := rfl
@[simp] theorem Chip.setCtx_mem (c : Chip) (n : Nat) (x : Ctx) : (c.setCtx n x).mem = c.mem := rfl
@[simp] theorem Chip.setCtx_ecc (c : Chip) (n : Nat) (x : Ctx) : (c.setCtx n x).ecc = c.ecc := rfl
@[simp] theorem Chip.setCtx_regs (c : Chip) (n : Nat) (x : Ctx) : (c.setCtx n x).regs = c.regs := rfl
@[simp] theorem Chip.setCtx_lines (c : Chip) (n : Nat) (x : Ctx) : (c.setCtx n x).lines = c.lines := rfl
@[simp] theorem Chip.setCtx_hostUp (c : Chip) (n : Nat) (x : Ctx) : (c.setCtx n x).hostUp = c.hostUp := rfl
@[simp] theorem Chip.setCtx_msix (c : Chip) (n : Nat) (x : Ctx) : (c.setCtx n x).msix = c.msix := rfl
@[simp] theorem Chip.setCtx_tiles (c : Chip) (n : Nat) (x : Ctx) : (c.setCtx n x).tiles = c.tiles := rfl
@[simp] theorem Chip.setCtx_seq (c : Chip) (n : Nat) (x : Ctx) : (c.setCtx n x).seq = c.seq := rfl
@[simp] theorem Chip.setCtx_trace (c : Chip) (n : Nat) (x : Ctx) : (c.setCtx n x).trace = c.trace := rfl
@[simp] theorem Chip.setCtx_time (c : Chip) (n : Nat) (x : Ctx) : (c.setCtx n x).time = c.time := rfl
@[simp] theorem Chip.setCtx_od (c : Chip) (n : Nat) (x : Ctx) : (c.setCtx n x).od = c.od := rfl
@[simp] theorem Chip.setCtx_pow (c : Chip) (n : Nat) (x : Ctx) : (c.setCtx n x).pow = c.pow := rfl
@[simp] theorem Chip.setCtx_dram (c : Chip) (n : Nat) (x : Ctx) : (c.setCtx n x).dram = c.dram := rfl
@[simp] theorem Chip.setCtx_cap (c : Chip) (n : Nat) (x : Ctx) : (c.setCtx n x).cap = c.cap := rfl
@[simp] theorem Chip.setCtx_pkr (c : Chip) (n : Nat) (x : Ctx) : (c.setCtx n x).pkr = c.pkr := rfl
@[simp] theorem Chip.setCtx_ev (c : Chip) (n : Nat) (x : Ctx) : (c.setCtx n x).ev = c.ev := rfl
@[simp] theorem Chip.setCtx_su (c : Chip) (n : Nat) (x : Ctx) : (c.setCtx n x).su = c.su := rfl
@[simp] theorem Chip.setCtx_xspi (c : Chip) (n : Nat) (x : Ctx) : (c.setCtx n x).xspi = c.xspi := rfl
@[simp] theorem Chip.setCtx_silo (c : Chip) (n : Nat) (x : Ctx) : (c.setCtx n x).silo = c.silo := rfl
@[simp] theorem Chip.setCtx_life (c : Chip) (n : Nat) (x : Ctx) : (c.setCtx n x).life = c.life := rfl
@[simp] theorem Chip.setCtx_sw (c : Chip) (n : Nat) (x : Ctx) : (c.setCtx n x).sw = c.sw := rfl
@[simp] theorem Chip.setCtx_host (c : Chip) (n : Nat) (x : Ctx) : (c.setCtx n x).host = c.host := rfl
@[simp] theorem Chip.setCtx_eth (c : Chip) (n : Nat) (x : Ctx) : (c.setCtx n x).eth = c.eth := rfl
@[simp] theorem Chip.setCtx_weave (c : Chip) (n : Nat) (x : Ctx) : (c.setCtx n x).weave = c.weave := rfl
@[simp] theorem Chip.setCtx_dbg (c : Chip) (n : Nat) (x : Ctx) : (c.setCtx n x).dbg = c.dbg := rfl
@[simp] theorem Chip.setCtx_wdt (c : Chip) (n : Nat) (x : Ctx) : (c.setCtx n x).wdt = c.wdt := rfl
@[simp] theorem Chip.setCtx_noc (c : Chip) (n : Nat) (x : Ctx) : (c.setCtx n x).noc = c.noc := rfl
@[simp] theorem Chip.setCtx_core (c : Chip) (n : Nat) (x : Ctx) : (c.setCtx n x).core = c.core := rfl
@[simp] theorem Chip.setCtx_spin (c : Chip) (n : Nat) (x : Ctx) : (c.setCtx n x).spin = c.spin := rfl
@[simp] theorem Chip.setCtx_can (c : Chip) (n : Nat) (x : Ctx) : (c.setCtx n x).can = c.can := rfl

@[simp] theorem Chip.setNoc_is08X (c : Chip) (x : Noc) : (c.setNoc x).is08X = c.is08X := rfl
@[simp] theorem Chip.setNoc_mgrSel (c : Chip) (x : Noc) : (c.setNoc x).mgrSel = c.mgrSel := rfl
@[simp] theorem Chip.setNoc_deviceNo (c : Chip) (x : Noc) : (c.setNoc x).deviceNo = c.deviceNo := rfl
@[simp] theorem Chip.setNoc_ns (c : Chip) (x : Noc) : (c.setNoc x).ns = c.ns := rfl
@[simp] theorem Chip.setNoc_fresh (c : Chip) (x : Noc) : (c.setNoc x).fresh = c.fresh := rfl
@[simp] theorem Chip.setNoc_resp (c : Chip) (x : Noc) : (c.setNoc x).resp = c.resp := rfl
@[simp] theorem Chip.setNoc_domains (c : Chip) (x : Noc) : (c.setNoc x).domains = c.domains := rfl
@[simp] theorem Chip.setNoc_mem (c : Chip) (x : Noc) : (c.setNoc x).mem = c.mem := rfl
@[simp] theorem Chip.setNoc_ecc (c : Chip) (x : Noc) : (c.setNoc x).ecc = c.ecc := rfl
@[simp] theorem Chip.setNoc_regs (c : Chip) (x : Noc) : (c.setNoc x).regs = c.regs := rfl
@[simp] theorem Chip.setNoc_lines (c : Chip) (x : Noc) : (c.setNoc x).lines = c.lines := rfl
@[simp] theorem Chip.setNoc_hostUp (c : Chip) (x : Noc) : (c.setNoc x).hostUp = c.hostUp := rfl
@[simp] theorem Chip.setNoc_msix (c : Chip) (x : Noc) : (c.setNoc x).msix = c.msix := rfl
@[simp] theorem Chip.setNoc_tiles (c : Chip) (x : Noc) : (c.setNoc x).tiles = c.tiles := rfl
@[simp] theorem Chip.setNoc_seq (c : Chip) (x : Noc) : (c.setNoc x).seq = c.seq := rfl
@[simp] theorem Chip.setNoc_grn (c : Chip) (x : Noc) : (c.setNoc x).grn = c.grn := rfl
@[simp] theorem Chip.setNoc_trace (c : Chip) (x : Noc) : (c.setNoc x).trace = c.trace := rfl
@[simp] theorem Chip.setNoc_time (c : Chip) (x : Noc) : (c.setNoc x).time = c.time := rfl
@[simp] theorem Chip.setNoc_od (c : Chip) (x : Noc) : (c.setNoc x).od = c.od := rfl
@[simp] theorem Chip.setNoc_pow (c : Chip) (x : Noc) : (c.setNoc x).pow = c.pow := rfl
@[simp] theorem Chip.setNoc_dram (c : Chip) (x : Noc) : (c.setNoc x).dram = c.dram := rfl
@[simp] theorem Chip.setNoc_cap (c : Chip) (x : Noc) : (c.setNoc x).cap = c.cap := rfl
@[simp] theorem Chip.setNoc_pkr (c : Chip) (x : Noc) : (c.setNoc x).pkr = c.pkr := rfl
@[simp] theorem Chip.setNoc_ev (c : Chip) (x : Noc) : (c.setNoc x).ev = c.ev := rfl
@[simp] theorem Chip.setNoc_su (c : Chip) (x : Noc) : (c.setNoc x).su = c.su := rfl
@[simp] theorem Chip.setNoc_xspi (c : Chip) (x : Noc) : (c.setNoc x).xspi = c.xspi := rfl
@[simp] theorem Chip.setNoc_silo (c : Chip) (x : Noc) : (c.setNoc x).silo = c.silo := rfl
@[simp] theorem Chip.setNoc_life (c : Chip) (x : Noc) : (c.setNoc x).life = c.life := rfl
@[simp] theorem Chip.setNoc_sw (c : Chip) (x : Noc) : (c.setNoc x).sw = c.sw := rfl
@[simp] theorem Chip.setNoc_host (c : Chip) (x : Noc) : (c.setNoc x).host = c.host := rfl
@[simp] theorem Chip.setNoc_eth (c : Chip) (x : Noc) : (c.setNoc x).eth = c.eth := rfl
@[simp] theorem Chip.setNoc_weave (c : Chip) (x : Noc) : (c.setNoc x).weave = c.weave := rfl
@[simp] theorem Chip.setNoc_dbg (c : Chip) (x : Noc) : (c.setNoc x).dbg = c.dbg := rfl
@[simp] theorem Chip.setNoc_wdt (c : Chip) (x : Noc) : (c.setNoc x).wdt = c.wdt := rfl
@[simp] theorem Chip.setNoc_core (c : Chip) (x : Noc) : (c.setNoc x).core = c.core := rfl
@[simp] theorem Chip.setNoc_spin (c : Chip) (x : Noc) : (c.setNoc x).spin = c.spin := rfl
@[simp] theorem Chip.setNoc_can (c : Chip) (x : Noc) : (c.setNoc x).can = c.can := rfl

@[simp] theorem Chip.setPort_is08X (c : Chip) (n v : Nat) : (c.setPort n v).is08X = c.is08X := rfl
@[simp] theorem Chip.setPort_mgrSel (c : Chip) (n v : Nat) : (c.setPort n v).mgrSel = c.mgrSel := rfl
@[simp] theorem Chip.setPort_deviceNo (c : Chip) (n v : Nat) : (c.setPort n v).deviceNo = c.deviceNo := rfl
@[simp] theorem Chip.setPort_ns (c : Chip) (n v : Nat) : (c.setPort n v).ns = c.ns := rfl
@[simp] theorem Chip.setPort_fresh (c : Chip) (n v : Nat) : (c.setPort n v).fresh = c.fresh := rfl
@[simp] theorem Chip.setPort_resp (c : Chip) (n v : Nat) : (c.setPort n v).resp = c.resp := rfl
@[simp] theorem Chip.setPort_domains (c : Chip) (n v : Nat) : (c.setPort n v).domains = c.domains := rfl
@[simp] theorem Chip.setPort_mem (c : Chip) (n v : Nat) : (c.setPort n v).mem = c.mem := rfl
@[simp] theorem Chip.setPort_ecc (c : Chip) (n v : Nat) : (c.setPort n v).ecc = c.ecc := rfl
@[simp] theorem Chip.setPort_regs (c : Chip) (n v : Nat) : (c.setPort n v).regs = c.regs := rfl
@[simp] theorem Chip.setPort_lines (c : Chip) (n v : Nat) : (c.setPort n v).lines = c.lines := rfl
@[simp] theorem Chip.setPort_hostUp (c : Chip) (n v : Nat) : (c.setPort n v).hostUp = c.hostUp := rfl
@[simp] theorem Chip.setPort_msix (c : Chip) (n v : Nat) : (c.setPort n v).msix = c.msix := rfl
@[simp] theorem Chip.setPort_tiles (c : Chip) (n v : Nat) : (c.setPort n v).tiles = c.tiles := rfl
@[simp] theorem Chip.setPort_seq (c : Chip) (n v : Nat) : (c.setPort n v).seq = c.seq := rfl
@[simp] theorem Chip.setPort_grn (c : Chip) (n v : Nat) : (c.setPort n v).grn = c.grn := rfl
@[simp] theorem Chip.setPort_trace (c : Chip) (n v : Nat) : (c.setPort n v).trace = c.trace := rfl
@[simp] theorem Chip.setPort_time (c : Chip) (n v : Nat) : (c.setPort n v).time = c.time := rfl
@[simp] theorem Chip.setPort_od (c : Chip) (n v : Nat) : (c.setPort n v).od = c.od := rfl
@[simp] theorem Chip.setPort_pow (c : Chip) (n v : Nat) : (c.setPort n v).pow = c.pow := rfl
@[simp] theorem Chip.setPort_dram (c : Chip) (n v : Nat) : (c.setPort n v).dram = c.dram := rfl
@[simp] theorem Chip.setPort_cap (c : Chip) (n v : Nat) : (c.setPort n v).cap = c.cap := rfl
@[simp] theorem Chip.setPort_pkr (c : Chip) (n v : Nat) : (c.setPort n v).pkr = c.pkr := rfl
@[simp] theorem Chip.setPort_ev (c : Chip) (n v : Nat) : (c.setPort n v).ev = c.ev := rfl
@[simp] theorem Chip.setPort_su (c : Chip) (n v : Nat) : (c.setPort n v).su = c.su := rfl
@[simp] theorem Chip.setPort_xspi (c : Chip) (n v : Nat) : (c.setPort n v).xspi = c.xspi := rfl
@[simp] theorem Chip.setPort_silo (c : Chip) (n v : Nat) : (c.setPort n v).silo = c.silo := rfl
@[simp] theorem Chip.setPort_life (c : Chip) (n v : Nat) : (c.setPort n v).life = c.life := rfl
@[simp] theorem Chip.setPort_sw (c : Chip) (n v : Nat) : (c.setPort n v).sw = c.sw := rfl
@[simp] theorem Chip.setPort_host (c : Chip) (n v : Nat) : (c.setPort n v).host = c.host := rfl
@[simp] theorem Chip.setPort_eth (c : Chip) (n v : Nat) : (c.setPort n v).eth = c.eth := rfl
@[simp] theorem Chip.setPort_weave (c : Chip) (n v : Nat) : (c.setPort n v).weave = c.weave := rfl
@[simp] theorem Chip.setPort_dbg (c : Chip) (n v : Nat) : (c.setPort n v).dbg = c.dbg := rfl
@[simp] theorem Chip.setPort_wdt (c : Chip) (n v : Nat) : (c.setPort n v).wdt = c.wdt := rfl
@[simp] theorem Chip.setPort_core (c : Chip) (n v : Nat) : (c.setPort n v).core = c.core := rfl
@[simp] theorem Chip.setPort_spin (c : Chip) (n v : Nat) : (c.setPort n v).spin = c.spin := rfl
@[simp] theorem Chip.setPort_can (c : Chip) (n v : Nat) : (c.setPort n v).can = c.can := rfl

@[simp] theorem Chip.onCapFrame_is08X (c : Chip) (s n : Nat) (g : CapFrame → CapFrame) : (c.onCapFrame s n g).is08X = c.is08X := rfl
@[simp] theorem Chip.onCapFrame_mgrSel (c : Chip) (s n : Nat) (g : CapFrame → CapFrame) : (c.onCapFrame s n g).mgrSel = c.mgrSel := rfl
@[simp] theorem Chip.onCapFrame_deviceNo (c : Chip) (s n : Nat) (g : CapFrame → CapFrame) : (c.onCapFrame s n g).deviceNo = c.deviceNo := rfl
@[simp] theorem Chip.onCapFrame_ns (c : Chip) (s n : Nat) (g : CapFrame → CapFrame) : (c.onCapFrame s n g).ns = c.ns := rfl
@[simp] theorem Chip.onCapFrame_fresh (c : Chip) (s n : Nat) (g : CapFrame → CapFrame) : (c.onCapFrame s n g).fresh = c.fresh := rfl
@[simp] theorem Chip.onCapFrame_resp (c : Chip) (s n : Nat) (g : CapFrame → CapFrame) : (c.onCapFrame s n g).resp = c.resp := rfl
@[simp] theorem Chip.onCapFrame_domains (c : Chip) (s n : Nat) (g : CapFrame → CapFrame) : (c.onCapFrame s n g).domains = c.domains := rfl
@[simp] theorem Chip.onCapFrame_mem (c : Chip) (s n : Nat) (g : CapFrame → CapFrame) : (c.onCapFrame s n g).mem = c.mem := rfl
@[simp] theorem Chip.onCapFrame_ecc (c : Chip) (s n : Nat) (g : CapFrame → CapFrame) : (c.onCapFrame s n g).ecc = c.ecc := rfl
@[simp] theorem Chip.onCapFrame_regs (c : Chip) (s n : Nat) (g : CapFrame → CapFrame) : (c.onCapFrame s n g).regs = c.regs := rfl
@[simp] theorem Chip.onCapFrame_lines (c : Chip) (s n : Nat) (g : CapFrame → CapFrame) : (c.onCapFrame s n g).lines = c.lines := rfl
@[simp] theorem Chip.onCapFrame_hostUp (c : Chip) (s n : Nat) (g : CapFrame → CapFrame) : (c.onCapFrame s n g).hostUp = c.hostUp := rfl
@[simp] theorem Chip.onCapFrame_msix (c : Chip) (s n : Nat) (g : CapFrame → CapFrame) : (c.onCapFrame s n g).msix = c.msix := rfl
@[simp] theorem Chip.onCapFrame_tiles (c : Chip) (s n : Nat) (g : CapFrame → CapFrame) : (c.onCapFrame s n g).tiles = c.tiles := rfl
@[simp] theorem Chip.onCapFrame_seq (c : Chip) (s n : Nat) (g : CapFrame → CapFrame) : (c.onCapFrame s n g).seq = c.seq := rfl
@[simp] theorem Chip.onCapFrame_grn (c : Chip) (s n : Nat) (g : CapFrame → CapFrame) : (c.onCapFrame s n g).grn = c.grn := rfl
@[simp] theorem Chip.onCapFrame_trace (c : Chip) (s n : Nat) (g : CapFrame → CapFrame) : (c.onCapFrame s n g).trace = c.trace := rfl
@[simp] theorem Chip.onCapFrame_time (c : Chip) (s n : Nat) (g : CapFrame → CapFrame) : (c.onCapFrame s n g).time = c.time := rfl
@[simp] theorem Chip.onCapFrame_od (c : Chip) (s n : Nat) (g : CapFrame → CapFrame) : (c.onCapFrame s n g).od = c.od := rfl
@[simp] theorem Chip.onCapFrame_pow (c : Chip) (s n : Nat) (g : CapFrame → CapFrame) : (c.onCapFrame s n g).pow = c.pow := rfl
@[simp] theorem Chip.onCapFrame_dram (c : Chip) (s n : Nat) (g : CapFrame → CapFrame) : (c.onCapFrame s n g).dram = c.dram := rfl
@[simp] theorem Chip.onCapFrame_pkr (c : Chip) (s n : Nat) (g : CapFrame → CapFrame) : (c.onCapFrame s n g).pkr = c.pkr := rfl
@[simp] theorem Chip.onCapFrame_ev (c : Chip) (s n : Nat) (g : CapFrame → CapFrame) : (c.onCapFrame s n g).ev = c.ev := rfl
@[simp] theorem Chip.onCapFrame_su (c : Chip) (s n : Nat) (g : CapFrame → CapFrame) : (c.onCapFrame s n g).su = c.su := rfl
@[simp] theorem Chip.onCapFrame_xspi (c : Chip) (s n : Nat) (g : CapFrame → CapFrame) : (c.onCapFrame s n g).xspi = c.xspi := rfl
@[simp] theorem Chip.onCapFrame_silo (c : Chip) (s n : Nat) (g : CapFrame → CapFrame) : (c.onCapFrame s n g).silo = c.silo := rfl
@[simp] theorem Chip.onCapFrame_life (c : Chip) (s n : Nat) (g : CapFrame → CapFrame) : (c.onCapFrame s n g).life = c.life := rfl
@[simp] theorem Chip.onCapFrame_sw (c : Chip) (s n : Nat) (g : CapFrame → CapFrame) : (c.onCapFrame s n g).sw = c.sw := rfl
@[simp] theorem Chip.onCapFrame_host (c : Chip) (s n : Nat) (g : CapFrame → CapFrame) : (c.onCapFrame s n g).host = c.host := rfl
@[simp] theorem Chip.onCapFrame_eth (c : Chip) (s n : Nat) (g : CapFrame → CapFrame) : (c.onCapFrame s n g).eth = c.eth := rfl
@[simp] theorem Chip.onCapFrame_weave (c : Chip) (s n : Nat) (g : CapFrame → CapFrame) : (c.onCapFrame s n g).weave = c.weave := rfl
@[simp] theorem Chip.onCapFrame_dbg (c : Chip) (s n : Nat) (g : CapFrame → CapFrame) : (c.onCapFrame s n g).dbg = c.dbg := rfl
@[simp] theorem Chip.onCapFrame_wdt (c : Chip) (s n : Nat) (g : CapFrame → CapFrame) : (c.onCapFrame s n g).wdt = c.wdt := rfl
@[simp] theorem Chip.onCapFrame_noc (c : Chip) (s n : Nat) (g : CapFrame → CapFrame) : (c.onCapFrame s n g).noc = c.noc := rfl
@[simp] theorem Chip.onCapFrame_core (c : Chip) (s n : Nat) (g : CapFrame → CapFrame) : (c.onCapFrame s n g).core = c.core := rfl
@[simp] theorem Chip.onCapFrame_spin (c : Chip) (s n : Nat) (g : CapFrame → CapFrame) : (c.onCapFrame s n g).spin = c.spin := rfl
@[simp] theorem Chip.onCapFrame_can (c : Chip) (s n : Nat) (g : CapFrame → CapFrame) : (c.onCapFrame s n g).can = c.can := rfl

@[simp] theorem Chip.setCapStream_is08X (c : Chip) (s : Nat) (x : CapStream) : (c.setCapStream s x).is08X = c.is08X := rfl
@[simp] theorem Chip.setCapStream_mgrSel (c : Chip) (s : Nat) (x : CapStream) : (c.setCapStream s x).mgrSel = c.mgrSel := rfl
@[simp] theorem Chip.setCapStream_deviceNo (c : Chip) (s : Nat) (x : CapStream) : (c.setCapStream s x).deviceNo = c.deviceNo := rfl
@[simp] theorem Chip.setCapStream_ns (c : Chip) (s : Nat) (x : CapStream) : (c.setCapStream s x).ns = c.ns := rfl
@[simp] theorem Chip.setCapStream_fresh (c : Chip) (s : Nat) (x : CapStream) : (c.setCapStream s x).fresh = c.fresh := rfl
@[simp] theorem Chip.setCapStream_resp (c : Chip) (s : Nat) (x : CapStream) : (c.setCapStream s x).resp = c.resp := rfl
@[simp] theorem Chip.setCapStream_domains (c : Chip) (s : Nat) (x : CapStream) : (c.setCapStream s x).domains = c.domains := rfl
@[simp] theorem Chip.setCapStream_mem (c : Chip) (s : Nat) (x : CapStream) : (c.setCapStream s x).mem = c.mem := rfl
@[simp] theorem Chip.setCapStream_ecc (c : Chip) (s : Nat) (x : CapStream) : (c.setCapStream s x).ecc = c.ecc := rfl
@[simp] theorem Chip.setCapStream_regs (c : Chip) (s : Nat) (x : CapStream) : (c.setCapStream s x).regs = c.regs := rfl
@[simp] theorem Chip.setCapStream_lines (c : Chip) (s : Nat) (x : CapStream) : (c.setCapStream s x).lines = c.lines := rfl
@[simp] theorem Chip.setCapStream_hostUp (c : Chip) (s : Nat) (x : CapStream) : (c.setCapStream s x).hostUp = c.hostUp := rfl
@[simp] theorem Chip.setCapStream_msix (c : Chip) (s : Nat) (x : CapStream) : (c.setCapStream s x).msix = c.msix := rfl
@[simp] theorem Chip.setCapStream_tiles (c : Chip) (s : Nat) (x : CapStream) : (c.setCapStream s x).tiles = c.tiles := rfl
@[simp] theorem Chip.setCapStream_seq (c : Chip) (s : Nat) (x : CapStream) : (c.setCapStream s x).seq = c.seq := rfl
@[simp] theorem Chip.setCapStream_grn (c : Chip) (s : Nat) (x : CapStream) : (c.setCapStream s x).grn = c.grn := rfl
@[simp] theorem Chip.setCapStream_trace (c : Chip) (s : Nat) (x : CapStream) : (c.setCapStream s x).trace = c.trace := rfl
@[simp] theorem Chip.setCapStream_time (c : Chip) (s : Nat) (x : CapStream) : (c.setCapStream s x).time = c.time := rfl
@[simp] theorem Chip.setCapStream_od (c : Chip) (s : Nat) (x : CapStream) : (c.setCapStream s x).od = c.od := rfl
@[simp] theorem Chip.setCapStream_pow (c : Chip) (s : Nat) (x : CapStream) : (c.setCapStream s x).pow = c.pow := rfl
@[simp] theorem Chip.setCapStream_dram (c : Chip) (s : Nat) (x : CapStream) : (c.setCapStream s x).dram = c.dram := rfl
@[simp] theorem Chip.setCapStream_pkr (c : Chip) (s : Nat) (x : CapStream) : (c.setCapStream s x).pkr = c.pkr := rfl
@[simp] theorem Chip.setCapStream_ev (c : Chip) (s : Nat) (x : CapStream) : (c.setCapStream s x).ev = c.ev := rfl
@[simp] theorem Chip.setCapStream_su (c : Chip) (s : Nat) (x : CapStream) : (c.setCapStream s x).su = c.su := rfl
@[simp] theorem Chip.setCapStream_xspi (c : Chip) (s : Nat) (x : CapStream) : (c.setCapStream s x).xspi = c.xspi := rfl
@[simp] theorem Chip.setCapStream_silo (c : Chip) (s : Nat) (x : CapStream) : (c.setCapStream s x).silo = c.silo := rfl
@[simp] theorem Chip.setCapStream_life (c : Chip) (s : Nat) (x : CapStream) : (c.setCapStream s x).life = c.life := rfl
@[simp] theorem Chip.setCapStream_sw (c : Chip) (s : Nat) (x : CapStream) : (c.setCapStream s x).sw = c.sw := rfl
@[simp] theorem Chip.setCapStream_host (c : Chip) (s : Nat) (x : CapStream) : (c.setCapStream s x).host = c.host := rfl
@[simp] theorem Chip.setCapStream_eth (c : Chip) (s : Nat) (x : CapStream) : (c.setCapStream s x).eth = c.eth := rfl
@[simp] theorem Chip.setCapStream_weave (c : Chip) (s : Nat) (x : CapStream) : (c.setCapStream s x).weave = c.weave := rfl
@[simp] theorem Chip.setCapStream_dbg (c : Chip) (s : Nat) (x : CapStream) : (c.setCapStream s x).dbg = c.dbg := rfl
@[simp] theorem Chip.setCapStream_wdt (c : Chip) (s : Nat) (x : CapStream) : (c.setCapStream s x).wdt = c.wdt := rfl
@[simp] theorem Chip.setCapStream_noc (c : Chip) (s : Nat) (x : CapStream) : (c.setCapStream s x).noc = c.noc := rfl
@[simp] theorem Chip.setCapStream_core (c : Chip) (s : Nat) (x : CapStream) : (c.setCapStream s x).core = c.core := rfl
@[simp] theorem Chip.setCapStream_spin (c : Chip) (s : Nat) (x : CapStream) : (c.setCapStream s x).spin = c.spin := rfl
@[simp] theorem Chip.setCapStream_can (c : Chip) (s : Nat) (x : CapStream) : (c.setCapStream s x).can = c.can := rfl

@[simp] theorem Chip.onSheaf_is08X (c : Chip) (p : Sheaf → Bool) (f : Sheaf → Sheaf) : (c.onSheaf p f).is08X = c.is08X := rfl
@[simp] theorem Chip.onSheaf_mgrSel (c : Chip) (p : Sheaf → Bool) (f : Sheaf → Sheaf) : (c.onSheaf p f).mgrSel = c.mgrSel := rfl
@[simp] theorem Chip.onSheaf_deviceNo (c : Chip) (p : Sheaf → Bool) (f : Sheaf → Sheaf) : (c.onSheaf p f).deviceNo = c.deviceNo := rfl
@[simp] theorem Chip.onSheaf_ns (c : Chip) (p : Sheaf → Bool) (f : Sheaf → Sheaf) : (c.onSheaf p f).ns = c.ns := rfl
@[simp] theorem Chip.onSheaf_fresh (c : Chip) (p : Sheaf → Bool) (f : Sheaf → Sheaf) : (c.onSheaf p f).fresh = c.fresh := rfl
@[simp] theorem Chip.onSheaf_resp (c : Chip) (p : Sheaf → Bool) (f : Sheaf → Sheaf) : (c.onSheaf p f).resp = c.resp := rfl
@[simp] theorem Chip.onSheaf_domains (c : Chip) (p : Sheaf → Bool) (f : Sheaf → Sheaf) : (c.onSheaf p f).domains = c.domains := rfl
@[simp] theorem Chip.onSheaf_mem (c : Chip) (p : Sheaf → Bool) (f : Sheaf → Sheaf) : (c.onSheaf p f).mem = c.mem := rfl
@[simp] theorem Chip.onSheaf_ecc (c : Chip) (p : Sheaf → Bool) (f : Sheaf → Sheaf) : (c.onSheaf p f).ecc = c.ecc := rfl
@[simp] theorem Chip.onSheaf_regs (c : Chip) (p : Sheaf → Bool) (f : Sheaf → Sheaf) : (c.onSheaf p f).regs = c.regs := rfl
@[simp] theorem Chip.onSheaf_lines (c : Chip) (p : Sheaf → Bool) (f : Sheaf → Sheaf) : (c.onSheaf p f).lines = c.lines := rfl
@[simp] theorem Chip.onSheaf_hostUp (c : Chip) (p : Sheaf → Bool) (f : Sheaf → Sheaf) : (c.onSheaf p f).hostUp = c.hostUp := rfl
@[simp] theorem Chip.onSheaf_msix (c : Chip) (p : Sheaf → Bool) (f : Sheaf → Sheaf) : (c.onSheaf p f).msix = c.msix := rfl
@[simp] theorem Chip.onSheaf_tiles (c : Chip) (p : Sheaf → Bool) (f : Sheaf → Sheaf) : (c.onSheaf p f).tiles = c.tiles := rfl
@[simp] theorem Chip.onSheaf_seq (c : Chip) (p : Sheaf → Bool) (f : Sheaf → Sheaf) : (c.onSheaf p f).seq = c.seq := rfl
@[simp] theorem Chip.onSheaf_grn (c : Chip) (p : Sheaf → Bool) (f : Sheaf → Sheaf) : (c.onSheaf p f).grn = c.grn := rfl
@[simp] theorem Chip.onSheaf_trace (c : Chip) (p : Sheaf → Bool) (f : Sheaf → Sheaf) : (c.onSheaf p f).trace = c.trace := rfl
@[simp] theorem Chip.onSheaf_time (c : Chip) (p : Sheaf → Bool) (f : Sheaf → Sheaf) : (c.onSheaf p f).time = c.time := rfl
@[simp] theorem Chip.onSheaf_od (c : Chip) (p : Sheaf → Bool) (f : Sheaf → Sheaf) : (c.onSheaf p f).od = c.od := rfl
@[simp] theorem Chip.onSheaf_pow (c : Chip) (p : Sheaf → Bool) (f : Sheaf → Sheaf) : (c.onSheaf p f).pow = c.pow := rfl
@[simp] theorem Chip.onSheaf_dram (c : Chip) (p : Sheaf → Bool) (f : Sheaf → Sheaf) : (c.onSheaf p f).dram = c.dram := rfl
@[simp] theorem Chip.onSheaf_cap (c : Chip) (p : Sheaf → Bool) (f : Sheaf → Sheaf) : (c.onSheaf p f).cap = c.cap := rfl
@[simp] theorem Chip.onSheaf_pkr (c : Chip) (p : Sheaf → Bool) (f : Sheaf → Sheaf) : (c.onSheaf p f).pkr = c.pkr := rfl
@[simp] theorem Chip.onSheaf_su (c : Chip) (p : Sheaf → Bool) (f : Sheaf → Sheaf) : (c.onSheaf p f).su = c.su := rfl
@[simp] theorem Chip.onSheaf_xspi (c : Chip) (p : Sheaf → Bool) (f : Sheaf → Sheaf) : (c.onSheaf p f).xspi = c.xspi := rfl
@[simp] theorem Chip.onSheaf_silo (c : Chip) (p : Sheaf → Bool) (f : Sheaf → Sheaf) : (c.onSheaf p f).silo = c.silo := rfl
@[simp] theorem Chip.onSheaf_life (c : Chip) (p : Sheaf → Bool) (f : Sheaf → Sheaf) : (c.onSheaf p f).life = c.life := rfl
@[simp] theorem Chip.onSheaf_sw (c : Chip) (p : Sheaf → Bool) (f : Sheaf → Sheaf) : (c.onSheaf p f).sw = c.sw := rfl
@[simp] theorem Chip.onSheaf_host (c : Chip) (p : Sheaf → Bool) (f : Sheaf → Sheaf) : (c.onSheaf p f).host = c.host := rfl
@[simp] theorem Chip.onSheaf_eth (c : Chip) (p : Sheaf → Bool) (f : Sheaf → Sheaf) : (c.onSheaf p f).eth = c.eth := rfl
@[simp] theorem Chip.onSheaf_weave (c : Chip) (p : Sheaf → Bool) (f : Sheaf → Sheaf) : (c.onSheaf p f).weave = c.weave := rfl
@[simp] theorem Chip.onSheaf_dbg (c : Chip) (p : Sheaf → Bool) (f : Sheaf → Sheaf) : (c.onSheaf p f).dbg = c.dbg := rfl
@[simp] theorem Chip.onSheaf_wdt (c : Chip) (p : Sheaf → Bool) (f : Sheaf → Sheaf) : (c.onSheaf p f).wdt = c.wdt := rfl
@[simp] theorem Chip.onSheaf_noc (c : Chip) (p : Sheaf → Bool) (f : Sheaf → Sheaf) : (c.onSheaf p f).noc = c.noc := rfl
@[simp] theorem Chip.onSheaf_core (c : Chip) (p : Sheaf → Bool) (f : Sheaf → Sheaf) : (c.onSheaf p f).core = c.core := rfl
@[simp] theorem Chip.onSheaf_spin (c : Chip) (p : Sheaf → Bool) (f : Sheaf → Sheaf) : (c.onSheaf p f).spin = c.spin := rfl
@[simp] theorem Chip.onSheaf_can (c : Chip) (p : Sheaf → Bool) (f : Sheaf → Sheaf) : (c.onSheaf p f).can = c.can := rfl

@[simp] theorem Chip.putSession_is08X (c : Chip) (i : Nat) (x : Session) : (c.putSession i x).is08X = c.is08X := rfl
@[simp] theorem Chip.putSession_mgrSel (c : Chip) (i : Nat) (x : Session) : (c.putSession i x).mgrSel = c.mgrSel := rfl
@[simp] theorem Chip.putSession_deviceNo (c : Chip) (i : Nat) (x : Session) : (c.putSession i x).deviceNo = c.deviceNo := rfl
@[simp] theorem Chip.putSession_ns (c : Chip) (i : Nat) (x : Session) : (c.putSession i x).ns = c.ns := rfl
@[simp] theorem Chip.putSession_fresh (c : Chip) (i : Nat) (x : Session) : (c.putSession i x).fresh = c.fresh := rfl
@[simp] theorem Chip.putSession_resp (c : Chip) (i : Nat) (x : Session) : (c.putSession i x).resp = c.resp := rfl
@[simp] theorem Chip.putSession_domains (c : Chip) (i : Nat) (x : Session) : (c.putSession i x).domains = c.domains := rfl
@[simp] theorem Chip.putSession_mem (c : Chip) (i : Nat) (x : Session) : (c.putSession i x).mem = c.mem := rfl
@[simp] theorem Chip.putSession_ecc (c : Chip) (i : Nat) (x : Session) : (c.putSession i x).ecc = c.ecc := rfl
@[simp] theorem Chip.putSession_regs (c : Chip) (i : Nat) (x : Session) : (c.putSession i x).regs = c.regs := rfl
@[simp] theorem Chip.putSession_lines (c : Chip) (i : Nat) (x : Session) : (c.putSession i x).lines = c.lines := rfl
@[simp] theorem Chip.putSession_hostUp (c : Chip) (i : Nat) (x : Session) : (c.putSession i x).hostUp = c.hostUp := rfl
@[simp] theorem Chip.putSession_msix (c : Chip) (i : Nat) (x : Session) : (c.putSession i x).msix = c.msix := rfl
@[simp] theorem Chip.putSession_tiles (c : Chip) (i : Nat) (x : Session) : (c.putSession i x).tiles = c.tiles := rfl
@[simp] theorem Chip.putSession_seq (c : Chip) (i : Nat) (x : Session) : (c.putSession i x).seq = c.seq := rfl
@[simp] theorem Chip.putSession_grn (c : Chip) (i : Nat) (x : Session) : (c.putSession i x).grn = c.grn := rfl
@[simp] theorem Chip.putSession_trace (c : Chip) (i : Nat) (x : Session) : (c.putSession i x).trace = c.trace := rfl
@[simp] theorem Chip.putSession_time (c : Chip) (i : Nat) (x : Session) : (c.putSession i x).time = c.time := rfl
@[simp] theorem Chip.putSession_od (c : Chip) (i : Nat) (x : Session) : (c.putSession i x).od = c.od := rfl
@[simp] theorem Chip.putSession_pow (c : Chip) (i : Nat) (x : Session) : (c.putSession i x).pow = c.pow := rfl
@[simp] theorem Chip.putSession_dram (c : Chip) (i : Nat) (x : Session) : (c.putSession i x).dram = c.dram := rfl
@[simp] theorem Chip.putSession_cap (c : Chip) (i : Nat) (x : Session) : (c.putSession i x).cap = c.cap := rfl
@[simp] theorem Chip.putSession_pkr (c : Chip) (i : Nat) (x : Session) : (c.putSession i x).pkr = c.pkr := rfl
@[simp] theorem Chip.putSession_ev (c : Chip) (i : Nat) (x : Session) : (c.putSession i x).ev = c.ev := rfl
@[simp] theorem Chip.putSession_xspi (c : Chip) (i : Nat) (x : Session) : (c.putSession i x).xspi = c.xspi := rfl
@[simp] theorem Chip.putSession_silo (c : Chip) (i : Nat) (x : Session) : (c.putSession i x).silo = c.silo := rfl
@[simp] theorem Chip.putSession_life (c : Chip) (i : Nat) (x : Session) : (c.putSession i x).life = c.life := rfl
@[simp] theorem Chip.putSession_sw (c : Chip) (i : Nat) (x : Session) : (c.putSession i x).sw = c.sw := rfl
@[simp] theorem Chip.putSession_host (c : Chip) (i : Nat) (x : Session) : (c.putSession i x).host = c.host := rfl
@[simp] theorem Chip.putSession_eth (c : Chip) (i : Nat) (x : Session) : (c.putSession i x).eth = c.eth := rfl
@[simp] theorem Chip.putSession_weave (c : Chip) (i : Nat) (x : Session) : (c.putSession i x).weave = c.weave := rfl
@[simp] theorem Chip.putSession_dbg (c : Chip) (i : Nat) (x : Session) : (c.putSession i x).dbg = c.dbg := rfl
@[simp] theorem Chip.putSession_wdt (c : Chip) (i : Nat) (x : Session) : (c.putSession i x).wdt = c.wdt := rfl
@[simp] theorem Chip.putSession_noc (c : Chip) (i : Nat) (x : Session) : (c.putSession i x).noc = c.noc := rfl
@[simp] theorem Chip.putSession_core (c : Chip) (i : Nat) (x : Session) : (c.putSession i x).core = c.core := rfl
@[simp] theorem Chip.putSession_spin (c : Chip) (i : Nat) (x : Session) : (c.putSession i x).spin = c.spin := rfl
@[simp] theorem Chip.putSession_can (c : Chip) (i : Nat) (x : Session) : (c.putSession i x).can = c.can := rfl

@[simp] theorem Chip.setSw_is08X (c : Chip) (x : Storage) : (c.setSw x).is08X = c.is08X := rfl
@[simp] theorem Chip.setSw_mgrSel (c : Chip) (x : Storage) : (c.setSw x).mgrSel = c.mgrSel := rfl
@[simp] theorem Chip.setSw_deviceNo (c : Chip) (x : Storage) : (c.setSw x).deviceNo = c.deviceNo := rfl
@[simp] theorem Chip.setSw_ns (c : Chip) (x : Storage) : (c.setSw x).ns = c.ns := rfl
@[simp] theorem Chip.setSw_fresh (c : Chip) (x : Storage) : (c.setSw x).fresh = c.fresh := rfl
@[simp] theorem Chip.setSw_resp (c : Chip) (x : Storage) : (c.setSw x).resp = c.resp := rfl
@[simp] theorem Chip.setSw_domains (c : Chip) (x : Storage) : (c.setSw x).domains = c.domains := rfl
@[simp] theorem Chip.setSw_mem (c : Chip) (x : Storage) : (c.setSw x).mem = c.mem := rfl
@[simp] theorem Chip.setSw_ecc (c : Chip) (x : Storage) : (c.setSw x).ecc = c.ecc := rfl
@[simp] theorem Chip.setSw_lines (c : Chip) (x : Storage) : (c.setSw x).lines = c.lines := rfl
@[simp] theorem Chip.setSw_hostUp (c : Chip) (x : Storage) : (c.setSw x).hostUp = c.hostUp := rfl
@[simp] theorem Chip.setSw_msix (c : Chip) (x : Storage) : (c.setSw x).msix = c.msix := rfl
@[simp] theorem Chip.setSw_tiles (c : Chip) (x : Storage) : (c.setSw x).tiles = c.tiles := rfl
@[simp] theorem Chip.setSw_seq (c : Chip) (x : Storage) : (c.setSw x).seq = c.seq := rfl
@[simp] theorem Chip.setSw_grn (c : Chip) (x : Storage) : (c.setSw x).grn = c.grn := rfl
@[simp] theorem Chip.setSw_trace (c : Chip) (x : Storage) : (c.setSw x).trace = c.trace := rfl
@[simp] theorem Chip.setSw_time (c : Chip) (x : Storage) : (c.setSw x).time = c.time := rfl
@[simp] theorem Chip.setSw_od (c : Chip) (x : Storage) : (c.setSw x).od = c.od := rfl
@[simp] theorem Chip.setSw_pow (c : Chip) (x : Storage) : (c.setSw x).pow = c.pow := rfl
@[simp] theorem Chip.setSw_dram (c : Chip) (x : Storage) : (c.setSw x).dram = c.dram := rfl
@[simp] theorem Chip.setSw_cap (c : Chip) (x : Storage) : (c.setSw x).cap = c.cap := rfl
@[simp] theorem Chip.setSw_pkr (c : Chip) (x : Storage) : (c.setSw x).pkr = c.pkr := rfl
@[simp] theorem Chip.setSw_ev (c : Chip) (x : Storage) : (c.setSw x).ev = c.ev := rfl
@[simp] theorem Chip.setSw_su (c : Chip) (x : Storage) : (c.setSw x).su = c.su := rfl
@[simp] theorem Chip.setSw_xspi (c : Chip) (x : Storage) : (c.setSw x).xspi = c.xspi := rfl
@[simp] theorem Chip.setSw_silo (c : Chip) (x : Storage) : (c.setSw x).silo = c.silo := rfl
@[simp] theorem Chip.setSw_life (c : Chip) (x : Storage) : (c.setSw x).life = c.life := rfl
@[simp] theorem Chip.setSw_host (c : Chip) (x : Storage) : (c.setSw x).host = c.host := rfl
@[simp] theorem Chip.setSw_eth (c : Chip) (x : Storage) : (c.setSw x).eth = c.eth := rfl
@[simp] theorem Chip.setSw_weave (c : Chip) (x : Storage) : (c.setSw x).weave = c.weave := rfl
@[simp] theorem Chip.setSw_dbg (c : Chip) (x : Storage) : (c.setSw x).dbg = c.dbg := rfl
@[simp] theorem Chip.setSw_wdt (c : Chip) (x : Storage) : (c.setSw x).wdt = c.wdt := rfl
@[simp] theorem Chip.setSw_noc (c : Chip) (x : Storage) : (c.setSw x).noc = c.noc := rfl
@[simp] theorem Chip.setSw_core (c : Chip) (x : Storage) : (c.setSw x).core = c.core := rfl
@[simp] theorem Chip.setSw_spin (c : Chip) (x : Storage) : (c.setSw x).spin = c.spin := rfl
@[simp] theorem Chip.setSw_can (c : Chip) (x : Storage) : (c.setSw x).can = c.can := rfl

@[simp] theorem Chip.setI2c_is08X (c : Chip) (n : Nat) (x : I2c) : (c.setI2c n x).is08X = c.is08X := rfl
@[simp] theorem Chip.setI2c_mgrSel (c : Chip) (n : Nat) (x : I2c) : (c.setI2c n x).mgrSel = c.mgrSel := rfl
@[simp] theorem Chip.setI2c_deviceNo (c : Chip) (n : Nat) (x : I2c) : (c.setI2c n x).deviceNo = c.deviceNo := rfl
@[simp] theorem Chip.setI2c_ns (c : Chip) (n : Nat) (x : I2c) : (c.setI2c n x).ns = c.ns := rfl
@[simp] theorem Chip.setI2c_fresh (c : Chip) (n : Nat) (x : I2c) : (c.setI2c n x).fresh = c.fresh := rfl
@[simp] theorem Chip.setI2c_resp (c : Chip) (n : Nat) (x : I2c) : (c.setI2c n x).resp = c.resp := rfl
@[simp] theorem Chip.setI2c_domains (c : Chip) (n : Nat) (x : I2c) : (c.setI2c n x).domains = c.domains := rfl
@[simp] theorem Chip.setI2c_mem (c : Chip) (n : Nat) (x : I2c) : (c.setI2c n x).mem = c.mem := rfl
@[simp] theorem Chip.setI2c_ecc (c : Chip) (n : Nat) (x : I2c) : (c.setI2c n x).ecc = c.ecc := rfl
@[simp] theorem Chip.setI2c_regs (c : Chip) (n : Nat) (x : I2c) : (c.setI2c n x).regs = c.regs := rfl
@[simp] theorem Chip.setI2c_lines (c : Chip) (n : Nat) (x : I2c) : (c.setI2c n x).lines = c.lines := rfl
@[simp] theorem Chip.setI2c_hostUp (c : Chip) (n : Nat) (x : I2c) : (c.setI2c n x).hostUp = c.hostUp := rfl
@[simp] theorem Chip.setI2c_msix (c : Chip) (n : Nat) (x : I2c) : (c.setI2c n x).msix = c.msix := rfl
@[simp] theorem Chip.setI2c_tiles (c : Chip) (n : Nat) (x : I2c) : (c.setI2c n x).tiles = c.tiles := rfl
@[simp] theorem Chip.setI2c_seq (c : Chip) (n : Nat) (x : I2c) : (c.setI2c n x).seq = c.seq := rfl
@[simp] theorem Chip.setI2c_grn (c : Chip) (n : Nat) (x : I2c) : (c.setI2c n x).grn = c.grn := rfl
@[simp] theorem Chip.setI2c_trace (c : Chip) (n : Nat) (x : I2c) : (c.setI2c n x).trace = c.trace := rfl
@[simp] theorem Chip.setI2c_time (c : Chip) (n : Nat) (x : I2c) : (c.setI2c n x).time = c.time := rfl
@[simp] theorem Chip.setI2c_od (c : Chip) (n : Nat) (x : I2c) : (c.setI2c n x).od = c.od := rfl
@[simp] theorem Chip.setI2c_pow (c : Chip) (n : Nat) (x : I2c) : (c.setI2c n x).pow = c.pow := rfl
@[simp] theorem Chip.setI2c_dram (c : Chip) (n : Nat) (x : I2c) : (c.setI2c n x).dram = c.dram := rfl
@[simp] theorem Chip.setI2c_cap (c : Chip) (n : Nat) (x : I2c) : (c.setI2c n x).cap = c.cap := rfl
@[simp] theorem Chip.setI2c_pkr (c : Chip) (n : Nat) (x : I2c) : (c.setI2c n x).pkr = c.pkr := rfl
@[simp] theorem Chip.setI2c_ev (c : Chip) (n : Nat) (x : I2c) : (c.setI2c n x).ev = c.ev := rfl
@[simp] theorem Chip.setI2c_su (c : Chip) (n : Nat) (x : I2c) : (c.setI2c n x).su = c.su := rfl
@[simp] theorem Chip.setI2c_xspi (c : Chip) (n : Nat) (x : I2c) : (c.setI2c n x).xspi = c.xspi := rfl
@[simp] theorem Chip.setI2c_silo (c : Chip) (n : Nat) (x : I2c) : (c.setI2c n x).silo = c.silo := rfl
@[simp] theorem Chip.setI2c_life (c : Chip) (n : Nat) (x : I2c) : (c.setI2c n x).life = c.life := rfl
@[simp] theorem Chip.setI2c_sw (c : Chip) (n : Nat) (x : I2c) : (c.setI2c n x).sw = c.sw := rfl
@[simp] theorem Chip.setI2c_host (c : Chip) (n : Nat) (x : I2c) : (c.setI2c n x).host = c.host := rfl
@[simp] theorem Chip.setI2c_eth (c : Chip) (n : Nat) (x : I2c) : (c.setI2c n x).eth = c.eth := rfl
@[simp] theorem Chip.setI2c_dbg (c : Chip) (n : Nat) (x : I2c) : (c.setI2c n x).dbg = c.dbg := rfl
@[simp] theorem Chip.setI2c_wdt (c : Chip) (n : Nat) (x : I2c) : (c.setI2c n x).wdt = c.wdt := rfl
@[simp] theorem Chip.setI2c_noc (c : Chip) (n : Nat) (x : I2c) : (c.setI2c n x).noc = c.noc := rfl
@[simp] theorem Chip.setI2c_core (c : Chip) (n : Nat) (x : I2c) : (c.setI2c n x).core = c.core := rfl
@[simp] theorem Chip.setI2c_spin (c : Chip) (n : Nat) (x : I2c) : (c.setI2c n x).spin = c.spin := rfl
@[simp] theorem Chip.setI2c_can (c : Chip) (n : Nat) (x : I2c) : (c.setI2c n x).can = c.can := rfl

@[simp] theorem Chip.dropWait_is08X (c : Chip) : (c.dropWait).is08X = c.is08X := rfl
@[simp] theorem Chip.dropWait_mgrSel (c : Chip) : (c.dropWait).mgrSel = c.mgrSel := rfl
@[simp] theorem Chip.dropWait_deviceNo (c : Chip) : (c.dropWait).deviceNo = c.deviceNo := rfl
@[simp] theorem Chip.dropWait_ns (c : Chip) : (c.dropWait).ns = c.ns := rfl
@[simp] theorem Chip.dropWait_fresh (c : Chip) : (c.dropWait).fresh = c.fresh := rfl
@[simp] theorem Chip.dropWait_resp (c : Chip) : (c.dropWait).resp = c.resp := rfl
@[simp] theorem Chip.dropWait_domains (c : Chip) : (c.dropWait).domains = c.domains := rfl
@[simp] theorem Chip.dropWait_mem (c : Chip) : (c.dropWait).mem = c.mem := rfl
@[simp] theorem Chip.dropWait_ecc (c : Chip) : (c.dropWait).ecc = c.ecc := rfl
@[simp] theorem Chip.dropWait_regs (c : Chip) : (c.dropWait).regs = c.regs := rfl
@[simp] theorem Chip.dropWait_lines (c : Chip) : (c.dropWait).lines = c.lines := rfl
@[simp] theorem Chip.dropWait_hostUp (c : Chip) : (c.dropWait).hostUp = c.hostUp := rfl
@[simp] theorem Chip.dropWait_msix (c : Chip) : (c.dropWait).msix = c.msix := rfl
@[simp] theorem Chip.dropWait_tiles (c : Chip) : (c.dropWait).tiles = c.tiles := rfl
@[simp] theorem Chip.dropWait_seq (c : Chip) : (c.dropWait).seq = c.seq := rfl
@[simp] theorem Chip.dropWait_grn (c : Chip) : (c.dropWait).grn = c.grn := rfl
@[simp] theorem Chip.dropWait_trace (c : Chip) : (c.dropWait).trace = c.trace := rfl
@[simp] theorem Chip.dropWait_time (c : Chip) : (c.dropWait).time = c.time := rfl
@[simp] theorem Chip.dropWait_od (c : Chip) : (c.dropWait).od = c.od := rfl
@[simp] theorem Chip.dropWait_pow (c : Chip) : (c.dropWait).pow = c.pow := rfl
@[simp] theorem Chip.dropWait_dram (c : Chip) : (c.dropWait).dram = c.dram := rfl
@[simp] theorem Chip.dropWait_cap (c : Chip) : (c.dropWait).cap = c.cap := rfl
@[simp] theorem Chip.dropWait_pkr (c : Chip) : (c.dropWait).pkr = c.pkr := rfl
@[simp] theorem Chip.dropWait_ev (c : Chip) : (c.dropWait).ev = c.ev := rfl
@[simp] theorem Chip.dropWait_su (c : Chip) : (c.dropWait).su = c.su := rfl
@[simp] theorem Chip.dropWait_silo (c : Chip) : (c.dropWait).silo = c.silo := rfl
@[simp] theorem Chip.dropWait_life (c : Chip) : (c.dropWait).life = c.life := rfl
@[simp] theorem Chip.dropWait_sw (c : Chip) : (c.dropWait).sw = c.sw := rfl
@[simp] theorem Chip.dropWait_host (c : Chip) : (c.dropWait).host = c.host := rfl
@[simp] theorem Chip.dropWait_eth (c : Chip) : (c.dropWait).eth = c.eth := rfl
@[simp] theorem Chip.dropWait_weave (c : Chip) : (c.dropWait).weave = c.weave := rfl
@[simp] theorem Chip.dropWait_dbg (c : Chip) : (c.dropWait).dbg = c.dbg := rfl
@[simp] theorem Chip.dropWait_wdt (c : Chip) : (c.dropWait).wdt = c.wdt := rfl
@[simp] theorem Chip.dropWait_noc (c : Chip) : (c.dropWait).noc = c.noc := rfl
@[simp] theorem Chip.dropWait_core (c : Chip) : (c.dropWait).core = c.core := rfl
@[simp] theorem Chip.dropWait_spin (c : Chip) : (c.dropWait).spin = c.spin := rfl
@[simp] theorem Chip.dropWait_can (c : Chip) : (c.dropWait).can = c.can := rfl

end Sys2Proof.Machine
end

