-- ==== Sys2Proof/Tests/Slice0.lean ====
section
/-!
SUPPORT. Tests: ill-formed commands are refused by WellFormed, and the hypotheses of the statements can be met.
-/
set_option linter.unusedVariables false
set_option Elab.async false
namespace Sys2Proof.Tests
open Sys2Proof.Machine

/-- A chip with some registers set. -/
def withRegs (rs : List (Nat × Nat)) : Chip := { regs := rs.map (fun e => (e.1, BitVec.ofNat 32 e.2)) }

/-- A chip in service whose Seal Unit is operational (R338, R365), with some registers and domains. -/
def withSeal (rs : List (Nat × Nat)) (ds : List Domain) : Chip :=
  { withRegs ((Reg.SEAL_STATE, 2 * 2 ^ 28) :: rs) with
    domains := .sealUnit :: ds, su := { otp := (List.range 8).map (fun i => (i, (255 : BitVec 8))) } }

/-- Capture port 0 on, with stream 0 enabled on virtual channel 1 (R298). -/
def withPort (rs : List (Nat × Nat)) (fs : List CapFrame) : Chip :=
  { withSeal ([(Reg.CAP_SCTL 0, 2 ^ 31 + 2 ^ 24), (Reg.CAP_PCTLp 0, 2 ^ 31)] ++ rs) [.capture 0] with cap := { frames := fs } }

/-- A frame of stream 0, 256 by 128 pixels. -/
def frame0 : CapFrame := { stream := 0, frame := 5, slot := 0, cfg := [2 ^ 31 + 2 ^ 24, 0x800100, 0, 0, 0, 0, 0, 0], startTai := 1 }

/-- Stream 0 on virtual channel 1, of one slot, 256 by 128 pixels, with a Granary that can reserve its frames' contexts. -/
def startChip : Chip :=
  withSeal [(Reg.CAP_SCTL 0, 2 ^ 31 + 2 ^ 24 + 2 ^ 18), (Reg.CAP_SSIZE 0, 0x800100), (Reg.CAP_PCTLp 0, 2 ^ 31), (Reg.GRN_STAT, 2 ^ 31),
    (Reg.GRN_CAPFIRST, 0x1000), (Reg.kernelWord 0 1, 256), (Reg.DRC_CTL, 1)] [.capture 0]

/-- A slice of one CTU. -/
def slice0 (st : SliceState) : Slice := { hdrAddr := 0x100001000, hdrBits := 8, qp := 30, initTyp := 0, row := 0, state := st }
/-- A picture of one CTU with one slice. -/
def picture0 (st : SliceState) : Picture :=
  { stream := 0, frame := 5, w64 := 1, h64 := 1, hasCmd := true, slices := [slice0 st], sebs := [{ cx := 0, cy := 0, addr := 0x100000000 }] }
/-- A chip whose packer knows that picture, its SEB with the given tokens in loft 0. -/
def packerChip (st : SliceState) (ts : List Nat) : Chip :=
  let c : Chip := { withRegs [(Reg.PKR_CTL, 255), (Reg.DRC_STAT, 2 ^ 31)] with
    domains := [.packer 0, .quadrant 0, .tileLogic 0], pkr := { pics := [picture0 st] } }
  (c.wrNat 0x100000008 4 ts.length).wrBytes 0x100000010 (ts.flatMap (leBytes 4))

/-- A chip with one picture command in its ring, of stream 0 and frame 5, and some pictures known. -/
def picChip (w : Nat) (ps : List Picture) : Chip :=
  let c : Chip := { withRegs [(Reg.PKR_CTL, 255), (Reg.DRC_STAT, 2 ^ 31), (Reg.CAP_SSIZE 0, 0x800100), (Reg.PKRPIC_BASE_LO, 0x2000),
      (Reg.PKRPIC_BASE_LO + 4, 1), (Reg.PKRPIC_BASE_LO + 12, 1)] with
    domains := [.packer 0, .quadrant 0, .tileLogic 0], pkr := { pics := ps } }
  ((c.wrNat 0x100002000 4 w).wrNat 0x100002004 4 5).wrNat 0x100002010 8 0x100003000
/-- A chip whose frame 5 of stream 0 has a DONE PIPE context with a good header at the start of loft 0. -/
def sebChip : Chip :=
  { (packerChip .waiting [3 * 2 ^ 28 + 1]).wrNat 0x100000004 4 5 with
    cap := { frames := [frame0] }
    grn := { capEnded := [{ ctx := 9, state := 5, stream := 0, frame := 5, cx := 0, cy := 0, isPipe := true, user0 := 0x100000000 }] } }

/-- A frame whose digests are due: ended, no tiles. -/
def toldFrame : CapFrame := { frame0 with cfg := [0, 0, 0, 0, 0, 0, 0, 0], ended := true }
/-- A chip that holds it. -/
def toldChip : Chip := { withSeal [] [] with cap := { frames := [toldFrame] } }
/-- A frame with two leaves to audit. -/
def auditFrame : SealFrame := { stream := 0, frame := 5, cap := frame0, leaves := [0, 0], perTile := 2, audit := [0, 1] }
/-- The same with one leaf left. -/
def auditLast : SealFrame := { auditFrame with audit := [1] }
/-- An ended frame of eight tiles whose HASH contexts, IDs 1 to 8, all faulted. -/
def faultFrame : CapFrame := { frame0 with ended := true, band := 2, ids := (List.range 8).map (fun i => (i + 1, 0)) }
/-- A chip that holds it. -/
def faultChip : Chip :=
  { withSeal [] [] with
    cap := { frames := [faultFrame] }
    grn := { capEnded := (List.range 8).map (fun i =>
      { ctx := i + 1, state := 6, stream := 0, frame := 5, cx := 0, cy := 0, isPipe := false, user0 := 0 }) } }
/-- Bytes of a video picture. -/
def chunk0 : PortChunk := { stream := 0, frame := 5, jpeg := false, irap := false, first := true, last := false, bytes := [1, 2] }
/-- A sheaf without frames whose membership is complete. -/
def sheaf0 : Sheaf := { stream := 0, len := 1000, startTai := 0, complete := some 0 }

/-- A drive of 2^20 LBAs of 512 bytes. -/
def drive0 : DriveReport := { nsze := 2 ^ 20 }
/-- A record that waits for a bale. -/
def item0 : Item := { typ := 3, data := [1, 2], since := 0 }
/-- A bale with one Write in flight. -/
def bale0 : Bale := { seqNo := 0, pos := 0, units := 1, items := [item0], bytes := [], writes := 1 }
/-- A chip with an inbound window of one page at the start of the common region. -/
def driveChip : Chip :=
  { withRegs [(Reg.PCIB_INWIN_BASE, 0x800000), (Reg.PCIB_INWIN_SIZE, 1), (Reg.DRC_STAT, 2 ^ 31)] with
    domains := [.quadrant 0, .tileLogic 0] }

/-- A chip whose I2C master 1 has commands waiting. -/
def i2cChip (cmds : List Nat) : Chip := { withRegs [(Reg.WEAVE_I2Cn_CTL 1, 2 ^ 31)] with weave := { i2c := [(1, { cmds := cmds })] } }

/-- A chip at step 6 of the start (R473), with some objects set. -/
def bootChip (os : List (Nat × List Byte)) : Chip :=
  { withRegs [(Reg.SYS_MODE, 0x1FF), (Reg.SILO_STAT, 2 ^ 31), (Reg.DRC_STAT, 2 ^ 31), (Reg.ODE_STAT, 2 ^ 31)] with
    pow := { started := true }, su := { released := true, bootDone := true }, od := { objects := os } }
/-- A round of a restartable kernel runs while a more urgent context is READY (R183). -/
def preemptChip : Chip :=
  { withRegs [(Reg.GRN_CTL, 2), (Reg.GRN_PREEMPT_SLACK, 0xFFFFF), (Reg.kernelWord 1 1, 512)] with
    grn := { ctxs := [(7, { state := 2, desc := [0, 0, 0, 0, 5] })]
             running := some { kernel := 1, cls := 3, isPart := false, bound := [], restart := true } } }
/-- A frame with identifier 0x123. -/
def frame1 : CanFrame := { id := 0x123, data := [1] }
/-- A chip whose CAN controller 1 is on. -/
def canChip (rs : List (Nat × Nat)) : Chip := { withRegs (rs ++ [(Reg.CAN_CTLc 1, 2 ^ 31)]) with domains := [.can] }
/-- The same with a frame at the head of its transmit ring, zeros in loft 0. -/
def canSend : Chip :=
  { canChip [(Reg.CANTX_BASE_LO 1 + 4, 1), (Reg.CANTX_BASE_LO 1 + 12, 1), (Reg.DRC_STAT, 2 ^ 31)] with
    domains := [.can, .quadrant 0, .tileLogic 0] }
/-- A chip whose MAC 0 is on with its link up, its address 10.0.0.2. -/
def ethChip (rs : List (Nat × Nat)) : Chip :=
  { withRegs (rs ++ [(Reg.ETH_CTL 0, 2 ^ 31 + 1500), (Reg.ETH_IPV4 0, 0x0A000002)]) with
    domains := [.ethernet 0], eth := [(0, { linkUp := true })] }
/-- A UDP datagram of one byte to the engine's port. -/
def udp0 : List Byte :=
  [2, 2, 2, 2, 2, 2, 1, 1, 1, 1, 1, 1, 8, 0, 0x45, 0, 0, 29, 0, 0, 0, 0, 64, 17, 0, 0, 10, 0, 0, 1, 10, 0, 0, 2, 9, 9, 0x54, 0x42, 0, 9, 0, 0, 7]
/-- A chip whose PCIe-A link is up. -/
def hostChip : Chip := { host := { linkUp := true }, domains := [.mesh, .pcieA] }

/-- A chip with a container of a TYPE in the data memory of the core, named by channel A. -/
def packageChip (typ : Byte) : Chip :=
  { withSeal [(Reg.SEAL_ARGn 0, 0x100000)] [.coreMem] with mem := [(0x100003, typ)] }
/-- The same in BOOT, vendor microcode loaded, for IMAGE_LOAD and VERIFY_IMAGE. -/
def imageChip (typ : Byte) : Chip :=
  { withSeal [(Reg.SEAL_ARGn 0, 0x100000), (Reg.SEAL_ARGn 2, typ.toNat), (Reg.ASQ_LOAD_STAT, 2 ^ 31), (Reg.SYS_MODE, 0x1FF)] [.coreMem] with
    mem := [(0x100003, typ)] }
/-- A chip that can attest: the nonce in the core's data memory, the report to the common region. -/
def attestChip : Chip :=
  withSeal [(Reg.SEAL_ARGn 0, 0x100000), (Reg.SEAL_ARGn 3, 8), (Reg.DRC_CTL, 1)] [.coreMem]
/-- A chip with session 0; its messages lie in the core's data memory. -/
def sessionChip (o : Bool) : Chip :=
  { withSeal [(Reg.SEAL_ARGn 3 + 0x100, 0x100000), (Reg.SEAL_ARGn 5 + 0x100, 4), (Reg.SEAL_ARGn 6 + 0x100, 0x100000)] [.coreMem] with
    su := { (withSeal [] []).su with sessions := [(0, { isOpen := o, nc := [], ns := [], key := [], since := 0 })] } }

/-- A Granary that is READY, its descriptor table at the start of the common view, SQ 0 and CQ 0 in loft 0, kernel 0 valid; one command
for context 5 in SQ 0, whose descriptor has a state in memory and in the Granary. -/
def grnChip (op st : Nat) : Chip :=
  let d : List Nat := [st * 2 ^ 18 + 5, 0, 0x3000, 1, 0, 0, 0, 0, 0, 0, 0, 0, 0, 0, 0, 0]
  let c : Chip := { withRegs [(Reg.DRC_STAT, 2 ^ 31), (Reg.DRC_CTL, 2), (Reg.GRN_STAT, 2 ^ 31), (Reg.GRN_DTAB, 0x800), (Reg.GRN_CAPFIRST, 0x1000),
      (Reg.kernelWord 0 1, 256), (Reg.kernelWord 0 6, 1), (Reg.SQ_BASE_LO 0, 0x1000), (Reg.SQ_BASE_LO 0 + 4, 1), (Reg.SQ_BASE_LO 0 + 12, 1),
      (Reg.CQ_BASE_LO 0, 0x2000), (Reg.CQ_BASE_LO 0 + 4, 1)] with
    domains := [.quadrant 0, .tileLogic 0]
    grn := { ctxs := if st = 0 then [] else [(5, { state := st, desc := d })] } }
  ((c.wrNat 0x100001000 4 (op * 2 ^ 24 + 5)).wrNat 0x100001008 8 77).wrBytes 0x100000140 (d.flatMap (leBytes 4))
/-- A round of kernel 1 with context 5 on tile 0. -/
def round0 : Round := { kernel := 1, cls := 3, isPart := false, bound := [(0, 5)] }
/-- A chip that runs that round. -/
def roundChip (rs : List (Nat × Nat)) : Chip :=
  { withRegs rs with domains := [.granary]
                     grn := { ctxs := [(5, { state := 4, desc := [4 * 2 ^ 18 + 5, 1] })], running := some round0 } }

/-- A REQ of device 0 from a node to a node, with TAG 2 (R259). -/
def reqPacket (src dst op size addr data : Nat) : Packet :=
  { net := 0, flits := [flit72 (dst * 2 ^ 53 + src * 2 ^ 39 + 2 * 2 ^ 31 + op * 2 ^ 27 + size * 2 ^ 24 + data * 2 ^ 23 + addr % 2 ^ 22),
      flit72 (addr / 2 ^ 22 * 2 ^ 49)] }
/-- An SNP for the line at the start of DRAM, with a TAG (R262). -/
def snpPacket (src dst op tag : Nat) : Packet :=
  { net := 2, flits := [flit40 (dst * 2 ^ 23 + src * 2 ^ 9 + op * 64 + tag), flit40 (0x100000000 / 64 * 8)] }
/-- A loft's snoop of the Granary for the line of descriptor 5. -/
def descPacket : Packet := { net := 2, flits := [flit40 (10 * 2 ^ 23 + 70 * 2 ^ 9 + 2 * 64 + 9), flit40 (0x100000140 / 64 * 8)] }
/-- A packet in the router at a node. -/
def flightChip (n : Nat) (p : Packet) : Chip := { noc := { flight := [{ node := n, input := n, packet := p }] } }
/-- A packet at the port of a node. -/
def nocChip (n : Nat) (p : Packet) : Chip := { domains := [.coreMem], noc := { inbox := [{ node := n, since := 0, packet := p }] } }
/-- The core's request for four bytes. -/
def asked0 : Asked := { node := 6, tag := 2, since := 0, packet := reqPacket 6 7 0 2 0 3 }
/-- A node that waits for an answer. -/
def askChip (n : Nat) (p : Packet) : Chip := { noc := { inbox := [{ node := n, since := 0, packet := p }], asked := [asked0] } }
/-- A loft's snoop. -/
def snoop0 (again : Bool) : Asked := { node := 70, tag := 9, since := 0, again := again, packet := snpPacket 70 6 0 9 }
/-- A chip whose debug ports hold a level, the core halted unless the registers say otherwise. -/
def portChip (l : Nat) (rs : List (Nat × Nat)) : Chip :=
  { withRegs (rs ++ [(Reg.SYS_DCORE, 2 ^ 29)]) with
    domains := [.core, .coreMem], su := { released := true }, dbg := { ports := [(0, { level := l }), (1, { level := l }), (2, { level := l })] } }

/-- An OPEN that came as a datagram. -/
def openMsg : OdDatagram := { mac := 0, src := [], payload := [0x4F, 0x44, 1, 1, 0xFF, 0, 16, 0] ++ List.replicate 32 0 }
/-- The head of a CLOSE in session 0, and the message with its MAC. -/
def closeHead : List Byte := [0x4F, 0x44, 1, 3, 0, 0, 0, 0, 1] ++ List.replicate 15 0
def closeMsg : List Byte := closeHead ++ mac16 [] (leBytes 8 1 ++ closeHead)
/-- An AUTH of session 0 with the client's proof. -/
def authMsg : List Byte := [0x4F, 0x44, 1, 2, 0, 0, 16, 0] ++ List.replicate 16 0 ++ mac16 [] [1]
theorem leBytes_leNat (a b c d : Byte) : leBytes 4 (leNat [a, b, c, d]) = [a, b, c, d] := by
  have ha := a.isLt; have hb := b.isLt; have hc := c.isLt; have hd := d.isLt
  simp only [leBytes, leNat, List.cons.injEq, and_true, ← BitVec.toNat_inj, BitVec.toNat_ofNat]
  omega
theorem argBytes_words (L : List Byte) (h : L.length = 16) : argBytes (0 :: wordsOfBytes L) 1 4 = L := by
  match L, h with
  | [a, b, c, d, e, f, g, h, i, j, k, l, m, n, o, p], _ =>
    have h1 := leBytes_leNat a b c d; have h2 := leBytes_leNat e f g h
    have h3 := leBytes_leNat i j k l; have h4 := leBytes_leNat m n o p
    simp [argBytes, argOf, listGet, wordsOfBytes, List.range, List.range.loop, h1, h2, h3, h4]
theorem authMsg_proof : mac16 [] (1 :: ([] ++ [])) = argBytes (msgSid authMsg :: wordsOfBytes (msgBody authMsg)) 1 4 :=
  (argBytes_words (mac16 [] [1]) rfl).symm
/-- A chip in SERVICE with session 0, the kernel table held. -/
def serviceChip : Chip := { sessionChip true with regs := ((withRegs [(Reg.SYS_MODE, 5), (Reg.GRN_CTL, 8)]).regs ++ (sessionChip true).regs) }
/-- A chip with session 0 whose Silo is on. -/
def siloChip : Chip := { sessionChip true with domains := [.silo] }
/-- A manager's node with a frame. -/
def nodeChip (f : CanFrame) : Chip := { od := { nmt := 5, nodeRx := [f] } }
/-- A node whose RPDO 1 writes 0x3200:0A. -/
def rpdoChip : Chip :=
  { od := { nmt := 5, nodeRx := [{ id := 0x201, data := [1] }], objects := [(0x140001, [1, 2, 0, 0]), (0x160000, [1]), (0x160001, [8, 0x0A, 0, 0x32])] } }

/-- A customer routine at 0x2000, for opcode 0xC0 on planes 1, 2 and 3. -/
def routine0 : Routine :=
  { insn := BitVec.ofNat 64 (0xC0 * 2 ^ 56 + 2 ^ 38 + 2 * 2 ^ 26 + 3 * 2 ^ 14), upc := 0x2000, isYield := true, o := [1, 2, 3, 4], k := [1, 2, 3, 4] }
/-- A tile with pages 0 and 1 resident, two PEs unmasked. -/
def tile0 : Tile :=
  { M := 5, NX := 3, planes := [(33, 9), (34, 12)], ftab := [(0, { valid := true, resident := true, frame := 1 }), (1, { valid := true, resident := true, frame := 2 })] }
/-- A chip at a microword of that routine, its round on tile 0. -/
def microChip (w : Nat) : Chip :=
  { roundChip [] with tiles := [(0, tile0)], seq := { ustore := [(0x2000, BitVec.ofNat 32 w)], running := some routine0 } }
/-- The same with a full micro-stack. -/
def fullStack (w : Nat) : Chip :=
  { microChip w with seq := { (microChip w).seq with running := some { routine0 with stack := List.replicate 8 0 } } }
/-- The same with a debug halt pending. -/
def urgentChip (w : Nat) : Chip := { microChip w with seq := { (microChip w).seq with debugHalt := true } }
/-- The same with its pages not resident. -/
def missChip (w : Nat) : Chip := { microChip w with tiles := [(0, { tile0 with ftab := [(0, { valid := true })] })] }
/-- The same with a GOR result on its way. -/
def gorChip (w : Nat) : Chip := { microChip w with seq := { (microChip w).seq with gorFlight := [(true, 1)] } }
/-- A chip with one macro-instruction in its queue, every entry loaded. -/
def headChip (i : Nat) : Chip :=
  { withRegs [(Reg.ASQ_QSTAT, 2 ^ 29), (Reg.ASQ_DISPn (i / 2 ^ 56), 2 ^ 31 + 7)] with seq := { queue := [BitVec.ofNat 64 i] } }

/-- A vendor routine of an opcode on one plane of A, B and D. -/
def vendorOf (opc : Nat) : Routine :=
  { insn := BitVec.ofNat 64 (opc * 2 ^ 56 + 96 * 2 ^ 38 + 2 ^ 26 + 68 * 2 ^ 14), upc := 0, isYield := false, o := [0, 0, 0, 0], k := [0, 0, 0, 0] }
/-- A tile with its pages resident and one plane set. -/
def vendorTile0 : Tile :=
  { M := 5, C := 3, T := 1, S := 2, lfsr := [(0, 1)], planes := [(1, 9), (68, 12)]
    ftab := (List.range 5).map (fun p => (p, { valid := true, resident := true, frame := p })) }
/-- A chip whose round on tile 0 runs that routine. -/
def vendorChip (opc : Nat) : Chip := { roundChip [] with tiles := [(0, vendorTile0)], seq := { running := some (vendorOf opc) } }
/-- The routine's hypotheses are met. -/
abbrev VendorMeets (opc : Nat) (op : DWord → VendorOp) : Prop :=
  vendorRoutine (vendorChip opc) opc = some (vendorOf opc) ∧
    (op (vendorOf opc).insn).srcs.all (fun g => groupOk (op (vendorOf opc).insn).cls g (op (vendorOf opc).insn).dst) = true ∧
    ((vendorChip opc).touch ((op (vendorOf opc).insn).srcs.flatMap groupPlanes ++ groupPlanes (op (vendorOf opc).insn).dst)).1 = true

/-- A released core with a word at its PC in the ITCM and numbers in its registers. -/
def coreChip (w : Nat) : Chip :=
  { withRegs [(Reg.SYS_DCORE, 0), (Reg.ASQ_QSTAT, 2 ^ 29)] with
    domains := [.core, .coreMem, .mesh], su := { released := true }
    mem := ((List.range 4).map (fun i => (i + 64, BitVec.ofNat 8 (w / 256 ^ i)))).filter (fun e => decide (e.2 ≠ 0))
    core := { pc := 64, g := (List.range 16).map (fun i => BitVec.ofNat 32 (i * 0x12345)), a := [9, 0xFFFFFFFFFF, 7, 5]
              p := [0x100000, 0x100008, 0x100010, 0x1000000, 0, 0, 0, 0], b := [0, 0, 0x30, 0, 0, 0, 0, 0], l := [0, 0, 0x20, 0, 0, 0, 0, 0]
              n := [0, 0, 0xFFFFFF, 0, 0, 0, 0, 0] } }
/-- The row's hypotheses are met by that chip. -/
abbrev CoreMeets (w : Word) (mine : Word → Bool) : Prop :=
  coreReady (coreChip w.toNat) = true ∧ (coreChip w.toNat).coreFetch.1 = some w ∧ wordUndefined w = false ∧ mine w = true ∧
    condOk (coreChip w.toNat).coreFetch.2.core.flg (coreChip w.toNat).coreFetch.2.core.gorl (Machine.fld w 31 28) = true

/-- The same with a reservation on the line of the DTCM's start. -/
def resvChip (w : Nat) : Chip := { coreChip w with core := { (coreChip w).core with resv := some (0x100000 / 64) } }
/-- The same with Z set and no reservation. -/
def zeroChip (w : Nat) : Chip := { coreChip w with core := { (coreChip w).core with flg := 2 ^ 30 } }
/-- The same with pointer 0 misaligned. -/
def oddChip (w : Nat) : Chip := { coreChip w with core := { (coreChip w).core with p := [0x100001, 0, 0, 0, 0, 0, 0, 0] } }
/-- The same with P0 at a stimulus port that blocks, its FIFO full. -/
def stimChip (w : Nat) : Chip :=
  { coreChip w with
    regs := (withRegs [(Reg.SYS_DCORE, 0), (Reg.ASQ_QSTAT, 2 ^ 29), (Reg.DBG_TRACE_CTL, 3), (Reg.DBG_STIM_BLOCK, 1)]).regs
    trace := { queue := List.replicate 16 { typ := 1 } }, core := { (coreChip w).core with p := [0x21100700, 0, 0, 0, 0, 0, 0, 0] } }
/-- The same with a full queue, which dispatches or not. -/
def fullChip (live : Bool) (w : Nat) : Chip :=
  { coreChip w with seq := { queue := List.replicate 64 0 }, regs := (withRegs [(Reg.SYS_DCORE, 0), (Reg.ASQ_QSTAT, if live then 2 ^ 29 else 0)]).regs
                    core := { (coreChip w).core with flg := 2 ^ 30 } }
/-- The same, holding at that word. -/
def heldChip (h : CoreHold) (w : Nat) : Chip := { coreChip w with core := { (coreChip w).core with hold := h } }
/-- The same with a STATUS. -/
def excChip (st : Nat) (w : Nat) : Chip :=
  { coreChip w with core := { (coreChip w).core with status := BitVec.ofNat 32 st, epc := [0x40, 0x44, 0x48, 0, 0, 0], estat := [0x10, 0x11, 0x12, 0, 0, 0] } }
/-- The same with a breakpoint that halts. -/
def bkptChip (w : Nat) : Chip :=
  { coreChip w with regs := (withRegs [(Reg.SYS_DCORE, 0), (Reg.DBG_RUNCTL, 2 ^ 8)]).regs, dbg := { ports := [(0, { level := 2 })] } }

/-- The core's chip with G0 = 0 and G3 the most negative number. -/
def mostChip (w : Nat) : Chip := { coreChip w with core := { (coreChip w).core with g := [0, 0, 0, 0x80000000, 0, 0, 0, 0, 0, 0, 0, 0, 0, 0, 0, 0] } }

/-! ### Ill-formed commands are refused, one for each check -/

theorem test_wf_linePacket : (Instr.linePacket 0 0 .good false 0 (List.replicate 65536 0) false).wf = false := by
  simp only [Instr.wf, List.length_replicate]; decide
theorem test_wf_sebReceive : (Instr.sebReceive 262144).wf = false ∧ (Instr.sebReceive 262143).wf = true := by decide
theorem test_wf_descSnoop : (Instr.descSnoop 262144 true).wf = false := by decide
theorem test_wf_dramInitDone : (Instr.dramInitDone [3, 3]).wf = false := by decide
theorem test_wf_packetHop_grid : (Instr.packetHop (32 * 18) 0 none).wf = false := by decide
theorem test_wf_packet_req : (Instr.packetHop 0 0 (some { net := 0, flits := [0] })).wf = false := by decide
theorem test_wf_packet_rsp : (Instr.packetHop 0 0 (some { net := 1, flits := [2 ^ 72] })).wf = false := by decide
theorem test_wf_packet_snp : (Instr.packetHop 0 0 (some { net := 2, flits := [0], words := [.good] })).wf = false := by decide
theorem test_wf_packet_dat : (Instr.packetHop 0 0 (some { net := 3, flits := [0, 0], words := [] })).wf = false := by decide
theorem test_wf_packet_net : (Instr.packetHop 0 0 (some { net := 4, flits := [] })).wf = false := by decide
theorem test_wf_systemStook : (Instr.systemStook [(16, [])]).wf = false ∧ (Instr.systemStook [(1, [[1]])]).wf = false := by decide
theorem test_wf_coreRelease : (Instr.coreRelease (List.replicate 525825 0) []).wf = false := by
  simp only [Instr.wf, imageMax, List.length_replicate]; decide
theorem test_wf_xspiDone : (Instr.xspiDone [] [(1, 2), (1, 3)]).wf = false := by decide
theorem test_wf_swStartupComplete : (Instr.swStartupComplete { lbaSize := 513 } []).wf = false ∧
    (Instr.swStartupComplete {} [(0, [1])]).wf = false := by decide
theorem test_wf_driveRequest : (Instr.driveRequest 0 none 4097).wf = false ∧ (Instr.driveRequest 0 (some []) 0).wf = false := by decide
theorem test_wf_pciaInboundTlp : (Instr.pciaInboundTlp false true false 0 []).wf = false := by decide
theorem test_wf_ethRxFrame : (Instr.ethRxFrame 0 [1] false 0).wf = false := by decide
theorem test_wf_usdoRequest : (Instr.usdoRequest { client := 0, index := 0, sub := 0, write := none }).wf = false := by decide
theorem test_wf_tunnelRequest : (Instr.tunnelRequest 0 [1]).wf = false ∧ (Instr.tunnelRequest 1 []).wf = false := by decide
theorem test_wf_microcodeImageWrite : (Instr.microcodeImageWrite 0 []).wf = false := by decide
theorem test_wf_workerWindowAccess : (Instr.workerWindowAccess none 0xA000 0 none).wf = false := by decide
theorem test_wf_canRxFrame_id : (Instr.canRxFrame 0 { id := 0x800 } 0).wf = false := by decide
theorem test_wf_canRxFrame_length : (Instr.canRxFrame 0 { id := 1, fd := true, data := List.replicate 9 0 } 0).wf = false := by decide
theorem test_wf_canRxFrame_remote : (Instr.canRxFrame 0 { id := 1, rtr := true, data := [1] } 0).wf = false := by decide
theorem test_wf_wakeCanFrame : (Instr.wakeCanFrame { id := 1, fd := true } 0).wf = false := by decide
theorem test_wf_resetRelease : (Instr.resetRelease 0 [{ tile := 1 }, { tile := 1 }]).wf = false := by decide
theorem test_wf_weaveImageWrite : (Instr.weaveImageWrite 0 []).wf = false := by decide
theorem test_wf_adcChannelResult : (Instr.adcChannelResult []).wf = false := by decide
theorem test_wf_swStartFail : (Instr.swStartFail { lbaSize := 256 }).wf = false := by decide

/-! ### Worked examples of the spec -/

/-- No word of the table spells a command. -/
theorem test_decode_none : decodeTableWord 8 0 = none := rfl
/-- The rows of R249 for FMUL 0x00000001 × 0x3F000000 under each RM. -/
theorem test_r249_fmul : ([0, 1, 2, 3].map (fun m => (fpMul fpSingle (fpRoundOf m) 1 0x3F000000).1)) = [0, 1, 0, 0] := by decide +kernel
/-- The row of R249 for FDIV 1 / +0. -/
theorem test_r249_fdiv : (fpDiv fpSingle (fpRoundOf 2) 0x3F800000 0).1 = 0x7F800000 := by decide +kernel
/-- The row of R106 for FADDH 0x7BFF + 0x4C00 under each RND. -/
theorem test_r106_faddh : ([0, 1, 2, 3].map (fun m => (fpAdd fpHalf (fpRoundOf m) 0x7BFF 0x4C00).1)) = [0x7BFF, 0x7C00, 0x7C00, 0x7BFF] := by
  decide +kernel
/-- The rows of R100 for 510 with SAT = 1 under each RND. -/
theorem test_r100_narrow :
    ([0, 1, 2, 3].map (fun r => narrow true true 8 (roundShift r 510 2))) = [(127, false), (127, true), (127, true), (127, true)] := by decide
/-- The row of R101 for SUB 0x0000 − 0x8000 with SAT = 0 and 1. -/
theorem test_r101_sub : narrow true false 16 (0 - -0x8000) = (0x8000, true) ∧ narrow true true 16 (0 - -0x8000) = (0x7FFF, true) := by decide
/-- R103: with SGN = 1, SHR of 0xC001 by 1 gives 0xE001 under RND 0b01 and 0xE000 under RND 0b00. -/
theorem test_r103_shr : wrapInt 16 (roundShift 1 (toSigned 16 0xC001) 1) = 0xE001 ∧ wrapInt 16 (roundShift 0 (toSigned 16 0xC001) 1) = 0xE000 := by
  decide
/-- R243: −7 divided by 2 gives −3 with remainder −1. -/
theorem test_r243_divs : toSigned 32 (divS (2 ^ 32 - 7) 2).q = -3 ∧ toSigned 32 (divS (2 ^ 32 - 7) 2).r = -1 := by decide
/-- At reset the lines are settled and the queue is empty. -/
theorem reset_inv : Settled State.reset.chip ∧ State.reset.pending = [] ∧ State.reset.chip.memWf = true :=
  ⟨by unfold Settled; decide +kernel, rfl, rfl⟩

/-- The hypotheses of `RaisingSetsBothPendingBits` can be met, clause by clause. -/
theorem test_witness_RaisingSetsBothPendingBits :
    nclkRuns State.reset.chip = true :=
  by decide

/-- The hypotheses of `TimeCommandsComplete` can be met, clause by clause. -/
theorem test_witness_TimeCommandsComplete :
    (∃ (c : Chip), let d : Chip := { c with time := { c.time with last := mapSet 0 c.time.last 1 (c.ns + 1) } }; let e : Int := (c.time.now.toNat : Int) - (ppsInstant c : Int); (followsManager c = false) ∧ (timeActive c = 1) ∧ (sourceUsed d 1 = true) ∧ ((c.reg Reg.TIME_STEP_TH).toNat * 1000 ≤ e.natAbs)) ∧
    (∃ (c : Chip), let d : Chip := { c with time := { c.time with last := mapSet 0 c.time.last 1 (c.ns + 1) } }; let e : Int := (c.time.now.toNat : Int) - (ppsInstant c : Int); (followsManager c = false) ∧ (timeActive c = 1) ∧ (sourceUsed d 1 = true) ∧ (e.natAbs < (c.reg Reg.TIME_STEP_TH).toNat * 1000)) ∧
    (∃ (c : Chip) (tag : BitVec 2), (tag ≠ 2)) ∧
    (∃ (c : Chip), (timeState c = 2) ∧ (followsManager c = false) ∧ (sourceFresh c (timeActive c) = false)) ∧
    (∃ (c : Chip), (c.time.now.toNat = 2 ^ 64 - 1)) ∧
    (∃ (c : Chip), (c.pow.xtalLost = false)) :=
  by
  refine ⟨⟨{ withRegs [(Reg.TIME_CTL, 1), (Reg.TIME_STAT, 2 ^ 27), (Reg.TIME_PPS_SEC, 7), (Reg.TIME_STEP_TH, 1)] with time := { now := 8000000123 } }, ?_⟩,
    ⟨{ withRegs [(Reg.TIME_CTL, 1), (Reg.TIME_STAT, 2 ^ 27), (Reg.TIME_PPS_SEC, 8), (Reg.TIME_STEP_TH, 1)] with time := { now := 8000000123 } }, ?_⟩,
    ⟨{}, 1, ?_⟩,
    ⟨withRegs [(Reg.TIME_STAT, 2 ^ 31 + 2 ^ 27)], ?_⟩,
    ⟨{ time := { now := BitVec.allOnes 64 } }, ?_⟩,
    ⟨{}, ?_⟩⟩ <;> decide +kernel

/-- The hypotheses of `TraceAndWatchdogCommandsComplete` can be met, clause by clause. -/
theorem test_witness_TraceAndWatchdogCommandsComplete :
    (∃ (c : Chip) (p : Fin 32) (size : Fin 3) (data : Word) (port : Option (Fin 3)), (portRefused c port (0x700 + 4 * p.val) true = false) ∧ (traceSink c ≠ 0) ∧ (stimCount c p.val < 16) ∧ (c.trace.held.any (fun x => decide (x.src = p.val)) = false)) ∧
    (∃ (c : Chip) (p : Fin 32) (size : Fin 3) (data : Word) (port : Option (Fin 3)), (portRefused c port (0x700 + 4 * p.val) true = false) ∧ (traceSink c ≠ 0) ∧ (16 ≤ stimCount c p.val) ∧ (c.bit Reg.DBG_STIM_BLOCK p.val = true)) ∧
    (∃ (c : Chip) (p : Fin 32) (size : Fin 3) (data : Word) (port : Option (Fin 3)), (portRefused c port (0x700 + 4 * p.val) true = false) ∧ (traceSink c ≠ 0) ∧ (16 ≤ stimCount c p.val) ∧ (c.bit Reg.DBG_STIM_BLOCK p.val = false)) ∧
    (∃ (c : Chip) (p : Fin 32) (size : Fin 3) (data : Word) (port : Option (Fin 3)), (portRefused c port (0x700 + 4 * p.val) true = false) ∧ (traceSink c = 0)) ∧
    (∃ (c : Chip) (p : Fin 32) (size : Fin 3) (data : Word) (q : Fin 3), (portLevel c q.val < dbgLevel (0x700 + 4 * p.val) true)) ∧
    (∃ (c : Chip) (w : Fin 4) (port : Option (Fin 3)), (w ≠ 3) ∧ (portRefused c port (0x800 + 4 * w.val) false = false)) ∧
    (∃ (c : Chip) (port : Option (Fin 3)), (portRefused c port 0x80C false = false)) ∧
    (∃ (c : Chip) (w : Fin 4) (q : Fin 3), (portLevel c q.val < dbgLevel (0x800 + 4 * w.val) false)) ∧
    (∃ (c : Chip), (c.trace.dgram ≠ []) ∧ (c.trace.dgramAt + 1000000 ≤ c.ns)) ∧
    (∃ (c : Chip) (freeze : Bool), (c.bit Reg.WDT_CTL 0 = false)) ∧
    (∃ (c : Chip) (v : Word), (v ≠ 0x5A3C)) ∧
    (∃ (c : Chip), (c.wdt.expires.isSome = true) ∧ (c.wdt.warned = false) ∧ (0 < c.fld Reg.WDT_WARN 19 0) ∧ (wdtLeft c ≤ c.fld Reg.WDT_WARN 19 0 * 1000000)) ∧
    (∃ (c : Chip), (c.wdt.expires.isSome = true) ∧ (wdtLeft c = 0) ∧ (c.silo.capsule = none) ∧ (c.pow.dormant = false) ∧ (c.bit Reg.SYS_DCORE 29 = false)) ∧
    (∃ (c : Chip), (c.wdt.expires.isSome = true) ∧ (wdtLeft c = 0) ∧ (c.silo.capsule = none) ∧ (c.pow.dormant = false) ∧ (c.bit Reg.SYS_DCORE 29 = true)) :=
  by
  refine ⟨⟨withRegs [(Reg.DBG_TRACE_CTL, 1)], 3, 1, 0x12345, none, ?_⟩,
    ⟨{ withRegs [(Reg.DBG_TRACE_CTL, 1), (Reg.DBG_STIM_BLOCK, 8)] with trace := { queue := List.replicate 16 { typ := 1, src := 3 } } }, 3, 1, 0x12345, none, ?_⟩,
    ⟨{ withRegs [(Reg.DBG_TRACE_CTL, 1)] with trace := { queue := List.replicate 16 { typ := 1, src := 3 } } }, 3, 1, 0x12345, none, ?_⟩,
    ⟨{}, 3, 1, 0x12345, none, ?_⟩,
    ⟨{}, 3, 1, 0x12345, 0, ?_⟩,
    ⟨{ trace := { reel := [(0, { typ := 1 })] } }, 0, none, ?_⟩,
    ⟨{}, none, ?_⟩,
    ⟨{}, 1, 2, ?_⟩,
    ⟨{ ns := 1000000, trace := { dgram := [{ typ := 1 }] } }, ?_⟩,
    ⟨{ ns := 5 }, true, ?_⟩,
    ⟨{}, 0x5A3D, ?_⟩,
    ⟨{ withRegs [(Reg.WDT_WARN, 1)] with wdt := { expires := some 1000000 } }, ?_⟩,
    ⟨{ ns := 9, wdt := { expires := some 9 } }, ?_⟩,
    ⟨{ withRegs [(Reg.SYS_DCORE, 2 ^ 29)] with ns := 9, wdt := { expires := some 9 } }, ?_⟩⟩ <;> decide +kernel

/-- The hypotheses of `SpindleCommandsComplete` can be met, clause by clause. -/
theorem test_witness_SpindleCommandsComplete :
    (∃ (c : Chip) (l : Fin 4) (r : PeerReport), let t : Chip := Chip.place ((Chip.raise (Chip.gangPeer { ((c.pinPort (spindleNode l.val)).setBit (Reg.SPIN_LINKl l.val) 31 true).setFld (Reg.SPIN_LINKl l.val) 27 24 r.device.val with spin := { (c.pinPort (spindleNode l.val)).spin with inRow := mapSet 0 (c.pinPort (spindleNode l.val)).spin.inRow l.val 0 } } l.val r) (224 + l.val)).askDrain (spindleNode l.val) 0); let via : Nat := viaLink t l.val; (c.bit Reg.SPIN_CTL l.val = true) ∧ (c.isOn (.spindle l.val) = true) ∧ (r.side.val = facing l.val) ∧ (linkUp c l.val = false) ∧ (isManager t = true)) ∧
    (∃ (c : Chip) (l : Fin 4) (r : PeerReport), let t : Chip := Chip.place ((Chip.raise (Chip.gangPeer { ((c.pinPort (spindleNode l.val)).setBit (Reg.SPIN_LINKl l.val) 31 true).setFld (Reg.SPIN_LINKl l.val) 27 24 r.device.val with spin := { (c.pinPort (spindleNode l.val)).spin with inRow := mapSet 0 (c.pinPort (spindleNode l.val)).spin.inRow l.val 0 } } l.val r) (224 + l.val)).askDrain (spindleNode l.val) 0); let via : Nat := viaLink t l.val; let d : Chip := { t with spin := { t.spin with far := (t.spin.far &&& (65535 ^^^ via)) ||| ((r.reach.toNat ||| 2 ^ r.device.val) &&& via) } }; (c.bit Reg.SPIN_CTL l.val = true) ∧ (c.isOn (.spindle l.val) = true) ∧ (r.side.val = facing l.val) ∧ (linkUp c l.val = false) ∧ (isManager t = false) ∧ (upstream d = some l.val)) ∧
    (∃ (c : Chip) (l : Fin 4), let t : Chip := Chip.askDrain { ((((c.pinPort (spindleNode l.val)).setBit (Reg.SPIN_LINKl l.val) 31 false).raise (224 + l.val)).lifeAdd 28 1) with spin := { c.spin with inRow := mapSet 0 c.spin.inRow l.val 0, peers := mapErase l.val c.spin.peers } } (spindleNode l.val) 0; let via : Nat := viaLink c l.val; (linkUp c l.val = true) ∧ (isManager t = true)) ∧
    (∃ (c : Chip) (l : Fin 4), let t : Chip := Chip.askDrain { ((((c.pinPort (spindleNode l.val)).setBit (Reg.SPIN_LINKl l.val) 31 false).raise (224 + l.val)).lifeAdd 28 1) with spin := { c.spin with inRow := mapSet 0 c.spin.inRow l.val 0, peers := mapErase l.val c.spin.peers } } (spindleNode l.val) 0; (linkUp c l.val = true) ∧ ((upstream c).isSome = true → upstream c ≠ some l.val) ∧ (isManager t = false)) ∧
    (∃ (c : Chip) (l : Fin 4), (linkUp c l.val = true)) ∧
    (∃ (c : Chip) (l : Fin 4), (linkUp c l.val = true) ∧ (mapGet 0 c.spin.inRow l.val = 15)) ∧
    (∃ (c : Chip), (isManager c = true) ∧ (c.spin.mapOk = none) ∧ (mapValid (odNat c 0x2F01 1) = false)) ∧
    (∃ (c : Chip), (isManager c = true) ∧ (c.spin.mapOk = none) ∧ (mapValid (odNat c 0x2F01 1) = true)) ∧
    (∃ (c : Chip) (d : Fin 16), (isManager c = true) ∧ (c.spin.map.testBit d.val = true) ∧ ((reachMask c).testBit d.val = false) ∧ (c.spin.absent.testBit d.val = false) ∧ (c.spin.since + 500000000 ≤ c.ns)) ∧
    (∃ (c : Chip), let d : Chip := c.bootStep3; (isManager c = false) ∧ (c.isOn .sealUnit = true) ∧ (bootOpen c = true) ∧ (upstream c = none) ∧ (c.su.waitAt.getD c.spin.since + 1000000000 ≤ c.ns) ∧ (sealState d ≠ 3)) ∧
    (∃ (c : Chip), (isManager c = false) ∧ (c.isOn .sealUnit = true) ∧ (bootOpen c = true) ∧ (upstream c = none) ∧ (c.su.waitAt.getD c.spin.since + 1000000000 ≤ c.ns) ∧ (sealState c.bootStep3 = 3)) :=
  by
  refine ⟨⟨{ withRegs [(Reg.SPIN_CTL, 15), (Reg.SPIN_STAT, 2 ^ 31)] with domains := [.spindle 1] }, 1, { side := 3, device := 1, tai := 0, gang := false, reach := 2 }, ?_⟩,
    ⟨{ withRegs [(Reg.SPIN_CTL, 15), (Reg.SPIN_STAT, 15)] with domains := [.spindle 3], deviceNo := 15 }, 3, { side := 1, device := 0, tai := 5, gang := false, reach := 1, map := 3 }, ?_⟩,
    ⟨{ withRegs [(Reg.SPIN_LINKl 1, 2 ^ 31 + 2 ^ 24), (Reg.SPIN_STAT, 2 ^ 31 + 3)] with domains := [.spindle 1] }, 1, ?_⟩,
    ⟨{ withRegs [(Reg.SPIN_LINKl 1, 2 ^ 31 + 2 ^ 24)] with domains := [.spindle 1] }, 1, ?_⟩,
    ⟨{ withRegs [(Reg.SPIN_LINKl 1, 2 ^ 31)] with domains := [.spindle 1] }, 1, ?_⟩,
    ⟨{ withRegs [(Reg.SPIN_LINKl 1, 2 ^ 31)] with domains := [.spindle 1], spin := { inRow := [(1, 15)] } }, 1, ?_⟩,
    ⟨{ withRegs [(Reg.SPIN_STAT, 2 ^ 31)] with od := { objects := [(0x2F0101, [4, 0])] } }, ?_⟩,
    ⟨{ withRegs [(Reg.SPIN_STAT, 2 ^ 31)] with od := { objects := [(0x2F0101, [3, 0])] } }, ?_⟩,
    ⟨{ withRegs [(Reg.SPIN_STAT, 2 ^ 31 + 1)] with ns := 500000000, spin := { map := 3 } }, 1, ?_⟩,
    ⟨{ withRegs [(Reg.SPIN_STAT, 0)] with ns := 1000000000, domains := [.sealUnit], pow := { started := true }, su := { waitAt := some 0 } }, ?_⟩,
    ⟨{ withRegs [(Reg.SPIN_STAT, 0)] with ns := 1000000000, domains := [.sealUnit], pow := { started := true }, su := { otpEcc := [(5, Ecc.double)] } }, ?_⟩⟩ <;> decide +kernel

/-- The hypotheses of `DramCommandsComplete` can be met, clause by clause. -/
theorem test_witness_DramCommandsComplete :
    (∃ (c : Chip) (failed : List (Fin 256)), let bad : List Nat := (List.range 256).filter (fun t => failed.any (fun u => decide (u.val = t)) || !c.isOn (.quadrant (quadrantOf t))); let d : Chip := bad.foldl (fun c t => ((c.setBit (Reg.DRC_LSTATt t) 30 true).setBit Reg.DRC_STAT 30 true).raise 118) c; (c.pow.started = true) ∧ (c.fld Reg.SYS_MODE 15 8 = 1) ∧ (c.bit Reg.SYS_SUPPLY 3 = false) ∧ (c.bit Reg.SYS_SUPPLY 4 = false) ∧ (c.bit Reg.DRC_STAT 31 = false)) ∧
    (∃ (c : Chip) (t : Fin 256) (a : Nat), let d : Chip := (c.dramCe t.val).setEcc a .good; (mayScrub c t.val = true) ∧ (loftOf a = some t.val) ∧ (c.ecc = [(a, Ecc.single)]) ∧ (d.dram.scrubbed.contains t.val = false) ∧ ((List.range 256).all (fun u => retired d u || (d.dram.scrubbed ++ [t.val]).contains u) = false)) ∧
    (∃ (c : Chip) (t : Fin 256), (mayScrub c t.val = true) ∧ (c.ecc = []) ∧ ((List.range 256).all (fun u => retired c u || decide (u = t.val) || c.dram.scrubbed.contains u) = true)) ∧
    (∃ (c : Chip) (q : Fin 4) (temp : BitVec 12), (c.isOn (.quadrant q.val) = true) ∧ (c.fld (Reg.DRC_QTEMPq q.val) 13 12 = 0) ∧ (342 ≤ toSigned 12 temp.toNat) ∧ (toSigned 12 temp.toNat ≤ 380)) ∧
    (∃ (c : Chip) (q : Fin 4) (temp : BitVec 12), (c.isOn (.quadrant q.val) = true) ∧ (c.fld (Reg.DRC_QTEMPq q.val) 13 12 = 2) ∧ (372 < toSigned 12 temp.toNat) ∧ (toSigned 12 temp.toNat ≤ 420)) ∧
    (∃ (c : Chip) (q : Fin 4), (c.isOn (.quadrant q.val) = true) ∧ (c.fld Reg.DRC_CTL 15 8 ≠ 0) ∧ (3 ≤ tolBound c [1, 4]) ∧ (mapGet 0 c.dram.usedAt q.val + 1000 * c.fld Reg.DRC_CTL 15 8 ≤ c.ns)) ∧
    (∃ (c : Chip) (q : Fin 4), (requestWaits c q.val = true)) ∧
    (∃ (c : Chip) (q : Fin 4), (requestWaits c q.val = false)) ∧
    (∃ (c : Chip) (q : Fin 4), (c.isOn (.quadrant q.val) = false) ∧ (c.pow.dormant = false)) ∧
    (∃ (c : Chip) (q : Fin 4), (c.isOn (.quadrant q.val) = true) ∧ (mayQuadrantOff c q.val = true)) ∧
    (∃ (c : Chip) (q : Fin 4), (c.isOn (.quadrant q.val) = true) ∧ (mayQuadrantOff c q.val = false)) :=
  by
  refine ⟨⟨{ withRegs [(Reg.SYS_MODE, 0x1FF), (Reg.SYS_SUPPLY, 0)] with domains := [.quadrant 0], pow := { started := true }, mem := [(5, 1), (0x100000000, 3)] }, [9], ?_⟩,
    ⟨{ withRegs [(Reg.DRC_STAT, 2 ^ 31), (Reg.DRC_CTL, 2 ^ 16)] with ns := 3600000000000, domains := [.quadrant 0, .tileLogic 0], ecc := [(0x100000008, Ecc.single)] }, 0, 0x100000008, ?_⟩,
    ⟨{ withRegs [(Reg.DRC_STAT, 2 ^ 31), (Reg.DRC_CTL, 2 ^ 16)] with ns := 3600000000000, domains := [.quadrant 0, .tileLogic 0], dram := { scrubbed := List.range 256 } }, 0, ?_⟩,
    ⟨{ withRegs [(Reg.DRC_QTEMPq 2, 0)] with domains := [.quadrant 2] }, 2, 342, ?_⟩,
    ⟨{ withRegs [(Reg.DRC_QTEMPq 2, 0x2190)] with domains := [.quadrant 2] }, 2, 373, ?_⟩,
    ⟨{ withRegs [(Reg.DRC_CTL, 0x100), (Reg.SYS_TOL1, 5), (Reg.SYS_TOL1 + 12, 5)] with ns := 1000, domains := [.quadrant 2] }, 2, ?_⟩,
    ⟨{ nocChip 33 (reqPacket 6 33 0 0 0x100000000 0) with regs := [(Reg.DRC_STAT, 0xF0)] }, 0, ?_⟩,
    ⟨{}, 2, ?_⟩,
    ⟨{ mem := [(5, 1), (0x100000000, 3)] }, 0, ?_⟩,
    ⟨{ withRegs [(Reg.DRC_CTL, 0x80)] with domains := [.quadrant 0], mem := [(5, 1), (0x100000000, 3)] }, 0, ?_⟩,
    ⟨{ withRegs [(Reg.DRC_CTL, 0)] with domains := [.quadrant 0] }, 0, ?_⟩⟩ <;> decide +kernel

/-- The hypotheses of `DrainCommandsComplete` can be met, clause by clause. -/
theorem test_witness_DrainCommandsComplete :
    (∃ (c : Chip) (d : Drain) (rest : List Drain), (c.noc.drain = none) ∧ (c.noc.drains = d :: rest)) ∧
    (∃ (c : Chip) (d : Drain), (c.noc.drain = some d) ∧ (buffersEmpty c d.node = true)) ∧
    (∃ (c : Chip) (d : Drain), (c.noc.drain = some d) ∧ (d.late = false) ∧ (d.since + 4096 ≤ c.ns)) ∧
    (∃ (c : Chip) (d : Drain), (c.noc.drain = some d) ∧ (d.goals.contains 1 = false)) ∧
    (∃ (c : Chip) (d : Drain), let x : Chip := (Chip.showDrains { c with noc := { c.noc with drain := none } }).resumeInput d.node; (c.noc.drain = some d) ∧ (d.goals.contains 1 = true)) ∧
    (∃ (c : Chip) (e : Fin 64) (v : Bool), (hasPort (edgeNode e.val) = true) ∧ (neverDisabled (edgeNode e.val) = false) ∧ (c.bit (Reg.NOC_PORTe e.val) 0 = !v)) ∧
    (∃ (c : Chip) (e : Fin 64) (v : Bool), (neverDisabled (edgeNode e.val) = true)) ∧
    (∃ (c : Chip) (t : Fin 256) (st : Nat), (c.pow.goingDown = [(.tileLogic t.val, st)]) ∧ (powerPort c (tileNode t.val) = 1) ∧ (nothingOwed c (tileNode t.val) = true) ∧ (c.noc.sleep.any (fun e => decide (e.1 = tileNode t.val)) = false)) ∧
    (∃ (c : Chip) (k : Fin 4) (st : Nat), (c.pow.goingDown = [(.packer k.val, st)]) ∧ (powerPort c (32 * (k.val + 10)) = 1) ∧ (nothingOwed c (32 * (k.val + 10)) = true) ∧ (c.noc.sleep.any (fun e => decide (e.1 = 32 * (k.val + 10))) = false) ∧ (lanesNeed c (.packer k.val) = false)) ∧
    (∃ (c : Chip) (t : Fin 256), (c.isOn (.tileLogic t.val) = false) ∧ (c.noc.sleep.any (fun e => decide (e.1 = tileNode t.val)) = true)) :=
  by
  refine ⟨⟨{ ns := 8, noc := { drains := [{ node := 32, goals := [1] }] } }, { node := 32, goals := [1] }, [], ?_⟩,
    ⟨{ noc := { drain := some { node := 32, goals := [1] } } }, { node := 32, goals := [1] }, ?_⟩,
    ⟨{ ns := 4096, noc := { drain := some { node := 32, goals := [1] } } }, { node := 32, goals := [1] }, ?_⟩,
    ⟨{ noc := { drain := some { node := 32, goals := [2] } } }, { node := 32, goals := [2] }, ?_⟩,
    ⟨{ noc := { drain := some { node := 33, goals := [1] } }, pow := { goingDown := [(.tileLogic 0, 2)] } }, { node := 33, goals := [1] }, ?_⟩,
    ⟨{}, 0, true, ?_⟩,
    ⟨{}, 22, true, ?_⟩,
    ⟨{ domains := [.tileLogic 3], noc := { ports := [(tileNode 3, 1)] }, pow := { goingDown := [(.tileLogic 3, 2)] } }, 3, 2, ?_⟩,
    ⟨{ domains := [.packer 1], noc := { ports := [(352, 1)] }, pow := { goingDown := [(.packer 1, 0)] } }, 1, 0, ?_⟩,
    ⟨{ noc := { sleep := [(tileNode 3, { net := 0, flits := [1, 2] })] } }, 3, ?_⟩⟩ <;> decide +kernel

/-- The hypotheses of `PowerCommandsComplete` can be met, clause by clause. -/
theorem test_witness_PowerCommandsComplete :
    (∃ (c : Chip) (t : Fin 256), (tileMayChoose c t.val = true)) ∧
    (∃ (c : Chip), (17 ≤ tolBound c [2, 3, 5]) ∧ (c.bit Reg.SYS_DCORE 30 = true)) ∧
    (∃ (c : Chip), (tolBound c [2, 3, 5] < 17)) ∧
    (∃ (c : Chip) (k : Fin 5) (data : Word), let d : Chip := c.setReg (Reg.SYS_TOL1 + 4 * k.val) (BitVec.ofNat 32 (data.toNat % 2 ^ 20)); (32 ≤ tolBound d [1, 3]) ∧ (3 ≤ tolBound d [1, 4]) ∧ (17 ≤ tolBound d [2, 3, 5]) ∧ (32 ≤ tolBound d [4]) ∧ (15 ≤ tolBound d [3])) ∧
    (∃ (c : Chip) (data : Word), let d : Chip := c.setReg (Reg.SYS_TOL1 + 12) (BitVec.ofNat 32 (data.toNat % 2 ^ 20)); (3 ≤ tolBound d [1, 4]) ∧ (17 ≤ tolBound d [2, 3, 5]) ∧ (tolBound d [4] < 32) ∧ (15 ≤ tolBound d [3]) ∧ (32 ≤ tolBound d [1, 3])) ∧
    (∃ (c : Chip) (q : Fin 4), (c.pow.dormant = false)) ∧
    (∃ (c : Chip) (t : Fin 256), (c.pow.dormant = false)) ∧
    (∃ (c : Chip) (p : Fin 8), (c.pow.dormant = false)) ∧
    (∃ (c : Chip) (k : Fin 3), (c.pow.unlocked.contains k.val = false)) ∧
    (∃ (c : Chip), (c.pow.refLost = false)) ∧
    (∃ (c : Chip) (est : BitVec 16), (c.pow.estAt + 100000 ≤ c.ns)) ∧
    (∃ (c : Chip), let d : Chip := c.thermWarn; ((freshTemps d).any (fun x => decide (480 ≤ x)) = true) ∧ (c.bit Reg.SYS_THR 31 = false) ∧ (d.bit Reg.SYS_THR 31 = false)) ∧
    (∃ (c : Chip), let d : Chip := c.thermWarn; ((freshTemps d).all (fun x => decide (x ≤ 440)) = true) ∧ (d.bit Reg.SYS_THR 31 = true)) ∧
    (∃ (c : Chip), let d : Chip := c.thermWarn; let x : Chip := (d.raiseIf (!d.pow.hot) 4).setBit Reg.SYS_THR 30 true; ((freshTemps d).any (fun x => decide (480 ≤ x)) = false) ∧ ((freshTemps d).any (fun x => decide (420 ≤ x)) = true) ∧ (d.bit Reg.SYS_THR 31 = false) ∧ (((d.pow.powers.take 10).foldl (· + ·) 0) ≤ powerCap d * (d.pow.powers.take 10).length)) :=
  by
  refine ⟨⟨{ withRegs [(Reg.GRN_STAT, 2 ^ 31), (Reg.SYS_TOL1, 5), (Reg.SYS_TOL1 + 8, 5)] with domains := [.tileLogic 3, .tilePlane 3] }, 3, ?_⟩,
    ⟨withRegs [(Reg.SYS_DCORE, 2 ^ 30), (Reg.SYS_TOL1 + 4, 100), (Reg.SYS_TOL1 + 8, 100), (Reg.SYS_TOL1 + 16, 100)], ?_⟩,
    ⟨{ withRegs [(Reg.SYS_TOL1 + 4, 1), (Reg.SYS_TOL1 + 8, 1), (Reg.SYS_TOL1 + 16, 1)] with pow := { stopped := [0, 1] } }, ?_⟩,
    ⟨withRegs [(Reg.SYS_TOL1, 99), (Reg.SYS_TOL1 + 4, 99), (Reg.SYS_TOL1 + 8, 99), (Reg.SYS_TOL1 + 12, 99), (Reg.SYS_TOL1 + 16, 99)], 1, 0xFFF00050, ?_⟩,
    ⟨{ withRegs [(Reg.SYS_TOL1, 99), (Reg.SYS_TOL1 + 4, 99), (Reg.SYS_TOL1 + 8, 99), (Reg.SYS_TOL1 + 12, 99), (Reg.SYS_TOL1 + 16, 99)] with pow := { aspmL1 := true } }, 31, ?_⟩,
    ⟨{ mem := [(0x100000000, 3)] }, 0, ?_⟩,
    ⟨{}, 0, ?_⟩,
    ⟨{ domains := [] }, 0, ?_⟩,
    ⟨{}, 2, ?_⟩,
    ⟨{}, ?_⟩,
    ⟨{ ns := 100000 }, 77, ?_⟩,
    ⟨withRegs [(Reg.SYS_TTEMP 4, 480)], ?_⟩,
    ⟨withRegs [(Reg.SYS_TTEMP 4, 440), (Reg.SYS_THR, 2 ^ 31)], ?_⟩,
    ⟨{ withRegs [(Reg.SYS_TTEMP 4, 420)] with ns := 1000000 }, ?_⟩⟩ <;> decide +kernel

/-- The hypotheses of `ModeCommandsComplete` can be met, clause by clause. -/
theorem test_witness_ModeCommandsComplete :
    (∃ (c : Chip), (modeOf c = 3) ∧ (c.pow.incEnd ≤ c.ns)) ∧
    (∃ (c : Chip) (i : Fin 8) (falling : Bool), let d : Chip := { c with weave := { c.weave with edges := c.weave.edges.filter (fun e => decide (e ≠ (i.val, falling))) } }; (c.weave.edges.contains (i.val, falling) = true) ∧ (phaseOf c = 0) ∧ (c.pow.dormStep = 0) ∧ (modeOf c = 1 ∨ modeOf c = 2)) ∧
    (∃ (c : Chip) (i : Fin 8) (falling : Bool), let d : Chip := { c with weave := { c.weave with edges := c.weave.edges.filter (fun e => decide (e ≠ (i.val, falling))) } }; (c.weave.edges.contains (i.val, falling) = true) ∧ (phaseOf c = 0) ∧ (c.pow.dormStep = 0) ∧ (modeOf c = 3)) ∧
    (∃ (c : Chip) (i : Fin 8) (falling : Bool), let d : Chip := { c with weave := { c.weave with edges := c.weave.edges.filter (fun e => decide (e ≠ (i.val, falling))) } }; (c.weave.edges.contains (i.val, falling) = true) ∧ (phaseOf c = 0) ∧ (c.pow.dormStep = 0) ∧ (modeOf c = 4 ∨ modeOf c = 5)) ∧
    (∃ (c : Chip), (c.pow.dormant = false) ∧ (c.silo.capsule = none) ∧ (c.pow.dormStep = 1) ∧ (c.ev.sheaves = []) ∧ (c.silo.waiting = []) ∧ (sealTakes c = true)) ∧
    (∃ (c : Chip), (c.pow.dormant = false) ∧ (c.silo.capsule = none) ∧ (c.pow.dormStep = 2) ∧ (sealTakes c = false ∨ c.ev.due = false ∧ c.ev.signing = none) ∧ (c.silo.waiting = [])) ∧
    (∃ (c : Chip), let d : Chip := c.askProgress; (c.pow.dormant = false) ∧ (c.silo.capsule = none) ∧ (c.pow.dormStep = 3) ∧ (swState c ≤ 3)) ∧
    (∃ (c : Chip), let d : Chip := (((c.setBit Reg.LIFE_SNAP 30 false).applyHeld).lifeFlush).enterMode 0; (c.pow.dormant = false) ∧ (c.silo.capsule = none) ∧ (c.pow.dormStep = 4) ∧ (c.silo.waiting = []) ∧ (c.pow.wakeDue = false)) ∧
    (∃ (c : Chip) (f : CanFrame) (rate : Fin 3), (f.fd = false) ∧ (f.ext = false) ∧ (f.id = c.fld Reg.SYS_WAKE_CANID 10 0) ∧ (rate.val = Nat.min 2 (c.fld Reg.SYS_WAKE_CANID 13 12)) ∧ (c.bit Reg.SYS_WAKE_EN 0 = true) ∧ (c.pow.dormant = true)) ∧
    (∃ (c : Chip), (c.bit Reg.SYS_WAKE_EN 1 = true) ∧ (c.pow.dormant = true)) ∧
    (∃ (c : Chip), (c.bit Reg.SYS_WAKE_EN 1 = true) ∧ (c.pow.dormant = false) ∧ (c.pow.dormStep ≠ 0)) ∧
    (∃ (c : Chip), let alarm : Nat := (c.reg Reg.SYS_RTC_ALARM_LO).toNat + c.fld Reg.SYS_RTC_ALARM_HI 7 0 * 2 ^ 32; (alarm ≠ 0) ∧ (c.tai.toNat / 1000000000 = alarm) ∧ (c.pow.dormant = true) ∧ (c.bit Reg.SYS_WAKE_EN 2 = true)) ∧
    (∃ (c : Chip), let alarm : Nat := (c.reg Reg.SYS_RTC_ALARM_LO).toNat + c.fld Reg.SYS_RTC_ALARM_HI 7 0 * 2 ^ 32; (alarm ≠ 0) ∧ (c.tai.toNat / 1000000000 = alarm) ∧ (c.pow.dormant = false) ∧ (c.pow.dormStep = 0)) ∧
    (∃ (c : Chip) (falling : Bool), (falling = c.bit Reg.SYS_WAKE_EN 8) ∧ (c.bit Reg.SYS_WAKE_EN 3 = true) ∧ (c.pow.dormant = true)) :=
  by
  refine ⟨⟨withRegs [(Reg.SYS_MODE, 0x20003)], ?_⟩,
    ⟨{ withRegs [(Reg.SYS_MODE, 2)] with ns := 9, weave := { edges := [(0, false)] } }, 0, false, ?_⟩,
    ⟨{ withRegs [(Reg.SYS_MODE, 3)] with ns := 9, weave := { edges := [(0, false)] } }, 0, false, ?_⟩,
    ⟨{ withRegs [(Reg.SYS_MODE, 4)] with ns := 9, weave := { edges := [(0, false)] } }, 0, false, ?_⟩,
    ⟨{ withSeal [] [] with pow := { dormStep := 1 } }, ?_⟩,
    ⟨{ pow := { dormStep := 2 } }, ?_⟩,
    ⟨{ pow := { dormStep := 3 } }, ?_⟩,
    ⟨{ pow := { dormStep := 4 } }, ?_⟩,
    ⟨{ withRegs [(Reg.SYS_WAKE_EN, 15), (Reg.SYS_WAKE_CANID, 0x1123)] with pow := { dormant := true } }, { id := 0x123, data := [] }, 1, ?_⟩,
    ⟨{ withRegs [(Reg.SYS_WAKE_EN, 15)] with pow := { dormant := true } }, ?_⟩,
    ⟨{ withRegs [(Reg.SYS_WAKE_EN, 15)] with pow := { dormStep := 1 } }, ?_⟩,
    ⟨{ withRegs [(Reg.SYS_WAKE_EN, 15), (Reg.SYS_RTC_ALARM_LO, 7)] with pow := { dormant := true }, time := { now := 7000000001 } }, ?_⟩,
    ⟨{ withRegs [(Reg.SYS_WAKE_EN, 15), (Reg.SYS_RTC_ALARM_LO, 7)] with time := { now := 7000000001 } }, ?_⟩,
    ⟨{ withRegs [(Reg.SYS_WAKE_EN, 0x10F)] with pow := { dormant := true } }, true, ?_⟩⟩ <;> decide +kernel

/-- The hypotheses of `CaptureCommandsComplete` can be met, clause by clause. -/
theorem test_witness_CaptureCommandsComplete :
    (∃ (c : Chip) (p : Fin 8) (vc : Fin 16) (st : Nat), let d : Chip := c.setBit (Reg.CAP_PSTATp p.val) 31 true; let x : Chip := (d.endFrame st false).lifeAdd 8 1; let cfg : List Nat := sampledCfg x st; let k : CapStream := capStream x st; let e : Chip := (x.setCapStream st { k with started := k.started + 1 }).setFld (Reg.CAP_SPAGE st) 27 16 (capP st cfg); let slot : Nat := k.next % capCfg cfg 0 21 18; let r : Option (List (Nat × Nat)) × Chip := e.reserveFrame st cfg; let f : CapFrame := { stream := st, frame := k.started % 2 ^ 32, slot := slot, cfg := cfg, startTai := e.tai.toNat, flags := flagsNow e, ids := r.1.getD [] }; let y : Chip := r.2.setCapStream st { started := k.started + 1, next := slot + 1 }; (portOn c p.val = true) ∧ (streamOfVc d p.val vc.val true = some st) ∧ (capCfgOk e st cfg = true) ∧ (sealTakes e = true) ∧ (e.cap.frames.any (fun f => decide (f.stream = st) && decide (f.slot = slot)) = false) ∧ (r.1.isSome = true)) ∧
    (∃ (c : Chip) (p : Fin 8) (vc : Fin 16) (st : Nat), let d : Chip := c.setBit (Reg.CAP_PSTATp p.val) 31 true; let x : Chip := (d.endFrame st false).lifeAdd 8 1; let cfg : List Nat := sampledCfg x st; let k : CapStream := capStream x st; let e : Chip := (x.setCapStream st { k with started := k.started + 1 }).setFld (Reg.CAP_SPAGE st) 27 16 (capP st cfg); (portOn c p.val = true) ∧ (streamOfVc d p.val vc.val true = some st) ∧ (capCfgOk e st cfg = false)) ∧
    (∃ (c : Chip) (p : Fin 8) (vc : Fin 16) (st : Nat), let d : Chip := c.setBit (Reg.CAP_PSTATp p.val) 31 true; let x : Chip := (d.endFrame st false).lifeAdd 8 1; let cfg : List Nat := sampledCfg x st; let k : CapStream := capStream x st; let e : Chip := (x.setCapStream st { k with started := k.started + 1 }).setFld (Reg.CAP_SPAGE st) 27 16 (capP st cfg); let slot : Nat := k.next % capCfg cfg 0 21 18; (portOn c p.val = true) ∧ (streamOfVc d p.val vc.val true = some st) ∧ (capCfgOk e st cfg = true) ∧ (sealTakes e = false ∨ e.cap.frames.any (fun f => decide (f.stream = st) && decide (f.slot = slot)) = true)) ∧
    (∃ (c : Chip) (p : Fin 8) (vc : Fin 16) (st : Nat), let d : Chip := c.setBit (Reg.CAP_PSTATp p.val) 31 true; let x : Chip := (d.endFrame st false).lifeAdd 8 1; let cfg : List Nat := sampledCfg x st; let k : CapStream := capStream x st; let e : Chip := (x.setCapStream st { k with started := k.started + 1 }).setFld (Reg.CAP_SPAGE st) 27 16 (capP st cfg); let slot : Nat := k.next % capCfg cfg 0 21 18; let r : Option (List (Nat × Nat)) × Chip := e.reserveFrame st cfg; (portOn c p.val = true) ∧ (streamOfVc d p.val vc.val true = some st) ∧ (capCfgOk e st cfg = true) ∧ (sealTakes e = true) ∧ (e.cap.frames.any (fun f => decide (f.stream = st) && decide (f.slot = slot)) = false) ∧ (r.1.isSome = false)) ∧
    (∃ (c : Chip) (p : Fin 8) (vc : Fin 16), let d : Chip := c.setBit (Reg.CAP_PSTATp p.val) 31 true; (portOn c p.val = true) ∧ (streamOfVc (d.phyErr p.val 15 8) p.val vc.val false = none) ∧ (streamOfVc d p.val vc.val false = none)) ∧
    (∃ (c : Chip) (p : Fin 8) (vc : Fin 16), (portOn c p.val = true)) ∧
    (∃ (c : Chip) (p : Fin 8) (vc : Fin 16) (st : Nat) (f : CapFrame) (px : List (BitVec 16)) (held : Bool), let d : Chip := c.setBit (Reg.CAP_PSTATp p.val) 31 true; let g : CapFrame := noteBands d.tai.toNat { f with lines := f.lines + 1, buf := f.buf ++ [(f.lines, (px.map BitVec.toNat).take (capWidth f.cfg))], ovf := f.ovf, length := f.length || decide (px.length ≠ capWidth f.cfg) }; let n : Chip := (d.putFrame f g).setFld (Reg.CAP_SSTAT st) 11 0 g.lines; (portOn c p.val = true) ∧ (streamOfVc d p.val vc.val false = some st) ∧ (arriving d st = some f) ∧ (f.lines < capHeight f.cfg) ∧ (linesHeld d st < 32)) ∧
    (∃ (c : Chip) (p : Fin 8) (vc : Fin 16) (st : Nat) (f : CapFrame) (px : List (BitVec 16)), let d : Chip := c.setBit (Reg.CAP_PSTATp p.val) 31 true; let g : CapFrame := noteBands d.tai.toNat { f with lines := f.lines + 1, ovf := true, length := f.length || decide (px.length ≠ capWidth f.cfg) }; (portOn c p.val = true) ∧ (streamOfVc d p.val vc.val false = some st) ∧ (arriving d st = some f) ∧ (f.lines < capHeight f.cfg) ∧ (32 ≤ linesHeld d st)) ∧
    (∃ (c : Chip) (p : Fin 8) (vc : Fin 16) (st : Nat) (f : CapFrame) (dt : BitVec 6) (px : List (BitVec 16)) (held : Bool), let d : Chip := c.setBit (Reg.CAP_PSTATp p.val) 31 true; (portOn c p.val = true) ∧ (streamOfVc d p.val vc.val false = some st) ∧ (arriving d st = some f) ∧ (dt.toNat ≠ fmtType (capCfg f.cfg 0 23 22))) ∧
    (∃ (c : Chip) (p : Fin 8) (vc : Fin 16) (st : Nat) (f : CapFrame) (px : List (BitVec 16)) (held : Bool), let d : Chip := c.setBit (Reg.CAP_PSTATp p.val) 31 true; (portOn c p.val = true) ∧ (streamOfVc d p.val vc.val false = some st) ∧ (arriving d st = some f) ∧ (capHeight f.cfg ≤ f.lines)) ∧
    (∃ (c : Chip) (p : Fin 8) (vc : Fin 16) (st : Nat) (f : CapFrame), let d : Chip := c.setBit (Reg.CAP_PSTATp p.val) 31 true; let g : CapFrame := noteBands d.tai.toNat { f with ended := true, endTai := d.tai.toNat, trunc := false, length := f.length || decide (f.lines < capHeight f.cfg) }; (portOn c p.val = true) ∧ (streamOfVc d p.val vc.val false = some st) ∧ (arriving d st = some f)) ∧
    (∃ (c : Chip) (st : Fin 32) (f : CapFrame) (g : CapFrame), (c.cap.frames.find? (fun f => decide (f.stream = st.val) && decide (f.band < bandsReady f)) = some f) ∧ ((c.drainFrame f).cap.frames.find? (fun g => decide (g.stream = st.val) && decide (g.band < bandsReady g)) = some g)) ∧
    (∃ (c : Chip) (st : Fin 32), let d : Chip := c.setBit (Reg.CAP_SCTL st.val) 31 false; (portState c (regNode (Reg.CAP_SCTL st.val)) = 0) ∧ (streamOn c st.val = true) ∧ (arriving d st.val = none)) ∧
    (∃ (c : Chip) (st : Fin 32) (f : CapFrame) (g : CapFrame), let d : Chip := c.setBit (Reg.CAP_SCTL st.val) 31 false; let e : Chip := d.endFrame st.val true; (portState c (regNode (Reg.CAP_SCTL st.val)) = 0) ∧ (streamOn c st.val = true) ∧ (arriving d st.val = some f) ∧ (e.cap.frames.find? (fun g => decide (g.stream = st.val) && decide (g.frame = f.frame) && g.trunc) = some g)) ∧
    (∃ (c : Chip) (st : Fin 32) (f : CapFrame) (rest : List CapFrame), (c.bit Reg.SILO_STAT 30 = false) ∧ (c.cap.frames = f :: rest) ∧ (f.stream = st.val) ∧ (f.ended = true) ∧ (f.audited = true) ∧ (frameContextsDone c f = true) ∧ (rest.contains f = false)) ∧
    (∃ (c : Chip) (st : Fin 32), (c.bit Reg.SILO_STAT 30 = true)) ∧
    (∃ (c : Chip) (p : Fin 8), (portState c (regNode (Reg.CAP_PSTATp p.val)) = 0)) :=
  by
  refine ⟨⟨startChip, 0, 1, 0, ?_⟩,
    ⟨withPort [] [], 0, 1, 0, ?_⟩,
    ⟨{ startChip with cap := { frames := [{ frame0 with ended := true }] } }, 0, 1, 0, ?_⟩,
    ⟨startChip.setBit Reg.GRN_STAT 31 false, 0, 1, 0, ?_⟩,
    ⟨withPort [] [], 0, 2, ?_⟩,
    ⟨withPort [] [], 0, 1, ?_⟩,
    ⟨withPort [] [{ frame0 with lines := 7 }], 0, 1, 0, { frame0 with lines := 7 }, [1, 2, 3], true, ?_⟩,
    ⟨withPort [] [{ frame0 with lines := 40, buf := List.replicate 32 (9, [1]) }], 0, 1, 0, { frame0 with lines := 40, buf := List.replicate 32 (9, [1]) }, [1], ?_⟩,
    ⟨withPort [] [frame0], 0, 1, 0, frame0, 0, [1], false, ?_⟩,
    ⟨withPort [] [{ frame0 with lines := 128 }], 0, 1, 0, { frame0 with lines := 128 }, [1], false, ?_⟩,
    ⟨withPort [] [frame0], 0, 1, 0, frame0, ?_⟩,
    ⟨withPort [] [{ frame0 with lines := 128, written := 16, ids := [(1, 2), (3, 4), (5, 6), (7, 8), (9, 10), (11, 12), (13, 14), (15, 16)] }], 0, { frame0 with lines := 128, written := 16, ids := [(1, 2), (3, 4), (5, 6), (7, 8), (9, 10), (11, 12), (13, 14), (15, 16)] }, { frame0 with lines := 128, written := 16, ids := [(1, 2), (3, 4), (5, 6), (7, 8), (9, 10), (11, 12), (13, 14), (15, 16)] }, ?_⟩,
    ⟨{ withPort [] [] with ev := { sheaves := [sheaf0] } }, 0, ?_⟩,
    ⟨withPort [] [{ frame0 with cfg := [0, 0, 0, 0, 0, 0, 0, 0] }], 0, { frame0 with cfg := [0, 0, 0, 0, 0, 0, 0, 0] }, { frame0 with cfg := [0, 0, 0, 0, 0, 0, 0, 0], ended := true, trunc := true }, ?_⟩,
    ⟨withPort [] [{ frame0 with ended := true, audited := true, band := 2 }], 0, { frame0 with ended := true, audited := true, band := 2 }, [], ?_⟩,
    ⟨withRegs [(Reg.SILO_STAT, 2 ^ 30)], 0, ?_⟩,
    ⟨withPort [(Reg.CAP_PSTATp 0, 0x0102)] [], 0, ?_⟩⟩ <;> decide +kernel

/-- The hypotheses of `PackerCommandsComplete` can be met, clause by clause. -/
theorem test_witness_PackerCommandsComplete :
    (∃ (c : Chip), let rd : Option (List Byte) × Chip := c.blockRead (ringEntry c Reg.PKRPIC_BASE_LO 32 (ringHead c Reg.PKRPIC_BASE_LO)) 32; let e : Chip := rd.2.ringConsumed Reg.PKRPIC_BASE_LO; let bs : List Byte := rd.1.getD []; let w : Nat := leNat (bs.take 4); let s : Nat := natBits w 31 27; let frame : Nat := leNat ((bs.drop 4).take 4); let n : Nat := natBits w 24 16; let size : Nat × Nat := pictureSize e s frame; let pre : List Byte × Bool × Chip := e.blockReadLong 20 (natBits (leNat ((bs.drop 8).take 8)) 39 0) (natBits (leNat ((bs.drop 8).take 8)) 63 48); let recs : List Byte × Bool × Chip := pre.2.2.blockReadLong 2 (natBits (leNat ((bs.drop 16).take 8)) 39 0) (16 * n); let d : Chip := recs.2.2; (c.isOn (.packer 0) = true) ∧ (ringEmpty c Reg.PKRPIC_BASE_LO = false) ∧ (rd.1.isSome = true) ∧ (1 ≤ n) ∧ (n ≤ size.2) ∧ (n ≤ 36) ∧ (w.testBit 26 = true ∨ d.pkr.dropping.contains s = false) ∧ (d.pkr.pics.find? (fun p => samePicture p s frame) = none)) ∧
    (∃ (c : Chip) (q : Picture), let rd : Option (List Byte) × Chip := c.blockRead (ringEntry c Reg.PKRPIC_BASE_LO 32 (ringHead c Reg.PKRPIC_BASE_LO)) 32; let e : Chip := rd.2.ringConsumed Reg.PKRPIC_BASE_LO; let bs : List Byte := rd.1.getD []; let w : Nat := leNat (bs.take 4); let s : Nat := natBits w 31 27; let frame : Nat := leNat ((bs.drop 4).take 4); let n : Nat := natBits w 24 16; let size : Nat × Nat := pictureSize e s frame; let pre : List Byte × Bool × Chip := e.blockReadLong 20 (natBits (leNat ((bs.drop 8).take 8)) 39 0) (natBits (leNat ((bs.drop 8).take 8)) 63 48); let recs : List Byte × Bool × Chip := pre.2.2.blockReadLong 2 (natBits (leNat ((bs.drop 16).take 8)) 39 0) (16 * n); let d : Chip := recs.2.2; (c.isOn (.packer 0) = true) ∧ (ringEmpty c Reg.PKRPIC_BASE_LO = false) ∧ (rd.1.isSome = true) ∧ (1 ≤ n) ∧ (n ≤ size.2) ∧ (n ≤ 36) ∧ (w.testBit 26 = true ∨ d.pkr.dropping.contains s = false) ∧ (d.pkr.pics.find? (fun p => samePicture p s frame) = some q) ∧ (q.hasCmd = false) ∧ (q.dropped = false)) ∧
    (∃ (c : Chip), let rd : Option (List Byte) × Chip := c.blockRead (ringEntry c Reg.PKRPIC_BASE_LO 32 (ringHead c Reg.PKRPIC_BASE_LO)) 32; let e : Chip := rd.2.ringConsumed Reg.PKRPIC_BASE_LO; let bs : List Byte := rd.1.getD []; let w : Nat := leNat (bs.take 4); let s : Nat := natBits w 31 27; let frame : Nat := leNat ((bs.drop 4).take 4); let n : Nat := natBits w 24 16; let size : Nat × Nat := pictureSize e s frame; let pre : List Byte × Bool × Chip := e.blockReadLong 20 (natBits (leNat ((bs.drop 8).take 8)) 39 0) (natBits (leNat ((bs.drop 8).take 8)) 63 48); let d : Chip := (pre.2.2.blockReadLong 2 (natBits (leNat ((bs.drop 16).take 8)) 39 0) 0).2.2; let p : Picture := { stream := s, frame := frame, w64 := size.1, h64 := size.2, hasCmd := true, irap := w.testBit 26, jpeg := w.testBit 25, pre := pre.1, slices := [], order := d.pkr.cmds }; (c.isOn (.packer 0) = true) ∧ (ringEmpty c Reg.PKRPIC_BASE_LO = false) ∧ (rd.1.isSome = true) ∧ (n = 0 ∨ size.2 < n ∨ 36 < n) ∧ (pre.2.2.pkr.pics.find? (fun p => samePicture p s frame) = none)) ∧
    (∃ (c : Chip), let rd : Option (List Byte) × Chip := c.blockRead (ringEntry c Reg.PKRPIC_BASE_LO 32 (ringHead c Reg.PKRPIC_BASE_LO)) 32; (c.isOn (.packer 0) = true) ∧ (ringEmpty c Reg.PKRPIC_BASE_LO = false) ∧ (rd.1 = none)) ∧
    (∃ (c : Chip) (n : Nat) (r : CapReport), let x : Chip := { c with grn := { c.grn with capEnded := c.grn.capEnded.map (fun q => if q = r then { q with passed := true } else q) } }; (c.grn.capEnded.find? (fun r => decide (r.ctx = n) && r.isPipe && !r.passed) = some r) ∧ (c.cap.frames.any (fun f => decide (f.stream = r.stream) && decide (f.frame = r.frame)) = true) ∧ (c.pkr.pics.any (fun p => samePicture p r.stream r.frame) = true) ∧ (c.pkr.pics.any (fun p => samePicture p r.stream r.frame && p.hasCmd) = false)) ∧
    (∃ (c : Chip) (n : Nat) (r : CapReport), let x : Chip := { c with grn := { c.grn with capEnded := c.grn.capEnded.map (fun q => if q = r then { q with passed := true } else q) } }; let y : Chip := { x with pkr := { x.pkr with pics := x.pkr.pics ++ [{ stream := r.stream, frame := r.frame, w64 := (pictureSize x r.stream r.frame).1, h64 := (pictureSize x r.stream r.frame).2 }] } }; (c.grn.capEnded.find? (fun r => decide (r.ctx = n) && r.isPipe && !r.passed) = some r) ∧ (c.cap.frames.any (fun f => decide (f.stream = r.stream) && decide (f.frame = r.frame)) = true) ∧ (c.pkr.pics.any (fun p => samePicture p r.stream r.frame) = false)) ∧
    (∃ (c : Chip) (n : Nat) (r : CapReport) (p : Picture) (h : List Byte), let x : Chip := { c with grn := { c.grn with capEnded := c.grn.capEnded.map (fun q => if q = r then { q with passed := true } else q) } }; let rd : Option (List Byte) × Chip := (Chip.blockRead { x with pkr := { c.pkr with pics := [{ p with seen := p.seen + 1 }] } } (natBits r.user0 39 0) 16); (c.grn.capEnded.find? (fun r => decide (r.ctx = n) && r.isPipe && !r.passed) = some r) ∧ (c.cap.frames.any (fun f => decide (f.stream = r.stream) && decide (f.frame = r.frame)) = true) ∧ (c.pkr.pics = [p]) ∧ (samePicture p r.stream r.frame = true) ∧ (p.hasCmd = true) ∧ (p.dropped = false) ∧ (r.state = 5) ∧ (rd.1 = some h) ∧ (sebHeaderOk r h = true)) ∧
    (∃ (c : Chip) (n : Nat) (r : CapReport) (p : Picture), let d : Chip := (Chip.blockRead { c with grn := { c.grn with capEnded := [] }, pkr := { c.pkr with pics := [{ p with seen := p.seen + 1 }] } } (natBits r.user0 39 0) 16).2; (c.grn.capEnded = [r]) ∧ (r.ctx = n) ∧ (r.isPipe = true) ∧ (r.passed = false) ∧ (r.state = 6) ∧ (c.cap.frames = []) ∧ (c.pkr.pics = [p]) ∧ (samePicture p r.stream r.frame = true) ∧ (p.hasCmd = true) ∧ (p.dropped = false)) ∧
    (∃ (c : Chip) (l : Nat) (p : Picture) (x : Slice) (b : Seb) (ts : List Nat), (idleLane c = some l) ∧ (nextSlice c = some (p, x)) ∧ (sebOf p (x.row * p.w64) = some b) ∧ ((c.readTokens b.addr).1 = some ts) ∧ (tokensOk p.jpeg ts = true)) ∧
    (∃ (c : Chip) (l : Nat) (p : Picture) (x : Slice) (b : Seb) (ts : List Nat), (idleLane c = some l) ∧ (nextSlice c = some (p, x)) ∧ (sebOf p (x.row * p.w64) = some b) ∧ ((c.readTokens b.addr).1 = some ts) ∧ (tokensOk p.jpeg ts = false)) ∧
    (∃ (c : Chip) (l : Fin 8) (p : Picture) (x : Slice) (ts : List (List Nat)), let r : SliceRun × Chip := c.runSlice p (p.w64 * p.h64 + 1) (x.row * p.w64) []; let h : List Byte × Bool × Chip := r.2.blockReadLong 3 x.hdrAddr ((x.hdrBits + 7) / 8); ((c.pkr.pics.flatMap (fun p => p.slices.map (fun x => (p, x)))).find? (fun e => decide (e.2.state = .coding l.val)) = some (p, x)) ∧ (r.1 = .coded ts)) ∧
    (∃ (c : Chip) (l : Fin 8) (p : Picture) (x : Slice), ((c.pkr.pics.flatMap (fun p => p.slices.map (fun x => (p, x)))).find? (fun e => decide (e.2.state = .coding l.val)) = some (p, x)) ∧ ((c.runSlice p (p.w64 * p.h64 + 1) (x.row * p.w64) []).1 = .waits)) ∧
    (∃ (c : Chip) (p : Picture) (rest : List Picture), (c.pkr.pics = p :: rest) ∧ (p.done = true) ∧ (p.posted = false) ∧ (c.pkr.port = []) ∧ (rest.contains p = false) ∧ (ringFull c Reg.PKRSTATQ_BASE_LO = false)) ∧
    (∃ (c : Chip) (p : Picture) (rest : List Picture), (c.pkr.pics = p :: rest) ∧ (p.done = true) ∧ (p.posted = false) ∧ (c.pkr.port = []) ∧ (rest.contains p = false) ∧ (ringFull c Reg.PKRSTATQ_BASE_LO = true)) ∧
    (∃ (c : Chip), (portState c (regNode Reg.PKR_STAT) = 0)) :=
  by
  refine ⟨⟨picChip (2 ^ 26 + 2 ^ 16) [], ?_⟩,
    ⟨picChip (2 ^ 16) [{ stream := 0, frame := 5, w64 := 4, h64 := 2, seen := 1 }], { stream := 0, frame := 5, w64 := 4, h64 := 2, seen := 1 }, ?_⟩,
    ⟨picChip 0 [], ?_⟩,
    ⟨{ withRegs [(Reg.PKRPIC_BASE_LO, 5), (Reg.PKRPIC_BASE_LO + 12, 1)] with domains := [.packer 0] }, ?_⟩,
    ⟨{ sebChip with pkr := { pics := [{ stream := 0, frame := 5, w64 := 4, h64 := 2 }] } }, 9, { ctx := 9, state := 5, stream := 0, frame := 5, cx := 0, cy := 0, isPipe := true, user0 := 0x100000000 }, ?_⟩,
    ⟨{ sebChip with pkr := {} }, 9, { ctx := 9, state := 5, stream := 0, frame := 5, cx := 0, cy := 0, isPipe := true, user0 := 0x100000000 }, ?_⟩,
    ⟨{ sebChip with pkr := { pics := [{ stream := 0, frame := 5, w64 := 4, h64 := 2, hasCmd := true }] } }, 9, { ctx := 9, state := 5, stream := 0, frame := 5, cx := 0, cy := 0, isPipe := true, user0 := 0x100000000 }, { stream := 0, frame := 5, w64 := 4, h64 := 2, hasCmd := true }, leBytes 16 (5 * 2 ^ 32 + 2 ^ 64), ?_⟩,
    ⟨{ grn := { capEnded := [{ ctx := 9, state := 6, stream := 0, frame := 5, cx := 0, cy := 0, isPipe := true, user0 := 0 }] }, pkr := { pics := [{ stream := 0, frame := 5, w64 := 4, h64 := 2, hasCmd := true }] } }, 9, { ctx := 9, state := 6, stream := 0, frame := 5, cx := 0, cy := 0, isPipe := true, user0 := 0 }, { stream := 0, frame := 5, w64 := 4, h64 := 2, hasCmd := true }, ?_⟩,
    ⟨packerChip .waiting [3 * 2 ^ 28 + 1], 0, picture0 .waiting, slice0 .waiting, { cx := 0, cy := 0, addr := 0x100000000 }, [3 * 2 ^ 28 + 1], ?_⟩,
    ⟨packerChip .waiting [5 * 2 ^ 28], 0, picture0 .waiting, slice0 .waiting, { cx := 0, cy := 0, addr := 0x100000000 }, [5 * 2 ^ 28], ?_⟩,
    ⟨packerChip (.coding 0) [3 * 2 ^ 28 + 1], 0, picture0 (.coding 0), slice0 (.coding 0), [[3 * 2 ^ 28 + 1]], ?_⟩,
    ⟨{ packerChip (.coding 0) [3 * 2 ^ 28 + 1] with pkr := { pics := [{ picture0 (.coding 0) with sebs := [] }] } }, 0, { picture0 (.coding 0) with sebs := [] }, slice0 (.coding 0), ?_⟩,
    ⟨{ withRegs [(Reg.PKRSTATQ_BASE_LO, 0x3000), (Reg.PKRSTATQ_BASE_LO + 4, 1), (Reg.DRC_STAT, 2 ^ 31)] with domains := [.packer 0, .quadrant 0, .tileLogic 0], pkr := { pics := [{ picture0 .done with done := true }] } }, { picture0 .done with done := true }, [], ?_⟩,
    ⟨{ withRegs [(Reg.PKRSTATQ_BASE_LO, 5), (Reg.PKRSTATQ_BASE_LO + 12, 31)] with pkr := { pics := [{ picture0 .done with done := true }] } }, { picture0 .done with done := true }, [], ?_⟩,
    ⟨{ withRegs [(Reg.PKR_STAT, 3)] with domains := [.packer 0] }, ?_⟩⟩ <;> decide +kernel

/-- The hypotheses of `EvidenceCommandsComplete` can be met, clause by clause. -/
theorem test_witness_EvidenceCommandsComplete :
    (∃ (c : Chip) (st : Fin 32) (f : CapFrame), let d : List (BitVec 512) × Chip := c.frameDigests f (List.range (capW64 f.cfg * capH64 f.cfg)); let q : List Nat × Chip := d.2.chooseLeaves (odNat c 0x3102 0) (List.range d.1.length); let e : Chip := q.2.onCapFrame st.val f.slot (fun g => { g with told := true, audited := g.audited || q.1.isEmpty }); (sealTakes c = true) ∧ (frameToTell c st.val = some f) ∧ ((List.range (capW64 f.cfg * capH64 f.cfg)).filter (hashFaulted c f) = [])) ∧
    (∃ (c : Chip) (st : Fin 32) (f : CapFrame) (own : List Nat), let d : List (BitVec 512) × Chip := c.frameDigests f (List.range (capW64 f.cfg * capH64 f.cfg)); let q : List Nat × Chip := d.2.chooseLeaves (odNat c 0x3102 0) ((List.range d.1.length).filter (fun k => !own.contains (k / capLeaves f.cfg))); let e : Chip := q.2.onCapFrame st.val f.slot (fun g => { g with told := true, audited := g.audited || q.1.isEmpty }); (sealTakes c = true) ∧ (frameToTell c st.val = some f) ∧ ((List.range (capW64 f.cfg * capH64 f.cfg)).filter (hashFaulted c f) = own) ∧ (own ≠ [])) ∧
    (∃ (c : Chip) (st : Fin 32) (f : SealFrame) (k : Nat) (k2 : Nat) (rest : List Nat), let i : Nat := k / f.perTile; let d : Chip := (c.hashLeaf f.cap i (k % f.perTile)).2.onFrameSheaf f.cap (fun x => { x with audited := x.audited + 1 }); let t : List (BitVec 512) × Chip := d.tileDigests f.cap i true (List.range f.perTile); (c.isOn .sealUnit = true) ∧ (c.ev.frames.find? (fun e => decide (e.stream = st.val) && !e.audit.isEmpty) = some f) ∧ (f.audit = k :: k2 :: rest)) ∧
    (∃ (c : Chip) (st : Fin 32) (f : SealFrame) (k : Nat), let i : Nat := k / f.perTile; let d : Chip := ((c.hashLeaf f.cap i (k % f.perTile)).2.onFrameSheaf f.cap (fun x => { x with audited := x.audited + 1 })).onCapFrame st.val f.cap.slot (fun g => { g with audited := true }); let t : List (BitVec 512) × Chip := d.tileDigests f.cap i true (List.range f.perTile); (c.isOn .sealUnit = true) ∧ (c.ev.frames.find? (fun e => decide (e.stream = st.val) && !e.audit.isEmpty) = some f) ∧ (f.audit = [k])) ∧
    (∃ (c : Chip) (st : Fin 32) (e : SealFrame), let tree : List Byte := merkle (e.leaves.map hashBytes); let root : Option (BitVec 512) := some (Config.sha512 (2 :: (frameDescriptor c e ++ tree))); let d : Chip := c.onSheaf (fun x => decide (x.stream = st.val)) (fun x => { x with frames := x.frames.map (fun g => if ofFrame e.cap g then { g with endTai := e.cap.endTai, fd := frameDescriptor c e, tree := tree, root := root } else g) }); (c.isOn .sealUnit = true) ∧ (c.ev.frames.find? (fun e => decide (e.stream = st.val) && e.audit.isEmpty) = some e)) ∧
    (∃ (c : Chip) (b : PortChunk) (rest : List PortChunk) (y : Sheaf), (c.isOn .sealUnit = true) ∧ (c.pkr.port = b :: rest) ∧ (b.last = false) ∧ (b.jpeg = false) ∧ (c.cap.frames.any (fun f => decide (f.stream = b.stream) && decide (f.frame = b.frame) && !f.ended) = false) ∧ (c.ev.sheaves.find? (fun x => decide (x.stream = b.stream) && !x.still && x.frames.any (fun g => decide (g.frame = b.frame) && !g.dropped)) = some y)) ∧
    (∃ (c : Chip) (b : PortChunk) (rest : List PortChunk), (c.isOn .sealUnit = true) ∧ (c.pkr.port = b :: rest) ∧ (b.jpeg = false)) ∧
    (∃ (c : Chip) (b : PortChunk) (rest : List PortChunk), (c.isOn .sealUnit = true) ∧ (c.pkr.port = b :: rest) ∧ (b.last = true) ∧ (b.jpeg = true)) ∧
    (∃ (c : Chip) (st : Fin 32) (x : Sheaf), let n : Nat := mapGet 0 c.ev.nextSeq x.stream; let status : Nat := if x.status = 0 ∧ x.flags.testBit 4 then 1 else x.status; let r : List Byte := sheafRecord c x n status (c.fld Reg.SYS_MODE 7 0) 0; (sealHeld c = false) ∧ (c.ev.sheaves.find? (fun x => decide (x.stream = st.val) && sheafReady x && (stillsBefore c x).isEmpty) = some x) ∧ (sealTakes c = true) ∧ (x.seqNo = none) ∧ (c.fld Reg.SYS_MODE 7 0 < 6)) ∧
    (∃ (c : Chip) (st : Fin 32) (x : Sheaf) (t : Nat), (sealHeld c = false) ∧ (sealTakes c = true) ∧ (c.ev.sheaves = [x]) ∧ (x.stream = st.val) ∧ (x.complete = some t) ∧ (t + 1000000000 ≤ c.ns)) ∧
    (∃ (c : Chip) (w : StookWork), let q : List Byte × Chip := c.drawBytes 64; (c.ev.signing = some w) ∧ (sealTakes c = true) ∧ (c.silo.capsule = none)) ∧
    (∃ (c : Chip) (w : JWrite) (rest : List JWrite), (c.silo.waiting = w :: rest) ∧ (w.typ ≠ 1) ∧ (w.typ ≠ 2) ∧ (c.isOn .silo = true) ∧ (entryFits c w.typ = true)) ∧
    (∃ (c : Chip) (w : JWrite) (rest : List JWrite), let r : JEntry × Chip := Chip.writeEntry { c with silo := { c.silo with waiting := rest } } w; (c.silo.waiting = w :: rest) ∧ (w.typ = 1) ∧ (c.isOn .silo = true) ∧ (entryFits c 1 = true)) ∧
    (∃ (c : Chip) (w : JWrite) (rest : List JWrite), let r : JEntry × Chip := Chip.writeEntry { c with silo := { c.silo with waiting := rest } } w; (c.silo.waiting = w :: rest) ∧ (w.typ = 2) ∧ (c.isOn .silo = true) ∧ (entryFits c 2 = true)) :=
  by
  refine ⟨⟨toldChip, 0, toldFrame, ?_⟩,
    ⟨faultChip, 0, faultFrame, [0, 1, 2, 3, 4, 5, 6, 7], ?_⟩,
    ⟨{ withSeal [] [] with ev := { frames := [auditFrame] } }, 0, auditFrame, 0, 1, [], ?_⟩,
    ⟨{ withSeal [] [] with ev := { frames := [auditLast] } }, 0, auditLast, 1, ?_⟩,
    ⟨{ withSeal [] [] with ev := { frames := [{ auditFrame with audit := [] }] } }, 0, { auditFrame with audit := [] }, ?_⟩,
    ⟨{ withSeal [] [] with pkr := { port := [chunk0] }, ev := { sheaves := [{ sheaf0 with frames := [{ frame := 5 }] }] } }, chunk0, [], { sheaf0 with frames := [{ frame := 5 }] }, ?_⟩,
    ⟨{ withSeal [] [] with pkr := { port := [{ chunk0 with last := true }] } }, { chunk0 with last := true }, [], ?_⟩,
    ⟨{ withSeal [] [] with pkr := { port := [{ chunk0 with last := true, jpeg := true }] } }, { chunk0 with last := true, jpeg := true }, [], ?_⟩,
    ⟨{ withSeal [(Reg.SYS_MODE, 2)] [] with ev := { sheaves := [sheaf0] } }, 0, sheaf0, ?_⟩,
    ⟨{ withSeal [(Reg.SYS_MODE, 2)] [] with ns := 1000000000, ev := { sheaves := [sheaf0] } }, 0, sheaf0, 0, ?_⟩,
    ⟨{ withSeal [] [] with ev := { signing := some { kind := 0, record := [], counter := 3, lastSeq := [] } } }, { kind := 0, record := [], counter := 3, lastSeq := [] }, ?_⟩,
    ⟨{ domains := [.silo], silo := { waiting := [{ typ := 3, key := 1, payload := [1] }] } }, { typ := 3, key := 1, payload := [1] }, [], ?_⟩,
    ⟨{ domains := [.silo], silo := { waiting := [{ typ := 1, key := 1, payload := [1] }] } }, { typ := 1, key := 1, payload := [1] }, [], ?_⟩,
    ⟨{ domains := [.silo], silo := { waiting := [{ typ := 2, key := 1, payload := [1] }] } }, { typ := 2, key := 1, payload := [1] }, [], ?_⟩⟩ <;> decide +kernel

/-- The hypotheses of `StookCommandsComplete` can be met, clause by clause. -/
theorem test_witness_StookCommandsComplete :
    (∃ (c : Chip), let d : Chip := { c.stookRebase with ev := { c.stookRebase.ev with due := true, sysDue := true, sysStep := c.stookRebase.ev.sysStep || c.stookRebase.ev.timeStep, dueNext := journaledNext c.stookRebase } }; (sealTakes c = true) ∧ (sealHeld c = false) ∧ (c.ev.dueAt ≤ c.tai.toNat) ∧ (stookFree d = false)) ∧
    (∃ (c : Chip), (sealTakes c = true) ∧ (sealHeld c = false) ∧ (c.tai.toNat < c.ev.dueAt) ∧ (c.ev.due = true) ∧ (stookFree c = true) ∧ (coveredBy c c.ev.dueNext = [])) ∧
    (∃ (c : Chip), (sealTakes c = true) ∧ (sealHeld c = false) ∧ (c.tai.toNat < c.ev.dueAt) ∧ (c.ev.due = true) ∧ (stookFree c = true) ∧ (coveredBy c c.ev.dueNext ≠ []) ∧ (c.fld Reg.SYS_MODE 7 0 < 6)) ∧
    (∃ (c : Chip), (inRecovery c = true) ∧ (c.ev.recovered = false) ∧ (stookFree c = true) ∧ (sealCounter c 0 < c.ev.stookCtr)) ∧
    (∃ (c : Chip) (k : Nat), (inRecovery c = true) ∧ (c.ev.recovered = false) ∧ (stookFree c = true) ∧ (c.ev.stookCtr ≤ sealCounter c 0) ∧ (c.silo.lossMode = some k) ∧ (k < 6)) ∧
    (∃ (c : Chip) (stooks : List (Nat × List (List Byte))), (c.ev.sysDue = true) ∧ (c.ev.due = false) ∧ (stookFree c = true) ∧ (sealHeld c = false) ∧ (c.deviceNo = 0) ∧ (c.bit Reg.SPIN_STAT 31 = true) ∧ (c.spin.gang = false) ∧ (stooks.all (fun e => e.2.all (fun r => decide (recNat r 8 8 < mapGet 0 c.ev.sysCov e.1))) = true)) ∧
    (∃ (c : Chip) (d : Nat) (r : List Byte), (c.ev.sysDue = true) ∧ (c.ev.due = false) ∧ (stookFree c = true) ∧ (sealHeld c = false) ∧ (c.deviceNo = 0) ∧ (c.bit Reg.SPIN_STAT 31 = true) ∧ (c.spin.gang = false) ∧ (1 ≤ d) ∧ (d < 16) ∧ ((reachMask c).testBit d = true) ∧ (c.ev.sysCov = []) ∧ (c.spin.map = 1 + 2 ^ d) ∧ (c.ev.sysStep = false) ∧ ((recNat r 0x2E 2).testBit 2 = false) ∧ (c.fld Reg.SYS_MODE 7 0 < 6)) :=
  by
  refine ⟨⟨{ withSeal [(Reg.SYS_MODE, 2)] [] with ev := { signing := some { kind := 0, record := [], counter := 3, lastSeq := [] } } }, ?_⟩,
    ⟨{ withSeal [(Reg.SYS_MODE, 2)] [] with ev := { dueAt := 5, due := true } }, ?_⟩,
    ⟨{ withSeal [(Reg.SYS_MODE, 2)] [] with ev := { dueAt := 5, due := true, dueNext := [(0, 1)], sheafLog := [(0, 0, [1])] } }, ?_⟩,
    ⟨{ withSeal [(Reg.SYS_MODE, 0x2FF)] [] with ev := { stookCtr := 3 } }, ?_⟩,
    ⟨{ withSeal [(Reg.SYS_MODE, 0x2FF)] [] with silo := { lossMode := some 2 } }, 2, ?_⟩,
    ⟨{ withSeal [(Reg.SPIN_STAT, 2 ^ 31), (Reg.SYS_MODE, 2)] [] with ev := { sysDue := true } }, [], ?_⟩,
    ⟨{ withSeal [(Reg.SPIN_STAT, 2 ^ 31 + 9), (Reg.SYS_MODE, 2)] [] with ev := { sysDue := true }, spin := { map := 9 } }, 3, List.replicate 64 0, ?_⟩⟩ <;> decide +kernel

/-- The hypotheses of `SiloAndTransactionCommandsComplete` can be met, clause by clause. -/
theorem test_witness_SiloAndTransactionCommandsComplete :
    (∃ (c : Chip), (c.silo.reported = true) ∧ (c.silo.progAt.all (fun t => decide (t + 250000000 ≤ c.ns)) = true) ∧ (c.silo.capsule = none)) ∧
    (∃ (c : Chip) (t : Nat), (c.silo.progAt = some t) ∧ (c.ns < t + 250000000)) ∧
    (∃ (c : Chip) (w : JWrite) (rest : List JWrite), let d : Chip := Chip.advanceOldest c.silo.entries.length c; (d.silo.waiting = w :: rest) ∧ (entryFits d w.typ = true)) ∧
    (∃ (c : Chip) (w : JWrite) (rest : List JWrite), let d : Chip := Chip.advanceOldest c.silo.entries.length c; (d.silo.waiting = w :: rest) ∧ (entryFits d w.typ = false)) ∧
    (∃ (c : Chip), (portState c (regNode Reg.SILO_CE) = 0)) ∧
    (∃ (c : Chip), let e : Chip := c.siloCheckRange 0 0x600000; let n : Nat × Nat := match (foundJournal e).getLast? with | some j => (j.jseq + 1, j.pos + j.grains + 1) | none => ((controlWords e).next, (controlWords e).pos); let d : Chip := Chip.adoptJournal { e with silo := { e.silo with entries := foundJournal e, jnext := n.1, pos := n.2 } } (foundJournal e); (c.isOn .silo = true) ∧ (c.bit Reg.SILO_STAT 31 = false)) ∧
    (∃ (c : Chip), (portState c (regNode Reg.SILO_TXCMD) = 0) ∧ (c.isOn .silo = true) ∧ (c.silo.capsule = none) ∧ (txState c = 0)) ∧
    (∃ (c : Chip), (portState c (regNode Reg.SILO_TXCMD) = 0) ∧ (c.isOn .silo = true) ∧ (c.silo.capsule = none) ∧ (txState c = 1)) ∧
    (∃ (c : Chip), (portState c (regNode Reg.SILO_TXCMD) = 0) ∧ (c.isOn .silo = true) ∧ (c.silo.capsule = none) ∧ (txState c = 1) ∧ (c.fld Reg.SILO_TXSTAT 12 0 < 4096) ∧ (txEntryOk (txEntRegs c) = true)) ∧
    (∃ (c : Chip), (portState c (regNode Reg.SILO_TXCMD) = 0) ∧ (c.isOn .silo = true) ∧ (c.silo.capsule = none) ∧ (txState c = 1) ∧ (c.fld Reg.SILO_TXSTAT 12 0 < 4096) ∧ (txEntryOk (txEntRegs c) = false)) ∧
    (∃ (c : Chip), (portState c (regNode Reg.SILO_TXCMD) = 0) ∧ (c.isOn .silo = true) ∧ (c.silo.capsule = none) ∧ (txState c = 1) ∧ (4096 ≤ c.fld Reg.SILO_TXSTAT 12 0)) ∧
    (∃ (c : Chip), let r : Chip := c.siloCheckRange (txEntryOffset 0) (32 * c.fld Reg.SILO_TXSTAT 12 0); let d : Chip := (((r.setFld Reg.SILO_TXSTAT 31 30 2).setBit Reg.ODE_STAT 30 true).putTxHeader 1 (c.fld Reg.SILO_TXSTAT 12 0) (c.silo.txseq + 1) c.tai.toNat).setFld Reg.SILO_TXSTAT 23 16 0; (portState c (regNode Reg.SILO_TXCMD) = 0) ∧ (c.isOn .silo = true) ∧ (c.silo.capsule = none) ∧ (txState c = 1) ∧ (c.fld Reg.SILO_TXSTAT 12 0 ≠ 0) ∧ (txModeOk c = true)) ∧
    (∃ (c : Chip), (portState c (regNode Reg.SILO_TXCMD) = 0) ∧ (c.isOn .silo = true) ∧ (c.silo.capsule = none) ∧ (txState c = 1) ∧ (c.fld Reg.SILO_TXSTAT 12 0 = 0)) ∧
    (∃ (c : Chip), (portState c (regNode Reg.SILO_TXCMD) = 0) ∧ (c.isOn .silo = true) ∧ (c.silo.capsule = none) ∧ (txState c = 1)) ∧
    (∃ (c : Chip) (op : Fin 16), (portState c (regNode Reg.SILO_TXCMD) = 0) ∧ (c.isOn .silo = true) ∧ (c.silo.capsule = none) ∧ (op = 0 ∨ 5 ≤ op)) :=
  by
  refine ⟨⟨{ silo := { reported := true } }, ?_⟩,
    ⟨{ silo := { reported := true, progAt := some 0 } }, 0, ?_⟩,
    ⟨{ withRegs [(Reg.SILO_STAT, 2 ^ 30)] with silo := { waiting := [{ typ := 3, payload := [] }] } }, { typ := 3, payload := [] }, [], ?_⟩,
    ⟨{ silo := { waiting := [{ typ := 3, payload := [] }], pos := 1, entries := [{ jseq := 0, typ := 3, pos := 2, grains := 1, stream := 0, key := 0, tai := 0, nextSeq := 0, payload := [] }] } }, { typ := 3, payload := [] }, [], ?_⟩,
    ⟨{ withRegs [(Reg.SILO_CE, 3)] with domains := [.silo] }, ?_⟩,
    ⟨{ domains := [.silo] }, ?_⟩,
    ⟨{ domains := [.silo] }, ?_⟩,
    ⟨{ withRegs [(Reg.SILO_TXSTAT, 2 ^ 30)] with domains := [.silo] }, ?_⟩,
    ⟨{ withRegs [(Reg.SILO_TXSTAT, 2 ^ 30), (Reg.SILO_TXENTn 0, 0x401), (Reg.SILO_TXENTn 2, 0x20000000)] with domains := [.silo] }, ?_⟩,
    ⟨{ withRegs [(Reg.SILO_TXSTAT, 2 ^ 30), (Reg.SILO_TXENTn 0, 255)] with domains := [.silo] }, ?_⟩,
    ⟨{ withRegs [(Reg.SILO_TXSTAT, 2 ^ 30 + 4096)] with domains := [.silo] }, ?_⟩,
    ⟨{ withRegs [(Reg.SILO_TXSTAT, 2 ^ 30 + 1), (Reg.SYS_MODE, 5)] with domains := [.silo] }, ?_⟩,
    ⟨{ withRegs [(Reg.SILO_TXSTAT, 2 ^ 30)] with domains := [.silo] }, ?_⟩,
    ⟨{ withRegs [(Reg.SILO_TXSTAT, 2 ^ 30 + 7)] with domains := [.silo] }, ?_⟩,
    ⟨{ domains := [.silo] }, 15, ?_⟩⟩ <;> decide +kernel

/-- The hypotheses of `LifetimeCommandsComplete` can be met, clause by clause. -/
theorem test_witness_LifetimeCommandsComplete :
    (∃ (c : Chip), (c.isOn .mesh = true) ∧ (c.isOn .silo = true) ∧ (c.life.flushAt + 1000000000 * Nat.max 60 (c.fld Reg.LIFE_FLUSH 16 0) ≤ c.ns)) ∧
    (∃ (c : Chip), (c.isOn .mesh = true) ∧ (c.isOn .silo = true) ∧ (c.bit Reg.LIFE_STAT 31 = true)) ∧
    (∃ (c : Chip) (h : Fin 5) (b : Nat), (sampleBin c h.val = some b) ∧ (c.isOn .mesh = true) ∧ (mapGet 0 c.life.sampledAt h.val + (if h.val < 2 then 60000000000 else 1000000000) ≤ c.ns) ∧ (c.bit Reg.LIFE_STAT 31 = false)) ∧
    (∃ (c : Chip) (h : Fin 5) (b : Nat), (sampleBin c h.val = some b) ∧ (c.isOn .mesh = true) ∧ (mapGet 0 c.life.sampledAt h.val + (if h.val < 2 then 60000000000 else 1000000000) ≤ c.ns) ∧ (c.bit Reg.LIFE_STAT 31 = true) ∧ (c.bit Reg.LIFE_SNAP 30 = false)) ∧
    (∃ (c : Chip) (h : Fin 5), (c.ns < mapGet 0 c.life.sampledAt h.val + (if h.val < 2 then 60000000000 else 1000000000))) ∧
    (∃ (c : Chip), (c.bit Reg.SILO_STAT 31 = true) ∧ (c.bit Reg.LIFE_STAT 31 = false)) ∧
    (∃ (c : Chip), (c.bit Reg.LIFE_SNAP 30 = false)) ∧
    (∃ (c : Chip), (c.bit Reg.LIFE_SNAP 30 = true)) ∧
    (∃ (c : Chip), let e : Chip := c.siloCheckRange 0x70A000 0x4000; let d : Chip := (((e.setBit Reg.LIFE_SNAP 30 false).setFld Reg.LIFE_SNAP 29 0 (c.fld Reg.LIFE_SNAP 29 0 + 1)).setReg Reg.LIFE_SNAP_TAI_LO (BitVec.ofNat 32 c.life.snapTai)).setReg Reg.LIFE_SNAP_TAI_HI (BitVec.ofNat 32 (c.life.snapTai / 2 ^ 32)); (c.bit Reg.LIFE_SNAP 30 = true)) :=
  by
  refine ⟨⟨{ withRegs [(Reg.LIFE_FLUSH, 61)] with ns := 61000000000, domains := [.mesh, .silo] }, ?_⟩,
    ⟨{ withRegs [(Reg.LIFE_STAT, 2 ^ 31)] with domains := [.mesh, .silo], ns := 5, life := { dirty := [1] } }, ?_⟩,
    ⟨{ withRegs [(Reg.SYS_THR, 85)] with domains := [.mesh], ns := 1000000000 }, 2, 2, ?_⟩,
    ⟨{ withRegs [(Reg.SYS_THR, 85), (Reg.LIFE_STAT, 2 ^ 31)] with domains := [.mesh], ns := 10 ^ 9 }, 2, 2, ?_⟩,
    ⟨{ life := { sampledAt := [(2, 5)] } }, 2, ?_⟩,
    ⟨withRegs [(Reg.SILO_STAT, 2 ^ 31)], ?_⟩,
    ⟨{ time := { now := 77 } }, ?_⟩,
    ⟨withRegs [(Reg.LIFE_SNAP, 2 ^ 30)], ?_⟩,
    ⟨{ withRegs [(Reg.LIFE_SNAP, 2 ^ 30), (Reg.LIFE_STAT, 2 ^ 31)] with life := { snapTai := 2 ^ 33, held := [(3, 1)] } }, ?_⟩⟩ <;> decide +kernel

/-- The hypotheses of `StorageWriterCommandsComplete` can be met, clause by clause. -/
theorem test_witness_StorageWriterCommandsComplete :
    (∃ (c : Chip), (portState c (regNode Reg.PCIB_SWCTL) = 0) ∧ (c.bit Reg.PCIB_SWCTL 31 = false) ∧ (swRuns c = true) ∧ (swState c ≤ 2)) ∧
    (∃ (c : Chip) (r : DriveReport) (st : Nat) (code : Nat), (swRuns c = true) ∧ (swState c = 3) ∧ (driveCheck c r = some (st, code))) ∧
    (∃ (c : Chip) (r : DriveReport) (heads : List (Nat × List Byte)), let pos : Nat := if ringChanged c then 0 else (resumePoint c r heads).1; let num : Nat := Nat.max (resumePoint c r heads).2 c.sw.nextBale; (swRuns c = true) ∧ (swState c = 3) ∧ (driveCheck c r = none)) ∧
    (∃ (c : Chip) (i : Item) (rest : List Item), (swRuns c = true) ∧ (swState c = 4) ∧ (c.sw.queue = i :: rest) ∧ (itemsBytes c.sw.opened + itemBytes i ≤ baleRoom (baleUnits c))) ∧
    (∃ (c : Chip), (swRuns c = true) ∧ (swState c = 4) ∧ (c.sw.opened.any (fun i => decide (i.since + storageLag c / 4 ≤ c.ns)) = true)) ∧
    (∃ (c : Chip) (n : Nat) (us : Nat) (x : NvCommand), let e : Chip := c.lifeAdd (4096 + 14 * 5 + driveBin us) 1; let d : Chip := e.setSw { e.sw with cmds := e.sw.cmds.erase x }; (swLive c = true) ∧ (cmdOut c (some n) = some x)) ∧
    (∃ (c : Chip) (us : Nat) (x : NvCommand), let e : Chip := c.lifeAdd (4096 + 14 * 5 + driveBin us) 1; let d : Chip := e.setSw { e.sw with cmds := e.sw.cmds.erase x }; (swLive c = true) ∧ (cmdOut c none = some x)) ∧
    (∃ (c : Chip) (o : Option Nat) (us : Nat) (x : NvCommand), let e : Chip := c.lifeAdd (4096 + 14 * 5 + driveBin us) 1; (swLive c = true) ∧ (cmdOut c o = some x)) ∧
    (∃ (c : Chip) (o : Option Nat) (ok : Bool) (us : Nat), (cmdOut c o = none)) ∧
    (∃ (c : Chip), let d : Chip := (c.setSw { c.sw with cmds := [], turn := 0 }).raise 184; (swLive c = true) ∧ (driveSilent c = true) ∧ (swState c ≠ 7)) ∧
    (∃ (c : Chip), (swLive c = true) ∧ (driveSilent c = true)) ∧
    (∃ (c : Chip) (i : Item), (c.isOn .storageWriter = true) ∧ (c.sw.queue = [i]) ∧ (c.sw.opened = []) ∧ (c.sw.bales = []) ∧ (lagged c i = true)) ∧
    (∃ (c : Chip) (b : Bale) (i : Item), (c.isOn .storageWriter = true) ∧ (c.sw.queue = []) ∧ (c.sw.opened = []) ∧ (c.sw.bales = [b]) ∧ (b.items = [i]) ∧ (b.durable = false) ∧ (b.missed = false) ∧ (lagged c i = true)) ∧
    (∃ (c : Chip) (v : Word), (portState c (regNode Reg.PCIB_HOLD) = 0) ∧ (swState c = 5) ∧ (bitOf v 31 = false)) ∧
    (∃ (c : Chip), (portState c (regNode Reg.PCIB_SWCTL) = 0) ∧ (swState c = 4 ∨ swState c = 5 ∨ swState c = 7)) ∧
    (∃ (c : Chip), (swRuns c = true) ∧ (swState c = 6) ∧ (swQuiet c = true) ∧ (c.bit Reg.PCIB_SWCTL 31 = false)) ∧
    (∃ (c : Chip), (swRuns c = true) ∧ (swState c = 6) ∧ (c.sw.drainAt + 1000000000 ≤ c.ns) ∧ (c.bit Reg.PCIB_SWCTL 31 = false)) ∧
    (∃ (c : Chip), (swState c ≤ 2)) ∧
    (∃ (c : Chip), let d : Chip := (c.setSw { c.sw with linkUp := false }).raise 180; (3 ≤ swState c)) ∧
    (∃ (c : Chip) (a : Addr) (bs : List Byte), (bs ≠ []) ∧ (inWindow c a.toNat bs.length = true)) ∧
    (∃ (c : Chip) (a : Addr) (n : Nat), (n ≠ 0) ∧ (inWindow c a.toNat n = true)) ∧
    (∃ (c : Chip) (a : Addr) (n : Nat), (n ≠ 0) ∧ (inWindow c a.toNat n = false)) :=
  by
  refine ⟨⟨{ domains := [.storageWriter] }, ?_⟩,
    ⟨{ withRegs [(Reg.PCIB_SWSTAT, 3 * 2 ^ 28)] with domains := [.storageWriter] }, { link := false }, 1, 0, ?_⟩,
    ⟨{ withRegs [(Reg.PCIB_SWSTAT, 3 * 2 ^ 28), (Reg.PCIB_RING_UNITS, 64)] with domains := [.storageWriter] }, drive0, [], ?_⟩,
    ⟨{ withRegs [(Reg.PCIB_SWSTAT, 4 * 2 ^ 28)] with domains := [.storageWriter], sw := { queue := [item0] } }, item0, [], ?_⟩,
    ⟨{ withRegs [(Reg.PCIB_SWSTAT, 4 * 2 ^ 28), (Reg.PCIB_RING_UNITS, 64)] with domains := [.storageWriter], ns := 2 ^ 40, sw := { opened := [item0], drive := drive0 } }, ?_⟩,
    ⟨{ withRegs [(Reg.PCIB_SWSTAT, 4 * 2 ^ 28), (Reg.PCIB_RING_UNITS, 64)] with domains := [.storageWriter], sw := { bales := [bale0], cmds := [{ op := .write 0 true }] } }, 0, 100, { op := .write 0 true }, ?_⟩,
    ⟨{ withRegs [(Reg.PCIB_SWSTAT, 4 * 2 ^ 28), (Reg.PCIB_RING_UNITS, 64)] with domains := [.storageWriter], sw := { bales := [{ bale0 with written := true, flushed := true }], cmds := [{ op := .flush }] } }, 100, { op := .flush }, ?_⟩,
    ⟨{ withRegs [(Reg.PCIB_SWSTAT, 4 * 2 ^ 28)] with domains := [.storageWriter], sw := { bales := [bale0], cmds := [{ op := .write 0 true }] } }, some 0, 100, { op := .write 0 true }, ?_⟩,
    ⟨{}, none, true, 100, ?_⟩,
    ⟨{ withRegs [(Reg.PCIB_SWSTAT, 4 * 2 ^ 28), (Reg.PCIB_CTO, 1)] with domains := [.storageWriter], ns := 2 ^ 30, sw := { cmds := [{ op := .flush }] } }, ?_⟩,
    ⟨{ withRegs [(Reg.PCIB_SWSTAT, 4 * 2 ^ 28), (Reg.PCIB_CTO, 1)] with domains := [.storageWriter], ns := 2 ^ 30, sw := { bales := [bale0], cmds := [{ op := .write 0 true }] } }, ?_⟩,
    ⟨{ domains := [.storageWriter], ns := 2 ^ 50, sw := { queue := [item0] } }, item0, ?_⟩,
    ⟨{ domains := [.storageWriter], ns := 2 ^ 50, sw := { bales := [bale0] } }, bale0, item0, ?_⟩,
    ⟨{ withRegs [(Reg.PCIB_SWSTAT, 5 * 2 ^ 28), (Reg.PCIB_HOLD, 2 ^ 31)] with domains := [.storageWriter] }, 5, ?_⟩,
    ⟨{ withRegs [(Reg.PCIB_SWSTAT, 4 * 2 ^ 28), (Reg.PCIB_SWCTL, 2 ^ 31)] with ns := 9, domains := [.storageWriter] }, ?_⟩,
    ⟨{ withRegs [(Reg.PCIB_SWSTAT, 6 * 2 ^ 28)] with domains := [.storageWriter] }, ?_⟩,
    ⟨{ withRegs [(Reg.PCIB_SWSTAT, 6 * 2 ^ 28)] with domains := [.storageWriter], ns := 10 ^ 9 }, ?_⟩,
    ⟨{}, ?_⟩,
    ⟨withRegs [(Reg.PCIB_SWSTAT, 4 * 2 ^ 28)], ?_⟩,
    ⟨driveChip, 0x800000000, [1, 2], ?_⟩,
    ⟨driveChip, 0x800000000, 4, ?_⟩,
    ⟨driveChip, 0, 4, ?_⟩⟩ <;> decide +kernel

/-- The hypotheses of `ResetAndSupplyCommandsComplete` can be met, clause by clause. -/
theorem test_witness_ResetAndSupplyCommandsComplete :
    (∃ (c : Chip), (somePortHolds c 2 = true)) ∧
    (∃ (c : Chip) (k : Capsule), let d : Chip := (Chip.journalAll c.silo.waiting.length c).lifeFlush; let e : Chip := Chip.journalNext (Chip.journal { d with silo := { d.silo with waiting := [] } } { typ := 5, payload := [] }); (c.silo.capsule = some k) ∧ (k.ended = false) ∧ (k.cause = 1)) ∧
    (∃ (c : Chip) (k : Capsule), let d : Chip := (Chip.journalAll c.silo.waiting.length c).lifeFlush; let e : Chip := Chip.journalNext (Chip.journal { d with silo := { d.silo with waiting := [] } } { typ := 5, payload := [] }); let f : Chip := (Chip.keepOnly { e with silo := { e.silo with capsule := some { k with ended := true } } } [.mesh, .silo]).resetAll; (c.silo.capsule = some k) ∧ (k.ended = false) ∧ (k.cause ≠ 1)) ∧
    (∃ (c : Chip) (k : Capsule), (c.silo.capsule = some k) ∧ (k.ended = true) ∧ (k.cause = 1)) ∧
    (∃ (c : Chip), (c.silo.capsule = none)) ∧
    (∃ (c : Chip) (r : Fin 8), (c.bit Reg.SYS_SUPPLY r.val = false) ∧ (railWatched c r.val = true)) ∧
    (∃ (c : Chip) (r : Fin 8), (c.bit Reg.SYS_SUPPLY r.val = true)) :=
  by
  refine ⟨⟨{ domains := [.silo, .can], dbg := { ports := [(1, { level := 2 })] } }, ?_⟩,
    ⟨{ domains := [.mesh, .silo, .sealUnit], silo := { capsule := some { cause := 1, lossTai := 0 } } }, { cause := 1, lossTai := 0 }, ?_⟩,
    ⟨{ domains := [.mesh, .silo, .sealUnit], silo := { capsule := some { cause := 3, lossTai := 0 } } }, { cause := 3, lossTai := 0 }, ?_⟩,
    ⟨{ domains := [.mesh, .silo], silo := { capsule := some { cause := 1, lossTai := 0, ended := true } } }, { cause := 1, lossTai := 0, ended := true }, ?_⟩,
    ⟨{ withRegs [(Reg.SILO_PF, 0)] with domains := [.silo], pow := { vinLow := true } }, ?_⟩,
    ⟨{}, 3, ?_⟩,
    ⟨withRegs [(Reg.SYS_SUPPLY, 255)], 3, ?_⟩⟩ <;> decide +kernel

/-- The hypotheses of `WeaveFabricCommandsComplete` can be met, clause by clause. -/
theorem test_witness_WeaveFabricCommandsComplete :
    (∃ (c : Chip) (q : Fin 4), let d : Chip := c.keepPins (quadPins q.val); (c.isOn (.weave q.val) = true) ∧ (c.weave.loading.contains q.val = false)) ∧
    (∃ (c : Chip), let cells : List Nat := (c.weave.frames.filter (fun e => c.weave.loading.contains (e.1 / 256))).flatMap (fun e => (List.range 8).map (fun m => 8 * e.1 + m)); (c.weave.loading ≠ [])) ∧
    (∃ (c : Chip) (data : Word) (f : Nat), (c.fld Reg.WEAVE_CFG_ADDR 9 0 = f) ∧ (c.weave.loading.contains (f / 256) = true)) ∧
    (∃ (c : Chip) (data : Word) (f : Nat), (c.fld Reg.WEAVE_CFG_ADDR 9 0 = f) ∧ (c.weave.loading.contains (f / 256) = false)) ∧
    (∃ (c : Chip) (k : Fin 64) (data : Word), (Machine.fld data 14 12 < 6) ∧ (c.weave.loading = [])) ∧
    (∃ (c : Chip) (k : Fin 64) (data : Word), (6 ≤ Machine.fld data 14 12) ∧ (c.weave.loading = [])) ∧
    (∃ (c : Chip) (pads : BitVec 64) (ign : Bool) (accel : Bool) (pps : Bool), let d : Chip := c.weaveInputs pads ign accel pps; (trigLines d = d.weave.trig)) ∧
    (∃ (c : Chip) (pads : BitVec 64) (ign : Bool) (accel : Bool) (pps : Bool), let d : Chip := c.weaveInputs pads ign accel pps; (trigLines d ≠ d.weave.trig)) ∧
    (∃ (c : Chip) (pads : BitVec 64) (ign : Bool) (accel : Bool) (pps : Bool), let d : Chip := c.weaveInputs pads ign accel pps; (trigLines d = d.weave.trig)) ∧
    (∃ (c : Chip) (pads : BitVec 64) (ign : Bool) (accel : Bool) (pps : Bool), let d : Chip := c.weaveInputs pads ign accel pps; (trigLines d ≠ d.weave.trig)) ∧
    (∃ (c : Chip), (c.bit Reg.WEAVE_BANK 3 = false)) ∧
    (∃ (c : Chip), (c.bit Reg.WEAVE_BANK 1 = true)) :=
  by
  refine ⟨⟨{ domains := [.weave 1] }, 1, ?_⟩,
    ⟨{ weave := { loading := [0, 1], frames := [(3, 2 ^ 116)] } }, ?_⟩,
    ⟨{ weave := { loading := [0], window := [(0, 5)] } }, 7, 0, ?_⟩,
    ⟨{ weave := { window := [(0, 5)] } }, 7, 0, ?_⟩,
    ⟨{}, 3, 0x11FF, ?_⟩,
    ⟨withRegs [(Reg.WEAVE_PINk 3, 0x2000)], 3, 0x71FF, ?_⟩,
    ⟨{ weave := { user := 15 } }, 5, true, false, true, ?_⟩,
    ⟨{ weave := { trig := 6 } }, 5, true, false, true, ?_⟩,
    ⟨{ weave := { user := 15 } }, 5, true, false, true, ?_⟩,
    ⟨{ weave := { trig := 6 } }, 5, true, false, true, ?_⟩,
    ⟨{}, ?_⟩,
    ⟨withRegs [(Reg.WEAVE_BANK, 2)], ?_⟩⟩ <;> decide +kernel

/-- The hypotheses of `WeaveBusCommandsComplete` can be met, clause by clause. -/
theorem test_witness_WeaveBusCommandsComplete :
    (∃ (c : Chip) (conv : List (BitVec 12)) (k : Nat), let v : Nat := (conv.take (2 ^ adcAvg c k)).foldl (fun a x => a + x.toNat) 0 / 2 ^ adcAvg c k % 4096; let flag : Bool := if c.fld (Reg.WEAVE_ADC_CHc k) 23 12 < v then true else if v < c.fld (Reg.WEAVE_ADC_CHc k) 11 0 then false else c.bit (Reg.WEAVE_ADC_RESc k) 31; let d : Chip := c.setReg (Reg.WEAVE_ADC_RESc k) (BitVec.ofNat 32 (flag.toNat * 2 ^ 31 + 2 ^ 30 + c.weave.scans % 4096 * 2 ^ 16 + v)); let e : Chip := ((adcEdges c k v d).raiseIf (decide (flag ≠ c.bit (Reg.WEAVE_ADC_RESc k) 31)) 216).weaveSeen; (c.bit Reg.WEAVE_ADC_CTL 0 = true) ∧ (adcChannel c = some k) ∧ ((List.range 16).any (fun j => decide (k < j) && adcEn c j) = true)) ∧
    (∃ (c : Chip) (conv : List (BitVec 12)) (k : Nat), let v : Nat := (conv.take (2 ^ adcAvg c k)).foldl (fun a x => a + x.toNat) 0 / 2 ^ adcAvg c k % 4096; let flag : Bool := if c.fld (Reg.WEAVE_ADC_CHc k) 23 12 < v then true else if v < c.fld (Reg.WEAVE_ADC_CHc k) 11 0 then false else c.bit (Reg.WEAVE_ADC_RESc k) 31; let d : Chip := c.setReg (Reg.WEAVE_ADC_RESc k) (BitVec.ofNat 32 (flag.toNat * 2 ^ 31 + 2 ^ 30 + c.weave.scans % 4096 * 2 ^ 16 + v)); let e : Chip := ((adcEdges c k v d).raiseIf (decide (flag ≠ c.bit (Reg.WEAVE_ADC_RESc k) 31)) 216).weaveSeen; (c.bit Reg.WEAVE_ADC_CTL 0 = true) ∧ (adcChannel c = some k) ∧ ((List.range 16).any (fun j => decide (k < j) && adcEn c j) = false)) ∧
    (∃ (c : Chip) (n : Fin 4) (x : I2c) (v : Nat) (rest : List Nat), (c.bit (Reg.WEAVE_I2Cn_CTL n.val) 31 = true) ∧ (i2cOf c n.val = x) ∧ (x.cmds = v :: rest) ∧ (natBits v 9 8 = 0)) ∧
    (∃ (c : Chip) (n : Fin 4) (x : I2c) (v : Nat) (rest : List Nat), (c.bit (Reg.WEAVE_I2Cn_CTL n.val) 31 = true) ∧ (i2cOf c n.val = x) ∧ (x.cmds = v :: rest) ∧ (natBits v 9 8 = 0)) ∧
    (∃ (c : Chip) (n : Fin 4) (b : Byte) (x : I2c) (v : Nat) (rest : List Nat), (c.bit (Reg.WEAVE_I2Cn_CTL n.val) 31 = true) ∧ (i2cOf c n.val = x) ∧ (x.cmds = v :: rest) ∧ (natBits v 9 8 = 1) ∧ (x.rx.length < 32)) ∧
    (∃ (c : Chip) (n : Fin 4) (b : Byte) (x : I2c) (v : Nat) (rest : List Nat), (c.bit (Reg.WEAVE_I2Cn_CTL n.val) 31 = true) ∧ (i2cOf c n.val = x) ∧ (x.cmds = v :: rest) ∧ (natBits v 9 8 = 2) ∧ (x.rx.length < 32)) ∧
    (∃ (c : Chip) (n : Fin 4) (x : I2c) (v : Nat) (rest : List Nat), (c.bit (Reg.WEAVE_I2Cn_CTL n.val) 31 = true) ∧ (i2cOf c n.val = x) ∧ (x.cmds = v :: rest) ∧ (natBits v 9 8 = 3)) ∧
    (∃ (c : Chip) (n : Fin 4) (x : I2c), (c.bit (Reg.WEAVE_I2Cn_CTL n.val) 31 = true) ∧ (i2cOf c n.val = x) ∧ (x.cmds ≠ [])) ∧
    (∃ (c : Chip) (n : Fin 4), (c.bit (Reg.WEAVE_I2Cn_CTL n.val) 31 = true) ∧ ((i2cOf c n.val).cmds = [])) ∧
    (∃ (c : Chip) (n : Fin 4) (b : Byte) (rest : List Byte), ((i2cOf c n.val).rx = b :: rest)) ∧
    (∃ (c : Chip) (n : Fin 4), ((i2cOf c n.val).rx = [])) ∧
    (∃ (c : Chip) (n : Fin 2) (data : Word) (v : Nat) (rest : List Nat), (c.bit (Reg.WEAVE_SPIn_CTL n.val) 31 = true) ∧ ((spiOf c n.val).tx = v :: rest) ∧ ((spiOf c n.val).rx.length < 16)) ∧
    (∃ (c : Chip) (n : Fin 2) (v : Nat) (rest : List Nat), ((spiOf c n.val).rx = v :: rest)) :=
  by
  refine ⟨⟨withRegs [(Reg.WEAVE_ADC_CTL, 1), (Reg.WEAVE_ADC_CHc 2, 2 ^ 31 + 2 ^ 24 + 0x100000), (Reg.WEAVE_ADC_CHc 5, 2 ^ 31)], [0x7FF, 0x801], 2, ?_⟩,
    ⟨withRegs [(Reg.WEAVE_ADC_CTL, 1), (Reg.WEAVE_ADC_CHc 2, 2 ^ 31 + 0x100000)], [0x7FF], 2, ?_⟩,
    ⟨i2cChip [0x55, 0x300], 1, { cmds := [0x55, 0x300] }, 0x55, [0x300], ?_⟩,
    ⟨i2cChip [0x55, 0x56, 0x300, 7], 1, { cmds := [0x55, 0x56, 0x300, 7] }, 0x55, [0x56, 0x300, 7], ?_⟩,
    ⟨i2cChip [0x100, 0x300], 1, 9, { cmds := [0x100, 0x300] }, 0x100, [0x300], ?_⟩,
    ⟨i2cChip [0x200, 0x300], 1, 9, { cmds := [0x200, 0x300] }, 0x200, [0x300], ?_⟩,
    ⟨i2cChip [0x300], 1, { cmds := [0x300] }, 0x300, [], ?_⟩,
    ⟨i2cChip [0x300], 1, { cmds := [0x300] }, ?_⟩,
    ⟨i2cChip [], 1, ?_⟩,
    ⟨{ weave := { i2c := [(1, { rx := [4, 5] })] } }, 1, 4, [5], ?_⟩,
    ⟨{ resp := respOk 4 }, 1, ?_⟩,
    ⟨{ withRegs [(Reg.WEAVE_SPIn_CTL 1, 2 ^ 31 + 0x70000)] with weave := { spi := [(1, { tx := [4] })] } }, 1, 0x1234, 4, [], ?_⟩,
    ⟨{ weave := { spi := [(1, { rx := [4, 5] })] } }, 1, 4, [5], ?_⟩⟩ <;> decide +kernel

/-- The hypotheses of `BootAndDebugAccessCommandsComplete` can be met, clause by clause. -/
theorem test_witness_BootAndDebugAccessCommandsComplete :
    (∃ (c : Chip) (passed : BitVec 7) (rs : List RepairReport), (c.pow.started = false) ∧ (c.pow.vinLow = false) ∧ (railsGood c = true)) ∧
    (∃ (c : Chip) (passed : BitVec 7) (rs : List RepairReport), (c.pow.started = false) ∧ (c.pow.vinLow = true ∨ railsGood c = false)) ∧
    (∃ (c : Chip) (passed : BitVec 7) (rs : List RepairReport), (c.pow.started = true) ∧ (bootDue c = true) ∧ (needsRecovery c = false) ∧ (odNat c 0x2002 0 ≠ 5) ∧ (checkFailure c = none)) ∧
    (∃ (c : Chip) (passed : BitVec 7) (rs : List RepairReport) (f : Nat × Nat), (c.pow.started = true) ∧ (bootDue c = true) ∧ (needsRecovery c = false) ∧ (odNat c 0x2002 0 ≠ 5) ∧ (checkFailure c = some f)) ∧
    (∃ (c : Chip) (a : List Byte) (b : List Byte), let d : Chip := c.bootStep3; (bootOpen c = true) ∧ (c.bit Reg.SILO_STAT 31 = true) ∧ (isManager c = true) ∧ (isManager d = true) ∧ (sealState d ≠ 3)) ∧
    (∃ (c : Chip) (a : List Byte) (b : List Byte), let d : Chip := c.bootStep3; (bootOpen c = true) ∧ (c.bit Reg.SILO_STAT 31 = true) ∧ (isManager c = false) ∧ ((upstream d).isSome = true) ∧ (sealState d ≠ 3)) ∧
    (∃ (c : Chip) (a : List Byte) (b : List Byte), let d : Chip := c.bootStep3; (bootOpen c = true) ∧ (c.bit Reg.SILO_STAT 31 = true) ∧ (sealState d = 3 ∨ isManager d = false ∧ upstream d = none)) ∧
    (∃ (c : Chip), (phaseOf c = 1) ∧ (bootDue c = true) ∧ (needsRecovery c = true)) ∧
    (∃ (c : Chip), (phaseOf c = 2) ∧ (c.ev.recovered = true) ∧ (recordsPlaced c = true)) ∧
    (∃ (c : Chip), (phaseOf c = 2) ∧ (c.ev.recovered = false)) ∧
    (∃ (c : Chip), (c.grn.preempt = .idle) ∧ (wantsPreempt c = true)) ∧
    (∃ (c : Chip) (p : Fin 3), (portThere c p.val = true) ∧ ((debugPort c p.val).locked = false)) ∧
    (∃ (c : Chip), (c.fld Reg.SYS_MODE 7 0 ≠ 5)) ∧
    (∃ (c : Chip) (p : Fin 3), (portThere c p.val = true) ∧ ((debugPort c p.val).locked = true)) ∧
    (∃ (c : Chip) (p : Fin 3) (level : Fin 4), let d : Chip := c.onPort p.val (fun x => { x with authctl := ((debugPort c p.val).authctl &&& 0xFF0000#32) ||| BitVec.ofNat 32 level.val }); (portThere c p.val = true) ∧ (level ≠ 0) ∧ ((debugPort d p.val).locked = false) ∧ ((debugPort d p.val).verify = none)) ∧
    (∃ (c : Chip) (p : Fin 3) (level : Fin 4), let d : Chip := c.onPort p.val (fun x => { x with authctl := ((debugPort c p.val).authctl &&& 0xFF0000#32) ||| BitVec.ofNat 32 (256 + level.val) }); (portThere c p.val = true) ∧ (level ≠ 0) ∧ ((debugPort d p.val).locked = false) ∧ ((debugPort d p.val).verify = none)) ∧
    (∃ (c : Chip) (p : Fin 3) (password : Bool), (portThere c p.val = true)) ∧
    (∃ (c : Chip) (p : Fin 3), ((debugPort c p.val).verify = some (1, 1)) ∧ (c.fld Reg.DBG_AON 30 29 < 1)) ∧
    (∃ (c : Chip) (p : Fin 3) (v : Nat) (l : Nat), ((debugPort c p.val).verify = some (v, l)) ∧ (v ≠ 1) ∧ ((debugPort c p.val).fails = 7)) ∧
    (∃ (c : Chip) (p : Fin 3), (nonceValid c p.val = false)) :=
  by
  refine ⟨⟨{}, 127, [], ?_⟩,
    ⟨{ pow := { vinLow := true } }, 127, [], ?_⟩,
    ⟨bootChip [], 127, [], ?_⟩,
    ⟨bootChip [(0x300001, [1])], 127, [], (4, 0), ?_⟩,
    ⟨{ withRegs [(Reg.SILO_STAT, 2 ^ 31), (Reg.SPIN_STAT, 2 ^ 31), (Reg.SEAL_STATE, 0)] with pow := { started := true } }, [], [], ?_⟩,
    ⟨{ withRegs [(Reg.SILO_STAT, 2 ^ 31), (Reg.SPIN_STAT, 0), (Reg.SEAL_STATE, 0), (Reg.SPIN_LINKl 3, 2 ^ 31)] with domains := [.spindle 3], pow := { started := true } }, [], [], ?_⟩,
    ⟨{ withRegs [(Reg.SILO_STAT, 2 ^ 31), (Reg.SPIN_STAT, 0), (Reg.SEAL_STATE, 0)] with pow := { started := true } }, [], [], ?_⟩,
    ⟨{ bootChip [] with ev := { sheafLog := [(0, 0, [])] } }, ?_⟩,
    ⟨{ withRegs [(Reg.SYS_MODE, 0x2FF)] with ev := { recovered := true } }, ?_⟩,
    ⟨withRegs [(Reg.SYS_MODE, 0x2FF)], ?_⟩,
    ⟨preemptChip, ?_⟩,
    ⟨{ ns := 8 }, 1, ?_⟩,
    ⟨withRegs [(Reg.SYS_MODE, 2)], ?_⟩,
    ⟨{ dbg := { ports := [(1, { locked := true })] } }, 1, ?_⟩,
    ⟨{ dbg := { ports := [(1, { nonceAt := some 0 })] } }, 1, 2, ?_⟩,
    ⟨{ dbg := { ports := [(1, { nonceAt := some 0 })] } }, 1, 3, ?_⟩,
    ⟨{ dbg := { ports := [(1, { level := 3 })] } }, 1, false, ?_⟩,
    ⟨{ dbg := { ports := [(1, { verify := some (1, 1) })] } }, 1, ?_⟩,
    ⟨{ dbg := { ports := [(1, { fails := 7, verify := some (3, 1) })] } }, 1, 3, 1, ?_⟩,
    ⟨{ ns := 60000000000, dbg := { ports := [(1, { nonceAt := some 0 })] } }, 1, ?_⟩⟩ <;> decide +kernel

/-- The hypotheses of `NetworkAndHostCommandsComplete` can be met, clause by clause. -/
theorem test_witness_NetworkAndHostCommandsComplete :
    (∃ (c : Chip) (k : Fin 4) (f : CanFrame) (sof : DWord), (canOn c k.val = true) ∧ (f.fd = false) ∧ (nodeOn c k.val = false) ∧ ((List.range 32).find? (fun n => filterMatches c k.val n f) = none)) ∧
    (∃ (c : Chip) (k : Fin 4) (f : CanFrame) (sof : DWord) (n : Nat), (canOn c k.val = true) ∧ (f.fd = false) ∧ (nodeOn c k.val = false) ∧ ((List.range 32).find? (fun n => filterMatches c k.val n f) = some n) ∧ (ringFull c (Reg.CANRX_BASE_LO k.val) = false)) ∧
    (∃ (c : Chip) (k : Fin 4) (f : CanFrame) (d : Chip) (sof : DWord), (c.isOn .can = true) ∧ (c.canHead k.val = (some f, d)) ∧ (c.bit (Reg.CAN_CTLc k.val) 31 = false)) ∧
    (∃ (c : Chip) (k : Fin 4) (f : CanFrame) (d : Chip) (sof : DWord), (c.isOn .can = true) ∧ (c.canHead k.val = (some f, d)) ∧ (c.bit (Reg.CAN_CTLc k.val) 31 = true) ∧ (c.bit (Reg.CAN_CTLc k.val) 29 = false) ∧ (canState c k.val ≠ 2) ∧ (nodeOn c k.val = false) ∧ (f.fd = false)) ∧
    (∃ (c : Chip) (k : Fin 4) (tec : Byte) (r : Byte), (c.isOn .can = true) ∧ (c.bit (Reg.CAN_CTLc k.val) 31 = true) ∧ (canState c k.val = 0)) ∧
    (∃ (c : Chip) (k : Fin 4) (tec : Byte) (r : Byte), let d : Chip := ((c.setFld (Reg.CAN_STATc k.val) 31 30 2).setFld (Reg.CAN_STATc k.val) 23 16 r.toNat).setFld (Reg.CAN_STATc k.val) 15 8 255; (c.isOn .can = true) ∧ (c.bit (Reg.CAN_CTLc k.val) 31 = true) ∧ (canState c k.val ≠ 2) ∧ (c.bit (Reg.CAN_CTLc k.val) 28 = true)) ∧
    (∃ (c : Chip) (k : Fin 4), (portState c (regNode (Reg.CAN_CTLc k.val)) = 0) ∧ (canState c k.val = 2) ∧ (c.can.recov.contains k.val = false)) ∧
    (∃ (c : Chip) (k : Fin 4), (c.can.recov.contains k.val = true)) ∧
    (∃ (c : Chip) (k : Fin 4), (portState c (regNode (Reg.CAN_STATc k.val)) = 0)) ∧
    (∃ (c : Chip) (m : Fin 2) (f : List Byte) (sof : DWord) (g : OdDatagram), (macOn c m.val = true) ∧ ((ethMac c m.val).linkUp = true) ∧ (f.length ≤ macMaxLen c m.val) ∧ (pauseOf f = none) ∧ (odDatagramOf c m.val f = some g) ∧ ((ethMac c m.val).odq.length < 16)) ∧
    (∃ (c : Chip) (m : Fin 2) (f : List Byte) (sof : DWord) (g : OdDatagram), (macOn c m.val = true) ∧ ((ethMac c m.val).linkUp = true) ∧ (f.length ≤ macMaxLen c m.val) ∧ (pauseOf f = none) ∧ (odDatagramOf c m.val f = some g) ∧ (16 ≤ (ethMac c m.val).odq.length)) ∧
    (∃ (c : Chip) (m : Fin 2) (f : List Byte) (sof : DWord) (q : Nat), (macOn c m.val = true) ∧ ((ethMac c m.val).linkUp = true) ∧ (f.length ≤ macMaxLen c m.val) ∧ (pauseOf f = some q)) ∧
    (∃ (c : Chip) (m : Fin 2) (f : List Byte) (sof : DWord), (macOn c m.val = true) ∧ ((ethMac c m.val).linkUp = true)) ∧
    (∃ (c : Chip) (m : Fin 2) (sof : DWord), (macOn c m.val = true) ∧ ((ethMac c m.val).linkUp = true) ∧ ((ethMac c m.val).pausedTo ≤ c.ns) ∧ (ringEmpty c (Reg.ETHTXB_BASE_LO m.val) = false)) ∧
    (∃ (c : Chip) (m : Fin 2) (sof : DWord), (macOn c m.val = true) ∧ ((ethMac c m.val).linkUp = true) ∧ ((ethMac c m.val).pausedTo ≤ c.ns) ∧ (ringEmpty c (Reg.ETHTXB_BASE_LO m.val) = true) ∧ (ringEmpty c (Reg.ETHTX_BASE_LO m.val) = false)) ∧
    (∃ (c : Chip) (m : Fin 2) (up : Bool), ((ethMac c m.val).linkUp = !up)) ∧
    (∃ (c : Chip) (m : Fin 2), (portState c (regNode (Reg.ETH_ODDROP m.val)) = 0)) ∧
    (∃ (c : Chip) (up : Bool), (c.host.linkUp = !up)) ∧
    (∃ (c : Chip) (k : Fin 8), (portState c (regNode Reg.PCIA_ODBELL) = 0) ∧ (c.host.pending.contains k.val = false)) ∧
    (∃ (c : Chip) (k : Nat) (bs : List Byte) (rest : List (Nat × List Byte)), (c.host.answers = (k, bs) :: rest)) ∧
    (∃ (c : Chip) (off : Word), let d : Chip := (c.hostRecord false (respErr 0)).raise 178; (c.host.linkUp = true) ∧ (c.isOn .pcieA = true) ∧ (c.host.config.d3hot = false) ∧ (bar0Target (off.toNat / 4 * 4) = .none)) ∧
    (∃ (c : Chip) (off : Word) (a : Nat) (r : Resp) (d : Chip), (c.host.linkUp = true) ∧ (c.isOn .pcieA = true) ∧ (c.host.config.d3hot = false) ∧ (bar0Target (off.toNat / 4 * 4) = .mesh a) ∧ (c.busRead .host a 4 false = (r, d)) ∧ (r.status = 0)) ∧
    (∃ (c : Chip) (off : Word) (v : Word) (ep : Bool) (r : Resp) (d : Chip), (c.host.linkUp = true) ∧ (c.isOn .pcieA = true) ∧ (c.host.config.d3hot = false) ∧ (c.hostWriteDword false (off.toNat / 4 * 4) 15 v ep = (r, d)) ∧ (r.status = 0)) ∧
    (∃ (c : Chip) (k : Fin 2) (d : OdDatagram) (rest : List OdDatagram), let e : Chip := c.onMac k.val (fun x => { x with odq := rest }); ((ethMac c k.val).odq = d :: rest) ∧ (messageOk false d.payload = true) ∧ (msgOp d.payload = 1) ∧ (msgSid d.payload = 0xFF)) ∧
    (∃ (c : Chip) (k : Fin 2) (d : OdDatagram) (rest : List OdDatagram) (x : Session), let m : List Byte := d.payload; let e : Chip := (c.onMac k.val (fun x => { x with odq := rest })).putSession (msgSid m) { x with seqLast := some (msgNat m 8 8), since := c.ns }; ((ethMac c k.val).odq = d :: rest) ∧ (messageOk false m = true) ∧ (msgOp m ≠ 1) ∧ (msgOp m ≠ 2) ∧ (msgSid m ≠ 0xFF) ∧ (sessionOf c (msgSid m) = some x) ∧ (x.isOpen = true) ∧ (x.seqLast.all (fun n => decide (n < msgNat m 8 8)) = true) ∧ (mac16 x.key (leBytes 8 (msgNat m 8 8) ++ msgCore m) = m.drop (0x18 + msgNat m 6 2))) :=
  by
  refine ⟨⟨canChip [], 1, frame1, 5, ?_⟩,
    ⟨canChip [(Reg.CAN_FLTc_k 1 3, 2 ^ 31 + 0x48C0000), (Reg.CAN_FLTMc_k 1 3, 0x1FFC0000), (Reg.CANRX_BASE_LO 1, 5), (Reg.CANRX_BASE_LO 1 + 4, 1), (Reg.DRC_STAT, 2 ^ 31)], 1, frame1, 5, 3, ?_⟩,
    ⟨{ canSend with regs := canSend.regs.filter (fun e => e.1 ≠ Reg.CAN_CTLc 1) }, 1, canFrameOf (List.replicate 128 0), (Chip.canHead { canSend with regs := canSend.regs.filter (fun e => e.1 ≠ Reg.CAN_CTLc 1) } 1).2, 5, ?_⟩,
    ⟨canSend, 1, canFrameOf (List.replicate 128 0), (Chip.canHead canSend 1).2, 5, ?_⟩,
    ⟨canChip [], 1, 128, 3, ?_⟩,
    ⟨canChip [(Reg.CAN_CTLc 1, 2 ^ 31 + 2 ^ 28)], 1, 255, 3, ?_⟩,
    ⟨{ withRegs [(Reg.CAN_STATc 1, 2 ^ 31)] with domains := [.can] }, 1, ?_⟩,
    ⟨{ withRegs [(Reg.CAN_STATc 1, 2 ^ 31 + 0xFF00)] with can := { recov := [1] } }, 1, ?_⟩,
    ⟨{ withRegs [(Reg.CAN_STATc 1, 5)] with domains := [.can] }, 1, ?_⟩,
    ⟨ethChip [], 0, udp0, 5, { mac := 0, src := [1, 1, 1, 1, 1, 1, 10, 0, 0, 1, 9, 9], payload := [7] }, ?_⟩,
    ⟨{ ethChip [] with eth := [(0, { linkUp := true, odq := List.replicate 16 { mac := 0, src := [], payload := [] } })] }, 0, udp0, 5, { mac := 0, src := [1, 1, 1, 1, 1, 1, 10, 0, 0, 1, 9, 9], payload := [7] }, ?_⟩,
    ⟨ethChip [], 0, [1, 0x80, 0xC2, 0, 0, 1, 2, 2, 2, 2, 2, 2, 0x88, 8, 0, 1, 0, 3], 5, 3, ?_⟩,
    ⟨{ ethChip [(Reg.ETHRX_BASE_LO 0, 5), (Reg.ETHRX_BASE_LO 0 + 4, 1), (Reg.DRC_STAT, 2 ^ 31)] with domains := [.ethernet 0, .quadrant 0, .tileLogic 0] }, 0, udp0, 5, ?_⟩,
    ⟨{ ethChip [(Reg.ETHTXB_BASE_LO 0, 5), (Reg.ETHTXB_BASE_LO 0 + 4, 1), (Reg.ETHTXB_BASE_LO 0 + 12, 1), (Reg.DRC_STAT, 2 ^ 31)] with domains := [.ethernet 0, .quadrant 0, .tileLogic 0] }, 0, 5, ?_⟩,
    ⟨{ ethChip [(Reg.ETHTX_BASE_LO 0, 5), (Reg.ETHTX_BASE_LO 0 + 4, 1), (Reg.ETHTX_BASE_LO 0 + 12, 1), (Reg.DRC_STAT, 2 ^ 31)] with domains := [.ethernet 0, .quadrant 0, .tileLogic 0] }, 0, 5, ?_⟩,
    ⟨{}, 1, true, ?_⟩,
    ⟨{ withRegs [(Reg.ETH_ODDROP 1, 5)] with domains := [.ethernet 1] }, 1, ?_⟩,
    ⟨{}, true, ?_⟩,
    ⟨{ domains := [.pcieA] }, 3, ?_⟩,
    ⟨{ host := { answers := [(2, [1, 2])], pending := [2] } }, 2, [1, 2], [], ?_⟩,
    ⟨{ host := { linkUp := true }, domains := [.pcieA] }, 0xFFFFFF00, ?_⟩,
    ⟨hostChip, 0x200, 0x20000200, (Chip.busRead hostChip .host 0x20000200 4 false).1, (Chip.busRead hostChip .host 0x20000200 4 false).2, ?_⟩,
    ⟨hostChip, 0x260, 70, false, (Chip.hostWriteDword hostChip false 0x260 15 70 false).1, (Chip.hostWriteDword hostChip false 0x260 15 70 false).2, ?_⟩,
    ⟨{ eth := [(0, { odq := [openMsg] })] }, 0, openMsg, [], ?_⟩,
    ⟨{ sessionChip true with eth := [(0, { odq := [{ mac := 0, src := [], payload := closeMsg }] })] }, 0, { mac := 0, src := [], payload := closeMsg }, [], { isOpen := true, nc := [], ns := [], key := [], since := 0 }, ⟨rfl, by decide +kernel, by decide +kernel, by decide +kernel, by decide +kernel, by decide +kernel, rfl, by decide +kernel, rfl⟩⟩⟩ <;> decide +kernel

/-- The hypotheses of `SealMailboxCommandsComplete` can be met, clause by clause. -/
theorem test_witness_SealMailboxCommandsComplete :
    (∃ (c : Chip) (tag : Byte), let args : List Nat := sealArgs c false; (sealReady c false = true)) ∧
    (∃ (c : Chip) (tag : Byte) (t : Nat), let args : List Nat := sealArgs c false; (sealReady c false = true) ∧ (flashHolds c (sealReads false 2 args) = false) ∧ (1 ≤ t) ∧ (t ≤ 6) ∧ (natBits (argOf args 2) 7 0 = t) ∧ (namedType c = some t)) ∧
    (∃ (c : Chip) (tag : Byte), let args : List Nat := sealArgs c false; (sealReady c false = true) ∧ (flashHolds c (sealReads false 2 args) = false) ∧ (natBits (argOf args 2) 7 0 = 3) ∧ (namedType c = some 3) ∧ (phaseAllows (namedHeader c).2 3 (hdrOem (namedHeader c).1) = true) ∧ ((namedHeader c).2.bit Reg.ASQ_LOAD_STAT 31 = true) ∧ ((namedHeader c).2.seq.queue = []) ∧ ((namedHeader c).2.seq.running = none)) ∧
    (∃ (c : Chip) (tag : Byte) (t : Nat), let args : List Nat := sealArgs c false; let h : List Byte × Chip := namedHeader c; let r : Option (List Byte) × Chip := h.2.dmaRead (argAddr args 0 + 0x600) (hdrNat h.1 0x0C 4); (sealReady c false = true) ∧ (flashHolds c (sealReads false 3 args) = false) ∧ (1 ≤ t) ∧ (t ≤ 6) ∧ (natBits (argOf args 2) 7 0 = t) ∧ (namedType c = some t)) ∧
    (∃ (c : Chip) (tag : Byte) (k : Nat) (e : Nat × LoadedImage), let args : List Nat := sealArgs c false; (sealReady c false = true) ∧ (classCounter (natBits (argOf args 0) 7 0) = some k) ∧ (c.su.loaded.reverse.find? (fun e => classCounter e.1 == some k) = some e)) ∧
    (∃ (c : Chip) (tag : Byte), let args : List Nat := sealArgs c false; (sealReady c false = true) ∧ (c.su.bootDone = false)) ∧
    (∃ (c : Chip) (tag : Byte), let args : List Nat := sealArgs c false; (sealReady c false = true)) ∧
    (∃ (c : Chip) (tag : Byte), let args : List Nat := sealArgs c false; (sealReady c false = true)) ∧
    (∃ (c : Chip) (tag : Byte) (k : Nat) (m : List Byte), let args : List Nat := sealArgs c false; let n : Option (List Byte) × Chip := c.dmaRead (argAddr args 0) 32; let d : Chip := n.2.setCounter 6 (sealCounter n.2 6 + 1); let msg : List Byte := attestReport d k m (n.1.getD []); let sig : List Byte × Chip := d.signBytes m msg; let w : Bool × Chip := sig.2.dmaWrite (argAddr args 2) (msg ++ sig.1); (sealReady c false = true) ∧ (flashHolds c (sealReads false 0x20 args) = false) ∧ (attestKey c = some (k, m)) ∧ (insideCommon c (argAddr args 2) 1024 = true) ∧ ((c.dmaRead (argAddr args 0) 32).1 ≠ none)) ∧
    (∃ (c : Chip) (tag : Byte) (bs : List Byte), let args : List Nat := sealArgs c false; let w : Bool × Chip := c.dmaWrite (argAddr args 1) bs; (sealReady c false = true) ∧ (argOf args 0 = 1) ∧ (c.su.priv.dikCert = some bs) ∧ (bs.length ≤ argOf args 3) ∧ (insideCommon c (argAddr args 1) bs.length = true)) ∧
    (∃ (c : Chip) (tag : Byte), let args : List Nat := sealArgs c false; (sealReady c false = true)) ∧
    (∃ (c : Chip) (tag : Byte) (fas : List Byte), let args : List Nat := sealArgs c true; let ids : List Nat := (List.range 16).filter (fun i => (sessionOf c i).isNone); let id : Nat := listGet 0 ids (c.drawFree.1.toNat % ids.length); let ns : List Byte × Chip := c.drawFree.2.drawBytes 16; (sealReady c true = true) ∧ (c.su.priv.fas = some fas) ∧ (c.su.lockedAt = none) ∧ (ids ≠ [])) ∧
    (∃ (c : Chip) (tag : Byte) (x : Session), let args : List Nat := sealArgs c true; let d : Chip := c.dropSession (argOf args 0); (sealReady c true = true) ∧ (sessionOf c (argOf args 0) = some x) ∧ (x.isOpen = false)) ∧
    (∃ (c : Chip) (tag : Byte), let args : List Nat := sealArgs c true; (sealReady c true = true) ∧ ((sessionOf c (argOf args 0)).isSome = true)) ∧
    (∃ (c : Chip) (tag : Byte) (x : Session), let args : List Nat := sealArgs c true; let n : Nat := argOf args 1 + argOf args 2 * 2 ^ 32; let m : Option (List Byte) × Chip := c.dmaRead (argAddr args 3) (argOf args 5); let k : Option (List Byte) × Chip := m.2.dmaRead (argAddr args 6) 16; (sealReady c true = true) ∧ (flashHolds c (sealReads true 0x40 args) = false) ∧ (sessionOf c (argOf args 0) = some x) ∧ (sessionOf k.2 (argOf args 0) = some x) ∧ (x.isOpen = true) ∧ (x.seqLast = none) ∧ (m.1.isSome = true) ∧ (k.1.isSome = true)) ∧
    (∃ (c : Chip) (tag : Byte) (x : Session), let args : List Nat := sealArgs c true; let m : Option (List Byte) × Chip := c.dmaRead (argAddr args 3) (argOf args 5); (sealReady c true = true) ∧ (flashHolds c (sealReads true 0x41 args) = false) ∧ (sessionOf c (argOf args 0) = some x) ∧ (sessionOf m.2 (argOf args 0) = some x) ∧ (x.isOpen = true) ∧ (m.1.isSome = true)) ∧
    (∃ (c : Chip) (b : Bool) (op : Byte) (tag : Byte), (sealReady c b = true) ∧ ((b, op.toNat) ∉ [(false, 1), (false, 2), (false, 3), (false, 4), (false, 5), (false, 0x10), (false, 0x11), (false, 0x20), (false, 0x21), (false, 0x22), (false, 0x23), (true, 0x30), (true, 0x31), (true, 0x32), (true, 0x40), (true, 0x41)])) ∧
    (∃ (c : Chip) (m : Mailbox) (st : Nat) (rs : List Nat), (c.isOn .sealUnit = true) ∧ (c.su.boxB = some m) ∧ (m.later = .nothing) ∧ (m.answer = some (st, rs)) ∧ (m.needs = none)) ∧
    (∃ (c : Chip) (m : Mailbox) (st : Nat) (rs : List Nat), (c.isOn .sealUnit = true) ∧ (c.su.boxA = some m) ∧ (m.later = .nothing) ∧ (m.answer = some (st, rs)) ∧ (m.needs = none) ∧ (m.op ≠ 0x10)) ∧
    (∃ (c : Chip) (m : Mailbox) (a : Nat) (h : List Byte), (c.isOn .sealUnit = true) ∧ (c.su.boxA = some m) ∧ (m.later = .payload a h) ∧ (flashHolds c [a] = false) ∧ (m.needs = none) ∧ (m.op = 2)) :=
  by
  refine ⟨⟨withSeal [] [], 9, ?_⟩,
    ⟨imageChip 3, 9, 3, ?_⟩,
    ⟨imageChip 3, 9, ?_⟩,
    ⟨imageChip 3, 9, 3, ?_⟩,
    ⟨{ withSeal [(Reg.SEAL_ARGn 0, 3)] [] with su := { (withSeal [] []).su with loaded := [(3, { svn := 7, header := [] })], priv := { ctrs := [0, 0, 0, 5] } } }, 9, 3, (3, { svn := 7, header := [] }), ?_⟩,
    ⟨{ withSeal [] [] with regs := [(Reg.SEAL_STATE, 0x10000000)] }, 9, ?_⟩,
    ⟨withSeal [] [], 9, ?_⟩,
    ⟨{ withSeal [(Reg.SEAL_ARGn 0, 1)] [] with ev := { sheaves := [sheaf0] } }, 9, ?_⟩,
    ⟨attestChip, 9, 1, [], ?_⟩,
    ⟨{ withSeal [(Reg.SEAL_ARGn 0, 1), (Reg.SEAL_ARGn 2, 8), (Reg.SEAL_ARGn 3, 4), (Reg.DRC_CTL, 1)] [] with su := { (withSeal [] []).su with priv := { dikCert := some [1, 2] } } }, 9, [1, 2], ?_⟩,
    ⟨sessionChip true, 9, ?_⟩,
    ⟨{ withSeal [] [] with su := { (withSeal [] []).su with priv := { fas := some [1] } } }, 9, [1], ?_⟩,
    ⟨sessionChip false, 9, { nc := [], ns := [], key := [], since := 0 }, ?_⟩,
    ⟨sessionChip true, 9, ?_⟩,
    ⟨sessionChip true, 9, { isOpen := true, nc := [], ns := [], key := [], since := 0 }, ?_⟩,
    ⟨sessionChip true, 9, { isOpen := true, nc := [], ns := [], key := [], since := 0 }, ?_⟩,
    ⟨withSeal [] [], true, 1, 4, ?_⟩,
    ⟨{ domains := [.sealUnit], su := { boxB := some { op := 0x30, tag := 3, args := [], answer := some (0, [1, 2]) } } }, { op := 0x30, tag := 3, args := [], answer := some (0, [1, 2]) }, 0, [1, 2], ?_⟩,
    ⟨{ domains := [.sealUnit], su := { boxA := some { op := 1, tag := 3, args := [], answer := some (0, [1, 2]) } } }, { op := 1, tag := 3, args := [], answer := some (0, [1, 2]) }, 0, [1, 2], ?_⟩,
    ⟨{ domains := [.sealUnit], su := { boxA := some { op := 2, tag := 3, args := [], later := .payload 0x100000 [0, 0, 0, 1] } } }, { op := 2, tag := 3, args := [], later := .payload 0x100000 [0, 0, 0, 1] }, 0x100000, [0, 0, 0, 1], ?_⟩⟩ <;> decide +kernel

/-- The hypotheses of `SealPackageTamperAndFlashCommandsComplete` can be met, clause by clause. -/
theorem test_witness_SealPackageTamperAndFlashCommandsComplete :
    (∃ (c : Chip) (tag : Byte), let args : List Nat := sealArgs c false; (sealReady c false = true) ∧ (flashHolds c (sealReads false 0x22 args) = false) ∧ (namedType c = some 7)) ∧
    (∃ (c : Chip) (tag : Byte), let args : List Nat := sealArgs c false; (sealReady c false = true) ∧ (flashHolds c (sealReads false 0x22 args) = false) ∧ (namedType c = some 8)) ∧
    (∃ (c : Chip) (tag : Byte), let args : List Nat := sealArgs c false; (sealReady c false = true) ∧ (flashHolds c (sealReads false 0x22 args) = false) ∧ (namedType c = some 9)) ∧
    (∃ (c : Chip) (tag : Byte), let args : List Nat := sealArgs c false; (sealReady c false = true) ∧ (flashHolds c (sealReads false 0x22 args) = false) ∧ (namedType c = some 10)) ∧
    (∃ (c : Chip) (tag : Byte), let args : List Nat := sealArgs c false; (sealReady c false = true) ∧ (flashHolds c (sealReads false 0x22 args) = false) ∧ (namedType c = some 11)) ∧
    (∃ (c : Chip) (tag : Byte), let args : List Nat := sealArgs c false; (sealReady c false = true) ∧ (flashHolds c (sealReads false 0x22 args) = false) ∧ (namedType c = some 12)) ∧
    (∃ (c : Chip) (m : Mailbox), (c.isOn .sealUnit = true) ∧ (c.su.boxA = some m) ∧ (m.later = .manufacture) ∧ (m.needs = none) ∧ (m.op = 0x22)) ∧
    (∃ (c : Chip) (m : Mailbox) (fleet : List Byte) (fas : List Byte), (c.isOn .sealUnit = true) ∧ (c.su.boxA = some m) ∧ (m.later = .provision fleet fas) ∧ (m.needs = none) ∧ (m.op = 0x22)) ∧
    (∃ (c : Chip) (l : CustomerLoad), let d : Chip := c.writeMicrocode l.words l.entries; let e : Chip := ((Chip.loadStat { d with su := { d.su with loaded := d.su.loaded.filter (fun e => decide (e.1 ≠ 3)) ++ [(3, l.image)] } } 2).setBit Reg.ASQ_QSTAT 28 false).raise 84; (c.isOn .sealUnit = true) ∧ (c.su.load = some l) ∧ (l.status = 2)) ∧
    (∃ (c : Chip) (l : CustomerLoad), let e : Chip := (((c.raise 19).loadStat l.status).setBit Reg.ASQ_QSTAT 28 false).raise 84; (c.isOn .sealUnit = true) ∧ (c.su.load = some l) ∧ (l.status ≠ 2)) ∧
    (∃ (c : Chip), (c.isOn .sealUnit = true)) ∧
    (∃ (c : Chip), (c.isOn .sealUnit = true)) ∧
    (∃ (c : Chip), (c.isOn .sealUnit = true)) ∧
    (∃ (c : Chip) (i : Nat) (x : Session), (c.su.sessions = [(i, x)]) ∧ (x.isOpen = false) ∧ (x.since + 10000000000 ≤ c.ns)) ∧
    (∃ (c : Chip) (i : Nat) (x : Session), (c.su.sessions = [(i, x)]) ∧ (x.isOpen = true) ∧ (x.since + 300000000000 ≤ c.ns)) ∧
    (∃ (c : Chip) (t : Nat), (c.su.lockedAt = some t) ∧ (t + 60000000000 ≤ c.ns)) ∧
    (∃ (c : Chip), (c.xspi.running = false) ∧ (c.bit Reg.XSPI_CTL 31 = true)) ∧
    (∃ (c : Chip), (c.xspi.running = false) ∧ (c.bit Reg.XSPI_CTL 31 = false)) ∧
    (∃ (c : Chip) (data : List Byte) (a : BitVec 28) (b : Byte), (c.xspi.running = true) ∧ (c.bit Reg.XSPI_CMD 28 = true)) ∧
    (∃ (c : Chip) (data : List Byte), let d : Chip := c.xspiBuf (listFit 0 (xspiLen c) data); (c.xspi.running = true) ∧ (c.bit Reg.XSPI_CMD 28 = false)) :=
  by
  refine ⟨⟨packageChip 7, 9, ?_⟩,
    ⟨packageChip 8, 9, ?_⟩,
    ⟨packageChip 9, 9, ?_⟩,
    ⟨packageChip 10, 9, ?_⟩,
    ⟨packageChip 11, 9, ?_⟩,
    ⟨packageChip 12, 9, ?_⟩,
    ⟨{ domains := [.sealUnit], su := { boxA := some { op := 0x22, tag := 3, args := [], later := .manufacture } } }, { op := 0x22, tag := 3, args := [], later := .manufacture }, ?_⟩,
    ⟨{ domains := [.sealUnit], su := { boxA := some { op := 0x22, tag := 3, args := [], later := .provision [1] [2] } } }, { op := 0x22, tag := 3, args := [], later := .provision [1] [2] }, [1], [2], ?_⟩,
    ⟨{ domains := [.sealUnit], su := { load := some { words := [(0x2000, 5)], entries := [(0xC0, 7)], status := 2, verdict := 0, image := { svn := 0, header := [] } } } }, { words := [(0x2000, 5)], entries := [(0xC0, 7)], status := 2, verdict := 0, image := { svn := 0, header := [] } }, ?_⟩,
    ⟨{ domains := [.sealUnit], su := { load := some { words := [], entries := [], status := 3, verdict := 8, image := { svn := 0, header := [] } } } }, { words := [], entries := [], status := 3, verdict := 8, image := { svn := 0, header := [] } }, ?_⟩,
    ⟨withSeal [] [], ?_⟩,
    ⟨withSeal [] [], ?_⟩,
    ⟨withSeal [] [], ?_⟩,
    ⟨{ sessionChip false with ns := 10 ^ 10 }, 0, { nc := [], ns := [], key := [], since := 0 }, ?_⟩,
    ⟨{ sessionChip true with ns := 3 * 10 ^ 11 }, 0, { isOpen := true, nc := [], ns := [], key := [], since := 0 }, ?_⟩,
    ⟨{ ns := 60000000000, su := { lockedAt := some 0 } }, 0, ?_⟩,
    ⟨withRegs [(Reg.XSPI_CTL, 2 ^ 31)], ?_⟩,
    ⟨{}, ?_⟩,
    ⟨{ withRegs [(Reg.XSPI_CMD, 2 ^ 31 + 2 ^ 28)] with xspi := { running := true } }, [], 5, 6, ?_⟩,
    ⟨{ withRegs [(Reg.XSPI_CMD, 2 ^ 31), (Reg.XSPI_LEN, 2)] with xspi := { running := true } }, [1, 2, 3], ?_⟩⟩ <;> decide +kernel

/-- The hypotheses of `GranaryQueueCommandsComplete` can be met, clause by clause. -/
theorem test_witness_GranaryQueueCommandsComplete :
    (∃ (c : Chip) (q : Nat) (es : List Nat) (pages : List Nat) (e : Chip), let t : Option (List Nat) × Chip := (sqTaken c q).readTarget (sqCtx c q); let n : Nat := sqCtx c q; let d : List Nat := t.1.getD []; let x : Ctx := { state := 0, desc := d }; let m : Chip := (t.2.readPmap (pmapAddr x)).2; let valid : List Nat := (List.range (pcount { x with pmap := es })).filter (fun p => (listGet 0 es p).testBit 31); let want : List Nat := valid.filter (fun p => natBits (listGet 0 es p) 19 0 = 0xFFFFF); let fs : List Nat := (want.zip pages).foldl (fun l p => listSet l p.1 ((listGet 0 l p.1 &&& (2 ^ 31 + 2 ^ 28)) + 2 ^ 27 + 2 ^ 26 + p.2)) es; let z : Ctx := ctxSet (ctxSetFlag (ctxSetFlag (ctxSetFlag (ctxSet { x with pmap := fs } 1 23 16 (rehome m (ctxHome { x with pmap := es }))) 6 false) 5 false) 1 false) 14 11 4 0; (sqReady c q 1 = true) ∧ (t.1.isSome = true) ∧ (natBits (listGet 0 d 0) 17 0 = n) ∧ (n < t.2.fld Reg.GRN_CAPFIRST 17 0) ∧ (natBits (listGet 0 d 0) 21 18 = 0) ∧ ((t.2.ctx n).state = 0) ∧ (ctxChainLen x ≤ 4) ∧ (ctxChainPos x ≤ ctxChainLen x) ∧ ((ctxKernel x :: chainToCome x).all (fun k => kernelValid t.2 k) = true) ∧ ((t.2.readPmap (pmapAddr x)).1 = some es) ∧ ((valid.filter (fun p => natBits (listGet 0 es p) 19 0 ≠ 0xFFFFF)).any (fun p => !pageAccepted m (listGet 0 es p)) = false) ∧ (m.allocPages (rehome m (ctxHome { x with pmap := es })) want.length = (some pages, e))) ∧
    (∃ (c : Chip) (q : Nat), let t : Option (List Nat) × Chip := (sqTaken c q).readTarget (sqCtx c q); (sqReady c q 2 = true) ∧ (t.1.isSome = true) ∧ ((t.2.ctx (sqCtx c q)).state ∈ [2])) ∧
    (∃ (c : Chip) (q : Nat), let t : Option (List Nat) × Chip := (sqTaken c q).readTarget (sqCtx c q); (sqReady c q 2 = true) ∧ (t.1.isSome = true) ∧ ((t.2.ctx (sqCtx c q)).state = 4)) ∧
    (∃ (c : Chip) (q : Nat), let t : Option (List Nat) × Chip := (sqTaken c q).readTarget (sqCtx c q); (sqReady c q 2 = true) ∧ (t.1.isSome = true) ∧ ((t.2.ctx (sqCtx c q)).state = 5)) ∧
    (∃ (c : Chip) (q : Nat), let t : Option (List Nat) × Chip := (sqTaken c q).readTarget (sqCtx c q); (sqReady c q 3 = true) ∧ (t.1.isSome = true) ∧ ((t.2.ctx (sqCtx c q)).state ∈ [1])) ∧
    (∃ (c : Chip) (q : Nat), let t : Option (List Nat) × Chip := (sqTaken c q).readTarget (sqCtx c q); (sqReady c q 3 = true) ∧ (t.1.isSome = true) ∧ ((t.2.ctx (sqCtx c q)).state = 2)) ∧
    (∃ (c : Chip) (q : Nat), let t : Option (List Nat) × Chip := (sqTaken c q).readTarget (sqCtx c q); (sqReady c q 4 = true) ∧ (t.1.isSome = true) ∧ ((t.2.ctx (sqCtx c q)).state ∈ [1, 2, 5, 6])) ∧
    (∃ (c : Chip) (q : Nat), let t : Option (List Nat) × Chip := (sqTaken c q).readTarget (sqCtx c q); (sqReady c q 4 = true) ∧ (t.1.isSome = true) ∧ ((t.2.ctx (sqCtx c q)).state = 4)) ∧
    (∃ (c : Chip) (q : Nat), let t : Option (List Nat) × Chip := (sqTaken c q).readTarget (sqCtx c q); (sqReady c q 5 = true) ∧ (t.1.isSome = true) ∧ ((t.2.ctx (sqCtx c q)).state ∈ [1, 2, 3, 4, 5, 6])) ∧
    (∃ (c : Chip) (q : Nat), let t : Option (List Nat) × Chip := (sqTaken c q).readTarget (sqCtx c q); (sqReady c q 6 = true) ∧ (t.1.isSome = true) ∧ ((t.2.ctx (sqCtx c q)).state ∈ [1, 2, 3, 4, 5, 6])) ∧
    (∃ (c : Chip) (q : Nat), let t : Option (List Nat) × Chip := (sqTaken c q).readTarget (sqCtx c q); (sqReady c q 6 = true) ∧ (t.1.isSome = true) ∧ ((t.2.ctx (sqCtx c q)).state = 0)) ∧
    (∃ (c : Chip) (q : Nat), (sqReady c q 7 = true)) ∧
    (∃ (c : Chip) (q : Nat) (op : Nat), let t : Option (List Nat) × Chip := (sqTaken c q).readTarget (sqCtx c q); (sqReady c q op = true) ∧ (op = 0 ∨ 8 ≤ op) ∧ (t.1.isSome = true)) :=
  by
  refine ⟨⟨grnChip 1 0, 0, List.replicate 128 0, [], (Chip.allocPages (Chip.readPmap (Chip.readTarget (sqTaken (grnChip 1 0) 0) 5).2 0x100003000).2 0 0).2, ?_⟩,
    ⟨grnChip 2 2, 0, ?_⟩,
    ⟨grnChip 2 4, 0, ?_⟩,
    ⟨grnChip 2 5, 0, ?_⟩,
    ⟨grnChip 3 1, 0, ?_⟩,
    ⟨grnChip 3 2, 0, ?_⟩,
    ⟨grnChip 4 1, 0, ?_⟩,
    ⟨grnChip 4 4, 0, ?_⟩,
    ⟨grnChip 5 1, 0, ?_⟩,
    ⟨grnChip 6 1, 0, ?_⟩,
    ⟨grnChip 6 0, 0, ?_⟩,
    ⟨grnChip 7 1, 0, ?_⟩,
    ⟨grnChip 9 1, 0, 9, ?_⟩⟩ <;> decide +kernel

/-- The hypotheses of `GranaryControlCommandsComplete` can be met, clause by clause. -/
theorem test_witness_GranaryControlCommandsComplete :
    (∃ (c : Chip), (portState c (regNode Reg.GRN_CTL) = 0) ∧ (c.bit Reg.GRN_CTL 0 = false) ∧ (commonReady c = true) ∧ (commonBlocked c = false) ∧ (insideCommon c (descAddr c 0) 0x1000000 = true) ∧ (insideCommon c (c.fld Reg.GRN_CAPMAP 15 0 * 2 ^ 24) (512 * (0x40000 - c.fld Reg.GRN_CAPFIRST 17 0)) = true)) ∧
    (∃ (c : Chip), let d : Chip := (c.setBit Reg.GRN_CTL 0 true).zeroCommon (descAddr c 0) 0x1000000; (portState c (regNode Reg.GRN_CTL) = 0) ∧ (c.bit Reg.GRN_CTL 0 = false) ∧ (commonReady c = true) ∧ (commonBlocked c = true) ∧ (insideCommon c (descAddr c 0) 0x1000000 = true) ∧ (insideCommon c (c.fld Reg.GRN_CAPMAP 15 0 * 2 ^ 24) (512 * (0x40000 - c.fld Reg.GRN_CAPFIRST 17 0)) = true)) ∧
    (∃ (c : Chip), (portState c (regNode Reg.GRN_CTL) = 0) ∧ (c.bit Reg.GRN_CTL 0 = false) ∧ (commonReady c = false)) ∧
    (∃ (c : Chip), let d : Chip := { (c.setBit Reg.GRN_STAT 31 true).raise 60 with grn := { ((c.setBit Reg.GRN_STAT 31 true).raise 60).grn with initLeft := false } }; (c.grn.initLeft = true) ∧ (commonReady c = true) ∧ (commonBlocked c = false)) ∧
    (∃ (c : Chip), (portState c (regNode Reg.GRN_CTL) = 0)) ∧
    (∃ (c : Chip) (b : Bool), (portState c (regNode Reg.GRN_CTL) = 0)) ∧
    (∃ (c : Chip) (r : RingId) (hi : Bool) (data : Word) (x : RegRow), let a : Nat := if hi then ringReg r + 4 else ringReg r; let d : Chip := ((c.setReg a (rowWrite x (c.reg a) data)).setFld (ringReg r + 8) 15 0 0).setFld (ringReg r + 12) 15 0 0; (portState c (regNode (ringReg r)) = 0) ∧ (ringEmpty c (ringReg r) = true) ∧ (regRow (if hi then ringReg r + 4 else ringReg r) = some x)) ∧
    (∃ (c : Chip) (r : RingId) (hi : Bool) (data : Word), (portState c (regNode (ringReg r)) = 0) ∧ (ringEmpty c (ringReg r) = false)) ∧
    (∃ (c : Chip) (n : Nat) (x : Ctx), (c.grn.ctxs = [(n, x)]) ∧ (1 ≤ x.state) ∧ (x.state ≤ 4) ∧ (ctxDeadline x ≠ 0) ∧ (ctxFlag x 5 = false) ∧ (deadlineLeft c x < 0)) ∧
    (∃ (c : Chip) (cls : Nat) (k : Candidate) (bound : List (Nat × Nat)), let d : Chip := bound.foldl (fun c b => c.bindCtx b.1 b.2) c; let e : Chip := { d with grn := { d.grn with staged := some { kernel := k.kernel, cls := cls, isPart := decide (k.fill < kernelMinFill c k.kernel), bound := bound, decl := kernelDecl c k.kernel, restart := kernelRestart c k.kernel }, gangNext := none } }; let f : Chip := (e.gangChosen cls k.kernel).stageMore; (c.bit Reg.GRN_CTL 3 = false) ∧ (c.bit Reg.GRN_STAT 31 = true) ∧ (c.grn.staged = none) ∧ (selectRound c = some (cls, k)) ∧ (placeAll c [] (k.ctxs.take k.fill) = bound)) ∧
    (∃ (c : Chip) (t : Fin 256) (m : PageMove), (c.grn.moves.find? (fun m => m.tile == t.val) = some m)) ∧
    (∃ (c : Chip) (st : Stall), (c.grn.stall = some st) ∧ (st.waits.any (fun w => c.grn.moves.any (fun m => m.tile == w.1 && m.page == w.2 && boundCtx c w.1 == some m.ctx)) = false) ∧ (st.isFault = false)) ∧
    (∃ (c : Chip) (st : Stall), let d : Chip := (c.wrapCount Reg.GRN_STALL (((c.ns - st.since) * aclkMHz c + 999) / 1000) 58).setBit Reg.GRN_STAT 28 false; (c.grn.stall = some st) ∧ (st.waits.any (fun w => c.grn.moves.any (fun m => m.tile == w.1 && m.page == w.2 && boundCtx c w.1 == some m.ctx)) = false) ∧ (st.isFault = true)) ∧
    (∃ (c : Chip) (r : Round), let d : Chip := r.bound.foldl (fun (c : Chip) b => (((c.onTile b.1 (fun x => { x with ftab := frameTableOf (c.ctx b.2) })).resetPes b.1).loadLfsr b.1).putCtx b.2 { c.ctx b.2 with state := 4, last := some r.kernel, late := 0 }) { c with grn := { c.grn with running := some { r with seqNo := c.grn.nextSeq }, staged := none, causes := [], noticeDue := false, acked := false, gangStart := false, nextSeq := (c.grn.nextSeq + 1) % 2 ^ 32 } }; let e : Chip := ((d.setFld Reg.GRN_RSTAT 9 0 r.kernel).postRound 1 { r with seqNo := c.grn.nextSeq } c.grn.nextSeq).managerSay .start; (c.grn.staged = some r) ∧ (c.grn.running = none) ∧ (stagedReady c = true) ∧ (ringFull c Reg.RQ_BASE_LO = false)) ∧
    (∃ (c : Chip) (o : Fin 4), let d : Chip := c.setFld Reg.GRN_RCTL 2 1 o.val; (portState c (regNode Reg.GRN_RCTL) = 0) ∧ (d.bit Reg.GRN_RCTL 0 = false) ∧ (d.grn.running.isSome = true) ∧ (d.fld Reg.ASQ_QSTAT 31 30 = 0) ∧ (queueIdle d = true)) ∧
    (∃ (c : Chip) (o : Fin 4), let d : Chip := c.setFld Reg.GRN_RCTL 2 1 o.val; (portState c (regNode Reg.GRN_RCTL) = 0) ∧ (d.bit Reg.GRN_RCTL 0 = false) ∧ (d.grn.running.isSome = true) ∧ (d.fld Reg.ASQ_QSTAT 31 30 = 0) ∧ (queueIdle d = false)) ∧
    (∃ (c : Chip) (o : Fin 4), let d : Chip := c.setFld Reg.GRN_RCTL 2 1 o.val; (portState c (regNode Reg.GRN_RCTL) = 0) ∧ (d.bit Reg.GRN_RCTL 0 = false) ∧ (d.grn.running = none)) ∧
    (∃ (c : Chip), (c.bit Reg.GRN_RCTL 0 = true) ∧ (c.fld Reg.ASQ_QSTAT 31 30 = 0) ∧ (queueIdle c = true)) ∧
    (∃ (c : Chip) (q : Fin 16) (e : RingEntry), (cqWaiting c q.val = [e]) ∧ (ringFull c (Reg.CQ_BASE_LO q.val) = false) ∧ (e.ctx = none)) ∧
    (∃ (c : Chip) (r : Round), (ringFull c Reg.RQ_BASE_LO = false) ∧ (c.grn.preempt = .posting) ∧ (c.grn.running = some r)) ∧
    (∃ (c : Chip), (portState c (regNode Reg.GRN_RCTL) = 0) ∧ (c.grn.preempt = .idle)) ∧
    (∃ (c : Chip) (i : Nat) (l : Bool) (r : Round), let d : Chip := { c.setBit Reg.ASQ_QSTAT 27 false with seq := { c.seq with queue := [], running := none } }; let e : Chip := if d.fld Reg.ASQ_QSTAT 31 30 = 1 then (d.setBit Reg.ASQ_FAULT 31 false).enterRest else d; let ends : List (Nat × Nat) := r.boundInOrder.map (fun b => (b.2, roundCause e false b.1 b.2)); let f : Chip := ends.foldl (fun g p => if p.2 = 0 then g.putCtx p.1 { g.ctx p.1 with late := 0, state := 2 } else (g.setCtx p.1 { g.ctx p.1 with late := 0 }).faultCtx p.1 p.2) ((e.clearRound r).withdraw); let g : Chip := f.managerSay .preempt; (portState c (regNode Reg.GRN_RCTL) = 0) ∧ (c.grn.preempt = .posted i l) ∧ (c.grn.running = some r)) ∧
    (∃ (c : Chip) (i : Nat), (c.grn.preempt = .posted i false) ∧ (i + 100000 ≤ c.ns)) ∧
    (∃ (c : Chip), (portState c (regNode Reg.GRN_RSTAT) = 0)) :=
  by
  refine ⟨⟨{ withRegs [(Reg.DRC_STAT, 2 ^ 31), (Reg.DRC_CTL, 2), (Reg.GRN_DTAB, 0x800), (Reg.GRN_CAPMAP, 0x801), (Reg.GRN_CAPFIRST, 0x3F000)] with domains := [.granary, .quadrant 0, .quadrant 1, .quadrant 2, .quadrant 3] }, ?_⟩,
    ⟨{ withRegs [(Reg.DRC_STAT, 2 ^ 31), (Reg.DRC_CTL, 2), (Reg.GRN_DTAB, 0x800), (Reg.GRN_CAPMAP, 0x801), (Reg.GRN_CAPFIRST, 0x3F000)] with domains := [.granary, .quadrant 0] }, ?_⟩,
    ⟨{ domains := [.granary] }, ?_⟩,
    ⟨{ withRegs [(Reg.DRC_STAT, 2 ^ 31), (Reg.SYS_TOL1, 99), (Reg.SYS_TOL1 + 8, 99)] with domains := [.quadrant 0, .quadrant 1, .quadrant 2, .quadrant 3], grn := { initLeft := true } }, ?_⟩,
    ⟨{ domains := [.granary] }, ?_⟩,
    ⟨{ domains := [.granary] }, true, ?_⟩,
    ⟨{ withRegs [(Reg.RQ_BASE_LO + 8, 3), (Reg.RQ_BASE_LO + 12, 3)] with domains := [.granary] }, .roundQueue, false, 0x12340, { base := 540017408, stride := 0x4, count := 1, reset := 0, rw := 0xFFFFFFF0, w1c := 0, w1s := 0, wo := 0, rc := 0, ro := 0 }, ?_⟩,
    ⟨{ withRegs [(Reg.RQ_BASE_LO + 12, 3)] with domains := [.granary] }, .roundQueue, false, 5, ?_⟩,
    ⟨{ grn := { ctxs := [(5, { state := 2, desc := [0, 0, 0, 0, 9] })] }, time := { now := 10 } }, 5, { state := 2, desc := [0, 0, 0, 0, 9] }, ?_⟩,
    ⟨{ grnChip 0 2 with grn := { ctxs := [(5, { state := 2, desc := [2 * 2 ^ 18 + 5] })] } }, 0, { kernel := 0, urgent := false, fill := 1, ctxs := [5] }, [(0, 5)], ?_⟩,
    ⟨{ grnChip 0 2 with grn := { ctxs := [(5, { state := 2, desc := [2 * 2 ^ 18 + 5] })], moves := [{ tile := 0, ctx := 5, page := 0, frame := 1, why := .declared }] } }, 0, { tile := 0, ctx := 5, page := 0, frame := 1, why := .declared }, ?_⟩,
    ⟨{ grn := { stall := some { since := 0, isFault := false, waits := [(0, 1)] } } }, { since := 0, isFault := false, waits := [(0, 1)] }, ?_⟩,
    ⟨{ ns := 5000, grn := { stall := some { since := 0, isFault := true, waits := [(0, 1)] } } }, { since := 0, isFault := true, waits := [(0, 1)] }, ?_⟩,
    ⟨{ withRegs [(Reg.RQ_BASE_LO, 5)] with grn := { ctxs := [(5, { state := 3, desc := [3 * 2 ^ 18 + 5, 1] })], staged := some round0 } }, round0, ?_⟩,
    ⟨roundChip [], 1, ?_⟩,
    ⟨{ roundChip [] with seq := { queue := [0] } }, 1, ?_⟩,
    ⟨{ domains := [.granary] }, 1, ?_⟩,
    ⟨roundChip [(Reg.GRN_RCTL, 1)], ?_⟩,
    ⟨{ withRegs [(Reg.CQ_BASE_LO 3, 5)] with grn := { cqWait := [(3, [{ w0 := 1, w1 := 2, w2 := 3 }])] } }, 3, { w0 := 1, w1 := 2, w2 := 3 }, ?_⟩,
    ⟨{ roundChip [(Reg.RQ_BASE_LO, 5)] with grn := { running := some round0, preempt := .posting } }, round0, ?_⟩,
    ⟨{ domains := [.granary] }, ?_⟩,
    ⟨{ roundChip [] with grn := { (roundChip []).grn with preempt := .posted 0 false } }, 0, false, round0, ?_⟩,
    ⟨{ ns := 100000, grn := { preempt := .posted 0 false } }, 0, ?_⟩,
    ⟨{ withRegs [(Reg.GRN_RSTAT, 0x03000001)] with domains := [.granary] }, ?_⟩⟩ <;> decide +kernel

/-- The hypotheses of `NetworkCommandsComplete` can be met, clause by clause. -/
theorem test_witness_NetworkCommandsComplete :
    (∃ (c : Chip) (n : BitVec 10) (v : Fin 4) (p : Packet), (n.toNat / 32 ≤ 17) ∧ (n.toNat % 32 ≤ 17) ∧ (draining c n.toNat = false) ∧ (p.net = 0) ∧ (pktSrc p = ownNode c n.toNat) ∧ (c.noc.asked = [])) ∧
    (∃ (c : Chip) (n : BitVec 10) (i : Nat) (v : Fin 4) (p : Packet), (c.noc.flight = [{ node := n.toNat, input := i, packet := p }]) ∧ (p.net = v.val) ∧ ((List.range p.flits.length).all (flitOk p) = true) ∧ (p.net = 2 → snpOp p < 4) ∧ (pktDest p / 1024 = c.deviceNo) ∧ (pktDest p % 1024 / 32 ≤ 17) ∧ (pktDest p % 32 ≤ 17) ∧ (n.toNat / 32 < pktDest p % 1024 / 32) ∧ (draining c (n.toNat + 32) = false)) ∧
    (∃ (c : Chip) (n : BitVec 10) (i : Nat) (v : Fin 4) (p : Packet), (c.noc.flight = [{ node := n.toNat, input := i, packet := p }]) ∧ (p.net = v.val) ∧ ((List.range p.flits.length).all (flitOk p) = true) ∧ (p.net = 2 → snpOp p < 4) ∧ (pktDest p / 1024 = c.deviceNo) ∧ (pktDest p % 1024 / 32 ≤ 17) ∧ (pktDest p % 32 ≤ 17) ∧ (n.toNat / 32 = pktDest p % 1024 / 32) ∧ (n.toNat % 32 < pktDest p % 32) ∧ (draining c (n.toNat + 1) = false)) ∧
    (∃ (c : Chip) (n : BitVec 10) (i : Nat) (v : Fin 4) (p : Packet), (c.noc.flight = [{ node := n.toNat, input := i, packet := p }]) ∧ (p.net = v.val) ∧ ((List.range p.flits.length).all (flitOk p) = false)) ∧
    (∃ (c : Chip) (n : BitVec 10) (i : Nat) (v : Fin 4) (p : Packet), (c.noc.flight = [{ node := n.toNat, input := i, packet := p }]) ∧ (p.net = v.val) ∧ ((List.range p.flits.length).all (flitOk p) = true) ∧ (p.net = 2 → snpOp p < 4) ∧ (pktDest p = ownNode c n.toNat) ∧ (hasPort n.toNat = true) ∧ (portState { c with noc := { c.noc with flight := [] } } n.toNat = 0)) ∧
    (∃ (c : Chip) (n : BitVec 10) (i : Nat) (v : Fin 4) (p : Packet), (c.noc.flight = [{ node := n.toNat, input := i, packet := p }]) ∧ (p.net = v.val) ∧ ((List.range p.flits.length).all (flitOk p) = true) ∧ (p.net = 2 → snpOp p < 4) ∧ (p.net = 0) ∧ (pktDest p = ownNode c n.toNat) ∧ (hasPort n.toNat = false)) ∧
    (∃ (c : Chip) (n : BitVec 10) (x : Arrival) (b : Nat), let p : Packet := x.packet; let size : Nat := 2 ^ reqSize p; (readyRequest c n.toNat = some x) ∧ (snoopsOut c n.toNat ≤ 61) ∧ (reqOp p = 0) ∧ (reqSize p < 7) ∧ (flitBits p 0 22 22 = 0) ∧ (n = 7) ∧ (decodeAddr (c.takeArrival x) (reqAddr p) = .dtcm b) ∧ (reqAddr p % size = 0)) ∧
    (∃ (c : Chip) (n : BitVec 10) (x : Arrival) (b : Nat), let p : Packet := x.packet; let size : Nat := 2 ^ reqSize p; let w : Resp × Chip := (c.takeArrival x).tcmWrite b (leBytes size (flitBits p 1 31 0 / 256 ^ (reqAddr p % 4))); (readyRequest c n.toNat = some x) ∧ (snoopsOut c n.toNat ≤ 61) ∧ (reqOp p = 2) ∧ (reqData p = false) ∧ (reqSize p ≤ 2) ∧ (n = 7) ∧ (decodeAddr (c.takeArrival x) (reqAddr p) = .dtcm b) ∧ (reqAddr p % size = 0)) ∧
    (∃ (c : Chip) (n : BitVec 10) (x : Arrival) (t : Nat) (h : Nat), let p : Packet := x.packet; let size : Nat := 2 ^ reqSize p; let d : Chip := (c.takeArrival x).reachLoft t; (readyRequest c n.toNat = some x) ∧ (snoopsOut c n.toNat ≤ 61) ∧ (reqOp p = 0) ∧ (reqSize p < 7) ∧ (flitBits p 0 22 22 = 0) ∧ (tileNode t = n.toNat) ∧ (decodeAddr (c.takeArrival x) (reqAddr p) = .loft t h) ∧ (reqAddr p % size = 0) ∧ (dramBlocked d t (inCommon (reqAddr p)) = false)) ∧
    (∃ (c : Chip) (n : BitVec 10) (x : Arrival), let p : Packet := x.packet; (readyRequest c n.toNat = some x) ∧ (snoopsOut c n.toNat ≤ 61) ∧ (3 ≤ reqOp p)) ∧
    (∃ (c : Chip) (n : BitVec 10) (x : Arrival) (a : Asked), (arrivalOf c n.toNat (fun p => decide (p.net = 1)) = some x) ∧ (askedFor c n.toNat (pktTag x.packet) = some a)) ∧
    (∃ (c : Chip) (n : BitVec 10) (x : Arrival) (a : Asked), let k : Chip := (c.takeArrival x).datCheck n.toNat x.packet; let b : Nat := reqAddr a.packet; let size : Nat := 2 ^ reqSize a.packet; (arrivalOf c n.toNat (fun p => decide (p.net = 3) && datRead p) = some x) ∧ (askedFor c n.toNat (pktTag x.packet) = some a)) ∧
    (∃ (c : Chip) (n : BitVec 10), (c.noc.inbox = [])) ∧
    (∃ (c : Chip) (x : Arrival) (h : Nat), (arrivalOf c 6 (fun p => decide (p.net = 2) && decide (snpOp p = 0)) = some x) ∧ (cacheHome (c.takeArrival x) (flitBits x.packet 1 36 3 * 64) = some h)) ∧
    (∃ (c : Chip) (n : Nat) (x : Arrival) (pm : Bool), (arrivalOf c 10 (fun p => decide (p.net = 2) && decide (snpOp p = if pm then 1 else 2) && ((snoopNames c pm p).contains n || (snoopNames c pm p).isEmpty)) = some x) ∧ (snoopNames c pm x.packet = [n])) ∧
    (∃ (c : Chip) (n : Nat) (pm : Bool), (c.noc.inbox = [])) ∧
    (∃ (c : Chip) (n : BitVec 10) (x : Arrival) (a : Asked), (arrivalOf c n.toNat (fun p => decide (p.net = 2) && decide (snpOp p = 3)) = some x) ∧ (c.noc.snoops.find? (fun a => decide (a.node = n.toNat) && decide (a.tag = pktTag x.packet)) = some a) ∧ (a.owes = none)) ∧
    (∃ (c : Chip) (n : BitVec 10) (x : Arrival) (a : Asked) (q : Packet), (arrivalOf c n.toNat (fun p => decide (p.net = 2) && decide (snpOp p = 3)) = some x) ∧ (c.noc.snoops.find? (fun a => decide (a.node = n.toNat) && decide (a.tag = pktTag x.packet)) = some a) ∧ (a.owes = some q)) ∧
    (∃ (c : Chip) (n : BitVec 10) (tag : BitVec 8) (a : Asked), (askedFor c n.toNat tag.toNat = some a) ∧ (a.since + Nat.max 0x10000 (c.reg Reg.NOC_TIMEOUT).toNat ≤ c.ns)) ∧
    (∃ (c : Chip) (n : BitVec 10) (x : Arrival), (arrivalOf c n.toNat (fun p => decide (p.net = 0) && reqData p && (dataFor c n.toNat p).isNone) = some x) ∧ (x.since + nocTimeout c / 2 ≤ c.ns)) ∧
    (∃ (c : Chip) (n : BitVec 10) (tag : BitVec 6) (a : Asked), (c.noc.snoops = [a]) ∧ (a.node = n.toNat) ∧ (a.tag = tag.toNat) ∧ (a.owes = none) ∧ (a.again = true) ∧ (a.since + Nat.max 0x1000 (c.fld Reg.NOC_SNP_TIMEOUT 19 0) ≤ c.ns)) ∧
    (∃ (c : Chip) (n : BitVec 10) (tag : BitVec 6) (a : Asked), (c.noc.snoops = [a]) ∧ (a.node = n.toNat) ∧ (a.tag = tag.toNat) ∧ (a.again = false) ∧ (a.since + Nat.max 0x1000 (c.fld Reg.NOC_SNP_TIMEOUT 19 0) ≤ c.ns)) :=
  by
  refine ⟨⟨{}, 6, 0, reqPacket 6 0 0 0 0 0, ?_⟩,
    ⟨flightChip 6 (reqPacket 6 70 0 0 0 0), 6, 6, 0, reqPacket 6 70 0 0 0 0, ?_⟩,
    ⟨flightChip 66 (reqPacket 6 70 0 0 0 0), 66, 66, 0, reqPacket 6 70 0 0 0 0, ?_⟩,
    ⟨flightChip 66 ({ net := 0, flits := [1, 0] }), 66, 66, 0, { net := 0, flits := [1, 0] }, ?_⟩,
    ⟨{ flightChip 10 (reqPacket 6 10 0 0 0 0) with domains := [.granary] }, 10, 10, 0, reqPacket 6 10 0 0 0 0, ?_⟩,
    ⟨flightChip 1 (reqPacket 6 1 0 0 0 0), 1, 1, 0, reqPacket 6 1 0 0 0 0, ?_⟩,
    ⟨nocChip 7 (reqPacket 6 7 0 2 0x100000 0), 7, { node := 7, since := 0, packet := reqPacket 6 7 0 2 0x100000 0 }, 0x100000, ?_⟩,
    ⟨nocChip 7 (reqPacket 6 7 2 2 0x100000 0), 7, { node := 7, since := 0, packet := reqPacket 6 7 2 2 0x100000 0 }, 0x100000, ?_⟩,
    ⟨{ withRegs [(Reg.DRC_STAT, 2 ^ 31)] with domains := [.quadrant 0, .tileLogic 0], noc := (nocChip 33 (reqPacket 6 33 0 2 0x100000000 0)).noc }, 33, { node := 33, since := 0, packet := reqPacket 6 33 0 2 0x100000000 0 }, 0, 0x100000000, ?_⟩,
    ⟨nocChip 7 (reqPacket 6 7 3 2 0x100000 0), 7, { node := 7, since := 0, packet := reqPacket 6 7 3 2 0x100000 0 }, ?_⟩,
    ⟨askChip 6 (rspTo {} 7 (reqPacket 6 7 0 2 0 3) (respErr 3)), 6, { node := 6, since := 0, packet := rspTo {} 7 (reqPacket 6 7 0 2 0 3) (respErr 3) }, asked0, ?_⟩,
    ⟨askChip 6 (datTo {} 7 (reqPacket 6 7 0 2 0 3) 0 4 (respOk 77)), 6, { node := 6, since := 0, packet := datTo {} 7 (reqPacket 6 7 0 2 0 3) 0 4 (respOk 77) }, asked0, ?_⟩,
    ⟨{}, 6, ?_⟩,
    ⟨{ nocChip 6 (snpPacket 70 6 0 9) with core := { resv := some (0x100000000 / 64) } }, { node := 6, since := 0, packet := snpPacket 70 6 0 9 }, 0x100000000, ?_⟩,
    ⟨{ grnChip 0 2 with noc := (nocChip 10 descPacket).noc }, 5, { node := 10, since := 0, packet := descPacket }, false, ?_⟩,
    ⟨{}, 5, false, ?_⟩,
    ⟨{ nocChip 70 (ackTo {} 6 (snpPacket 70 6 0 9)) with noc := { (nocChip 70 (ackTo {} 6 (snpPacket 70 6 0 9))).noc with snoops := [snoop0 false] } }, 70, { node := 70, since := 0, packet := ackTo {} 6 (snpPacket 70 6 0 9) }, snoop0 false, ?_⟩,
    ⟨{ nocChip 70 (ackTo {} 6 (snpPacket 70 6 0 9)) with noc := { (nocChip 70 (ackTo {} 6 (snpPacket 70 6 0 9))).noc with snoops := [{ snoop0 false with owes := some descPacket }] } }, 70, { node := 70, since := 0, packet := ackTo {} 6 (snpPacket 70 6 0 9) }, { snoop0 false with owes := some descPacket }, descPacket, ?_⟩,
    ⟨{ withRegs [(Reg.NOC_TIMEOUT, 9)] with ns := 0x10000, noc := { asked := [asked0] } }, 6, 2, asked0, ?_⟩,
    ⟨{ nocChip 7 (reqPacket 6 7 2 2 0x100000 3) with ns := 1000000 }, 7, { node := 7, since := 0, packet := reqPacket 6 7 2 2 0x100000 3 }, ?_⟩,
    ⟨{ withRegs [(Reg.NOC_SNP_TIMEOUT, 9)] with ns := 0x1000, noc := { snoops := [snoop0 true] } }, 70, 9, snoop0 true, ?_⟩,
    ⟨{ withRegs [(Reg.NOC_SNP_TIMEOUT, 9)] with ns := 0x1000, noc := { snoops := [snoop0 false] } }, 70, 9, snoop0 false, ?_⟩⟩ <;> decide +kernel

/-- The hypotheses of `DebugRowsComplete` can be met, clause by clause. -/
theorem test_witness_DebugRowsComplete :
    (∃ (c : Chip) (who : Initiator) (a : Addr) (v : Word) (r : RegRow), (decodeAddr c a.toNat = .register a.toNat) ∧ (targetNode (.register a.toNat) = some (regNode a.toNat)) ∧ (a.toNat % 4 = 0) ∧ (regBlock a.toNat ≠ 17) ∧ (portState c (regNode a.toNat) = 0) ∧ (nodeTile (regNode a.toNat) = none) ∧ (regRefused who a.toNat true = false) ∧ (inSnapshot a.toNat = false) ∧ (regRow a.toNat = some r)) ∧
    (∃ (c : Chip) (who : Initiator) (a : Addr) (v : Word), (decodeAddr c a.toNat = .nothing)) ∧
    (∃ (c : Chip) (who : Initiator) (v : Word), (who ∈ [Initiator.core, Initiator.host, Initiator.debugger]) ∧ (portState c (regNode Reg.EVT_DOORBELL) = 0)) ∧
    (∃ (c : Chip) (who : Initiator) (v : Word), (who ∉ [Initiator.core, Initiator.host, Initiator.debugger]) ∧ (portState c (regNode Reg.EVT_DOORBELL) = 0)) ∧
    (∃ (c : Chip) (who : Initiator) (i : Nat) (j : Nat) (rest : List (Nat × Nat)), (portState c (regNode Reg.ODE_WLOG) = 0) ∧ (c.od.wlog = (i, j) :: rest)) ∧
    (∃ (c : Chip) (who : Initiator), (portState c (regNode Reg.ODE_WLOG) = 0) ∧ (c.od.wlog = [])) ∧
    (∃ (c : Chip) (who : Initiator), (portState c (regNode Reg.ODE_STAT) = 0)) ∧
    (∃ (c : Chip) (w : Bool) (off : BitVec 20) (v : Word), (portLevel c 0 < dbgLevel off.toNat w)) ∧
    (∃ (c : Chip) (off : BitVec 20) (v : Word) (r : RegRow), (dbgLevel off.toNat false ≤ portLevel c 0) ∧ (off.toNat % 4 = 0) ∧ (off.toNat ∉ [0x114, 0x2000, 0x80C]) ∧ (regRow (0x21100000 + off.toNat) = some r)) ∧
    (∃ (c : Chip) (off : BitVec 20) (v : Word) (r : RegRow), let d : Chip := c.setReg (0x21100000 + off.toNat) (rowWrite r (c.reg (0x21100000 + off.toNat)) v); (dbgLevel off.toNat true ≤ portLevel c 0) ∧ (off.toNat % 4 = 0) ∧ (off.toNat ∉ [4, 0x100, 0x114, 0x200]) ∧ (off.toNat < 0x700 ∨ 0x780 ≤ off.toNat ∧ off.toNat < 0x1000 ∨ 0x1404 ≤ off.toNat ∧ off.toNat < 0x2000) ∧ (regRow (0x21100000 + off.toNat) = some r)) ∧
    (∃ (c : Chip) (w : Bool) (off : BitVec 20) (v : Word), (dbgLevel off.toNat w ≤ portLevel c 0) ∧ (off.toNat % 4 ≠ 0 ∨ regRow (0x21100000 + off.toNat) = none)) ∧
    (∃ (c : Chip) (p : Fin 3), (portLevel c p.val < 2)) ∧
    (∃ (c : Chip) (p : Fin 3), (2 ≤ portLevel c p.val) ∧ (coreAlive c = true) ∧ (coreHalted c = false) ∧ (lockedUp c = false) ∧ (c.core.load = none)) ∧
    (∃ (c : Chip) (p : Fin 3), (2 ≤ portLevel c p.val) ∧ (coreHalted c = true) ∧ (lockedUp c = false)) ∧
    (∃ (c : Chip) (p : Fin 3), (2 ≤ portLevel c p.val) ∧ (coreHalted c = true) ∧ (lockedUp c = false)) ∧
    (∃ (c : Chip) (p : Fin 3), (2 ≤ portLevel c p.val)) ∧
    (∃ (c : Chip) (p : Fin 3), let d : Chip := Chip.endStep { c with seq := { c.seq with debugHalt := false } }; (2 ≤ portLevel c p.val) ∧ (c.seq.debugHalt = true) ∧ (queueState c = 3) ∧ (c.seq.powerStop = false)) ∧
    (∃ (c : Chip) (p : Fin 3), (2 ≤ portLevel c p.val) ∧ (c.seq.debugHalt = true) ∧ (queueState c = 1)) ∧
    (∃ (c : Chip) (p : Fin 3), (2 ≤ portLevel c p.val) ∧ (queueState c = 3) ∧ (c.seq.debugHalt = true) ∧ (c.seq.powerStop = false) ∧ (c.seq.running = none) ∧ (c.seq.queue ≠ []) ∧ (c.bit Reg.ASQ_QSTAT 29 = true) ∧ (c.bit Reg.ASQ_QSTAT 28 = false) ∧ (aclkRuns c = true)) ∧
    (∃ (c : Chip) (p : Fin 3) (r : RegRow), let a : Nat := dbmAddr c; (3 ≤ portLevel c p.val) ∧ (c.fld Reg.DBG_DBM_CTL 26 24 = 2) ∧ (c.bit Reg.DBG_DBM_CTL 27 = false) ∧ (c.bit Reg.DBG_DBM_CTL 28 = false) ∧ (decodeAddr c a = .register a) ∧ (targetNode (.register a) = some (regNode a)) ∧ (a % 4 = 0) ∧ (portState c (regNode a) = 0) ∧ (nodeTile (regNode a) = none) ∧ (inSnapshot a = false) ∧ (regRow a = some r) ∧ (regRefused .debugger a false = false)) ∧
    (∃ (c : Chip) (p : Fin 3) (r : RegRow), let a : Nat := dbmAddr c; (3 ≤ portLevel c p.val) ∧ (c.fld Reg.DBG_DBM_CTL 26 24 = 2) ∧ (c.bit Reg.DBG_DBM_CTL 27 = true) ∧ (c.bit Reg.DBG_DBM_CTL 28 = true) ∧ (decodeAddr c a = .register a) ∧ (targetNode (.register a) = some (regNode a)) ∧ (a % 4 = 0) ∧ (portState c (regNode a) = 0) ∧ (nodeTile (regNode a) = none) ∧ (inSnapshot a = false) ∧ (regRow a = some r) ∧ (regRefused .debugger a true = false)) ∧
    (∃ (c : Chip) (p : Fin 3), (3 ≤ portLevel c p.val) ∧ (c.fld Reg.DBG_DBM_CTL 26 24 = 2) ∧ (c.bit Reg.DBG_DBM_CTL 27 = true) ∧ (c.bit Reg.DBG_DBM_CTL 28 = false) ∧ (decodeAddr c (dbmAddr c) = .nothing)) ∧
    (∃ (c : Chip) (p : Fin 3), (portLevel c p.val < 3)) ∧
    (∃ (c : Chip) (p : Fin 3), let n : Nat := c.fld Reg.DBG_PMEM_SEL 9 0; let v : Plane := planeAt (c.tile (pmemTile c)) n; (3 ≤ portLevel c p.val) ∧ (retired c (pmemTile c) = false) ∧ (portState c (tileNode (pmemTile c)) = 0) ∧ (c.bit Reg.DBG_PMEM_SEL 31 = false)) ∧
    (∃ (c : Chip) (p : Fin 3) (v : Word), let b : Chip := { c with dbg := { c.dbg with pmem := mapSet 0 c.dbg.pmem 127 v } }; (3 ≤ portLevel c p.val) ∧ (queueState b = 3) ∧ (retired b (pmemTile b) = false) ∧ (portState b (tileNode (pmemTile b)) = 0) ∧ (b.bit Reg.DBG_PMEM_SEL 31 = false)) :=
  by
  refine ⟨⟨{}, .core, 0x20000260, 7, { base := 0x20000260, stride := 4, count := 1, reset := 0x1E0, rw := 0x1FF, w1c := 0, w1s := 0, wo := 0, rc := 0, ro := 0 }, ?_⟩,
    ⟨{}, .core, 0x01000000, 7, ?_⟩,
    ⟨{}, .host, 0x81, ?_⟩,
    ⟨{}, .engine, 0x81, ?_⟩,
    ⟨{ od := { wlog := [(0x2010, 1), (0x2011, 0)] } }, .core, 0x2010, 1, [(0x2011, 0)], ?_⟩,
    ⟨{}, .core, ?_⟩,
    ⟨withRegs [(Reg.ODE_STAT, 2 ^ 31 + 0x70001)], .core, ?_⟩,
    ⟨{}, true, 0x100, 1, ?_⟩,
    ⟨portChip 2 [], 0x104, 1, (regRow 0x21100104).getD ⟨0, 0, 0, 0, 0, 0, 0, 0, 0, 0⟩, ?_⟩,
    ⟨portChip 3 [], 0x20C, 77, (regRow 0x2110020C).getD ⟨0, 0, 0, 0, 0, 0, 0, 0, 0, 0⟩, ?_⟩,
    ⟨{}, true, 0x1800, 1, ?_⟩,
    ⟨{}, 1, ?_⟩,
    ⟨portChip 2 [(Reg.SYS_DCORE, 0)], 1, ?_⟩,
    ⟨portChip 2 [], 1, ?_⟩,
    ⟨portChip 2 [], 1, ?_⟩,
    ⟨portChip 2 [], 1, ?_⟩,
    ⟨{ portChip 2 [(Reg.ASQ_QSTAT, 3 * 2 ^ 30)] with seq := { debugHalt := true } }, 1, ?_⟩,
    ⟨{ portChip 2 [(Reg.ASQ_QSTAT, 2 ^ 30)] with seq := { debugHalt := true } }, 1, ?_⟩,
    ⟨{ portChip 2 [(Reg.ASQ_QSTAT, 3 * 2 ^ 30 + 2 ^ 29)] with seq := { debugHalt := true, queue := [0] } }, 1, ?_⟩,
    ⟨portChip 3 [(Reg.DBG_DBM_CTL, 2 * 2 ^ 24), (Reg.DBG_DBM_ADDR_LO, 0x20000260), (Reg.SYS_PCAP, 9)], 1, (regRow 0x20000260).getD ⟨0, 0, 0, 0, 0, 0, 0, 0, 0, 0⟩, ?_⟩,
    ⟨portChip 3 [(Reg.DBG_DBM_CTL, 2 * 2 ^ 24 + 3 * 2 ^ 27), (Reg.DBG_DBM_ADDR_LO, 0x20000260), (Reg.DBG_DBM_DATA, 9)], 1, (regRow 0x20000260).getD ⟨0, 0, 0, 0, 0, 0, 0, 0, 0, 0⟩, ?_⟩,
    ⟨portChip 3 [(Reg.DBG_DBM_CTL, 2 * 2 ^ 24 + 2 ^ 27), (Reg.DBG_DBM_ADDR_LO, 0x1000000)], 1, ?_⟩,
    ⟨{}, 1, ?_⟩,
    ⟨{ portChip 3 [] with domains := [.tileLogic 0], tiles := [(0, { planes := [(0, 5)] })] }, 1, ?_⟩,
    ⟨{ portChip 3 [(Reg.ASQ_QSTAT, 3 * 2 ^ 30)] with domains := [.tileLogic 0] }, 1, 9, ?_⟩⟩ <;> decide +kernel

/-- The hypotheses of `DictionaryMessagesComplete` can be met, clause by clause. -/
theorem test_witness_DictionaryMessagesComplete :
    (∃ (c : Chip) (mac : Nat) (src : List Byte) (m : List Byte), let b : Chip := { c with od := { c.od with jobs := [] } }; let via : OdVia := .udp mac src; let a : SealAnswer := sessionOpen b (wordsOfBytes (msgBody m)); (c.od.jobs = [.message (.udp mac src) m]) ∧ (msgOp m = 1) ∧ ((msgBody m).length = 16) ∧ (sealServes b = true)) ∧
    (∃ (c : Chip) (mac : Nat) (src : List Byte) (m : List Byte) (fas : List Byte) (ids : List Nat), let b : Chip := { c with od := { c.od with jobs := [] } }; let id : Nat := listGet 0 ids (b.drawFree.1.toNat % ids.length); let ns : List Byte × Chip := b.drawFree.2.drawBytes 16; let nc : List Byte := argBytes (wordsOfBytes (msgBody m)) 0 4; let key : List Byte := (leBytes 64 (Config.hmac512 fas ([0x53, 0x4C, 0x4E, 0x31] ++ otpSerial b ++ nc ++ ns.1)).toNat).take 32; let e : Chip := ns.2.putSession id { nc := nc, ns := ns.1, key := key, since := b.ns }; (c.od.jobs = [.message (.udp mac src) m]) ∧ (msgOp m = 1) ∧ ((msgBody m).length = 16) ∧ (sealServes b = true) ∧ (b.su.priv.fas = some fas) ∧ (b.su.lockedAt = none) ∧ ((List.range 16).filter (fun i => (sessionOf b i).isNone) = ids) ∧ (ids ≠ [])) ∧
    (∃ (c : Chip) (mac : Nat) (src : List Byte) (m : List Byte) (x : Session), let b : Chip := { c with od := { c.od with jobs := [] } }; let d : Chip := b.putSession (msgSid m) { x with isOpen := true, since := b.ns }; (c.od.jobs = [.message (.udp mac src) m]) ∧ (msgOp m = 2) ∧ ((msgBody m).length = 16) ∧ (sealServes b = true) ∧ (sessionOf b (msgSid m) = some x) ∧ (x.isOpen = false) ∧ (mac16 x.key (1 :: (x.nc ++ x.ns)) = argBytes (msgSid m :: wordsOfBytes (msgBody m)) 1 4)) ∧
    (∃ (c : Chip) (mac : Nat) (src : List Byte) (m : List Byte), let b : Chip := { c with od := { c.od with jobs := [] } }; let via : OdVia := .udp mac src; let a : SealAnswer := sessionAuth b (msgSid m :: wordsOfBytes (msgBody m)); (c.od.jobs = [.message (.udp mac src) m]) ∧ (msgOp m = 2) ∧ ((msgBody m).length = 16) ∧ (sealServes b = true)) ∧
    (∃ (c : Chip) (mac : Nat) (src : List Byte) (m : List Byte), let b : Chip := { c with od := { c.od with jobs := [] } }; let via : OdVia := .udp mac src; (c.od.jobs = [.message (.udp mac src) m]) ∧ (msgOp m = 3) ∧ ((sessionOf b (msgSid m)).isSome = true)) ∧
    (∃ (c : Chip) (mac : Nat) (src : List Byte) (m : List Byte), let b : Chip := { c with od := { c.od with jobs := [] } }; let via : OdVia := .udp mac src; let v : List Byte := odHeld b (bytesNat (msgBody m) 0 2) (bytesNat (msgBody m) 2 1); (c.od.jobs = [.message (.udp mac src) m]) ∧ (msgOp m = 0x10) ∧ ((msgBody m).length = 12) ∧ ((sessionOf b (msgSid m)).isSome = true) ∧ (inWorkerWindow b (bytesNat (msgBody m) 0 2) = false) ∧ ((odRow b (bytesNat (msgBody m) 0 2) (bytesNat (msgBody m) 2 1)).any (fun r => decide (r.back = .held ∧ r.acc ≠ .wo)) = true)) ∧
    (∃ (c : Chip) (mac : Nat) (src : List Byte) (m : List Byte), let b : Chip := { c with od := { c.od with jobs := [] } }; let via : OdVia := .udp mac src; let r : OdRights := rightsOf via (msgSid m); let i : Nat := bytesNat (msgBody m) 0 2; let j : Nat := bytesNat (msgBody m) 2 1; let d : List Byte := (msgBody m).drop 8; let w : OdRow := (odRow b i j).getD { size := 0 }; (c.od.jobs = [.message (.udp mac src) m]) ∧ (msgOp m = 0x11) ∧ (c.bit Reg.ODE_STAT 30 = false) ∧ (rsaTaken c = false) ∧ (8 ≤ (msgBody m).length) ∧ ((sessionOf b (msgSid m)).isSome = true) ∧ (bytesNat (msgBody m) 3 1 % 2 = 1) ∧ (bytesNat (msgBody m) 4 4 = 0) ∧ (odPasses b r i j d = true) ∧ ((odRow b i j).isSome = true) ∧ (firmwareBacked i j w = true) ∧ ((b.odPerform r i j w d).1 = 0) ∧ (b.od.writes = [])) ∧
    (∃ (c : Chip) (mac : Nat) (src : List Byte) (m : List Byte), let b : Chip := { c with od := { c.od with jobs := [] } }; let via : OdVia := .udp mac src; let k : Nat := clientOf via (msgSid m); (c.od.jobs = [.message (.udp mac src) m]) ∧ (msgOp m = 0x11) ∧ (c.bit Reg.ODE_STAT 30 = false) ∧ (8 ≤ (msgBody m).length) ∧ ((sessionOf b (msgSid m)).isSome = true) ∧ (bytesNat (msgBody m) 3 1 % 2 = 0) ∧ (bytesNat (msgBody m) 4 4 = 0) ∧ ((b.od.writes.filter (fun w => decide (w.client ≠ k))).length < 16)) ∧
    (∃ (c : Chip) (mac : Nat) (src : List Byte) (m : List Byte), let b : Chip := { c with od := { c.od with jobs := [] } }; let via : OdVia := .udp mac src; let x : Nat × List Byte × Chip := b.odRead none (bytesNat (msgBody m) 0 2) (bytesNat (msgBody m) 2 1); (c.od.jobs = [.message (.udp mac src) m]) ∧ (msgOp m = 0x10) ∧ ((msgBody m).length = 12) ∧ ((sessionOf b (msgSid m)).isSome = true)) ∧
    (∃ (c : Chip) (mac : Nat) (src : List Byte) (m : List Byte), let b : Chip := { c with od := { c.od with jobs := [] } }; let via : OdVia := .udp mac src; let x : Nat × Chip := b.odSegment (rightsOf via (msgSid m)) (clientOf via (msgSid m)) (bytesNat (msgBody m) 0 2) (bytesNat (msgBody m) 2 1) (bytesNat (msgBody m) 3 1 % 2 = 1) (bytesNat (msgBody m) 4 4) ((msgBody m).drop 8); (c.od.jobs = [.message (.udp mac src) m]) ∧ (msgOp m = 0x11) ∧ (c.bit Reg.ODE_STAT 30 = false) ∧ (rsaTaken c = false) ∧ (8 ≤ (msgBody m).length) ∧ ((sessionOf b (msgSid m)).isSome = true)) ∧
    (∃ (c : Chip) (mac : Nat) (src : List Byte) (m : List Byte), let b : Chip := { c with od := { c.od with jobs := [] } }; let via : OdVia := .udp mac src; (c.od.jobs = [.message (.udp mac src) m]) ∧ (msgOp m ∉ [1, 2, 3, 0x10, 0x11]) ∧ ((sessionOf b (msgSid m)).isSome = true)) ∧
    (∃ (c : Chip) (k : Fin 2) (d : OdDatagram) (rest : List OdDatagram) (e : Chip), ((ethMac c k.val).odq = d :: rest) ∧ ((c.onMac k.val (fun x => { x with odq := rest })).odCheck false d.payload = (.drop, e))) ∧
    (∃ (c : Chip) (k : Fin 2) (d : OdDatagram) (rest : List OdDatagram) (e : Chip), ((ethMac c k.val).odq = d :: rest) ∧ ((c.onMac k.val (fun x => { x with odq := rest })).odCheck false d.payload = (.take, e))) ∧
    (∃ (c : Chip) (n : Fin 128) (m : List Byte), let x : Nat × Chip := c.odSegment { client := some n.val } (32 + n.val) 0x5F10 0 true 0 m; (odFree c = true)) :=
  by
  refine ⟨⟨{ sessionChip true with od := { jobs := [.message (.udp 0 []) ([0, 0, 0, 1, 0, 0, 16, 0] ++ List.replicate 16 0 ++ [0, 0, 0, 0, 0, 0, 0, 0, 0, 0, 0, 0, 0, 0, 0, 0])] } }, 0, [], [0, 0, 0, 1, 0, 0, 16, 0] ++ List.replicate 16 0 ++ [0, 0, 0, 0, 0, 0, 0, 0, 0, 0, 0, 0, 0, 0, 0, 0], ?_⟩,
    ⟨{ sessionChip true with od := { jobs := [.message (.udp 0 []) ([0, 0, 0, 1, 0, 0, 16, 0] ++ List.replicate 32 0)] }, su := { (sessionChip true).su with priv := { (sessionChip true).su.priv with fas := some [1] } } }, 0, [], [0, 0, 0, 1, 0, 0, 16, 0] ++ List.replicate 32 0, [1], [1, 2, 3, 4, 5, 6, 7, 8, 9, 10, 11, 12, 13, 14, 15], ?_⟩,
    ⟨{ sessionChip false with od := { jobs := [.message (.udp 0 []) authMsg] } }, 0, [], authMsg, { isOpen := false, nc := [], ns := [], key := [], since := 0 }, ⟨rfl, by decide +kernel, by decide +kernel, by decide +kernel, by decide +kernel, rfl, authMsg_proof⟩⟩,
    ⟨{ sessionChip false with od := { jobs := [.message (.udp 0 []) ([0, 0, 0, 2, 0, 0, 16, 0] ++ List.replicate 16 0 ++ [0, 0, 0, 0, 0, 0, 0, 0, 0, 0, 0, 0, 0, 0, 0, 0])] } }, 0, [], [0, 0, 0, 2, 0, 0, 16, 0] ++ List.replicate 16 0 ++ [0, 0, 0, 0, 0, 0, 0, 0, 0, 0, 0, 0, 0, 0, 0, 0], ?_⟩,
    ⟨{ sessionChip true with od := { jobs := [.message (.udp 0 []) ([0, 0, 0, 3, 0, 0, 0, 0] ++ List.replicate 16 0 ++ [])] } }, 0, [], [0, 0, 0, 3, 0, 0, 0, 0] ++ List.replicate 16 0 ++ [], ?_⟩,
    ⟨{ sessionChip true with od := { jobs := [.message (.udp 0 []) ([0, 0, 0, 16, 0, 0, 12, 0] ++ List.replicate 16 0 ++ [23, 16, 0, 0, 0, 0, 0, 0, 4, 0, 0, 0])] } }, 0, [], [0, 0, 0, 16, 0, 0, 12, 0] ++ List.replicate 16 0 ++ [23, 16, 0, 0, 0, 0, 0, 0, 4, 0, 0, 0], ?_⟩,
    ⟨{ sessionChip true with od := { jobs := [.message (.udp 0 []) ([0, 0, 0, 17, 0, 0, 10, 0] ++ List.replicate 16 0 ++ [23, 16, 0, 1, 0, 0, 0, 0, 5, 0])] } }, 0, [], [0, 0, 0, 17, 0, 0, 10, 0] ++ List.replicate 16 0 ++ [23, 16, 0, 1, 0, 0, 0, 0, 5, 0], ?_⟩,
    ⟨{ sessionChip true with od := { jobs := [.message (.udp 0 []) ([0, 0, 0, 17, 0, 0, 10, 0] ++ List.replicate 16 0 ++ [23, 16, 0, 0, 0, 0, 0, 0, 5, 0])] } }, 0, [], [0, 0, 0, 17, 0, 0, 10, 0] ++ List.replicate 16 0 ++ [23, 16, 0, 0, 0, 0, 0, 0, 5, 0], ?_⟩,
    ⟨{ sessionChip true with od := { jobs := [.message (.udp 0 []) ([0, 0, 0, 16, 0, 0, 12, 0] ++ List.replicate 16 0 ++ [0, 16, 0, 0, 0, 0, 0, 0, 4, 0, 0, 0])] } }, 0, [], [0, 0, 0, 16, 0, 0, 12, 0] ++ List.replicate 16 0 ++ [0, 16, 0, 0, 0, 0, 0, 0, 4, 0, 0, 0], ?_⟩,
    ⟨{ sessionChip true with od := { jobs := [.message (.udp 0 []) ([0, 0, 0, 17, 0, 0, 10, 0] ++ List.replicate 16 0 ++ [23, 16, 0, 1, 0, 0, 0, 0, 5, 0])] } }, 0, [], [0, 0, 0, 17, 0, 0, 10, 0] ++ List.replicate 16 0 ++ [23, 16, 0, 1, 0, 0, 0, 0, 5, 0], ?_⟩,
    ⟨{ sessionChip true with od := { jobs := [.message (.udp 0 []) ([0, 0, 0, 32, 0, 0, 0, 0] ++ List.replicate 16 0 ++ [])] } }, 0, [], [0, 0, 0, 32, 0, 0, 0, 0] ++ List.replicate 16 0 ++ [], ?_⟩,
    ⟨{ eth := [(0, { odq := [{ mac := 0, src := [], payload := [1] }] })] }, 0, { mac := 0, src := [], payload := [1] }, [], {}, ?_⟩,
    ⟨{ eth := [(0, { odq := [openMsg] })] }, 0, openMsg, [], {}, ?_⟩,
    ⟨{}, 5, [1], ?_⟩⟩ <;> decide +kernel

/-- The hypotheses of `DictionaryWritesComplete` can be met, clause by clause. -/
theorem test_witness_DictionaryWritesComplete :
    (∃ (c : Chip) (s : Option (Fin 16)) (m : Byte), let r : OdRights := odBrings c (s.map Fin.val) false; (odFree c = true) ∧ (odPasses c r 0x2000 0 [m] = true)) ∧
    (∃ (c : Chip) (s : Option (Fin 16)) (m : Byte), (odFree c = true) ∧ (stagesWrites c (odBrings c (s.map Fin.val) false) = false) ∧ (m.toNat > 5)) ∧
    (∃ (c : Chip) (v : Byte), let r : OdRights := odBrings c (none) false; (odFree c = true) ∧ (odPasses c r 0x3200 0x0A [v] = true)) ∧
    (∃ (c : Chip) (k : Fin 16) (d : List Byte), let r : OdRights := odBrings c (some k.val) false; (odFree c = true) ∧ (rsaTaken c = false) ∧ (odPasses c r 0x4401 0 d = true)) ∧
    (∃ (c : Chip) (k : Fin 16) (d : List Byte), (odFree c = true) ∧ (rsaTaken c = false) ∧ (odBrings c (some k.val) false = {}) ∧ (d.length ≤ 0x100000)) ∧
    (∃ (c : Chip) (k : Fin 16) (d : List Byte), let r : OdRights := odBrings c (some k.val) false; (odFree c = true) ∧ (rsaTaken c = false) ∧ (odPasses c r 0x5400 0 d = true)) ∧
    (∃ (c : Chip) (k : Fin 16) (d : List Byte), (c.od.jobs = []) ∧ (rsaTaken c = true) ∧ (inService c = true)) ∧
    (∃ (c : Chip) (k : Fin 16) (v : Word), let r : OdRights := odBrings c (some k.val) false; (odFree c = true) ∧ (odPasses c r 0x1010 1 (leBytes 4 v.toNat) = true) ∧ (v = 0x65766173) ∧ (c.silo.capsule = none)) ∧
    (∃ (c : Chip) (k : Fin 16) (v : Word), let r : OdRights := odBrings c (some k.val) false; (odFree c = true) ∧ (odPasses c r 0x1010 1 (leBytes 4 v.toNat) = true) ∧ (v ≠ 0x65766173) ∧ (c.silo.capsule = none)) ∧
    (∃ (c : Chip) (k : Fin 16) (v : Word), let r : OdRights := odBrings c (some k.val) false; (odFree c = true) ∧ (odPasses c r 0x1010 1 (leBytes 4 v.toNat) = true) ∧ (c.silo.capsule.isSome = true)) ∧
    (∃ (c : Chip) (k : Fin 16) (v : Word), let r : OdRights := odBrings c (some k.val) false; (odFree c = true) ∧ (odPasses c r 0x1011 1 (leBytes 4 v.toNat) = true) ∧ (v = 0x64616F6C) ∧ (c.silo.capsule = none)) ∧
    (∃ (c : Chip) (k : Fin 16) (rs : List (BitVec 64)), let r : OdRights := odBrings c (some k.val) true; let x : List Byte × Chip := c.odDebug rs.length (rs.flatMap (fun r => leBytes 8 r.toNat)); (odFree c = true) ∧ (odPasses c r 0x5F20 0 (rs.flatMap (fun r => leBytes 8 r.toNat)) = true)) ∧
    (∃ (c : Chip) (k : Fin 16) (op : Byte), let r : OdRights := odBrings c (some k.val) false; (odFree c = true) ∧ (odPasses c r 0x5F30 1 [op] = true) ∧ (c.isOn .silo = true) ∧ (c.silo.capsule = none) ∧ ((c.txCmd op.toNat).fld Reg.SILO_TXSTAT 23 16 = 0)) ∧
    (∃ (c : Chip) (s : Option (Fin 16)) (i : BitVec 16) (b : Byte) (w : Option (List Byte)), (i.toNat < 0x6000 ∨ 0xA000 ≤ i.toNat)) ∧
    (∃ (c : Chip) (s : Option (Fin 16)) (i : BitVec 16) (b : Byte), (c.od.jobs = []) ∧ (0x6000 ≤ i.toNat) ∧ (i.toNat < 0xA000) ∧ (isManager c = true) ∧ (odNat c 0x2F00 0 = 0)) ∧
    (∃ (c : Chip) (s : Option (Fin 16)) (i : BitVec 16) (b : Byte) (d : List Byte), (odFree c = true) ∧ (0x6000 ≤ i.toNat) ∧ (i.toNat < 0xA000) ∧ (isManager c = true) ∧ (stagesWrites c (odBrings c (s.map Fin.val) false) = false) ∧ (workerAbort c (odNat c 0x2F00 0) = 0)) ∧
    (∃ (c : Chip) (s : Option (Fin 16)) (i : BitVec 16) (b : Byte), (c.od.jobs = []) ∧ (0x6000 ≤ i.toNat) ∧ (i.toNat < 0xA000) ∧ (isManager c = false) ∧ (c.bit Reg.SPIN_STAT 30 = true)) ∧
    (∃ (c : Chip) (s : Option (Fin 16)) (i : BitVec 16) (b : Byte) (d : List Byte), (odFree c = true) ∧ (rsaTaken c = false) ∧ (0x6000 ≤ i.toNat) ∧ (i.toNat < 0xA000) ∧ (isManager c = false) ∧ (c.bit Reg.SPIN_STAT 30 = true)) ∧
    (∃ (c : Chip) (st : Fin 32), let a : Nat := Reg.CAP_SCTL st.val; let b : Chip := { c with od := { c.od with restarts := c.od.restarts.filter (fun x => decide (x ≠ st.val)) } }; let d : Chip := (((b.disableStream st.val).setFld a 27 24 (streamObj c st.val 2)).setFld a 23 22 (streamObj c st.val 3)).setBit a 31 true; (c.od.restarts.contains st.val = true) ∧ (streamOn c st.val = true) ∧ (streamObj c st.val 1 = 1)) ∧
    (∃ (c : Chip) (es : List TxEntry), let b : Chip := (c.applyEntries 0 es); let tai : Nat := match txHeader c with | some h => h.tai | none => 0; let d : Chip := ((b.putTxHeader 2 es.length c.silo.txseq tai).setFld Reg.SILO_TXSTAT 31 30 0).setBit Reg.ODE_STAT 30 false; (c.silo.txApply = some es)) ∧
    (∃ (c : Chip), let r : List StoreRecord × Chip := Chip.storeRead { c with od := { c.od with objects := [] } }; let x : Nat × Chip := r.2.applyRecords r.1; (c.bit Reg.SILO_STAT 31 = true) ∧ (c.bit Reg.ODE_STAT 31 = false)) :=
  by
  refine ⟨⟨{}, none, 0, ?_⟩,
    ⟨{}, none, 6, ?_⟩,
    ⟨{}, 1, ?_⟩,
    ⟨serviceChip, 0, [1], ?_⟩,
    ⟨{}, 0, [1], ?_⟩,
    ⟨serviceChip, 0, [1], ?_⟩,
    ⟨{ serviceChip with ev := { due := true } }, 0, [1], ?_⟩,
    ⟨sessionChip true, 0, 0x65766173, ?_⟩,
    ⟨sessionChip true, 0, 7, ?_⟩,
    ⟨{ sessionChip true with silo := { capsule := some { cause := 3, lossTai := 0 } } }, 0, 0x65766173, ?_⟩,
    ⟨sessionChip true, 0, 0x64616F6C, ?_⟩,
    ⟨serviceChip, 0, [2 ^ 52], ?_⟩,
    ⟨siloChip, 0, 1, ?_⟩,
    ⟨{}, none, 0, 0, none, ?_⟩,
    ⟨withRegs [(Reg.SPIN_STAT, 2 ^ 31)], none, 0x6000, 0, ?_⟩,
    ⟨{ withRegs [(Reg.SPIN_STAT, 2 ^ 31 + 2)] with od := { objects := [(0x2F0000, [1])] }, spin := { map := 3 } }, none, 0x6000, 0, [1], ?_⟩,
    ⟨withRegs [(Reg.SPIN_STAT, 2 ^ 30)], none, 0x6F00, 0, ?_⟩,
    ⟨withRegs [(Reg.SPIN_STAT, 2 ^ 30)], some 0, 0x6F00, 0, [1], ?_⟩,
    ⟨{ withRegs [(Reg.CAP_SCTL 1, 2 ^ 31 + 5 * 2 ^ 24)] with od := { restarts := [1], objects := [(0x300101, [1])] } }, 1, ?_⟩,
    ⟨{ silo := { txApply := some [] } }, [], ?_⟩,
    ⟨withRegs [(Reg.SILO_STAT, 2 ^ 31)], ?_⟩⟩ <;> decide +kernel

/-- The hypotheses of `CanNodeCompletes` can be met, clause by clause. -/
theorem test_witness_CanNodeCompletes :
    (∃ (c : Chip) (f : CanFrame) (l : List CanFrame), (nodeQueue c = f :: l) ∧ (isNmt 1 f = true)) ∧
    (∃ (c : Chip) (f : CanFrame) (l : List CanFrame), (nodeQueue c = f :: l) ∧ (isNmt 2 f = true)) ∧
    (∃ (c : Chip) (f : CanFrame) (l : List CanFrame), (nodeQueue c = f :: l) ∧ (isNmt 128 f = true)) ∧
    (∃ (c : Chip) (f : CanFrame) (l : List CanFrame), let d : Chip := { c with od := { c.od with nodeRx := l, objects := c.od.objects.filter (fun e => decide (0x200000 ≤ e.1)), nmt := 127 } }; let r : List StoreRecord × Chip := d.storeRead; (nodeQueue c = f :: l) ∧ (isNmt 130 f = true)) ∧
    (∃ (c : Chip) (f : CanFrame) (l : List CanFrame), let d : Chip := { c with od := { c.od with nodeRx := l, objects := c.od.objects.filter (fun e => decide (0x200000 ≤ e.1)), nmt := 127 } }; let r : List StoreRecord × Chip := d.storeRead; (nodeQueue c = f :: l) ∧ (isNmt 129 f = true)) ∧
    (∃ (c : Chip) (f : CanFrame) (l : List CanFrame), (nodeQueue c = f :: l) ∧ (cobMatches f (odNat c 0x1012 0) = true)) ∧
    (∃ (c : Chip) (f : CanFrame) (l : List CanFrame) (q : UsdoRequest), let d : Chip := { c with od := { c.od with nodeRx := l } }; let x : Nat × List Byte × Chip := d.odRead (some q.client) q.index q.sub; (nodeQueue c = f :: l) ∧ (f.ext = false) ∧ (f.id = 0x600 + c.od.nodeId) ∧ (c.od.jobs = []) ∧ (q.write = none)) ∧
    (∃ (c : Chip) (f : CanFrame) (l : List CanFrame) (q : UsdoRequest) (o : Nat) (e : Bool) (b : List Byte), let d : Chip := { c with od := { c.od with nodeRx := l } }; let x : Nat × Chip := d.odSegment { client := some q.client } (32 + q.client) q.index q.sub e o b; (nodeQueue c = f :: l) ∧ (f.ext = false) ∧ (f.id = 0x600 + c.od.nodeId) ∧ (odFree c = true) ∧ (q.write = some (o, e, b))) ∧
    (∃ (c : Chip) (n : Fin 128) (m : List Byte), let e : Chip := (c.dropPending (32 + n.val)).setTunnel n.val []; (odFree c = true) ∧ (odPasses c { client := some n.val } 0x5F10 0 m = true) ∧ (messageOk false m = true) ∧ (msgOp m = 1) ∧ (msgSid m = 0xFF)) ∧
    (∃ (c : Chip) (f : CanFrame) (l : List CanFrame) (i : Nat) (e : Nat), (nodeQueue c = f :: l) ∧ (odFree c = true) ∧ (rpdoOf c f = some i) ∧ (c.od.nmt = 5) ∧ (mapEntries c (0x1600 + i) (odNat c (0x1600 + i) 0) = [e]) ∧ (e % 256 / 8 ≤ f.data.length)) ∧
    (∃ (c : Chip) (f : CanFrame) (l : List CanFrame) (i : Nat), (nodeQueue c = f :: l) ∧ (odFree c = true) ∧ (rpdoOf c f = some i) ∧ (c.od.nmt ≠ 5)) ∧
    (∃ (c : Chip) (i : Fin 4), (c.od.nmt = 5) ∧ ((odNat c (0x1800 + i.val) 1).testBit 31 = false) ∧ ((odNat c (0x1800 + i.val) 1).testBit 29 = false) ∧ (mapGet 0 c.od.tpdoAt i.val + odNat c (0x1800 + i.val) 3 * 100000 ≤ c.ns)) ∧
    (∃ (c : Chip), (c.od.nmt ≠ 0) ∧ (odNat c 0x1017 0 ≠ 0) ∧ (c.od.beat + odNat c 0x1017 0 * 1000000 ≤ c.ns)) :=
  by
  refine ⟨⟨nodeChip { id := 0, data := [1, 0] }, { id := 0, data := [1, 0] }, [], ?_⟩,
    ⟨nodeChip { id := 0, data := [2, 0] }, { id := 0, data := [2, 0] }, [], ?_⟩,
    ⟨nodeChip { id := 0, data := [128, 0] }, { id := 0, data := [128, 0] }, [], ?_⟩,
    ⟨nodeChip { id := 0, data := [130, 0] }, { id := 0, data := [130, 0] }, [], ?_⟩,
    ⟨nodeChip { id := 0, data := [129, 0] }, { id := 0, data := [129, 0] }, [], ?_⟩,
    ⟨nodeChip { id := 0x100, data := [1, 0, 0, 0, 1, 0] }, { id := 0x100, data := [1, 0, 0, 0, 1, 0] }, [], ?_⟩,
    ⟨nodeChip { id := 0x630, data := [] }, { id := 0x630, data := [] }, [], { client := 5, index := 0x1017, sub := 0, write := none }, ?_⟩,
    ⟨nodeChip { id := 0x630, data := [] }, { id := 0x630, data := [] }, [], { client := 5, index := 0x1017, sub := 0, write := some (0, true, [1, 0]) }, 0, true, [1, 0], ?_⟩,
    ⟨{}, 5, openMsg.payload, ?_⟩,
    ⟨rpdoChip, { id := 0x201, data := [1] }, [], 0, 0x32000A08, ?_⟩,
    ⟨{ rpdoChip with od := { rpdoChip.od with nmt := 4 } }, { id := 0x201, data := [1] }, [], 0, ?_⟩,
    ⟨{ ns := 9, od := { nmt := 5, objects := [(0x180001, [0x81, 1, 0, 0])] } }, 0, ?_⟩,
    ⟨{ ns := 1000000000, od := { nmt := 5 } }, ?_⟩⟩ <;> decide +kernel

/-- The hypotheses of `MicrowordsComplete` can be met, clause by clause. -/
theorem test_witness_MicrowordsComplete :
    (∃ (c : Chip) (r : Routine) (w : Word), let na : Nat := Machine.fld w 27 26; let nb : Nat := Machine.fld w 25 24; let nw : Nat := Machine.fld w 23 22; let used : List Nat := (if planeUsesA w then [routineO r na] else []) ++ (if planeUsesB w then [routineO r nb] else []) ++ (if planeWrites w then [routineO r nw] else []); (AtWord c r w) ∧ (Machine.fld w 31 28 = 0) ∧ ((c.touch used).1 = true)) ∧
    (∃ (c : Chip) (r : Routine) (w : Word), (AtWord c r w) ∧ (Machine.fld w 31 28 = 1) ∧ (bitOf w 27 = false) ∧ (bitOf w 26 = false) ∧ (bitOf w 25 = true) ∧ ((c.touch []).1 = true)) ∧
    (∃ (c : Chip) (r : Routine) (w : Word), let v : Nat := routineO r (Machine.fld w 22 21); let d : Chip := (c.touch [v]).2; (AtWord c r w) ∧ (Machine.fld w 31 28 = 1) ∧ (bitOf w 27 = false) ∧ (bitOf w 26 = true) ∧ ((c.touch [v]).1 = true)) ∧
    (∃ (c : Chip) (r : Routine) (w : Word), (AtWord c r w) ∧ (Machine.fld w 31 28 = 2) ∧ (Machine.fld w 24 22 ≠ 7) ∧ ((c.touch []).1 = true)) ∧
    (∃ (c : Chip) (r : Routine) (w : Word), let d : Chip := (c.touch []).2; (AtWord c r w) ∧ (Machine.fld w 31 28 = 3) ∧ (Machine.fld w 27 25 = 3) ∧ (bitOf w 22 = false) ∧ ((c.touch []).1 = true)) ∧
    (∃ (c : Chip) (r : Routine) (w : Word), (AtWord c r w) ∧ (Machine.fld w 31 28 = 4) ∧ (Machine.fld w 25 23 = 0)) ∧
    (∃ (c : Chip) (r : Routine) (w : Word), (AtWord c r w) ∧ (Machine.fld w 31 28 = 4) ∧ (Machine.fld w 25 23 = 4)) ∧
    (∃ (c : Chip) (r : Routine) (w : Word), (AtWord c r w) ∧ (Machine.fld w 31 28 = 11) ∧ (Machine.fld w 25 23 = 3)) ∧
    (∃ (c : Chip) (r : Routine) (w : Word), (AtWord c r w) ∧ (Machine.fld w 31 28 = 5) ∧ (condHolds c r (Machine.fld w 27 24) = false)) ∧
    (∃ (c : Chip) (r : Routine) (w : Word), (AtWord c r w) ∧ (Machine.fld w 31 28 = 5) ∧ (condHolds c r (Machine.fld w 27 24) = true) ∧ (bitOf w 23 = false)) ∧
    (∃ (c : Chip) (r : Routine) (w : Word), let k : Nat := Machine.fld w 27 24 - 3; (AtWord c r w) ∧ (Machine.fld w 31 28 = 5) ∧ (3 ≤ Machine.fld w 27 24) ∧ (Machine.fld w 27 24 ≤ 6) ∧ (routineK r k ≠ 0) ∧ (bitOf w 23 = true)) ∧
    (∃ (c : Chip) (r : Routine) (w : Word), (AtWord c r w) ∧ (Machine.fld w 31 28 = 6) ∧ (Machine.fld w 27 24 = 0) ∧ (r.stack.length < 8)) ∧
    (∃ (c : Chip) (r : Routine) (w : Word), (AtWord c r w) ∧ (Machine.fld w 31 28 = 6) ∧ (Machine.fld w 27 24 = 0) ∧ (8 ≤ r.stack.length)) ∧
    (∃ (c : Chip) (r : Routine) (w : Word) (a : Nat) (l : List Nat), (AtWord c r w) ∧ (Machine.fld w 31 28 = 7) ∧ (Machine.fld w 27 24 = 0) ∧ (r.stack = a :: l)) ∧
    (∃ (c : Chip) (r : Routine) (w : Word), (AtWord c r w) ∧ (Machine.fld w 31 28 = 7) ∧ (Machine.fld w 27 24 = 0) ∧ (r.stack = [])) ∧
    (∃ (c : Chip) (r : Routine) (w : Word), (AtWord c r w) ∧ (Machine.fld w 31 28 = 8) ∧ (urgentPending c = false) ∧ (c.seq.powerStop = false)) ∧
    (∃ (c : Chip) (r : Routine) (w : Word), (AtWord c r w) ∧ (Machine.fld w 31 28 = 8) ∧ (r.isYield = true) ∧ (queueState c = 0) ∧ (urgentPending c = true)) ∧
    (∃ (c : Chip) (r : Routine) (w : Word), (AtWord c r w) ∧ (Machine.fld w 31 28 = 9)) ∧
    (∃ (c : Chip) (r : Routine) (w : Word), (AtWord c r w) ∧ (Machine.fld w 31 28 = 10) ∧ (Machine.fld w 27 26 = 0) ∧ ((c.touch (groupPlanes (pageGroup r.insn w))).1 = true)) ∧
    (∃ (c : Chip) (r : Routine) (w : Word), (AtWord c r w) ∧ (Machine.fld w 31 28 = 10) ∧ (Machine.fld w 27 26 = 0) ∧ ((c.touch (groupPlanes (pageGroup r.insn w))).1 = false)) ∧
    (∃ (c : Chip) (r : Routine) (w : Word), (AtWord c r w) ∧ (Machine.fld w 31 28 = 10) ∧ (Machine.fld w 27 26 = 1)) ∧
    (∃ (c : Chip) (r : Routine) (w : Word), (AtWord c r w) ∧ (Machine.fld w 31 28 = 10) ∧ (Machine.fld w 27 26 = 2) ∧ (groupOk (if bitOf w 15 then OperandClass.inPlace else OperandClass.separate) (pageGroup r.insn w) ⟨insnDst r.insn, wselWidth r.insn (Machine.fld w 19 16)⟩ = true)) ∧
    (∃ (c : Chip) (r : Routine) (w : Word), (AtWord c r w) ∧ (Machine.fld w 31 28 = 10) ∧ (Machine.fld w 27 26 = 2) ∧ (groupOk (if bitOf w 15 then OperandClass.inPlace else OperandClass.separate) (pageGroup r.insn w) ⟨insnDst r.insn, wselWidth r.insn (Machine.fld w 19 16)⟩ = false)) ∧
    (∃ (c : Chip) (r : Routine) (w : Word), (AtWord c r w) ∧ (Machine.fld w 31 28 = 12) ∧ (bitOf w 27 = true → c.seq.gorFlight = [])) ∧
    (∃ (c : Chip) (r : Routine) (w : Word), (AtWord c r w) ∧ (Machine.fld w 31 28 = 12) ∧ (bitOf w 27 = true) ∧ (c.seq.gorFlight ≠ [])) ∧
    (∃ (c : Chip) (r : Routine) (w : Word), (AtWord c r w) ∧ (0xD ≤ Machine.fld w 31 28)) :=
  by
  refine ⟨⟨microChip 27788808, routine0, 27788808, ?_⟩,
    ⟨microChip 310378496, routine0, 310378496, ?_⟩,
    ⟨microChip 335544320, routine0, 335544320, ?_⟩,
    ⟨microChip 574619648, routine0, 574619648, ?_⟩,
    ⟨microChip 905969664, routine0, 905969664, ?_⟩,
    ⟨microChip 1140850765, routine0, 1140850765, ?_⟩,
    ⟨microChip 1174405120, routine0, 1174405120, ?_⟩,
    ⟨microChip 3045064713, routine0, 3045064713, ?_⟩,
    ⟨microChip 1358954501, routine0, 1358954501, ?_⟩,
    ⟨microChip 1342177285, routine0, 1342177285, ?_⟩,
    ⟨microChip 1400897541, routine0, 1400897541, ?_⟩,
    ⟨microChip 1610612741, routine0, 1610612741, ?_⟩,
    ⟨fullStack 1610612741, { routine0 with stack := List.replicate 8 0 }, 1610612741, ?_⟩,
    ⟨fullStack 1879048192, { routine0 with stack := List.replicate 8 0 }, 1879048192, 0, List.replicate 7 0, ?_⟩,
    ⟨microChip 1879048192, routine0, 1879048192, ?_⟩,
    ⟨microChip 2147483648, routine0, 2147483648, ?_⟩,
    ⟨urgentChip 2147483648, routine0, 2147483648, ?_⟩,
    ⟨microChip 2415919104, routine0, 2415919104, ?_⟩,
    ⟨microChip 2684354560, routine0, 2684354560, ?_⟩,
    ⟨missChip 2684354560, routine0, 2684354560, ?_⟩,
    ⟨microChip 2751463424, routine0, 2751463424, ?_⟩,
    ⟨microChip 2835382272, routine0, 2835382272, ?_⟩,
    ⟨microChip 2818572288, routine0, 2818572288, ?_⟩,
    ⟨microChip 3221225481, routine0, 3221225481, ?_⟩,
    ⟨gorChip 3355443200, routine0, 3355443200, ?_⟩,
    ⟨microChip 3489660928, routine0, 3489660928, ?_⟩⟩ <;> decide +kernel

/-- The hypotheses of `SequencerCommandsComplete` can be met, clause by clause. -/
theorem test_witness_SequencerCommandsComplete :
    (∃ (c : Chip) (i : DWord) (l : List DWord), let d : Chip := Chip.setBit { c with seq := { c.seq with edges := c.fld Reg.ASQ_EDGE 11 0 }, pow := { c.pow with stopped := c.pow.stopped.filter (fun k => decide (k ≠ 0)) } } Reg.ASQ_QSTAT 27 false; let e : Word := d.reg (Reg.ASQ_DISPn (insnOpc i)); (c.seq.queue = i :: l) ∧ (mayDispatch c = true) ∧ (c.bit Reg.ASQ_LFSR_CTL 0 = false)) ∧
    (∃ (c : Chip) (i : DWord) (l : List DWord), let d : Chip := Chip.setBit { c with seq := { c.seq with edges := c.fld Reg.ASQ_EDGE 11 0 }, pow := { c.pow with stopped := c.pow.stopped.filter (fun k => decide (k ≠ 0)) } } Reg.ASQ_QSTAT 27 false; let e : Word := d.reg (Reg.ASQ_DISPn (insnOpc i)); (c.seq.queue = i :: l) ∧ (mayDispatch c = true) ∧ (0xC0 ≤ insnOpc i) ∧ (c.bit (Reg.ASQ_DISPn (insnOpc i)) 31 = true) ∧ (c.bit Reg.ASQ_LFSR_CTL 0 = false)) ∧
    (∃ (c : Chip) (r : Routine), (activeRoutine c = some r) ∧ (r.started = false) ∧ (r.loaded = false)) ∧
    (∃ (c : Chip) (r : Routine), (activeRoutine c = some r) ∧ (r.started = false) ∧ (r.loaded = true) ∧ (insnOpc r.insn < 0xC0) ∧ (vendorDefined (insnOpc r.insn) = false)) ∧
    (∃ (c : Chip) (i : DWord) (l : List DWord), let d : Chip := c.managerSay .resume; (portState c (regNode Reg.ASQ_QCTL) = 0) ∧ (queueState c = 1) ∧ (c.seq.queue = i :: l) ∧ (stopInForce c = false) ∧ (preemptHolds c = false) ∧ (c.grn.preempt ≠ .requested) ∧ (c.seq.running = none)) ∧
    (∃ (c : Chip), let d : Chip := c.managerSay .discard; (portState c (regNode Reg.ASQ_QCTL) = 0) ∧ (queueState c ≠ 1)) ∧
    (∃ (c : Chip), let d : Chip := c.managerSay .discard; (portState c (regNode Reg.ASQ_QCTL) = 0) ∧ (queueState c = 1)) ∧
    (∃ (c : Chip), (portState c (regNode Reg.ASQ_LFSR_CTL) = 0)) ∧
    (∃ (c : Chip) (g : Bool × TileBits) (l : List (Bool × TileBits)), (c.seq.gorFlight = g :: l) ∧ ((c.bit Reg.SPIN_STAT 29 && c.bit Reg.SPIN_STAT 31) = false ∨ c.spin.gangMap = 1)) ∧
    (∃ (c : Chip), (portState c (regNode (Reg.ASQ_TORk 0)) = 0)) ∧
    (∃ (c : Chip) (t : Fin 256), (portState c (regNode (Reg.ASQ_TILE_STAT t.val)) = 0)) ∧
    (∃ (c : Chip) (t : Fin 256) (x : BitVec 12), (c.isOn (.tileLogic t.val) = true)) :=
  by
  refine ⟨⟨headChip (0x01 * 2 ^ 56), 0x0100000000000000, [], ?_⟩,
    ⟨headChip (0xC0 * 2 ^ 56), 0xC000000000000000, [], ?_⟩,
    ⟨{ seq := { running := some { routine0 with loaded := false } } }, { routine0 with loaded := false }, ?_⟩,
    ⟨{ seq := { running := some { routine0 with insn := 0x0700000000000000 } } }, { routine0 with insn := 0x0700000000000000 }, ?_⟩,
    ⟨{ headChip 5 with regs := (withRegs [(Reg.ASQ_QSTAT, 2 ^ 30)]).regs, domains := [.sequencer] }, 5, [], ?_⟩,
    ⟨{ headChip 5 with domains := [.sequencer] }, ?_⟩,
    ⟨{ headChip 5 with regs := (withRegs [(Reg.ASQ_QSTAT, 2 ^ 30)]).regs, domains := [.sequencer] }, ?_⟩,
    ⟨{ domains := [.sequencer] }, ?_⟩,
    ⟨{ seq := { gorFlight := [(true, 1)] } }, (true, 1), [], ?_⟩,
    ⟨{ seq := { tor := 9 }, domains := [.sequencer] }, ?_⟩,
    ⟨{ withRegs [(Reg.ASQ_TILE_STAT 3, 2 ^ 22)] with domains := [.sequencer] }, 3, ?_⟩,
    ⟨{ domains := [.tileLogic 3] }, 3, 99, ?_⟩⟩ <;> decide +kernel

/-- The hypotheses of `ArrayLogicAndIntegerRoutinesComplete` can be met, clause by clause. -/
theorem test_witness_ArrayLogicAndIntegerRoutinesComplete :
    VendorMeets 0x01 opUnary ∧
    VendorMeets 0x02 opUnary ∧
    VendorMeets 0x03 (fun i => ⟨.inPlace, [], grpD i (insnW i)⟩) ∧
    VendorMeets 0x05 opBinary ∧
    VendorMeets 0x06 opBinary ∧
    VendorMeets 0x09 (fun i => ⟨.inPlace, [], grpD i 1⟩) ∧
    VendorMeets 0x0A (fun i => ⟨.inPlace, [], grpD i 1⟩) ∧
    VendorMeets 0x28 (fun i => ⟨.inPlace, cmpSources i, grpD i 1⟩) ∧
    VendorMeets 0x30 opBinary ∧
    VendorMeets 0x31 opBinary ∧
    VendorMeets 0x32 opUnary ∧
    VendorMeets 0x33 opUnary ∧
    VendorMeets 0x34 opUnary ∧
    VendorMeets 0x35 opBinary ∧
    VendorMeets 0x36 opBinary ∧
    VendorMeets 0x37 opBinary ∧
    VendorMeets 0x38 opBinary ∧
    VendorMeets 0x39 opUnary ∧
    VendorMeets 0x3C opUnarySep ∧
    VendorMeets 0x3D opUnarySep ∧
    VendorMeets 0x3E opUnarySep ∧
    VendorMeets 0x3F opUnarySep :=
  by and_intros <;> decide +kernel

/-- The hypotheses of `ArrayWideRoutinesComplete` can be met, clause by clause. -/
theorem test_witness_ArrayWideRoutinesComplete :
    VendorMeets 0x40 (fun i => opBinarySep i (insnW i) (insnShf i + 1) (insnW i + insnShf i + 1)) ∧
    VendorMeets 0x41 (fun i => opBinarySep i (insnW i) (insnW i) (insnW i)) ∧
    VendorMeets 0x44 (fun i => opBinarySep i (insnW i) (insnW i) (2 * insnW i)) ∧
    VendorMeets 0x48 (fun i => ⟨.separate, [grpA i (insnW i)], grpD i (2 * insnW i)⟩) ∧
    VendorMeets 0x50 opAccum ∧
    VendorMeets 0x51 opAccum ∧
    VendorMeets 0x52 opAccum ∧
    VendorMeets 0x53 (fun i => ⟨.separate, [grpA i (insnW i + 8)], grpD i (insnW i)⟩) ∧
    VendorMeets 0x54 (fun i => ⟨.separate, [grpA i (insnW i)], grpD i 7⟩) ∧
    VendorMeets 0x55 (fun i => ⟨.separate, [grpA i (insnW i)], grpD i 7⟩) ∧
    VendorMeets 0x60 (fun i => ⟨.separate, [grpA i (sigWidth i)], grpD i (sigWidth i)⟩) ∧
    VendorMeets 0x61 opTernary ∧
    VendorMeets 0x62 opTernary ∧
    VendorMeets 0x63 (fun i => ⟨.separate, [grpA i (bswapWidth i)], grpD i (bswapWidth i)⟩) ∧
    VendorMeets 0x80 (fun i => opBinarySep i 16 16 32) ∧
    VendorMeets 0x81 (fun i => opBinarySep i 16 16 32) ∧
    VendorMeets 0x82 (fun i => opBinarySep i 16 16 32) ∧
    VendorMeets 0x83 (fun i => opBinarySep i 16 16 32) ∧
    VendorMeets 0x84 (fun i => opBinarySep i 16 16 32) ∧
    VendorMeets 0x85 (fun i => opBinarySep i 16 16 32) ∧
    VendorMeets 0x86 (fun i => opBinarySep i 16 16 32) ∧
    VendorMeets 0x88 (fun i => ⟨.separate, [grpA i 16], grpD i 32⟩) ∧
    VendorMeets 0x89 (fun i => ⟨.separate, [grpA i (insnW i)], grpD i 32⟩) ∧
    VendorMeets 0x8A (fun i => ⟨.separate, [grpA i 16], grpD i 32⟩) ∧
    VendorMeets 0x8B (fun i => ⟨.separate, [grpA i (insnW i)], grpD i 32⟩) :=
  by and_intros <;> decide +kernel

/-- The hypotheses of `ArrayControlRoutinesComplete` can be met, clause by clause. -/
theorem test_witness_ArrayControlRoutinesComplete :
    (∃ (c : Chip) (r : Routine), (vendorRoutine c 0x00 = some r)) ∧
    (∃ (c : Chip) (r : Routine), let i : DWord := r.insn; let q : Bool × Chip := c.vendorTouch r ([groupPlanes (grpD i (insnW i))]); let d : Chip := q.2; (vendorRoutine c 0x04 = some r) ∧ (q.1 = true)) ∧
    (∃ (c : Chip) (r : Routine), let i : DWord := r.insn; let q : Bool × Chip := c.vendorTouch r ([msetPlanes i]); let d : Chip := q.2; (vendorRoutine c 0x08 = some r) ∧ (q.1 = true)) ∧
    (∃ (c : Chip) (r : Routine), let i : DWord := r.insn; let q : Bool × Chip := c.vendorTouch r ([]); let d : Chip := q.2; (vendorRoutine c 0x0B = some r) ∧ (q.1 = true)) ∧
    (∃ (c : Chip) (r : Routine), let i : DWord := r.insn; let q : Bool × Chip := c.vendorTouch r ([groupPlanes (grpD i (insnW i)), groupPlanes (grpA i (insnW i))]); let d : Chip := q.2; (vendorRoutine c 0x10 = some r) ∧ (([grpA r.insn (insnW r.insn)]).all (fun g => groupOk .inPlace g (grpD r.insn (insnW r.insn))) = true) ∧ (q.1 = true)) ∧
    (∃ (c : Chip) (r : Routine), let i : DWord := r.insn; let q : Bool × Chip := c.vendorTouch r ([groupPlanes (grpD i (insnW i)), groupPlanes (grpA i (insnW i))]); let d : Chip := q.2; (vendorRoutine c 0x11 = some r) ∧ (([grpA r.insn (insnW r.insn)]).all (fun g => groupOk .inPlace g (grpD r.insn (insnW r.insn))) = true) ∧ (q.1 = true)) ∧
    (∃ (c : Chip) (r : Routine), let i : DWord := r.insn; let q : Bool × Chip := c.vendorTouch r ([groupPlanes (grpD i (insnW i)), groupPlanes (grpA i (insnW i)), groupPlanes (grpB i (insnW i))]); let d : Chip := q.2; (vendorRoutine c 0x12 = some r) ∧ (([grpA r.insn (insnW r.insn), grpB r.insn (insnW r.insn)]).all (fun g => groupOk .inPlace g (grpD r.insn (insnW r.insn))) = true) ∧ (q.1 = true)) ∧
    (∃ (c : Chip) (r : Routine), let i : DWord := r.insn; let q : Bool × Chip := c.vendorTouch r ([anyPlanes i]); let d : Chip := q.2; (vendorRoutine c 0x20 = some r) ∧ (q.1 = true)) ∧
    (∃ (c : Chip) (r : Routine), let i : DWord := r.insn; let q : Bool × Chip := c.vendorTouch r ((cmpSources i).map groupPlanes); let d : Chip := q.2; (vendorRoutine c 0x29 = some r) ∧ (q.1 = true)) ∧
    (∃ (c : Chip) (r : Routine) (o : SepOp), let v : VendorOp := o.op r.insn; let q : Bool × Chip := (c.vendorDeclare r).vendorTouch r (opGroups v); (activeRoutine c = some r) ∧ (sepOp (insnOpc r.insn) = some o) ∧ (insnOpc r.insn < 0xC0) ∧ (r.loaded = true) ∧ (r.isYield = true) ∧ (queueState c = 0) ∧ (urgentPending c = true) ∧ (v.srcs.all (fun g => groupOk v.cls g v.dst) = true) ∧ (q.1 = true)) ∧
    (∃ (c : Chip) (r : Routine), (activeRoutine c = some r) ∧ (insnOpc r.insn < 0xC0) ∧ (urgentPending c = false) ∧ (queueState c = 0)) :=
  by
  refine ⟨⟨vendorChip 0x00, vendorOf 0x00, ?_⟩,
    ⟨vendorChip 0x04, vendorOf 0x04, ?_⟩,
    ⟨vendorChip 0x08, vendorOf 0x08, ?_⟩,
    ⟨vendorChip 0x0B, vendorOf 0x0B, ?_⟩,
    ⟨vendorChip 0x10, vendorOf 0x10, ?_⟩,
    ⟨vendorChip 0x11, vendorOf 0x11, ?_⟩,
    ⟨vendorChip 0x12, vendorOf 0x12, ?_⟩,
    ⟨vendorChip 0x20, vendorOf 0x20, ?_⟩,
    ⟨vendorChip 0x29, vendorOf 0x29, ?_⟩,
    ⟨{ vendorChip 0x40 with seq := { (vendorChip 0x40).seq with debugHalt := true, running := some { vendorOf 0x40 with isYield := true } } }, { vendorOf 0x40 with isYield := true }, (sepOp 0x40).getD { op := noGroup, pe := peMul }, (by refine ⟨?_, rfl, ?_⟩ <;> decide +kernel)⟩,
    ⟨vendorChip 0x40, vendorOf 0x40, ?_⟩⟩ <;> decide +kernel

/-- The hypotheses of `CoreIntegerInstructionsComplete` can be met, clause by clause. -/
theorem test_witness_CoreIntegerInstructionsComplete :
    CoreMeets 0x12380 (fun w => decide (wCls w ≤ 1) && decide (wOp w = 0)) ∧
    CoreMeets 0x112380 (fun w => decide (wCls w ≤ 1) && decide (wOp w = 1)) ∧
    CoreMeets 0x212380 (fun w => decide (wCls w ≤ 1) && decide (wOp w = 2)) ∧
    CoreMeets 0x312380 (fun w => decide (wCls w ≤ 1) && decide (wOp w = 3)) ∧
    CoreMeets 0x412380 (fun w => decide (wCls w ≤ 1) && decide (wOp w = 4)) ∧
    CoreMeets 0x512380 (fun w => decide (wCls w ≤ 1) && decide (wOp w = 5)) ∧
    CoreMeets 0x612380 (fun w => decide (wCls w ≤ 1) && decide (wOp w = 6)) ∧
    CoreMeets 0x712380 (fun w => decide (wCls w ≤ 1) && decide (wOp w = 7)) ∧
    CoreMeets 0x812380 (fun w => decide (wCls w ≤ 1) && decide (wOp w = 8)) ∧
    CoreMeets 0x912380 (fun w => decide (wCls w ≤ 1) && decide (wOp w = 9)) ∧
    CoreMeets 0xa12380 (fun w => decide (wCls w ≤ 1) && decide (wOp w = 10)) ∧
    CoreMeets 0xb12380 (fun w => decide (wCls w ≤ 1) && decide (wOp w = 11)) ∧
    CoreMeets 0xc10380 (fun w => decide (wCls w ≤ 1) && decide (wOp w = 12)) ∧
    CoreMeets 0xd02300 (fun w => decide (wCls w ≤ 1) && decide (wOp w = 13)) ∧
    CoreMeets 0xe12380 (fun w => decide (wCls w ≤ 1) && decide (wOp w = 14)) ∧
    CoreMeets 0xf12380 (fun w => decide (wCls w ≤ 1) && decide (wOp w = 15)) ∧
    CoreMeets 0x2010007 (fun w => decide (wCls w = 2) && decide (Machine.fld w 23 22 = 0)) ∧
    CoreMeets 0x2410007 (fun w => decide (wCls w = 2) && decide (Machine.fld w 23 22 = 1)) :=
  by and_intros <;> decide +kernel

/-- The hypotheses of `CoreAccumulatorAndDivisionInstructionsComplete` can be met, clause by clause. -/
theorem test_witness_CoreAccumulatorAndDivisionInstructionsComplete :
    CoreMeets 0x5042300 (fun w => decide (wCls w = 5) && decide (wOp w = 0)) ∧
    CoreMeets 0x5142300 (fun w => decide (wCls w = 5) && decide (wOp w = 1)) ∧
    CoreMeets 0x5242300 (fun w => decide (wCls w = 5) && decide (wOp w = 2)) ∧
    CoreMeets 0x5342000 (fun w => decide (wCls w = 5) && decide (wOp w = 3)) ∧
    CoreMeets 0x5442001 (fun w => decide (wCls w = 5) && decide (wOp w = 4)) ∧
    CoreMeets 0x5540001 (fun w => decide (wCls w = 5) && decide (wOp w = 5)) ∧
    CoreMeets 0x5640000 (fun w => decide (wCls w = 5) && decide (wOp w = 6)) ∧
    CoreMeets 0x6312380 (fun w => decide (wCls w = 6) && decide (wOp w = 3)) ∧
    CoreMeets 0x6412380 (fun w => decide (wCls w = 6) && decide (wOp w = 4)) ∧
    CoreMeets 0x6512380 (fun w => decide (wCls w = 6) && decide (wOp w = 5)) ∧
    CoreMeets 0x6612380 (fun w => decide (wCls w = 6) && decide (wOp w = 6)) :=
  by and_intros <;> decide +kernel

/-- The hypotheses of `ClassSixMultiplication` can be met, clause by clause. -/
theorem test_witness_ClassSixMultiplication :
    CoreMeets 0x6012380 (fun w => decide (wCls w = 6) && decide (wOp w = 0)) ∧
    CoreMeets 0x6112380 (fun w => decide (wCls w = 6) && decide (wOp w = 1)) ∧
    CoreMeets 0x6212380 (fun w => decide (wCls w = 6) && decide (wOp w = 2)) :=
  by and_intros <;> decide +kernel

/-- The hypotheses of `CoreBinary32InstructionsComplete` can be met, clause by clause. -/
theorem test_witness_CoreBinary32InstructionsComplete :
    CoreMeets 0x7012300 (fun w => decide (wCls w = 7) && decide (wOp w = 0)) ∧
    CoreMeets 0x7112300 (fun w => decide (wCls w = 7) && decide (wOp w = 1)) ∧
    CoreMeets 0x7212300 (fun w => decide (wCls w = 7) && decide (wOp w = 2)) ∧
    CoreMeets 0x7312300 (fun w => decide (wCls w = 7) && decide (wOp w = 3)) ∧
    CoreMeets 0x7412000 (fun w => decide (wCls w = 7) && decide (wOp w = 4)) ∧
    CoreMeets 0x7512300 (fun w => decide (wCls w = 7) && decide (wOp w = 5)) ∧
    CoreMeets 0x7612300 (fun w => decide (wCls w = 7) && decide (wOp w = 6)) ∧
    CoreMeets 0x7712300 (fun w => decide (wCls w = 7) && decide (wOp w = 7)) ∧
    CoreMeets 0x7802300 (fun w => decide (wCls w = 7) && decide (wOp w = 8)) ∧
    CoreMeets 0x7912000 (fun w => decide (wCls w = 7) && decide (wOp w = 9)) ∧
    CoreMeets 0x7a12000 (fun w => decide (wCls w = 7) && decide (wOp w = 10)) ∧
    CoreMeets 0x7b12000 (fun w => decide (wCls w = 7) && decide (wOp w = 11)) ∧
    CoreMeets 0x7c12000 (fun w => decide (wCls w = 7) && decide (wOp w = 12)) :=
  by and_intros <;> decide +kernel

/-- The hypotheses of `CoreDecimalAndMoveInstructionsComplete` can be met, clause by clause. -/
theorem test_witness_CoreDecimalAndMoveInstructionsComplete :
    CoreMeets 0x8012300 (fun w => decide (wCls w = 8) && decide (wOp w = 0)) ∧
    CoreMeets 0x8112300 (fun w => decide (wCls w = 8) && decide (wOp w = 1)) ∧
    CoreMeets 0x8202000 (fun w => decide (wCls w = 8) && decide (wOp w = 2)) ∧
    CoreMeets 0xb014000 (fun w => decide (wCls w = 11) && decide (wOp w = 0)) ∧
    CoreMeets 0xb114000 (fun w => decide (wCls w = 11) && decide (wOp w = 1)) ∧
    CoreMeets 0xb214000 (fun w => decide (wCls w = 11) && decide (wOp w = 2)) ∧
    CoreMeets 0xb304009 (fun w => decide (wCls w = 11) && decide (wOp w = 3)) ∧
    CoreMeets 0xb414000 (fun w => decide (wCls w = 11) && decide (wOp w = 4)) ∧
    CoreMeets 0xb514000 (fun w => decide (wCls w = 11) && decide (wOp w = 5)) ∧
    CoreMeets 0xb614000 (fun w => decide (wCls w = 11) && decide (wOp w = 6)) ∧
    CoreMeets 0xb714000 (fun w => decide (wCls w = 11) && decide (wOp w = 7)) ∧
    CoreMeets 0xb814000 (fun w => decide (wCls w = 11) && decide (wOp w = 8)) ∧
    CoreMeets 0xb914000 (fun w => decide (wCls w = 11) && decide (wOp w = 9)) ∧
    CoreMeets 0xba14000 (fun w => decide (wCls w = 11) && decide (wOp w = 10)) ∧
    CoreMeets 0xbb14000 (fun w => decide (wCls w = 11) && decide (wOp w = 11)) ∧
    CoreMeets 0xbc14000 (fun w => decide (wCls w = 11) && decide (wOp w = 12)) :=
  by and_intros <;> decide +kernel

/-- The hypotheses of `CoreLoadsComplete` can be met, clause by clause. -/
theorem test_witness_CoreLoadsComplete :
    (∃ (c : Chip) (d : Chip) (w : Word), let pc : Nat := c.core.pc.toNat; let m : Nat × Nat := memAddress d w; let r : Resp × Chip := d.coreRead m.1 1; (CoreBegins c d w) ∧ (wCls w = 3) ∧ (wOp w = 1) ∧ (r.1.status = 0) ∧ (r.1.poison = false)) ∧
    (∃ (c : Chip) (d : Chip) (w : Word), let pc : Nat := c.core.pc.toNat; let m : Nat × Nat := memAddress d w; let r : Resp × Chip := d.coreRead m.1 1; (CoreBegins c d w) ∧ (wCls w = 3) ∧ (wOp w = 1) ∧ (r.1.status ≠ 0 ∨ r.1.poison = true) ∧ (r.1.status ≠ 5)) ∧
    (∃ (c : Chip) (d : Chip) (w : Word), let pc : Nat := c.core.pc.toNat; let m : Nat × Nat := memAddress d w; let r : Resp × Chip := d.coreRead m.1 1; (CoreBegins c d w) ∧ (wCls w = 3) ∧ (wOp w = 3) ∧ (r.1.status = 0) ∧ (r.1.poison = false)) ∧
    (∃ (c : Chip) (d : Chip) (w : Word), let pc : Nat := c.core.pc.toNat; let m : Nat × Nat := memAddress d w; let r : Resp × Chip := d.coreRead m.1 1; (CoreBegins c d w) ∧ (wCls w = 3) ∧ (wOp w = 3) ∧ (r.1.status ≠ 0 ∨ r.1.poison = true) ∧ (r.1.status ≠ 5)) ∧
    (∃ (c : Chip) (d : Chip) (w : Word), let pc : Nat := c.core.pc.toNat; let m : Nat × Nat := memAddress d w; let r : Resp × Chip := d.coreRead m.1 2; (CoreBegins c d w) ∧ (wCls w = 3) ∧ (wOp w = 5) ∧ (m.1 % 2 = 0) ∧ (r.1.status = 0) ∧ (r.1.poison = false)) ∧
    (∃ (c : Chip) (d : Chip) (w : Word), let pc : Nat := c.core.pc.toNat; let m : Nat × Nat := memAddress d w; let r : Resp × Chip := d.coreRead m.1 2; (CoreBegins c d w) ∧ (wCls w = 3) ∧ (wOp w = 5) ∧ (m.1 % 2 = 0) ∧ (r.1.status ≠ 0 ∨ r.1.poison = true) ∧ (r.1.status ≠ 5)) ∧
    (∃ (c : Chip) (d : Chip) (w : Word), let pc : Nat := c.core.pc.toNat; let m : Nat × Nat := memAddress d w; (CoreBegins c d w) ∧ (wCls w = 3) ∧ (wOp w = 5) ∧ (m.1 % 2 ≠ 0)) ∧
    (∃ (c : Chip) (d : Chip) (w : Word), let pc : Nat := c.core.pc.toNat; let m : Nat × Nat := memAddress d w; let r : Resp × Chip := d.coreRead m.1 2; (CoreBegins c d w) ∧ (wCls w = 3) ∧ (wOp w = 7) ∧ (m.1 % 2 = 0) ∧ (r.1.status = 0) ∧ (r.1.poison = false)) ∧
    (∃ (c : Chip) (d : Chip) (w : Word), let pc : Nat := c.core.pc.toNat; let m : Nat × Nat := memAddress d w; let r : Resp × Chip := d.coreRead m.1 2; (CoreBegins c d w) ∧ (wCls w = 3) ∧ (wOp w = 7) ∧ (m.1 % 2 = 0) ∧ (r.1.status ≠ 0 ∨ r.1.poison = true) ∧ (r.1.status ≠ 5)) ∧
    (∃ (c : Chip) (d : Chip) (w : Word), let pc : Nat := c.core.pc.toNat; let m : Nat × Nat := memAddress d w; (CoreBegins c d w) ∧ (wCls w = 3) ∧ (wOp w = 7) ∧ (m.1 % 2 ≠ 0)) ∧
    (∃ (c : Chip) (d : Chip) (w : Word), let pc : Nat := c.core.pc.toNat; let m : Nat × Nat := memAddress d w; let r : Resp × Chip := d.coreRead m.1 4; (CoreBegins c d w) ∧ (wCls w = 3) ∧ (wOp w = 9) ∧ (m.1 % 4 = 0) ∧ (r.1.status = 0) ∧ (r.1.poison = false)) ∧
    (∃ (c : Chip) (d : Chip) (w : Word), let pc : Nat := c.core.pc.toNat; let m : Nat × Nat := memAddress d w; let r : Resp × Chip := d.coreRead m.1 4; (CoreBegins c d w) ∧ (wCls w = 3) ∧ (wOp w = 9) ∧ (m.1 % 4 = 0) ∧ (r.1.status ≠ 0 ∨ r.1.poison = true) ∧ (r.1.status ≠ 5)) ∧
    (∃ (c : Chip) (d : Chip) (w : Word), let pc : Nat := c.core.pc.toNat; let m : Nat × Nat := memAddress d w; (CoreBegins c d w) ∧ (wCls w = 3) ∧ (wOp w = 9) ∧ (m.1 % 4 ≠ 0)) ∧
    (∃ (c : Chip) (d : Chip) (w : Word), let pc : Nat := c.core.pc.toNat; let m : Nat × Nat := memAddress d w; let r : Resp × Chip := d.coreRead m.1 8; (CoreBegins c d w) ∧ (wCls w = 4) ∧ (wOp w = 1) ∧ (m.1 % 8 = 0) ∧ (r.1.status = 0) ∧ (r.1.poison = false)) ∧
    (∃ (c : Chip) (d : Chip) (w : Word), let pc : Nat := c.core.pc.toNat; let m : Nat × Nat := memAddress d w; let r : Resp × Chip := d.coreRead m.1 8; (CoreBegins c d w) ∧ (wCls w = 4) ∧ (wOp w = 1) ∧ (m.1 % 8 = 0) ∧ (r.1.status ≠ 0 ∨ r.1.poison = true) ∧ (r.1.status ≠ 5)) ∧
    (∃ (c : Chip) (d : Chip) (w : Word), let pc : Nat := c.core.pc.toNat; let m : Nat × Nat := memAddress d w; (CoreBegins c d w) ∧ (wCls w = 4) ∧ (wOp w = 1) ∧ (m.1 % 8 ≠ 0)) ∧
    (∃ (c : Chip) (d : Chip) (w : Word), let pc : Nat := c.core.pc.toNat; let m : Nat × Nat := memAddress d w; let r : Resp × Chip := d.coreRead m.1 8; (CoreBegins c d w) ∧ (wCls w = 4) ∧ (wOp w = 3) ∧ (m.1 % 8 = 0) ∧ (r.1.status = 0) ∧ (r.1.poison = false)) ∧
    (∃ (c : Chip) (d : Chip) (w : Word), let pc : Nat := c.core.pc.toNat; let m : Nat × Nat := memAddress d w; let r : Resp × Chip := d.coreRead m.1 8; (CoreBegins c d w) ∧ (wCls w = 4) ∧ (wOp w = 3) ∧ (m.1 % 8 = 0) ∧ (r.1.status ≠ 0 ∨ r.1.poison = true) ∧ (r.1.status ≠ 5)) ∧
    (∃ (c : Chip) (d : Chip) (w : Word), let pc : Nat := c.core.pc.toNat; let m : Nat × Nat := memAddress d w; (CoreBegins c d w) ∧ (wCls w = 4) ∧ (wOp w = 3) ∧ (m.1 % 8 ≠ 0)) :=
  by
  refine ⟨⟨coreChip 0x3110000, (coreChip 0x3110000).coreFetch.2, 0x3110000, ?_⟩,
    ⟨coreChip 0x3116000, (coreChip 0x3116000).coreFetch.2, 0x3116000, ?_⟩,
    ⟨coreChip 0x3310000, (coreChip 0x3310000).coreFetch.2, 0x3310000, ?_⟩,
    ⟨coreChip 0x3316000, (coreChip 0x3316000).coreFetch.2, 0x3316000, ?_⟩,
    ⟨coreChip 0x3511002, (coreChip 0x3511002).coreFetch.2, 0x3511002, ?_⟩,
    ⟨coreChip 0x3517002, (coreChip 0x3517002).coreFetch.2, 0x3517002, ?_⟩,
    ⟨coreChip 0x3510003, (coreChip 0x3510003).coreFetch.2, 0x3510003, ?_⟩,
    ⟨coreChip 0x3710000, (coreChip 0x3710000).coreFetch.2, 0x3710000, ?_⟩,
    ⟨coreChip 0x3716000, (coreChip 0x3716000).coreFetch.2, 0x3716000, ?_⟩,
    ⟨coreChip 0x3710003, (coreChip 0x3710003).coreFetch.2, 0x3710003, ?_⟩,
    ⟨coreChip 0x3911004, (coreChip 0x3911004).coreFetch.2, 0x3911004, ?_⟩,
    ⟨coreChip 0x3917004, (coreChip 0x3917004).coreFetch.2, 0x3917004, ?_⟩,
    ⟨coreChip 0x3910003, (coreChip 0x3910003).coreFetch.2, 0x3910003, ?_⟩,
    ⟨coreChip 0x4110000, (coreChip 0x4110000).coreFetch.2, 0x4110000, ?_⟩,
    ⟨coreChip 0x4116000, (coreChip 0x4116000).coreFetch.2, 0x4116000, ?_⟩,
    ⟨coreChip 0x4110003, (coreChip 0x4110003).coreFetch.2, 0x4110003, ?_⟩,
    ⟨coreChip 0x4310000, (coreChip 0x4310000).coreFetch.2, 0x4310000, ?_⟩,
    ⟨coreChip 0x4316000, (coreChip 0x4316000).coreFetch.2, 0x4316000, ?_⟩,
    ⟨coreChip 0x4310003, (coreChip 0x4310003).coreFetch.2, 0x4310003, ?_⟩⟩ <;> decide +kernel

/-- The hypotheses of `CoreStoresAndExclusivesComplete` can be met, clause by clause. -/
theorem test_witness_CoreStoresAndExclusivesComplete :
    (∃ (c : Chip) (d : Chip) (w : Word), let pc : Nat := c.core.pc.toNat; let m : Nat × Nat := memAddress d w; (CoreBegins c d w) ∧ (wCls w = 3) ∧ (wOp w = 0) ∧ (storeWaits d m.1 = false)) ∧
    (∃ (c : Chip) (d : Chip) (w : Word), let pc : Nat := c.core.pc.toNat; let m : Nat × Nat := memAddress d w; (CoreBegins c d w) ∧ (wCls w = 3) ∧ (wOp w = 4) ∧ (m.1 % 2 = 0) ∧ (storeWaits d m.1 = false)) ∧
    (∃ (c : Chip) (d : Chip) (w : Word), let pc : Nat := c.core.pc.toNat; let m : Nat × Nat := memAddress d w; (CoreBegins c d w) ∧ (wCls w = 3) ∧ (wOp w = 4) ∧ (m.1 % 2 ≠ 0)) ∧
    (∃ (c : Chip) (d : Chip) (w : Word), let pc : Nat := c.core.pc.toNat; let m : Nat × Nat := memAddress d w; (CoreBegins c d w) ∧ (wCls w = 3) ∧ (wOp w = 8) ∧ (m.1 % 4 = 0) ∧ (storeWaits d m.1 = false)) ∧
    (∃ (c : Chip) (d : Chip) (w : Word), let pc : Nat := c.core.pc.toNat; let m : Nat × Nat := memAddress d w; (CoreBegins c d w) ∧ (wCls w = 3) ∧ (wOp w = 8) ∧ (m.1 % 4 ≠ 0)) ∧
    (∃ (c : Chip) (d : Chip) (w : Word), let m : Nat × Nat := memAddress d w; (CoreBegins c d w) ∧ (wCls w = 3) ∧ (wOp w = 8) ∧ (m.1 % 4 = 0) ∧ (storeWaits d m.1 = true)) ∧
    (∃ (c : Chip) (d : Chip) (w : Word), let pc : Nat := c.core.pc.toNat; let m : Nat × Nat := memAddress d w; (CoreBegins c d w) ∧ (wCls w = 4) ∧ (wOp w = 0) ∧ (m.1 % 8 = 0) ∧ (storeWaits d m.1 = false)) ∧
    (∃ (c : Chip) (d : Chip) (w : Word), let pc : Nat := c.core.pc.toNat; let m : Nat × Nat := memAddress d w; (CoreBegins c d w) ∧ (wCls w = 4) ∧ (wOp w = 0) ∧ (m.1 % 8 ≠ 0)) ∧
    (∃ (c : Chip) (d : Chip) (w : Word), let pc : Nat := c.core.pc.toNat; let m : Nat × Nat := memAddress d w; (CoreBegins c d w) ∧ (wCls w = 4) ∧ (wOp w = 2) ∧ (m.1 % 8 = 0) ∧ (storeWaits d m.1 = false)) ∧
    (∃ (c : Chip) (d : Chip) (w : Word), let pc : Nat := c.core.pc.toNat; let m : Nat × Nat := memAddress d w; (CoreBegins c d w) ∧ (wCls w = 4) ∧ (wOp w = 2) ∧ (m.1 % 8 ≠ 0)) ∧
    (∃ (c : Chip) (d : Chip) (w : Word) (k : Nat), let pc : Nat := c.core.pc.toNat; let a : Nat := coreP d (Machine.fld w 15 13); let r : Resp × Chip := d.busRead .core a 4 false; (CoreBegins c d w) ∧ (wCls w = 3) ∧ (wOp w = 11) ∧ (a % 4 = 0) ∧ (exclLine (decodeAddr d a) = some k) ∧ (r.1.status = 0) ∧ (r.1.poison = false)) ∧
    (∃ (c : Chip) (d : Chip) (w : Word), let pc : Nat := c.core.pc.toNat; let a : Nat := coreP d (Machine.fld w 15 13); (CoreBegins c d w) ∧ (wCls w = 3) ∧ (wOp w = 11) ∧ (a % 4 ≠ 0)) ∧
    (∃ (c : Chip) (d : Chip) (w : Word), let pc : Nat := c.core.pc.toNat; let a : Nat := coreP d (Machine.fld w 15 13); (CoreBegins c d w) ∧ (wCls w = 3) ∧ (wOp w = 11) ∧ (a % 4 = 0) ∧ (exclLine (decodeAddr d a) = none)) ∧
    (∃ (c : Chip) (d : Chip) (w : Word) (k : Nat), let pc : Nat := c.core.pc.toNat; let a : Nat := coreP d (Machine.fld w 15 13); (CoreBegins c d w) ∧ (wCls w = 3) ∧ (wOp w = 10) ∧ (a % 4 = 0) ∧ (exclLine (decodeAddr d a) = some k) ∧ (d.core.resv = some k) ∧ ((Chip.coreWrite { d with core := { d.core with resv := none } } a (leBytes 4 (coreG d (wD w)))).1.status = 0)) ∧
    (∃ (c : Chip) (d : Chip) (w : Word) (k : Nat), let pc : Nat := c.core.pc.toNat; let a : Nat := coreP d (Machine.fld w 15 13); (CoreBegins c d w) ∧ (wCls w = 3) ∧ (wOp w = 10) ∧ (a % 4 = 0) ∧ (exclLine (decodeAddr d a) = some k) ∧ (d.core.resv ≠ some k)) ∧
    (∃ (c : Chip) (d : Chip) (w : Word), let pc : Nat := c.core.pc.toNat; let a : Nat := coreP d (Machine.fld w 15 13); (CoreBegins c d w) ∧ (wCls w = 3) ∧ (wOp w = 10) ∧ (a % 4 ≠ 0)) :=
  by
  refine ⟨⟨coreChip 0x3010000, (coreChip 0x3010000).coreFetch.2, 0x3010000, ?_⟩,
    ⟨coreChip 0x3411002, (coreChip 0x3411002).coreFetch.2, 0x3411002, ?_⟩,
    ⟨coreChip 0x3410003, (coreChip 0x3410003).coreFetch.2, 0x3410003, ?_⟩,
    ⟨coreChip 0x3811004, (coreChip 0x3811004).coreFetch.2, 0x3811004, ?_⟩,
    ⟨coreChip 0x3810003, (coreChip 0x3810003).coreFetch.2, 0x3810003, ?_⟩,
    ⟨stimChip 0x3810000, (stimChip 0x3810000).coreFetch.2, 0x3810000, ?_⟩,
    ⟨coreChip 0x4010000, (coreChip 0x4010000).coreFetch.2, 0x4010000, ?_⟩,
    ⟨coreChip 0x4010003, (coreChip 0x4010003).coreFetch.2, 0x4010003, ?_⟩,
    ⟨coreChip 0x4210000, (coreChip 0x4210000).coreFetch.2, 0x4210000, ?_⟩,
    ⟨coreChip 0x4210003, (coreChip 0x4210003).coreFetch.2, 0x4210003, ?_⟩,
    ⟨coreChip 0x3b10000, (coreChip 0x3b10000).coreFetch.2, 0x3b10000, 0x100000 / 64, ?_⟩,
    ⟨oddChip 0x3b10000, (oddChip 0x3b10000).coreFetch.2, 0x3b10000, ?_⟩,
    ⟨coreChip 0x3b16000, (coreChip 0x3b16000).coreFetch.2, 0x3b16000, ?_⟩,
    ⟨resvChip 0x3a10000, (resvChip 0x3a10000).coreFetch.2, 0x3a10000, 0x100000 / 64, ?_⟩,
    ⟨zeroChip 0x3a10000, (zeroChip 0x3a10000).coreFetch.2, 0x3a10000, 0x100000 / 64, ?_⟩,
    ⟨oddChip 0x3a10000, (oddChip 0x3a10000).coreFetch.2, 0x3a10000, ?_⟩⟩ <;> decide +kernel

/-- The hypotheses of `CoreBranchesAndIssueComplete` can be met, clause by clause. -/
theorem test_witness_CoreBranchesAndIssueComplete :
    (∃ (c : Chip) (d : Chip) (w : Word), let pc : Nat := c.core.pc.toNat; (CoreBegins c d w) ∧ (wCls w = 9) ∧ (bitOf w 23 = false)) ∧
    (∃ (c : Chip) (d : Chip) (w : Word), let pc : Nat := c.core.pc.toNat; (CoreBegins c d w) ∧ (wCls w = 9) ∧ (bitOf w 23 = true)) ∧
    (∃ (c : Chip) (d : Chip) (w : Word), let t : Nat := coreP d (Machine.fld w 18 16); (CoreBegins c d w) ∧ (wCls w = 10) ∧ (wOp w = 0) ∧ (t % 4 = 0)) ∧
    (∃ (c : Chip) (d : Chip) (w : Word), let pc : Nat := c.core.pc.toNat; let t : Nat := coreP d (Machine.fld w 18 16); (CoreBegins c d w) ∧ (wCls w = 10) ∧ (wOp w = 0) ∧ (t % 4 ≠ 0)) ∧
    (∃ (c : Chip) (d : Chip) (w : Word), let pc : Nat := c.core.pc.toNat; let t : Nat := coreP d (Machine.fld w 18 16); (CoreBegins c d w) ∧ (wCls w = 10) ∧ (wOp w = 1) ∧ (t % 4 = 0)) ∧
    (∃ (c : Chip) (d : Chip) (w : Word), let pc : Nat := c.core.pc.toNat; let t : Nat := coreP d (Machine.fld w 18 16); (CoreBegins c d w) ∧ (wCls w = 10) ∧ (wOp w = 1) ∧ (t % 4 ≠ 0)) ∧
    (∃ (c : Chip) (d : Chip) (w : Word), let pc : Nat := c.core.pc.toNat; (CoreBegins c d w) ∧ (wCls w = 12) ∧ (wOp w = 0) ∧ ((d.bit Reg.SPIN_STAT 29 && !d.bit Reg.SPIN_STAT 31) = false) ∧ (queueRoom d = true)) ∧
    (∃ (c : Chip) (d : Chip) (w : Word), let pc : Nat := c.core.pc.toNat; (CoreBegins c d w) ∧ (wCls w = 12) ∧ (wOp w = 0) ∧ ((d.bit Reg.SPIN_STAT 29 && !d.bit Reg.SPIN_STAT 31) = false) ∧ (queueRoom d = false) ∧ (queueLive d = false)) ∧
    (∃ (c : Chip) (d : Chip) (w : Word), (CoreBegins c d w) ∧ (wCls w = 12) ∧ (wOp w = 0) ∧ ((d.bit Reg.SPIN_STAT 29 && !d.bit Reg.SPIN_STAT 31) = false) ∧ (queueRoom d = false) ∧ (queueLive d = true)) ∧
    (∃ (c : Chip) (d : Chip) (w : Word), let pc : Nat := c.core.pc.toNat; let t : Nat := coreP d (Machine.fld w 18 16); let r : Resp × Chip := d.coreRead t 8; (CoreBegins c d w) ∧ (wCls w = 12) ∧ (wOp w = 1) ∧ (t % 8 = 0) ∧ (r.1.status = 0) ∧ (r.1.poison = false) ∧ ((r.2.bit Reg.SPIN_STAT 29 && !r.2.bit Reg.SPIN_STAT 31) = false) ∧ (queueRoom r.2 = true)) ∧
    (∃ (c : Chip) (d : Chip) (w : Word), let pc : Nat := c.core.pc.toNat; (CoreBegins c d w) ∧ (wCls w = 12) ∧ (wOp w = 2) ∧ (queueLive d = true) ∧ (awaitMet d (wB w) = true)) ∧
    (∃ (c : Chip) (d : Chip) (w : Word), (CoreBegins c d w) ∧ (wCls w = 12) ∧ (wOp w = 2) ∧ (queueLive d = true) ∧ (awaitMet d (wB w) = false)) ∧
    (∃ (c : Chip) (d : Chip) (w : Word), let pc : Nat := c.core.pc.toNat; (CoreBegins c d w) ∧ (wCls w = 12) ∧ (wOp w = 2) ∧ (queueLive d = false)) ∧
    (∃ (c : Chip) (d : Chip) (w : Word), (coreRuns c = true) ∧ (c.core.hold = .issue) ∧ (asyncTaken c = false) ∧ (c.coreFetch = (some w, d)) ∧ (wOp w = 0) ∧ ((d.bit Reg.SPIN_STAT 29 && !d.bit Reg.SPIN_STAT 31) = false) ∧ (queueRoom d = true)) ∧
    (∃ (c : Chip) (d : Chip) (w : Word), (coreRuns c = true) ∧ (c.core.hold = .await) ∧ (asyncTaken c = false) ∧ (c.coreFetch = (some w, d)) ∧ (queueLive d = true) ∧ (awaitMet d (wB w) = true)) :=
  by
  refine ⟨⟨coreChip 0x9000008, (coreChip 0x9000008).coreFetch.2, 0x9000008, ?_⟩,
    ⟨coreChip 0x9ffffff, (coreChip 0x9ffffff).coreFetch.2, 0x9ffffff, ?_⟩,
    ⟨coreChip 0xa010000, (coreChip 0xa010000).coreFetch.2, 0xa010000, ?_⟩,
    ⟨oddChip 0xa000000, (oddChip 0xa000000).coreFetch.2, 0xa000000, ?_⟩,
    ⟨coreChip 0xa170000, (coreChip 0xa170000).coreFetch.2, 0xa170000, ?_⟩,
    ⟨oddChip 0xa100000, (oddChip 0xa100000).coreFetch.2, 0xa100000, ?_⟩,
    ⟨coreChip 0xc002300, (coreChip 0xc002300).coreFetch.2, 0xc002300, ?_⟩,
    ⟨fullChip false 0xc002300, (fullChip false 0xc002300).coreFetch.2, 0xc002300, ?_⟩,
    ⟨fullChip true 0xc002300, (fullChip true 0xc002300).coreFetch.2, 0xc002300, ?_⟩,
    ⟨coreChip 0xc100000, (coreChip 0xc100000).coreFetch.2, 0xc100000, ?_⟩,
    ⟨coreChip 0xc200100, (coreChip 0xc200100).coreFetch.2, 0xc200100, ?_⟩,
    ⟨fullChip true 0xc200100, (fullChip true 0xc200100).coreFetch.2, 0xc200100, ?_⟩,
    ⟨fullChip false 0xc200100, (fullChip false 0xc200100).coreFetch.2, 0xc200100, ?_⟩,
    ⟨heldChip .issue 0x0C002300, (heldChip .issue 0x0C002300).coreFetch.2, 0x0C002300, ?_⟩,
    ⟨heldChip .await 0x0C200100, (heldChip .await 0x0C200100).coreFetch.2, 0x0C200100, ?_⟩⟩ <;> decide +kernel

/-- The hypotheses of `CoreSystemInstructionsComplete` can be met, clause by clause. -/
theorem test_witness_CoreSystemInstructionsComplete :
    (∃ (c : Chip) (d : Chip) (w : Word), let pc : Nat := c.core.pc.toNat; (CoreBegins c d w) ∧ (wCls w = 13) ∧ (wOp w = 0)) ∧
    (∃ (c : Chip) (d : Chip) (w : Word), let pc : Nat := c.core.pc.toNat; (CoreBegins c d w) ∧ (wCls w = 13) ∧ (wOp w = 1)) ∧
    (∃ (c : Chip) (d : Chip) (w : Word), (CoreBegins c d w) ∧ (wCls w = 13) ∧ (wOp w = 2) ∧ (coreExc d = true)) ∧
    (∃ (c : Chip) (d : Chip) (w : Word), (CoreBegins c d w) ∧ (wCls w = 13) ∧ (wOp w = 2) ∧ (coreExc d = false) ∧ (coreIpl d ≠ 0)) ∧
    (∃ (c : Chip) (d : Chip) (w : Word), let pc : Nat := c.core.pc.toNat; (CoreBegins c d w) ∧ (wCls w = 13) ∧ (wOp w = 2) ∧ (coreExc d = false) ∧ (coreIpl d = 0)) ∧
    (∃ (c : Chip) (d : Chip) (w : Word) (v : Word), let pc : Nat := c.core.pc.toNat; (CoreBegins c d w) ∧ (wCls w = 13) ∧ (wOp w = 3) ∧ (mrsValue d (Machine.fld w 15 8) = some v)) ∧
    (∃ (c : Chip) (d : Chip) (w : Word), let pc : Nat := c.core.pc.toNat; (CoreBegins c d w) ∧ (wCls w = 13) ∧ (wOp w = 4)) ∧
    (∃ (c : Chip) (d : Chip) (w : Word), let pc : Nat := c.core.pc.toNat; (CoreBegins c d w) ∧ (wCls w = 13) ∧ (wOp w = 5)) ∧
    (∃ (c : Chip), (coreRuns c = true) ∧ (c.core.hold = .wfi) ∧ (wfiReady c = true)) ∧
    (∃ (c : Chip) (d : Chip) (w : Word), let pc : Nat := c.core.pc.toNat; (CoreBegins c d w) ∧ (wCls w = 13) ∧ (wOp w = 6)) ∧
    (∃ (c : Chip) (d : Chip) (w : Word), let pc : Nat := c.core.pc.toNat; (CoreBegins c d w) ∧ (wCls w = 13) ∧ (wOp w = 7) ∧ (d.bit Reg.DBG_RUNCTL 8 = false)) ∧
    (∃ (c : Chip) (d : Chip) (w : Word), (CoreBegins c d w) ∧ (wCls w = 13) ∧ (wOp w = 7) ∧ (d.bit Reg.DBG_RUNCTL 8 = true) ∧ (somePortHolds d 2 = true)) ∧
    (∃ (c : Chip) (d : Chip) (w : Word), let pc : Nat := c.core.pc.toNat; (CoreBegins c d w) ∧ (wCls w = 13) ∧ (wOp w = 8)) ∧
    (∃ (c : Chip) (d : Chip) (w : Word), let pc : Nat := c.core.pc.toNat; (CoreBegins c d w) ∧ (wCls w = 13) ∧ (wOp w = 9)) ∧
    (∃ (c : Chip) (d : Chip) (w : Word), let pc : Nat := c.core.pc.toNat; (CoreBegins c d w) ∧ (wCls w = 13) ∧ (wOp w = 10)) ∧
    (∃ (c : Chip) (d : Chip) (w : Word), let pc : Nat := c.core.pc.toNat; (CoreBegins c d w) ∧ (wCls w = 13) ∧ (wOp w = 11)) ∧
    (∃ (c : Chip) (d : Chip) (w : Word), (coreReady c = true) ∧ (c.coreFetch = (some w, d)) ∧ (wordUndefined w = true)) ∧
    (∃ (c : Chip) (k : Nat), (coreRuns c = true) ∧ (c.core.load = none) ∧ (c.core.stepping = none) ∧ (impreciseTaken c = false) ∧ (c.core.haltReq = false) ∧ (irqTaken c = some k) ∧ (k ≠ 0)) ∧
    (∃ (c : Chip) (a : Nat), (coreRuns c = true) ∧ (impreciseTaken c = true) ∧ (c.core.badSt = some a)) :=
  by
  refine ⟨⟨coreChip 0xd000000, (coreChip 0xd000000).coreFetch.2, 0xd000000, ?_⟩,
    ⟨coreChip 0xd100005, (coreChip 0xd100005).coreFetch.2, 0xd100005, ?_⟩,
    ⟨excChip 0x100 0xd200000, (excChip 0x100 0xd200000).coreFetch.2, 0xd200000, ?_⟩,
    ⟨excChip 2 0xd200000, (excChip 2 0xd200000).coreFetch.2, 0xd200000, ?_⟩,
    ⟨coreChip 0xd200000, (coreChip 0xd200000).coreFetch.2, 0xd200000, ?_⟩,
    ⟨coreChip 0xd310100, (coreChip 0xd310100).coreFetch.2, 0xd310100, 0, ?_⟩,
    ⟨coreChip 0xd410000, (coreChip 0xd410000).coreFetch.2, 0xd410000, ?_⟩,
    ⟨coreChip 0xd500000, (coreChip 0xd500000).coreFetch.2, 0xd500000, ?_⟩,
    ⟨{ heldChip .wfi 0 with lines := [3] }, ?_⟩,
    ⟨coreChip 0xd600000, (coreChip 0xd600000).coreFetch.2, 0xd600000, ?_⟩,
    ⟨coreChip 0xd700005, (coreChip 0xd700005).coreFetch.2, 0xd700005, ?_⟩,
    ⟨bkptChip 0xd700005, (bkptChip 0xd700005).coreFetch.2, 0xd700005, ?_⟩,
    ⟨coreChip 0xd800000, (coreChip 0xd800000).coreFetch.2, 0xd800000, ?_⟩,
    ⟨coreChip 0xd900000, (coreChip 0xd900000).coreFetch.2, 0xd900000, ?_⟩,
    ⟨coreChip 0xda00000, (coreChip 0xda00000).coreFetch.2, 0xda00000, ?_⟩,
    ⟨coreChip 0xdb00000, (coreChip 0xdb00000).coreFetch.2, 0xdb00000, ?_⟩,
    ⟨coreChip 0x0E000000, (coreChip 0x0E000000).coreFetch.2, 0x0E000000, ?_⟩,
    ⟨{ excChip 0x10 0 with lines := [3] }, 3, ?_⟩,
    ⟨{ coreChip 0 with core := { (coreChip 0).core with badSt := some 7 } }, 7, ?_⟩⟩ <;> decide +kernel

/-- The hypotheses of `ArrayUnsignedOverflow` can be met, clause by clause. -/
theorem test_witness_ArrayUnsignedOverflow :
    insnSgn 0 = false ∧ ({ a := 1, b := 1, d := 255 } : PeIn).a < 2 ^ insnW 0 ∧ ({ a := 1, b := 1, d := 255 } : PeIn).b < 2 ^ insnW 0 ∧ ({ a := 1, b := 1, d := 255 } : PeIn).d < 2 ^ (insnW 0 + 8) :=
  by decide

/-- The hypotheses of `ArrayDivideByZero` can be met, clause by clause. -/
theorem test_witness_ArrayDivideByZero :
    (∃ (i : DWord) (x : PeIn), x.a < 2 ^ insnW i ∧ x.b = 0 ∧ insnSgn i = false) ∧
    (∃ (i : DWord) (x : PeIn), x.a < 2 ^ insnW i ∧ x.b = 0 ∧ insnSgn i = true ∧ x.a < 2 ^ (insnW i - 1)) ∧
    (∃ (i : DWord) (x : PeIn), x.a < 2 ^ insnW i ∧ x.b = 0 ∧ insnSgn i = true ∧ 2 ^ (insnW i - 1) ≤ x.a) :=
  ⟨⟨2 ^ 50, { a := 3 }, by decide⟩, ⟨2 ^ 50 + 2 ^ 10, { a := 1 }, by decide⟩, ⟨2 ^ 50 + 2 ^ 10, { a := 2 }, by decide⟩⟩

/-- The hypotheses of `ArrayNarrowing` can be met, clause by clause. -/
theorem test_witness_ArrayNarrowing :
    (0 < 8) ∧ (300 < intLo true 8 ∨ intHi true 8 < 300) ∧ (-300 < intLo true 8) ∧ (narrow true true 8 100).2 = false :=
  by decide

/-- The hypotheses of `ArrayExactResults` can be met, clause by clause. -/
theorem test_witness_ArrayExactResults :
    (∃ (i : DWord) (x : PeIn), x.a < 2 ^ insnW i ∧ x.b < 2 ^ insnW i ∧ insnShf i + 1 = insnW i ∧ intOf (insnSgn i) (insnW i) x.b ≠ 0 ∧
      ¬(insnSgn i = true ∧ intOf (insnSgn i) (insnW i) x.a = intLo true (insnW i) ∧ intOf (insnSgn i) (insnW i) x.b = -1)) ∧
    (∃ (i : DWord) (x : PeIn), x.a < 2 ^ insnW i ∧ x.b < 2 ^ insnW i ∧ insnSgn i = true ∧ intOf true (insnW i) x.a = intLo true (insnW i) ∧
      intOf true (insnW i) x.b = -1) :=
  ⟨⟨2 ^ 50 + 1, { a := 3, b := 2 }, by decide⟩, ⟨3 * 2 ^ 50 + 2 ^ 10, { a := 8, b := 15 }, by decide⟩⟩

/-- The hypotheses of `SaturatingAdditionOfTheCore` can be met, clause by clause. -/
theorem test_witness_SaturatingAdditionOfTheCore :
    (∃ (c d : Chip) (w : Word), CoreBegins c d w ∧ wCls w ≤ 1 ∧ 14 ≤ wOp w) ∧
    (∃ (c d : Chip) (w : Word), CoreBegins c d w ∧ wCls w ≤ 1 ∧ wOp w = 2 ∧ coreG d (wA w) = 0 ∧ aluB d w = 0x80000000) :=
  ⟨⟨coreChip 0x00E12380, (coreChip 0x00E12380).coreFetch.2, 0x00E12380, by decide +kernel⟩,
    ⟨mostChip 0x00210380, (mostChip 0x00210380).coreFetch.2, 0x00210380, by decide +kernel⟩⟩

/-- The hypotheses of `DivisionOfTheCore` can be met, clause by clause. -/
theorem test_witness_DivisionOfTheCore :
    (7 : Nat) < 2 ^ 32 ∧ (2 : Nat) ≠ 0 ∧ ¬((7 : Nat) = 2 ^ 31 ∧ (2 : Nat) = 2 ^ 32 - 1) ∧ (2 ^ 31 : Nat) < 2 ^ 32 :=
  by decide

/-- The hypotheses of `ArrayCommandsTouchNoSecret` can be met, clause by clause. -/
theorem test_witness_ArrayCommandsTouchNoSecret :
    ∃ t, exec .nop { pending := [], chip := vendorChip 0 } = .next t :=
  ⟨_, rfl⟩

/-- The hypotheses of `RegisterInstructionsLeaveMemory` can be met, clause by clause. -/
theorem test_witness_RegisterInstructionsLeaveMemory :
    ∃ t, exec .distaffNop { pending := [], chip := coreChip 0x0D000000 } = .next t :=
  ⟨_, rfl⟩

/-- The hypotheses of `StoresWriteOnlyTheirBytes` can be met, clause by clause. -/
theorem test_witness_StoresWriteOnlyTheirBytes :
    ∃ (c d : Chip) (w : Word), CoreBegins c d w ∧ wCls w = 3 ∧ wOp w = 8 ∧ (memAddress d w).1 % 4 = 0 ∧ decodeAddr d (memAddress d w).1 = .dtcm 0x100000 ∧
      portState d 7 = 0 ∧ d.eccAt (0x100000 / 4 * 4) ≠ .double :=
  ⟨coreChip 0x03810000, (coreChip 0x03810000).coreFetch.2, 0x03810000, by decide +kernel⟩

end Sys2Proof.Tests
end

section
/-!
SUPPORT. Every command settles the chip it leaves.
-/
namespace Sys2Proof.Machine

theorem step_cons (i : Instr) (q : List Instr) (c : Chip) :
    step { pending := i :: q, chip := c } = exec i { pending := q, chip := c } := rfl

/-- What a command can do: every arm of the dispatch unfolds to `runAny`, through `run`, `regRun` or a row of the mailbox, so it answers a
next state that keeps the queue and whose chip is settled. -/
theorem exec_eq_next_settle (i : Instr) (s : State) : ∃ d : Chip, exec i s = .next { s with chip := d.settle } := by
  cases i <;> exact ⟨_, rfl⟩

/-- Settles O1: with a command at the front, `step` is `exec` on the rest of the queue (the order of the queue is log entry 1's choice). -/
theorem stepRunsTheFrontCommand : Obligations.StepRunsTheFrontCommand := step_cons

/-- Settles O3: no arm of the dispatch answers a fault or a refusal, since each settles the chip it leaves (log entries 4 and 104). -/
theorem everyCommandAnswersANextState : Obligations.EveryCommandAnswersANextState := by
  intro i s
  obtain ⟨d, hd⟩ := exec_eq_next_settle i s
  exact ⟨d.settle, hd⟩

end Sys2Proof.Machine
end

section
/-!
SUPPORT. The register file after reset and after a write.
-/
namespace Sys2Proof.Machine

/-- The register file after reset lists SPIN_STAT alone. -/
theorem reg_reset_of_ne {a : Nat} (h : a ≠ 0x21000000) : State.reset.chip.reg a = regReset a := by
  have hne : ¬0x21000000 = a := fun e => h e.symm
  rw [State.reset, Chip.reg, mapGet, if_neg hne, mapGet]

/-- The pending registers of both views reset to 0 (R488). -/
theorem regReset_pend (k : Fin 8) :
    regReset (Reg.EVT_DPENDk 0 + 4 * k.val) = 0#32 ∧ regReset (Reg.EVT_HPENDk 0 + 4 * k.val) = 0#32 := by
  decide +revert

/-- A vector of the event block whose registers reset to 0 holds no bit after reset. -/
theorem vecBit_reset {base i : Nat} (hne : base + 4 * (i / 32) ≠ 0x21000000) (h0 : regReset (base + 4 * (i / 32)) = 0#32) :
    State.reset.chip.vecBit base i = false := by
  simp [Chip.vecBit, Chip.bit, reg_reset_of_ne hne, h0]

theorem vecBit_pend_reset (i : Fin 256) :
    State.reset.chip.vecBit (Reg.EVT_DPENDk 0) i.val = false ∧ State.reset.chip.vecBit (Reg.EVT_HPENDk 0) i.val = false := by
  have hk : i.val / 32 < 8 := by omega
  obtain ⟨hd, hh⟩ := regReset_pend ⟨i.val / 32, hk⟩
  exact ⟨vecBit_reset (by simp only [Reg.EVT_DPENDk]; omega) hd, vecBit_reset (by simp only [Reg.EVT_HPENDk]; omega) hh⟩

/-- Settles O6: the register file after reset lists SPIN_STAT alone, so every other register, the pending ones among them, reads its reset
value. -/
theorem resetRegistersReadTheirResetValues : Obligations.ResetRegistersReadTheirResetValues :=
  ⟨rfl, fun _ => rfl, rfl, fun _ h => reg_reset_of_ne h, rfl, vecBit_pend_reset⟩

theorem bitOf_and (x y : Word) (i : Nat) : bitOf (x &&& y) i = (bitOf x i && bitOf y i) := BitVec.getLsbD_and
theorem bitOf_or (x y : Word) (i : Nat) : bitOf (x ||| y) i = (bitOf x i || bitOf y i) := BitVec.getLsbD_or
theorem bitOf_not (x : Word) {i : Nat} (hi : i < 32) : bitOf (~~~x) i = !bitOf x i := by
  have h : (~~~x).getLsbD i = (decide (i < 32) && !x.getLsbD i) := BitVec.getLsbD_not
  rw [decide_eq_true hi, Bool.true_and] at h
  exact h
theorem bitOf_ofNat (n : Nat) {i : Nat} (hi : i < 32) : bitOf (BitVec.ofNat 32 n) i = n.testBit i := by
  rw [bitOf, BitVec.toNat_ofNat, Nat.testBit_mod_two_pow, decide_eq_true hi, Bool.true_and]

/-- Bit i of a register after a bus write: an RW or WO bit takes the data, then a 1 clears a W1C bit and sets a W1S bit (R9). -/
theorem bitOf_rowWrite (r : RegRow) (old data : Word) {i : Nat} (hi : i < 32) :
    bitOf (rowWrite r old data) i =
      (((if (r.rw.testBit i || r.wo.testBit i) then bitOf data i else bitOf old i) && !(r.w1c.testBit i && bitOf data i)) ||
        (r.w1s.testBit i && bitOf data i)) := by
  simp only [rowWrite, bitOf_and, bitOf_or, bitOf_not _ hi, bitOf_ofNat _ hi, Nat.testBit_or]
  cases r.rw.testBit i || r.wo.testBit i <;> simp [Bool.and_comm]

/-- Settles O9: the register file is a sparse map, and `bitOf_rowWrite` gives each bit of a bus write. -/
theorem registerWriteIsReadBack : Obligations.RegisterWriteIsReadBack := by
  refine ⟨reg_setReg_same, fun c a b v h => reg_setReg_ne c v h, fun c a i j v _ hj => bit_setBit c a i j v hj, ?_, ?_⟩
  · intro r old data i hi hw1c hw1s
    simp [bitOf_rowWrite r old data hi, hw1c, hw1s]
  · intro r old data i hi hrw hwo
    simp [bitOf_rowWrite r old data hi, hrw, hwo]

end Sys2Proof.Machine
end

section
/-!
SUPPORT. A command of NCLK completes.
-/
namespace Sys2Proof.Machine

/-- A command whose meaning is `run f` completes with what `f` makes of the chip. -/
theorem becomes_run {i : Instr} {g : State → Host.Outcome State Fault Refusal} {f : Chip → Chip} {c c' : Chip}
    (hi : ∀ s, exec i s = g s) (hg : ∀ s, g s = run f s) (h : f c = c') : Becomes i c c' := by
  intro hn q
  simp only [hi, hg, run, runAny, hn, if_true, h]

end Sys2Proof.Machine
end

section
/-!
SUPPORT. Sparse data and the bytes of a number.
-/
namespace Sys2Proof.Machine

/-- Keys 0 to n − 1 set in turn hold what was set, whatever the map held. -/
theorem mapGet_foldl_mapSet {α : Type} [DecidableEq α] (d : α) (f : Nat → α) (m : List (Nat × α)) {k n : Nat} (h : k < n) :
    mapGet d ((List.range n).foldl (fun m w => mapSet d m w (f w)) m) k = f k := by
  induction n with
  | zero => omega
  | succ n ih =>
    rw [List.range_succ, List.foldl_append, List.foldl_cons, List.foldl_nil]
    by_cases hk : k = n
    · rw [hk, mapGet_mapSet_same]
    · rw [mapGet_mapSet_ne d d _ _ hk, ih (by omega)]

@[simp] theorem length_leBytes (n x : Nat) : (leBytes n x).length = n := by
  induction n generalizing x with
  | zero => rfl
  | succ n ih => simp [leBytes, ih]

theorem leNat_leBytes (n x : Nat) : leNat (leBytes n x) = x % 256 ^ n := by
  induction n generalizing x with
  | zero => simp [leBytes, leNat, Nat.mod_one]
  | succ n ih => rw [leBytes, leNat, ih, BitVec.toNat_ofNat, pow_succ' 256 n, Nat.mod_mul]

theorem take_leBytes {k n : Nat} (h : k ≤ n) (x : Nat) : (leBytes n x).take k = leBytes k x := by
  induction k generalizing n x with
  | zero => rfl
  | succ k ih =>
    obtain ⟨m, rfl⟩ : ∃ m, n = m + 1 := ⟨n - 1, by omega⟩
    rw [leBytes, List.take_succ_cons, ih (by omega), leBytes]

/-- A word is the number that its four bytes spell. -/
@[simp] theorem ofNat_leNat_leBytes (v : Word) : BitVec.ofNat 32 (leNat (leBytes 4 v.toNat)) = v := by
  have hv : v.toNat % 256 ^ 4 = v.toNat := Nat.mod_eq_of_lt v.isLt
  rw [leNat_leBytes, hv, BitVec.ofNat_toNat, BitVec.setWidth_eq]

end Sys2Proof.Machine
end

section
/-!
SUPPORT. Accesses that reach a register.
-/
namespace Sys2Proof.Machine

/-- Addresses from 0x2000_0000 to 0x2FFF_FFFF are the registers' own (R26). -/
theorem decodeAddr_register (c : Chip) {a : Nat} (hlo : 0x20000000 ≤ a) (hhi : a < 0x30000000) :
    decodeAddr c a = .register a := by
  have h1 : a < 0x8000000000 := by omega
  have h2 : ¬ a < 0x80000 := by omega
  have h3 : ¬ a < 0x100000 := by omega
  have h4 : ¬ a < 0x180000 := by omega
  have h5 : ¬ a < 0x10000000 := by omega
  have h6 : ¬ a < 0x20000000 := by omega
  simp only [decodeAddr, decodeLocal, h1, h2, h3, h4, h5, h6, hhi, if_true, if_false]

variable {c : Chip} {a : Nat} {r : RegRow} {who : Initiator}

theorem busAccess_nothing (h : decodeAddr c a = .nothing) (near write : Bool) (n : Nat) (go : Target → Resp × Chip) :
    c.busAccess near a n write go = (respErr 0, c) := by
  simp only [Chip.busAccess, h]

/-- An aligned access to a target of this device whose port is OPEN is what the target does (R256, R268). -/
theorem busAccess_open {tgt : Target} {k n : Nat} (hd : decodeAddr c a = tgt) (hk : targetNode tgt = some k) (hn : n ≠ 0)
    (ha : a % n = 0) (hp : portState c k = 0) (near write : Bool) (go : Target → Resp × Chip) :
    c.busAccess near a n write go = go tgt := by
  rw [Chip.busAccess, hd]
  split
  · cases hk
  · cases hk
  · rw [hk]
    simp only [hn, ha, ne_eq, not_true, or_false, if_false, hp, ite_self]
    cases nodeTile k <;> rfl

/-- An aligned access reaches the register at `a`, of row `r`: the address decodes to it, its port is OPEN (R256, R268), and it does not
lie in the snapshot window of LIFE (R570). -/
structure RegisterOpen (c : Chip) (a : Nat) (r : RegRow) : Prop where
  decode  : decodeAddr c a = .register a
  node    : targetNode (.register a) = some (regNode a)
  aligned : a % 4 = 0
  port    : portState c (regNode a) = 0
  noSnap  : inSnapshot a = false
  row     : regRow a = some r

theorem RegisterOpen.busAccess (h : RegisterOpen c a r) (near write : Bool) (go : Target → Resp × Chip) :
    c.busAccess near a 4 write go = go (.register a) :=
  busAccess_open h.decode h.node (by decide) h.aligned h.port near write go

/-- Every access to the DBG block is Debug's, and refused here (R534). -/
theorem regBlock_ne_dbg {write : Bool} (h : regRefused who a write = false) : regBlock a ≠ 17 := by
  intro h17
  simp [regRefused, h17] at h

theorem RegisterOpen.targetRead (h : RegisterOpen c a r) (hw : regRefused who a false = false) (peek : Bool) :
    c.targetRead who a 4 peek (.register a) = ({ data := regShown c r a }, if peek then c else c.regTouched r a) := by
  simp [Chip.targetRead, hw, h.noSnap, h.row, Chip.regRead]

theorem RegisterOpen.targetWrite (h : RegisterOpen c a r) (hw : regRefused who a true = false) (v : Word) :
    c.targetWrite who a (leBytes 4 v.toNat) false (.register a) = ({}, c.regWrite who r a v) := by
  simp [Chip.targetWrite, hw, h.noSnap, h.row]

theorem RegisterOpen.meshRead (h : RegisterOpen c a r) (hw : regRefused who a false = false) (peek : Bool) :
    c.meshRead who a 4 peek = ({ data := regShown c r a }, if peek then c else c.regTouched r a) := by
  rw [Chip.meshRead, h.busAccess, h.targetRead hw]

theorem RegisterOpen.meshWrite (h : RegisterOpen c a r) (hw : regRefused who a true = false) (v : Word) :
    c.meshWrite who a (leBytes 4 v.toNat) false = ({}, c.regWrite who r a v) := by
  rw [Chip.meshWrite, length_leBytes, h.busAccess, h.targetWrite hw]

theorem RegisterOpen.busRead (h : RegisterOpen c a r) (hw : regRefused who a false = false) :
    c.busRead who a 4 false = ({ data := regShown c r a }, c.regTouched r a) := by
  simp [Chip.busRead, h.busAccess, Chip.anyRead, regBlock_ne_dbg hw, h.targetRead hw]

theorem RegisterOpen.busWrite (h : RegisterOpen c a r) (hw : regRefused who a true = false) (v : Word) :
    c.busWrite who a (leBytes 4 v.toNat) false = ({}, c.regWrite who r a v) := by
  simp [Chip.busWrite, h.busAccess, Chip.anyWrite, regBlock_ne_dbg hw, h.targetWrite hw]

theorem RegisterOpen.busWrite_refused (h : RegisterOpen c a r) (hb : regBlock a ≠ 17) (hw : regRefused who a true = true) (v : Word) :
    c.busWrite who a (leBytes 4 v.toNat) false = (respErr 2, c) := by
  simp [Chip.busWrite, h.busAccess, Chip.anyWrite, hb, Chip.targetWrite, hw]

end Sys2Proof.Machine
end

section
/-!
SUPPORT. Register accesses of the mesh.
-/
namespace Sys2Proof.Machine

variable {c : Chip} {a : Nat} {r : RegRow} {who : Initiator}

/-- An aligned address of a block of the register map reaches its register where the port is OPEN. -/
theorem registerOpen_of_port (hlo : 0x20000000 ≤ a) (hhi : a < 0x30000000) (hb : regBlock a < 22) (h4 : a % 4 = 0)
    (hs : inSnapshot a = false) (hr : regRow a = some r) (hp : portState c (regNode a) = 0) : RegisterOpen c a r :=
  ⟨decodeAddr_register c hlo hhi, if_pos hb, h4, hp, hs, hr⟩

theorem registerOpen_doorbell (hp : portState c (regNode Reg.EVT_DOORBELL) = 0) :
    RegisterOpen c Reg.EVT_DOORBELL ⟨0x20100040, 4, 1, 0, 0, 0, 0xFF, 0, 0, 0⟩ :=
  registerOpen_of_port (by decide) (by decide) (by decide) (by decide) (by decide) rfl hp

theorem registerOpen_odeStat (hp : portState c (regNode Reg.ODE_STAT) = 0) :
    RegisterOpen c Reg.ODE_STAT ⟨0x20E00000, 4, 1, 0, 0, 0, 0, 0, 0xFF0000, 0xFF00FFFF⟩ :=
  registerOpen_of_port (by decide) (by decide) (by decide) (by decide) (by decide) rfl hp

theorem registerOpen_wlog (hp : portState c (regNode Reg.ODE_WLOG) = 0) :
    RegisterOpen c Reg.ODE_WLOG ⟨0x20E00004, 4, 1, 0, 0, 0, 0, 0, 0, 0x80FFFFFF⟩ :=
  registerOpen_of_port (by decide) (by decide) (by decide) (by decide) (by decide) rfl hp

theorem regRefused_doorbell (who : Initiator) :
    regRefused who Reg.EVT_DOORBELL true = decide (who ∉ [Initiator.core, .host, .debugger]) := by
  cases who <;> rfl

theorem regWrite_doorbell (v : Word) : c.regWrite who r Reg.EVT_DOORBELL v = c.doorbell (Machine.fld v 7 0) := rfl

theorem regShown_odeStat :
    regShown c r Reg.ODE_STAT =
      c.fld Reg.ODE_STAT 31 30 * 2 ^ 30 + c.od.writes.length % 64 * 2 ^ 24 + c.fld Reg.ODE_STAT 23 0 := rfl

theorem regShown_wlog_cons {i j : Nat} {rest : List (Nat × Nat)} (h : c.od.wlog = (i, j) :: rest) :
    regShown c r Reg.ODE_WLOG = 2 ^ 31 + i * 256 + j := by
  simp [regShown, regBlock, derivedIo, Reg.ODE_WLOG, Reg.PCIA_ID, Reg.ODE_STAT, h]

theorem regShown_wlog_nil (h : c.od.wlog = []) : regShown c r Reg.ODE_WLOG = 0 := by
  simp [regShown, regBlock, derivedIo, Reg.ODE_WLOG, Reg.PCIA_ID, Reg.ODE_STAT, h]

theorem regTouched_wlog : c.regTouched r Reg.ODE_WLOG = { c with od := { c.od with wlog := c.od.wlog.drop 1 } } := rfl

/-! ### The rows -/

theorem registerWrite_becomes {a : Addr} (h : RegisterOpen c a.toNat r) (hw : regRefused who a.toNat true = false) (v : Word) :
    Becomes (.registerWrite who a v) c { c.regWrite who r a.toNat v with resp := {} } :=
  becomes_run (exec_registerWrite who a v) (fun _ => rfl) (by rw [h.busWrite hw]; rfl)

theorem registerWrite_nothing_becomes {a : Addr} (h : decodeAddr c a.toNat = .nothing) (v : Word) :
    Becomes (.registerWrite who a v) c { c with resp := { status := 1, cause := 0 } } :=
  becomes_run (exec_registerWrite who a v) (fun _ => rfl) (by rw [Chip.busWrite, busAccess_nothing h]; rfl)

theorem evtDoorbell_becomes (hw : who ∈ [Initiator.core, .host, .debugger]) (hp : portState c (regNode Reg.EVT_DOORBELL) = 0)
    (v : Word) :
    Becomes (.evtDoorbell who v) c
      { (onesBelow 8 (Machine.fld v 7 0)).foldl (fun d j => d.raise (248 + j)) c with resp := {} } := by
  have hr : regRefused who Reg.EVT_DOORBELL true = false :=
    (regRefused_doorbell who).trans (decide_eq_false (not_not.mpr hw))
  exact becomes_run (exec_evtDoorbell who v) (fun _ => rfl) (by
    rw [(registerOpen_doorbell hp).busWrite hr, regWrite_doorbell]; rfl)

theorem evtDoorbell_refused_becomes (hw : who ∉ [Initiator.core, .host, .debugger])
    (hp : portState c (regNode Reg.EVT_DOORBELL) = 0) (v : Word) :
    Becomes (.evtDoorbell who v) c { c with resp := { status := 1, cause := 2 } } := by
  have hr : regRefused who Reg.EVT_DOORBELL true = true := (regRefused_doorbell who).trans (decide_eq_true hw)
  exact becomes_run (exec_evtDoorbell who v) (fun _ => rfl) (by
    rw [(registerOpen_doorbell hp).busWrite_refused (by decide) hr]; rfl)

theorem wlogRead_becomes (h : RegisterOpen c Reg.ODE_WLOG r) :
    Becomes (.wlogRead who) c
      { c with od := { c.od with wlog := c.od.wlog.drop 1 }, resp := { data := regShown c r Reg.ODE_WLOG } } :=
  becomes_run (exec_wlogRead who) (fun _ => rfl) (by rw [h.busRead rfl, regTouched_wlog]; rfl)

theorem wlogRead_cons_becomes (hp : portState c (regNode Reg.ODE_WLOG) = 0) {i j : Nat} {rest : List (Nat × Nat)}
    (h : c.od.wlog = (i, j) :: rest) :
    Becomes (.wlogRead who) c { c with od := { c.od with wlog := rest }, resp := { data := 2 ^ 31 + i * 256 + j } } := by
  simpa only [regShown_wlog_cons h, h, List.drop_one, List.tail_cons] using wlogRead_becomes (who := who) (registerOpen_wlog hp)

theorem wlogRead_nil_becomes (hp : portState c (regNode Reg.ODE_WLOG) = 0) (h : c.od.wlog = []) :
    Becomes (.wlogRead who) c { c with resp := { data := 0 } } := by
  have hod : { c.od with wlog := c.od.wlog.drop 1 } = c.od := by rw [h, List.drop_nil, ← h]
  simpa only [regShown_wlog_nil h, hod] using wlogRead_becomes (who := who) (registerOpen_wlog hp)

theorem odeStatRead_becomes (hp : portState c (regNode Reg.ODE_STAT) = 0) :
    Becomes (.odeStatRead who) c
      { c.setReg Reg.ODE_STAT (c.reg Reg.ODE_STAT &&& 0xFF00FFFF#32) with
        resp := { data := c.fld Reg.ODE_STAT 31 30 * 2 ^ 30 + c.od.writes.length % 64 * 2 ^ 24 + c.fld Reg.ODE_STAT 23 0 } } :=
  becomes_run (exec_odeStatRead who) (fun _ => rfl) (by
    rw [(registerOpen_odeStat hp).busRead rfl, regShown_odeStat]; rfl)

end Sys2Proof.Machine
end

section
/-!
SUPPORT. The DBG block at a debug port.
-/
namespace Sys2Proof.Machine

variable {c : Chip} {p a off : Nat} {r : RegRow} {write : Bool}

/-- A port's access is refused exactly below the level that R534 asks for. -/
theorem dbgRefused_port (hp : p < 3) (off : Nat) (write : Bool) :
    dbgRefused c p off write = decide (portLevel c p < dbgLevel off write) := if_pos hp

theorem dbgRefused_of_lt (hp : p < 3) (h : portLevel c p < dbgLevel off write) : dbgRefused c p off write = true := by
  rw [dbgRefused_port hp, decide_eq_true h]

theorem dbgRefused_of_le (hp : p < 3) (h : dbgLevel off write ≤ portLevel c p) : dbgRefused c p off write = false := by
  rw [dbgRefused_port hp, decide_eq_false (Nat.not_lt.mpr h)]

theorem dbgRead_refused (h : dbgRefused c p (a % 0x100000) false = true) : c.dbgRead p a = (respErr 2, c) := by
  simp only [Chip.dbgRead, h, if_true]

theorem dbgRead_noRow (h : dbgRefused c p (a % 0x100000) false = false) (hr : regRow a = none) :
    c.dbgRead p a = (respErr 0, c) := by
  simp only [Chip.dbgRead, h, hr, if_false, Bool.false_eq_true]

/-- A read of a register that has no read of its own shows it and leaves the chip. -/
theorem dbgRead_plain (h : dbgRefused c p (a % 0x100000) false = false) (hr : regRow a = some r)
    (hx : a % 0x100000 ∉ [0x114, 0x2000, 0x80C]) : c.dbgRead p a = (respOk (dbgShown c r p a), c) := by
  simp only [List.mem_cons, List.not_mem_nil, or_false, not_or] at hx
  obtain ⟨hcdata, hpmem, hreel⟩ := hx
  simp only [Chip.dbgRead, h, hr, hcdata, hpmem, hreel, if_false, Bool.false_eq_true]

theorem dbgWrite_noRow (h : dbgRefused c p (a % 0x100000) true = false) (hr : regRow a = none) (v : Word) :
    c.dbgWrite p a v = (respErr 0, c) := by
  simp only [Chip.dbgWrite, h, hr, if_false, Bool.false_eq_true]

/-- A write of a register that has no write of its own puts the bits that its access codes give. -/
theorem dbgWrite_plain (h : dbgRefused c p (a % 0x100000) true = false) (hr : regRow a = some r)
    (hx : a % 0x100000 ∉ [4, 0x100, 0x114, 0x200])
    (ho : a % 0x100000 < 0x700 ∨ 0x780 ≤ a % 0x100000 ∧ a % 0x100000 < 0x1000 ∨ 0x1404 ≤ a % 0x100000 ∧ a % 0x100000 < 0x2000)
    (v : Word) : c.dbgWrite p a v = ({}, c.regPut r a v) := by
  simp only [List.mem_cons, List.not_mem_nil, or_false, not_or] at hx
  obtain ⟨hauth, hrun, hcdata, hdbm⟩ := hx
  have hstim : ¬(0x700 ≤ a % 0x100000 ∧ a % 0x100000 < 0x780) := by omega
  have hstim' : ¬(0x700 ≤ a % 0x100000 ∧ a % 0x100000 < 0x780 ∧ stimHolds c ((a % 0x100000 - 0x700) / 4) = true) :=
    fun hh => hstim ⟨hh.1, hh.2.1⟩
  have hbuf : ¬(0x1000 ≤ a % 0x100000 ∧ a % 0x100000 < 0x1404) := by omega
  have hpmem : ¬0x2000 ≤ a % 0x100000 := by omega
  simp only [Chip.dbgWrite, h, hr, hauth, hrun, hcdata, hdbm, hstim, hstim', hbuf, hpmem, if_false, Bool.false_eq_true]

/-! ### The JTAG port's DBGACC (R535) -/

theorem dbgAccess_refused (h : dbgRefused c p off write = true) (v : Word) : c.dbgAccess p write off v = (3, 0, c) := if_pos h

theorem dbgAccess_misaligned (hl : dbgRefused c p off write = false) (h4 : off % 4 ≠ 0) (v : Word) :
    c.dbgAccess p write off v = (1, 0, c) := by
  simp only [Chip.dbgAccess, hl, h4, if_false, Bool.false_eq_true, ne_eq, not_false_iff, if_true]

theorem dbgAccess_noRow (hl : dbgRefused c p off write = false) (hoff : off < 0x100000) (h4 : off % 4 = 0)
    (hr : regRow (0x21100000 + off) = none) (v : Word) : c.dbgAccess p write off v = (1, 0, c) := by
  have hmod : (0x21100000 + off) % 0x100000 = off := by omega
  cases write with
  | false =>
    have hread : c.dbgRead p (0x21100000 + off) = (respErr 0, c) := dbgRead_noRow (by rwa [hmod]) hr
    simp only [Chip.dbgAccess, hl, h4, hread, if_false, Bool.false_eq_true, ne_eq, not_true]; rfl
  | true =>
    have hwrite : c.dbgWrite p (0x21100000 + off) v = (respErr 0, c) := dbgWrite_noRow (by rwa [hmod]) hr v
    simp only [Chip.dbgAccess, hl, h4, hwrite, if_false, if_true, Bool.false_eq_true, ne_eq, not_true]; rfl

/-- An access that is misaligned, or that meets no register, answers ERR. -/
theorem dbgAccess_err (hl : dbgRefused c p off write = false) (hoff : off < 0x100000)
    (h : off % 4 ≠ 0 ∨ regRow (0x21100000 + off) = none) (v : Word) : c.dbgAccess p write off v = (1, 0, c) := by
  by_cases h4 : off % 4 = 0
  · exact dbgAccess_noRow hl hoff h4 (h.resolve_left (not_not.mpr h4)) v
  · exact dbgAccess_misaligned hl h4 v

theorem dbgAccess_read (hl : dbgRefused c p off false = false) (hoff : off < 0x100000) (h4 : off % 4 = 0)
    (hx : off ∉ [0x114, 0x2000, 0x80C]) (hr : regRow (0x21100000 + off) = some r) (v : Word) :
    c.dbgAccess p false off v = (0, dbgShown c r p (0x21100000 + off), c) := by
  have hmod : (0x21100000 + off) % 0x100000 = off := by omega
  have hread : c.dbgRead p (0x21100000 + off) = (respOk (dbgShown c r p (0x21100000 + off)), c) :=
    dbgRead_plain (by rwa [hmod]) hr (by rwa [hmod])
  simp only [Chip.dbgAccess, hl, h4, hread, respOk, if_false, if_true, Bool.false_eq_true, ne_eq, not_true]

theorem dbgAccess_write (hl : dbgRefused c p off true = false) (hoff : off < 0x100000) (h4 : off % 4 = 0)
    (hx : off ∉ [4, 0x100, 0x114, 0x200])
    (ho : off < 0x700 ∨ 0x780 ≤ off ∧ off < 0x1000 ∨ 0x1404 ≤ off ∧ off < 0x2000)
    (hr : regRow (0x21100000 + off) = some r) (v : Word) :
    c.dbgAccess p true off v = (0, 0, c.regPut r (0x21100000 + off) v) := by
  have hmod : (0x21100000 + off) % 0x100000 = off := by omega
  have hwrite : c.dbgWrite p (0x21100000 + off) v = ({}, c.regPut r (0x21100000 + off) v) :=
    dbgWrite_plain (by rwa [hmod]) hr (by rwa [hmod]) (by rwa [hmod]) v
  simp only [Chip.dbgAccess, hl, h4, hwrite, if_false, if_true, Bool.false_eq_true, ne_eq, not_true]

theorem dbgacc_becomes {off : BitVec 20} {v : Word} {st data : Nat} {d : Chip}
    (h : c.dbgAccess 0 write off.toNat v = (st, data, d)) :
    Becomes (.dbgacc write off v) c { d with dbg := { d.dbg with ir := 8, tdr := st * 2 ^ 32 + data } } :=
  becomes_run (exec_dbgacc write off v) (fun _ => rfl) (by rw [h]; rfl)

end Sys2Proof.Machine
end

section
/-!
SUPPORT. Run control, the Debug Bus Master and plane memory.
-/
namespace Sys2Proof.Machine

variable {c : Chip} {p : Fin 3} {r : RegRow}

/-! ### Run control (R541, R542, R545) -/

theorem coreHaltNow_running (hal : coreAlive c = true) (hh : coreHalted c = false) (hu : lockedUp c = false)
    (hld : c.core.load = none) : c.coreHaltNow = c.coreHalt 1 := by
  simp [Chip.coreHaltNow, hal, hh, hu, hld, Chip.finishLoad]

theorem coreResume_halted (hh : coreHalted c = true) (hu : lockedUp c = false) : c.coreResume = c.coreUnhalt := by
  simp only [Chip.coreResume, hh, hu, Bool.not_false, Bool.and_self, if_true]

theorem coreStep_halted (hh : coreHalted c = true) (hu : lockedUp c = false) :
    c.coreStep = { c.coreUnhalt with core := { c.coreUnhalt.core with stepping := some (false, 0) } } := by
  simp only [Chip.coreStep, hh, hu, Bool.not_false, Bool.and_self, if_true, Chip.onCore]

/-- Without a stop in force no queue rests in STOPPED. -/
theorem restState_ne_stopped (h : stopInForce c = false) : restState c ≠ 3 := by
  simp only [restState, h, Bool.false_eq_true, if_false]
  split <;> decide

/-- A queue that leaves its state without a stop in force raises no EV244. -/
theorem enterRest_of_no_stop (h : stopInForce c = false) : c.enterRest = c.setFld Reg.ASQ_QSTAT 31 30 (restState c) := by
  simp [Chip.enterRest, restState_ne_stopped h, Chip.raiseIf]

theorem arrayRelease_stopped (hd : c.seq.debugHalt = true) (hq : queueState c = 3) (hp : c.seq.powerStop = false) :
    let d : Chip := Chip.endStep { c with seq := { c.seq with debugHalt := false } }
    c.arrayRelease = ((d.setFld Reg.ASQ_QSTAT 31 30 (restState d)).gangSay .run).takeUrgent := by
  intro d
  have hstop : stopInForce d = false := by simp [d, stopInForce, Chip.endStep, hp]
  rw [← enterRest_of_no_stop hstop]
  simp [Chip.arrayRelease, hd, hq, hp, d]

theorem arrayRelease_not_stopped (hd : c.seq.debugHalt = true) (hq : queueState c ≠ 3) :
    c.arrayRelease = Chip.takeUrgent (Chip.endStep { c with seq := { c.seq with debugHalt := false } }) := by
  simp [Chip.arrayRelease, hd, hq]

theorem arrayStep_stopped (hq : queueState c = 3) (hd : c.seq.debugHalt = true) (hp : c.seq.powerStop = false)
    (hr : c.seq.running = none) (hne : c.seq.queue ≠ []) (h29 : c.bit Reg.ASQ_QSTAT 29 = true)
    (h28 : c.bit Reg.ASQ_QSTAT 28 = false) (hk : aclkRuns c = true) :
    c.arrayStep = { c.dispatchHead with dbg := { c.dispatchHead.dbg with astep := true } } := by
  simp [Chip.arrayStep, hq, hd, hp, hr, hne, h29, h28, hk]

/-! ### The Debug Bus Master (R548) -/

theorem dbmSize_word (h : c.fld Reg.DBG_DBM_CTL 26 24 = 2) : dbmSize c = 4 := by
  simp [dbmSize, h]

theorem dbmGo_read (hs : c.fld Reg.DBG_DBM_CTL 26 24 = 2) (hw : c.bit Reg.DBG_DBM_CTL 27 = false)
    (hi : c.bit Reg.DBG_DBM_CTL 28 = false) (ho : RegisterOpen c (dbmAddr c) r)
    (hf : regRefused .debugger (dbmAddr c) false = false) :
    c.dbmGo = (((((if c.bit Reg.DBG_DBM_CTL 29 then c else c.regTouched r (dbmAddr c)).setBit Reg.DBG_DBM_CTL 30 false).setReg
      Reg.DBG_DBM_DATA (BitVec.ofNat 32 (regShown c r (dbmAddr c)))).dbmStatus {})) := by
  have hr := ho.meshRead hf (c.bit Reg.DBG_DBM_CTL 29)
  simp [Chip.dbmGo, dbmSize_word hs, hw, hi, hr, waitsStill, Chip.dbmStatus]

theorem dbmGo_write_inc (hs : c.fld Reg.DBG_DBM_CTL 26 24 = 2) (hw : c.bit Reg.DBG_DBM_CTL 27 = true)
    (hi : c.bit Reg.DBG_DBM_CTL 28 = true) (ho : RegisterOpen c (dbmAddr c) r)
    (hf : regRefused .debugger (dbmAddr c) true = false) :
    c.dbmGo = (((((c.regWrite .debugger r (dbmAddr c) (c.reg Reg.DBG_DBM_DATA)).setBit Reg.DBG_DBM_CTL 30 false).dbmStatus {}).setReg
      Reg.DBG_DBM_ADDR_LO (BitVec.ofNat 32 ((dbmAddr c + 4) % 2 ^ 40))).setReg
      Reg.DBG_DBM_ADDR_HI (BitVec.ofNat 32 ((dbmAddr c + 4) % 2 ^ 40 / 2 ^ 32))) := by
  have hr := ho.meshWrite hf (c.reg Reg.DBG_DBM_DATA)
  simp [Chip.dbmGo, dbmSize_word hs, hw, hi, hr, waitsStill]

theorem dbmGo_write_nothing (hw : c.bit Reg.DBG_DBM_CTL 27 = true) (hi : c.bit Reg.DBG_DBM_CTL 28 = false)
    (hn : decodeAddr c (dbmAddr c) = .nothing) :
    c.dbmGo = (c.setBit Reg.DBG_DBM_CTL 30 false).dbmStatus { status := 1, cause := 0 } := by
  simp [Chip.dbmGo, Chip.meshWrite, busAccess_nothing hn, hw, hi, waitsStill, respErr]

/-! ### Plane memory (R550) -/

/-- An OPEN tile that is not retired takes a tile control request as it is (R268, R272). -/
theorem tileControl_open {t : Nat} (hr : retired c t = false) (hp : portState c (tileNode t) = 0) : c.tileControl t = ({}, c) := by
  simp [Chip.tileControl, hr, hp]

theorem pmemFetch_plane (hr : retired c (pmemTile c) = false) (hp : portState c (tileNode (pmemTile c)) = 0)
    (hb : c.bit Reg.DBG_PMEM_SEL 31 = false) :
    c.pmemFetch = ((c.notePlane (pmemTile c) false (c.fld Reg.DBG_PMEM_SEL 9 0)).dbmStatus
      { poison := (badRows (c.tile (pmemTile c)) (c.fld Reg.DBG_PMEM_SEL 9 0)).any (fun y => y.2 == .double) }).pmemFill
        (leBytes 512 (planeAt (c.tile (pmemTile c)) (c.fld Reg.DBG_PMEM_SEL 9 0)).toNat) := by
  simp [Chip.pmemFetch, tileControl_open hr hp, hb]

theorem pmemCommit_plane (hq : queueState c = 3) (hr : retired c (pmemTile c) = false)
    (hp : portState c (tileNode (pmemTile c)) = 0) (hb : c.bit Reg.DBG_PMEM_SEL 31 = false) :
    c.pmemCommit = (c.onTile (pmemTile c) (fun x => { x with
      planes := mapSet 0 x.planes (c.fld Reg.DBG_PMEM_SEL 9 0)
        (BitVec.ofNat 4096 (leNat ((List.range 128).flatMap (fun w => leBytes 4 (mapGet 0 c.dbg.pmem w).toNat))))
      ecc := x.ecc.filter (fun e => decide (e.1 / 64 ≠ c.fld Reg.DBG_PMEM_SEL 9 0)) })).dbmStatus {} := by
  simp [Chip.pmemCommit, tileControl_open hr hp, hq, hb]

/-- Word w of the buffer after it is filled. -/
theorem pmemFill_word (bs : List Byte) {w : Nat} (h : w < 128) :
    mapGet 0 (c.pmemFill bs).dbg.pmem w = BitVec.ofNat 32 (leNat ((bs.drop (4 * w)).take 4)) := by
  rw [Chip.pmemFill, mapGet_foldl_mapSet 0 _ _ h]

/-- Word 0 of a plane in the buffer is its low 32 bits. -/
theorem pmemFill_plane_word (v : Plane) :
    (mapGet 0 (c.pmemFill (leBytes 512 v.toNat)).dbg.pmem 0).toNat = natBits v.toNat 31 0 := by
  rw [pmemFill_word _ (by decide), Nat.mul_zero, List.drop_zero, take_leBytes (by decide), leNat_leBytes, BitVec.toNat_ofNat]
  simp [natBits]

end Sys2Proof.Machine
end

section
/-!
SUPPORT. The debug rows complete.
-/
namespace Sys2Proof.Machine

section
variable {c : Chip} {p : Nat}

/-- A read of DBG_PMEM_DATA0 fetches the row into the buffer and shows its first word (R550). -/
theorem dbgRead_pmem (h : dbgRefused c p 0x2000 false = false) :
    c.dbgRead p (Reg.DBG_PMEM_DATAw 0) = (respOk (mapGet 0 c.pmemFetch.dbg.pmem 0).toNat, c.pmemFetch) := by
  have hoff : Reg.DBG_PMEM_DATAw 0 % 0x100000 = 0x2000 := rfl
  have hrow : regRow (Reg.DBG_PMEM_DATAw 0) = some ⟨0x21102000, 4, 128, 0, 0xFFFFFFFF, 0, 0, 0, 0, 0⟩ := rfl
  simp [Chip.dbgRead, hoff, hrow, h, dbgShown]

/-- A write of DBG_PMEM_DATA127 puts the word into the buffer and commits it (R550). -/
theorem dbgWrite_pmem_last (h : dbgRefused c p 0x21FC true = false) (v : Word) :
    c.dbgWrite p (Reg.DBG_PMEM_DATAw 127) v =
      ({}, Chip.pmemCommit { c with dbg := { c.dbg with pmem := mapSet 0 c.dbg.pmem 127 v } }) := by
  have hoff : Reg.DBG_PMEM_DATAw 127 % 0x100000 = 0x21FC := rfl
  have hrow : regRow (Reg.DBG_PMEM_DATAw 127) = some ⟨0x21102000, 4, 128, 0, 0xFFFFFFFF, 0, 0, 0, 0, 0⟩ := rfl
  simp [Chip.dbgWrite, hoff, hrow, h]

/-- A command that needs level n of its port does nothing below it. -/
theorem becomes_below_level {i : Instr} {g : State → Host.Outcome State Fault Refusal} {f : Chip → Chip} {n : Nat}
    (hi : ∀ s, exec i s = g s) (hg : ∀ s, g s = run (fun c => if n ≤ portLevel c p then f c else c) s)
    (h : portLevel c p < n) : Becomes i c c :=
  becomes_run hi hg (if_neg (Nat.not_le.mpr h))

/-- A command that needs level n of its port does its work `f` from there on. -/
theorem becomes_at_level {i : Instr} {g : State → Host.Outcome State Fault Refusal} {f : Chip → Chip} {n : Nat} {c' : Chip}
    (hi : ∀ s, exec i s = g s) (hg : ∀ s, g s = run (fun c => if n ≤ portLevel c p then f c else c) s)
    (h : n ≤ portLevel c p) (hf : f c = c') : Becomes i c c' :=
  becomes_run hi hg ((if_pos h).trans hf)

theorem pmemRead_refused_becomes {p : Fin 3} (h : portLevel c p.val < 3) :
    Becomes (.pmemRead p) c { c with resp := { status := 1, cause := 2 } } :=
  becomes_run (exec_pmemRead p) (fun _ => rfl) (by
    rw [dbgRead_refused (dbgRefused_of_lt p.isLt h)]; rfl)

theorem pmemRead_becomes {p : Fin 3} (h : 3 ≤ portLevel c p.val) :
    Becomes (.pmemRead p) c { c.pmemFetch with resp := { data := (mapGet 0 c.pmemFetch.dbg.pmem 0).toNat } } :=
  becomes_run (exec_pmemRead p) (fun _ => rfl) (by
    rw [dbgRead_pmem (dbgRefused_of_le p.isLt h)]; rfl)

theorem pmemCommit_becomes {p : Fin 3} (h : 3 ≤ portLevel c p.val) (v : Word) :
    Becomes (.pmemCommit p v) c
      { Chip.pmemCommit { c with dbg := { c.dbg with pmem := mapSet 0 c.dbg.pmem 127 v } } with resp := {} } :=
  becomes_run (exec_pmemCommit p v) (fun _ => rfl) (by
    rw [dbgWrite_pmem_last (dbgRefused_of_le p.isLt h)]; rfl)

end

/-- Settles O34: each clause is the row's lemma at the clause's hypotheses (log entries 113, 115 and 116). -/
theorem debugRowsComplete : Obligations.DebugRowsComplete := by
  refine ⟨?registerWrite, ?registerNothing, ?doorbell, ?doorbellRefused, ?wlog, ?wlogEmpty, ?odeStat, ?accRefused, ?accRead, ?accWrite,
    ?accErr, ?haltRefused, ?halt, ?resume, ?step, ?stop, ?release, ?releaseHalted, ?arrayStep, ?dbmRead, ?dbmWrite, ?dbmNothing,
    ?pmemRefused, ?pmemRead, ?pmemCommit⟩
  case registerWrite =>
    intro c who a v r hd hn h4 _ hp _ hw hs hr
    exact registerWrite_becomes ⟨hd, hn, h4, hp, hs, hr⟩ hw v
  case registerNothing => exact fun c who a v h => registerWrite_nothing_becomes h v
  case doorbell => exact fun c who v hw hp => evtDoorbell_becomes hw hp v
  case doorbellRefused => exact fun c who v hw hp => evtDoorbell_refused_becomes hw hp v
  case wlog => exact fun c who i j rest hp h => wlogRead_cons_becomes hp h
  case wlogEmpty => exact fun c who hp h => wlogRead_nil_becomes hp h
  case odeStat => exact fun c who hp => odeStatRead_becomes hp
  case accRefused =>
    intro c w off v hl
    have hacc := dbgacc_becomes (dbgAccess_refused (dbgRefused_of_lt (by decide) hl) v)
    exact hacc
  case accRead =>
    intro c off v r hl h4 hx hr
    simpa only [Nat.zero_mul, Nat.zero_add] using
      dbgacc_becomes (dbgAccess_read (dbgRefused_of_le (by decide) hl) off.isLt h4 hx hr v)
  case accWrite =>
    intro c off v r d hl h4 hx ho hr
    exact dbgacc_becomes (dbgAccess_write (dbgRefused_of_le (by decide) hl) off.isLt h4 hx ho hr v)
  case accErr =>
    intro c w off v hl h
    exact dbgacc_becomes (dbgAccess_err (dbgRefused_of_le (by decide) hl) off.isLt h v)
  case haltRefused => exact fun c p h => becomes_below_level (exec_chalt p) (fun _ => rfl) h
  case halt =>
    intro c p h hal hh hu hld
    exact becomes_at_level (exec_chalt p) (fun _ => rfl) h (coreHaltNow_running hal hh hu hld)
  case resume =>
    intro c p h hh hu
    exact becomes_at_level (exec_cresume p) (fun _ => rfl) h (coreResume_halted hh hu)
  case step =>
    intro c p h hh hu
    exact becomes_at_level (exec_cstep p) (fun _ => rfl) h (coreStep_halted hh hu)
  case stop => exact fun c p h => becomes_at_level (exec_astop p) (fun _ => rfl) h rfl
  case release =>
    intro c p d h hd hq hp
    exact becomes_at_level (exec_arelease p) (fun _ => rfl) h (arrayRelease_stopped hd hq hp)
  case releaseHalted =>
    intro c p h hd hq
    exact becomes_at_level (exec_arelease p) (fun _ => rfl) h (arrayRelease_not_stopped hd (by rw [hq]; decide))
  case arrayStep =>
    intro c p h hq hd hp hr hne h29 h28 hk
    exact becomes_at_level (exec_astep p) (fun _ => rfl) h (arrayStep_stopped hq hd hp hr hne h29 h28 hk)
  case dbmRead =>
    intro c p r a h hs hw hi hd hn h4 hp _ hsnap hr hf
    exact becomes_at_level (exec_dbmAccess p) (fun _ => rfl) h (dbmGo_read hs hw hi ⟨hd, hn, h4, hp, hsnap, hr⟩ hf)
  case dbmWrite =>
    intro c p r a h hs hw hi hd hn h4 hp _ hsnap hr hf
    exact becomes_at_level (exec_dbmAccess p) (fun _ => rfl) h (dbmGo_write_inc hs hw hi ⟨hd, hn, h4, hp, hsnap, hr⟩ hf)
  case dbmNothing =>
    intro c p h _ hw hi hn
    exact becomes_at_level (exec_dbmAccess p) (fun _ => rfl) h (dbmGo_write_nothing hw hi hn)
  case pmemRefused => exact fun c p h => pmemRead_refused_becomes h
  case pmemRead =>
    intro c p n v h hr hp hb
    have hfetch := pmemRead_becomes h
    rw [pmemFetch_plane hr hp hb, pmemFill_plane_word] at hfetch
    exact hfetch
  case pmemCommit =>
    intro c p v b h hq hr hp hb
    have hcommit := pmemCommit_becomes h v
    rw [pmemCommit_plane hq hr hp hb] at hcommit
    exact hcommit

end Sys2Proof.Machine
end

section
/-!
SUPPORT. Bytes of memory written in a row.
-/
namespace Sys2Proof.Machine

theorem rdBytes_succ (c : Chip) (a n : Nat) : c.rdBytes a (n + 1) = c.rd8 a :: c.rdBytes (a + 1) n := by
  rw [Chip.rdBytes, List.range_succ_eq_map, List.map_cons, List.map_map, Nat.add_zero]
  exact congrArg _ (List.map_congr_left fun i _ => congrArg c.rd8 (by simp only [Nat.succ_eq_add_one]; omega))

/-- Bytes written in a row are read back: each byte outlives the writes above it. -/
theorem rdBytes_wrBytes (c : Chip) (a : Nat) (bs : List Byte) : (c.wrBytes a bs).rdBytes a bs.length = bs := by
  induction bs generalizing c a with
  | nil => rfl
  | cons b t ih =>
    have hfirst : ((c.wr8 a b).wrBytes (a + 1) t).rd8 a = b := by
      rw [rd8_wrBytes_out _ _ _ _ (Or.inl (Nat.lt_succ_self a)), rd8_wr8_same]
    rw [Chip.wrBytes, List.length_cons, rdBytes_succ, hfirst, ih]

/-- Settles O8: a byte's laws are the sparse map's; those of a run follow by induction on its bytes. -/
theorem memoryKeepsTheCanonicalForm : Obligations.MemoryKeepsTheCanonicalForm :=
  ⟨rd8_wr8_same, fun c _ _ v h => rd8_wr8_ne c v h, fun _ a bs h => memWf_wrBytes a bs h, rdBytes_wrBytes, rd8_wrBytes_out⟩

end Sys2Proof.Machine
end

section
/-!
SUPPORT. The evidence flow: the bitstream port, the close of a sheaf, and the journal write that is served next.
-/
namespace Sys2Proof.Machine

variable {c : Chip}

/-! ### The bitstream port (R295, R314) -/

/-- The next bytes of the port go to their still or their video sheaf, and the last of a picture's marks it passed. -/
theorem bitstreamPortInput_becomes {b : PortChunk} {rest : List PortChunk} (hon : c.isOn .sealUnit = true)
    (hport : c.pkr.port = b :: rest) {d : Chip}
    (hd : (if b.jpeg then Chip.stillBytes { c with pkr := { c.pkr with port := rest } } b
      else Chip.videoBytes { c with pkr := { c.pkr with port := rest } } b) = d) :
    Becomes .bitstreamPortInput c (if b.last then d.picturePassed b else d) :=
  becomes_run exec_bitstreamPortInput (fun _ => rfl) (by
    simp only [hon, hport, hd, Bool.not_true, Bool.false_eq_true, if_false])

/-- A video picture's bytes go to the sheaf that holds its frame, once that has ended. -/
theorem videoBytes_of_held {b : PortChunk} {y : Sheaf}
    (hended : c.cap.frames.any (fun f => decide (f.stream = b.stream) && decide (f.frame = b.frame) && !f.ended) = false)
    (hy : c.ev.sheaves.find? (holdsFrame b.stream b.frame) = some y) :
    c.videoBytes b = c.onSheaf (fun x => decide (x = y)) (fun x => takeBytes x b) := by
  simp only [Chip.videoBytes, hended, hy, Bool.false_eq_true, if_false]

/-! ### The close of a sheaf (R313, R316, R320) -/

/-- No still goes before a sheaf that is alone. -/
theorem stillsBefore_of_alone {x : Sheaf} (h : c.ev.sheaves = [x]) : stillsBefore c x = [] := by
  simp [stillsBefore, h]

/-- A sheaf that no still goes before is filled at once. -/
theorem closeSheaf_of_no_stills {x : Sheaf} (hs : sealTakes c = true) (hb : stillsBefore c x = []) (status flags : Nat) :
    c.closeSheaf x status flags = c.fillRecord x status flags := by
  simp only [Chip.closeSheaf, hs, hb, List.foldl_nil, Bool.not_true, Bool.false_eq_true, if_false]

/-- In an operating mode a record carries that mode (R319). -/
theorem recordMode_of_lt (h : c.fld Reg.SYS_MODE 7 0 < 6) : c.recordMode = (c.fld Reg.SYS_MODE 7 0, c) := by
  rw [Chip.recordMode, if_pos h]

/-- A sheaf without a SEQ takes its stream's next, and its record goes to the journal. -/
theorem fillRecord_of_no_seq {x : Sheaf} {status flags : Nat} (hseq : x.seqNo = none) (hmode : c.fld Reg.SYS_MODE 7 0 < 6) :
    let n : Nat := mapGet 0 c.ev.nextSeq x.stream
    let r : List Byte := sheafRecord c x n (if status = 0 ∧ x.flags.testBit 4 then 1 else status) (c.fld Reg.SYS_MODE 7 0) flags
    c.fillRecord x status flags = Chip.journal { c with ev := { c.ev with
      sheaves := c.ev.sheaves.filter (fun y => decide (y ≠ x))
      nextSeq := mapSet 0 c.ev.nextSeq x.stream (n + 1)
      prevHash := mapInsert x.stream (sha r) (mapErase x.stream c.ev.prevHash)
      staged := c.ev.staged ++ [(x.stream, n, x.still, frameIndex x, x.data)] } }
      { typ := 1, stream := x.stream, key := n, nextSeq := n + 1, payload := r } := by
  simp only [Chip.fillRecord, recordMode_of_lt hmode, hseq, Option.getD_none, Option.isSome_none, Bool.false_eq_true, if_false]

/-! ### The journal write that is served next (R368) -/

variable {w : JWrite} {rest : List JWrite}

/-- The first write that waits is served where it fits. -/
theorem nextWrite_of_fits (hw : c.silo.waiting = w :: rest) (hfits : entryFits c w.typ = true) :
    nextWrite c = some (w, rest) := by
  simp only [nextWrite, hw, hfits, if_true]

/-- The entry of the write served is made; a SHEAF or a STOOK entry releases its record (R16). -/
theorem journalNext_of_fits (hon : c.isOn .silo = true) (hw : c.silo.waiting = w :: rest) (hfits : entryFits c w.typ = true) :
    let r : JEntry × Chip := Chip.writeEntry { c with silo := { c.silo with waiting := rest } } w
    c.journalNext = Chip.noteFull
      (if w.typ = 1 then r.2.sheafJournaled r.1 else if w.typ = 2 then r.2.stookJournaled r.1 else r.2) := by
  simp only [Chip.journalNext, nextWrite_of_fits hw hfits, hon, Bool.not_true, Bool.false_eq_true, if_false]
  split
  next h1 => rw [if_pos h1]
  next h2 => rw [if_neg (by rw [h2]; decide), if_pos h2]
  next h1 h2 => rw [if_neg h1, if_neg h2]

end Sys2Proof.Machine
end

section
/-!
SUPPORT. The commands of the evidence flow complete.
-/
namespace Sys2Proof.Machine

/-- Settles O19: each clause is its row's branch at the clause's hypotheses (the reading of digests after the frame's end, the sealing of
stills and the order of the journal's writes are log entries 47, 48 and 57). -/
theorem evidenceCommandsComplete : Obligations.EvidenceCommandsComplete := by
  refine ⟨?digests, ?digestsFaulted, ?audit, ?auditLast, ?root, ?portSheaf, ?portVideo, ?portStill, ?close, ?lateClose, ?signed,
    ?entry, ?sheafEntry, ?stookEntry⟩
  case digests =>
    intro c st f d q e hs hf hown
    refine becomes_run (exec_frameDigestsReady st) (fun _ => rfl) ?_
    simp only [hs, hf, hown, Bool.not_true, Bool.false_eq_true, if_false, List.contains_nil, Bool.not_false, List.filter_true,
      List.isEmpty_nil, if_true, d, q, e]
  case digestsFaulted =>
    intro c st f own d q e hs hf hown hne
    have hempty : own.isEmpty = false := List.isEmpty_eq_false_iff.mpr hne
    refine becomes_run (exec_frameDigestsReady st) (fun _ => rfl) ?_
    simp only [hs, hf, hown, hempty, Bool.not_true, Bool.false_eq_true, if_false, d, q, e]
  case audit =>
    intro c st f k k2 rest i d t hon hf haudit
    refine becomes_run (exec_auditLeaf st) (fun _ => rfl) ?_
    simp only [hon, hf, haudit, listGet, List.drop_succ_cons, List.drop_zero, List.isEmpty_cons, Bool.not_true, Bool.false_eq_true,
      if_false, i, d, t]
  case auditLast =>
    intro c st f k i d t hon hf haudit
    refine becomes_run (exec_auditLeaf st) (fun _ => rfl) ?_
    simp only [hon, hf, haudit, listGet, List.drop_succ_cons, List.drop_zero, List.isEmpty_nil, Bool.not_true, Bool.false_eq_true,
      if_false, if_true, i, d, t]
  case root =>
    intro c st e tree root d hon hf
    refine becomes_run (exec_frameRootDone st) (fun _ => rfl) ?_
    simp only [hon, hf, Bool.not_true, Bool.false_eq_true, if_false, tree, root, d]
  case portSheaf =>
    intro c b rest y hon hport hlast hjpeg hended hy
    have hbytes := bitstreamPortInput_becomes hon hport rfl
    rw [hlast, hjpeg] at hbytes
    exact videoBytes_of_held (c := { c with pkr := { c.pkr with port := rest } }) hended hy ▸ hbytes
  case portVideo =>
    intro c b rest hon hport hjpeg
    have hbytes := bitstreamPortInput_becomes hon hport rfl
    rw [hjpeg] at hbytes
    exact hbytes
  case portStill =>
    intro c b rest hon hport hlast hjpeg
    have hbytes := bitstreamPortInput_becomes hon hport rfl
    rw [hlast, hjpeg] at hbytes
    exact hbytes
  case close =>
    intro c st x n status r hheld hx hs hseq hmode
    have hready := List.find?_some hx
    simp only [Bool.and_eq_true, List.isEmpty_iff] at hready
    obtain ⟨-, hstills⟩ := hready
    refine becomes_run (exec_sheafClose st) (fun _ => rfl) ?_
    simp only [hheld, hx, Bool.false_eq_true, if_false]
    rw [closeSheaf_of_no_stills hs hstills, fillRecord_of_no_seq hseq hmode]
  case lateClose =>
    intro c st x t hheld hs hx hst ht hlate
    refine becomes_run (exec_sheafLateClose st) (fun _ => rfl) ?_
    simp only [hheld, hx, hst, ht, hlate, Bool.false_eq_true, if_false, List.find?_cons, decide_true, Bool.and_self]
    rw [Chip.closeLate, if_pos hs, closeSheaf_of_no_stills hs (stillsBefore_of_alone hx)]
  case signed =>
    intro c w q hw hs hcapsule
    refine becomes_run exec_stookSignDone (fun _ => rfl) ?_
    simp only [hw, hs, hcapsule, Bool.not_true, Option.isSome_none, Bool.or_self, Bool.false_eq_true, if_false, q]
  case entry =>
    intro c w rest hw h1 h2 hon hfits
    refine becomes_run exec_journalWriteDone (fun _ => rfl) ?_
    rw [journalNext_of_fits hon hw hfits, if_neg h1, if_neg h2]
  case sheafEntry =>
    intro c w rest r hw h1 hon hfits
    refine becomes_run exec_journalWriteDone (fun _ => rfl) ?_
    rw [journalNext_of_fits hon hw (h1 ▸ hfits), if_pos h1]
  case stookEntry =>
    intro c w rest r hw h2 hon hfits
    refine becomes_run exec_journalWriteDone (fun _ => rfl) ?_
    rw [journalNext_of_fits hon hw (h2 ▸ hfits), if_neg (by rw [h2]; decide), if_pos h2]

end Sys2Proof.Machine
end

section
/-!
SUPPORT. A frame start that opens its frame, and the roots that the Seal Unit keeps for stills.
-/
namespace Sys2Proof.Machine

/-! ### The Granary's reservation leaves the evidence flow (R166) -/

@[simp] theorem Chip.drawFree_ev (c : Chip) : c.drawFree.2.ev = c.ev := rfl

theorem takePage_ev (c : Chip) (t : Nat) : (c.takePage t).2.ev = c.ev := rfl

theorem takePages_ev (c : Chip) (home n : Nat) : (c.takePages home n).2.ev = c.ev := by
  induction n generalizing c with
  | zero => rfl
  | succ n ih =>
    rw [Chip.takePages]
    split
    · exact (ih _).trans (takePage_ev c _)
    · rfl

theorem takeIds_ev (c : Chip) (taken : List Nat) (n : Nat) : (c.takeIds taken n).2.ev = c.ev := by
  induction n generalizing c taken with
  | zero => rfl
  | succ n ih => exact (ih _ _).trans (Chip.drawFree_ev c)

theorem reserveOne_ev (c : Chip) (cfg : List Nat) (s i n : Nat) (isPipe : Bool) : (c.reserveOne cfg s i n isPipe).ev = c.ev :=
  takePages_ev c _ _

/-- Reserving the contexts of a list of tiles leaves the evidence flow. -/
theorem reserveAll_ev (cfg : List Nat) (s : Nat) (l : List (Nat × Nat × Nat)) (c : Chip) :
    (l.foldl (fun c e => (c.reserveOne cfg s e.1 e.2.1 false).reserveOne cfg s e.1 e.2.2 true) c).ev = c.ev := by
  induction l generalizing c with
  | nil => rfl
  | cons e l ih => rw [List.foldl_cons, ih, reserveOne_ev, reserveOne_ev]

theorem reserveFrame_ev (c : Chip) (s : Nat) (cfg : List Nat) : (c.reserveFrame s cfg).2.ev = c.ev := by
  rw [Chip.reserveFrame]
  split
  · rfl
  · simp only [Chip.poolLow, raiseIf_ev, reserveAll_ev, takeIds_ev]

/-! ### The frame start (R18, R279, R283) -/

theorem endFrame_of_none {c : Chip} {s : Nat} (h : arriving c s = none) (trunc : Bool) : c.endFrame s trunc = c := by
  simp only [Chip.endFrame, h]

/-- The chip once a frame start of stream s has ended a frame in progress and is counted, and CAP_SPAGE.P shows P. -/
def Chip.startCounted (c : Chip) (s : Nat) : Chip :=
  let x := (c.endFrame s false).lifeAdd 8 1
  (x.setCapStream s { capStream x s with started := (capStream x s).started + 1 }).setFld (Reg.CAP_SPAGE s) 27 16
    (capP s (sampledCfg x s))

theorem startCounted_ev {c : Chip} {s : Nat} (h : arriving c s = none) : (c.startCounted s).ev = c.ev := by
  rw [Chip.startCounted, setFld_ev, Chip.setCapStream_ev, lifeAdd_ev, endFrame_of_none h]

/-- A frame that is opened has no root yet: one that is kept under its number, of a run of the stream before this one (R286), goes. -/
theorem frameStart_drops_old_root {c : Chip} {s : Nat} (cfg : List Nat) (k : CapStream)
    (hcfg : sampledCfg ((c.endFrame s false).lifeAdd 8 1) s = cfg) (hk : capStream ((c.endFrame s false).lifeAdd 8 1) s = k)
    (hok : capCfgOk (c.startCounted s) s cfg = true) (hs : sealTakes (c.startCounted s) = true)
    (hslot : (c.startCounted s).cap.frames.any
      (fun f => decide (f.stream = s) && decide (f.slot = k.next % capCfg cfg 0 21 18)) = false)
    (hr : ((c.startCounted s).reserveFrame s cfg).1.isSome = true) :
    (c.frameStart s).ev.roots = (c.startCounted s).ev.roots.filter
      (fun e => !(decide (e.1 = s) && decide (e.2.1 = k.started % 2 ^ 32))) := by
  obtain ⟨ids, hids⟩ := Option.isSome_iff_exists.mp hr
  simp only [Chip.startCounted, hcfg, hk] at hok hs hslot hids ⊢
  simp only [Chip.frameStart, hcfg, hk]
  generalize (Chip.setFld _ (Reg.CAP_SPAGE s) 27 16 (capP s cfg)) = e at hok hs hslot hids ⊢
  simp only [hok, hs, hslot, hids, Bool.not_true, Bool.or_self, Bool.false_eq_true, if_false]
  rw [setFld_ev, setBit_ev]
  dsimp only
  rw [Chip.setCapStream_ev, reserveFrame_ev]

theorem frameStart_becomes {c : Chip} {p : Fin 8} {vc : Fin 16} {st : Nat} (hon : portOn c p.val = true)
    (hst : streamOfVc (c.setBit (Reg.CAP_PSTATp p.val) 31 true) p.val vc.val true = some st) :
    Becomes (.frameStart p vc .good) c ((c.setBit (Reg.CAP_PSTATp p.val) 31 true).frameStart st) :=
  becomes_run (exec_frameStart p vc .good) (fun _ => rfl) (by
    simp only [Chip.packetIn, hon, hst, Bool.not_true, Bool.false_eq_true, if_false])

/-- A command that completes from one chip leaves one evidence flow. -/
theorem becomes_ev_unique {i : Instr} {c d e : Chip} (hn : nclkRuns c = true) (hd : Becomes i c d) (he : Becomes i c e) :
    d.ev = e.ev := by
  have hnext := (hd hn []).symm.trans (he hn [])
  simp only [Host.Outcome.next.injEq, State.mk.injEq, true_and] at hnext
  simpa only [settle_ev] using congrArg Chip.ev hnext

/-- Stream 0, on virtual channel 1 with one slot of 256 by 128 pixels, is about to start its frame 0; the Granary can reserve the frame's
contexts, and the Seal Unit still keeps a root of an earlier frame 0 of the stream. -/
def oldRootChip : Chip where
  regs := [(Reg.CAP_SCTL 0, 0x81040000), (Reg.CAP_SSIZE 0, 0x800100), (Reg.CAP_PCTLp 0, 0x80000000), (Reg.GRN_STAT, 0x80000000),
    (Reg.GRN_CAPFIRST, 0x1000), (Reg.kernelWord 0 1, 256), (Reg.DRC_CTL, 1), (Reg.SEAL_STATE, 0x20000000)]
  domains := [.sealUnit, .capture 0]
  su := { otp := (List.range 8).map (fun i => (i, 255)) }
  ev := { roots := [(0, 0, { frame := 0 })] }

/-- Refutes O17: its first clause leaves the Seal Unit's roots as they are, but the frame that is opened drops a root kept under its
number, of an earlier run of the stream (R286, R315). In `oldRootChip` that root is there. -/
theorem not_captureCommandsComplete : ¬ Obligations.CaptureCommandsComplete := by
  rintro ⟨hopened, -⟩
  have hclaim := hopened oldRootChip 0 1 0 (by decide +kernel) (by decide +kernel) (by decide +kernel) (by decide +kernel)
    (by decide +kernel) (by decide +kernel)
  have hmodel := frameStart_becomes (c := oldRootChip) (p := 0) (vc := 1) (st := 0) (by decide +kernel) (by decide +kernel)
  have hnone : arriving (oldRootChip.setBit (Reg.CAP_PSTATp (0 : Fin 8).val) 31 true) 0 = none := by decide +kernel
  have hgone : ((oldRootChip.setBit (Reg.CAP_PSTATp (0 : Fin 8).val) 31 true).frameStart 0).ev.roots = [] := by
    rw [frameStart_drops_old_root _ _ rfl rfl (by decide +kernel) (by decide +kernel) (by decide +kernel) (by decide +kernel),
      startCounted_ev hnone, setBit_ev]
    decide +kernel
  have hroots := congrArg Evidence.roots (becomes_ev_unique (by decide +kernel) hclaim hmodel)
  rw [hgone, setFld_ev, setBit_ev] at hroots
  dsimp only at hroots
  rw [Chip.setCapStream_ev, reserveFrame_ev, setFld_ev, Chip.setCapStream_ev, lifeAdd_ev, endFrame_of_none hnone, setBit_ev] at hroots
  exact List.cons_ne_nil _ _ hroots

end Sys2Proof.Machine
end

section
/-!
SUPPORT. A command of the array's clock completes, and one that is an access to a register whose port is OPEN; a field that is stored is
read back.
-/
namespace Sys2Proof.Machine

/-- A command whose meaning is `runAny f` completes with what `f` makes of the chip. -/
theorem becomes_runAny {i : Instr} {g : State → Host.Outcome State Fault Refusal} {f : Chip → Chip} {c c' : Chip}
    (hi : ∀ s, exec i s = g s) (hg : ∀ s, g s = runAny f s) (h : f c = c') : Becomes i c c' := by
  intro _ q
  simp only [hi, hg, runAny, h]

/-- A command that accesses register `a` through an OPEN port has its effect (R271). -/
theorem becomes_regRun {i : Instr} {g : State → Host.Outcome State Fault Refusal} {a : Nat} {f : Chip → Chip} {c c' : Chip}
    (hi : ∀ s, exec i s = g s) (hg : ∀ s, g s = regRun a f s) (hp : portState c (regNode a) = 0) (h : f c = c') : Becomes i c c' :=
  becomes_run hi hg (by rw [Chip.atRegister, hp]; exact h)

/-- A field of a register reads as it was stored, cut to its width. -/
theorem fld_setFld_same (c : Chip) (a : Nat) {hi : Nat} (lo v : Nat) (h : hi < 32) :
    (c.setFld a hi lo v).fld a hi lo = v % 2 ^ (hi + 1 - lo) := by
  refine Nat.eq_of_testBit_eq fun j => ?_
  rw [Chip.fld, testBit_natBits, Nat.testBit_mod_two_pow]
  by_cases hj : j < hi + 1 - lo
  · have hbit := bit_setFld c a hi lo v (lo + j) (by omega)
    rw [if_pos (by omega), Nat.add_sub_cancel_left] at hbit
    rw [← hbit]
    rfl
  · simp only [hj, decide_false, Bool.false_and]

end Sys2Proof.Machine
end

section
/-!
SUPPORT. Tolerance writes and the rules of throttling.
-/
namespace Sys2Proof.Machine

variable {c d : Chip}

/-! ### Tolerance writes (R477) -/

/-- A tolerance whose bounds leave the tiles, self-refresh and the core PLL where they may be reaches PCIe-B and the array PLL alone. -/
theorem tolWrite_of_bounds {k v : Nat} (hd : c.setReg (Reg.SYS_TOL1 + 4 * k) (BitVec.ofNat 32 (v % 2 ^ 20)) = d)
    (htiles : 32 ≤ tolBound d [1, 3]) (hdram : 3 ≤ tolBound d [1, 4]) (hcore : 17 ≤ tolBound d [2, 3, 5])
    (harray : 15 ≤ tolBound d [3]) :
    c.tolWrite (k + 1) v = if tolBound d [4] < 32 then { d with pow := { d.pow with aspmL1 := false } } else d := by
  have hpow : ∀ p : Power, ¬ tolBound { d with pow := p } [3] < 15 := fun _ => Nat.not_lt.mpr harray
  simp only [Chip.tolWrite, Nat.add_sub_cancel, hd, Nat.not_lt.mpr htiles, Nat.not_lt.mpr hdram, Nat.not_lt.mpr hcore, if_false]
  split
  · rw [if_neg (hpow _)]
  · rw [if_neg (Nat.not_lt.mpr harray)]

/-! ### Throttling (R481) -/

/-- At 120 °C ACLK stops with EV5. -/
theorem throttle_of_critical (hhot : (freshTemps c).any (fun x => decide (480 ≤ x)) = true) (hstop : c.bit Reg.SYS_THR 31 = false) :
    c.throttle = Chip.raise { c.setBit Reg.SYS_THR 31 true with pow := { c.pow with throttled := true } } 5 := by
  simp only [Chip.throttle, hhot, hstop, if_true, if_false, Bool.false_eq_true]

/-- Readings of at most 110 °C are below 120 °C. -/
theorem no_critical_of_cooled {ts : List Int} (h : ts.all (fun x => decide (x ≤ 440)) = true) :
    ts.any (fun x => decide (480 ≤ x)) = false := by
  simp only [List.all_eq_true, List.any_eq_false, decide_eq_true_eq] at h ⊢
  intro x hx
  have := h x hx
  omega

/-- The array at its lowest point, P3, whose AVS_VID code is 5 (R572). -/
theorem setPoint_lowest :
    c.setPoint 3 = { (c.setFld Reg.SYS_THR 25 24 3).setFld Reg.SYS_AVS 5 0 5 with pow := { c.pow with stepAt := c.ns } } := by
  simp only [Chip.setPoint, vidOf, listGet, setFld_pow, setFld_ns]

/-- The stop ends at 110 °C, in the lowest point. -/
theorem throttle_of_cooled (hcool : (freshTemps c).all (fun x => decide (x ≤ 440)) = true) (hstop : c.bit Reg.SYS_THR 31 = true) :
    c.throttle = { ((c.setBit Reg.SYS_THR 31 false).setFld Reg.SYS_THR 25 24 3).setFld Reg.SYS_AVS 5 0 5 with
      pow := { c.pow with stepAt := c.ns } } := by
  simp only [Chip.throttle, no_critical_of_cooled hcool, hcool, hstop, setPoint_lowest, setBit_pow, setBit_ns, if_true, if_false,
    Bool.false_eq_true]

/-- A tile at 105 °C, with the power within its cap, lowers the point; EV4 is raised where the array was not hot before. -/
theorem throttle_of_hot (hcrit : (freshTemps c).any (fun x => decide (480 ≤ x)) = false)
    (hhot : (freshTemps c).any (fun x => decide (420 ≤ x)) = true) (hstop : c.bit Reg.SYS_THR 31 = false)
    (hcap : ((c.pow.powers.take 10).foldl (· + ·) 0) ≤ powerCap c * (c.pow.powers.take 10).length)
    (hd : (c.raiseIf (!c.pow.hot) 4).setBit Reg.SYS_THR 30 true = d) :
    c.throttle = Chip.stepDown { d with pow := { d.pow with throttled := true, hot := true } } := by
  have habove : decide (powerCap c * (c.pow.powers.take 10).length < (c.pow.powers.take 10).foldl (· + ·) 0) = false :=
    decide_eq_false (Nat.not_lt.mpr hcap)
  simp only [Chip.throttle, hcrit, hhot, hstop, habove, ← hd, Chip.raiseIf, Bool.or_false, Bool.false_and, if_true, if_false,
    Bool.false_eq_true]

end Sys2Proof.Machine
end

section
/-!
SUPPORT. The power, clock and throttling commands complete.
-/
namespace Sys2Proof.Machine

/-- Settles O15: each clause is its row's branch at the clause's hypotheses (a choice's operand and what it may do are log entry 104, the
writeback and cancelling of a tile's power-down 130, EV4 and the averages 103). -/
theorem powerCommandsComplete : Obligations.PowerCommandsComplete := by
  refine ⟨?tile, ?corePllStops, ?corePllRuns, ?tolerance, ?toleranceL1, ?quadrantGood, ?tileGood, ?captureGood, ?tileFail, ?canFail,
    ?unlock, ?relock, ?refLost, ?estimate, ?critical, ?cooled, ?hot⟩
  case tile =>
    intro c t hmay
    exact becomes_run (exec_powerStateChoice _) (fun _ => rfl) (if_pos hmay)
  case corePllStops =>
    intro c hbound hidle
    refine becomes_run (exec_powerStateChoice _) (fun _ => rfl) ?_
    simp only [Chip.stopPll, hbound, hidle, decide_true, Bool.and_self, if_true]
  case corePllRuns =>
    intro c hbound
    refine becomes_run (exec_powerStateChoice _) (fun _ => rfl) ?_
    simp only [Chip.stopPll, Nat.not_le.mpr hbound, decide_false, Bool.false_and, if_false, Bool.false_eq_true]
  case tolerance =>
    intro c k data d htiles hdram hcore hpcie harray
    refine becomes_run (exec_toleranceWrite k data) (fun _ => rfl) ?_
    rw [tolWrite_of_bounds rfl htiles hdram hcore harray, if_neg (Nat.not_lt.mpr hpcie)]
  case toleranceL1 =>
    intro c data d hdram hcore hpcie harray htiles
    have haddr : Reg.SYS_TOL1 + 4 * (3 : Fin 5).val = Reg.SYS_TOL1 + 12 := rfl
    refine becomes_run (exec_toleranceWrite 3 data) (fun _ => rfl) ?_
    rw [tolWrite_of_bounds (by rw [haddr]) htiles hdram hcore harray, if_pos hpcie]
  case quadrantGood =>
    intro c q hawake
    exact becomes_runAny (exec_domainPowerGood _) (fun _ => rfl) (by rw [hawake]; rfl)
  case tileGood =>
    intro c t hawake
    exact becomes_runAny (exec_domainPowerGood _) (fun _ => rfl) (by rw [hawake]; rfl)
  case captureGood =>
    intro c p hawake
    exact becomes_runAny (exec_domainPowerGood _) (fun _ => rfl) (by rw [hawake]; rfl)
  case tileFail => exact fun c t => becomes_runAny (exec_domainFail _) (fun _ => rfl) rfl
  case canFail => exact fun c => becomes_runAny (exec_domainFail _) (fun _ => rfl) rfl
  case unlock =>
    intro c k hlocked
    exact becomes_runAny (exec_pllUnlock k) (fun _ => rfl) (by rw [hlocked]; rfl)
  case relock => exact fun c k => becomes_runAny (exec_pllRelock k) (fun _ => rfl) rfl
  case refLost =>
    intro c hkept
    exact becomes_runAny exec_refLost (fun _ => rfl) (by rw [hkept]; rfl)
  case estimate =>
    intro c est hdue
    exact becomes_runAny (exec_powerEstimate est) (fun _ => rfl) (if_neg (Nat.not_lt.mpr hdue))
  case critical =>
    intro c d hhot _ hstop
    exact becomes_runAny exec_throttleStep (fun _ => rfl) (throttle_of_critical hhot hstop)
  case cooled =>
    intro c d hcool hstop
    exact becomes_runAny exec_throttleStep (fun _ => rfl) (throttle_of_cooled hcool hstop)
  case hot =>
    intro c d x hcrit hhot hstop hcap
    exact becomes_runAny exec_throttleStep (fun _ => rfl) (throttle_of_hot hcrit hhot hstop hcap rfl)

end Sys2Proof.Machine
end

section
/-!
SUPPORT. Microwords of a customer routine.
-/
namespace Sys2Proof.Machine

variable {c : Chip} {r : Routine} {w : Word} {i : Instr}

/-- A microword of the class that the command runs does its work. -/
theorem microword_of_atWord {cls : Nat} (f : Chip → Routine → Word → Chip) (hw : AtWord c r w) (hcls : Machine.fld w 31 28 = cls) :
    c.microword cls f = f c r w := by
  obtain ⟨hactive, hloaded, hcustomer, hword⟩ := hw
  simp only [Chip.microword, hactive, hloaded, Nat.not_lt.mpr hcustomer, hword, hcls, Bool.not_true, decide_false, Bool.or_self,
    Bool.false_eq_true, if_false, if_true]

/-- The command of a microword class completes with the work of the class's microword. -/
theorem microword_becomes {g : State → Host.Outcome State Fault Refusal} {cls : Nat} {f : Chip → Routine → Word → Chip} {c' : Chip}
    (hi : ∀ s, exec i s = g s) (hg : ∀ s, g s = runAny (fun c => c.microword cls f) s) (hw : AtWord c r w)
    (hcls : Machine.fld w 31 28 = cls) (h : f c r w = c') : Becomes i c c' :=
  becomes_runAny hi hg ((microword_of_atWord f hw hcls).trans h)

/-! ### Microwords on planes (R122 to R125) -/

theorem uPlane_of_touched {used : List Nat}
    (hused : (if planeUsesA w then [routineO r (Machine.fld w 27 26)] else []) ++
      (if planeUsesB w then [routineO r (Machine.fld w 25 24)] else []) ++
      (if planeWrites w then [routineO r (Machine.fld w 23 22)] else []) = used) (ht : (c.touch used).1 = true) :
    c.uPlane r w = ((c.touch used).2.onBound (fun c t => c.planeTile t r.insn w (routineO r (Machine.fld w 27 26))
        (routineO r (Machine.fld w 25 24)) (routineO r (Machine.fld w 23 22)))).onRoutine (fun r => incO (nextWord r)
      ((if bitOf w 21 then [Machine.fld w 27 26] else []) ++ (if bitOf w 20 then [Machine.fld w 25 24] else []) ++
        (if bitOf w 19 then [Machine.fld w 23 22] else []))) := by
  simp only [Chip.uPlane, hused, ht, Bool.not_true, Bool.false_eq_true, if_false]

/-- MV alone moves NX one step and translates no plane. -/
theorem uNbr_of_move (hst : bitOf w 27 = false) (hld : bitOf w 26 = false) (hmv : bitOf w 25 = true) (ht : (c.touch []).1 = true) :
    c.uNbr r w = ((c.touch []).2.moveNx 1 (Machine.fld w 24 23)).onRoutine (fun r => incO (nextWord r)
      ((if bitOf w 18 then [Machine.fld w 22 21] else []) ++ (if bitOf w 17 then [Machine.fld w 20 19] else []))) := by
  simp only [Chip.uNbr, hst, hld, hmv, ht, List.append_nil, Bool.not_true, Bool.false_eq_true, if_false, if_true]

/-- LD alone loads NX from its plane. -/
theorem uNbr_of_load (hst : bitOf w 27 = false) (hld : bitOf w 26 = true) {v : Nat} (hv : routineO r (Machine.fld w 22 21) = v)
    (ht : (c.touch [v]).1 = true) :
    c.uNbr r w = (((c.touch [v]).2.onBound (fun c t => c.readChecked t v)).setNx
        ((boundTiles (c.touch [v]).2).map (fun t => (t, readVirtual ((c.touch [v]).2.tile t) v)))).onRoutine (fun r => incO (nextWord r)
      ((if bitOf w 18 then [Machine.fld w 22 21] else []) ++ (if bitOf w 17 then [Machine.fld w 20 19] else []))) := by
  simp only [Chip.uNbr, hst, hld, hv, ht, List.append_nil, Bool.not_true, Bool.false_eq_true, if_false, if_true]

/-- REG from a register translates no plane. -/
theorem uReg_of_register (hsrc : Machine.fld w 24 22 ≠ 7) (ht : (c.touch []).1 = true) :
    c.uReg r w = ((c.touch []).2.onBound (fun c t =>
        c.onTile t (fun x => regTile x r.insn w (routineO r (Machine.fld w 20 19))))).onRoutine
      (fun r => incO (nextWord r) (if bitOf w 18 then [Machine.fld w 20 19] else [])) := by
  simp only [Chip.uReg, hsrc, ht, decide_false, Bool.not_true, Bool.false_eq_true, if_false]

/-- GOR of M sends its result on its way. -/
theorem uGor_of_mask (hsel : Machine.fld w 27 25 = 3) (hinc : bitOf w 22 = false) (ht : (c.touch []).1 = true) :
    c.uGor r w = ((c.touch []).2.gorIssue (gorResult (c.touch []).2 (fun x => x.M))).onRoutine (fun r => incO (nextWord r) []) := by
  simp only [Chip.uGor, hsel, hinc, ht, OfNat.ofNat_ne_zero, Bool.not_true, Bool.false_eq_true, if_false]

/-! ### Counters and offsets (R126, R127) -/

/-- CNT of operation 0 loads its K register. -/
theorem uCnt_load (hop : Machine.fld w 25 23 = 0) :
    c.uCnt r w = c.setRoutine (some { nextWord r with k := listSet r.k (Machine.fld w 27 26) (Machine.fld w 9 0 % 1024) }) := by
  simp only [Chip.uCnt, hop]

/-- CNT of operation 4 takes 1 off its K register, modulo 1,024. -/
theorem uCnt_dec (hop : Machine.fld w 25 23 = 4) :
    c.uCnt r w = c.setRoutine (some { nextWord r with
      k := listSet r.k (Machine.fld w 27 26) ((routineK r (Machine.fld w 27 26) + 1023) % 1024) }) := by
  simp only [Chip.uCnt, hop]

/-- OFS of operation 3 points its O register into a group. -/
theorem uOfs_base (hop : Machine.fld w 25 23 = 3) :
    c.uOfs r w = c.setRoutine (some { nextWord r with
      o := listSet r.o (Machine.fld w 27 26) ((baseField r.insn (Machine.fld w 22 21) + Machine.fld w 11 0) % 4096) }) := by
  simp only [Chip.uOfs, hop]

/-! ### Branches (R128, R129) -/

/-- Without DEC, or under a condition on no K register, the K registers stay. -/
theorem decK_of_bit_clear (h : bitOf w 23 = false) (r : Routine) : decK r w = r := by
  simp only [decK, h, Bool.false_and, Bool.false_eq_true, if_false]

theorem decK_of_cond_lt (h : Machine.fld w 27 24 < 3) (r : Routine) : decK r w = r := by
  simp only [decK, Nat.not_le.mpr h, decide_false, Bool.and_false, Bool.false_and, Bool.false_eq_true, if_false]

theorem decK_of_counter (h23 : bitOf w 23 = true) (hlo : 3 ≤ Machine.fld w 27 24) (hhi : Machine.fld w 27 24 ≤ 6) (r : Routine) :
    decK r w = { r with
      k := listSet r.k (Machine.fld w 27 24 - 3) ((routineK r (Machine.fld w 27 24 - 3) + 1023) % 1024) } := by
  simp only [decK, h23, hlo, hhi, decide_true, Bool.and_self, if_true]

/-- Conditions 3 to 6 say that a K register is not 0. -/
theorem condHolds_counter {cond : Nat} (hlo : 3 ≤ cond) (hhi : cond ≤ 6) : condHolds c r cond = (routineK r (cond - 3) != 0) := by
  interval_cases cond <;> rfl

theorem uBr_taken (h : condHolds c r (Machine.fld w 27 24) = true) :
    c.uBr r w = c.setRoutine (some { decK (nextWord r) w with upc := Machine.fld w 13 0 }) := if_pos h

theorem uBr_not_taken (h : condHolds c r (Machine.fld w 27 24) = false) : c.uBr r w = c.setRoutine (some (nextWord r)) := by
  rw [Chip.uBr, h]
  rfl

/-- An unconditional CALL pushes the next address on a micro-stack with room. -/
theorem uCall_of_room (h0 : Machine.fld w 27 24 = 0) (hroom : r.stack.length < 8) :
    c.uCall r w = c.setRoutine (some { nextWord r with upc := Machine.fld w 13 0, stack := (r.upc + 1) :: r.stack }) := by
  simp only [Chip.uCall, decK_of_cond_lt (h0.trans_lt (by decide)), h0, condHolds, Nat.not_le.mpr hroom, if_true, if_false]

theorem uCall_of_full (h0 : Machine.fld w 27 24 = 0) (hfull : 8 ≤ r.stack.length) : c.uCall r w = c.seqFault r 5 := by
  simp only [Chip.uCall, h0, condHolds, hfull, if_true]

theorem uRet_of_cons (h0 : Machine.fld w 27 24 = 0) {a : Nat} {l : List Nat} (hs : r.stack = a :: l) :
    c.uRet r w = c.setRoutine (some { nextWord r with upc := a, stack := l }) := by
  simp only [Chip.uRet, decK_of_cond_lt (h0.trans_lt (by decide)), h0, condHolds, hs, if_true]

theorem uRet_of_nil (h0 : Machine.fld w 27 24 = 0) (hs : r.stack = []) : c.uRet r w = c.seqFault r 6 := by
  simp only [Chip.uRet, h0, condHolds, hs, if_true]

/-! ### YIELD (R118, R137) -/

/-- YIELD of a customer routine is a microword. -/
theorem yield_becomes {c' : Chip} (hw : AtWord c r w) (hcls : Machine.fld w 31 28 = 8) (h : c.uYield r w = c') :
    Becomes .yield c c' := by
  refine becomes_runAny exec_yield (fun _ => rfl) ?_
  have hmicro := microword_of_atWord Chip.uYield hw hcls
  obtain ⟨hactive, -, hcustomer, -⟩ := hw
  simp only [hactive, hcustomer, if_true, hmicro, h]

theorem uYield_of_no_request (hu : urgentPending c = false) (hp : c.seq.powerStop = false) :
    c.uYield r w = c.setRoutine (some (nextWord r)) := by
  simp only [Chip.uYield, hu, hp, ite_self, Bool.and_false, Bool.false_eq_true, if_false]

theorem uYield_of_request (hy : r.isYield = true) (hq : queueState c = 0) (hu : urgentPending c = true) :
    c.uYield r w = c.abandon r := by
  simp only [Chip.uYield, hy, hq, hu, Bool.and_self, if_true]

end Sys2Proof.Machine
end

section
/-!
SUPPORT. Every class of microword completes.
-/
namespace Sys2Proof.Machine

/-- Settles O38: each clause is the lemma of its class at the clause's hypotheses (that a WAIT goes on without its count is log entry 19). -/
theorem microwordsComplete : Obligations.MicrowordsComplete := by
  refine ⟨?plane, ?move, ?load, ?register, ?gorMask, ?cntLoad, ?cntDec, ?ofsBase, ?notTaken, ?taken, ?takenDec, ?call, ?callFull, ?ret,
    ?retEmpty, ?yieldOn, ?yieldAbandons, ?ends, ?pageIn, ?pageOut, ?declared, ?checked, ?misfit, ?waitOver, ?waitOn, ?reserved⟩
  case plane =>
    intro c r w na nb nw used hw hcls ht
    exact microword_becomes exec_plane (fun _ => rfl) hw hcls (uPlane_of_touched rfl ht)
  case move =>
    intro c r w hw hcls hst hld hmv ht
    exact microword_becomes exec_nbr (fun _ => rfl) hw hcls (uNbr_of_move hst hld hmv ht)
  case load =>
    intro c r w v d hw hcls hst hld ht
    exact microword_becomes exec_nbr (fun _ => rfl) hw hcls (uNbr_of_load hst hld rfl ht)
  case register =>
    intro c r w hw hcls hsrc ht
    exact microword_becomes exec_reg (fun _ => rfl) hw hcls (uReg_of_register hsrc ht)
  case gorMask =>
    intro c r w d hw hcls hsel hinc ht
    exact microword_becomes exec_gor (fun _ => rfl) hw hcls (uGor_of_mask hsel hinc ht)
  case cntLoad => exact fun c r w hw hcls hop => microword_becomes exec_cnt (fun _ => rfl) hw hcls (uCnt_load hop)
  case cntDec => exact fun c r w hw hcls hop => microword_becomes exec_cnt (fun _ => rfl) hw hcls (uCnt_dec hop)
  case ofsBase => exact fun c r w hw hcls hop => microword_becomes exec_ofs (fun _ => rfl) hw hcls (uOfs_base hop)
  case notTaken => exact fun c r w hw hcls hc => microword_becomes exec_br (fun _ => rfl) hw hcls (uBr_not_taken hc)
  case taken =>
    intro c r w hw hcls hc hdec
    refine microword_becomes exec_br (fun _ => rfl) hw hcls ?_
    rw [uBr_taken hc, decK_of_bit_clear hdec]
    rfl
  case takenDec =>
    intro c r w k hw hcls hlo hhi hk hdec
    have hc : condHolds c r (Machine.fld w 27 24) = true := (condHolds_counter hlo hhi).trans (bne_iff_ne.mpr hk)
    refine microword_becomes exec_br (fun _ => rfl) hw hcls ?_
    rw [uBr_taken hc, decK_of_counter hdec hlo hhi]
    rfl
  case call =>
    exact fun c r w hw hcls h0 hroom => microword_becomes exec_call (fun _ => rfl) hw hcls (uCall_of_room h0 hroom)
  case callFull =>
    exact fun c r w hw hcls h0 hfull => microword_becomes exec_call (fun _ => rfl) hw hcls (uCall_of_full h0 hfull)
  case ret => exact fun c r w a l hw hcls h0 hs => microword_becomes exec_ret (fun _ => rfl) hw hcls (uRet_of_cons h0 hs)
  case retEmpty => exact fun c r w hw hcls h0 hs => microword_becomes exec_ret (fun _ => rfl) hw hcls (uRet_of_nil h0 hs)
  case yieldOn => exact fun c r w hw hcls hu hp => yield_becomes hw hcls (uYield_of_no_request hu hp)
  case yieldAbandons => exact fun c r w hw hcls hy hq hu => yield_becomes hw hcls (uYield_of_request hy hq hu)
  case ends => exact fun c r w hw hcls => microword_becomes exec_endOp (fun _ => rfl) hw hcls rfl
  case pageIn =>
    intro c r w hw hcls hop ht
    refine microword_becomes exec_pageTouch (fun _ => rfl) hw hcls ?_
    simp only [hop, ht, if_true]
  case pageOut =>
    intro c r w hw hcls hop ht
    refine microword_becomes exec_pageTouch (fun _ => rfl) hw hcls ?_
    simp only [hop, ht, if_true, Bool.false_eq_true, if_false]
  case declared =>
    exact fun c r w hw hcls hop => microword_becomes exec_pageDeclare (fun _ => rfl) hw hcls (if_pos hop)
  case checked =>
    intro c r w hw hcls hop hok
    exact microword_becomes exec_pageCheck (fun _ => rfl) hw hcls ((if_pos hop).trans (if_pos hok))
  case misfit =>
    intro c r w hw hcls hop hbad
    refine microword_becomes exec_pageCheck (fun _ => rfl) hw hcls ?_
    simp only [hop, hbad, if_true, Bool.false_eq_true, if_false]
  case waitOver =>
    intro c r w hw hcls hgor
    have hover : (bitOf w 27 && !c.seq.gorFlight.isEmpty) = false := by
      cases hb : bitOf w 27 with
      | false => rfl
      | true => rw [hgor hb]; rfl
    refine microword_becomes exec_wait (fun _ => rfl) hw hcls ?_
    rw [hover]
    rfl
  case waitOn =>
    intro c r w hw hcls hb hgor
    refine microword_becomes exec_wait (fun _ => rfl) hw hcls ?_
    rw [hb, List.isEmpty_eq_false_iff.mpr hgor]
    rfl
  case reserved =>
    intro c r w hw hcls
    obtain ⟨hactive, hloaded, hcustomer, hword⟩ := hw
    refine becomes_runAny exec_reservedMicroword (fun _ => rfl) ?_
    simp only [hactive, hloaded, Nat.not_lt.mpr hcustomer, hword, hcls, Bool.not_true, decide_false, Bool.or_self,
      Bool.false_eq_true, if_false, if_true]

end Sys2Proof.Machine
end

section
/-!
SUPPORT. The sequencer's queue: dispatch, RESUME, DISCARD and the results of GOR.
-/
namespace Sys2Proof.Machine

variable {c : Chip}

/-! ### What a message to the gang leaves (R527) -/

/-- A message changes the queue of messages alone. -/
theorem managerSay_eq (c : Chip) (m : GangMsg) :
    c.managerSay m = c ∨ c.managerSay m = { c with seq := { c.seq with gangQueue := c.seq.gangQueue ++ [m] } } := by
  rw [Chip.managerSay, Chip.gangSay]
  split
  · split
    · exact .inr rfl
    · exact .inl rfl
  · exact .inl rfl

@[simp] theorem managerSay_grn (c : Chip) (m : GangMsg) : (c.managerSay m).grn = c.grn := by
  rcases managerSay_eq c m with h | h <;> rw [h]

@[simp] theorem stopInForce_managerSay (c : Chip) (m : GangMsg) : stopInForce (c.managerSay m) = stopInForce c := by
  rcases managerSay_eq c m with h | h <;> rw [h]
  rfl

/-! ### Dispatch (R50, R113) -/

theorem reseedNow_of_clear (h : c.bit Reg.ASQ_LFSR_CTL 0 = false) : c.reseedNow = c := by
  simp only [Chip.reseedNow, h, Bool.false_eq_true, if_false]

/-- Without a RESEED that waits, the head runs at its entry and the others wait: ASQ_EDGE is sampled, the array PLL runs, and no abandoned
entry is at the head. -/
theorem dispatchHead_cons {i : DWord} {l : List DWord} {d : Chip} (hq : c.seq.queue = i :: l) (hseed : c.bit Reg.ASQ_LFSR_CTL 0 = false)
    (hd : Chip.setBit { c with
      seq := { c.seq with edges := c.fld Reg.ASQ_EDGE 11 0 }
      pow := { c.pow with stopped := c.pow.stopped.filter (fun k => decide (k ≠ 0)) } } Reg.ASQ_QSTAT 27 false = d) :
    c.dispatchHead = { d with seq := { d.seq with
      queue := l, running := some (routineAt i (d.reg (Reg.ASQ_DISPn (insnOpc i)))) } } := by
  simp only [Chip.dispatchHead, hq]
  rw [reseedNow_of_clear (by exact hseed), ← hd]
  rfl

/-! ### RESUME and DISCARD (R115) -/

theorem stopInForce_congr {d : Chip} (h : d.seq = c.seq) : stopInForce d = stopInForce c := by
  rw [stopInForce, stopInForce, h]

theorem preemptHolds_congr {d : Chip} (h : d.grn = c.grn) : preemptHolds d = preemptHolds c := by
  rw [preemptHolds, preemptHolds, h]

/-- A queue that no stop and no preemption holds rests in RUN. -/
theorem restState_of_free (hstop : stopInForce c = false) (hpre : preemptHolds c = false) : restState c = 0 := by
  simp only [restState, hstop, hpre, Bool.false_eq_true, if_false]

/-- In RUN, without a stop and without a request, nothing takes effect. -/
theorem takeUrgent_of_free (hrun : queueState c = 0) (hstop : stopInForce c = false) (hreq : c.grn.preempt ≠ .requested) :
    c.takeUrgent = c := by
  simp only [Chip.takeUrgent, hrun, hstop, hreq, Bool.false_eq_true, if_false, ite_self]

/-- HALTED is left for RUN where no stop and no preemption holds the queue or is asked for. -/
theorem leaveHalted_of_free (hstop : stopInForce c = false) (hpre : preemptHolds c = false) (hreq : c.grn.preempt ≠ .requested) :
    c.leaveHalted = (c.setBit Reg.ASQ_FAULT 31 false).setQueueState 0 := by
  have hstop1 : stopInForce (c.setBit Reg.ASQ_FAULT 31 false) = false := (stopInForce_congr (setBit_seq c _ _ _)).trans hstop
  have hpre1 : preemptHolds (c.setBit Reg.ASQ_FAULT 31 false) = false := (preemptHolds_congr (setBit_grn c _ _ _)).trans hpre
  rw [Chip.leaveHalted, enterRest_of_no_stop hstop1, restState_of_free hstop1 hpre1]
  refine takeUrgent_of_free (fld_setFld_same _ _ 30 0 (by decide)) ((stopInForce_congr (setFld_seq _ _ _ _ _)).trans hstop1) ?_
  rw [setFld_grn, setBit_grn]
  exact hreq

theorem seqResume_halted {i : DWord} {l : List DWord} (hs : queueState c = 1) (hq : c.seq.queue = i :: l) :
    c.seqResume = ((c.managerSay .resume).setQueue l).leaveHalted := by
  simp only [Chip.seqResume, hs, hq, List.drop_one, List.tail_cons, if_true]

/-! ### Results of GOR (R57) -/

/-- A device that is no manager of others takes the oldest result as it is. -/
theorem gorResultArrives_cons {g : Bool × TileBits} {l : List (Bool × TileBits)} (hf : c.seq.gorFlight = g :: l)
    (halone : gangManager c = false ∨ c.spin.gangMap = 1) :
    c.gorResultArrives = { c with seq := { c.seq with gor := g.1, tor := g.2, gorFlight := l } } := by
  have hno : (gangManager c && decide (c.spin.gangMap ≠ 1)) = false := by
    rcases halone with hg | hm
    · rw [hg, Bool.false_and]
    · rw [hm]
      exact Bool.and_false _
  simp only [Chip.gorResultArrives, hf, hno, Bool.false_and, Bool.or_false, Bool.false_eq_true, if_false]

end Sys2Proof.Machine
end

section
/-!
SUPPORT. The commands of the Array Sequencer complete.
-/
namespace Sys2Proof.Machine

/-- Settles O39: each clause is its row's branch at the clause's hypotheses (that the running entry leaves those that wait at its dispatch is
log entry 128, and what follows HALTED 137). -/
theorem sequencerCommandsComplete : Obligations.SequencerCommandsComplete := by
  refine ⟨?dispatch, ?customer, ?notLoaded, ?undefined, ?resume, ?discard, ?discardHalted, ?reseed, ?gorResult, ?tor0, ?tileStat,
    ?thermal⟩
  case dispatch =>
    intro c i l d e hq hmay hseed
    exact becomes_runAny exec_dispatch (fun _ => rfl) ((if_pos hmay).trans (dispatchHead_cons hq hseed rfl))
  case customer =>
    intro c i l d e hq hmay hcustomer hloaded hseed
    refine becomes_runAny exec_customerRoutine (fun _ => rfl) ?_
    simp only [hq, hmay, hcustomer, hloaded, decide_true, Bool.and_self, if_true]
    exact dispatchHead_cons hq hseed rfl
  case notLoaded =>
    intro c r hactive hstart hloaded
    refine becomes_runAny exec_undef (fun _ => rfl) ?_
    simp only [hactive, hstart, hloaded, Bool.not_false, Bool.false_eq_true, if_true, if_false]
  case undefined =>
    intro c r hactive hstart hloaded hvendor hundef
    refine becomes_runAny exec_undef (fun _ => rfl) ?_
    simp only [hactive, hstart, hloaded, hvendor, hundef, Bool.not_true, Bool.not_false, decide_true, Bool.and_self,
      Bool.false_eq_true, if_true, if_false]
  case resume =>
    intro c i l d hp hs hq hstop hpre hreq _
    refine becomes_regRun exec_resume (fun _ => rfl) hp ?_
    have hgrn : (d.setQueue l).grn = c.grn := managerSay_grn c _
    rw [seqResume_halted hs hq]
    exact leaveHalted_of_free ((stopInForce_managerSay c _).trans hstop) ((preemptHolds_congr hgrn).trans hpre) (hgrn ▸ hreq)
  case discard =>
    intro c d hp hs
    exact becomes_regRun exec_discard (fun _ => rfl) hp (if_neg hs)
  case discardHalted =>
    intro c d hp hs
    exact becomes_regRun exec_discard (fun _ => rfl) hp (if_pos hs)
  case reseed => exact fun c hp => becomes_regRun exec_reseed (fun _ => rfl) hp rfl
  case gorResult =>
    intro c g l hf halone
    exact becomes_runAny exec_gorResult (fun _ => rfl) (gorResultArrives_cons hf halone)
  case tor0 => exact fun c hp => becomes_regRun exec_tor0Read (fun _ => rfl) hp rfl
  case tileStat => exact fun c t hp => becomes_regRun (exec_tileStatRead t) (fun _ => rfl) hp rfl
  case thermal =>
    intro c t x hon
    exact becomes_run (exec_thermalSample t x) (fun _ => rfl) (if_pos hon)

end Sys2Proof.Machine
end

section
/-!
SUPPORT. How a vendor routine opens.
-/
namespace Sys2Proof.Machine

variable {c : Chip} {r : Routine} {opc : Nat}

/-- The routine of a vendor opcode that has done nothing yet executes its opcode. -/
theorem insnOpc_of_vendorRoutine (h : vendorRoutine c opc = some r) : insnOpc r.insn = opc := by
  simp only [vendorRoutine] at h
  split at h
  next x _ =>
    split at h
    next hx =>
      simp only [Bool.and_eq_true, decide_eq_true_eq] at hx
      rw [← Option.some.inj h]
      exact hx.2
    next => cases h
  next => cases h

/-- Only FCVTIH and FCVTQH declare pages of their own (R587). -/
theorem vendorDeclare_of_no_late (h : insnOpc r.insn ∉ [0x89, 0x8B]) : c.vendorDeclare r = c := by
  simp only [List.mem_cons, List.not_mem_nil, or_false] at h
  simp only [Chip.vendorDeclare, lateDecl, h, if_false, List.isEmpty_nil, Bool.true_or, if_true]

/-- A routine whose groups keep the rule of their class, and whose TOUCH microwords find every page, goes on (R78, R131). -/
theorem vendorOpen_passed {v : VendorOp} {groups : List (List Nat)} (body : Chip → Chip)
    (hok : v.srcs.all (fun g => groupOk v.cls g v.dst) = true)
    (ht : ((c.vendorDeclare r).vendorTouch r groups).1 = true) :
    c.vendorOpen r v groups body = body ((c.vendorDeclare r).vendorTouch r groups).2 := by
  simp only [Chip.vendorOpen, ← List.not_all_eq_any_not, hok, ht, Bool.not_true, Bool.false_eq_true, if_false, if_true]

/-- The routine of an opcode that declares no pages of its own runs whole and ends. -/
theorem vendor_passed {op : DWord → VendorOp} {groups : DWord → List (List Nat)} {q : Bool × Chip} (body : Chip → DWord → Chip)
    (hr : vendorRoutine c opc = some r) (hlate : opc ∉ [0x89, 0x8B])
    (hok : (op r.insn).srcs.all (fun g => groupOk (op r.insn).cls g (op r.insn).dst) = true)
    (hq : c.vendorTouch r (groups r.insn) = q) (ht : q.1 = true) :
    c.vendor opc op groups body = (body q.2 r.insn).endRoutine := by
  have hdecl : c.vendorDeclare r = c := vendorDeclare_of_no_late ((insnOpc_of_vendorRoutine hr).symm ▸ hlate)
  rw [Chip.vendor, hr]
  dsimp only
  rw [vendorOpen_passed _ hok (by rw [hdecl, hq, ht]), hdecl, hq]

/-- The command of such an opcode completes with the work of the routine. -/
theorem vendor_becomes {i : Instr} {g : State → Host.Outcome State Fault Refusal} {op : DWord → VendorOp}
    {groups : DWord → List (List Nat)} {body : Chip → DWord → Chip} {q : Bool × Chip} {c' : Chip}
    (hi : ∀ s, exec i s = g s) (hg : ∀ s, g s = runAny (fun c => c.vendor opc op groups body) s)
    (hr : vendorRoutine c opc = some r) (hlate : opc ∉ [0x89, 0x8B])
    (hok : (op r.insn).srcs.all (fun g => groupOk (op r.insn).cls g (op r.insn).dst) = true)
    (hq : c.vendorTouch r (groups r.insn) = q) (ht : q.1 = true) (h : (body q.2 r.insn).endRoutine = c') : Becomes i c c' :=
  becomes_runAny hi hg ((vendor_passed body hr hlate hok hq ht).trans h)

/-! ### The YIELD points of a vendor routine (R131, R137, R138) -/

/-- A vendor routine of the separate class is abandoned at a YIELD point while a request is pending. -/
theorem vendorYield_becomes {o : SepOp} {c' : Chip} (ha : activeRoutine c = some r) (ho : sepOp (insnOpc r.insn) = some o)
    (hvendor : insnOpc r.insn < 0xC0) (hl : r.loaded = true) (hy : r.isYield = true) (hq : queueState c = 0)
    (hu : urgentPending c = true)
    (h : c.vendorOpen r (o.op r.insn) (opGroups (o.op r.insn))
      (fun c => (c.onBound (fun c t => c.abandonTile t r.insn o)).abandon r) = c') : Becomes .yield c c' := by
  refine becomes_runAny exec_yield (fun _ => rfl) ?_
  simp only [ha, ho, Nat.not_le.mpr hvendor, hl, hy, hq, hu, Bool.and_self, if_true, if_false, h]

/-- Without a request a vendor routine passes its YIELD points. -/
theorem vendorYield_of_no_request (ha : activeRoutine c = some r) (hvendor : insnOpc r.insn < 0xC0)
    (hu : urgentPending c = false) (hq : queueState c = 0) : Becomes .yield c c := by
  refine becomes_runAny exec_yield (fun _ => rfl) ?_
  simp only [ha, Nat.not_le.mpr hvendor, hq, hu, Bool.and_false, Bool.false_eq_true, if_true, if_false]
  cases sepOp (insnOpc r.insn) <;> rfl

end Sys2Proof.Machine
end

section
/-!
SUPPORT. The reads of a vendor routine leave the tiles bound.
-/
namespace Sys2Proof.Machine

/-- What every step of a fold keeps, the fold keeps. -/
theorem foldl_keeps {α β σ : Type} {view : σ → β} {step : σ → α → σ} (h : ∀ s a, view (step s a) = view s) (l : List α) (s : σ) :
    view (l.foldl step s) = view s :=
  List.foldlRecOn (motive := fun x => view x = view s) l step rfl fun x hx a _ => (h x a).trans hx

/-- The tiles bound are those of the running round. -/
theorem boundTiles_congr {c d : Chip} (h : d.grn.running = c.grn.running) : boundTiles d = boundTiles c := by
  rw [boundTiles, boundTiles, h]

theorem boundTiles_gorIssue (c : Chip) (g : Bool × TileBits) : boundTiles (c.gorIssue g) = boundTiles c := rfl

theorem onBound_of_boundTiles {c d : Chip} (h : boundTiles d = boundTiles c) (f : Chip → Nat → Chip) :
    d.onBound f = (boundTiles c).foldl f d := by
  rw [Chip.onBound, h]

theorem addCause_running (c : Chip) (t k : Nat) : (c.addCause t k).grn.running = c.grn.running := by
  rw [Chip.addCause]
  dsimp only
  split <;> rfl

/-- What the check of a row finds changes counters, events and the causes of the round. -/
theorem noteRowN_running (c : Chip) (t : Nat) (pe : Bool) (n : Nat) (e : Ecc) :
    (c.noteRowN t pe n e).grn.running = c.grn.running := by
  cases e with
  | good => rfl
  | single => simp only [Chip.noteRowN, lifeAdd_grn, raiseIf_grn, Chip.countFld, setFld_grn]
  | double =>
    cases pe <;> simp only [Chip.noteRowN, Bool.false_eq_true, if_false, if_true, addCause_running, lifeAdd_grn, raise_grn, setBit_grn]

theorem boundTiles_notePlaneVendor (c : Chip) (t p : Nat) : boundTiles (c.notePlaneVendor t p) = boundTiles c :=
  foldl_keeps (view := boundTiles) (fun c _ => boundTiles_congr (noteRowN_running c.drawFree.2 _ _ _ _)) _ c

theorem boundTiles_readVendor (c : Chip) (t v : Nat) : boundTiles (c.readVendor t v) = boundTiles c := by
  rw [Chip.readVendor]
  split
  · exact boundTiles_notePlaneVendor c t _
  · rfl

/-- ANY's reads of planes in every bound tile (R46, R83). -/
theorem boundTiles_readVendor_planes (c : Chip) (ps : List Nat) :
    boundTiles (c.onBound (fun c t => ps.foldl (fun c p => c.readVendor t p) c)) = boundTiles c :=
  foldl_keeps (fun c t => foldl_keeps (fun c p => boundTiles_readVendor c t p) ps c) _ c

end Sys2Proof.Machine
end

section
/-!
SUPPORT. The routines that move planes or set the registers of the PEs complete.
-/
namespace Sys2Proof.Machine

/-- Settles O42: each clause is its routine's body once its groups are checked and touched (that MSET and ANY clear C and T in all PEs is log
entry 16, one TOUCH for each group 141, and what an abandoned vendor routine leaves 14). -/
theorem arrayControlRoutinesComplete : Obligations.ArrayControlRoutinesComplete := by
  refine ⟨?nop, ?lfsr, ?mset, ?sclr, ?nmov, ?nmovd, ?nadd, ?any, ?cmpm, ?yieldAbandons, ?yieldOn⟩
  case nop =>
    intro c r hr
    exact becomes_runAny exec_nop (fun _ => rfl) (by rw [hr])
  case lfsr =>
    intro c r i q d hr ht
    exact vendor_becomes exec_lfsr (fun _ => rfl) hr (by decide) rfl rfl ht rfl
  case mset =>
    intro c r i q d hr ht
    exact vendor_becomes exec_mset (fun _ => rfl) hr (by decide) rfl rfl ht rfl
  case sclr =>
    intro c r i q d hr ht
    exact vendor_becomes exec_sclr (fun _ => rfl) hr (by decide) rfl rfl ht rfl
  case nmov =>
    intro c r i q d hr hok ht
    exact vendor_becomes exec_nmov (fun _ => rfl) hr (by decide) hok rfl ht rfl
  case nmovd =>
    intro c r i q d hr hok ht
    exact vendor_becomes exec_nmovd (fun _ => rfl) hr (by decide) hok rfl ht rfl
  case nadd =>
    intro c r i q d hr hok ht
    exact vendor_becomes exec_nadd (fun _ => rfl) hr (by decide) hok rfl ht rfl
  case any =>
    intro c r i q d hr ht
    have hbound (g : Bool × TileBits) := (boundTiles_gorIssue _ g).trans (boundTiles_readVendor_planes d (anyPlanes i))
    exact vendor_becomes exec_any (fun _ => rfl) hr (by decide) rfl rfl ht
      (congrArg Chip.endRoutine (onBound_of_boundTiles (hbound _) _))
  case cmpm =>
    intro c r i q d hr ht
    exact vendor_becomes exec_cmpm (fun _ => rfl) hr (by decide) rfl rfl ht rfl
  case yieldAbandons =>
    intro c r o v q ha ho hvendor hl hy hq hu hok ht
    exact vendorYield_becomes ha ho hvendor hl hy hq hu (vendorOpen_passed _ hok ht)
  case yieldOn => exact fun c r ha hvendor hu hq => vendorYield_of_no_request ha hvendor hu hq

end Sys2Proof.Machine
end

section
/-!
SUPPORT. Numbers in the formats of the array: the value of a field, wrapping, narrowing and the integer square root (R94, R97, R85).
-/
namespace Sys2Proof.Machine

variable {sgn : Bool} {w : Nat}

theorem wrapInt_lt (w : Nat) (v : Int) : wrapInt w v < 2 ^ w := by
  have hlt : v % 2 ^ w < 2 ^ w := Int.emod_lt_of_pos v (by positivity)
  have hnonneg : 0 ≤ v % 2 ^ w := Int.emod_nonneg v (by positivity)
  zify
  rwa [wrapInt, Int.toNat_of_nonneg hnonneg]

theorem intOf_unsigned (w x : Nat) : intOf false w x = (x % 2 ^ w : Nat) := rfl

/-- A signed field below the sign bit is its number, and one from the sign bit on is 2 ^ w less (R94). -/
theorem intOf_signed (hw : 0 < w) (x : Nat) :
    intOf true w x = if ((x % 2 ^ w : Nat) : Int) < 2 ^ (w - 1) then ((x % 2 ^ w : Nat) : Int) else (x % 2 ^ w : Nat) - 2 ^ w := by
  have hcast : ((x % 2 ^ w : Nat) : Int) < 2 ^ (w - 1) ↔ x % 2 ^ w < 2 ^ (w - 1) := by norm_cast
  simp only [intOf, toSigned, hw, and_true, if_true, hcast, ← Nat.not_lt, ite_not]

/-- A field holds a value of its format. -/
theorem intOf_mem (hw : 0 < w) (x : Nat) : intLo sgn w ≤ intOf sgn w x ∧ intOf sgn w x ≤ intHi sgn w := by
  have hx : ((x % 2 ^ w : Nat) : Int) < 2 ^ w := by exact_mod_cast Nat.mod_lt x (Nat.two_pow_pos w)
  have hdouble := mul_pow_sub_one hw.ne' (2 : Int)
  cases sgn with
  | false => simp only [intOf_unsigned, intLo, intHi, Bool.false_eq_true, if_false]; omega
  | true => simp only [intOf_signed hw, intLo, intHi, if_true]; split <;> omega

/-- Wrapping keeps a value of the format. -/
theorem intOf_wrapInt (hw : 0 < w) {v : Int} (hlo : intLo sgn w ≤ v) (hhi : v ≤ intHi sgn w) : intOf sgn w (wrapInt w v) = v := by
  have hself : ((wrapInt w v % 2 ^ w : Nat) : Int) = v % 2 ^ w := by
    rw [Nat.mod_eq_of_lt (wrapInt_lt w v), wrapInt, Int.toNat_of_nonneg (Int.emod_nonneg v (by positivity))]
  have hdouble := mul_pow_sub_one hw.ne' (2 : Int)
  cases sgn with
  | false =>
    simp only [intLo, intHi, Bool.false_eq_true, if_false] at hlo hhi
    rw [intOf_unsigned, hself, Int.emod_eq_of_lt hlo (by omega)]
  | true =>
    simp only [intLo, intHi, if_true] at hlo hhi
    rw [intOf_signed hw, hself]
    obtain hneg | hpos := lt_or_ge v 0
    · rw [← Int.add_emod_right, Int.emod_eq_of_lt (by omega) (by omega), if_neg (by omega), add_sub_cancel_right]
    · rw [Int.emod_eq_of_lt hpos (by omega), if_pos (by omega)]

/-- Narrowing keeps a value of the format, and leaves S (R97). -/
theorem narrow_of_mem (sat : Bool) {v : Int} (hlo : intLo sgn w ≤ v) (hhi : v ≤ intHi sgn w) :
    narrow sgn sat w v = (wrapInt w v, false) := by
  rw [narrow, if_neg (not_lt.mpr hlo), if_neg (not_lt.mpr hhi)]

/-- Narrowing a value above the format sets S (R97). -/
theorem narrow_sets_of_gt (sat : Bool) {v : Int} (hlo : intLo sgn w ≤ v) (h : intHi sgn w < v) : (narrow sgn sat w v).2 = true := by
  rw [narrow, if_neg (not_lt.mpr hlo), if_pos h]

/-- Each bit of the root is found from the top (R85). -/
theorem isqrtAux_eq_sqrt {x : Nat} (i r : Nat) (hlo : r * r ≤ x) (hhi : x < (r + 2 ^ i) * (r + 2 ^ i)) :
    isqrtAux i x r = Nat.sqrt x := by
  induction i generalizing r with
  | zero => exact Nat.eq_sqrt.mpr ⟨hlo, hhi⟩
  | succ i ih =>
    have hdouble : r + 2 ^ i + 2 ^ i = r + 2 ^ (i + 1) := by rw [pow_succ]; omega
    rw [isqrtAux]
    split
    next h => exact ih _ h (hdouble ▸ hhi)
    next h => exact ih r hlo (not_le.mp h)

theorem isqrt_eq_sqrt (x : Nat) : isqrt x = Nat.sqrt x := by
  refine isqrtAux_eq_sqrt _ 0 (Nat.zero_le x) ?_
  calc x < 2 ^ (x.log2 + 1) := Nat.lt_log2_self
    _ ≤ 2 ^ (x.log2 / 2 + 1 + (x.log2 / 2 + 1)) := Nat.pow_le_pow_right (by decide) (by omega)
    _ = _ := by rw [pow_add, Nat.zero_add]

end Sys2Proof.Machine
end

section
/-!
SUPPORT. The array's products, quotients and roots are exact.
-/
namespace Sys2Proof.Machine

theorem insnW_pos (i : DWord) : 0 < insnW i := Nat.succ_pos _

/-- The low part of a pair of numbers side by side, as DIV and SQRT write it. -/
theorem pair_mod {w x : Nat} (hx : x < 2 ^ w) (y : Nat) : (x + y * 2 ^ w) % 2 ^ w = x := by
  rw [Nat.add_mul_mod_self_right, Nat.mod_eq_of_lt hx]

/-- The high part of such a pair. -/
theorem pair_div {w x : Nat} (hx : x < 2 ^ w) (y : Nat) : (x + y * 2 ^ w) / 2 ^ w = y := by
  rw [Nat.add_mul_div_right x y (Nat.two_pow_pos w), Nat.div_eq_of_lt hx, Nat.zero_add]

section
variable {sgn : Bool} {w : Nat} {a b : Int} (ha : intLo sgn w ≤ a ∧ a ≤ intHi sgn w) (hb : intLo sgn w ≤ b ∧ b ≤ intHi sgn w)
include ha hb

/-- A product of two w-bit values fits 2w bits (R85). -/
theorem mul_mem (hw : 0 < w) : intLo sgn (w + w) ≤ a * b ∧ a * b ≤ intHi sgn (w + w) := by
  obtain ⟨alo, ahi⟩ := ha
  obtain ⟨blo, bhi⟩ := hb
  cases sgn with
  | false =>
    simp only [intLo, intHi, Bool.false_eq_true, if_false, pow_add] at *
    have hpos : (0 : Int) < 2 ^ w := by positivity
    constructor <;> nlinarith
  | true =>
    have hpos : (0 : Int) < 2 ^ (w - 1) := by positivity
    have hpow : (2 : Int) ^ (w + w - 1) = 2 * (2 ^ (w - 1) * 2 ^ (w - 1)) := by
      rw [← pow_add, ← pow_succ']
      congr 1
      omega
    simp only [intLo, intHi, if_true, hpow] at *
    constructor <;> nlinarith

/-- The truncated quotient fits, but for the most negative value by −1 (R85, R104). -/
theorem tdiv_mem (hb0 : b ≠ 0) (hover : ¬(sgn = true ∧ a = intLo true w ∧ b = -1)) :
    intLo sgn w ≤ a.tdiv b ∧ a.tdiv b ≤ intHi sgn w := by
  have hle : (a.tdiv b).natAbs ≤ a.natAbs := Int.natAbs_tdiv_le_natAbs a b
  cases sgn with
  | false =>
    have hnonneg : 0 ≤ a.tdiv b := Int.tdiv_nonneg ha.1 hb.1
    simp only [intLo, intHi, Bool.false_eq_true, if_false] at ha ⊢
    omega
  | true =>
    have hpos : (0 : Int) < 2 ^ (w - 1) := by positivity
    simp only [intLo, intHi, if_true, true_and] at ha hover ⊢
    obtain hone | hone | htwo : b = 1 ∨ b = -1 ∨ 2 ≤ b.natAbs := by omega
    · rw [hone, Int.tdiv_one]
      exact ha
    · rw [hone, Int.tdiv_neg, Int.tdiv_one]
      omega
    · have hhalf : (a.tdiv b).natAbs ≤ a.natAbs / 2 := by
        rw [Int.natAbs_tdiv]
        exact Nat.div_le_div_left htwo (by decide)
      omega

/-- The remainder of a division fits (R85, R104). -/
theorem tmod_mem (hb0 : b ≠ 0) : intLo sgn w ≤ a.tmod b ∧ a.tmod b ≤ intHi sgn w := by
  have hlt : (a.tmod b).natAbs < b.natAbs := by
    rw [Int.natAbs_tmod]
    exact Nat.mod_lt _ (Int.natAbs_pos.mpr hb0)
  cases sgn with
  | false =>
    have hnonneg : 0 ≤ a.tmod b := Int.tmod_nonneg b ha.1
    simp only [intLo, intHi, Bool.false_eq_true, if_false] at hb ⊢
    omega
  | true =>
    simp only [intLo, intHi, if_true] at hb ⊢
    omega

end

/-- A remainder that is not 0 has the sign of the dividend. -/
theorem tmod_sign (a b : Int) : a.tmod b = 0 ∨ (0 < a.tmod b ↔ 0 < a) := by
  by_cases hdvd : b ∣ a
  · exact .inl (Int.tmod_eq_zero_of_dvd hdvd)
  · refine .inr ?_
    rw [← Int.sign_eq_one_iff_pos, Int.sign_tmod, if_neg hdvd, Int.sign_eq_one_iff_pos]

section
variable {i : DWord} {x : PeIn}

theorem peA_mem (i : DWord) (x : PeIn) : intLo (insnSgn i) (insnW i) ≤ peA i x ∧ peA i x ≤ intHi (insnSgn i) (insnW i) :=
  intOf_mem (insnW_pos i) x.a

theorem peB_mem (i : DWord) (x : PeIn) : intLo (insnSgn i) (insnW i) ≤ peB i x ∧ peB i x ≤ intHi (insnSgn i) (insnW i) :=
  intOf_mem (insnW_pos i) x.b

/-- MUL of two operands of one width is exact (R85). -/
theorem peMul_exact (h : insnShf i + 1 = insnW i) :
    intOf (insnSgn i) (insnW i + insnW i) (peMul i x).1 = peA i x * peB i x := by
  have hfits := mul_mem (peA_mem i x) (peB_mem i x) (insnW_pos i)
  simp only [peMul, h]
  exact intOf_wrapInt (Nat.add_pos_left (insnW_pos i) _) hfits.1 hfits.2

section
variable (hb : peB i x ≠ 0) (hover : ¬(insnSgn i = true ∧ peA i x = intLo true (insnW i) ∧ peB i x = -1))
include hb hover

/-- DIV writes quotient and remainder side by side, each as itself (R85, R101). -/
theorem peDiv_of_fits : peDiv i x =
    (wrapInt (insnW i) ((peA i x).tdiv (peB i x)) + wrapInt (insnW i) ((peA i x).tmod (peB i x)) * 2 ^ insnW i, false) := by
  have hq := tdiv_mem (peA_mem i x) (peB_mem i x) hb hover
  simp only [peDiv, hb, if_false, peNarrow, narrow_of_mem (insnSat i) hq.1 hq.2]

/-- The low half that DIV writes holds the truncated quotient (R85). -/
theorem peDiv_quotient : intOf (insnSgn i) (insnW i) ((peDiv i x).1 % 2 ^ insnW i) = (peA i x).tdiv (peB i x) := by
  have hq := tdiv_mem (peA_mem i x) (peB_mem i x) hb hover
  rw [peDiv_of_fits hb hover, pair_mod (wrapInt_lt _ _), intOf_wrapInt (insnW_pos i) hq.1 hq.2]

/-- The high half holds the remainder (R85). -/
theorem peDiv_remainder : intOf (insnSgn i) (insnW i) ((peDiv i x).1 / 2 ^ insnW i) = (peA i x).tmod (peB i x) := by
  have hr := tmod_mem (peA_mem i x) (peB_mem i x) hb
  rw [peDiv_of_fits hb hover, pair_div (wrapInt_lt _ _), intOf_wrapInt (insnW_pos i) hr.1 hr.2]

end

/-- The most negative value divided by −1 overflows (R104). -/
theorem peDiv_overflow (hs : insnSgn i = true) (ha : peA i x = intLo true (insnW i)) (hb : peB i x = -1) : (peDiv i x).2 = true := by
  have hpos : (0 : Int) < 2 ^ (insnW i - 1) := by positivity
  simp only [peDiv, hb, ha, peNarrow, hs, Int.reduceNeg, reduceCtorEq, if_false, Int.tdiv_neg, Int.tdiv_one]
  apply narrow_sets_of_gt <;> simp only [intLo, intHi, if_true] <;> omega

/-- SQRT of a value that is not negative writes the floor root and what is left side by side (R85, R101). -/
theorem peSqrt_of_nonneg (hx : x.a < 2 ^ insnW i) (ha : 0 ≤ peA i x) :
    peSqrt i x = (Nat.sqrt x.a + (x.a - Nat.sqrt x.a * Nat.sqrt x.a) * 2 ^ insnW i, false) := by
  simp only [peSqrt, not_lt.mpr ha, if_false, Nat.mod_eq_of_lt hx, isqrt_eq_sqrt]

/-- SQRT of a negative value gives root 0, leaves the operand and sets S (R85, R101). -/
theorem peSqrt_of_neg (hx : x.a < 2 ^ insnW i) (ha : peA i x < 0) : peSqrt i x = (x.a * 2 ^ insnW i, true) := by
  simp only [peSqrt, ha, if_true, Nat.mod_eq_of_lt hx]

/-- A format holds every value of a narrower one. -/
theorem mem_of_le {sgn : Bool} {w w' : Nat} {v : Int} (hle : w ≤ w') (h : intLo sgn w ≤ v ∧ v ≤ intHi sgn w) :
    intLo sgn w' ≤ v ∧ v ≤ intHi sgn w' := by
  have hfull : (2 : Int) ^ w ≤ 2 ^ w' := pow_le_pow_right₀ (by decide) hle
  have hhalf : (2 : Int) ^ (w - 1) ≤ 2 ^ (w' - 1) := pow_le_pow_right₀ (by decide) (by omega)
  cases sgn <;> simp only [intLo, intHi, Bool.false_eq_true, if_true, if_false] at h ⊢ <;> omega

/-- WIDEN keeps the value (R86). -/
theorem peWiden_exact (i : DWord) (x : PeIn) : intOf (insnSgn i) (insnW i + 8) (peWiden i x).1 = peA i x := by
  have hfits := mem_of_le (Nat.le_add_right (insnW i) 8) (peA_mem i x)
  exact intOf_wrapInt (Nat.add_pos_left (insnW_pos i) 8) hfits.1 hfits.2

end

/-- Settles O55: each result fits the format it is written in, so that the field holds it as itself. -/
theorem arrayExactResults : Obligations.ArrayExactResults := by
  intro i x hxa _ w s a b
  refine ⟨?mul, ?div, ?overflow, ?sqrt, ?sqrtNeg, peWiden_exact i x⟩
  case mul => exact fun h => ⟨peMul_exact h, rfl⟩
  case div =>
    intro hb hover
    refine ⟨a.tdiv b, a.tmod b, ?_, peDiv_quotient hb hover, peDiv_remainder hb hover, (Int.tdiv_mul_add_tmod a b).symm, ?_,
      tmod_sign a b⟩
    · rw [peDiv_of_fits hb hover]
    · rw [Int.natAbs_tmod]
      exact Nat.mod_lt _ (Int.natAbs_pos.mpr hb)
  case overflow => exact peDiv_overflow
  case sqrt =>
    intro ha
    have hroot : Nat.sqrt x.a < 2 ^ w := (Nat.sqrt_le_self x.a).trans_lt hxa
    rw [peSqrt_of_nonneg hxa ha]
    exact ⟨Nat.sqrt x.a, rfl, pair_mod hroot _, Nat.sqrt_le x.a, Nat.lt_succ_sqrt x.a, pair_div hroot _⟩
  case sqrtNeg => exact peSqrt_of_neg hxa

end Sys2Proof.Machine
end

section
/-!
SUPPORT. A vendor opcode that computes its destination group PE by PE runs whole.
-/
namespace Sys2Proof.Machine

/-- A routine with a group that breaks the rule of its class takes the fault with CAUSE 3 (R92). -/
theorem vendorOpen_refused {c : Chip} {r : Routine} {v : VendorOp} (groups : List (List Nat)) (body : Chip → Chip)
    (hbad : v.srcs.all (fun g => groupOk v.cls g v.dst) = false) : c.vendorOpen r v groups body = c.seqFault r 3 := by
  simp only [Chip.vendorOpen, ← List.not_all_eq_any_not, hbad, Bool.not_false, if_true]

/-- A routine whose groups keep the rule waits while a page is missing (R131, R179). -/
theorem vendorOpen_held {c : Chip} {r : Routine} {v : VendorOp} {groups : List (List Nat)} (body : Chip → Chip)
    (hok : v.srcs.all (fun g => groupOk v.cls g v.dst) = true)
    (ht : ((c.vendorDeclare r).vendorTouch r groups).1 = false) :
    c.vendorOpen r v groups body = ((c.vendorDeclare r).vendorTouch r groups).2 := by
  simp only [Chip.vendorOpen, ← List.not_all_eq_any_not, hok, ht, Bool.not_true, Bool.false_eq_true, if_false]

/-- The work of such an opcode, once the routine has opened, is `vendorTile` in every bound tile (R75). -/
theorem vendorPes_of_vendorRoutine {c : Chip} {r : Routine} {opc : Nat} (hr : vendorRoutine c opc = some r)
    (op : DWord → VendorOp) (readsD : Bool) (f : DWord → PeIn → PeOut) :
    c.vendorPes opc op readsD f = c.vendorOpen r (op r.insn) (opGroups (op r.insn))
      (fun d => ((boundTiles d).foldl (vendorTile r.insn (op r.insn) readsD f) d).endRoutine) := by
  rw [Chip.vendorPes, Chip.vendor, hr]
  rfl

section
variable {i : Instr} {g : State → Host.Outcome State Fault Refusal} {opc : Nat}

/-- A command whose meaning is such an opcode runs it whole: it faults, waits, or does its work and ends. -/
theorem vendorRuns_of_vendorPes {op : DWord → VendorOp} {readsD : Bool} {f : DWord → PeIn → PeOut}
    (hi : ∀ s, exec i s = g s) (hg : ∀ s, g s = runAny (fun c => c.vendorPes opc op readsD f) s) :
    VendorRuns i opc op readsD f := by
  intro c r hr v q
  have hopen := vendorPes_of_vendorRoutine hr op readsD f
  refine ⟨fun hok ht => ?runs, fun hbad => ?faults, fun hok ht => ?waits⟩
  case runs => exact becomes_runAny hi hg (hopen.trans (vendorOpen_passed _ hok ht))
  case faults => exact becomes_runAny hi hg (hopen.trans (vendorOpen_refused _ _ hbad))
  case waits => exact becomes_runAny hi hg (hopen.trans (vendorOpen_held _ hok ht))

/-- An opcode of the separate class runs as `sepOp` lists it (R78). -/
theorem vendorRuns_of_vendorSep {o : SepOp} (hi : ∀ s, exec i s = g s) (hg : ∀ s, g s = runAny (fun c => c.vendorSep opc) s)
    (ho : sepOp opc = some o) : VendorRuns i opc o.op o.readsD o.pe := by
  refine vendorRuns_of_vendorPes hi fun s => ?_
  simp only [hg, Chip.vendorSep, ho]

end

end Sys2Proof.Machine
end

section
/-!
SUPPORT. The routines of the array that compute PE by PE complete.
-/
namespace Sys2Proof.Machine

/-- Settles O40: each command's meaning is `vendorPes` or `vendorSep` of its opcode, which runs whole (one TOUCH for each group is log entry
141, and that NX is left as it is 142). -/
theorem arrayLogicAndIntegerRoutinesComplete : Obligations.ArrayLogicAndIntegerRoutinesComplete :=
  ⟨vendorRuns_of_vendorPes exec_mov fun _ => rfl,
   vendorRuns_of_vendorPes exec_not fun _ => rfl,
   vendorRuns_of_vendorPes exec_ldi fun _ => rfl,
   vendorRuns_of_vendorPes exec_sel fun _ => rfl,
   vendorRuns_of_vendorPes exec_bool fun _ => rfl,
   vendorRuns_of_vendorPes exec_mget fun _ => rfl,
   vendorRuns_of_vendorPes exec_sget fun _ => rfl,
   vendorRuns_of_vendorPes exec_cmp fun _ => rfl,
   vendorRuns_of_vendorPes exec_add fun _ => rfl,
   vendorRuns_of_vendorPes exec_sub fun _ => rfl,
   vendorRuns_of_vendorPes exec_addi fun _ => rfl,
   vendorRuns_of_vendorPes exec_neg fun _ => rfl,
   vendorRuns_of_vendorPes exec_abs fun _ => rfl,
   vendorRuns_of_vendorPes exec_min fun _ => rfl,
   vendorRuns_of_vendorPes exec_max fun _ => rfl,
   vendorRuns_of_vendorPes exec_avg fun _ => rfl,
   vendorRuns_of_vendorPes exec_absd fun _ => rfl,
   vendorRuns_of_vendorPes exec_clip fun _ => rfl,
   vendorRuns_of_vendorSep exec_shl (fun _ => rfl) rfl,
   vendorRuns_of_vendorSep exec_shr (fun _ => rfl) rfl,
   vendorRuns_of_vendorSep exec_rol (fun _ => rfl) rfl,
   vendorRuns_of_vendorSep exec_ror (fun _ => rfl) rfl⟩

/-- Settles O41: each routine runs as its opcode's groups and operation say, those of the separate class as `sepOp` lists them (log entries
141 and 142). -/
theorem arrayWideRoutinesComplete : Obligations.ArrayWideRoutinesComplete :=
  ⟨vendorRuns_of_vendorSep exec_mul (fun _ => rfl) rfl,
   vendorRuns_of_vendorSep exec_mulq (fun _ => rfl) rfl,
   vendorRuns_of_vendorSep exec_div (fun _ => rfl) rfl,
   vendorRuns_of_vendorSep exec_sqrt (fun _ => rfl) rfl,
   vendorRuns_of_vendorPes exec_acc fun _ => rfl,
   vendorRuns_of_vendorPes exec_accn fun _ => rfl,
   vendorRuns_of_vendorPes exec_widen fun _ => rfl,
   vendorRuns_of_vendorSep exec_narrow (fun _ => rfl) rfl,
   vendorRuns_of_vendorSep exec_popc (fun _ => rfl) rfl,
   vendorRuns_of_vendorSep exec_clz (fun _ => rfl) rfl,
   vendorRuns_of_vendorSep exec_sig (fun _ => rfl) rfl,
   vendorRuns_of_vendorPes exec_ch fun _ => rfl,
   vendorRuns_of_vendorPes exec_maj fun _ => rfl,
   vendorRuns_of_vendorSep exec_bswap (fun _ => rfl) rfl,
   vendorRuns_of_vendorSep exec_faddh (fun _ => rfl) rfl,
   vendorRuns_of_vendorSep exec_fsubh (fun _ => rfl) rfl,
   vendorRuns_of_vendorSep exec_fmulh (fun _ => rfl) rfl,
   vendorRuns_of_vendorSep exec_ffmah (fun _ => rfl) rfl,
   vendorRuns_of_vendorSep exec_fminh (fun _ => rfl) rfl,
   vendorRuns_of_vendorSep exec_fmaxh (fun _ => rfl) rfl,
   vendorRuns_of_vendorSep exec_fcmph (fun _ => rfl) rfl,
   vendorRuns_of_vendorSep exec_fcvthi (fun _ => rfl) rfl,
   vendorRuns_of_vendorSep exec_fcvtih (fun _ => rfl) rfl,
   vendorRuns_of_vendorSep exec_fcvthq (fun _ => rfl) rfl,
   vendorRuns_of_vendorSep exec_fcvtqh (fun _ => rfl) rfl⟩

end Sys2Proof.Machine
end

section
/-!
SUPPORT. Narrowing keeps a value that fits, and wraps or saturates one that does not.
-/
namespace Sys2Proof.Machine

section
variable {sgn sat : Bool} {w : Nat} {v : Int}

/-- No format is empty. -/
theorem intLo_le_intHi (sgn : Bool) (w : Nat) : intLo sgn w ≤ intHi sgn w := by
  have hfull : (0 : Int) < 2 ^ w := by positivity
  have hhalf : (0 : Int) < 2 ^ (w - 1) := by positivity
  cases sgn <;> simp only [intLo, intHi, Bool.false_eq_true, if_true, if_false] <;> omega

/-- A value below the format sets S, and gives the least value under SAT (R97). -/
theorem narrow_of_lt (h : v < intLo sgn w) : narrow sgn sat w v = (wrapInt w (if sat then intLo sgn w else v), true) := by
  rw [narrow, if_pos h]

/-- A value above the format sets S, and gives the greatest value under SAT (R97). -/
theorem narrow_of_gt (h : intHi sgn w < v) : narrow sgn sat w v = (wrapInt w (if sat then intHi sgn w else v), true) := by
  rw [narrow, if_neg (not_lt.mpr ((intLo_le_intHi sgn w).trans h.le)), if_pos h]

theorem intOf_wrapInt_intLo (hw : 0 < w) : intOf sgn w (wrapInt w (intLo sgn w)) = intLo sgn w :=
  intOf_wrapInt hw le_rfl (intLo_le_intHi sgn w)

theorem intOf_wrapInt_intHi (hw : 0 < w) : intOf sgn w (wrapInt w (intHi sgn w)) = intHi sgn w :=
  intOf_wrapInt hw (intLo_le_intHi sgn w) le_rfl

theorem wrapInt_cast (w : Nat) (v : Int) : (wrapInt w v : Int) = v % 2 ^ w :=
  Int.toNat_of_nonneg (Int.emod_nonneg v (by positivity))

/-- A field's value differs from its number by a multiple of 2 ^ w (R94). -/
theorem intOf_modEq (hw : 0 < w) (x : Nat) : intOf sgn w x ≡ x [ZMOD 2 ^ w] := by
  have hself : ((x % 2 ^ w : Nat) : Int) ≡ x [ZMOD 2 ^ w] := by
    push_cast
    exact Int.mod_modEq _ _
  cases sgn with
  | false => exact hself
  | true =>
    rw [intOf_signed hw]
    split
    · exact hself
    · exact Int.sub_modulus_modEq_iff.mpr hself

/-- Wrapping changes a value by a multiple of 2 ^ w (R97). -/
theorem intOf_wrapInt_modEq (hw : 0 < w) (v : Int) : intOf sgn w (wrapInt w v) ≡ v [ZMOD 2 ^ w] :=
  (intOf_modEq hw _).trans (wrapInt_cast w v ▸ Int.mod_modEq v _)

/-- S is left exactly by a value of the format (R97). -/
theorem narrow_leaves_iff : (narrow sgn sat w v).2 = false ↔ intLo sgn w ≤ v ∧ v ≤ intHi sgn w := by
  obtain hlo | hlo := lt_or_ge v (intLo sgn w)
  · simp [narrow_of_lt hlo, not_le.mpr hlo]
  obtain hhi | hhi := lt_or_ge (intHi sgn w) v
  · simp [narrow_of_gt hhi, not_le.mpr hhi]
  · simp [narrow_of_mem sat hlo hhi, hlo, hhi]

/-- Whatever the value, a number of w bits is written (R97). -/
theorem narrow_lt (sgn sat : Bool) (w : Nat) (v : Int) : (narrow sgn sat w v).1 < 2 ^ w := by
  rw [narrow]
  split_ifs <;> exact wrapInt_lt w _

/-- Without SAT every value wraps (R97). -/
theorem narrow_wraps (sgn : Bool) (w : Nat) (v : Int) : (narrow sgn false w v).1 = wrapInt w v := by
  simp only [narrow, Bool.false_eq_true, if_false]
  split_ifs <;> rfl

end

/-- Settles O54: a value of the format wraps to itself, as the extremes do, and without SAT any value to one congruent to it. -/
theorem arrayNarrowing : Obligations.ArrayNarrowing := by
  intro sgn sat w v hw r x
  refine ⟨narrow_lt sgn sat w v, (intOf_mem hw _).1, (intOf_mem hw _).2, narrow_leaves_iff, ?fits, ?below, ?above, ?wraps⟩
  case fits =>
    intro h
    obtain ⟨hlo, hhi⟩ := narrow_leaves_iff.mp h
    have hr : r = (wrapInt w v, false) := narrow_of_mem sat hlo hhi
    simp only [x, hr, intOf_wrapInt hw hlo hhi]
  case below =>
    rintro h rfl
    have hr : r = (wrapInt w (intLo sgn w), true) := narrow_of_lt h
    simp only [x, hr, intOf_wrapInt_intLo hw]
  case above =>
    rintro h rfl
    have hr : r = (wrapInt w (intHi sgn w), true) := narrow_of_gt h
    simp only [x, hr, intOf_wrapInt_intHi hw]
  case wraps =>
    rintro rfl
    have hr : r.1 = wrapInt w v := narrow_wraps sgn w v
    simp only [x, hr]
    exact Int.emod_eq_zero_of_dvd (intOf_wrapInt_modEq hw v).symm.dvd

end Sys2Proof.Machine
end

section
/-!
SUPPORT. The unsigned overflows of the array.
-/
namespace Sys2Proof.Machine

theorem wrapInt_natCast (w n : Nat) : wrapInt w n = n % 2 ^ w := by
  have h := wrapInt_cast w n
  exact_mod_cast h

/-- A difference that wraps, formed without leaving the naturals. -/
theorem wrapInt_sub (w a : Nat) {b : Nat} (hb : b ≤ 2 ^ w) : wrapInt w (a - b) = (a + 2 ^ w - b) % 2 ^ w := by
  have hcast : ((a + 2 ^ w - b : Nat) : Int) = (a - b : Int) + 2 ^ w := by
    push_cast [hb.trans (Nat.le_add_left _ a)]
    ring
  rw [← wrapInt_natCast, hcast, wrapInt, wrapInt, Int.add_emod_right]

theorem wrapInt_intHi_unsigned (w : Nat) : wrapInt w (intHi false w) = 2 ^ w - 1 := by
  have hpos := Nat.two_pow_pos w
  have hcast : intHi false w = (2 ^ w - 1 : Nat) := by simp [intHi, hpos]
  rw [hcast, wrapInt_natCast, Nat.mod_eq_of_lt (by omega)]

theorem wrapInt_intLo_unsigned (w : Nat) : wrapInt w (intLo false w) = 0 := by simp [intLo, wrapInt]

theorem wrapInt_intHi_signed {w : Nat} (hw : 0 < w) : wrapInt w (intHi true w) = 2 ^ (w - 1) - 1 := by
  have hpos := Nat.two_pow_pos (w - 1)
  have hdouble := mul_pow_sub_one hw.ne' 2
  have hcast : intHi true w = (2 ^ (w - 1) - 1 : Nat) := by simp [intHi, hpos]
  rw [hcast, wrapInt_natCast, Nat.mod_eq_of_lt (by omega)]

theorem wrapInt_intLo_signed {w : Nat} (hw : 0 < w) : wrapInt w (intLo true w) = 2 ^ (w - 1) := by
  have hpos := Nat.two_pow_pos (w - 1)
  have hdouble := mul_pow_sub_one hw.ne' 2
  have hcast : intLo true w = (0 : Nat) - (2 ^ (w - 1) : Nat) := by simp [intLo]
  rw [hcast, wrapInt_sub w 0 (by omega), Nat.mod_eq_of_lt (by omega)]
  omega

/-- A natural number overflows the unsigned format from 2 ^ w on, and gives all ones under SAT (R97, R102). -/
theorem narrow_unsigned_natCast (sat : Bool) (w n : Nat) :
    narrow false sat w n = (if 2 ^ w ≤ n ∧ sat = true then 2 ^ w - 1 else n % 2 ^ w, decide (2 ^ w ≤ n)) := by
  have hhi : intHi false w < n ↔ 2 ^ w ≤ n := by
    zify
    exact Int.sub_one_lt_iff
  by_cases h : 2 ^ w ≤ n
  · rw [narrow_of_gt (hhi.mpr h)]
    cases sat <;> simp [h, wrapInt_natCast, wrapInt_intHi_unsigned]
  · rw [narrow_of_mem sat (Int.natCast_nonneg n) (not_lt.mp (mt hhi.mp h))]
    simp [h, wrapInt_natCast]

/-- A difference of unsigned numbers overflows exactly below 0, and gives 0 under SAT (R97, R102). -/
theorem narrow_unsigned_sub (sat : Bool) {w a b : Nat} (ha : a < 2 ^ w) (hb : b < 2 ^ w) :
    narrow false sat w (a - b) = (if a < b ∧ sat = true then 0 else (a + 2 ^ w - b) % 2 ^ w, decide (a < b)) := by
  by_cases h : a < b
  · have hlo : (a - b : Int) < intLo false w := sub_neg.mpr (by exact_mod_cast h)
    rw [narrow_of_lt hlo]
    cases sat <;> simp [h, wrapInt_sub w a hb.le, wrapInt_intLo_unsigned]
  · have hlo : intLo false w ≤ (a - b : Int) := sub_nonneg.mpr (by exact_mod_cast not_lt.mp h)
    have hhi : (a - b : Int) ≤ intHi false w := by
      zify at ha
      simp only [intHi, Bool.false_eq_true, if_false]
      omega
    rw [narrow_of_mem sat hlo hhi]
    simp [h, wrapInt_sub w a hb.le]

section
variable {i : DWord} {x : PeIn} (hs : insnSgn i = false)
include hs

theorem peA_unsigned (ha : x.a < 2 ^ insnW i) : peA i x = x.a := by
  rw [peA, hs, intOf_unsigned, Nat.mod_eq_of_lt ha]

theorem peB_unsigned (hb : x.b < 2 ^ insnW i) : peB i x = x.b := by
  rw [peB, hs, intOf_unsigned, Nat.mod_eq_of_lt hb]

theorem peAccOf_unsigned {d : Nat} (hd : d < 2 ^ (insnW i + 8)) : peAccOf i d = d := by
  rw [peAccOf, hs, intOf_unsigned, Nat.mod_eq_of_lt hd]

/-- The immediate is a field of the width (R81). -/
theorem intOf_immOf_unsigned : intOf false (insnW i) (immOf i) = immOf i := by
  rw [intOf_unsigned, immOf, hs, if_neg Bool.false_ne_true, Nat.mod_mod]

end

/-- Settles O52: unsigned operands are naturals, so that a sum leaves the format only upwards and a difference only below 0. -/
theorem arrayUnsignedOverflow : Obligations.ArrayUnsignedOverflow := by
  intro i x hs ha hb hd m m8
  have hA := peA_unsigned hs ha
  have hB := peB_unsigned hs hb
  have hD := peAccOf_unsigned hs hd
  have ha8 : x.a < m8 := ha.trans (Nat.pow_lt_pow_right (by decide) (by omega))
  refine ⟨?add, ?addi, ?acc, ?sub, ?accn, ?neg, ?abs⟩
  case add =>
    rw [peAdd, peNarrow, hs, hA, hB]
    exact_mod_cast narrow_unsigned_natCast (insnSat i) (insnW i) (x.a + x.b)
  case addi =>
    rw [peAddi, peNarrow, hs, hA, intOf_immOf_unsigned hs]
    exact_mod_cast narrow_unsigned_natCast (insnSat i) (insnW i) (x.a + immOf i)
  case acc =>
    rw [peAcc, hs, hA, hD]
    exact_mod_cast narrow_unsigned_natCast (insnSat i) (insnW i + 8) (x.d + x.a)
  case sub =>
    rw [peSub, peNarrow, hs, hA, hB]
    exact narrow_unsigned_sub (insnSat i) ha hb
  case accn =>
    rw [peAccn, hs, hA, hD]
    exact narrow_unsigned_sub (insnSat i) hd ha8
  case neg =>
    have hneg := narrow_unsigned_sub (insnSat i) (Nat.two_pow_pos (insnW i)) ha
    rw [peNeg, peNarrow, hs, hA, ← zero_sub, ← Nat.cast_zero, hneg]
    obtain h0 | hpos := x.a.eq_zero_or_pos
    · simp [h0, m]
    · simp [hpos, hpos.ne', m]
  case abs =>
    rw [peAbs, peNarrow, hs, hA, Int.natAbs_natCast, narrow_unsigned_natCast]
    simp [ha, Nat.mod_eq_of_lt ha]

end Sys2Proof.Machine
end

section
/-!
SUPPORT. The array's divisions by zero.
-/
namespace Sys2Proof.Machine

section
variable {i : DWord} {x : PeIn}

/-- DIV by zero gives the extreme on the dividend's side, the dividend as remainder, and sets S whatever SAT (R104). -/
theorem peDiv_of_zero (ha : x.a < 2 ^ insnW i) (hb : x.b = 0) : peDiv i x =
    (wrapInt (insnW i) (if peA i x < 0 then intLo (insnSgn i) (insnW i) else intHi (insnSgn i) (insnW i)) + x.a * 2 ^ insnW i,
      true) := by
  have hzero : peB i x = 0 := by
    rw [peB, hb]
    cases insnSgn i <;> simp [intOf, toSigned]
  simp only [peDiv, hzero, if_true, Nat.mod_eq_of_lt ha]

/-- A signed operand is negative from the sign bit on (R94). -/
theorem peA_neg_iff (hs : insnSgn i = true) (ha : x.a < 2 ^ insnW i) : peA i x < 0 ↔ 2 ^ (insnW i - 1) ≤ x.a := by
  rw [peA, hs, intOf_signed (insnW_pos i), Nat.mod_eq_of_lt ha]
  zify at ha ⊢
  split <;> omega

end

/-- Settles O53: the quotient is the extreme on the side of the dividend's sign, which is its top bit. -/
theorem arrayDivideByZero : Obligations.ArrayDivideByZero := by
  intro i x ha hb w
  have hdiv := peDiv_of_zero ha hb
  refine ⟨?unsigned, ?nonneg, ?neg⟩
  case unsigned =>
    intro hs
    have hnonneg : ¬peA i x < 0 := peA_unsigned hs ha ▸ not_lt.mpr (Int.natCast_nonneg x.a)
    rw [hdiv, if_neg hnonneg, hs, wrapInt_intHi_unsigned]
  case nonneg =>
    intro hs hlt
    rw [hdiv, if_neg (mt (peA_neg_iff hs ha).mp (not_le.mpr hlt)), hs, wrapInt_intHi_signed (insnW_pos i)]
  case neg =>
    intro hs hle
    rw [hdiv, if_pos ((peA_neg_iff hs ha).mpr hle), hs, wrapInt_intLo_signed (insnW_pos i)]

end Sys2Proof.Machine
end

section
/-!
SUPPORT. A command of the mailbox: how a channel takes it, and how it completes.
-/
namespace Sys2Proof.Machine

section
variable (c : Chip) (b : Bool) (m n : Option Mailbox)

/-! ### The record of a channel's command lies apart from the registers -/

@[simp] theorem setBox_setBox : (c.setBox b m).setBox b n = c.setBox b n := by cases b <;> rfl

@[simp] theorem boxOf_setBox : boxOf (c.setBox b m) b = m := by cases b <;> rfl

theorem setBox_eq : c.setBox b m =
    { c with su := if b then { c.su with boxB := m } else { c.su with boxA := m } } := by cases b <;> rfl

theorem setReg_with_su (x : Seal) (a : Nat) (v : Word) :
    ({ c with su := x } : Chip).setReg a v = { c.setReg a v with su := x } := rfl

theorem setReg_setBox (a : Nat) (v : Word) : (c.setBox b m).setReg a v = (c.setReg a v).setBox b m := by
  rw [setBox_eq, setBox_eq, setReg_with_su, setReg_su]

@[simp] theorem reg_setBox (a : Nat) : (c.setBox b m).reg a = c.reg a := by cases b <;> rfl

theorem setFld_setBox (a hi lo v : Nat) : (c.setBox b m).setFld a hi lo v = (c.setFld a hi lo v).setBox b m := by
  simp only [Chip.setFld, reg_setBox, setReg_setBox]

theorem setBit_setBox (a i : Nat) (v : Bool) : (c.setBox b m).setBit a i v = (c.setBit a i v).setBox b m :=
  setFld_setBox c b m a i i v.toNat

/-- The answer shown is the same whatever the channel's record was, which it clears (R349). -/
@[simp] theorem sealShown_setBox (x : Mailbox) (st : Nat) (rs : List Nat) :
    sealShown (c.setBox b m) b x st rs = sealShown c b x st rs := by
  simp only [sealShown, setBit_setBox, setFld_setBox]
  rw [List.foldl_hom (Chip.setBox · b m) fun d p => setReg_setBox d b m _ _, setBox_setBox]

end

/-! ### The taking of a command (R349) -/

section
variable {c : Chip} {b : Bool}

theorem sealReady_iff : sealReady c b = true ↔
    portState c (regNode (boxBase b)) = 0 ∧ c.isOn .sealUnit = true ∧ (sealState c = 1 ∨ sealState c = 2) ∧ lifecycle c ≠ 3 ∧
      c.bit (boxBase b + 4) 31 = false ∧ rsaTaken c = false := by
  simp only [sealReady, Bool.and_eq_true, Bool.or_eq_true, decide_eq_true_eq, Bool.not_eq_true', and_assoc]

/-- No rule for the error state or a decommissioned unit answers a command of a channel that is ready (R362, R364). -/
theorem sealBegin_of_sealReady (h : sealReady c b = true) (op : Nat) (args : List Nat) :
    sealBegin c b op args = sealWork b op c args := by
  obtain ⟨_, _, hstate, hlife, _⟩ := sealReady_iff.mp h
  have herr : sealState c ≠ 3 := by omega
  simp only [sealBegin, hlife, herr, false_and, if_false]

/-- A channel that is ready takes a command whose reads the flash does not hold, and begins its work. -/
theorem sealCmd_of_sealReady (h : sealReady c b = true) {op : Nat} (tag : Byte)
    (hf : flashHolds c (sealReads b op (sealArgs c b)) = false) :
    c.sealCmd b op tag.toNat = sealTaken b op tag (sealArgs c b) (sealWork b op c (sealArgs c b)) := by
  have hwork := sealBegin_of_sealReady h op (sealArgs c b)
  obtain ⟨_, hon, hstate, _, hidle, hrsa⟩ := sealReady_iff.mp h
  have hreset : sealState c ≠ 0 := by omega
  simp only [sealArgs] at hf hwork
  simp only [Chip.sealCmd, hon, hreset, hidle, hrsa, hf, hwork, Bool.not_true, decide_false, Bool.and_false, Bool.or_self,
    Bool.false_eq_true, if_false]
  rfl

end

/-! ### The completion of a command (R349) -/

section
variable {c d : Chip} {b : Bool} {m : Mailbox}

theorem sealStart_of_begun (hm : boxOf c b = some m) (h : m.later ≠ .start) : c.sealStart b = c := by
  simp only [Chip.sealStart, hm, ne_eq, h, not_false_eq_true, true_or, if_true]

/-- A command whose last work is done shows its answer, unless it is VEH_SNAPSHOT or belongs to a session. -/
theorem sealComplete_of_finished {st : Nat} {rs : List Nat} (hon : c.isOn .sealUnit = true)
    (hd : (c.sealStart b).sealFinish b = d.setBox b (some m)) (hans : m.answer = some (st, rs)) (hneeds : m.needs = none)
    (hop : m.op ≠ 0x10) : c.sealComplete b = sealShown d b m st rs := by
  have hsnap : (!b && m.op == 0x10 && st == 0) = false := by simp [hop]
  rw [← sealShown_setBox d b (some m)]
  simp only [Chip.sealComplete, hon, hd, boxOf_setBox, hans, hneeds, hsnap, Bool.not_true, Bool.false_eq_true, if_false]
  rfl

/-- A command that has begun and whose last work leaves the chip `d` and the status `st` shows this status. -/
theorem sealComplete_of_sealFinish {st : Nat} (hon : c.isOn .sealUnit = true) (hm : boxOf c b = some m) (hl : m.later ≠ .start)
    (hd : c.sealFinish b = d.setBox b (some { m with later := .nothing, answer := some (st, []) })) (hneeds : m.needs = none)
    (hop : m.op ≠ 0x10) : c.sealComplete b = sealShown d b m st [] := by
  rw [← sealStart_of_begun hm hl] at hd
  exact sealComplete_of_finished (m := { m with later := .nothing, answer := some (st, []) }) hon hd rfl hneeds hop

/-- The steps that MANUFACTURE keeps for its completion are done, and it answers OK (R353). -/
theorem sealComplete_of_manufacture (hon : c.isOn .sealUnit = true) (hm : boxOf c b = some m) (hl : m.later = .manufacture)
    (hneeds : m.needs = none) (hop : m.op ≠ 0x10) : c.sealComplete b = sealShown c.manufactureEnd b m 0 [] :=
  sealComplete_of_sealFinish hon hm (by simp [hl]) (by simp only [Chip.sealFinish, hm, hl]) hneeds hop

/-- The steps that PROVISION keeps for its completion are done, and it answers OK (R356). -/
theorem sealComplete_of_provision {fleet fas : List Byte} (hon : c.isOn .sealUnit = true) (hm : boxOf c b = some m)
    (hl : m.later = .provision fleet fas) (hneeds : m.needs = none) (hop : m.op ≠ 0x10) :
    c.sealComplete b = sealShown (c.provisionEnd fleet fas) b m 0 [] :=
  sealComplete_of_sealFinish hon hm (by simp [hl]) (by simp only [Chip.sealFinish, hm, hl]) hneeds hop

end

end Sys2Proof.Machine
end

section
/-!
SUPPORT. The packages of the Seal Unit.
-/
namespace Sys2Proof.Machine

/-- What a payload of one TYPE does once its serial number fits: `f` takes effect, and where it succeeds the completion does what `later`
says (R352). -/
def PayloadDoes (typ : Nat) (oem : Bool) (f : Chip → List Byte → Nat × Chip) (later : List Byte → SealLater) : Prop :=
  ∀ (c : Chip) (p : List Byte), packageSerial c typ p = true →
    c.applyPayload typ oem p = ((f c p).1, if (f c p).1 = 0 then later p else .nothing, (f c p).2)

/-! ### The effect of each TYPE (R352 to R356, R364) -/

section
variable (oem : Bool)

theorem payloadDoes_provision : PayloadDoes 7 oem (fun d _ => provisionPackage d)
    (fun p => .provision ((p.drop 16).take 32) ((p.drop 48).take 32)) := by
  intro c p hs
  simp only [Chip.applyPayload, hs, Bool.not_true, Bool.false_eq_true, if_false]

theorem payloadDoes_revoke : PayloadDoes 8 oem (fun d p => revokePackage d oem p) (fun _ => .nothing) := by
  intro c p hs
  simp only [Chip.applyPayload, hs, Bool.not_true, Bool.false_eq_true, if_false, ite_self]

theorem payloadDoes_decommission : PayloadDoes 9 oem (fun d _ => (0, d.zeroise false)) (fun _ => .nothing) := by
  intro c p hs
  simp only [Chip.applyPayload, hs, Bool.not_true, Bool.false_eq_true, if_false, ite_self]

theorem payloadDoes_enroll : PayloadDoes 10 oem (fun d p => enrollPackage d oem p) (fun _ => .nothing) := by
  intro c p hs
  simp only [Chip.applyPayload, hs, Bool.not_true, Bool.false_eq_true, if_false, ite_self]

theorem payloadDoes_manufacture : PayloadDoes 11 oem manufacturePackage (fun _ => .manufacture) := by
  intro c p hs
  simp only [Chip.applyPayload, hs, Bool.not_true, Bool.false_eq_true, if_false]

theorem payloadDoes_dikCert : PayloadDoes 12 oem dikCertPackage (fun _ => .nothing) := by
  intro c p hs
  simp only [Chip.applyPayload, hs, Bool.not_true, Bool.false_eq_true, if_false, ite_self]

end

/-! ### APPLY_PACKAGE (R350, R341) -/

section
variable {c : Chip} {typ : Nat} {f : Chip → List Byte → Nat × Chip} {later : List Byte → SealLater}

theorem argAddr_sealArgs (c : Chip) :
    argAddr (sealArgs c false) 0 = (c.reg (Reg.SEAL_ARGn 0)).toNat + c.fld (Reg.SEAL_ARGn 1) 7 0 * 2 ^ 32 := rfl

/-- The header that gives `namedType` is the one that APPLY_PACKAGE reads. -/
theorem readHeader_of_namedType (ht : namedType c = some typ) :
    c.readHeader (argAddr (sealArgs c false) 0) = (some (namedHeader c).1, (namedHeader c).2) ∧ hdrNat (namedHeader c).1 3 1 = typ := by
  rw [namedType, ← argAddr_sealArgs] at ht
  rw [namedHeader]
  generalize c.readHeader (argAddr (sealArgs c false) 0) = r at ht ⊢
  obtain ⟨o, d⟩ := r
  obtain ⟨h, rfl, htyp⟩ := Option.map_eq_some_iff.mp ht
  exact ⟨rfl, htyp⟩

/-- A payload whose serial number fits another device is refused, whatever its TYPE (R352). -/
theorem applyPayload_of_not_packageSerial {d : Chip} {p : List Byte} (oem : Bool) (hs : packageSerial d typ p = false) :
    d.applyPayload typ oem p = (stBadArg, .nothing, d) := by
  simp only [Chip.applyPayload, hs, Bool.not_false, if_true]

/-- APPLY_PACKAGE of a container that is a package answers as `packageAnswer` says. The reads of the DMA engine are kept opaque, since a
comparison of two terms would otherwise evaluate them at an address that is not known. -/
theorem applyPackage_eq_packageAnswer (ht : namedType c = some typ) (hpackage : 6 < typ)
    (hdoes : PayloadDoes typ (hdrOem (namedHeader c).1) f later) :
    applyPackage c (sealArgs c false) = packageAnswer c typ f later := by
  obtain ⟨hread, htyp⟩ := readHeader_of_namedType ht
  have hother : ¬(1 ≤ typ ∧ typ ≤ 6) := by omega
  obtain ⟨work, hwork⟩ : ∃ f, applyPackage = f := exists_eq'
  obtain ⟨readHeader, hreadHeader⟩ : ∃ f, Chip.readHeader = f := exists_eq'
  obtain ⟨readPayload, hreadPayload⟩ : ∃ f, Chip.readPayload = f := exists_eq'
  obtain ⟨header, hheader⟩ : ∃ r, namedHeader c = r := exists_eq'
  rw [hwork, packageAnswer]
  delta applyPackage at hwork
  rw [hreadHeader, hreadPayload] at hwork
  rw [hreadPayload, ← hwork]
  rw [hheader] at hread htyp hdoes ⊢
  rw [hreadHeader] at hread
  simp only [hread, htyp, hother, if_false]
  split
  · rfl
  obtain ⟨status | p, d⟩ := readPayload _ _ _
  · rfl
  cases hs : packageSerial d typ p with
  | false => simp only [hs, applyPayload_of_not_packageSerial _ hs, Bool.false_eq_true, if_false]
  | true => simp only [hs, hdoes d p hs, if_true]

theorem sealWork_applyPackage (c : Chip) (args : List Nat) : sealWork false 0x22 c args = applyPackage c args := by
  unfold sealWork
  simp only

/-- The row of a TYPE takes a package of this TYPE. -/
theorem becomes_package {i : Instr} {tag : Byte} (hi : ∀ s, exec i s = packageRow typ tag s) (hpackage : 6 < typ)
    (hr : sealReady c false = true) (hf : flashHolds c (sealReads false 0x22 (sealArgs c false)) = false)
    (ht : namedType c = some typ) (hdoes : PayloadDoes typ (hdrOem (namedHeader c).1) f later) :
    Becomes i c (sealTaken false 0x22 tag (sealArgs c false) (packageAnswer c typ f later)) := by
  obtain ⟨hport, _⟩ := sealReady_iff.mp hr
  refine becomes_regRun hi (fun _ => rfl) hport ?_
  rw [if_pos ht, sealCmd_of_sealReady hr tag hf, ← applyPackage_eq_packageAnswer ht hpackage hdoes, sealWork_applyPackage]

end

end Sys2Proof.Machine
end

section
/-!
SUPPORT. The package, tamper, time-out and flash commands of the Seal Unit complete.
-/
namespace Sys2Proof.Machine

/-- The only session goes where it meets the condition. -/
theorem dropWhere_of_singleton {c : Chip} {i : Nat} {x : Session} {f : Session → Bool} (hx : c.su.sessions = [(i, x)])
    (hf : f x = true) : c.dropWhere f = c.dropSession i := by
  simp only [Chip.dropWhere, hx, hf, List.filter_cons_of_pos, List.filter_nil, List.foldl_cons, List.foldl_nil]

/-- The end of a customer load is shown, once its sections are written where it passed its checks, else with EV19 (R136). -/
theorem becomes_customerLoadDone {c d e : Chip} {l : CustomerLoad} (hon : c.isOn .sealUnit = true) (hl : c.su.load = some l)
    (hd : (if l.status = 2 then
      { c.writeMicrocode l.words l.entries with su := { (c.writeMicrocode l.words l.entries).su with
        loaded := (c.writeMicrocode l.words l.entries).su.loaded.filter (fun e => decide (e.1 ≠ 3)) ++ [(3, l.image)] } }
      else c.raise 19) = d)
    (he : ((d.loadStat l.status).setBit Reg.ASQ_QSTAT 28 false).raise 84 = e) :
    Becomes .customerLoadDone c { e with su := { e.su with
      load := none, boxA := e.su.boxA.map (fun m => if m.op = 2 then { m with answer := some (l.verdict, []) } else m) } } := by
  refine becomes_run exec_customerLoadDone (fun _ => rfl) ?_
  by_cases hgood : l.status = 2
  · rw [if_pos hgood] at hd
    simp only [hon, hl, if_pos hgood, hd, he, Bool.not_true, Bool.false_eq_true, if_false]
  · rw [if_neg hgood] at hd
    simp only [hon, hl, if_neg hgood, hd, he, Bool.not_true, Bool.false_eq_true, if_false]

/-- Settles O30: each clause is its row's branch at the clause's hypotheses (which steps of a package wait for its completion is log entry
62, the statuses of its refusals 58). -/
theorem sealPackageTamperAndFlashCommandsComplete : Obligations.SealPackageTamperAndFlashCommandsComplete := by
  refine ⟨?provision, ?revoke, ?decommission, ?enroll, ?manufacture, ?dikCert, ?manufactureEnd, ?provisionEnd, ?loadGood, ?loadBad,
    ?testFail, ?softTamper, ?hardTamper, ?authTimeout, ?idleTimeout, ?lockout, ?goEnabled, ?goDisabled, ?doneWrite, ?doneRead⟩
  case provision => exact fun c tag hr hf ht => becomes_package (exec_provision tag) (by decide) hr hf ht (payloadDoes_provision _)
  case revoke => exact fun c tag hr hf ht => becomes_package (exec_revoke tag) (by decide) hr hf ht (payloadDoes_revoke _)
  case decommission => exact fun c tag hr hf ht => becomes_package (exec_decommission tag) (by decide) hr hf ht (payloadDoes_decommission _)
  case enroll => exact fun c tag hr hf ht => becomes_package (exec_enroll tag) (by decide) hr hf ht (payloadDoes_enroll _)
  case manufacture => exact fun c tag hr hf ht => becomes_package (exec_manufacture tag) (by decide) hr hf ht (payloadDoes_manufacture _)
  case dikCert => exact fun c tag hr hf ht => becomes_package (exec_dikCert tag) (by decide) hr hf ht (payloadDoes_dikCert _)
  case manufactureEnd =>
    intro c m hon hm hl hneeds hop
    exact becomes_run (exec_sealCmdComplete false) (fun _ => rfl)
      (sealComplete_of_manufacture hon hm hl hneeds (by rw [hop]; decide))
  case provisionEnd =>
    intro c m fleet fas hon hm hl hneeds hop
    exact becomes_run (exec_sealCmdComplete false) (fun _ => rfl)
      (sealComplete_of_provision hon hm hl hneeds (by rw [hop]; decide))
  case loadGood =>
    intro c l d e hon hl hgood
    exact becomes_customerLoadDone hon hl (if_pos hgood) (by rw [hgood])
  case loadBad =>
    intro c l e hon hl hbad
    exact becomes_customerLoadDone hon hl (if_neg hbad) rfl
  case testFail => exact fun c hon => becomes_run exec_conditionalTestFail (fun _ => rfl) (if_pos hon)
  case softTamper => exact fun c hon => becomes_run exec_softTamper (fun _ => rfl) (if_pos hon)
  case hardTamper => exact fun c hon => becomes_run exec_hardTamper (fun _ => rfl) (if_pos hon)
  case authTimeout =>
    intro c i x hx hclosed hdue
    exact becomes_run exec_sessionAuthTimeout (fun _ => rfl) (dropWhere_of_singleton hx (by simp only [hclosed, hdue]; rfl))
  case idleTimeout =>
    intro c i x hx hopen hdue
    exact becomes_run exec_sessionIdleTimeout (fun _ => rfl) (dropWhere_of_singleton hx (by simp only [hopen, hdue]; rfl))
  case lockout =>
    intro c t hlocked hdue
    refine becomes_run exec_lockoutEnd (fun _ => rfl) ?_
    simp only [hlocked, hdue, if_true]
  case goEnabled =>
    intro c hidle hon
    refine becomes_run exec_xspiGo (fun _ => rfl) ?_
    simp only [Chip.xspiGo, hidle, hon, Bool.false_eq_true, if_false, if_true]
  case goDisabled =>
    intro c hidle hoff
    refine becomes_run exec_xspiGo (fun _ => rfl) ?_
    simp only [Chip.xspiGo, hidle, hoff, Bool.false_eq_true, if_false]
  case doneWrite =>
    intro c data a b hbusy hwrite
    refine becomes_run (exec_xspiDone data [(a, b)]) (fun _ => rfl) ?_
    simp only [hbusy, hwrite, Bool.not_true, Bool.false_eq_true, if_false, if_true, List.foldl_cons, List.foldl_nil]
  case doneRead =>
    intro c data d hbusy hread
    refine becomes_run (exec_xspiDone data []) (fun _ => rfl) ?_
    simp only [hbusy, hread, Bool.not_true, Bool.false_eq_true, if_false, List.foldl_nil, d]

end Sys2Proof.Machine
end

section
/-!
SUPPORT. The commands of a debug port.
-/
namespace Sys2Proof.Machine

/-! ### The word that a VERIFY writes to DBG_AUTHCTL (R537, R556) -/

theorem natBits_or (x y hi lo : Nat) : natBits (x ||| y) hi lo = natBits x hi lo ||| natBits y hi lo := by
  rw [natBits, Nat.shiftRight_or_distrib, Nat.or_mod_two_pow]; rfl

theorem natBits_and (x y hi lo : Nat) : natBits (x &&& y) hi lo = natBits x hi lo &&& natBits y hi lo := by
  rw [natBits, Nat.shiftRight_and_distrib, Nat.and_mod_two_pow]; rfl

/-- The word that a VERIFY writes: the port's LENGTH as it is, the VERIFY bit, METHOD and LEVEL. -/
def verifyWord (a : Word) (password : Bool) (level : Fin 4) : Word :=
  (a &&& 0xFF0000#32) ||| BitVec.ofNat 32 (2 ^ 30 + password.toNat * 256 + level.val)

/-- What the word says, whatever the port's LENGTH: not CLOSE, not CHALLENGE, but VERIFY, by its METHOD and LEVEL. -/
theorem verifyWord_says (a : Word) (password : Bool) (level : Fin 4) :
    bitOf (verifyWord a password level) 29 = false ∧ bitOf (verifyWord a password level) 31 = false ∧
      bitOf (verifyWord a password level) 30 = true ∧ bitOf (verifyWord a password level) 8 = password ∧
      Machine.fld (verifyWord a password level) 1 0 = level.val := by
  have hbit : ∀ i, bitOf 0xFF0000#32 i = false → bitOf (verifyWord a password level) i =
      bitOf (BitVec.ofNat 32 (2 ^ 30 + password.toNat * 256 + level.val)) i := fun i hi => by
    rw [verifyWord, bitOf_or, bitOf_and, hi, Bool.and_false, Bool.false_or]
  have hlevel : Machine.fld (verifyWord a password level) 1 0 =
      Machine.fld (BitVec.ofNat 32 (2 ^ 30 + password.toNat * 256 + level.val)) 1 0 := by
    rw [Machine.fld, verifyWord, BitVec.toNat_or, BitVec.toNat_and, natBits_or, natBits_and,
      show natBits (0xFF0000#32).toNat 1 0 = 0 from rfl, Nat.and_zero, Nat.zero_or]
    rfl
  rw [hbit 29 rfl, hbit 31 rfl, hbit 30 rfl, hbit 8 rfl, hlevel]
  cases password <;> fin_cases level <;> exact ⟨rfl, rfl, rfl, rfl, rfl⟩

/-- What of the word the register keeps. -/
theorem verifyWord_kept (a : Word) (password : Bool) (level : Fin 4) :
    verifyWord a password level &&& 0xFF0103#32 = (a &&& 0xFF0000#32) ||| BitVec.ofNat 32 (256 * password.toNat + level.val) := by
  have hlength : 0xFF0000#32 &&& 0xFF0103#32 = 0xFF0000#32 := rfl
  have hkept : BitVec.ofNat 32 (2 ^ 30 + password.toNat * 256 + level.val) &&& 0xFF0103#32 =
      BitVec.ofNat 32 (256 * password.toNat + level.val) := by
    cases password <;> fin_cases level <;> rfl
  rw [verifyWord, BitVec.and_or_distrib_right, BitVec.and_assoc, hkept, hlength]

/-! ### The commands of the port (R533, R537 to R539) -/

section
variable {c d : Chip} {p : Fin 3} {password : Bool} {level : Fin 4}

/-- VERIFY at a port that is there keeps METHOD and LEVEL in DBG_AUTHCTL, and verifies. -/
theorem becomes_verify (hp : portThere c p.val = true)
    (hd : (c.onPort p.val (fun x => { x with
      authctl := ((debugPort c p.val).authctl &&& 0xFF0000#32) ||| BitVec.ofNat 32 (256 * password.toNat + level.val) })).verifyPort
        p.val password level.val = d) :
    Becomes (.verify p password level) c d := by
  refine becomes_run (exec_verify p password level) (fun _ => rfl) ?_
  have hword : ((debugPort c p.val).authctl &&& 0xFF0000#32) ||| BitVec.ofNat 32 (2 ^ 30 + password.toNat * 256 + level.val) =
    verifyWord (debugPort c p.val).authctl password level := rfl
  obtain ⟨hclose, hchallenge, hverify, hmethod, hlevel⟩ := verifyWord_says (debugPort c p.val).authctl password level
  simp only [hp, hword, Chip.authCtl, hclose, hchallenge, hverify, hmethod, hlevel, verifyWord_kept, hd, Bool.not_true,
    Bool.false_eq_true, if_false, if_true]

/-- A VERIFY for a level above 0, at a port that is not locked and not busy, begins. -/
theorem verifyPort_begins {p level : Nat} (hlevel : level ≠ 0) (hfree : (debugPort c p).locked = false)
    (hidle : (debugPort c p).verify = none) :
    c.verifyPort p password level = c.onPort p (fun x => { x with
      verify := some (if password then passwordVerdict c p else keyVerdict c p level, if password then Nat.min 2 level else level)
      nonceAt := if password then x.nonceAt else none }) := by
  simp only [Chip.verifyPort, hlevel, hfree, hidle, Option.isSome_none, Bool.false_eq_true, if_false]

/-- A grant of level 1, above MAXLEVEL as it was, is shown with EV240 (R539). -/
theorem verifyEnd_of_first_grant {p : Nat} (hv : (debugPort c p).verify = some (1, 1)) (hmax : c.fld Reg.DBG_AON 30 29 < 1) :
    c.verifyEnd p = (((c.onPort p (fun x => { x with verify := none, result := 1 })).onPort p (fun x => { x with level := 1 })).setFld
      Reg.DBG_AON 30 29 1).raise 240 := by
  have hmax' : ((c.onPort p (fun x => { x with verify := none, result := 1 })).onPort p (fun x => { x with level := 1 })).fld
      Reg.DBG_AON 30 29 < 1 := (fld_congr rfl Reg.DBG_AON 30 29).trans_lt hmax
  have hlow : ¬2 ≤ 1 := by decide
  simp only [Chip.verifyEnd, hv, hmax', hlow, if_true, if_false]

/-- The eighth refusal locks the port with EV242 (R538). -/
theorem verifyEnd_of_eighth_refusal {p v l : Nat} (hv : (debugPort c p).verify = some (v, l)) (hbad : v ≠ 1)
    (hfails : (debugPort c p).fails = 7) :
    c.verifyEnd p = (((c.onPort p (fun x => { x with verify := none, result := v })).onPort p
      (fun x => { x with fails := 8, locked := true })).raise 241).raise 242 := by
  simp only [Chip.verifyEnd, hv, hbad, hfails, if_false, Nat.reduceAdd, le_refl, decide_true, Chip.raiseIf, if_true]

end

end Sys2Proof.Machine
end

section
/-!
SUPPORT. The start-up and debug authentication commands complete.
-/
namespace Sys2Proof.Machine

/-- A start-up mode other than SERVICE is entered where its check passes, else SERVICE (R457, R468). -/
theorem startUpMode_of_pass {c : Chip} (h5 : odNat c 0x2002 0 ≠ 5) (hcheck : checkFailure c = none) :
    c.startUpMode = c.enterMode (odNat c 0x2002 0) := by
  simp only [Chip.startUpMode, h5, hcheck, if_false]

theorem startUpMode_of_failure {c : Chip} {f : Nat × Nat} (h5 : odNat c 0x2002 0 ≠ 5) (hcheck : checkFailure c = some f) :
    c.startUpMode = (c.modeRefused f).enterMode 5 := by
  simp only [Chip.startUpMode, h5, hcheck, if_false]

/-- At step 6 of the start, with nothing to recover, the release of reset enters the start-up mode (R385, R473). -/
theorem becomes_resetRelease_startUp {c d : Chip} {passed : BitVec 7} {rs : List RepairReport} (hstart : c.pow.started = true)
    (hdue : bootDue c = true) (hneeds : needsRecovery c = false) (hmode : c.startUpMode = d) :
    Becomes (.resetRelease passed rs) c d := by
  refine becomes_run (exec_resetRelease passed rs) (fun _ => rfl) ?_
  simp only [hstart, hdue, hneeds, hmode, Bool.not_true, Bool.not_false, Bool.and_self, Bool.false_eq_true, if_true, if_false]

/-- Settles O27: each clause is its row's branch at the clause's hypotheses (that a key's VERIFY uses the nonce up, with the verdict taken
at its start, is log entry 112, the rows of the start 119, 120 and 129). -/
theorem bootAndDebugAccessCommandsComplete : Obligations.BootAndDebugAccessCommandsComplete := by
  refine ⟨?starts, ?waits, ?mode, ?modeRefused, ?manager, ?worker, ?stops, ?recovery, ?recovered, ?recovering, ?preempt, ?challenge,
    ?challengeAway, ?challengeLocked, ?verifyKey, ?verifyPassword, ?verifyClose, ?granted, ?refused, ?expiry, ?close⟩
  case starts =>
    intro c passed rs hstart hvin hrails
    refine becomes_run (exec_resetRelease passed rs) (fun _ => rfl) ?_
    simp only [hstart, hvin, hrails, Bool.not_false, Bool.not_true, Bool.or_self, Bool.false_eq_true, if_true, if_false]
  case waits =>
    intro c passed rs hstart hbad
    refine becomes_run (exec_resetRelease passed rs) (fun _ => rfl) ?_
    have hwait : (c.pow.vinLow || !railsGood c) = true := by
      rwa [Bool.or_eq_true, Bool.not_eq_true']
    simp only [hstart, hwait, Bool.not_false, if_true]
  case mode =>
    intro c passed rs hstart hdue hneeds h5 hcheck
    exact becomes_resetRelease_startUp hstart hdue hneeds (startUpMode_of_pass h5 hcheck)
  case modeRefused =>
    intro c passed rs f hstart hdue hneeds h5 hcheck
    exact becomes_resetRelease_startUp hstart hdue hneeds (startUpMode_of_failure h5 hcheck)
  case manager =>
    intro c a b d hopen hscan hmgr hmgr' hseal
    refine becomes_run (exec_coreRelease a b) (fun _ => rfl) ?_
    simp only [hopen, hscan, hseal, hmgr, hmgr', d, Bool.not_true, Bool.or_self, Bool.false_and, Bool.false_eq_true, if_true, if_false]
  case worker =>
    intro c a b d hopen hscan hmgr hup hseal
    refine becomes_run (exec_coreRelease a b) (fun _ => rfl) ?_
    have hplaced : (upstream d).isNone = false := Option.isNone_eq_false_iff.mpr hup
    simp only [hopen, hscan, hseal, hmgr, hplaced, d, Bool.not_true, Bool.or_self, Bool.and_false, Bool.false_eq_true, if_false]
  case stops =>
    intro c a b d hopen hscan hstop
    refine becomes_run (exec_coreRelease a b) (fun _ => rfl) ?_
    rcases hstop with hseal | ⟨hmgr, hup⟩
    · simp only [hopen, hscan, hseal, d, Bool.not_true, Bool.or_self, Bool.false_eq_true, if_true, if_false]
    · simp only [hopen, hscan, hmgr, hup, d, Option.isNone_none, Bool.not_true, Bool.not_false, Bool.or_self, Bool.and_self,
        Bool.false_eq_true, if_true, if_false, ite_self]
  case recovery =>
    intro c hphase hdue hneeds
    refine becomes_run exec_recovery (fun _ => rfl) ?_
    simp only [hphase, hdue, hneeds, Bool.and_self, OfNat.one_ne_ofNat, if_true, if_false]
  case recovered =>
    intro c hphase hrecovered hplaced
    refine becomes_run exec_recovery (fun _ => rfl) ?_
    simp only [hphase, hrecovered, hplaced, Bool.and_self, if_true]
  case recovering =>
    intro c hphase hrecovered
    refine becomes_run exec_recovery (fun _ => rfl) ?_
    simp only [hphase, hrecovered, Bool.false_and, Bool.false_eq_true, if_true, if_false]
  case preempt => exact fun c hidle hwants => becomes_run exec_preemptRequest (fun _ => rfl) (if_pos ⟨hidle, hwants⟩)
  case challenge =>
    intro c p hp hfree
    refine becomes_run (exec_challenge p) (fun _ => rfl) ?_
    simp only [hp, Chip.challengePort, hfree, Bool.false_eq_true, if_true, if_false]
  case challengeAway =>
    intro c hmode
    refine becomes_run (exec_challenge 2) (fun _ => rfl) (if_neg ?_)
    simpa only [portThere, Fin.val_two, ne_eq, not_true, decide_false, Bool.false_or, decide_eq_true_iff] using hmode
  case challengeLocked =>
    intro c p hp hlocked
    refine becomes_run (exec_challenge p) (fun _ => rfl) ?_
    simp only [hp, Chip.challengePort, hlocked, if_true]
  case verifyKey =>
    intro c p level d hp hlevel hfree hidle
    refine becomes_verify hp ?_
    rw [Bool.toNat_false, Nat.mul_zero, Nat.zero_add]
    exact verifyPort_begins (Fin.val_ne_zero_iff.mpr hlevel) hfree hidle
  case verifyPassword =>
    intro c p level d hp hlevel hfree hidle
    refine becomes_verify hp ?_
    rw [Bool.toNat_true, Nat.mul_one]
    exact verifyPort_begins (Fin.val_ne_zero_iff.mpr hlevel) hfree hidle
  case verifyClose =>
    intro c p password hp
    exact becomes_verify hp (by rw [Fin.val_zero, Nat.add_zero]; exact if_pos rfl)
  case granted => exact fun c p hv hmax => becomes_run (exec_verifyDone p) (fun _ => rfl) (verifyEnd_of_first_grant hv hmax)
  case refused =>
    exact fun c p v l hv hbad hfails => becomes_run (exec_verifyDone p) (fun _ => rfl) (verifyEnd_of_eighth_refusal hv hbad hfails)
  case expiry =>
    intro c p hold
    exact becomes_run (exec_nonceExpiry p) (fun _ => rfl) (if_neg (by rw [hold]; decide))
  case close => exact fun c p => becomes_run (exec_close p) (fun _ => rfl) rfl

end Sys2Proof.Machine
end

section
/-!
SUPPORT. The taking of a submission queue's entry.
-/
namespace Sys2Proof.Machine

section
variable {c : Chip} {q op : Nat} {isOp : Nat → Bool} {act : Chip → Nat → Nat → SqAnswer}

theorem sqReady_iff : sqReady c q op = true ↔ nextSq c = some q ∧ (sqRead c q).1.isSome = true ∧ sqField c q 3 1 = op := by
  rw [sqReady, Bool.and_eq_true, Bool.and_eq_true, decide_eq_true_iff, decide_eq_true_iff, and_assoc]

/-- The entry whose turn it is is taken by the row of its OP, and answered as `sqAnswered` says (R159, R160). The read of the entry is kept
opaque, since a comparison of two terms would otherwise evaluate it at an address that is not known. -/
theorem sqTake_of_sqReady (h : sqReady c q op = true) (hop : isOp op = true) :
    c.sqTake isOp act = sqAnswered c q op (act (sqTaken c q) (sqCtx c q) (sqArg c q)) := by
  obtain ⟨hnext, hread, hfield⟩ := sqReady_iff.mp h
  unfold sqAnswered sqTaken sqCtx sqArg
  unfold sqField at *
  obtain ⟨take, htake⟩ : ∃ f, Chip.sqTake = f := exists_eq'
  rw [htake]
  delta Chip.sqTake at htake
  unfold sqRead at *
  obtain ⟨blockRead, hblockRead⟩ : ∃ f, Chip.blockRead = f := exists_eq'
  rw [hblockRead] at htake hread hfield ⊢
  obtain ⟨bs, hbs⟩ := Option.isSome_iff_exists.mp hread
  rw [hbs, Option.getD_some] at hfield
  simp only [← htake, hnext, hbs, hfield, hop, Option.getD_some, List.drop_zero, Bool.not_true, Bool.false_eq_true, if_false]

/-- A row of the submission commands takes the entry of its OP, and answers `a`. -/
theorem becomes_sqTake {i : Instr} {g : State → Host.Outcome State Fault Refusal} {a : SqAnswer} (hi : ∀ s, exec i s = g s)
    (hg : ∀ s, g s = run (fun c => c.sqTake isOp act) s) (h : sqReady c q op = true) (hop : isOp op = true)
    (ha : act (sqTaken c q) (sqCtx c q) (sqArg c q) = a) : Becomes i c (sqAnswered c q op a) :=
  becomes_run hi hg (by rw [sqTake_of_sqReady h hop, ha])

end

section
variable {c : Chip} {n arg k st : Nat} {l : List Nat} {refuse : Nat → Nat} {act : Chip → Nat → Nat → Chip}
  {t : Option (List Nat) × Chip}

/-- A command whose target can be read answers by the state of its context (R159). Here and for SUBMIT what memory answers is kept opaque,
as in `sqTake_of_sqReady`. -/
theorem simpleCommand_of_readTarget (hread : c.readTarget n = t) (ht : t.1.isSome = true) (hs : (t.2.ctx n).state = k) :
    simpleCommand refuse act c n arg = if refuse k = 0 then { status := 0, state := k, chip := act t.2 n arg }
      else { status := refuse k, state := k, chip := t.2 } := by
  obtain ⟨work, hwork⟩ : ∃ f, simpleCommand = f := exists_eq'
  rw [hwork]
  delta simpleCommand at hwork
  obtain ⟨readTarget, hreadTarget⟩ : ∃ f, Chip.readTarget = f := exists_eq'
  rw [hreadTarget] at hread hwork
  obtain ⟨d, hd⟩ := Option.isSome_iff_exists.mp ht
  simp only [← hwork, hread, hd, hs]

/-- A command that the state of its context lets pass does its work (R159). -/
theorem simpleCommand_accepted (hread : c.readTarget n = t) (ht : t.1.isSome = true) (hs : (t.2.ctx n).state ∈ l)
    (h : ∀ k ∈ l, refuse k = 0) :
    simpleCommand refuse act c n arg = { status := 0, state := (t.2.ctx n).state, chip := act t.2 n arg } := by
  rw [simpleCommand_of_readTarget hread ht rfl, if_pos (h _ hs)]

/-- A command refused in the state of its context leaves the context (R159). -/
theorem simpleCommand_refused (hread : c.readTarget n = t) (ht : t.1.isSome = true) (hs : (t.2.ctx n).state = k)
    (h : refuse k = st) (hst : st ≠ 0) : simpleCommand refuse act c n arg = { status := st, state := k, chip := t.2 } := by
  rw [simpleCommand_of_readTarget hread ht hs, h, if_neg hst]

end

section
variable {i : Instr} {g : State → Host.Outcome State Fault Refusal} {c : Chip} {q op k st : Nat} {l : List Nat} {isOp : Nat → Bool}
  {refuse : Nat → Nat} {act : Chip → Nat → Nat → Chip} {t : Option (List Nat) × Chip} {d : Chip}

/-- The row of an OP whose entry's context lets the command pass. -/
theorem becomes_accepted (hi : ∀ s, exec i s = g s) (hg : ∀ s, g s = run (fun c => c.sqTake isOp (simpleCommand refuse act)) s)
    (hop : isOp op = true) (h : ∀ k ∈ l, refuse k = 0) (hread : (sqTaken c q).readTarget (sqCtx c q) = t)
    (hd : act t.2 (sqCtx c q) (sqArg c q) = d)
    (hr : sqReady c q op = true) (ht : t.1.isSome = true) (hs : (t.2.ctx (sqCtx c q)).state ∈ l) :
    Becomes i c (sqAnswered c q op { status := 0, state := (t.2.ctx (sqCtx c q)).state, chip := d }) :=
  becomes_sqTake hi hg hr hop (hd ▸ simpleCommand_accepted hread ht hs h)

/-- The row of an OP whose entry's context refuses the command. -/
theorem becomes_refused (hi : ∀ s, exec i s = g s) (hg : ∀ s, g s = run (fun c => c.sqTake isOp (simpleCommand refuse act)) s)
    (hop : isOp op = true) (h : refuse k = st) (hst : st ≠ 0) (hread : (sqTaken c q).readTarget (sqCtx c q) = t)
    (hr : sqReady c q op = true) (ht : t.1.isSome = true) (hs : (t.2.ctx (sqCtx c q)).state = k) :
    Becomes i c (sqAnswered c q op { status := st, state := k, chip := t.2 }) :=
  becomes_sqTake hi hg hr hop (simpleCommand_refused hread ht hs h hst)

end

/-- The checks of R159 on the descriptor that SUBMIT names, up to its kernels: it names itself and is software's, is FREE in memory and in
the Granary, and its chain is one of VALID kernels. -/
structure SubmitChecked (c : Chip) (n : Nat) (d : List Nat) : Prop where
  named : natBits (listGet 0 d 0) 17 0 = n
  software : n < c.fld Reg.GRN_CAPFIRST 17 0
  freeWord : natBits (listGet 0 d 0) 21 18 = 0
  freeCtx : (c.ctx n).state = 0
  chainLen : ctxChainLen { state := 0, desc := d } ≤ 4
  chainPos : ctxChainPos { state := 0, desc := d } ≤ ctxChainLen { state := 0, desc := d }
  kernels : (ctxKernel { state := 0, desc := d } :: chainToCome { state := 0, desc := d }).all (fun k => kernelValid c k) = true

theorem SubmitChecked.no_invalid_kernel {c : Chip} {n : Nat} {d : List Nat} (h : SubmitChecked c n d) :
    (ctxKernel { state := 0, desc := d } :: chainToCome { state := 0, desc := d }).any (fun k => !kernelValid c k) = false := by
  rw [← List.not_all_eq_any_not, h.kernels, Bool.not_true]

/-- SUBMIT of a descriptor that passes the checks of R159 allocates its pages and records its context. -/
theorem submitCommand_of_checked {c e : Chip} {n arg : Nat} {d es pages : List Nat} {t : Option (List Nat) × Chip} {x : Ctx}
    (hread : c.readTarget n = t) (hd : t.1 = some d) (hx : { state := 0, desc := d } = x) (hchecked : SubmitChecked t.2 n d) :
    let m : Chip := (t.2.readPmap (pmapAddr x)).2
    let valid : List Nat := (List.range (pcount { x with pmap := es })).filter (fun p => (listGet 0 es p).testBit 31)
    let want : List Nat := valid.filter (fun p => natBits (listGet 0 es p) 19 0 = 0xFFFFF)
    let fs : List Nat := (want.zip pages).foldl (fun l p =>
      listSet l p.1 ((listGet 0 l p.1 &&& (2 ^ 31 + 2 ^ 28)) + 2 ^ 27 + 2 ^ 26 + p.2)) es
    let z : Ctx := ctxSet (ctxSetFlag (ctxSetFlag (ctxSetFlag
      (ctxSet { x with pmap := fs } 1 23 16 (rehome m (ctxHome { x with pmap := es }))) 6 false) 5 false) 1 false) 14 11 4 0
    (t.2.readPmap (pmapAddr x)).1 = some es →
    (valid.filter (fun p => natBits (listGet 0 es p) 19 0 ≠ 0xFFFFF)).any (fun p => !pageAccepted m (listGet 0 es p)) = false →
    m.allocPages (rehome m (ctxHome { x with pmap := es })) want.length = (some pages, e) →
    submitCommand c n arg = { status := 0, state := 0, chip :=
      (e.blockWrite (pmapAddr z) (fs.flatMap (leBytes 4))).2.putCtx n { z with state := if arg.testBit 0 then 1 else 2 } } := by
  subst hx
  have hknown := hchecked.no_invalid_kernel
  obtain ⟨hnamed, hsoftware, hword, hfree, hlen, hpos, -⟩ := hchecked
  obtain ⟨work, hwork⟩ : ∃ f, submitCommand = f := exists_eq'
  rw [hwork]
  delta submitCommand at hwork
  obtain ⟨readTarget, hreadTarget⟩ : ∃ f, Chip.readTarget = f := exists_eq'
  obtain ⟨readPmap, hreadPmap⟩ : ∃ f, Chip.readPmap = f := exists_eq'
  obtain ⟨allocPages, hallocPages⟩ : ∃ f, Chip.allocPages = f := exists_eq'
  obtain ⟨blockWrite, hblockWrite⟩ : ∃ f, Chip.blockWrite = f := exists_eq'
  rw [hreadTarget, hreadPmap, hallocPages, hblockWrite] at hwork
  rw [hreadTarget] at hread
  rw [hreadPmap, hallocPages, hblockWrite, ← hwork]
  dsimp only
  intro hpm hpage halloc
  simp only [hread, hd]
  rw [if_neg (not_or.mpr ⟨not_not.mpr hnamed, hsoftware.not_ge⟩), if_neg (not_or.mpr ⟨not_not.mpr hword, not_not.mpr hfree⟩),
    if_neg (not_or.mpr ⟨hlen.not_gt, hpos.not_gt⟩)]
  simp only [hknown, hpm, hpage, halloc, Bool.false_eq_true, if_false]

end Sys2Proof.Machine
end

section
/-!
SUPPORT. The submission commands of the Granary complete.
-/
namespace Sys2Proof.Machine

/-- Settles O31: each clause takes the entry of its OP; what it answers follows from the state of its context, and for SUBMIT from the
checks of R159 in their order (STATE as the command found it is log entry 169, FREE clearing the record 25, the descriptor taken from
memory 18). -/
theorem granaryQueueCommandsComplete : Obligations.GranaryQueueCommandsComplete := by
  refine ⟨?submit, ?park, ?parkRunning, ?parkDone, ?release, ?releaseReady, ?free, ?freeRunning, ?setDeadline, ?setPrio, ?setPrioFree,
    ?fence, ?badOp⟩
  case submit =>
    intro c q es pages e t n d x m valid want fs z hr ht hid hcap hst hfree hlen hpos hkern hpm hpage halloc
    refine becomes_sqTake exec_submit (fun _ => rfl) hr rfl ?_
    obtain ⟨d', hd'⟩ := Option.isSome_iff_exists.mp ht
    have hd : d = d' := by rw [show d = t.1.getD [] from rfl, hd', Option.getD_some]
    exact submitCommand_of_checked rfl (hd ▸ hd') rfl ⟨hid, hcap, hst, hfree, hlen, hpos, hkern⟩ hpm hpage halloc
  case park =>
    intro c q t
    exact becomes_accepted exec_park (fun _ => rfl) rfl (by decide) rfl rfl
  case parkRunning =>
    intro c q t
    exact becomes_refused exec_park (fun _ => rfl) rfl rfl (by decide) rfl
  case parkDone =>
    intro c q t
    exact becomes_refused exec_park (fun _ => rfl) rfl rfl (by decide) rfl
  case release =>
    intro c q t
    exact becomes_accepted exec_release (fun _ => rfl) rfl (by decide) rfl rfl
  case releaseReady =>
    intro c q t
    exact becomes_refused exec_release (fun _ => rfl) rfl rfl (by decide) rfl
  case free =>
    intro c q t
    exact becomes_accepted exec_free (fun _ => rfl) rfl (by decide) rfl rfl
  case freeRunning =>
    intro c q t
    exact becomes_refused exec_free (fun _ => rfl) rfl rfl (by decide) rfl
  case setDeadline =>
    intro c q t
    exact becomes_accepted exec_setDeadline (fun _ => rfl) rfl (by decide) rfl rfl
  case setPrio =>
    intro c q t
    exact becomes_accepted exec_setPrio (fun _ => rfl) rfl (by decide) rfl rfl
  case setPrioFree =>
    intro c q t
    exact becomes_refused exec_setPrio (fun _ => rfl) rfl rfl (by decide) rfl
  case fence => exact fun c q hr => becomes_sqTake exec_fence (fun _ => rfl) hr rfl rfl
  case badOp =>
    intro c q op t hr hop ht
    refine becomes_refused exec_grnBadOp (fun _ => rfl) ?_ rfl (by decide) rfl hr ht rfl
    simpa only [Bool.or_eq_true, beq_iff_eq, decide_eq_true_eq] using hop

end Sys2Proof.Machine
end

section
/-!
SUPPORT. The control commands of the Granary complete.
-/
namespace Sys2Proof.Machine

section
variable {c d e : Chip} {r : Round}

/-- A staged round that may start, with room for its NOTICE, is the running one (R162, R168). -/
theorem turnaround_of_ready (hstaged : c.grn.staged = some r) (hrunning : c.grn.running = none) (hready : stagedReady c = true)
    (hroom : ringFull c Reg.RQ_BASE_LO = false)
    (hd : r.bound.foldl (fun (c : Chip) b =>
      (((c.onTile b.1 (fun x => { x with ftab := frameTableOf (c.ctx b.2) })).resetPes b.1).loadLfsr b.1).putCtx b.2
        { c.ctx b.2 with state := 4, last := some r.kernel, late := 0 })
      { c with grn := { c.grn with
        running := some { r with seqNo := c.grn.nextSeq }, staged := none, causes := [], noticeDue := false, acked := false,
        gangStart := false, nextSeq := (c.grn.nextSeq + 1) % 2 ^ 32 } } = d)
    (he : ((d.setFld Reg.GRN_RSTAT 9 0 r.kernel).postRound 1 { r with seqNo := c.grn.nextSeq } c.grn.nextSeq).managerSay .start = e) :
    c.turnaround = if e.grn.preempt = .acked then e.endPreempt else e := by
  simp only [Chip.turnaround, hstaged, hrunning, hready, hroom, hd, he, Option.isSome_none, Bool.not_true, Bool.or_self,
    Bool.false_eq_true, if_false]

/-- A round that ends by preemption: the queue is discarded, a fault of it cleared, and each context is READY or FAULTED (R185). -/
theorem preemptRound_eq (hd : { c.setBit Reg.ASQ_QSTAT 27 false with seq := { c.seq with queue := [], running := none } } = d)
    (he : (if d.fld Reg.ASQ_QSTAT 31 30 = 1 then (d.setBit Reg.ASQ_FAULT 31 false).enterRest else d) = e) :
    c.preemptRound r = (r.boundInOrder.map (fun b => (b.2, roundCause e false b.1 b.2))).foldl (fun g p =>
      if p.2 = 0 then g.putCtx p.1 { g.ctx p.1 with late := 0, state := 2 }
      else (g.setCtx p.1 { g.ctx p.1 with late := 0 }).faultCtx p.1 p.2) ((e.clearRound r).withdraw) := by
  simp only [Chip.preemptRound, setBit_seq, hd, he]

end

/-- Settles O32: each clause is its row's branch at the clause's hypotheses (that an END without a round gives ERR 2 in every state of the
queue is log entry 168, the OUTCOME kept 21, an ACK_PREEMPT before the PREEMPT entry 171, and HOLD under a preemption 138). -/
theorem granaryControlCommandsComplete : Obligations.GranaryControlCommandsComplete := by
  refine ⟨?enable, ?enableBlocked, ?enableEarly, ?initDone, ?klock, ?hold, ?ringBase, ?ringBusy, ?late, ?selection, ?transfer,
    ?resumed, ?resumedFault, ?turnaround, ?endNow, ?endHeld, ?endNoRound, ?endAccept, ?cqRoom, ?preemptPosted, ?ackEarly, ?ack,
    ?ackLate, ?rstat⟩
  case enable =>
    intro c hp hoff hready hblocked htable hcap
    refine becomes_regRun exec_grnEnable (fun _ => rfl) hp ?_
    simp only [Chip.grnEnable, hoff, hready, hblocked, htable, hcap, Bool.and_self, Bool.not_true, Bool.false_eq_true, if_false]
  case enableBlocked =>
    intro c d hp hoff hready hblocked htable hcap
    refine becomes_regRun exec_grnEnable (fun _ => rfl) hp ?_
    simp only [Chip.grnEnable, Chip.grnInitError, hoff, hready, hblocked, htable, hcap, Bool.and_self, Bool.not_true,
      Bool.false_eq_true, if_false, if_true, d]
  case enableEarly =>
    intro c hp hoff hready
    refine becomes_regRun exec_grnEnable (fun _ => rfl) hp ?_
    simp only [Chip.grnEnable, Chip.grnInitError, hoff, hready, Bool.false_and, Bool.not_false, Bool.false_eq_true, if_false, if_true]
  case initDone =>
    intro c d hleft hready hblocked
    refine becomes_run exec_grnInitDone (fun _ => rfl) ?_
    simp only [hleft, hready, hblocked, Bool.not_true, Bool.or_self, Bool.false_eq_true, if_false, d]
  case klock => exact fun c hp => becomes_regRun exec_klock (fun _ => rfl) hp rfl
  case hold => exact fun c b hp => becomes_regRun (exec_grnHold b) (fun _ => rfl) hp rfl
  case ringBase =>
    intro c r hi data x a d hp hempty hrow
    refine becomes_regRun (exec_ringBaseWrite r hi data) (fun _ => rfl) hp ?_
    simp only [Chip.ringBaseWrite, hempty, hrow, if_true, a, d]
  case ringBusy =>
    intro c r hi data hp hempty
    refine becomes_regRun (exec_ringBaseWrite r hi data) (fun _ => rfl) hp ?_
    simp only [Chip.ringBaseWrite, hempty, Bool.false_eq_true, if_false]
  case late =>
    intro c n x hctx hlo hhi hdue hnot hpast
    refine becomes_run exec_deadlineScan (fun _ => rfl) ?_
    have hone : ctxsWhere c (fun x => decide (1 ≤ x.state) && decide (x.state ≤ 4) && decide (ctxDeadline x ≠ 0) && !ctxFlag x 5 &&
        decide (deadlineLeft c x < 0)) = [n] := by
      simp only [ctxsWhere, hctx, List.filter_cons, List.filter_nil, hlo, hhi, hdue, hnot, hpast, ne_eq, not_false_eq_true, decide_true,
        Bool.not_false, Bool.and_self, if_true, List.map_cons, List.map_nil]
    rw [hone, List.foldl_cons, List.foldl_nil]
  case selection =>
    intro c cls k bound d e f hhold hready hstaged hround hplaced
    refine becomes_run exec_selection (fun _ => rfl) ?_
    have hselection : c.selection = f := by
      simp only [Chip.selection, hhold, hready, hstaged, hround, hplaced, Option.isSome_none, Bool.not_true, Bool.or_self,
        Bool.false_eq_true, if_false, f, e, d]
    rw [Chip.selectAfterPreempt, hselection]
  case transfer =>
    intro c t m hm
    refine becomes_run (exec_pageTransferDone t) (fun _ => rfl) ?_
    simp only [Chip.pageTransferDone, hm]
  case resumed =>
    intro c st hst hwaits hfault
    refine becomes_run exec_stallResume (fun _ => rfl) ?_
    simp only [Chip.stallResume, hst, hwaits, hfault, Bool.false_eq_true, if_false]
  case resumedFault =>
    intro c st d hst hwaits hfault
    refine becomes_run exec_stallResume (fun _ => rfl) ?_
    simp only [Chip.stallResume, hst, hwaits, hfault, Bool.false_eq_true, if_false, if_true, d]
  case turnaround =>
    intro c r d e hstaged hrunning hready hroom
    exact becomes_run exec_turnaround (fun _ => rfl) (turnaround_of_ready hstaged hrunning hready hroom rfl rfl)
  case endNow =>
    intro c o d hp hidle hrunning hq hempty
    have hround : d.grn.running.isNone = false := Option.isNone_eq_false_iff.mpr hrunning
    refine becomes_regRun (exec_grnEnd o) (fun _ => rfl) hp ?_
    simp only [d] at hidle hround hq hempty
    simp only [Chip.grnEnd, hidle, hround, hq, hempty, ne_eq, not_true, Bool.false_eq_true, if_false, if_true, d]
  case endHeld =>
    intro c o d hp hidle hrunning hq hbusy
    have hround : d.grn.running.isNone = false := Option.isNone_eq_false_iff.mpr hrunning
    refine becomes_regRun (exec_grnEnd o) (fun _ => rfl) hp ?_
    simp only [d] at hidle hround hq hbusy
    simp only [Chip.grnEnd, hidle, hround, hq, hbusy, ne_eq, not_true, Bool.false_eq_true, if_false, d]
  case endNoRound =>
    intro c o d hp hidle hrunning
    have hround : d.grn.running.isNone = true := Option.isNone_iff_eq_none.mpr hrunning
    refine becomes_regRun (exec_grnEnd o) (fun _ => rfl) hp ?_
    simp only [d] at hidle hround
    simp only [Chip.grnEnd, hidle, hround, Bool.false_eq_true, if_false, if_true, d]
  case endAccept =>
    intro c hheld hq hempty
    refine becomes_run exec_endAccept (fun _ => rfl) ?_
    simp only [hheld, hq, hempty, decide_true, Bool.and_self, if_true]
  case cqRoom =>
    intro c q e hwaiting hroom hctx
    refine becomes_run (exec_cqRoom q) (fun _ => rfl) ?_
    simp only [hwaiting, List.length_cons, List.length_nil, Nat.zero_add, Chip.cqDrain, hroom, hctx, Bool.false_eq_true, if_false]
  case preemptPosted =>
    intro c r hroom hposting hrunning
    refine becomes_run exec_roundQueueRoom (fun _ => rfl) ?_
    simp only [Chip.postPreempt, hroom, hposting, hrunning, Bool.false_eq_true, if_false, if_true]
  case ackEarly =>
    intro c hp hidle
    refine becomes_regRun exec_ackPreempt (fun _ => rfl) hp ?_
    simp only [Chip.ackPreempt, hidle]
  case ack =>
    intro c i l r d e ends f g hp hposted hrunning
    refine becomes_regRun exec_ackPreempt (fun _ => rfl) hp ?_
    have hround : c.preemptRound r = f := preemptRound_eq rfl rfl
    simp only [Chip.ackPreempt, hposted, hrunning, hround, g]
  case ackLate =>
    intro c i hposted hdue
    refine becomes_run exec_ackLate (fun _ => rfl) ?_
    simp only [hposted, hdue, if_true]
  case rstat => exact fun c hp => becomes_regRun exec_rstatRead (fun _ => rfl) hp rfl

end Sys2Proof.Machine
end

section
/-!
SUPPORT. A packet in a router.
-/
namespace Sys2Proof.Machine

variable {c d : Chip} {n i : Nat} {p : Packet}

/-- A router holds one packet of its network, which goes on as `hop` says. -/
theorem hopFirst_of_singleton (hflight : c.noc.flight = [{ node := n, input := i, packet := p }])
    (hhop : (c.setFlight []).hop n p = some d) : c.hopFirst n p.net = d := by
  simp only [Chip.hopFirst, hflight, Chip.hopOf, List.any_nil, List.erase_cons_head, hhop, ne_eq, not_true, or_self,
    Bool.false_eq_true, if_false]

/-- The row takes the only packet of a router to where it hops. -/
theorem becomes_packetHop {n : BitVec 10} {v : Fin 4} (hflight : c.noc.flight = [{ node := n.toNat, input := i, packet := p }])
    (hnet : p.net = v.val) (hhop : (c.setFlight []).hop n.toNat p = some d) : Becomes (.packetHop n v none) c d :=
  becomes_run (exec_packetHop n v none) (fun _ => rfl) (hnet ▸ hopFirst_of_singleton hflight hhop)

/-- The check of a packet's flits and of its snoop OP passes (R262, R265). -/
def flitsPass (p : Packet) : Bool :=
  (List.range p.flits.length).all (flitOk p) && !(decide (p.net = 2) && decide (4 ≤ snpOp p))

theorem flitsPass_of_all (hflits : (List.range p.flits.length).all (flitOk p) = true) (hsnp : p.net = 2 → snpOp p < 4) :
    flitsPass p = true := by
  simp only [flitsPass, hflits, Bool.true_and, Bool.not_eq_true', Bool.and_eq_false_iff, decide_eq_false_iff_not, not_le]
  exact imp_iff_not_or.mp hsnp

/-- A packet that fails its check is consumed (R265). -/
theorem hop_of_parity (hflits : (List.range p.flits.length).all (flitOk p) = false) : c.hop n p = some (c.nocParity n p.net) := by
  simp only [Chip.hop, hflits, Bool.not_false, Bool.true_or, if_true]

theorem not_parity_of_flitsPass (hpass : flitsPass p = true) :
    (!(List.range p.flits.length).all (flitOk p) || (decide (p.net = 2) && decide (4 ≤ snpOp p))) = false := by
  rw [← Bool.not_eq_true', Bool.not_or, Bool.not_not]
  exact hpass

/-- A packet for another node of this device takes the step that `stepToward` gives (R257). -/
theorem hop_of_elsewhere (hpass : flitsPass p = true) (hdev : pktDest p / 1024 = c.deviceNo) (hx : pktDest p % 1024 / 32 ≤ 17)
    (hy : pktDest p % 32 ≤ 17) (hne : pktDest p % 1024 ≠ n) {m : Nat}
    (hm : stepToward n (pktDest p % 1024 / 32) (pktDest p % 32) = m) (hopen : draining c m = false) :
    c.hop n p = some (c.fly m n p) := by
  have hrow : pktDest p % 1024 % 32 = pktDest p % 32 := Nat.mod_mod_of_dvd _ (by decide)
  simp only [Chip.hop, not_parity_of_flitsPass hpass, hdev, hne, hrow, hx.not_gt, hy.not_gt, hm, hopen, ne_eq, not_true, or_self,
    Bool.false_eq_true, if_false]

/-- A packet for this node goes to its port (R257). -/
theorem hop_of_here (hpass : flitsPass p = true) (hn : n < 1024) (hdest : pktDest p = ownNode c n) : c.hop n p = c.deliver n p := by
  have hdev : pktDest p / 1024 = c.deviceNo := by rw [hdest, ownNode]; omega
  have hnode : pktDest p % 1024 = n := by rw [hdest, ownNode]; omega
  simp only [Chip.hop, not_parity_of_flitsPass hpass, hdev, hnode, ne_eq, not_true, Bool.false_eq_true, if_false, if_true]

/-- A port that is OPEN takes a packet (R263, R268). -/
theorem deliver_of_open (hport : hasPort n = true) (hopen : portState c n = 0) : c.deliver n p = some (c.arrive n p) := by
  have hstays : waitsHere c n p = false := by simp [waitsHere, hopen]
  simp only [Chip.deliver, hport, hstays, hopen, Bool.not_true, Bool.false_eq_true, if_false]

/-- A node without a port answers UNROUTABLE (R271). -/
theorem deliver_of_no_port (hport : hasPort n = false) : c.deliver n p = some (c.unroutable n p respUnroutable) := by
  simp only [Chip.deliver, hport, Bool.not_false, if_true]

end Sys2Proof.Machine
end

section
/-!
SUPPORT. A request that a block performs.
-/
namespace Sys2Proof.Machine

section
variable {c : Chip} {n : Nat} {p : Packet} {data : Option Packet} {b : Nat} {r : Resp × Chip} {tgt : Target}

/-- An undefined OP is answered with ERR (R259). -/
theorem serve_of_undefined (hop : 3 ≤ reqOp p) : c.serve n p data = (some (rspTo c n p (respErr 7)), c) :=
  if_pos (Or.inl hop)

/-- A read of the target that is at this node, without the peek bit, sends the data (R259, R263). Here and for the write the
access is kept opaque, since a comparison of two terms would otherwise evaluate it at an address that is not known. -/
theorem serve_of_read (hop : reqOp p = 0) (hsize : reqSize p < 7) (hpeek : flitBits p 0 22 22 = 0)
    (htgt : decodeAddr c (reqAddr p) = tgt) (hnode : targetNode tgt = some n) (haligned : reqAddr p % 2 ^ reqSize p = 0)
    (hr : c.anyRead (initiatorAt c (pktSrc p)) (reqAddr p) (2 ^ reqSize p) false tgt = r) (hok : r.1.status = 0) :
    c.serve n p data = (some (datTo c n p (reqAddr p) (2 ^ reqSize p) r.1), r.2) := by
  obtain ⟨serve, hserve⟩ : ∃ f, Chip.serve = f := exists_eq'
  rw [hserve]
  delta Chip.serve at hserve
  obtain ⟨decode, hdecode⟩ : ∃ f, decodeAddr = f := exists_eq'
  obtain ⟨read, hread⟩ : ∃ f, Chip.anyRead = f := exists_eq'
  rw [hdecode, hread] at hserve
  rw [hdecode] at htgt
  rw [hread] at hr
  have hop3 : ¬3 ≤ 0 := by decide
  simp only [← hserve, hop, hop3, hsize.ne, hpeek, OfNat.zero_ne_ofNat, zero_ne_one, htgt, hnode, haligned, hr, hok,
    ne_eq, not_true, or_self, decide_false, Bool.false_and, if_false, if_true]

/-- A write of at most 4 bytes in the DTCM, without write data on DAT (R259). -/
theorem serve_of_dtcm_write (hop : reqOp p = 2) (hsize : reqSize p ≤ 2) (htgt : decodeAddr c (reqAddr p) = .dtcm b)
    (haligned : reqAddr p % 2 ^ reqSize p = 0)
    (hr : c.tcmWrite b (leBytes (2 ^ reqSize p) (flitBits p 1 31 0 / 256 ^ (reqAddr p % 4))) = r) :
    c.serve 7 p none = (some (rspTo c 7 p r.1), r.2) := by
  obtain ⟨serve, hserve⟩ : ∃ f, Chip.serve = f := exists_eq'
  rw [hserve]
  delta Chip.serve at hserve
  obtain ⟨decode, hdecode⟩ : ∃ f, decodeAddr = f := exists_eq'
  obtain ⟨write, hwrite⟩ : ∃ f, Chip.anyWrite = f := exists_eq'
  rw [hdecode, hwrite] at hserve
  rw [hdecode] at htgt
  have hput : write c (initiatorAt c (pktSrc p)) (reqAddr p)
      (leBytes (2 ^ reqSize p) (flitBits p 1 31 0 / 256 ^ (reqAddr p % 4))) false (.dtcm b) = r := by rw [← hwrite]; exact hr
  have hop3 : ¬3 ≤ 2 := by decide
  have hlong : reqSize p ≠ 7 := by omega
  have hwide : ¬4 < 2 ^ reqSize p := (Nat.pow_le_pow_right (n := 2) (by decide) hsize).not_gt
  simp only [← hserve, hop3, hop, hlong, htgt, targetNode, haligned, hwide, hput, ne_eq, not_true, or_self, List.isEmpty_nil,
    Bool.not_true, if_false, if_true]

theorem anyRead_dtcm (who : Initiator) (a k : Nat) : c.anyRead who a k false (.dtcm b) = c.tcmRead b k := rfl

/-- A read of a loft that answers gives the bytes, poisoned where the check finds a double error (R198). -/
theorem anyRead_loft {t h a k : Nat} (who : Initiator) (hopen : dramBlocked (c.reachLoft t) t (inCommon a) = false) :
    c.anyRead who a k false (.loft t h) =
      ({ data := leNat ((c.reachLoft t).dramRead t h k).1, poison := ((c.reachLoft t).dramRead t h k).2.1 },
        ((c.reachLoft t).dramRead t h k).2.2) := by
  have hread : c.anyRead who a k false (.loft t h) = c.loftRead t h (inCommon a) k := rfl
  rw [hread, Chip.loftRead, if_neg (by rw [hopen]; decide)]

end

/-- A request without write data that can be performed is performed, and its answer goes out (R259). -/
theorem becomes_memoryRequest {c d : Chip} {n : BitVec 10} {x : Arrival} {a : Packet} (hx : readyRequest c n.toNat = some x)
    (hroom : snoopsOut c n.toNat ≤ 61) (hdata : reqData x.packet = false)
    (hserve : (c.takeArrival x).serve n.toNat x.packet none = (some a, d)) : Becomes (.memoryRequest n) c (d.send n.toNat a) := by
  refine becomes_run (exec_memoryRequest n) (fun _ => rfl) ?_
  simp only [hx, hroom.not_gt, hdata, hserve, Chip.answer, Option.map_none, Bool.false_eq_true, if_false]

theorem reqData_of_op {p : Packet} (hop : reqOp p ≠ 2) : reqData p = false := by
  simp only [reqData, hop, decide_false, Bool.false_and]

end Sys2Proof.Machine
end

section
/-!
SUPPORT. The packet rows of the network complete.
-/
namespace Sys2Proof.Machine

theorem arrivalOf_of_empty {c : Chip} {n : Nat} {f : Packet → Bool} (h : c.noc.inbox = []) : arrivalOf c n f = none := by
  simp only [arrivalOf, h, List.find?_nil]

/-- What waits for an answer does not depend on the arrivals. -/
@[simp] theorem askedFor_takeArrival (c : Chip) (x : Arrival) (n tag : Nat) : askedFor (c.takeArrival x) n tag = askedFor c n tag := rfl
@[simp] theorem snoops_takeArrival (c : Chip) (x : Arrival) : (c.takeArrival x).noc.snoops = c.noc.snoops := rfl

/-- A packet that enters an empty router is alone there. -/
theorem setFlight_nil_fly (c : Chip) (m i : Nat) (p : Packet) :
    (c.setFlight []).fly m i p = { c with noc := { c.noc with flight := [{ node := m, input := i, packet := p }] } } := rfl

/-- A packet on its way to another node of this device goes to the neighbour that is nearer. -/
theorem becomes_packetHop_elsewhere {c : Chip} {n : BitVec 10} {i m : Nat} {v : Fin 4} {p : Packet}
    (hflight : c.noc.flight = [{ node := n.toNat, input := i, packet := p }]) (hnet : p.net = v.val) (hpass : flitsPass p = true)
    (hdev : pktDest p / 1024 = c.deviceNo) (hx : pktDest p % 1024 / 32 ≤ 17) (hy : pktDest p % 32 ≤ 17)
    (hne : pktDest p % 1024 ≠ n.toNat) (hm : stepToward n.toNat (pktDest p % 1024 / 32) (pktDest p % 32) = m)
    (hopen : draining c m = false) :
    Becomes (.packetHop n v none) c
      { c with noc := { c.noc with flight := [{ node := m, input := n.toNat, packet := p }] } } := by
  have hhop := hop_of_elsewhere (c := c.setFlight []) hpass hdev hx hy hne hm hopen
  rw [setFlight_nil_fly] at hhop
  exact becomes_packetHop hflight hnet hhop

/-- Settles O33: each clause is its row's branch at the clause's hypotheses (INV_LINE clearing the reservation is log entry 43, the choice
of the packet that goes on 159, the lost snoop 160, the order of the causes 40). -/
theorem networkCommandsComplete : Obligations.NetworkCommandsComplete := by
  refine ⟨?inject, ?alongX, ?alongY, ?parity, ?arrives, ?unroutable, ?readDtcm, ?writeDtcm, ?readLoft, ?undefined, ?response, ?readData,
    ?noResponse, ?invLine, ?descSnoop, ?noSnoop, ?ack, ?ackOwed, ?timeout, ?dataTimeout, ?snoopLost, ?snoopAgain⟩
  case inject =>
    intro c n v p hx hy hopen hreq hown hasked
    refine becomes_run (exec_packetHop n v (some p)) (fun _ => rfl) ?_
    simp only [Chip.injectPacket, hx.not_gt, hy.not_gt, hopen, hreq, hown, hasked, decide_true, Bool.not_true, List.any_nil,
      List.nil_append, or_self, Bool.false_eq_true, if_false, if_true, Chip.setNoc, Chip.fly]
  case alongX =>
    intro c n i v p hflight hnet hflits hsnp hdev hx hy hlt hopen
    exact becomes_packetHop_elsewhere hflight hnet (flitsPass_of_all hflits hsnp) hdev hx hy (by omega) (if_pos hlt) hopen
  case alongY =>
    intro c n i v p hflight hnet hflits hsnp hdev hx hy heq hlt hopen
    have hstep : stepToward n.toNat (pktDest p % 1024 / 32) (pktDest p % 32) = n.toNat + 1 := by
      rw [stepToward, heq, if_neg (lt_irrefl _), if_neg (lt_irrefl _), if_pos hlt]
    exact becomes_packetHop_elsewhere hflight hnet (flitsPass_of_all hflits hsnp) hdev hx hy (by omega) hstep hopen
  case parity =>
    intro c n i v p hflight hnet hflits
    exact becomes_packetHop hflight hnet (hop_of_parity hflits)
  case arrives =>
    intro c n i v p hflight hnet hflits hsnp hdest hport hopen
    have hhere := hop_of_here (c := c.setFlight []) (flitsPass_of_all hflits hsnp) n.isLt hdest
    exact becomes_packetHop hflight hnet (hhere.trans (deliver_of_open hport hopen))
  case unroutable =>
    intro c n i v p hflight hnet hflits hsnp hreq hdest hport
    have hhere := hop_of_here (c := c.setFlight []) (flitsPass_of_all hflits hsnp) n.isLt hdest
    rw [deliver_of_no_port hport, Chip.unroutable, if_pos hreq, Chip.answerAt, setFlight_nil_fly] at hhere
    exact becomes_packetHop hflight hnet hhere
  case readDtcm =>
    intro c n x b p size hx hroom hop hsize hpeek hn htgt haligned
    subst hn
    have hserve := serve_of_read (data := none) hop hsize hpeek htgt rfl haligned (anyRead_dtcm _ _ _) rfl
    exact becomes_memoryRequest hx hroom (reqData_of_op (by rw [hop]; decide)) hserve
  case writeDtcm =>
    intro c n x b p size w hx hroom hop hdata hsize hn htgt haligned
    subst hn
    exact becomes_memoryRequest hx hroom hdata (serve_of_dtcm_write hop hsize htgt haligned rfl)
  case readLoft =>
    intro c n x t h p size d hx hroom hop hsize hpeek hnode htgt haligned hopen
    have hserve := serve_of_read (data := none) hop hsize hpeek htgt (congrArg some hnode) haligned (anyRead_loft _ hopen) rfl
    exact becomes_memoryRequest hx hroom (reqData_of_op (by rw [hop]; decide)) hserve
  case undefined =>
    intro c n x p hx hroom hop
    exact becomes_memoryRequest hx hroom (reqData_of_op (ne_of_gt hop)) (serve_of_undefined hop)
  case response =>
    intro c n x a hx ha
    refine becomes_run (exec_responseReceive n) (fun _ => rfl) ?_
    simp only [hx, askedFor_takeArrival, ha]
    rfl
  case readData =>
    intro c n x a k b size hx ha
    refine becomes_run (exec_readDataReceive n) (fun _ => rfl) ?_
    simp only [hx, askedFor_takeArrival, ha]
    rfl
  case noResponse =>
    intro c n hempty
    refine becomes_run (exec_responseReceive n) (fun _ => rfl) ?_
    simp only [arrivalOf_of_empty hempty]
  case invLine =>
    intro c x h hx hhome
    refine becomes_run exec_invLine (fun _ => rfl) ?_
    simp only [hx, hhome]
  case descSnoop =>
    intro c n x pm hx hnames
    refine becomes_run (exec_descSnoop n pm) (fun _ => rfl) ?_
    simp only [hx, hnames, List.foldl_cons, List.foldl_nil]
  case noSnoop =>
    intro c n pm hempty
    refine becomes_run (exec_descSnoop n pm) (fun _ => rfl) ?_
    simp only [arrivalOf_of_empty hempty]
  case ack =>
    intro c n x a hx ha howes
    refine becomes_run (exec_snoopAck n) (fun _ => rfl) ?_
    simp only [hx, snoops_takeArrival, ha, Chip.snoopOver, howes, Chip.answer]
    rfl
  case ackOwed =>
    intro c n x a q hx ha howes
    refine becomes_run (exec_snoopAck n) (fun _ => rfl) ?_
    have hfound := List.find?_some ha
    simp only [Bool.and_eq_true, decide_eq_true_eq] at hfound
    obtain ⟨hnode, -⟩ := hfound
    simp only [hx, snoops_takeArrival, ha, Chip.snoopOver, howes, Chip.answer, hnode]
    rfl
  case timeout =>
    intro c n tag a ha hdue
    refine becomes_run (exec_requestTimeout n tag) (fun _ => rfl) ?_
    have hlate : ¬c.ns < a.since + nocTimeout c := not_lt.mpr hdue
    simp only [ha, hlate, if_false]
    rfl
  case dataTimeout =>
    intro c n x hx hdue
    refine becomes_run (exec_dataTimeout n) (fun _ => rfl) ?_
    simp only [hx, hdue.not_gt, if_false]
  case snoopLost =>
    intro c n tag a hone hnode htag howes hagain hdue
    refine becomes_run (exec_snoopTimeout n tag) (fun _ => rfl) ?_
    have hlate : ¬c.ns < a.since + snoopTimeout c := not_lt.mpr hdue
    simp only [hone, List.find?_cons, hnode, htag, hlate, hagain, Chip.snoopOver, howes, Chip.answer, List.erase_cons_head, Chip.setNoc,
      decide_true, Bool.and_self, if_false, if_true]
  case snoopAgain =>
    intro c n tag a hone hnode htag hagain hdue
    refine becomes_run (exec_snoopTimeout n tag) (fun _ => rfl) ?_
    have hlate : ¬c.ns < a.since + snoopTimeout c := not_lt.mpr hdue
    simp only [hone, List.find?_cons, hnode, htag, hlate, hagain, List.erase_cons_head, List.nil_append, Chip.setNoc, decide_true,
      Bool.and_self, Bool.false_eq_true, if_false]

end Sys2Proof.Machine
end

section
/-!
SUPPORT. One instruction of the core: the row that fetches a word of its own carries it out.
-/
namespace Sys2Proof.Machine

section
variable {c d : Chip} {w : Word} {mine : Word → Bool} {f : Chip → Word → Nat → Did}

/-- The word that the core begins comes to what its row says (R208, R212). -/
theorem coreInsn_of_coreBegins (h : CoreBegins c d w) (hm : mine w = true) :
    c.coreInsn mine f = Chip.coreDid w (f d w c.core.pc.toNat) := by
  obtain ⟨hready, hfetch, hdefined, hcond⟩ := h
  simp only [Chip.coreInsn, hready, hfetch, hdefined, hm, hcond, Bool.not_true, Bool.or_false, Bool.false_eq_true, if_false]

/-- A word whose condition fails only advances PC (R212). -/
theorem coreInsn_of_failed_condition (hready : coreReady c = true) (hfetch : c.coreFetch = (some w, d))
    (hdefined : wordUndefined w = false) (hm : mine w = true)
    (hcond : condOk d.core.flg d.core.gorl (Machine.fld w 31 28) = false) :
    c.coreInsn mine f = Chip.coreDid 0 (.next d (c.core.pc.toNat + 4) none) := by
  simp only [Chip.coreInsn, hready, hfetch, hdefined, hm, hcond, Bool.not_true, Bool.not_false, Bool.or_false, Bool.false_eq_true,
    if_false, if_true]

/-- A fetch without a word waits, or raises FETCH (R226, R347). -/
theorem coreInsn_of_no_word (hready : coreReady c = true) (hfetch : c.coreFetch = (none, d)) :
    c.coreInsn mine f = if coreWaits d then d else d.coreTrap 6 0 (some c.core.pc.toNat) c.core.pc.toNat := by
  simp only [Chip.coreInsn, hready, hfetch, Bool.not_true, Bool.false_eq_true, if_false]

variable {i : Instr}

/-- A command whose meaning is `coreInsn` runs its words. -/
theorem coreRuns_of_coreInsn (hi : ∀ s, exec i s = runAny (fun c => c.coreInsn mine f) s) : CoreRuns i mine f := by
  intro c d w hready
  refine ⟨fun hfetch hw => ?waits, fun hfetch hw => ?traps, fun hfetch hdefined hm => ⟨fun hcond => ?runs, fun hcond => ?skips⟩⟩
  case waits => exact becomes_runAny hi (fun _ => rfl) ((coreInsn_of_no_word hready hfetch).trans (if_pos hw))
  case traps => exact becomes_runAny hi (fun _ => rfl) ((coreInsn_of_no_word hready hfetch).trans (if_neg (by simp [hw])))
  case runs => exact becomes_runAny hi (fun _ => rfl) (coreInsn_of_coreBegins ⟨hready, hfetch, hdefined, hcond⟩ hm)
  case skips => exact becomes_runAny hi (fun _ => rfl) (coreInsn_of_failed_condition hready hfetch hdefined hm hcond)

/-- A row runs its words alike whichever way it is written what they come to. -/
theorem CoreRuns.congr {f' : Chip → Word → Nat → Did} (h : CoreRuns i mine f) (hf : ∀ d w pc, f d w pc = f' d w pc) : CoreRuns i mine f' := by
  have hff : f = f' := funext fun d => funext fun w => funext fun pc => hf d w pc
  exact hff ▸ h

/-- The instruction that begins becomes what its word comes to. -/
theorem becomes_coreDid {x : Did} (hi : ∀ s, exec i s = runAny (fun c => c.coreInsn mine f) s) (h : CoreBegins c d w)
    (hm : mine w = true) (hf : f d w c.core.pc.toNat = x) : Becomes i c (Chip.coreDid w x) :=
  becomes_runAny hi (fun _ => rfl) ((coreInsn_of_coreBegins h hm).trans (congrArg (Chip.coreDid w) hf))

end

end Sys2Proof.Machine
end
section
/-!
SUPPORT. The arithmetic classes of the core run.
-/
namespace Sys2Proof.Machine

section
variable {i : Instr} {op : Nat}

theorem coreRuns_of_aluInsn {f : Nat → Nat → Nat → AluOut} (hi : ∀ s, exec i s = runAny (fun c => c.aluInsn op f) s) :
    CoreRuns i (fun w => decide (wCls w ≤ 1) && decide (wOp w = op)) (aluDid (decide (op ≠ 13)) f) := by
  refine (coreRuns_of_coreInsn hi).congr fun d w pc => ?_
  by_cases hop : op = 13 <;> simp only [aluDid, hop, ne_eq, not_true, not_false_iff, decide_true, decide_false, Bool.not_true,
    Bool.not_false, if_true, Bool.false_eq_true, if_false] <;> rfl

theorem coreRuns_of_accInsn {f : Chip → Word → Chip} (hi : ∀ s, exec i s = runAny (fun c => c.accInsn op f) s) :
    CoreRuns i (fun w => decide (wCls w = 5) && decide (wOp w = op)) (fun d w pc => .next (f d w) (pc + 4) none) :=
  coreRuns_of_coreInsn hi

theorem coreRuns_of_mulInsn {f : Nat → Nat → AluOut × Bool} (hi : ∀ s, exec i s = runAny (fun c => c.mulInsn op f) s) :
    CoreRuns i (fun w => decide (wCls w = 6) && decide (wOp w = op)) (mulDid f) :=
  coreRuns_of_coreInsn hi

theorem coreRuns_of_fpInsn {f : Chip → Word → FpRound → FpFlags × (Chip → Chip)}
    (hi : ∀ s, exec i s = runAny (fun c => c.fpInsn op f) s) :
    CoreRuns i (fun w => decide (wCls w = 7) && decide (wOp w = op)) (fpDid f) :=
  (coreRuns_of_coreInsn hi).congr fun d w pc => by simp only [fpDid, ne_eq, ite_not]; rfl

theorem coreRuns_of_fpWrite {f : Nat → Nat → Nat → FpRound → Nat × FpFlags}
    (hi : ∀ s, exec i s = runAny (fun c => c.fpWrite op f) s) :
    CoreRuns i (fun w => decide (wCls w = 7) && decide (wOp w = op)) (fpDid (fpToD f)) :=
  coreRuns_of_fpInsn hi

theorem coreRuns_of_bcdInsn {f : Nat → Nat → Nat × Bool} (hi : ∀ s, exec i s = runAny (fun c => c.bcdInsn op f) s) :
    CoreRuns i (fun w => decide (wCls w = 8) && decide (wOp w = op)) (bcdDid f) := by
  refine (coreRuns_of_coreInsn hi).congr fun d w pc => ?_
  cases hok : bcdOk (coreG d (wA w)) && bcdOk (coreG d (wB w)) <;>
    simp only [bcdDid, ← Bool.not_and, hok, Bool.not_true, Bool.not_false, Bool.false_eq_true, if_false, if_true, Chip.onCore]

theorem coreRuns_of_moveInsn {f : Chip → Word → Chip} (hi : ∀ s, exec i s = runAny (fun c => c.moveInsn op f) s) :
    CoreRuns i (fun w => decide (wCls w = 11) && decide (wOp w = op)) (fun d w pc => .next (f d w) (pc + 4) none) :=
  coreRuns_of_coreInsn hi

end

end Sys2Proof.Machine
end
section
/-!
SUPPORT. The integer and move-immediate instructions of the core.
-/
namespace Sys2Proof.Machine

theorem aluAdd_zero (a b : Nat) :
    aluAdd a b 0 = { r := (a + b) % 2 ^ 32, c := some (decide (2 ^ 32 ≤ a + b)), v := some (outside32 (toSigned 32 a + toSigned 32 b)) } := by
  simp only [aluAdd, Nat.add_zero, Nat.cast_zero, Int.add_zero]

theorem aluSub_zero (a b : Nat) :
    aluSub a b 0 =
      { r := wrapInt 32 ((a : Int) - b), c := some (decide (b ≤ a)), v := some (outside32 (toSigned 32 a - toSigned 32 b)) } := by
  simp only [aluSub, Nat.add_zero, Nat.cast_zero, Int.sub_zero]

/-- Settles O43: each operation is its row's, and ADD, SUB and CMP take no carry. -/
theorem coreIntegerInstructionsComplete : Obligations.CoreIntegerInstructionsComplete := by
  simp only [Obligations.CoreIntegerInstructionsComplete, ← aluAdd_zero, ← aluSub_zero]
  exact
  ⟨coreRuns_of_aluInsn exec_distaffAdd,
   coreRuns_of_aluInsn exec_adc,
   coreRuns_of_aluInsn exec_distaffSub,
   coreRuns_of_aluInsn exec_sbc,
   coreRuns_of_aluInsn exec_and,
   coreRuns_of_aluInsn exec_or,
   coreRuns_of_aluInsn exec_xor,
   coreRuns_of_aluInsn exec_bic,
   coreRuns_of_aluInsn exec_lsl,
   coreRuns_of_aluInsn exec_lsr,
   coreRuns_of_aluInsn exec_asr,
   coreRuns_of_aluInsn exec_distaffRor,
   coreRuns_of_aluInsn exec_distaffMov,
   coreRuns_of_aluInsn exec_distaffCmp,
   coreRuns_of_aluInsn exec_qadd,
   coreRuns_of_aluInsn exec_qsub,
   coreRuns_of_coreInsn exec_movl,
   coreRuns_of_coreInsn exec_movh⟩

end Sys2Proof.Machine
end
section
/-!
SUPPORT. The accumulator and division instructions of the core.
-/
namespace Sys2Proof.Machine

/-- What the multiplying operations of class 0x5 take, by FRAC (R242). -/
theorem accTake_eq (d : Chip) (w : Word) (g : Int → Int) :
    d.accTake w g =
      if bitOf w 4 then d.accPut w (g (roundOff (2 * (toSigned 32 (coreG d (wA w)) * toSigned 32 (coreG d (wB w)))) 32 (Machine.fld w 7 6)))
      else (if (narrowTo 40 (toSigned 32 (coreG d (wA w)) * toSigned 32 (coreG d (wB w))) (bitOf w 5)).2 then d.setFlag 27 true else d).accPut w
        (g (toSigned 40 (narrowTo 40 (toSigned 32 (coreG d (wA w)) * toSigned 32 (coreG d (wB w))) (bitOf w 5)).1)) := by
  cases h : bitOf w 4 <;> simp only [Chip.accTake, accProduct, h, Bool.false_eq_true, if_false, if_true]

theorem divU_dz (a b : Nat) : (divU a b).dz = decide (b = 0) := by
  by_cases hb : b = 0 <;> simp only [divU, hb, if_true, if_false, decide_true, decide_false]

/-- Settles O44: MUL, MAC and MSU take the product by FRAC (that MAC and MSU take the reduced one is log entry 145), and an unsigned
division sets DZ where the divisor is zero. -/
theorem coreAccumulatorAndDivisionInstructionsComplete : Obligations.CoreAccumulatorAndDivisionInstructionsComplete :=
  ⟨(coreRuns_of_accInsn exec_distaffMulAcc).congr fun d w pc => by rw [accTake_eq],
   (coreRuns_of_accInsn exec_mac).congr fun d w pc => by rw [accTake_eq],
   (coreRuns_of_accInsn exec_msu).congr fun d w pc => by rw [accTake_eq],
   coreRuns_of_accInsn exec_mova,
   (coreRuns_of_accInsn exec_rda).congr fun d w pc => by rw [← apply_ite (fun x : Chip => x.setG (wA w) _)],
   coreRuns_of_accInsn exec_asra,
   coreRuns_of_accInsn exec_clra,
   coreRuns_of_mulInsn exec_divs,
   (coreRuns_of_mulInsn exec_divu).congr fun d w pc => by simp only [mulDid, divU_dz],
   coreRuns_of_mulInsn exec_rems,
   (coreRuns_of_mulInsn exec_remu).congr fun d w pc => by simp only [mulDid, divU_dz]⟩

/-- Settles O46: each operation is its row's. -/
theorem coreBinary32InstructionsComplete : Obligations.CoreBinary32InstructionsComplete :=
  ⟨coreRuns_of_fpWrite exec_fadd,
   coreRuns_of_fpWrite exec_fsub,
   coreRuns_of_fpWrite exec_fmul,
   coreRuns_of_fpWrite exec_fdiv,
   coreRuns_of_fpWrite exec_fsqrt,
   coreRuns_of_fpWrite exec_fma,
   coreRuns_of_fpWrite exec_fmin,
   coreRuns_of_fpWrite exec_fmax,
   coreRuns_of_fpInsn exec_fcmp,
   coreRuns_of_fpWrite exec_fcvtws,
   coreRuns_of_fpWrite exec_fcvtsw,
   coreRuns_of_fpWrite exec_fneg,
   coreRuns_of_fpWrite exec_fabs⟩

/-- Settles O47: each operation is its row's. -/
theorem coreDecimalAndMoveInstructionsComplete : Obligations.CoreDecimalAndMoveInstructionsComplete :=
  ⟨coreRuns_of_bcdInsn exec_dadd,
   coreRuns_of_bcdInsn exec_dsub,
   coreRuns_of_coreInsn exec_dchk,
   coreRuns_of_moveInsn exec_setp,
   coreRuns_of_moveInsn exec_getp,
   coreRuns_of_moveInsn exec_getph,
   coreRuns_of_moveInsn exec_addp,
   coreRuns_of_moveInsn exec_setb,
   coreRuns_of_moveInsn exec_setl,
   coreRuns_of_moveInsn exec_setn,
   coreRuns_of_moveInsn exec_getl,
   coreRuns_of_moveInsn exec_getn,
   coreRuns_of_moveInsn exec_getb,
   coreRuns_of_moveInsn exec_getal,
   coreRuns_of_moveInsn exec_getah,
   coreRuns_of_moveInsn exec_setah⟩

end Sys2Proof.Machine
end

section
/-!
SUPPORT. What an access to the memories leaves: the register block of Debug, the locks of the PLLs, memory, and every other unit that a
read or the wake of a tile does not record in.
-/
namespace Sys2Proof.Machine

/-- A view of the chip that does not depend on what an access to a memory may record: registers outside the DBG block, the units that
raising an event writes (R482), check bits, the wake of a tile (R197), and the core's own state. -/
structure AccessBlind {β : Type} (f : Chip → β) : Prop where
  setReg  : ∀ (d : Chip) (a : Nat) (v : Word), regBlock a ≠ 17 → f (d.setReg a v) = f d
  od      : ∀ (d : Chip) (x : Dictionary), f { d with od := x } = f d
  trace   : ∀ (d : Chip) (x : Trace), f { d with trace := x } = f d
  life    : ∀ (d : Chip) (x : Life), f { d with life := x } = f d
  ecc     : ∀ (d : Chip) (x : List (Nat × Ecc)), f { d with ecc := x } = f d
  xspi    : ∀ (d : Chip) (x : Xspi), f { d with xspi := x } = f d
  tiles   : ∀ (d : Chip) (x : List (Nat × Tile)), f { d with tiles := x } = f d
  domains : ∀ (d : Chip) (x : List Domain), f { d with domains := x } = f d
  noc     : ∀ (d : Chip) (x : Noc), f { d with noc := x } = f d
  dram    : ∀ (d : Chip) (x : Dram), f { d with dram := x } = f d
  fresh   : ∀ (d : Chip) (x : Nat), f { d with fresh := x } = f d
  core    : ∀ (d : Chip) (x : Core), f { d with core := x } = f d
  pow     : ∀ (d : Chip) (x : Power), x.unlocked = d.pow.unlocked → f { d with pow := x } = f d

section
variable {β : Type} {f : Chip → β} (h : AccessBlind f)
include h

/-! ### Events and lifetime counters (R482, R563) -/

theorem AccessBlind.setFld (c : Chip) {a : Nat} (hi lo v : Nat) (ha : regBlock a ≠ 17) : f (c.setFld a hi lo v) = f c :=
  h.setReg _ _ _ ha

theorem AccessBlind.setBit (c : Chip) {a : Nat} (i : Nat) (v : Bool) (ha : regBlock a ≠ 17) : f (c.setBit a i v) = f c :=
  h.setReg _ _ _ ha

theorem AccessBlind.emcy (c : Chip) (i : Nat) : f (c.emcy i) = f c :=
  iteKeeps f (h.setFld _ _ _ _ (by decide)) (h.od _ _)

theorem AccessBlind.raiseOnly (c : Chip) {i : Nat} (hi : i < 256) : f (c.raiseOnly i) = f c := by
  have hd : regBlock (Reg.EVT_DPENDk 0 + 4 * (i / 32)) ≠ 17 := by simp only [regBlock, Reg.EVT_DPENDk]; omega
  have hh : regBlock (Reg.EVT_HPENDk 0 + 4 * (i / 32)) ≠ 17 := by simp only [regBlock, Reg.EVT_HPENDk]; omega
  have hpending : f ((c.setVecBit (Reg.EVT_DPENDk 0) i true).setVecBit (Reg.EVT_HPENDk 0) i true) = f c :=
    (h.setBit _ _ _ hh).trans (h.setBit _ _ _ hd)
  exact iteKeeps f ((h.trace _ _).trans (iteKeeps f ((h.emcy _ _).trans hpending) hpending))
    (iteKeeps f ((h.emcy _ _).trans hpending) hpending)

theorem AccessBlind.lifeAdd (c : Chip) (k n : Nat) : f (c.lifeAdd k n) = f c := by
  have happly : f (c.lifeApply k n) = f c :=
    iteKeeps f ((h.raiseOnly _ (by decide)).trans ((h.setBit _ _ _ (by decide)).trans (h.life _ _))) (h.life _ _)
  exact iteKeeps f rfl (iteKeeps f (h.life _ _) happly)

theorem AccessBlind.raise (c : Chip) {i : Nat} (hi : i < 256) : f (c.raise i) = f c := by
  unfold Chip.raise
  split
  · exact (h.lifeAdd _ _ _).trans (h.raiseOnly c hi)
  · exact h.raiseOnly c hi

theorem AccessBlind.raiseIf (c : Chip) (b : Bool) {i : Nat} (hi : i < 256) : f (c.raiseIf b i) = f c :=
  iteKeeps f (h.raise c hi) rfl

/-! ### The wake of a tile (R197, R272) -/

theorem AccessBlind.switchOn (c : Chip) (d : Domain) : f (c.switchOn d) = f c := iteKeeps f rfl (h.domains _ _)

theorem AccessBlind.onTile (c : Chip) (t : Nat) (g : Tile → Tile) : f (c.onTile t g) = f c := h.tiles _ _

theorem AccessBlind.askDrain (c : Chip) (node goal : Nat) : f (c.askDrain node goal) = f c :=
  (h.setReg _ _ _ (by decide)).trans (h.noc _ _)

theorem AccessBlind.cancelDown (c : Chip) (d : Domain) (node : Nat) : f (c.cancelDown d node) = f c := by
  have hpow : ∀ l, f { c with pow := { c.pow with goingDown := l } } = f c := fun l => h.pow _ _ rfl
  unfold Chip.cancelDown
  refine iteKeeps f rfl (iteKeeps f ?reopens ?stays)
  case reopens => exact (h.askDrain _ _ _).trans ((h.noc _ _).trans (hpow _))
  case stays => exact (h.setReg _ _ _ (by decide)).trans ((h.noc _ _).trans ((h.noc _ _).trans (hpow _)))

theorem AccessBlind.domainUp (c : Chip) (d : Domain) : f (c.domainUp d) = f c := by
  unfold Chip.domainUp
  split
  · exact iteKeeps f (h.cancelDown _ _ _) ((h.askDrain _ _ _).trans ((h.switchOn _ _).trans (h.noc _ _)))
  · exact h.switchOn c d

theorem AccessBlind.powerTile (c : Chip) (t : Nat) : f (c.powerTile t) = f c := by
  have hplane : ∀ g, f (if (c.isOn (.tilePlane t) || retired c t) = true then c else (c.onTile t g).switchOn (.tilePlane t)) = f c :=
    fun g => iteKeeps f rfl ((h.switchOn _ _).trans (h.onTile _ _ _))
  exact iteKeeps f (hplane _) ((h.domainUp _ _).trans ((h.onTile _ _ _).trans (hplane _)))

theorem AccessBlind.noteTileState (c : Chip) (t st : Nat) : f (c.noteTileState t st) = f c := h.pow _ _ rfl

theorem AccessBlind.setTileState (c : Chip) (t st : Nat) : f (c.setTileState t st) = f c :=
  (h.noteTileState _ _ _).trans (iteKeeps f (h.cancelDown _ _ _) rfl)

theorem AccessBlind.cancelTile (c : Chip) (t : Nat) : f (c.cancelTile t) = f c :=
  (h.cancelDown _ _ _).trans (iteKeeps f (iteKeeps f (h.noteTileState _ _ _) rfl) rfl)

theorem AccessBlind.wakeTile (c : Chip) (t : Nat) : f (c.wakeTile t) = f c := by
  have hexit : f (c.exitTile t) = f c := iteKeeps f (h.cancelTile _ _) ((h.setTileState _ _ _).trans (h.powerTile _ _))
  exact iteKeeps f ((h.raise _ (by decide)).trans hexit) rfl

theorem AccessBlind.reachLoft (c : Chip) (t : Nat) : f (c.reachLoft t) = f c :=
  (h.dram _ _).trans ((h.setBit _ _ _ (by decide)).trans (h.wakeTile c t))

/-! ### Reads of DRAM, the core's memories and the flash window (R198, R232, R346) -/

theorem AccessBlind.dramCe (c : Chip) {t : Nat} (ht : t < 256) : f (c.dramCe t) = f c := by
  have hl : regBlock (Reg.DRC_LSTATt t) ≠ 17 := by simp only [regBlock, Reg.DRC_LSTATt]; omega
  unfold Chip.dramCe
  exact (h.lifeAdd _ _ _).trans ((h.raiseIf _ _ (by decide)).trans (h.setFld _ _ _ _ hl))

theorem AccessBlind.dramUe (c : Chip) {t : Nat} (a : Nat) (ht : t < 256) : f (c.dramUe t a) = f c := by
  have hl : regBlock (Reg.DRC_LSTATt t) ≠ 17 := by simp only [regBlock, Reg.DRC_LSTATt]; omega
  have hue : f (c.setBit (Reg.DRC_LSTATt t) 31 true) = f c := h.setBit _ _ _ hl
  unfold Chip.dramUe
  refine (h.lifeAdd _ _ _).trans ((h.raise _ (by decide)).trans (iteKeeps f hue ?_))
  exact (h.setReg _ _ _ (by decide)).trans ((h.setReg _ _ _ (by decide)).trans hue)

theorem AccessBlind.dramCheckWord (c : Chip) {t : Nat} (a : Nat) (ht : t < 256) : f (c.dramCheckWord t a).2 = f c := by
  unfold Chip.dramCheckWord
  split
  · rfl
  · exact h.dramCe c ht
  · exact h.dramUe c a ht

theorem AccessBlind.dramCheckWords (c : Chip) {t : Nat} (ws : List Nat) (ht : t < 256) : f (c.dramCheckWords t ws).2 = f c := by
  induction ws generalizing c with
  | nil => rfl
  | cons a rest ih => exact (ih _).trans (h.dramCheckWord c a ht)

theorem AccessBlind.loftRead (c : Chip) {t : Nat} (a : Nat) (common : Bool) (n : Nat) (ht : t < 256) :
    f (c.loftRead t a common n).2 = f c := by
  unfold Chip.loftRead
  exact iteKeeps (fun r : Resp × Chip => f r.2) (h.reachLoft c t) ((h.dramCheckWords _ _ ht).trans (h.reachLoft c t))

theorem AccessBlind.tcmRead (c : Chip) (a n : Nat) : f (c.tcmRead a n).2 = f c :=
  foldl_keeps (view := f) (fun _ _ => iteKeeps f (h.ecc _ _) rfl) _ c

theorem AccessBlind.xipRead (c : Chip) (who : Initiator) (b n : Nat) : f (c.xipRead who b n).2 = f c := by
  unfold Chip.xipRead
  refine iteKeeps (fun r : Resp × Chip => f r.2) (h.xspi _ _) ?_
  split
  · exact h.xspi _ _
  · exact iteKeeps (fun r : Resp × Chip => f r.2) rfl ((h.raise _ (i := 103) (by decide)).trans (h.xspi _ _))

end

end Sys2Proof.Machine
end

section
/-!
SUPPORT. What a fetch leaves (R231 to R233): a read of memory, which records in the units that `AccessBlind` names alone.
-/
namespace Sys2Proof.Machine

/-- The target is no register and no part of the Silo: a read of it has the marks of a memory alone. -/
def Quiet : Target → Prop
  | .register _ => False
  | .silo _ => False
  | _ => True

theorem quiet_of_cacheLine {tgt : Target} {k : Nat} (h : cacheLine tgt = some k) : Quiet tgt := by
  cases tgt with
  | register a => cases h
  | silo a => cases h
  | _ => trivial

/-- The registers and the Silo lie in one range of the device's own addresses (R26). -/
theorem quiet_decodeLocal_iff (c : Chip) (a : Nat) : Quiet (decodeLocal c a) ↔ ¬(0x20000000 ≤ a ∧ a < 0x30800000) := by
  unfold decodeLocal
  repeat' refine iteInduction (motive := fun tgt => Quiet tgt ↔ ¬(0x20000000 ≤ a ∧ a < 0x30800000)) (fun _ => ?_) fun _ => ?_
  all_goals simp only [Quiet, true_iff, false_iff]; omega

/-- Where they lie in the whole map depends on the device's number alone (R26, R29). -/
def QuietAddr (dev a : Nat) : Prop :=
  ¬(0x20000000 ≤ a ∧ a < 0x30800000) ∧
    (a < 0x10000000000 → ¬(0x8020000000 + 0x800000000 * dev ≤ a ∧ a < 0x8030800000 + 0x800000000 * dev))

theorem quiet_decodeAddr_iff (c : Chip) (a : Nat) : Quiet (decodeAddr c a) ↔ QuietAddr c.deviceNo a := by
  unfold decodeAddr QuietAddr
  dsimp only
  by_cases hown : a < 0x8000000000
  · rw [if_pos hown, quiet_decodeLocal_iff]; omega
  rw [if_neg hown]
  by_cases hwindow : a < 0x10000000000
  · rw [if_pos hwindow]
    by_cases hdev : (a - 0x8000000000) / 0x800000000 = c.deviceNo
    · rw [if_pos hdev, quiet_decodeLocal_iff]; omega
    · rw [if_neg hdev]; simp only [Quiet, true_iff]; omega
  · rw [if_neg hwindow]; simp only [Quiet, true_iff]; omega

/-- The line of such an address is such an address, whatever became of the chip but its number. -/
theorem quiet_line {c d : Chip} {a : Nat} (h : Quiet (decodeAddr c a)) (hdev : d.deviceNo = c.deviceNo) :
    Quiet (decodeAddr d (a / 64 * 64)) := by
  rw [quiet_decodeAddr_iff, QuietAddr] at h ⊢
  omega

theorem quiet_congr {c d : Chip} {a : Nat} (h : Quiet (decodeAddr c a)) (hdev : d.deviceNo = c.deviceNo) : Quiet (decodeAddr d a) := by
  rw [quiet_decodeAddr_iff] at h ⊢
  rwa [hdev]

theorem decodeLocal_loft_lt (c : Chip) (a t x : Nat) : decodeLocal c a = .loft t x → t < 256 := by
  unfold decodeLocal
  repeat' refine iteInduction (motive := fun tgt => tgt = Target.loft t x → t < 256) (fun _ => ?_) fun _ => ?_
  all_goals rintro ⟨⟩
  · omega
  · exact Nat.mod_lt _ (by decide)

/-- A loft is one of 256 (R27). -/
theorem decodeAddr_loft_lt {c : Chip} {a t x : Nat} (h : decodeAddr c a = .loft t x) : t < 256 := by
  unfold decodeAddr at h
  dsimp only at h
  by_cases hown : a < 0x8000000000
  · rw [if_pos hown] at h
    exact decodeLocal_loft_lt _ _ _ _ h
  rw [if_neg hown] at h
  by_cases hwindow : a < 0x10000000000
  · rw [if_pos hwindow] at h
    by_cases hdev : (a - 0x8000000000) / 0x800000000 = c.deviceNo
    · rw [if_pos hdev] at h
      exact decodeLocal_loft_lt _ _ _ _ h
    · rw [if_neg hdev] at h
      cases h
  · rw [if_neg hwindow] at h
    cases h

section
variable {β : Type} {f : Chip → β} (h : AccessBlind f)
include h

theorem AccessBlind.remoteStop {c : Chip} {d : Nat} {r : Resp × Chip} (hr : c.remoteStop d = some r) : f r.2 = f c := by
  have hraise : f (c.raise 100) = f c := h.raise c (by decide)
  unfold Chip.remoteStop at hr
  dsimp only at hr
  split_ifs at hr <;> cases hr <;> first | rfl | exact hraise

/-- A read of such a target. -/
theorem AccessBlind.anyRead {c : Chip} {a : Nat} (hq : Quiet (decodeAddr c a)) (who : Initiator) (n : Nat) :
    f (c.anyRead who a n false (decodeAddr c a)).2 = f c := by
  cases htgt : decodeAddr c a with
  | itcm b => exact h.tcmRead c b n
  | dtcm b => exact h.tcmRead c b n
  | flash b => exact h.xipRead c who b n
  | register b => rw [htgt] at hq; exact hq.elim
  | silo b => rw [htgt] at hq; exact hq.elim
  | loft t x => exact h.loftRead c x _ n (decodeAddr_loft_lt htgt)
  | remote d l => rfl
  | nothing => rfl

theorem AccessBlind.busRead {c : Chip} {a : Nat} (hq : Quiet (decodeAddr c a)) (who : Initiator) (n : Nat) :
    f (c.busRead who a n false).2 = f c := by
  have hgo := h.anyRead hq who n
  unfold Chip.busRead Chip.busAccess
  split
  · rfl
  · split
    · rename_i hr
      exact h.remoteStop hr
    · refine iteKeeps (fun r : Resp × Chip => f r.2) rfl ?_
      split
      · rfl
      · exact (h.fresh _ _).trans (h.fresh _ _)
  · split
    · rfl
    · refine iteKeeps (fun r : Resp × Chip => f r.2) rfl ?_
      split
      · exact h.raise c (i := 102) (by decide)
      · exact h.raise c (i := 100) (by decide)
      · exact hgo

theorem AccessBlind.cachePut (c : Chip) (lines : List (Nat × List Byte)) (k : Nat) (bs : List Byte) :
    f (c.cachePut lines k bs).2 = f c := by
  unfold Chip.cachePut
  exact iteKeeps (fun r : List (Nat × List Byte) × Chip => f r.2) rfl (h.fresh _ _)

/-- A fetch records only what the reads of memory that it makes record, and in the core's I-cache. -/
theorem AccessBlind.coreFetch (hdev : AccessBlind Chip.deviceNo) (c : Chip) : f c.coreFetch.2 = f c := by
  have keep : ∀ {p : Prop} [Decidable p] {x y : Option Word × Chip}, f x.2 = f c → f y.2 = f c → f (if p then x else y).2 = f c :=
    fun hx hy => iteKeeps (fun r : Option Word × Chip => f r.2) hx hy
  unfold Chip.coreFetch
  dsimp only
  split
  · rename_i b hb
    exact h.busRead (by rw [hb]; trivial) .core 4
  · split
    · rfl
    · rename_i k hk
      have hq := quiet_of_cacheLine hk
      have hline : Quiet (decodeAddr c (c.core.pc.toNat / 64 * 64)) := quiet_line hq rfl
      have hfill := h.busRead hline .core 64
      refine keep (keep rfl (h.busRead hq .core 4)) ?_
      split
      · rfl
      · refine keep rfl (keep hfill (keep ?poisoned ?filled))
        case poisoned => exact (h.busRead (quiet_congr hq (hdev.busRead hline .core 64)) .core 4).trans hfill
        case filled => exact (h.core _ _).trans ((h.core _ _).trans ((h.cachePut _ _ _ _).trans hfill))

end

/-! ### The views that an access to memory leaves -/

theorem accessBlind_deviceNo : AccessBlind Chip.deviceNo := by
  constructor
  case setReg => exact fun d a v _ => setReg_deviceNo d a v
  all_goals intros; rfl

theorem accessBlind_dbg : AccessBlind Chip.dbg := by
  constructor
  case setReg => exact fun d a v _ => setReg_dbg d a v
  all_goals intros; rfl

theorem accessBlind_nclkRuns : AccessBlind nclkRuns := by
  constructor
  case setReg => intro d a v _; rw [nclkRuns, nclkRuns, setReg_pow]
  case pow => intro d x hx; rw [nclkRuns, nclkRuns, hx]
  all_goals intros; rfl

/-- A register of the DBG block. -/
theorem accessBlind_bit {a : Nat} (ha : regBlock a = 17) (i : Nat) : AccessBlind (fun c => c.bit a i) := by
  constructor
  case setReg => exact fun d b v hb => bit_setReg_ne d v i fun hab => hb (hab ▸ ha)
  all_goals intros; exact bit_congr rfl a i

section
variable {c d : Chip} {x : Option Word}

theorem nclkRuns_of_coreFetch (h : c.coreFetch = (x, d)) : nclkRuns d = nclkRuns c := by
  have hkeep := accessBlind_nclkRuns.coreFetch accessBlind_deviceNo c
  rwa [h] at hkeep

theorem dbg_of_coreFetch (h : c.coreFetch = (x, d)) : d.dbg = c.dbg := by
  have hkeep := accessBlind_dbg.coreFetch accessBlind_deviceNo c
  rwa [h] at hkeep

theorem bit_of_coreFetch (h : c.coreFetch = (x, d)) {a : Nat} (ha : regBlock a = 17) (i : Nat) : d.bit a i = c.bit a i := by
  have hkeep := (accessBlind_bit ha i).coreFetch accessBlind_deviceNo c
  rwa [h] at hkeep

end

end Sys2Proof.Machine
end

section
/-!
SUPPORT. What an instruction of the core leaves of memory, the Seal Unit, the Silo and the evidence, whatever it comes to.
-/
namespace Sys2Proof.Machine

/-- Memory, the Seal Unit, the Silo and the evidence. -/
def holdings (c : Chip) : List Host.Cell × Seal × Silo × Evidence := (c.mem, c.su, c.silo, c.ev)

theorem same_of_holdings {c d : Chip} (h : holdings d = holdings c) : SameMemory c d ∧ SameVault c d := by
  obtain ⟨hmem, hsu, hsilo, hev⟩ : d.mem = c.mem ∧ d.su = c.su ∧ d.silo = c.silo ∧ d.ev = c.ev := by
    simpa only [holdings, Prod.mk.injEq] using h
  exact ⟨fun a => by rw [Chip.rd8, Chip.rd8, hmem], hsu, hsilo, hev⟩

section
variable (c : Chip)

@[simp] theorem holdings_setReg (a : Nat) (v : Word) : holdings (c.setReg a v) = holdings c := by
  simp only [holdings, setReg_mem, setReg_su, setReg_silo, setReg_ev]
@[simp] theorem holdings_setFld (a hi lo v : Nat) : holdings (c.setFld a hi lo v) = holdings c := holdings_setReg c _ _
@[simp] theorem holdings_setBit (a i : Nat) (b : Bool) : holdings (c.setBit a i b) = holdings c := holdings_setReg c _ _
@[simp] theorem holdings_onCore (f : Core → Core) : holdings (c.onCore f) = holdings c := (rfl)
@[simp] theorem holdings_setFlag (i : Nat) (b : Bool) : holdings (c.setFlag i b) = holdings c := (rfl)
@[simp] theorem holdings_setG (n v : Nat) : holdings (c.setG n v) = holdings c := (rfl)
@[simp] theorem holdings_setP (n v : Nat) : holdings (c.setP n v) = holdings c := (rfl)
@[simp] theorem holdings_setA (n v : Nat) : holdings (c.setA n v) = holdings c := (rfl)
@[simp] theorem holdings_dropWait : holdings c.dropWait = holdings c := (rfl)
@[simp] theorem holdings_leaveWfi : holdings c.leaveWfi = holdings c := by
  simp only [holdings, Chip.leaveWfi, setBit_mem, setBit_su, setBit_silo, setBit_ev]
@[simp] theorem holdings_settle : holdings c.settle = holdings c := by
  simp only [holdings, settle_mem, settle_su, settle_silo, settle_ev]
@[simp] theorem holdings_raise (i : Nat) : holdings (c.raise i) = holdings c := by
  simp only [holdings, raise_mem, raise_su, raise_silo, raise_ev]

@[simp] theorem holdings_wdtFollow (topUp : Bool) : holdings (c.wdtFollow topUp) = holdings c := by
  unfold Chip.wdtFollow
  refine iteKeeps holdings rfl (iteKeeps holdings ?_ ?_) <;> split <;> rfl

@[simp] theorem holdings_finishLoad : holdings c.finishLoad = holdings c := by
  unfold Chip.finishLoad
  split
  · rfl
  · dsimp only; split <;> rfl

@[simp] theorem holdings_coreHalt (cause : Nat) : holdings (c.coreHalt cause) = holdings c := by
  simp only [Chip.coreHalt, holdings_raise, holdings_wdtFollow, holdings_setFld, holdings_leaveWfi, holdings_setBit, holdings_onCore,
    holdings_dropWait]

@[simp] theorem holdings_coreEnter (k ret : Nat) : holdings (c.coreEnter k ret) = holdings c := by
  simp only [Chip.coreEnter, apply_ite holdings, holdings_coreHalt, holdings_leaveWfi, holdings_onCore, holdings_dropWait,
    holdings_finishLoad, ite_self]

@[simp] theorem holdings_coreTrap (code info : Nat) (bad : Option Nat) (ret : Nat) :
    holdings (c.coreTrap code info bad ret) = holdings c := by
  simp only [Chip.coreTrap, apply_ite holdings, holdings_coreHalt, holdings_coreEnter, holdings_setBit, holdings_onCore,
    holdings_finishLoad, ite_self]

@[simp] theorem holdings_stepDone (w : Word) : holdings (c.stepDone w) = holdings c := by
  unfold Chip.stepDone
  split <;> simp only [apply_ite holdings, holdings_coreHalt, holdings_onCore, ite_self]

end

/-- The chip that an instruction comes to, before its end is carried out. -/
def Did.chip : Did → Chip
  | .next c _ _ => c
  | .trap c _ _ _ _ => c
  | .hold c _ => c
  | .wait c => c
  | .halt c => c

@[simp] theorem Did.chip_next (c : Chip) (pc : Nat) (load : Option (LoadDest × Addr)) : (Did.next c pc load).chip = c := rfl
@[simp] theorem Did.chip_trap (c : Chip) (code info : Nat) (bad : Option Nat) (ret : Nat) : (Did.trap c code info bad ret).chip = c := rfl
@[simp] theorem Did.chip_hold (c : Chip) (x : CoreHold) : (Did.hold c x).chip = c := rfl
@[simp] theorem Did.chip_halt (c : Chip) : (Did.halt c).chip = c := rfl

theorem holdings_coreDid (w : Word) (x : Did) : holdings (Chip.coreDid w x) = holdings x.chip := by
  cases x <;> simp only [Chip.coreDid, Did.chip, apply_ite holdings, holdings_stepDone, holdings_onCore,
    holdings_finishLoad, holdings_coreTrap, holdings_coreHalt, ite_self]

theorem accessBlind_holdings : AccessBlind holdings := by
  constructor
  case setReg => exact fun d a v _ => holdings_setReg d a v
  all_goals intros; rfl

theorem holdings_of_coreFetch {c d : Chip} {x : Option Word} (h : c.coreFetch = (x, d)) : holdings d = holdings c := by
  have hkeep := accessBlind_holdings.coreFetch accessBlind_deviceNo c
  rwa [h] at hkeep

/-- An instruction row leaves them where what its words come to does: the fetch, a trap and a failed condition always do. -/
theorem holdings_coreInsn {c : Chip} {mine : Word → Bool} {f : Chip → Word → Nat → Did}
    (hf : ∀ d w pc, holdings (f d w pc).chip = holdings d) : holdings (c.coreInsn mine f) = holdings c := by
  unfold Chip.coreInsn
  refine iteKeeps holdings rfl ?_
  dsimp only
  split
  · rename_i d hfetch
    exact iteKeeps holdings (holdings_of_coreFetch hfetch) ((holdings_coreTrap _ _ _ _ _).trans (holdings_of_coreFetch hfetch))
  · rename_i w d hfetch
    refine iteKeeps holdings rfl (iteKeeps holdings ?skips ?runs)
    case skips => exact (holdings_coreDid _ _).trans (holdings_of_coreFetch hfetch)
    case runs => exact ((holdings_coreDid _ _).trans (hf _ _ _)).trans (holdings_of_coreFetch hfetch)

end Sys2Proof.Machine
end
section
/-!
SUPPORT. The instructions of the core that reach no memory leave it, by class.
-/
namespace Sys2Proof.Machine

/-- Whatever state the command starts in, where it answers a next state memory, the Seal Unit, the Silo and the evidence are as before. -/
def LeavesHoldings (i : Instr) : Prop := ∀ s t, exec i s = .next t → SameMemory s.chip t.chip ∧ SameVault s.chip t.chip

section
variable {i : Instr} {op : Nat}

theorem leavesHoldings_of_coreInsn {mine : Word → Bool} {f : Chip → Chip → Word → Nat → Did}
    (hi : ∀ s, exec i s = runAny (fun c => c.coreInsn mine (f c)) s) (hf : ∀ c d w pc, holdings (f c d w pc).chip = holdings d) :
    LeavesHoldings i := by
  intro s t h
  rw [hi, runAny, Host.Outcome.next.injEq] at h
  subst h
  exact same_of_holdings ((holdings_settle _).trans (holdings_coreInsn (hf s.chip)))

theorem leavesHoldings_of_aluInsn {f : Nat → Nat → Nat → AluOut} (hi : ∀ s, exec i s = runAny (fun c => c.aluInsn op f) s) :
    LeavesHoldings i :=
  leavesHoldings_of_coreInsn hi fun _ d w pc => by
    simp only [Did.chip_next, apply_ite holdings, holdings_onCore, holdings_setG, holdings_setFlag, ite_self]

theorem leavesHoldings_of_accInsn {f : Chip → Word → Chip} (hi : ∀ s, exec i s = runAny (fun c => c.accInsn op f) s)
    (hf : ∀ d w, holdings (f d w) = holdings d) : LeavesHoldings i :=
  leavesHoldings_of_coreInsn hi fun _ d w _ => hf d w

theorem holdings_accTake (d : Chip) (w : Word) (g : Int → Int) : holdings (d.accTake w g) = holdings d := by
  simp only [Chip.accTake, Chip.accPut, apply_ite holdings, holdings_setA, holdings_setFlag, ite_self]

theorem leavesHoldings_of_mulInsn {f : Nat → Nat → AluOut × Bool} (hi : ∀ s, exec i s = runAny (fun c => c.mulInsn op f) s) :
    LeavesHoldings i :=
  leavesHoldings_of_coreInsn hi fun _ d w pc => by
    simp only [Did.chip_next, apply_ite holdings, holdings_onCore, holdings_setG, holdings_setFlag, ite_self]

theorem leavesHoldings_of_fpInsn {f : Chip → Word → FpRound → FpFlags × (Chip → Chip)}
    (hi : ∀ s, exec i s = runAny (fun c => c.fpInsn op f) s) (hf : ∀ d w m x, holdings ((f d w m).2 x) = holdings x) :
    LeavesHoldings i :=
  leavesHoldings_of_coreInsn hi fun _ d w pc => by
    simp only [apply_ite Did.chip, Did.chip_next, Did.chip_trap, apply_ite holdings, hf, holdings_onCore, ite_self]

theorem leavesHoldings_of_fpWrite {f : Nat → Nat → Nat → FpRound → Nat × FpFlags}
    (hi : ∀ s, exec i s = runAny (fun c => c.fpWrite op f) s) : LeavesHoldings i :=
  leavesHoldings_of_fpInsn hi fun _ _ _ x => holdings_setG x _ _

theorem leavesHoldings_of_bcdInsn {f : Nat → Nat → Nat × Bool} (hi : ∀ s, exec i s = runAny (fun c => c.bcdInsn op f) s) :
    LeavesHoldings i :=
  leavesHoldings_of_coreInsn hi fun _ d w pc => by
    simp only [apply_ite Did.chip, Did.chip_next, apply_ite holdings, holdings_onCore, holdings_setG, holdings_setFlag, ite_self]

theorem leavesHoldings_of_moveInsn {f : Chip → Word → Chip} (hi : ∀ s, exec i s = runAny (fun c => c.moveInsn op f) s)
    (hf : ∀ d w, holdings (f d w) = holdings d) : LeavesHoldings i :=
  leavesHoldings_of_coreInsn hi fun _ d w _ => hf d w

theorem leavesHoldings_of_sysInsn {f : Chip → Chip → Word → Nat → Did} (hi : ∀ s, exec i s = runAny (fun c => c.sysInsn op (f c)) s)
    (hf : ∀ c d w pc, holdings (f c d w pc).chip = holdings d) : LeavesHoldings i :=
  leavesHoldings_of_coreInsn hi hf

end

/-- Settles O59: what each instruction comes to leaves memory and the vault, and so do its fetch and its traps. -/
theorem registerInstructionsLeaveMemory : Obligations.RegisterInstructionsLeaveMemory := by
  unfold Obligations.RegisterInstructionsLeaveMemory
  change ∀ i ∈ _, LeavesHoldings i
  simp only [List.forall_mem_append, List.forall_mem_cons, List.not_mem_nil, false_implies, implies_true, and_true, and_assoc]
  exact
  ⟨leavesHoldings_of_aluInsn exec_distaffAdd,
   leavesHoldings_of_aluInsn exec_adc,
   leavesHoldings_of_aluInsn exec_distaffSub,
   leavesHoldings_of_aluInsn exec_sbc,
   leavesHoldings_of_aluInsn exec_and,
   leavesHoldings_of_aluInsn exec_or,
   leavesHoldings_of_aluInsn exec_xor,
   leavesHoldings_of_aluInsn exec_bic,
   leavesHoldings_of_aluInsn exec_lsl,
   leavesHoldings_of_aluInsn exec_lsr,
   leavesHoldings_of_aluInsn exec_asr,
   leavesHoldings_of_aluInsn exec_distaffRor,
   leavesHoldings_of_aluInsn exec_distaffMov,
   leavesHoldings_of_aluInsn exec_distaffCmp,
   leavesHoldings_of_aluInsn exec_qadd,
   leavesHoldings_of_aluInsn exec_qsub,
   leavesHoldings_of_coreInsn exec_movl fun _ d _ _ => holdings_setG d _ _,
   leavesHoldings_of_coreInsn exec_movh fun _ d _ _ => holdings_setG d _ _,
   leavesHoldings_of_accInsn exec_distaffMulAcc fun d w => holdings_accTake d w _,
   leavesHoldings_of_accInsn exec_mac fun d w => holdings_accTake d w _,
   leavesHoldings_of_accInsn exec_msu fun d w => holdings_accTake d w _,
   leavesHoldings_of_accInsn exec_mova fun d _ => holdings_setA d _ _,
   leavesHoldings_of_accInsn exec_rda fun d w => by simp only [holdings_setG, apply_ite holdings, holdings_setFlag, ite_self],
   leavesHoldings_of_accInsn exec_asra fun d _ => holdings_setA d _ _,
   leavesHoldings_of_accInsn exec_clra fun d _ => holdings_setA d _ _,
   leavesHoldings_of_mulInsn exec_distaffMul,
   leavesHoldings_of_mulInsn exec_mulhs,
   leavesHoldings_of_mulInsn exec_mulhu,
   leavesHoldings_of_mulInsn exec_divs,
   leavesHoldings_of_mulInsn exec_divu,
   leavesHoldings_of_mulInsn exec_rems,
   leavesHoldings_of_mulInsn exec_remu,
   leavesHoldings_of_fpWrite exec_fadd,
   leavesHoldings_of_fpWrite exec_fsub,
   leavesHoldings_of_fpWrite exec_fmul,
   leavesHoldings_of_fpWrite exec_fdiv,
   leavesHoldings_of_fpWrite exec_fsqrt,
   leavesHoldings_of_fpWrite exec_fma,
   leavesHoldings_of_fpWrite exec_fmin,
   leavesHoldings_of_fpWrite exec_fmax,
   leavesHoldings_of_fpInsn exec_fcmp fun _ _ _ x => holdings_onCore x _,
   leavesHoldings_of_fpWrite exec_fcvtws,
   leavesHoldings_of_fpWrite exec_fcvtsw,
   leavesHoldings_of_fpWrite exec_fneg,
   leavesHoldings_of_fpWrite exec_fabs,
   leavesHoldings_of_bcdInsn exec_dadd,
   leavesHoldings_of_bcdInsn exec_dsub,
   leavesHoldings_of_coreInsn exec_dchk fun _ d _ _ => holdings_setFlag d _ _,
   leavesHoldings_of_moveInsn exec_setp fun d _ => holdings_setP d _ _,
   leavesHoldings_of_moveInsn exec_getp fun d _ => holdings_setG d _ _,
   leavesHoldings_of_moveInsn exec_getph fun d _ => holdings_setG d _ _,
   leavesHoldings_of_moveInsn exec_addp fun d _ => holdings_setP d _ _,
   leavesHoldings_of_moveInsn exec_setb fun _ _ => by simp only [holdings_onCore],
   leavesHoldings_of_moveInsn exec_setl fun _ _ => by simp only [holdings_onCore],
   leavesHoldings_of_moveInsn exec_setn fun _ _ => by simp only [holdings_onCore],
   leavesHoldings_of_moveInsn exec_getl fun d _ => holdings_setG d _ _,
   leavesHoldings_of_moveInsn exec_getn fun d _ => holdings_setG d _ _,
   leavesHoldings_of_moveInsn exec_getb fun d _ => holdings_setG d _ _,
   leavesHoldings_of_moveInsn exec_getal fun d _ => holdings_setG d _ _,
   leavesHoldings_of_moveInsn exec_getah fun d _ => holdings_setG d _ _,
   leavesHoldings_of_moveInsn exec_setah fun _ _ => by simp only [holdings_onCore],
   leavesHoldings_of_coreInsn exec_b fun _ _ _ _ => rfl,
   leavesHoldings_of_coreInsn exec_bl fun _ d _ _ => holdings_setP d _ _,
   leavesHoldings_of_coreInsn exec_brp fun _ _ _ _ => by simp only [apply_ite Did.chip, Did.chip_next, Did.chip_trap, ite_self],
   leavesHoldings_of_coreInsn exec_blrp fun _ _ _ _ => by
     simp only [apply_ite Did.chip, Did.chip_next, Did.chip_trap, apply_ite holdings, holdings_setP, ite_self],
   leavesHoldings_of_sysInsn exec_distaffNop fun _ _ _ _ => rfl,
   leavesHoldings_of_sysInsn exec_svc fun _ _ _ _ => rfl,
   leavesHoldings_of_sysInsn exec_eret fun _ _ _ _ => by
     simp only [apply_ite Did.chip, Did.chip_next, Did.chip_trap, apply_ite holdings, holdings_onCore, ite_self],
   leavesHoldings_of_sysInsn exec_mrs fun _ d _ _ => holdings_setG d _ _,
   leavesHoldings_of_sysInsn exec_msr fun _ _ _ _ => by simp only [Did.chip_next, holdings_onCore],
   leavesHoldings_of_sysInsn exec_wfi fun _ _ _ _ => by simp only [Did.chip_hold, holdings_setBit, holdings_onCore],
   leavesHoldings_of_sysInsn exec_distaffFence fun _ _ _ _ => by simp only [Did.chip_next, holdings_onCore],
   leavesHoldings_of_sysInsn exec_bkpt fun _ _ _ _ => by simp only [apply_ite Did.chip, Did.chip_halt, Did.chip_trap, ite_self],
   leavesHoldings_of_sysInsn exec_dcinv fun _ _ _ _ => by simp only [Did.chip_next, holdings_onCore],
   leavesHoldings_of_sysInsn exec_icinv fun _ _ _ _ => by simp only [Did.chip_next, holdings_onCore],
   leavesHoldings_of_sysInsn exec_icinvall fun _ _ _ _ => by simp only [Did.chip_next, holdings_onCore],
   leavesHoldings_of_sysInsn exec_dcinvall fun _ _ _ _ => by simp only [Did.chip_next, holdings_onCore]⟩

end Sys2Proof.Machine
end

section
/-!
SUPPORT. Loads and stores of the core begin.
-/
namespace Sys2Proof.Machine

section
variable {c d : Chip} {w : Word} {i : Instr} {cls mem n : Nat}

/-- A trap that an instruction comes to is taken at once (R226). -/
theorem becomes_coreTrap {mine : Word → Bool} {f : Chip → Word → Nat → Did} {e : Chip} {code info : Nat} {bad : Option Nat} {ret : Nat}
    (hi : ∀ s, exec i s = runAny (fun c => c.coreInsn mine f) s) (h : CoreBegins c d w) (hm : mine w = true)
    (hf : f d w c.core.pc.toNat = .trap e code info bad ret) : Becomes i c (e.coreTrap code info bad ret) :=
  becomes_coreDid hi h hm hf

theorem word_of_cls_op (hcls : wCls w = cls) (hop : wOp w = mem) : (decide (wCls w = cls) && decide (wMem w = mem)) = true := by
  rw [decide_eq_true hcls, Bool.true_and]
  exact decide_eq_true hop

section
variable {value : Chip → Word → Nat}

/-- What a store of the core to an aligned address comes to where it need not wait (R219, R229). -/
theorem storeInsn_of_coreBegins (h : CoreBegins c d w) (hcls : wCls w = cls) (hop : wOp w = mem) (ha : (memAddress d w).1 % n = 0)
    (hw : storeWaits d (memAddress d w).1 = false) :
    c.storeInsn cls mem n value =
      Chip.coreDid w (.next ((d.coreStore (memAddress d w).1 (leBytes n (value d w))).setP (wIdx w) (memAddress d w).2)
        (c.core.pc.toNat + 4) none) := by
  refine (coreInsn_of_coreBegins h (word_of_cls_op hcls hop)).trans ?_
  simp only [ha, hw, ne_eq, not_true, Bool.false_eq_true, if_false]

end

end

end Sys2Proof.Machine
end
section
/-!
SUPPORT. A store to the DTCM writes its bytes and no others (R232).
-/
namespace Sys2Proof.Machine

section
variable {c : Chip} {a b : Nat} {bs : List Byte}

theorem rd8_congr {d : Chip} (h : d.mem = c.mem) (x : Nat) : d.rd8 x = c.rd8 x := by rw [Chip.rd8, Chip.rd8, h]

theorem mem_of_holdings {d : Chip} (h : holdings d = holdings c) : d.mem = c.mem := congrArg Prod.fst h

/-- The bytes of a number, one by one. -/
theorem getElem?_leBytes {n j : Nat} (h : j < n) (x : Nat) : (leBytes n x)[j]? = some (BitVec.ofNat 8 (x / 256 ^ j)) := by
  induction n generalizing j x with
  | zero => omega
  | succ n ih =>
    cases j with
    | zero => simp only [leBytes, List.getElem?_cons_zero, pow_zero, Nat.div_one]
    | succ j => rw [leBytes, List.getElem?_cons_succ, ih (by omega), Nat.div_div_eq_div_mul, ← pow_succ']

/-- The bytes of a number that are written are read back, one by one. -/
theorem rd8_wrBytes_leBytes (c : Chip) (b : Nat) {n j : Nat} (h : j < n) (x : Nat) :
    (c.wrBytes b (leBytes n x)).rd8 (b + j) = BitVec.ofNat 8 (x / 256 ^ j) := by
  have hread : ((c.wrBytes b (leBytes n x)).rdBytes b n)[j]? = (leBytes n x)[j]? := by
    have hall := rdBytes_wrBytes c b (leBytes n x)
    rw [length_leBytes] at hall
    rw [hall]
  rw [getElem?_leBytes h, Chip.rdBytes, List.getElem?_map, List.getElem?_range h] at hread
  exact Option.some.inj hread

/-- A write of the core's memories writes its bytes, or, of a part of a word with a double-bit error, nothing. -/
theorem mem_tcmWrite (c : Chip) (b : Nat) (bs : List Byte) :
    (c.tcmWrite b bs).2.mem = if bs.length < 4 ∧ c.eccAt (b / 4 * 4) = .double then c.mem else (c.wrBytes b bs).mem := by
  have hstored : (((words4 b bs.length).foldl (fun c w => c.setEcc w .good) (c.wrBytes b bs)).snoopWrite b bs.length).mem =
      (c.wrBytes b bs).mem :=
    foldl_keeps (view := Chip.mem) (fun c w => setEcc_mem c w .good) _ _
  rw [Chip.tcmWrite, apply_ite Prod.snd, apply_ite Chip.mem, hstored]

theorem anyWrite_dtcm (who : Initiator) : c.anyWrite who a bs false (.dtcm b) = c.tcmWrite b bs := rfl

/-- A write to the DTCM that its port or its check bits refuse leaves memory as it was. -/
theorem mem_busWrite_dtcm (hd : decodeAddr c a = .dtcm b) (who : Initiator) :
    (c.busWrite who a bs false).2.mem = c.mem ∨ (c.busWrite who a bs false).2.mem = (c.wrBytes b bs).mem := by
  have hgo : (c.tcmWrite b bs).2.mem = c.mem ∨ (c.tcmWrite b bs).2.mem = (c.wrBytes b bs).mem := by
    rw [mem_tcmWrite]
    split
    · exact .inl rfl
    · exact .inr rfl
  unfold Chip.busWrite Chip.busAccess
  simp only [hd, targetNode, anyWrite_dtcm]
  split
  · exact .inl rfl
  · split
    · exact .inl (raise_mem _ _)
    · exact .inl (raise_mem _ _)
    · exact hgo

theorem mem_coreStore (c : Chip) (a : Nat) (bs : List Byte) : (c.coreStore a bs).mem = (c.busWrite .core a bs false).2.mem := by
  have hwrite : (c.coreWrite a bs).2.mem = (c.busWrite .core a bs false).2.mem := onCore_mem _ _
  unfold Chip.coreStore
  refine iteKeeps Chip.mem hwrite ?_
  split
  · exact (onCore_mem _ _).trans hwrite
  · exact (onCore_mem _ _).trans hwrite

/-- A store to the DTCM leaves the bytes outside those that it stores. -/
theorem rd8_coreStore_out (hd : decodeAddr c a = .dtcm b) {x : Nat} (hx : x < b ∨ b + bs.length ≤ x) :
    (c.coreStore a bs).rd8 x = c.rd8 x := by
  rcases mem_busWrite_dtcm hd .core with hmem | hmem
  · exact rd8_congr ((mem_coreStore c a bs).trans hmem) x
  · exact (rd8_congr ((mem_coreStore c a bs).trans hmem) x).trans (rd8_wrBytes_out c b x bs hx)

/-- An aligned store to the DTCM through an OPEN port, not to a part of a word with a double-bit error, writes its bytes. -/
theorem mem_coreStore_open (hd : decodeAddr c a = .dtcm b) (hn : bs.length ≠ 0) (ha : a % bs.length = 0) (hp : portState c 7 = 0)
    (hecc : c.eccAt (b / 4 * 4) ≠ .double) : (c.coreStore a bs).mem = (c.wrBytes b bs).mem := by
  have hgo : c.busWrite .core a bs false = c.tcmWrite b bs := busAccess_open hd rfl hn ha hp _ _ _
  rw [mem_coreStore, hgo, mem_tcmWrite, if_neg fun hpart => hecc hpart.2]

end

section
variable {c d : Chip} {w : Word} {b : Nat}

/-- One store instruction of `n` bytes: whatever its port does, only its bytes change; through an OPEN port they are what was stored. -/
theorem store_writes_only_its_bytes {i : Instr} {cls mem n : Nat} {value : Chip → Word → Nat}
    (hi : ∀ s, exec i s = runAny (fun c => c.storeInsn cls mem n value) s) (h : CoreBegins c d w) (hcls : wCls w = cls)
    (hop : wOp w = mem) (hn : n ≠ 0) (ha : (memAddress d w).1 % n = 0) (hd : decodeAddr d (memAddress d w).1 = .dtcm b) :
    ∃ t : State, exec i { pending := [], chip := c } = .next t ∧
      (∀ a, a < b ∨ b + n ≤ a → t.chip.rd8 a = c.rd8 a) ∧
      (portState d 7 = 0 → d.eccAt (b / 4 * 4) ≠ .double → ∀ j, j < n → t.chip.rd8 (b + j) = BitVec.ofNat 8 (value d w / 256 ^ j)) := by
  have hw : storeWaits d (memAddress d w).1 = false := by
    simp only [storeWaits, meshStops, hd, Bool.and_false, Bool.or_false]
  have hfetched : d.mem = c.mem := mem_of_holdings (holdings_of_coreFetch h.2.1)
  have hlen : (leBytes n (value d w)).length = n := length_leBytes _ _
  have hmem : (c.storeInsn cls mem n value).settle.mem = (d.coreStore (memAddress d w).1 (leBytes n (value d w))).mem := by
    rw [storeInsn_of_coreBegins h hcls hop ha hw]
    exact mem_of_holdings ((holdings_settle _).trans ((holdings_coreDid _ _).trans (holdings_setP _ _ _)))
  refine ⟨_, hi _, fun a hout => ?outside, fun hp hecc j hj => ?inside⟩
  case outside =>
    calc (c.storeInsn cls mem n value).settle.rd8 a
        = (d.coreStore (memAddress d w).1 (leBytes n (value d w))).rd8 a := rd8_congr hmem a
      _ = d.rd8 a := rd8_coreStore_out hd (by rwa [hlen])
      _ = c.rd8 a := rd8_congr hfetched a
  case inside =>
    have hstored := mem_coreStore_open (bs := leBytes n (value d w)) hd (by rwa [hlen]) (by rwa [hlen]) hp hecc
    exact (rd8_congr (hmem.trans hstored) _).trans (rd8_wrBytes_leBytes d b hj _)

end

/-- Settles O60: each store is `store_writes_only_its_bytes` of its size. -/
theorem storesWriteOnlyTheirBytes : Obligations.StoresWriteOnlyTheirBytes := by
  intro c d w b h m i n v hkind ha hd
  rcases hkind with ⟨rfl, hcls, hop, rfl, rfl⟩ | ⟨rfl, hcls, hop, rfl, rfl⟩ | ⟨rfl, hcls, hop, rfl, rfl⟩ | ⟨rfl, hcls, hop, rfl, rfl⟩ |
    ⟨rfl, hcls, hop, rfl, rfl⟩
  · exact store_writes_only_its_bytes exec_stb h hcls hop (by decide) ha hd
  · exact store_writes_only_its_bytes exec_sth h hcls hop (by decide) ha hd
  · exact store_writes_only_its_bytes exec_stw h hcls hop (by decide) ha hd
  · exact store_writes_only_its_bytes exec_sta h hcls hop (by decide) ha hd
  · exact store_writes_only_its_bytes exec_stp h hcls hop (by decide) ha hd

end Sys2Proof.Machine
end

section
/-!
SUPPORT. The loads of the core complete.
-/
namespace Sys2Proof.Machine

section
variable {c d : Chip} {w : Word} {i : Instr} {cls mem n : Nat} {dest : Word → Nat → LoadDest × Addr}
  (hi : ∀ s, exec i s = runAny (fun c => c.loadInsn cls mem n dest) s) (h : CoreBegins c d w) (hcls : wCls w = cls) (hop : wOp w = mem)
include hi h hcls hop

/-- A load whose access succeeds has its value on its way to its register (R217). -/
theorem becomes_load (ha : (memAddress d w).1 % n = 0) (hs : (d.coreRead (memAddress d w).1 n).1.status = 0)
    (hp : (d.coreRead (memAddress d w).1 n).1.poison = false) {x : LoadDest × Addr}
    (hx : dest w (d.coreRead (memAddress d w).1 n).1.data = x) :
    Becomes i c (Chip.coreDid w (.next ((d.coreRead (memAddress d w).1 n).2.setP (wIdx w) (memAddress d w).2) (c.core.pc.toNat + 4)
      (some x))) := by
  refine becomes_coreDid hi h (word_of_cls_op hcls hop) ?_
  simp only [ha, waitsStill, hs, hp, hx, ne_eq, not_true, OfNat.zero_ne_ofNat, decide_false, Bool.false_eq_true, or_self, if_false]

/-- A load whose access fails raises BUSERR (R226). -/
theorem becomes_load_buserr (ha : (memAddress d w).1 % n = 0)
    (hbad : (d.coreRead (memAddress d w).1 n).1.status ≠ 0 ∨ (d.coreRead (memAddress d w).1 n).1.poison = true)
    (hs : (d.coreRead (memAddress d w).1 n).1.status ≠ 5) :
    Becomes i c ((d.coreRead (memAddress d w).1 n).2.coreTrap 5 0 (some (memAddress d w).1) c.core.pc.toNat) := by
  refine becomes_coreTrap hi h (word_of_cls_op hcls hop) ?_
  simp only [ha, waitsStill, decide_eq_false hs, hbad, ne_eq, not_true, Bool.false_eq_true, if_false, if_true]

/-- A load of a misaligned address raises ALIGN (R226). -/
theorem becomes_load_align (ha : (memAddress d w).1 % n ≠ 0) :
    Becomes i c (d.coreTrap 4 0 (some (memAddress d w).1) c.core.pc.toNat) := by
  refine becomes_coreTrap hi h (word_of_cls_op hcls hop) ?_
  simp only [ha, ne_eq, not_false_iff, if_true]

end

/-- Settles O48: each load succeeds, fails or is misaligned as every load does. -/
theorem coreLoadsComplete : Obligations.CoreLoadsComplete :=
  ⟨fun _ _ _ h hcls hop hs hp => becomes_load exec_ldb h hcls hop (Nat.mod_one _) hs hp rfl,
   fun _ _ _ h hcls hop hbad hs => becomes_load_buserr exec_ldb h hcls hop (Nat.mod_one _) hbad hs,
   fun _ _ _ h hcls hop hs hp => becomes_load exec_ldsb h hcls hop (Nat.mod_one _) hs hp rfl,
   fun _ _ _ h hcls hop hbad hs => becomes_load_buserr exec_ldsb h hcls hop (Nat.mod_one _) hbad hs,
   fun _ _ _ h hcls hop ha hs hp => becomes_load exec_ldh h hcls hop ha hs hp rfl,
   fun _ _ _ h hcls hop ha hbad hs => becomes_load_buserr exec_ldh h hcls hop ha hbad hs,
   fun _ _ _ h hcls hop ha => becomes_load_align exec_ldh h hcls hop ha,
   fun _ _ _ h hcls hop ha hs hp => becomes_load exec_ldsh h hcls hop ha hs hp rfl,
   fun _ _ _ h hcls hop ha hbad hs => becomes_load_buserr exec_ldsh h hcls hop ha hbad hs,
   fun _ _ _ h hcls hop ha => becomes_load_align exec_ldsh h hcls hop ha,
   fun _ _ _ h hcls hop ha hs hp => becomes_load exec_ldw h hcls hop ha hs hp rfl,
   fun _ _ _ h hcls hop ha hbad hs => becomes_load_buserr exec_ldw h hcls hop ha hbad hs,
   fun _ _ _ h hcls hop ha => becomes_load_align exec_ldw h hcls hop ha,
   fun _ _ _ h hcls hop ha hs hp => becomes_load exec_lda h hcls hop ha hs hp rfl,
   fun _ _ _ h hcls hop ha hbad hs => becomes_load_buserr exec_lda h hcls hop ha hbad hs,
   fun _ _ _ h hcls hop ha => becomes_load_align exec_lda h hcls hop ha,
   fun _ _ _ h hcls hop ha hs hp => becomes_load exec_ldp h hcls hop ha hs hp rfl,
   fun _ _ _ h hcls hop ha hbad hs => becomes_load_buserr exec_ldp h hcls hop ha hbad hs,
   fun _ _ _ h hcls hop ha => becomes_load_align exec_ldp h hcls hop ha⟩

end Sys2Proof.Machine
end
section
/-!
SUPPORT. The stores and the exclusive pair of the core complete.
-/
namespace Sys2Proof.Machine

section
variable {c d : Chip} {w : Word} {i : Instr} {cls mem n : Nat} {value : Chip → Word → Nat}
  (hi : ∀ s, exec i s = runAny (fun c => c.storeInsn cls mem n value) s) (h : CoreBegins c d w) (hcls : wCls w = cls) (hop : wOp w = mem)
include hi h hcls hop

theorem becomes_store (ha : (memAddress d w).1 % n = 0) (hw : storeWaits d (memAddress d w).1 = false) {v : Nat}
    (hv : value d w = v) :
    Becomes i c (Chip.coreDid w (.next ((d.coreStore (memAddress d w).1 (leBytes n v)).setP (wIdx w) (memAddress d w).2)
      (c.core.pc.toNat + 4) none)) :=
  hv ▸ becomes_runAny hi (fun _ => rfl) (storeInsn_of_coreBegins h hcls hop ha hw)

/-- A store of a misaligned address raises ALIGN (R226). -/
theorem becomes_store_align (ha : (memAddress d w).1 % n ≠ 0) :
    Becomes i c (d.coreTrap 4 0 (some (memAddress d w).1) c.core.pc.toNat) := by
  refine becomes_coreTrap hi h (word_of_cls_op hcls hop) ?_
  simp only [ha, ne_eq, not_false_iff, if_true]

/-- A store waits at a stimulus port that blocks (R552). -/
theorem becomes_store_waits (ha : (memAddress d w).1 % n = 0) (hw : storeWaits d (memAddress d w).1 = true) : Becomes i c d := by
  refine becomes_coreDid (x := .wait d) hi h (word_of_cls_op hcls hop) ?_
  simp only [ha, hw, ne_eq, not_true, if_false, if_true]

end

section
variable {c d : Chip} {w : Word} {k : Nat}

/-- While NCLK runs no access of the core stops (R479), and a fetch leaves it running. -/
theorem meshStops_of_coreFetch {x : Option Word} (hn : nclkRuns c = true) (h : c.coreFetch = (x, d)) (a : Nat) : meshStops d a = false := by
  simp only [meshStops, nclkRuns_of_coreFetch h, hn, Bool.not_true, Bool.false_and]

end

/-- Settles O49: the stores wait, trap or go out as every store does (one that leaves the buffer within its own command is log entry 30);
LDX and STX find NCLK running, since the fetch left it (that LDX counts as a fill at the loft controller is log entry 43). -/
theorem coreStoresAndExclusivesComplete : Obligations.CoreStoresAndExclusivesComplete := by
  refine ⟨fun _ _ _ h hcls hop hw => becomes_store exec_stb h hcls hop (Nat.mod_one _) hw rfl,
    fun _ _ _ h hcls hop ha hw => becomes_store exec_sth h hcls hop ha hw rfl,
    fun _ _ _ h hcls hop ha => becomes_store_align exec_sth h hcls hop ha,
    fun _ _ _ h hcls hop ha hw => becomes_store exec_stw h hcls hop ha hw rfl,
    fun _ _ _ h hcls hop ha => becomes_store_align exec_stw h hcls hop ha,
    fun _ _ _ h hcls hop ha hw => becomes_store_waits exec_stw h hcls hop ha hw,
    fun _ _ _ h hcls hop ha hw => becomes_store exec_sta h hcls hop ha hw rfl,
    fun _ _ _ h hcls hop ha => becomes_store_align exec_sta h hcls hop ha,
    fun _ _ _ h hcls hop ha hw => becomes_store exec_stp h hcls hop ha hw rfl,
    fun _ _ _ h hcls hop ha => becomes_store_align exec_stp h hcls hop ha,
    ?ldx, ?ldxAlign, ?ldxNowhere, ?stxTaken, ?stxLost, ?stxAlign⟩
  case ldx =>
    intro c d w k pc a r h hcls hop ha hk hs hp hn
    have hstop := meshStops_of_coreFetch hn h.2.1 a
    have hptr : coreP d (wIdx w) = a := rfl
    refine becomes_coreDid exec_ldx h (word_of_cls_op hcls hop) ?_ hn
    have hread : d.busRead .core a 4 false = r := rfl
    simp only [hptr, ha, hk, hstop, hs, hp, hread, ne_eq, not_true, or_self, Bool.false_eq_true, if_false]
    rfl
  case ldxAlign =>
    intro c d w pc a h hcls hop ha
    exact becomes_coreTrap exec_ldx h (word_of_cls_op hcls hop) (if_pos ha)
  case ldxNowhere =>
    intro c d w pc a h hcls hop ha hk
    have hptr : coreP d (wIdx w) = a := rfl
    refine becomes_coreTrap exec_ldx h (word_of_cls_op hcls hop) ((if_neg (not_not.mpr ha)).trans ?_)
    simp only [hptr, hk]
    rfl
  case stxTaken =>
    intro c d w k pc a h hcls hop ha hk hresv hs hn
    have hstop := meshStops_of_coreFetch hn h.2.1 a
    have hptr : coreP d (wIdx w) = a := rfl
    refine becomes_coreDid exec_stx h (word_of_cls_op hcls hop) ((if_neg (not_not.mpr ha)).trans ?_) hn
    simp only [hptr, hk, hresv, hstop, ne_eq, not_true, Bool.false_eq_true, if_false]
    exact if_neg (not_not.mpr hs)
  case stxLost =>
    intro c d w k pc a h hcls hop ha hk hresv
    have hptr : coreP d (wIdx w) = a := rfl
    refine becomes_coreDid exec_stx h (word_of_cls_op hcls hop) ((if_neg (not_not.mpr ha)).trans ?_)
    simp only [hptr, hk, hresv, ne_eq, not_false_iff, if_true]
    rfl
  case stxAlign =>
    intro c d w pc a h hcls hop ha
    exact becomes_coreTrap exec_stx h (word_of_cls_op hcls hop) (if_pos ha)

end Sys2Proof.Machine
end

section
/-!
SUPPORT. The branches and the array instructions of the core complete.
-/
namespace Sys2Proof.Machine

section
variable {c d : Chip} {w : Word}

theorem issueTry_of_room (hgang : (d.bit Reg.SPIN_STAT 29 && !d.bit Reg.SPIN_STAT 31) = false) (hroom : queueRoom d = true) (x : DWord)
    (after : Chip → Chip) : d.issueTry x after = some ((after (d.enqueue x)).setFlag 30 true) := by
  simp only [Chip.issueTry, hgang, hroom, Bool.false_eq_true, if_false, if_true]

theorem issueTry_of_full (hgang : (d.bit Reg.SPIN_STAT 29 && !d.bit Reg.SPIN_STAT 31) = false) (hroom : queueRoom d = false) (x : DWord)
    (after : Chip → Chip) : d.issueTry x after = if queueLive d then none else some (d.setFlag 30 false) := by
  simp only [Chip.issueTry, hgang, hroom, Bool.false_eq_true, if_false]

theorem issueAt_of_some {e : Chip} (hop : wOp w = 0)
    (h : d.issueTry (BitVec.ofNat 64 (coreG d (wA w) * 2 ^ 32 + coreG d (wB w))) id = some e) (pc : Nat) :
    d.issueAt w pc = .next e (pc + 4) none := by
  simp only [Chip.issueAt, hop, h, if_true]

theorem issueAt_of_none (hop : wOp w = 0) (h : d.issueTry (BitVec.ofNat 64 (coreG d (wA w) * 2 ^ 32 + coreG d (wB w))) id = none)
    (pc : Nat) : d.issueAt w pc = .hold d .issue := by
  simp only [Chip.issueAt, hop, h, if_true]

theorem issueAt_of_room (hop : wOp w = 0) (hgang : (d.bit Reg.SPIN_STAT 29 && !d.bit Reg.SPIN_STAT 31) = false)
    (hroom : queueRoom d = true) (pc : Nat) :
    d.issueAt w pc =
      .next ((d.enqueue (BitVec.ofNat 64 (coreG d (wA w) * 2 ^ 32 + coreG d (wB w)))).setFlag 30 true) (pc + 4) none :=
  issueAt_of_some hop (issueTry_of_room hgang hroom _ _) pc

/-- ISSUEM of an aligned entry that it reads and that the queue has room for (R223). -/
theorem issueAt_of_memory {r : Resp × Chip} {t : Nat} (hop : wOp w = 1) (ht : coreP d (Machine.fld w 18 16) = t) (ha : t % 8 = 0)
    (hr : d.coreRead t 8 = r) (hs : r.1.status = 0) (hp : r.1.poison = false)
    (hgang : (r.2.bit Reg.SPIN_STAT 29 && !r.2.bit Reg.SPIN_STAT 31) = false) (hroom : queueRoom r.2 = true) (pc : Nat) :
    d.issueAt w pc =
      .next (((r.2.enqueue (BitVec.ofNat 64 r.1.data)).setP (Machine.fld w 18 16) (t + 8)).setFlag 30 true) (pc + 4) none := by
  simp only [Chip.issueAt, hop, ht, ha, hr, hs, hp, waitsStill, issueTry_of_room hgang hroom, one_ne_zero, OfNat.zero_ne_ofNat, ne_eq,
    not_true, decide_false, or_self, Bool.false_eq_true, if_false]

/-- AWAIT whose condition is met (R224). -/
theorem awaitAt_of_met (hlive : queueLive d = true) (hmet : awaitMet d (wB w) = true) (pc : Nat) :
    d.awaitAt w pc = .next (d.setFlag 30 true) (pc + 4) none := by
  simp only [Chip.awaitAt, hlive, hmet, Bool.not_true, Bool.false_eq_true, if_false, if_true]

/-- A held instruction that no longer holds is carried out (R223, R224). -/
theorem retryHold_of_next {f : Chip → Word → Nat → Did} {e : Chip} {pc : Nat} (hfetch : c.coreFetch = (some w, d))
    (hf : f (d.onCore (fun k => { k with hold := .none })) w c.core.pc.toNat = .next e pc none) :
    c.retryHold f = Chip.coreDid w (.next e pc none) := by
  simp only [Chip.retryHold, hfetch, hf]

end

/-- Settles O50: the branches go to their target or trap, and ISSUE and AWAIT are decided by the queue alone (that AWAIT completes whatever
LOADING is is log entry 34). -/
theorem coreBranchesAndIssueComplete : Obligations.CoreBranchesAndIssueComplete := by
  refine ⟨?b, ?bl, ?brp, ?brpAlign, ?blrp, ?blrpAlign, ?issue, ?issueDead, ?issueHolds, ?issuem, ?await, ?awaitHolds, ?awaitDead,
    ?issueAgain, ?awaitAgain⟩
  case b =>
    intro c d w pc h hcls hlink
    exact becomes_coreDid exec_b h (by simp only [hcls, hlink, decide_true, Bool.not_false, Bool.and_self]) rfl
  case bl =>
    intro c d w pc h hcls hlink
    exact becomes_coreDid exec_bl h (by simp only [hcls, hlink, decide_true, Bool.and_self]) rfl
  case brp =>
    intro c d w t h hcls hop ha
    exact becomes_coreDid exec_brp h (word_of_cls_op hcls hop) (if_neg (not_not.mpr ha))
  case brpAlign =>
    intro c d w pc t h hcls hop ha
    exact becomes_coreTrap exec_brp h (word_of_cls_op hcls hop) (if_pos ha)
  case blrp =>
    intro c d w pc t h hcls hop ha
    exact becomes_coreDid exec_blrp h (word_of_cls_op hcls hop) (if_neg (not_not.mpr ha))
  case blrpAlign =>
    intro c d w pc t h hcls hop ha
    exact becomes_coreTrap exec_blrp h (word_of_cls_op hcls hop) (if_pos ha)
  case issue =>
    intro c d w pc h hcls hop hgang hroom
    exact becomes_coreDid exec_issue h (word_of_cls_op hcls hop) (issueAt_of_room hop hgang hroom pc)
  case issueDead =>
    intro c d w pc h hcls hop hgang hroom hlive
    refine becomes_coreDid exec_issue h (word_of_cls_op hcls hop) (issueAt_of_some hop ?_ pc)
    rw [issueTry_of_full hgang hroom, hlive]
    rfl
  case issueHolds =>
    intro c d w h hcls hop hgang hroom hlive
    refine becomes_coreDid exec_issue h (word_of_cls_op hcls hop) (issueAt_of_none hop ?_ _)
    rw [issueTry_of_full hgang hroom, if_pos hlive]
  case issuem =>
    intro c d w pc t r h hcls hop ha hs hp hgang hroom
    exact becomes_coreDid exec_issuem h (word_of_cls_op hcls hop) (issueAt_of_memory hop rfl ha rfl hs hp hgang hroom pc)
  case await =>
    intro c d w pc h hcls hop hlive hmet
    exact becomes_coreDid exec_await h (word_of_cls_op hcls hop) (awaitAt_of_met hlive hmet pc)
  case awaitHolds =>
    intro c d w h hcls hop hlive hmet
    refine becomes_coreDid exec_await h (word_of_cls_op hcls hop) ?_
    simp only [Chip.awaitAt, hlive, hmet, Bool.not_true, Bool.false_eq_true, if_false]
  case awaitDead =>
    intro c d w pc h hcls hop hlive
    exact becomes_coreDid exec_await h (word_of_cls_op hcls hop) (if_pos (by simp only [hlive, Bool.not_false]))
  case issueAgain =>
    intro c d w hruns hhold hasync hfetch hop hgang hroom
    refine becomes_runAny exec_issueHoldRelease (fun _ => rfl) ?_
    simp only [hruns, hhold, hasync, decide_true, Bool.not_false, Bool.and_self, if_true]
    exact retryHold_of_next hfetch (issueAt_of_room (d := d.onCore (fun k => { k with hold := .none })) hop hgang hroom _)
  case awaitAgain =>
    intro c d w hruns hhold hasync hfetch hlive hmet
    refine becomes_runAny exec_awaitComplete (fun _ => rfl) ?_
    simp only [hruns, hhold, hasync, decide_true, Bool.not_false, Bool.and_self, if_true]
    exact retryHold_of_next hfetch (awaitAt_of_met (d := d.onCore (fun k => { k with hold := .none })) hlive hmet _)

end Sys2Proof.Machine
end
section
/-!
SUPPORT. The system instructions, the exceptions and the interrupts of the core complete.
-/
namespace Sys2Proof.Machine

/-- A BKPT halts where the debugger claims it as the fetch left it: a fetch changes neither the claim nor the ports (R544). -/
theorem bkptClaimed_of_coreFetch {c d : Chip} {x : Option Word} (h : c.coreFetch = (x, d)) :
    (c.bit Reg.DBG_RUNCTL 8 && somePortHolds c 2) = (d.bit Reg.DBG_RUNCTL 8 && somePortHolds d 2) := by
  have hlevel : ∀ p, portLevel d p = portLevel c p := fun p => by rw [portLevel, portLevel, debugPort, debugPort, dbg_of_coreFetch h]
  have hclaim : d.bit Reg.DBG_RUNCTL 8 = c.bit Reg.DBG_RUNCTL 8 := bit_of_coreFetch h (by decide) 8
  simp only [somePortHolds, hlevel, hclaim]

theorem leaveWfi_core (c : Chip) : c.leaveWfi.core = c.core := by simp only [Chip.leaveWfi, setBit_core]

theorem leaveWfi_dropWait_onCore {c : Chip} {f : Core → Core} {x : Core} (hf : f c.core = x) :
    (c.dropWait.onCore f).leaveWfi = { c.setBit Reg.SYS_DCORE 30 false with
      pow := { c.pow with stopped := c.pow.stopped.filter (fun k => decide (k ≠ 1)) }
      xspi := { c.xspi with waits := c.xspi.waits.filter (fun e => decide (e.1 ≠ 0)) }
      core := x } := by
  subst hf
  rfl

/-- A core that neither steps nor is to halt goes on where it entered. -/
theorem enteredHalts_of_none {d : Chip} (hstep : d.core.stepping = none) (hhalt : d.core.haltReq = false) :
    (if d.core.stepping.isSome then d.coreHalt 2 else if d.core.haltReq then d.coreHalt 1 else d) = d := by
  rw [hstep, hhalt]
  rfl

/-- An exception is entered from the core as its cause is recorded, at the same PC. -/
theorem coreEnter_onCore {c : Chip} {f : Core → Core} {x : Core} (hf : f c.core = x) (hpc : x.pc = c.core.pc) :
    (c.onCore f).coreEnter 0 (c.onCore f).core.pc.toNat = Chip.coreEnter { c with core := x } 0 c.core.pc.toNat := by
  subst hf
  rw [onCore_core, hpc]
  rfl

/-- Settles O51 (that ERET leaves IPL as it was where ESTAT holds 6 or 7 is log entry 32, and that an interrupt drops a held flash read 46). -/
theorem coreSystemInstructionsComplete : Obligations.CoreSystemInstructionsComplete := by
  refine ⟨?nop, ?svc, ?eretExc, ?eretIrq, ?eretNowhere, ?mrs, ?msr, ?wfi, ?wake, ?fence, ?bkpt, ?bkptHalts, ?dcinv, ?icinv, ?icinvall,
    ?dcinvall, ?undefined, ?interrupt, ?imprecise⟩
  case nop => exact fun c d w h hcls hop => becomes_coreDid exec_distaffNop h (word_of_cls_op hcls hop) rfl
  case svc => exact fun c d w h hcls hop => becomes_coreTrap exec_svc h (word_of_cls_op hcls hop) rfl
  case eretExc =>
    intro c d w h hcls hop hexc
    refine becomes_coreDid exec_eret h (word_of_cls_op hcls hop) ?_
    simp only [hexc, Bool.not_true, Bool.false_eq_true, false_and, if_false, if_true, Chip.onCore]
  case eretIrq =>
    intro c d w h hcls hop hexc hipl
    refine becomes_coreDid exec_eret h (word_of_cls_op hcls hop) ?_
    simp only [hexc, hipl, and_false, Bool.false_eq_true, if_false, Chip.onCore]
  case eretNowhere =>
    intro c d w pc h hcls hop hexc hipl
    exact becomes_coreTrap exec_eret h (word_of_cls_op hcls hop) (if_pos ⟨by simp only [hexc, Bool.not_false], hipl⟩)
  case mrs =>
    intro c d w v pc h hcls hop hv
    refine becomes_coreDid exec_mrs h (word_of_cls_op hcls hop) ?_
    simp only [hv, Option.getD_some]; rfl
  case msr => exact fun c d w h hcls hop => becomes_coreDid exec_msr h (word_of_cls_op hcls hop) rfl
  case wfi => exact fun c d w h hcls hop => becomes_coreDid exec_wfi h (word_of_cls_op hcls hop) rfl
  case wake =>
    intro c hruns hhold hready
    refine becomes_runAny exec_wfiWake (fun _ => rfl) ?_
    simp only [hruns, hhold, hready, decide_true, Bool.and_self, if_true]
    rfl
  case fence => exact fun c d w h hcls hop => becomes_coreDid exec_distaffFence h (word_of_cls_op hcls hop) rfl
  case bkpt =>
    intro c d w pc h hcls hop hclaim
    have hclaimed := bkptClaimed_of_coreFetch h.2.1
    rw [hclaim, Bool.false_and] at hclaimed
    refine becomes_runAny exec_bkpt (fun _ => rfl) ((coreInsn_of_coreBegins h (word_of_cls_op hcls hop)).trans ?_)
    simp only [hclaimed, Bool.false_eq_true, if_false]
    rfl
  case bkptHalts =>
    intro c d w h hcls hop hclaim hport
    have hclaimed := bkptClaimed_of_coreFetch h.2.1
    rw [hclaim, hport, Bool.and_self] at hclaimed
    refine becomes_runAny exec_bkpt (fun _ => rfl) ((coreInsn_of_coreBegins h (word_of_cls_op hcls hop)).trans ?_)
    simp only [hclaimed, if_true]
  case dcinv => exact fun c d w h hcls hop => becomes_coreDid exec_dcinv h (word_of_cls_op hcls hop) rfl
  case icinv => exact fun c d w h hcls hop => becomes_coreDid exec_icinv h (word_of_cls_op hcls hop) rfl
  case icinvall => exact fun c d w h hcls hop => becomes_coreDid exec_icinvall h (word_of_cls_op hcls hop) rfl
  case dcinvall => exact fun c d w h hcls hop => becomes_coreDid exec_dcinvall h (word_of_cls_op hcls hop) rfl
  case undefined =>
    intro c d w hready hfetch hundefined
    refine becomes_runAny exec_undefInstruction (fun _ => rfl) ?_
    simp only [hready, hfetch, hundefined, Bool.not_true, Bool.false_eq_true, if_false, if_true]
  case interrupt =>
    intro c k hruns hload hstep himprecise hhalt hirq hk
    have hopen : asyncOpen c = true := by simp only [asyncOpen, hload, hstep, Option.isNone_none, Bool.true_or, Bool.and_self]
    have hload' : c.finishLoad = c := by rw [Chip.finishLoad, hload]
    refine becomes_runAny exec_interruptEntry (fun _ => rfl) ?_
    simp only [hruns, hopen, himprecise, hirq, Bool.not_true, Bool.or_self, Bool.false_eq_true, if_false]
    rw [Chip.coreEnter, hload']
    simp only [hk, if_false]
    refine (enteredHalts_of_none ?_ ?_).trans (leaveWfi_dropWait_onCore rfl)
    · rw [leaveWfi_core, onCore_core, Chip.dropWait_core, hstep]
    · rw [leaveWfi_core, onCore_core, Chip.dropWait_core, hhalt]
  case imprecise =>
    intro c a hruns himprecise ha
    refine becomes_runAny exec_impreciseBuserr (fun _ => rfl) ?_
    simp only [hruns, himprecise, ha, Bool.not_true, Bool.or_self, Bool.false_eq_true, if_false]
    exact coreEnter_onCore rfl rfl

end Sys2Proof.Machine
end

section
/-!
SUPPORT. The flags and the register that an integer instruction of the core writes (R213, R238).
-/
namespace Sys2Proof.Machine

/-- The bits of a word after one of them is set. -/
theorem bitOf_setBit (w : Word) (i : Nat) {j : Nat} (b : Bool) (hj : j < 32) :
    bitOf (Machine.setBit w i b) j = if j = i then b else bitOf w j := by
  rw [Machine.setBit, bitOf_setFld w i i b.toNat j hj]
  by_cases h : j = i
  · subst h; cases b <;> simp
  · rw [if_neg (by omega), if_neg h]

/-- Below C the flags follow V alone (R238). -/
theorem bitOf_nzcv (flg : Word) (r : Nat) (c v : Option Bool) {i : Nat} (hi : i < 29) :
    bitOf (nzcv flg r c v) i = if i = 28 then v.getD (bitOf flg i) else bitOf flg i := by
  have h29 : i ≠ 29 := by omega
  have h30 : i ≠ 30 := by omega
  have h31 : i ≠ 31 := by omega
  cases c <;> cases v <;> simp [nzcv, bitOf_setBit, show i < 32 by omega, h29, h30, h31]

/-- A sticky flag that is set where `b`. -/
theorem coreFlag_ite_setFlag (d : Chip) (b : Bool) (i : Nat) {j : Nat} (hj : j < 32) :
    coreFlag (if b then d.setFlag i true else d) j = (coreFlag d j || (b && decide (j = i))) := by
  cases b with
  | false => simp
  | true =>
    refine (bitOf_setBit d.core.flg i true hj).trans ?_
    by_cases h : j = i <;> simp [h, coreFlag]

theorem coreFlag_setG (d : Chip) (n v i : Nat) : coreFlag (d.setG n v) i = coreFlag d i := rfl

theorem g_setG (d : Chip) (n v : Nat) : (d.setG n v).core.g = listSet d.core.g n (BitVec.ofNat 32 v) := rfl

theorem g_ite_setFlag (d : Chip) (b : Bool) (i : Nat) : (if b then d.setFlag i true else d).core.g = d.core.g := by
  cases b <;> rfl

/-- A row that runs its words makes of the one that begins what it says. -/
theorem CoreRuns.becomes {i : Instr} {mine : Word → Bool} {f : Chip → Word → Nat → Did} {c d : Chip} {w : Word}
    (h : CoreRuns i mine f) (hb : CoreBegins c d w) (hm : mine w = true) :
    Becomes i c (Chip.coreDid w (f d w c.core.pc.toNat)) := by
  obtain ⟨hready, hfetch, hdefined, hcond⟩ := hb
  obtain ⟨_, _, hword⟩ := h c d w hready
  exact (hword hfetch hdefined hm).1 hcond

/-- An operation of class 0x0 or 0x1 that writes D: SV follows its saturation whatever SF is, and V its overflow under SF (R238, R240). -/
theorem aluDid_next (f : Nat → Nat → Nat → AluOut) (d : Chip) (w : Word) (pc : Nat) {o : AluOut}
    (ho : f (coreG d (wA w)) (aluB d w) (coreFlag d 29).toNat = o) :
    ∃ e, aluDid true f d w pc = .next e (pc + 4) none ∧ e.core.g = listSet d.core.g (wD w) (BitVec.ofNat 32 o.r) ∧
      coreFlag e 27 = (coreFlag d 27 || o.sv) ∧ (aluSf w = true → coreFlag e 28 = o.v.getD (coreFlag d 28)) := by
  refine ⟨_, rfl, ?_⟩
  have hg := g_ite_setFlag d o.sv 27
  have hflag := coreFlag_ite_setFlag d o.sv 27 (j := 27) (by decide)
  have hv := coreFlag_ite_setFlag d o.sv 27 (j := 28) (by decide)
  simp only [decide_true, Bool.and_true] at hflag
  simp only [Nat.reduceEqDiff, decide_false, Bool.and_false, Bool.or_false] at hv
  simp only [ho, Bool.not_true, Bool.or_false, if_true]
  cases hsf : aluSf w with
  | false =>
    simp only [Bool.false_eq_true, if_false, g_setG, coreFlag_setG, hg, hflag, false_implies, and_self]
  | true =>
    simp only [if_true, g_setG, hg, true_and, true_implies]
    constructor
    · exact (bitOf_nzcv _ _ _ _ (by decide)).trans hflag
    · rw [← hv]
      exact bitOf_nzcv _ _ _ _ (by decide)

/-- The row of an operation of class 0x0 or 0x1 other than CMP writes D and its flags (R238, R240). -/
theorem becomes_of_aluInsn {i : Instr} {op : Nat} {f : Nat → Nat → Nat → AluOut} {c d : Chip} {w : Word} {o : AluOut}
    (hi : ∀ s, exec i s = runAny (fun c => c.aluInsn op f) s) (hwrites : op ≠ 13) (h : CoreBegins c d w) (hcls : wCls w ≤ 1)
    (hop : wOp w = op) (ho : f (coreG d (wA w)) (aluB d w) (coreFlag d 29).toNat = o) :
    ∃ e, Becomes i c (Chip.coreDid w (.next e (c.core.pc.toNat + 4) none)) ∧
      e.core.g = listSet d.core.g (wD w) (BitVec.ofNat 32 o.r) ∧
      coreFlag e 27 = (coreFlag d 27 || o.sv) ∧ (aluSf w = true → coreFlag e 28 = o.v.getD (coreFlag d 28)) := by
  have hbecomes := (coreRuns_of_aluInsn hi).becomes h (by rw [decide_eq_true hcls, decide_eq_true hop, Bool.and_self])
  obtain ⟨e, he, heffects⟩ := aluDid_next f d w c.core.pc.toNat ho
  rw [decide_eq_true hwrites, he] at hbecomes
  exact ⟨e, hbecomes, heffects⟩

end Sys2Proof.Machine
end

section
/-!
SUPPORT. The products of class 0x6 (R241).
-/
namespace Sys2Proof.Machine

/-- Wrapping takes congruent values to one number. -/
theorem wrapInt_congr {w : Nat} {x y : Int} (h : x ≡ y [ZMOD 2 ^ w]) : wrapInt w x = wrapInt w y := congrArg Int.toNat h

/-- The low half of a product is the same for signed and unsigned operands (R241). -/
theorem wrapInt_toSigned_mul {w : Nat} (hw : 0 < w) (a b : Nat) : wrapInt w (toSigned w a * toSigned w b) = a * b % 2 ^ w := by
  have ha : toSigned w a ≡ a [ZMOD 2 ^ w] := intOf_modEq (sgn := true) hw a
  have hb : toSigned w b ≡ b [ZMOD 2 ^ w] := intOf_modEq (sgn := true) hw b
  rw [wrapInt_congr (ha.mul hb), ← Nat.cast_mul, wrapInt_natCast]

/-- An operation of class 0x6 that neither divides by zero nor gives V leaves V, SV and the flags below them (R238, R241). -/
theorem mulDid_next (f : Nat → Nat → AluOut × Bool) (d : Chip) (w : Word) (pc : Nat)
    (hf : ∀ a b, (f a b).2 = false ∧ (f a b).1.v = none) :
    ∃ e, mulDid f d w pc = .next e (pc + 4) none ∧ ∀ i, i < 29 → coreFlag e i = coreFlag d i := by
  obtain ⟨hdz, hv⟩ := hf (coreG d (wA w)) (coreG d (wB w))
  refine ⟨_, rfl, fun i hi => ?_⟩
  simp only [hdz, hv, Bool.false_eq_true, if_false]
  cases bitOf w 7 with
  | false => exact coreFlag_setG d _ _ i
  | true => exact (bitOf_nzcv _ _ _ _ hi).trans (ite_self _)

/-- Settles O45: each product is its row's, and the signed operands are congruent to the unsigned ones. -/
theorem classSixMultiplication : Obligations.ClassSixMultiplication :=
  ⟨coreRuns_of_mulInsn exec_distaffMul, coreRuns_of_mulInsn exec_mulhs, coreRuns_of_mulInsn exec_mulhu,
   wrapInt_toSigned_mul (by decide), mulDid_next⟩

end Sys2Proof.Machine
end

section
/-!
SUPPORT. Saturating addition of the core (R240).
-/
namespace Sys2Proof.Machine

theorem ofNat_wrapInt (w : Nat) (x : Int) : BitVec.ofNat w (wrapInt w x) = BitVec.ofInt w x := by
  refine BitVec.eq_of_toNat_eq ?_
  rw [BitVec.toNat_ofNat, BitVec.toNat_ofInt, Nat.mod_eq_of_lt (wrapInt_lt w x), wrapInt]
  norm_cast

theorem wOp_lt (w : Word) : wOp w < 16 := Nat.mod_lt _ (by decide)

/-- A row that saturates the exact value `x` writes it clamped to 32 bits, and SV says whether it was (R240). -/
theorem becomes_of_aluSat {i : Instr} {op : Nat} {f : Nat → Nat → Nat → AluOut} {c d : Chip} {w : Word} {x : Int}
    (hi : ∀ s, exec i s = runAny (fun c => c.aluInsn op f) s) (hwrites : op ≠ 13) (h : CoreBegins c d w) (hcls : wCls w ≤ 1)
    (hop : wOp w = op) (hx : f (coreG d (wA w)) (aluB d w) (coreFlag d 29).toNat = aluSat x) :
    let y : Int := if 0x7FFFFFFF < x then 0x7FFFFFFF else if x < -0x80000000 then -0x80000000 else x
    ∃ e, Becomes i c (Chip.coreDid w (.next e (c.core.pc.toNat + 4) none)) ∧
      e.core.g = listSet d.core.g (wD w) (BitVec.ofInt 32 y) ∧ coreFlag e 27 = (coreFlag d 27 || decide (y ≠ x)) := by
  intro y
  obtain ⟨e, hbecomes, hg, hsv, _⟩ := becomes_of_aluInsn hi hwrites h hcls hop hx
  have hy : (aluSat x).r = wrapInt 32 y := rfl
  refine ⟨e, hbecomes, ?_, hsv⟩
  rw [hg, hy, ofNat_wrapInt]

/-- Settles O56: QADD and QSUB are the two operations from 14 on; a SUB of the least value from 0 leaves the format. -/
theorem saturatingAdditionOfTheCore : Obligations.SaturatingAdditionOfTheCore := by
  refine ⟨?saturates, ?wraps⟩
  case saturates =>
    intro c d w h hcls hop
    have hlt := wOp_lt w
    obtain hadd | hsub : wOp w = 14 ∨ wOp w = 15 := by omega
    · simp only [hadd, if_true]
      exact becomes_of_aluSat exec_qadd (by decide) h hcls hadd rfl
    · simp only [hsub, Nat.reduceEqDiff, if_false]
      exact becomes_of_aluSat exec_qsub (by decide) h hcls hsub rfl
  case wraps =>
    intro c d w h hcls hop ha hb
    have hsub : aluSub (coreG d (wA w)) (aluB d w) 0 = { r := 0x80000000, c := some false, v := some true } := by
      rw [ha, hb]
      rfl
    obtain ⟨e, hbecomes, hg, hsv, hv⟩ := becomes_of_aluInsn exec_distaffSub (by decide) h hcls hop hsub
    exact ⟨e, hbecomes, hg, hv, hsv.trans (Bool.or_false _)⟩

end Sys2Proof.Machine
end

section
/-!
SUPPORT. The divisions of the core (R243, R244).
-/
namespace Sys2Proof.Machine

/-- An unsigned division by a divisor other than 0 (R243). -/
theorem divU_of_ne_zero (a : Nat) {b : Nat} (hb : b ≠ 0) : divU a b = { q := a / b, r := a % b } := by rw [divU, if_neg hb]

/-- A quotient of magnitudes that takes its sign from the operands is the truncated quotient (R243). -/
theorem natAbs_div_with_sign (x y : Int) :
    (if decide (x < 0) = decide (y < 0) then ((x.natAbs / y.natAbs : Nat) : Int) else -((x.natAbs / y.natAbs : Nat) : Int)) =
      x.tdiv y := by
  rw [Int.ofNat_tdiv, Int.natCast_natAbs, Int.natCast_natAbs]
  obtain hx | hx := lt_or_ge x 0 <;> obtain hy | hy := lt_or_ge y 0
  · simp [hx, hy, abs_of_neg]
  · simp [hx, hy.not_gt, abs_of_neg, abs_of_nonneg hy]
  · simp [hx.not_gt, hy, abs_of_neg, abs_of_nonneg hx]
  · simp [hx.not_gt, hy.not_gt, abs_of_nonneg hx, abs_of_nonneg hy]

/-- A word holds a value of the signed format (R94). -/
theorem toSigned_mem (a : Nat) : intLo true 32 ≤ toSigned 32 a ∧ toSigned 32 a ≤ intHi true 32 := intOf_mem (sgn := true) (by decide) a

section
variable {a b : Nat} (ha : a < 2 ^ 32) (hb : b < 2 ^ 32)

include ha in
theorem toSigned_of_lt : toSigned 32 a = if a < 2 ^ 31 then (a : Int) else a - 2 ^ 32 := by
  have h := intOf_signed (w := 32) (by decide) a
  rw [Nat.mod_eq_of_lt ha] at h
  exact_mod_cast h

include ha in
theorem toSigned_neg_iff : toSigned 32 a < 0 ↔ ¬a < 2 ^ 31 := by
  rw [toSigned_of_lt ha]
  split <;> omega

/-- A signed division by zero gives the extreme that takes the sign of the dividend (R244). -/
theorem divS_zero (a : Nat) : divS a 0 = { q := if toSigned 32 a < 0 then 2 ^ 31 else 2 ^ 31 - 1, r := a, dz := true } := rfl

include hb in
theorem toSigned_ne_zero (h : b ≠ 0) : toSigned 32 b ≠ 0 := by
  rw [toSigned_of_lt hb]
  split <;> omega

include hb in
/-- A signed division by a divisor other than 0 truncates toward zero (R243). -/
theorem divS_of_ne_zero (a : Nat) (h : b ≠ 0) : divS a b =
    { q := wrapInt 32 ((toSigned 32 a).tdiv (toSigned 32 b)), r := wrapInt 32 ((toSigned 32 a).tmod (toSigned 32 b)),
      v := decide (toSigned 32 a = -(2 ^ 31)) && decide (toSigned 32 b = -1) } := by
  have hy := toSigned_ne_zero hb h
  simp only [divS, hy, if_false, natAbs_div_with_sign, Int.tmod_def, mul_comm]

include ha hb in
/-- The overflowing case is the one pair of numbers (R244). -/
theorem not_overflowing (h : ¬(a = 2 ^ 31 ∧ b = 2 ^ 32 - 1)) : ¬(toSigned 32 a = -(2 ^ 31) ∧ toSigned 32 b = -1) := by
  rw [toSigned_of_lt ha, toSigned_of_lt hb]
  split <;> split <;> omega

end

/-- Settles O57: a signed division is the truncated one of the library wherever its quotient fits. -/
theorem divisionOfTheCore : Obligations.DivisionOfTheCore := by
  intro a b ha hb
  refine ⟨fun hb0 => ?unsigned, fun hb0 => ?unsignedZero, fun hb0 hfits => ?signed, fun ha' hb' => ?overflow, fun hb0 => ?signedZero⟩
  case unsigned =>
    rw [divU_of_ne_zero a hb0]
    exact ⟨rfl, (Nat.div_add_mod' a b).symm, Nat.mod_lt a (Nat.pos_of_ne_zero hb0)⟩
  case unsignedZero =>
    subst hb0
    exact ⟨rfl, rfl, rfl⟩
  case signed =>
    have hover := not_overflowing ha hb hfits
    have hy := toSigned_ne_zero hb hb0
    have hv : (divS a b).v = false := by
      simpa only [divS_of_ne_zero hb a hb0, Bool.and_eq_false_iff, decide_eq_false_iff_not, not_and_or] using hover
    obtain ⟨hqlo, hqhi⟩ := tdiv_mem (toSigned_mem a) (toSigned_mem b) hy fun h => hover h.2
    obtain ⟨hrlo, hrhi⟩ := tmod_mem (toSigned_mem a) (toSigned_mem b) hy
    refine ⟨(toSigned 32 a).tdiv (toSigned 32 b), (toSigned 32 a).tmod (toSigned 32 b), ?quotient, ?remainder, ?quotientWord,
      ?remainderWord, ?dz, hv, (Int.tdiv_mul_add_tmod _ _).symm, ?below, tmod_sign _ _⟩
    case below =>
      rw [Int.natAbs_tmod]
      exact Nat.mod_lt _ (Int.natAbs_pos.mpr hy)
    all_goals rw [divS_of_ne_zero hb a hb0]
    case quotient => exact intOf_wrapInt (sgn := true) (by decide) hqlo hqhi
    case remainder => exact intOf_wrapInt (sgn := true) (by decide) hrlo hrhi
    case quotientWord => exact wrapInt_lt 32 _
    case remainderWord => exact wrapInt_lt 32 _
  case overflow =>
    subst ha' hb'
    decide
  case signedZero =>
    subst hb0
    simp only [divS_zero, toSigned_neg_iff ha, ite_not, and_self]

end Sys2Proof.Machine
end

section
/-!
SUPPORT. What the drain and power-down commands do where their conditions hold (R269, R270, R271, R274).
-/
namespace Sys2Proof.Machine

section
variable {c : Chip} {d : Drain}

/-! ### Drains (R269, R270) -/

theorem drainStart_of_waiting {rest : List Drain} (hnone : c.noc.drain = none) (hwaits : c.noc.drains = d :: rest) :
    c.drainStart = Chip.showDrains { c with noc := { c.noc with drain := some { d with since := c.ns }, drains := rest } } := by
  rw [Chip.drainStart, hnone, hwaits]
  rfl

theorem drainComplete_of_empty (hruns : c.noc.drain = some d) (hempty : buffersEmpty c d.node = true) :
    c.drainComplete = ((c.applyPort d.node d.goals).drainOver d.node).releaseHeld d.node := by
  rw [Chip.drainComplete, hruns]
  exact if_pos hempty

theorem drainLate_of_due (hruns : c.noc.drain = some d) (hfirst : d.late = false) (hdue : d.since + 4096 ≤ c.ns) :
    c.drainLate =
      (Chip.setBit { c with noc := { c.noc with drain := some { d with late := true } } } Reg.NOC_STAT 2 true).raise 96 := by
  have hlate : (d.late || decide (c.ns < d.since + 4096)) = false := by
    rw [hfirst, decide_eq_false (Nat.not_lt.mpr hdue), Bool.or_false]
  rw [Chip.drainLate, hruns]
  exact if_neg (Bool.eq_false_iff.mp hlate)

/-- ABORT keeps the old state of the router; where the drain served a power-down, that ends too. -/
theorem drainAbort_of_running (hruns : c.noc.drain = some d) :
    c.drainAbort = (if d.goals.contains 1 then (c.drainOver d.node).abandonDown d.node else c.drainOver d.node).raise 105 := by
  rw [Chip.drainAbort, hruns]

/-! ### DISABLE of an edge port (R271) -/

theorem portDisable_of_change {e : Nat} {v : Bool} (hport : hasPort (edgeNode e) = true) (hnever : neverDisabled (edgeNode e) = false)
    (hbit : c.bit (Reg.NOC_PORTe e) 0 = !v) :
    c.portDisable e v = (c.setBit (Reg.NOC_PORTe e) 0 v).askDrain (edgeNode e) (if v then 2 else 4) := by
  have hchange : decide (c.bit (Reg.NOC_PORTe e) 0 = v) = false := decide_eq_false fun h => Bool.not_ne_self v (hbit.symm.trans h)
  simp only [Chip.portDisable, hport, hnever, hchange, Bool.not_true, Bool.or_self, if_false, Bool.false_eq_true]

theorem portDisable_of_never {e : Nat} (hnever : neverDisabled (edgeNode e) = true) (v : Bool) : c.portDisable e v = c := by
  simp only [Chip.portDisable, hnever, Bool.or_true, Bool.true_or, if_true]

/-! ### The commit of a power-down and the exit of a tile (R274) -/

/-- What the commit does to the domain: a tile goes to its state to come, another domain loses what it held and switches off. -/
def Chip.commitDown (c : Chip) (st : Nat) : Domain → Chip
  | .tileLogic t => c.tileDown t st
  | d => (c.domainLoss d).switchOff d

/-- A domain whose port sleeps and that owes, awaits, codes and holds nothing commits its power-down. -/
theorem downCommit_of_ready {x : Domain} {st n : Nat} (hdown : c.pow.goingDown = [(x, st)]) (hnode : domainNode x = some n)
    (hport : powerPort c n = 1) (howed : nothingOwed c n = true) (hheld : c.noc.sleep.any (fun e => decide (e.1 = n)) = false)
    (hlanes : lanesNeed c x = false) :
    c.downCommit x = Chip.commitDown { c with pow := { c.pow with goingDown := [] } } st x := by
  have hfind : c.pow.goingDown.find? (fun e => e.1 == x) = some (x, st) := by
    rw [hdown]
    exact List.find?_cons_of_pos (beq_self_eq_true x)
  have hrest : c.pow.goingDown.filter (fun e => decide (e.1 ≠ x)) = [] := by
    rw [hdown]
    exact List.filter_cons_of_neg (by simp)
  have hready : ¬(powerPort c n ≠ 1 ∨ (!nothingOwed c n) = true ∨ lanesNeed c x = true ∨
      c.noc.sleep.any (fun e => decide (e.1 = n)) = true) := by
    simp [hport, howed, hlanes, hheld]
  rw [Chip.downCommit, hfind, hnode]
  refine (if_neg hready).trans ?_
  rw [hrest]
  cases x <;> rfl

theorem tileExitDone_of_held {t : Nat} (hoff : c.isOn (.tileLogic t) = false)
    (hheld : c.noc.sleep.any (fun e => decide (e.1 = tileNode t)) = true) :
    c.tileExitDone t = (c.powerTile t).setTileState t 1 := by
  simp only [Chip.tileExitDone, Chip.exitTile, hoff, hheld, Bool.not_true, Bool.or_self, if_false, Bool.false_eq_true]

end

/-- Settles O14: each clause is its row's branch at the clause's hypotheses (one merged drain for each router, DISABLE draining on a change
alone and a packet that waits for its port not keeping the drain are log entry 42). -/
theorem drainCommandsComplete : Obligations.DrainCommandsComplete := by
  refine ⟨?start, ?complete, ?late, ?abort, ?abortDown, ?disable, ?never, ?tileDown, ?packerDown, ?tileExit, ?perr, ?datCe⟩
  case start =>
    intro c d rest hnone hwaits
    exact becomes_run exec_drainStart (fun _ => rfl) (drainStart_of_waiting hnone hwaits)
  case complete =>
    intro c d hruns hempty
    exact becomes_run exec_drainComplete (fun _ => rfl) (drainComplete_of_empty hruns hempty)
  case late =>
    intro c d hruns hfirst hdue
    exact becomes_run exec_drainLate (fun _ => rfl) (drainLate_of_due hruns hfirst hdue)
  case abort =>
    intro c d hruns hserves
    refine becomes_run exec_drainAbort (fun _ => rfl) ?_
    rw [drainAbort_of_running hruns, if_neg (Bool.eq_false_iff.mp hserves)]
    rfl
  case abortDown =>
    intro c d x hruns hserves
    refine becomes_run exec_drainAbort (fun _ => rfl) ?_
    rw [drainAbort_of_running hruns, if_pos hserves]
    rfl
  case disable =>
    intro c e v hport hnever hbit
    exact becomes_run (exec_portDisable e v) (fun _ => rfl) (portDisable_of_change hport hnever hbit)
  case never =>
    intro c e v hnever
    exact becomes_run (exec_portDisable e v) (fun _ => rfl) (portDisable_of_never hnever v)
  case tileDown =>
    intro c t st hdown hport howed hheld
    exact becomes_run (exec_powerDownCommit _) (fun _ => rfl) (downCommit_of_ready hdown rfl hport howed hheld rfl)
  case packerDown =>
    intro c k st hdown hport howed hheld hlanes
    exact becomes_run (exec_powerDownCommit _) (fun _ => rfl) (downCommit_of_ready hdown rfl hport howed hheld hlanes)
  case tileExit =>
    intro c t hoff hheld
    exact becomes_run (exec_tileExitDone t) (fun _ => rfl) (tileExitDone_of_held hoff hheld)
  case perr => exact fun c => becomes_run exec_perrRead (fun _ => rfl) rfl
  case datCe => exact fun c => becomes_run exec_datCeRead (fun _ => rfl) rfl

end Sys2Proof.Machine
end

section
/-!
SUPPORT. What the packer commands do where their conditions hold (R290 to R295, R297, R300).
-/
namespace Sys2Proof.Machine

section
variable {c : Chip}

/-! ### The pictures that the packer knows -/

theorem any_onPictures (c : Chip) (sel : Picture → Bool) {f : Picture → Picture} {g : Picture → Bool} (hg : ∀ p, g (f p) = g p) :
    (c.onPictures sel f).pkr.pics.any g = c.pkr.pics.any g := by
  have hkeep : g ∘ (fun p => if sel p then f p else p) = g := by
    funext p
    dsimp only [Function.comp_apply]
    split
    · exact hg p
    · rfl
  rw [Chip.onPictures, List.any_map, hkeep]

/-- A change of the pictures equal to the first one changes that one alone, where it is there once. -/
theorem onPictures_head {p : Picture} {rest : List Picture} (hpics : c.pkr.pics = p :: rest) (honce : rest.contains p = false)
    (f : Picture → Picture) :
    c.onPictures (fun q => decide (q = p)) f = { c with pkr := { c.pkr with pics := f p :: rest } } := by
  have hrest : rest.map (fun q => if decide (q = p) then f q else q) = rest := by
    refine (List.map_congr_left fun q hq => ?_).trans (List.map_id rest)
    have hne : q ≠ p := fun h => by
      rw [h, ← List.contains_iff_mem, honce] at hq
      exact Bool.false_ne_true hq
    rw [decide_eq_false hne]
    rfl
  rw [Chip.onPictures, hpics, List.map_cons, hrest]
  simp only [decide_true, if_true]

/-! ### The entries of the picture queue (R293) -/

theorem blockReadLong_of_no_bytes (c : Chip) (fuel a : Nat) : c.blockReadLong fuel a 0 = ([], true, c) := by
  cases fuel <;> rfl

/-- An IRAP ends the dropping of its stream: after it, as where the stream was not dropping, the stream is not among those that drop. -/
theorem dropping_ended {irap : Bool} {s : Nat} {l : List Nat} (h : irap = true ∨ l.contains s = false) :
    (if irap then l.filter (fun x => decide (x ≠ s)) else l).contains s = false := by
  cases irap with
  | true => simp
  | false => simpa using h

/-- The check of the number of slices n against the picture's rows of tiles h (R293). -/
theorem sliceCount_good {n h : Nat} (hn : 1 ≤ n) (hrows : n ≤ h) (hmax : n ≤ 36) :
    (decide (n = 0) || decide (h < n) || decide (36 < n)) = false := by
  simp only [Bool.or_eq_false_iff, decide_eq_false_iff_not]
  omega

theorem sliceCount_bad {n h : Nat} (hn : n = 0 ∨ h < n ∨ 36 < n) : (decide (n = 0) || decide (h < n) || decide (36 < n)) = true := by
  simpa only [Bool.or_eq_true, decide_eq_true_eq, or_assoc] using hn

/-- The chip once a command has joined its picture of stream s, with what the packer has read for it; `bad`: the number of slices is
wrong. -/
def Chip.addPicture (c : Chip) (s frame w64 h64 : Nat) (irap jpeg : Bool) (pre : List Byte) (slices : List Slice) (bad : Bool) : Chip :=
  let old := c.pkr.pics.find? (fun p => samePicture p s frame)
  let base : Picture := match old with
    | some p => if p.hasCmd then { stream := s, frame := frame, w64 := p.w64, h64 := p.h64, sebs := p.sebs, seen := p.seen } else p
    | none => { stream := s, frame := frame, w64 := w64, h64 := h64 }
  let p : Picture := { base with
    hasCmd := true, irap := irap, jpeg := jpeg, pre := pre, slices := slices, reports := [], order := c.pkr.cmds }
  let waiting := match old with
    | some q => !q.hasCmd
    | none => false
  let d : Chip := { c with pkr := { c.pkr with
    cmds := c.pkr.cmds + 1
    dropping := if irap && !bad then c.pkr.dropping.filter (fun x => decide (x ≠ s)) else c.pkr.dropping
    pics := (if waiting then c.pkr.pics.filter (fun q => !(samePicture q s frame && !q.hasCmd)) else c.pkr.pics) ++ [p] } }
  if bad then (d.dropPicture p).dropLater s []
  else if d.pkr.dropping.contains s then d.dropPicture p
  else (base.reports.foldl Chip.sebTake d).pump

/-- An entry that can be read adds its picture, with its prefix and, where their number is right, its slice records. -/
theorem pictureCommand_of_entry {bs : List Byte} (hon : c.isOn (.packer 0) = true) (hempty : ringEmpty c Reg.PKRPIC_BASE_LO = false)
    (hread : (c.blockRead (ringEntry c Reg.PKRPIC_BASE_LO 32 (ringHead c Reg.PKRPIC_BASE_LO)) 32).1 = some bs) :
    let e : Chip :=
      (c.blockRead (ringEntry c Reg.PKRPIC_BASE_LO 32 (ringHead c Reg.PKRPIC_BASE_LO)) 32).2.ringConsumed Reg.PKRPIC_BASE_LO
    let w : Nat := leNat (bs.take 4)
    let s : Nat := natBits w 31 27
    let frame : Nat := leNat ((bs.drop 4).take 4)
    let size : Nat × Nat := pictureSize e s frame
    let n : Nat := natBits w 24 16
    let bad : Bool := decide (n = 0) || decide (size.2 < n) || decide (36 < n)
    let pre : List Byte × Bool × Chip :=
      e.blockReadLong 20 (natBits (leNat ((bs.drop 8).take 8)) 39 0) (natBits (leNat ((bs.drop 8).take 8)) 63 48)
    let recs : List Byte × Bool × Chip :=
      pre.2.2.blockReadLong 2 (natBits (leNat ((bs.drop 16).take 8)) 39 0) (if bad then 0 else 16 * n)
    c.pictureCommand = recs.2.2.addPicture s frame size.1 size.2 (w.testBit 26) (w.testBit 25) pre.1
      ((List.range (if bad then 0 else n)).map (fun i => sliceOfBytes ((recs.1.drop (16 * i)).take 16))) bad := by
  simp only [Chip.pictureCommand, hon, hempty, hread, Bool.not_true, Bool.or_self, Bool.false_eq_true, if_false]
  rfl

section
variable {s frame w64 h64 : Nat} {irap jpeg : Bool} {pre : List Byte} {slices : List Slice}

/-- The picture of a command that is the first to name it. -/
theorem addPicture_of_new (hdrop : irap = true ∨ c.pkr.dropping.contains s = false)
    (hold : c.pkr.pics.find? (fun p => samePicture p s frame) = none) :
    c.addPicture s frame w64 h64 irap jpeg pre slices false = Chip.pump { c with pkr := { c.pkr with
      cmds := c.pkr.cmds + 1
      dropping := if irap then c.pkr.dropping.filter (fun x => decide (x ≠ s)) else c.pkr.dropping
      pics := c.pkr.pics ++ [{
        stream := s, frame := frame, w64 := w64, h64 := h64, hasCmd := true, irap := irap, jpeg := jpeg, pre := pre
        slices := slices, order := c.pkr.cmds }] } } := by
  simp only [Chip.addPicture, hold, Bool.not_false, Bool.and_true, dropping_ended hdrop, Bool.false_eq_true, if_false, List.foldl_nil]

/-- The picture that waits for its command is looked at with the reports that came before it. -/
theorem addPicture_of_waiting {q : Picture} (hdrop : irap = true ∨ c.pkr.dropping.contains s = false)
    (hold : c.pkr.pics.find? (fun p => samePicture p s frame) = some q) (hwaits : q.hasCmd = false) :
    c.addPicture s frame w64 h64 irap jpeg pre slices false = (q.reports.foldl Chip.sebTake { c with pkr := { c.pkr with
      cmds := c.pkr.cmds + 1
      dropping := if irap then c.pkr.dropping.filter (fun x => decide (x ≠ s)) else c.pkr.dropping
      pics := c.pkr.pics.filter (fun x => !(samePicture x s frame && !x.hasCmd)) ++ [{ q with
        hasCmd := true, irap := irap, jpeg := jpeg, pre := pre, slices := slices, order := c.pkr.cmds, reports := [] }] } }).pump := by
  simp only [Chip.addPicture, hold, hwaits, Bool.not_false, Bool.and_true, dropping_ended hdrop, Bool.false_eq_true, if_false, if_true]

/-- A picture with a wrong number of slices is dropped, and its stream goes on dropping. -/
theorem addPicture_of_bad (hold : c.pkr.pics.find? (fun p => samePicture p s frame) = none) :
    let p : Picture := {
      stream := s, frame := frame, w64 := w64, h64 := h64, hasCmd := true, irap := irap, jpeg := jpeg, pre := pre
      slices := slices, order := c.pkr.cmds }
    c.addPicture s frame w64 h64 irap jpeg pre slices true =
      (Chip.dropPicture { c with pkr := { c.pkr with cmds := c.pkr.cmds + 1, pics := c.pkr.pics ++ [p] } } p).dropLater s [] := by
  simp only [Chip.addPicture, hold, Bool.not_true, Bool.and_false, Bool.false_eq_true, if_false, if_true]

end

/-! ### A PIPE context's report (R290, R292) -/

/-- The chip once the capture port has passed a report on: while the frame holds its slot the report is kept, and marked. -/
def Chip.reportPassed (c : Chip) (r : CapReport) : Chip :=
  { c with grn := { c.grn with
    capEnded := if c.cap.frames.any (fun f => decide (f.stream = r.stream) && decide (f.frame = r.frame))
      then c.grn.capEnded.map (fun q => if q = r then { q with passed := true } else q)
      else c.grn.capEnded.filter (fun q => decide (q ≠ r)) } }

/-- The chip once the report is counted in its picture, where it waits while the picture's command has not come. -/
def Chip.noteReport (c : Chip) (r : CapReport) : Chip :=
  (c.onPictures (fun p => samePicture p r.stream r.frame) (fun p => { p with seen := p.seen + 1 })).onPictures
    (fun p => samePicture p r.stream r.frame && !p.hasCmd) (fun p => { p with reports := p.reports ++ [r] })

variable {n : Nat} {r : CapReport} {p : Picture}

theorem reportPassed_of_kept (hkept : c.cap.frames.any (fun f => decide (f.stream = r.stream) && decide (f.frame = r.frame)) = true) :
    c.reportPassed r =
      { c with grn := { c.grn with capEnded := c.grn.capEnded.map (fun q => if q = r then { q with passed := true } else q) } } := by
  rw [Chip.reportPassed, if_pos hkept]

/-- The report of a frame that has given its slot back is forgotten. -/
theorem reportPassed_of_alone (hended : c.grn.capEnded = [r]) (hframes : c.cap.frames = []) :
    c.reportPassed r = { c with grn := { c.grn with capEnded := [] } } := by
  simp [Chip.reportPassed, hended, hframes]

theorem sebReceive_of_known (hr : c.grn.capEnded.find? (fun r => decide (r.ctx = n) && r.isPipe && !r.passed) = some r)
    (hknown : c.pkr.pics.any (fun p => samePicture p r.stream r.frame) = true) :
    c.sebReceive n = (((c.reportPassed r).noteReport r).sebTake r).pump.forgetPictures := by
  simp only [Chip.sebReceive, hr, hknown, if_true]
  rfl

/-- A report of a picture that the packer does not know makes it known. -/
theorem sebReceive_of_unknown (hr : c.grn.capEnded.find? (fun r => decide (r.ctx = n) && r.isPipe && !r.passed) = some r)
    (hunknown : c.pkr.pics.any (fun p => samePicture p r.stream r.frame) = false) :
    let x : Chip := c.reportPassed r
    let size : Nat × Nat := pictureSize x r.stream r.frame
    let y : Chip := { x with pkr := { x.pkr with
      pics := x.pkr.pics ++ [{ stream := r.stream, frame := r.frame, w64 := size.1, h64 := size.2 }] } }
    c.sebReceive n = ((y.noteReport r).sebTake r).pump.forgetPictures := by
  simp only [Chip.sebReceive, hr, hunknown, Bool.false_eq_true, if_false]
  rfl

theorem any_command_noteReport (c : Chip) (r : CapReport) :
    (c.noteReport r).pkr.pics.any (fun p => samePicture p r.stream r.frame && p.hasCmd) =
      c.pkr.pics.any (fun p => samePicture p r.stream r.frame && p.hasCmd) := by
  rw [Chip.noteReport, any_onPictures, any_onPictures]
  · exact fun _ => rfl
  · exact fun _ => rfl

/-- A report waits while the command of its picture has not come. -/
theorem sebTake_of_no_command (h : c.pkr.pics.any (fun p => samePicture p r.stream r.frame && p.hasCmd) = false) :
    c.sebTake r = c := by
  have hnone : c.pkr.pics.filter (fun p => samePicture p r.stream r.frame && p.hasCmd) = [] :=
    List.filter_eq_nil_iff.mpr (List.any_eq_false.mp h)
  rw [Chip.sebTake, hnone]
  rfl

theorem noteReport_of_one (hpics : c.pkr.pics = [p]) (hsame : samePicture p r.stream r.frame = true) (hcmd : p.hasCmd = true) :
    c.noteReport r = { c with pkr := { c.pkr with pics := [{ p with seen := p.seen + 1 }] } } := by
  simp only [Chip.noteReport, Chip.onPictures, hpics, List.map_cons, List.map_nil, hsame, hcmd, if_true, Bool.not_true, Bool.and_false,
    Bool.false_eq_true, if_false]

theorem sebTake_of_one (hpics : c.pkr.pics = [p]) (hsame : samePicture p r.stream r.frame = true) (hcmd : p.hasCmd = true) :
    c.sebTake r = c.sebFor r p.order := by
  simp only [Chip.sebTake, hpics, List.filter_cons, hsame, hcmd, Bool.and_self, if_true, List.filter_nil, List.map_cons, List.map_nil,
    List.foldl_cons, List.foldl_nil]

/-- The buffer of a DONE context joins the picture where its header is acceptable. -/
theorem sebFor_of_accepted {h : List Byte} (hpics : c.pkr.pics = [p]) (hcmd : p.hasCmd = true) (hdropped : p.dropped = false)
    (hdone : r.state = 5) (hread : (c.blockRead (natBits r.user0 39 0) 16).1 = some h) (hok : sebHeaderOk r h = true) :
    c.sebFor r p.order =
      (c.blockRead (natBits r.user0 39 0) 16).2.onPictures (fun q => q.hasCmd && decide (q.order = p.order) && !q.dropped)
        (fun q => { q with sebs := q.sebs ++ [{ cx := r.cx, cy := r.cy, addr := natBits r.user0 39 0 }] }) := by
  simp only [Chip.sebFor, hpics, List.find?_cons, hcmd, hdropped, hdone, hread, hok, decide_true, Bool.not_false, Bool.and_self, if_true]

/-- A context that is not DONE abandons its picture. -/
theorem sebFor_of_not_done (hpics : c.pkr.pics = [p]) (hcmd : p.hasCmd = true) (hdropped : p.dropped = false) (hstate : r.state ≠ 5) :
    c.sebFor r p.order = (c.blockRead (natBits r.user0 39 0) 16).2.abandonPicture p := by
  simp only [Chip.sebFor, hpics, List.find?_cons, hcmd, hdropped, hstate, decide_true, decide_false, Bool.not_false, Bool.and_self,
    Bool.false_and, Bool.false_eq_true, if_false]

/-- The report of a picture whose command has come, the only one known, is looked at for it. -/
theorem sebReceive_of_one (hr : c.grn.capEnded.find? (fun r => decide (r.ctx = n) && r.isPipe && !r.passed) = some r)
    (hpics : c.pkr.pics = [p]) (hsame : samePicture p r.stream r.frame = true) (hcmd : p.hasCmd = true) :
    c.sebReceive n = (Chip.sebFor { c.reportPassed r with pkr := { c.pkr with pics := [{ p with seen := p.seen + 1 }] } } r
      p.order).pump.forgetPictures := by
  have hknown : c.pkr.pics.any (fun p => samePicture p r.stream r.frame) = true := by
    rw [hpics, List.any_cons, hsame, Bool.true_or]
  rw [sebReceive_of_known hr hknown, noteReport_of_one (c := c.reportPassed r) hpics hsame hcmd,
    sebTake_of_one (p := { p with seen := p.seen + 1 }) rfl hsame hcmd]
  rfl

/-! ### Statistics (R297) -/

theorem ringFull_onPictures (c : Chip) (sel : Picture → Bool) (f : Picture → Picture) (r : Nat) :
    ringFull (c.onPictures sel f) r = ringFull c r := rfl

theorem find?_picture_due {rest : List Picture} (hpics : c.pkr.pics = p :: rest) (hdone : p.done = true) (hposted : p.posted = false)
    (hport : c.pkr.port = []) :
    c.pkr.pics.find? (fun p => p.done && !p.posted &&
      !c.pkr.port.any (fun x => decide (x.stream = p.stream) && decide (x.frame = p.frame))) = some p := by
  rw [hpics, List.find?_cons_of_pos]
  simp [hdone, hposted, hport]

end

/-- Settles O18: each clause is its row's branch at the clause's hypotheses (an entry that cannot be read being passed over is log entry 53,
the check of the tokens 54, the two events of an abandoned picture 52 and the form of a slice 147). -/
theorem packerCommandsComplete : Obligations.PackerCommandsComplete := by
  refine ⟨?command, ?commandAfter, ?commandBad, ?commandUnread, ?reportWaits, ?reportFirst, ?reportDone, ?reportFaulted, ?start,
    ?startMalformed, ?coded, ?waits, ?posted, ?lost, ?stat⟩
  case command =>
    refine fun c hon hempty hread hn hrows hmax hdrop hold => becomes_run exec_pictureCommand (fun _ => rfl) ?_
    obtain ⟨bs, hbs⟩ := Option.isSome_iff_exists.mp hread
    simp only [hbs, Option.getD_some] at hn hrows hmax hdrop hold ⊢
    rw [pictureCommand_of_entry hon hempty hbs, sliceCount_good hn hrows hmax]
    exact addPicture_of_new hdrop hold
  case commandAfter =>
    refine fun c q hon hempty hread hn hrows hmax hdrop hold hwaits _ => becomes_run exec_pictureCommand (fun _ => rfl) ?_
    obtain ⟨bs, hbs⟩ := Option.isSome_iff_exists.mp hread
    simp only [hbs, Option.getD_some] at hn hrows hmax hdrop hold ⊢
    rw [pictureCommand_of_entry hon hempty hbs, sliceCount_good hn hrows hmax]
    exact addPicture_of_waiting hdrop hold hwaits
  case commandBad =>
    refine fun c hon hempty hread hn hold => becomes_run exec_pictureCommand (fun _ => rfl) ?_
    obtain ⟨bs, hbs⟩ := Option.isSome_iff_exists.mp hread
    simp only [hbs, Option.getD_some, blockReadLong_of_no_bytes] at hn hold ⊢
    rw [pictureCommand_of_entry hon hempty hbs, sliceCount_bad hn]
    simp only [if_true, blockReadLong_of_no_bytes]
    exact addPicture_of_bad hold
  case commandUnread =>
    refine fun c hon hempty hread => becomes_run exec_pictureCommand (fun _ => rfl) ?_
    simp only [Chip.pictureCommand, hon, hempty, hread, Bool.not_true, Bool.or_self, Bool.false_eq_true, if_false]
  case reportWaits =>
    intro c n r x hr hkept hknown hcmd
    refine becomes_run (exec_sebReceive n) (fun _ => rfl) ?_
    rw [sebReceive_of_known hr hknown, sebTake_of_no_command ((any_command_noteReport (c.reportPassed r) r).trans hcmd),
      reportPassed_of_kept hkept]
    rfl
  case reportFirst =>
    intro c n r x y hr hkept hunknown
    refine becomes_run (exec_sebReceive n) (fun _ => rfl) ?_
    have hcmd : y.pkr.pics.any (fun p => samePicture p r.stream r.frame && p.hasCmd) = false := by
      refine List.any_eq_false.mpr fun p hp => ?_
      rcases List.mem_append.mp hp with hp | hp
      · simp [Bool.eq_false_iff.mpr (List.any_eq_false.mp hunknown p hp)]
      · simp [List.mem_singleton.mp hp]
    rw [sebReceive_of_unknown hr hunknown, reportPassed_of_kept hkept, sebTake_of_no_command ((any_command_noteReport y r).trans hcmd)]
    rfl
  case reportDone =>
    intro c n r p h x rd hr hkept hpics hsame hcmd hdropped hstate hread hok
    refine becomes_run (exec_sebReceive n) (fun _ => rfl) ?_
    rw [sebReceive_of_one hr hpics hsame hcmd, reportPassed_of_kept hkept,
      sebFor_of_accepted (p := { p with seen := p.seen + 1 }) rfl hcmd hdropped hstate hread hok]
  case reportFaulted =>
    intro c n r p d hended hctx hpipe hpassed hstate hframes hpics hsame hcmd hdropped
    have hr : c.grn.capEnded.find? (fun r => decide (r.ctx = n) && r.isPipe && !r.passed) = some r := by
      rw [hended, List.find?_cons_of_pos]
      simp [hctx, hpipe, hpassed]
    refine becomes_run (exec_sebReceive n) (fun _ => rfl) ?_
    rw [sebReceive_of_one hr hpics hsame hcmd, reportPassed_of_alone hended hframes,
      sebFor_of_not_done (p := { p with seen := p.seen + 1 }) rfl hcmd hdropped (by omega)]
  case start =>
    intro c l p x b ts hlane hslice hseb hread hok
    refine becomes_run exec_sliceStart (fun _ => rfl) ?_
    simp only [hlane, hslice, hseb, hread, hok, if_true]
  case startMalformed =>
    intro c l p x b ts hlane hslice hseb hread hbad
    refine becomes_run exec_sliceStart (fun _ => rfl) ?_
    simp only [hlane, hslice, hseb, hread, hbad, Bool.false_eq_true, if_false]
  case coded =>
    intro c l p x ts r h hlane hcoded
    refine becomes_run (exec_sliceDone l) (fun _ => rfl) ?_
    simp only [hlane, hcoded, sliceBytes, r, h]
  case waits =>
    intro c l p x hlane hwaits
    refine becomes_run (exec_sliceDone l) (fun _ => rfl) ?_
    simp only [hlane, hwaits]
  case posted =>
    intro c p rest hpics hdone hposted hport honce hroom
    refine becomes_run exec_pictureDone (fun _ => rfl) ?_
    rw [find?_picture_due hpics hdone hposted hport]
    dsimp only
    rw [ringFull_onPictures, if_neg (Bool.eq_false_iff.mp hroom), onPictures_head hpics honce]
  case lost =>
    intro c p rest hpics hdone hposted hport honce hfull
    refine becomes_run exec_pictureDone (fun _ => rfl) ?_
    rw [find?_picture_due hpics hdone hposted hport]
    dsimp only
    rw [ringFull_onPictures, if_pos hfull, onPictures_head hpics honce]
  case stat => exact fun c hport => becomes_regRun exec_pkrStatRead (fun _ => rfl) hport rfl

end Sys2Proof.Machine
end

section
/-!
SUPPORT. The lines after every step, and what raising an event leaves of the register file.
-/
namespace Sys2Proof.Machine

/-- Settles O4: a waiting command settles the chip it leaves, and so does the nanosecond of an empty queue (log entries 4 and 10). -/
theorem everyStepLeavesTheLinesSettled : Obligations.EveryStepLeavesTheLinesSettled := by
  intro s s' h
  obtain ⟨q, c⟩ := s
  cases q with
  | nil =>
    have hs' : s' = { pending := [], chip := (Chip.tick c).settle } := (Host.Outcome.next.inj h).symm
    rw [hs']
    exact settled_settle _
  | cons i q =>
    rw [step_cons] at h
    obtain ⟨d, hd⟩ := exec_eq_next_settle i { pending := q, chip := c }
    rw [hd] at h
    have hs' : s' = { pending := q, chip := d.settle } := (Host.Outcome.next.inj h).symm
    rw [hs']
    exact settled_settle d

/-- No event is pending after reset, in either view. -/
theorem pendingOf_reset :
    pendingOf State.reset.chip (Reg.EVT_DPENDk 0) = [] ∧ pendingOf State.reset.chip (Reg.EVT_HPENDk 0) = [] := by
  decide

/-- Settles O5: no event is pending after reset, so no line is, and the GOR flag is clear as GORL is. -/
theorem resetIsSettled : Obligations.ResetIsSettled := by
  obtain ⟨hd, hh⟩ := pendingOf_reset
  refine ⟨?_, ?_, rfl⟩
  · simp only [distaffLines, linePending, hd]; rfl
  · simp only [hostLines, hh]; rfl

theorem reg_emcy_of_ne (c : Chip) (i : Nat) {a : Nat} (ha : a ≠ Reg.ODE_STAT) : (c.emcy i).reg a = c.reg a :=
  iteKeeps (fun d : Chip => d.reg a) (reg_setFld_ne c _ _ _ ha) rfl

/-- A raise writes the event's registers of both views first, and what follows it writes no register but ODE_STAT. -/
theorem reg_raiseOnly_eq (c : Chip) (i : Nat) {a : Nat} (ha : a ≠ Reg.ODE_STAT) :
    (c.raiseOnly i).reg a = ((c.setVecBit (Reg.EVT_DPENDk 0) i true).setVecBit (Reg.EVT_HPENDk 0) i true).reg a := by
  unfold Chip.raiseOnly
  generalize (c.setVecBit (Reg.EVT_DPENDk 0) i true).setVecBit (Reg.EVT_HPENDk 0) i true = d
  dsimp only
  have h : (if d.bit (Reg.EVT_ROUTEi i) 31 = true then d.emcy i else d).reg a = d.reg a :=
    iteKeeps (fun e : Chip => e.reg a) (reg_emcy_of_ne d i ha) rfl
  generalize (if d.bit (Reg.EVT_ROUTEi i) 31 = true then d.emcy i else d) = e at h ⊢
  exact iteKeeps (fun e : Chip => e.reg a) ((reg_congr (traceAdd_regs e _) a).trans h) h

/-- The registers of a vector of 256 bits. -/
theorem vecBit_setVecBit (c : Chip) (base i j : Nat) (b : Bool) :
    (c.setVecBit base i b).vecBit base j = if j = i then b else c.vecBit base j := by
  unfold Chip.setVecBit Chip.vecBit
  by_cases hr : j / 32 = i / 32
  · rw [hr, bit_setBit _ _ _ _ _ (Nat.mod_lt _ (by decide))]
    have h : j % 32 = i % 32 ↔ j = i := by omega
    simp only [h]
  · rw [bit_setBit_ne _ _ _ _ (by omega), if_neg (by omega)]

theorem vecBit_congr_reg {c d : Chip} {base j : Nat} (h : c.reg (base + 4 * (j / 32)) = d.reg (base + 4 * (j / 32))) :
    c.vecBit base j = d.vecBit base j := by
  simp only [Chip.vecBit, Chip.bit, h]

theorem vecBit_setVecBit_ne (c : Chip) {base base' i j : Nat} (b : Bool) (h : base' + 4 * (j / 32) ≠ base + 4 * (i / 32)) :
    (c.setVecBit base i b).vecBit base' j = c.vecBit base' j :=
  vecBit_congr_reg (reg_setBit_ne c _ _ h)

/-- A raise sets its own bit of the Distaff view and leaves every other bit of it (R482). -/
theorem dpend_raiseOnly (c : Chip) (i j : Fin 256) :
    (c.raiseOnly i.val).vecBit (Reg.EVT_DPENDk 0) j.val = if j = i then true else c.vecBit (Reg.EVT_DPENDk 0) j.val := by
  have hode : Reg.EVT_DPENDk 0 + 4 * (j.val / 32) ≠ Reg.ODE_STAT := by simp only [Reg.EVT_DPENDk, Reg.ODE_STAT]; omega
  have hview : Reg.EVT_DPENDk 0 + 4 * (j.val / 32) ≠ Reg.EVT_HPENDk 0 + 4 * (i.val / 32) := by
    simp only [Reg.EVT_DPENDk, Reg.EVT_HPENDk]; omega
  rw [vecBit_congr_reg (reg_raiseOnly_eq c i.val hode), vecBit_setVecBit_ne _ _ hview, vecBit_setVecBit]
  simp only [Fin.ext_iff]

/-- A raise sets its own bit of the host view and leaves every other bit of it (R482). -/
theorem hpend_raiseOnly (c : Chip) (i j : Fin 256) :
    (c.raiseOnly i.val).vecBit (Reg.EVT_HPENDk 0) j.val = if j = i then true else c.vecBit (Reg.EVT_HPENDk 0) j.val := by
  have hode : Reg.EVT_HPENDk 0 + 4 * (j.val / 32) ≠ Reg.ODE_STAT := by simp only [Reg.EVT_HPENDk, Reg.ODE_STAT]; omega
  have hview : Reg.EVT_HPENDk 0 + 4 * (j.val / 32) ≠ Reg.EVT_DPENDk 0 + 4 * (i.val / 32) := by
    simp only [Reg.EVT_DPENDk, Reg.EVT_HPENDk]; omega
  rw [vecBit_congr_reg (reg_raiseOnly_eq c i.val hode), vecBit_setVecBit, vecBit_setVecBit_ne _ _ hview]
  simp only [Fin.ext_iff]

/-- A W1C write to register k of a vector clears the bits written 1 there. -/
theorem vecBit_clear (c : Chip) (base : Nat) (k : Nat) (v : Word) (i : Nat) :
    (c.setReg (base + 4 * k) (c.reg (base + 4 * k) &&& ~~~v)).vecBit base i =
      (c.vecBit base i && (decide (i / 32 ≠ k) || !bitOf v (i % 32))) := by
  unfold Chip.vecBit
  by_cases hk : i / 32 = k
  · have hb : i % 32 < 32 := Nat.mod_lt _ (by decide)
    have h : bitOf (c.reg (base + 4 * k) &&& ~~~v) (i % 32) = (bitOf (c.reg (base + 4 * k)) (i % 32) && !bitOf v (i % 32)) := by
      rw [bitOf_and, bitOf_not v hb]
    simp only [Chip.bit, hk, reg_setReg_same, ne_eq, not_true, decide_false, Bool.false_or]
    exact h
  · rw [bit_setReg_ne _ _ _ (by omega)]
    simp [hk]

theorem dpendk_eq (k : Nat) : Reg.EVT_DPENDk k = Reg.EVT_DPENDk 0 + 4 * k := by simp only [Reg.EVT_DPENDk]
theorem hpendk_eq (k : Nat) : Reg.EVT_HPENDk k = Reg.EVT_HPENDk 0 + 4 * k := by simp only [Reg.EVT_HPENDk]

/-- A W1C write to the Distaff view clears there and leaves the host's. -/
theorem vecBit_dpendWrite (c : Chip) (k : Fin 8) (v : Word) (i : Fin 256) :
    (c.dpendWrite k.val v).vecBit (Reg.EVT_DPENDk 0) i.val =
      (c.vecBit (Reg.EVT_DPENDk 0) i.val && (decide (i.val / 32 ≠ k.val) || !bitOf v (i.val % 32))) ∧
    (c.dpendWrite k.val v).vecBit (Reg.EVT_HPENDk 0) i.val = c.vecBit (Reg.EVT_HPENDk 0) i.val := by
  have hview : Reg.EVT_HPENDk 0 + 4 * (i.val / 32) ≠ Reg.EVT_DPENDk 0 + 4 * k.val := by
    simp only [Reg.EVT_DPENDk, Reg.EVT_HPENDk]; omega
  simp only [Chip.dpendWrite, dpendk_eq k.val]
  exact ⟨vecBit_clear c _ _ v i.val, vecBit_congr_reg (reg_setReg_ne c _ hview)⟩

/-- A W1C write to the host view clears there and leaves the Distaff's. -/
theorem vecBit_hpendWrite (c : Chip) (k : Fin 8) (v : Word) (i : Fin 256) :
    (c.hpendWrite k.val v).vecBit (Reg.EVT_DPENDk 0) i.val = c.vecBit (Reg.EVT_DPENDk 0) i.val ∧
    (c.hpendWrite k.val v).vecBit (Reg.EVT_HPENDk 0) i.val =
      (c.vecBit (Reg.EVT_HPENDk 0) i.val && (decide (i.val / 32 ≠ k.val) || !bitOf v (i.val % 32))) := by
  have hview : Reg.EVT_DPENDk 0 + 4 * (i.val / 32) ≠ Reg.EVT_HPENDk 0 + 4 * k.val := by
    simp only [Reg.EVT_DPENDk, Reg.EVT_HPENDk]; omega
  have hw : (c.hpendWrite k.val v).regs =
      (c.setReg (Reg.EVT_HPENDk 0 + 4 * k.val) (c.reg (Reg.EVT_HPENDk 0 + 4 * k.val) &&& ~~~v)).regs := by
    rw [← hpendk_eq]; rfl
  exact ⟨(bit_congr hw _ _).trans (vecBit_congr_reg (reg_setReg_ne c _ hview)),
    (bit_congr hw _ _).trans (vecBit_clear c _ _ v i.val)⟩

/-- Settles O7: a raise writes one bit of each view and no other bit of either, and a W1C write of one register of one view. -/
theorem raisingSetsBothPendingBits : Obligations.RaisingSetsBothPendingBits := by
  refine ⟨?raised, ?others, ?cleared⟩
  case raised =>
    intro c i
    exact ⟨by rw [dpend_raiseOnly, if_pos rfl], by rw [hpend_raiseOnly, if_pos rfl]⟩
  case others =>
    intro c i j hij
    exact ⟨by rw [dpend_raiseOnly, if_neg hij], by rw [hpend_raiseOnly, if_neg hij]⟩
  case cleared =>
    intro c host k v q hn
    cases host with
    | false =>
      refine ⟨(c.dpendWrite k.val v).settle, by simp only [exec_evtPendClear, execEvtPendClear, run, runAny, hn]; rfl, fun i => ?_⟩
      obtain ⟨hd, hh⟩ := vecBit_dpendWrite c k v i
      exact ⟨(settle_bit _ _ _).trans (hd.trans (by simp)), (settle_bit _ _ _).trans (hh.trans (by simp))⟩
    | true =>
      refine ⟨(c.hpendWrite k.val v).settle, by simp only [exec_evtPendClear, execEvtPendClear, run, runAny, hn]; rfl, fun i => ?_⟩
      obtain ⟨hd, hh⟩ := vecBit_hpendWrite c k v i
      exact ⟨(settle_bit _ _ _).trans (hd.trans (by simp)), (settle_bit _ _ _).trans (hh.trans (by simp))⟩

end Sys2Proof.Machine
end

section
/-!
SUPPORT. A dictionary access that a stook held may step the Timebase in the nanosecond that ends the hold.
-/
namespace Sys2Proof.Machine

/-- In SERVICE, with debug level 3 on the Ethernet port, the engine holds a write of 0x5F20 of an open session that writes DBG_DBM_CTL: the
Debug Bus Master is to write TIME_ADJCTL with TAG 2 and GO, and TIME_ADJ holds 1 ms, the step threshold. -/
def heldDebugChip : Chip where
  regs := [(Reg.SYS_MODE, 5), (Reg.SPIN_STAT, 0x80000000), (Reg.TIME_ADJ_LO, 1000000), (Reg.DBG_DBM_ADDR_LO, 0x21200018),
    (Reg.DBG_DBM_DATA, 5)]
  domains := [.mesh]
  su := { sessions := [(0, { isOpen := true, nc := [], ns := [], key := [], since := 0 })] }
  dbg := { ports := [(2, { level := 3 })] }
  od := { jobs := [.write (some 0) true 0x5F20 0 (leBytes 8 0x1002008A000000)] }

/-- The nanosecond counts, and then the access that goes on sets the Timebase back by 1 ms. -/
theorem now_tick_heldDebugChip : (Chip.tick heldDebugChip).time.now = BitVec.ofInt 64 (1 - 1000000) := by decide +kernel

/-- Refutes O2: a nanosecond also lets the dictionary accesses go on that a stook held (R322, log entry 3), and one of them, a debug
access (R536), may adjust the time. In `heldDebugChip` the Timebase, untrimmed and at 0, is set back instead of counting to 1. -/
theorem not_emptyQueuePassesANanosecond : ¬ Obligations.EmptyQueuePassesANanosecond := by
  intro h
  obtain ⟨c', hstep, -, hnow⟩ := h heldDebugChip
  have hmodel : step { pending := [], chip := heldDebugChip } = .next { pending := [], chip := (Chip.tick heldDebugChip).settle } := rfl
  have hc' : c' = (Chip.tick heldDebugChip).settle := by
    have hs := hstep.symm.trans hmodel
    simpa only [Host.Outcome.next.injEq, State.mk.injEq, true_and] using hs
  have hone := hnow rfl rfl
  rw [hc', settle_time, now_tick_heldDebugChip] at hone
  exact absurd hone (by decide)

end Sys2Proof.Machine
end

section
/-!
SUPPORT. The Timebase.
-/
namespace Sys2Proof.Machine

/-- An update of the source in use steps the Timebase where its offset reaches the threshold (R420). -/
theorem timeUpdate_of_step {c : Chip} {src : Nat} {e : Int} (hf : followsManager c = false)
    (hu : sourceUsed { c with time := { c.time with last := mapSet 0 c.time.last src (c.ns + 1) } } src = true)
    (ha : timeActive c = src) (he : (c.reg Reg.TIME_STEP_TH).toNat * 1000 ≤ e.natAbs) :
    c.timeUpdate src e = Chip.timeStepBy { c with time := { c.time with last := mapSet 0 c.time.last src (c.ns + 1) } } e := by
  unfold Chip.timeUpdate
  simp only [hf, hu, Bool.not_true, Bool.false_eq_true, if_false]
  rw [if_pos (show timeActive { c with time := { c.time with last := mapSet 0 c.time.last src (c.ns + 1) } } = src from ha)]
  exact if_pos he

/-- An update of the source in use trims the Timebase where its offset stays below the threshold (R420). -/
theorem timeUpdate_of_trim {c : Chip} {src : Nat} {e : Int} (hf : followsManager c = false)
    (hu : sourceUsed { c with time := { c.time with last := mapSet 0 c.time.last src (c.ns + 1) } } src = true)
    (ha : timeActive c = src) (he : e.natAbs < (c.reg Reg.TIME_STEP_TH).toNat * 1000) :
    c.timeUpdate src e = Chip.timeTrim { c with time := { c.time with last := mapSet 0 c.time.last src (c.ns + 1) } } src e := by
  unfold Chip.timeUpdate
  simp only [hf, hu, Bool.not_true, Bool.false_eq_true, if_false]
  rw [if_pos (show timeActive { c with time := { c.time with last := mapSet 0 c.time.last src (c.ns + 1) } } = src from ha)]
  exact if_neg (Nat.not_le.mpr he)

/-- The TAG of a write of TIME_ADJCTL whose fields are GO and TAG. -/
theorem adjctl_tag (tag : BitVec 2) : natBits (1 + 2 * tag.toNat) 2 1 = tag.toNat := by
  revert tag; decide

theorem adjctl_go (tag : BitVec 2) : (1 + 2 * tag.toNat).testBit 0 = true := by
  revert tag; decide

/-- Settles O10: each row is its command's case; a TAG other than 2 is ignored (log entry 79). -/
theorem timeCommandsComplete : Obligations.TimeCommandsComplete := by
  refine ⟨?steps, ?trims, ?adjusts, ?ignored, ?missed, ?wraps, ?read, ?xtal⟩
  case steps =>
    intro c d e hf ha hu he
    exact becomes_run exec_ppsEdge (fun _ => rfl) (timeUpdate_of_step hf hu ha he)
  case trims =>
    intro c d e hf ha hu he
    exact becomes_run exec_ppsEdge (fun _ => rfl) (timeUpdate_of_trim hf hu ha he)
  case adjusts =>
    intro c d
    exact becomes_run (exec_timeAdjGo 2) (fun _ => rfl) rfl
  case ignored =>
    intro c tag htag
    have hne : natBits (1 + 2 * tag.toNat) 2 1 ≠ 2 := by
      rw [adjctl_tag]
      exact fun h => htag (BitVec.eq_of_toNat_eq h)
    exact becomes_run (exec_timeAdjGo tag) (fun _ => rfl) (if_pos hne)
  case missed =>
    intro c hs hf hfresh
    exact becomes_run exec_timeSourceTimeout (fun _ => rfl) (if_pos ⟨hs, by rw [hf]; rfl, by rw [hfresh]; rfl⟩)
  case wraps =>
    intro c h
    exact becomes_run exec_timebaseWrap (fun _ => rfl) (if_pos h)
  case read =>
    intro c
    exact becomes_run exec_timeNowRead (fun _ => rfl) rfl
  case xtal =>
    intro c h
    exact becomes_runAny exec_xtalFail (fun _ => rfl) (if_neg (by rw [h]; decide))

end Sys2Proof.Machine
end

section
/-!
SUPPORT. Resets, the capsule and the supply.
-/
namespace Sys2Proof.Machine

/-- Settles O24: each row is its command's case. A second cause during a capsule is ignored (log entry 71), and OUT and the supply's time
follow the rails (log entry 165). -/
theorem resetAndSupplyCommandsComplete : Obligations.ResetAndSupplyCommandsComplete := by
  refine ⟨?fall, ?swReset, ?debugReset, ?endsForSupply, ?endsElse, ?recovered, ?recoveredEarly, ?pfWarn, ?external, ?powerOn, ?warn,
    ?returns, ?distaffClear, ?hostClear⟩
  case fall =>
    intro c
    exact becomes_runAny exec_vinSenseFall (fun _ => rfl) rfl
  case swReset =>
    intro c
    exact becomes_run exec_swReset (fun _ => rfl) rfl
  case debugReset =>
    intro c hport
    exact becomes_run exec_debugReset (fun _ => rfl) (if_pos hport)
  case endsForSupply =>
    intro c k d e hk hend hcause
    exact becomes_run exec_capsuleComplete (fun _ => rfl) (by
      simp only [Chip.capsuleComplete, hk, hend, Bool.false_eq_true, if_false, hcause, if_true]; rfl)
  case endsElse =>
    intro c k d e f hk hend hcause
    exact becomes_run exec_capsuleComplete (fun _ => rfl) (by
      simp only [Chip.capsuleComplete, hk, hend, Bool.false_eq_true, if_false, hcause]; rfl)
  case recovered =>
    intro c k hk hend hcause
    exact becomes_runAny exec_vinRecovered (fun _ => rfl) (by simp only [hk, hend, hcause, decide_true, Bool.and_self, if_true])
  case recoveredEarly =>
    intro c hk
    exact becomes_runAny exec_vinRecovered (fun _ => rfl) (by simp only [hk])
  case pfWarn =>
    intro c
    exact becomes_runAny exec_pfWarn (fun _ => rfl) rfl
  case external =>
    intro c
    exact becomes_runAny exec_externalReset (fun _ => rfl) rfl
  case powerOn =>
    intro c m d
    exact becomes_runAny (exec_aonPowerOn m) (fun _ => rfl) rfl
  case warn =>
    intro c r hin hwatched
    exact becomes_runAny (exec_supplyWarn r) (fun _ => rfl) (if_neg (by rw [hin, hwatched]; decide))
  case returns =>
    intro c r hout
    exact becomes_runAny (exec_supplyReturn r) (fun _ => rfl) (if_neg (by rw [hout]; decide))
  case distaffClear =>
    intro c k v
    exact becomes_run (exec_evtPendClear false k v) (fun _ => rfl) rfl
  case hostClear =>
    intro c k v
    exact becomes_run (exec_evtPendClear true k v) (fun _ => rfl) rfl

end Sys2Proof.Machine
end

section
/-!
SUPPORT. The lifetime records.
-/
namespace Sys2Proof.Machine

/-- Before the load a count is held (R565). -/
theorem lifeAdd_of_unready {c : Chip} (h : c.bit Reg.LIFE_STAT 31 = false) (key : Nat) :
    c.lifeAdd key 1 = { c with life := { c.life with held := c.life.held ++ [(key, 1)] } } := by
  simp only [Chip.lifeAdd, h, Bool.not_false, Bool.true_or, if_true, Nat.one_ne_zero, if_false]

/-- While no snapshot is copied a count is applied (R563). -/
theorem lifeAdd_of_ready {c : Chip} (h : c.bit Reg.LIFE_STAT 31 = true) (hs : c.bit Reg.LIFE_SNAP 30 = false) (key : Nat) :
    c.lifeAdd key 1 = c.lifeApply key 1 := by
  simp only [Chip.lifeAdd, h, hs, Bool.not_true, Bool.or_self, Bool.false_eq_true, if_false, Nat.one_ne_zero]

/-- A sample that is due counts its bin (R562). -/
theorem histogramSample_becomes {c c' : Chip} {h : Fin 5} {b : Nat} (hb : sampleBin c h.val = some b) (hm : c.isOn .mesh = true)
    (hdue : mapGet 0 c.life.sampledAt h.val + (if h.val < 2 then 60000000000 else 1000000000) ≤ c.ns)
    (hc' : Chip.lifeAdd { c with life := { c.life with sampledAt := mapSet 0 c.life.sampledAt h.val c.ns } } (4096 + 14 * h.val + b) 1 =
      c') : Becomes (.histogramSample h) c c' := by
  have hd : sampleDue c h.val = true := by rw [sampleDue, hm, decide_eq_true hdue]; rfl
  exact becomes_run (exec_histogramSample h) (fun _ => rfl) (by
    simp only [hd, Bool.not_true, Bool.false_eq_true, if_false, hb]
    exact hc')

/-- Settles O22: each row is its command's case; the flush is one step (log entry 68), TAKE latches the present TAI (log entry 69), and
a sample needs a fresh reading (log entry 70). -/
theorem lifetimeCommandsComplete : Obligations.LifetimeCommandsComplete := by
  refine ⟨?periodic, ?now, ?sampleHeld, ?sampleApplied, ?sampleEarly, ?load, ?take, ?takeBusy, ?done⟩
  case periodic =>
    intro c hm hs hdue
    have h : (lifeMayFlush c && decide (c.life.flushAt + 1000000000 * Nat.max 60 (c.fld Reg.LIFE_FLUSH 16 0) ≤ c.ns)) = true := by
      rw [lifeMayFlush, hm, hs, decide_eq_true hdue]; rfl
    exact becomes_run exec_lifeFlushPeriodic (fun _ => rfl) (if_pos h)
  case now =>
    intro c hm hs hready
    have h : lifeMayFlush c = true := by rw [lifeMayFlush, hm, hs]; rfl
    exact becomes_run exec_lifeFlushNow (fun _ => rfl) (by
      rw [if_pos h]
      simp only [Chip.lifeFlush, hready, if_true])
  case sampleHeld =>
    intro c h b hb hm hdue hunready
    exact histogramSample_becomes hb hm hdue (lifeAdd_of_unready
      (c := { c with life := { c.life with sampledAt := mapSet 0 c.life.sampledAt h.val c.ns } }) hunready _)
  case sampleApplied =>
    intro c h b hb hm hdue hready hsnap
    exact histogramSample_becomes hb hm hdue (lifeAdd_of_ready
      (c := { c with life := { c.life with sampledAt := mapSet 0 c.life.sampledAt h.val c.ns } }) hready hsnap _)
  case sampleEarly =>
    intro c h hearly
    have hd : sampleDue c h.val = false := by
      rw [sampleDue, decide_eq_false (Nat.not_le.mpr hearly), Bool.and_false]
    exact becomes_run (exec_histogramSample h) (fun _ => rfl) (if_pos (by rw [hd]; rfl))
  case load =>
    intro c hready hunloaded
    exact becomes_run exec_lifeLoad (fun _ => rfl) (if_pos (by rw [hready, hunloaded]; rfl))
  case take =>
    intro c hsnap
    exact becomes_run exec_lifeSnapTake (fun _ => rfl) (if_neg (by rw [hsnap]; decide))
  case takeBusy =>
    intro c hsnap
    exact becomes_run exec_lifeSnapTake (fun _ => rfl) (if_pos hsnap)
  case done =>
    intro c e d hsnap
    exact becomes_run exec_snapshotDone (fun _ => rfl) (if_neg (by rw [hsnap]; decide))

end Sys2Proof.Machine
end

section
/-!
SUPPORT. The Silo's reports and the Transaction Unit's commands.
-/
namespace Sys2Proof.Machine

/-- A command of the Transaction Unit acts while the Silo is on and no capsule has started (R379, R388). -/
theorem txCmd_of_serving {c : Chip} (hon : c.isOn .silo = true) (hcap : c.silo.capsule = none) (op : Nat) :
    c.txCmd op = match op with
      | 1 => c.txOpen
      | 2 => c.txStageEntry (txEntRegs c)
      | 3 => c.txCommit
      | 4 => c.txAbort
      | _ => c.txResult 1 := by
  unfold Chip.txCmd
  exact if_neg (by rw [hon, hcap]; decide)

theorem txStageEntry_of_open {c : Chip} (ho : txState c = 1) (e : TxEntry) :
    c.txStageEntry e =
      if 4096 ≤ c.fld Reg.SILO_TXSTAT 12 0 then c.txResult 4
      else if txEntryOk e then
        ((c.siloTurn.siloPut (txEntryOffset (c.fld Reg.SILO_TXSTAT 12 0)) e).setFld Reg.SILO_TXSTAT 12 0
          (c.fld Reg.SILO_TXSTAT 12 0 + 1)).txResult 0
      else c.txResult 5 := by
  simp only [Chip.txStageEntry, ho]

/-- The journal shows FULL where its first waiting write does not fit (R374). -/
theorem noteFull_of_waiting {c : Chip} {w : JWrite} {rest : List JWrite} (hw : c.silo.waiting = w :: rest) :
    c.noteFull = if !entryFits c w.typ && !c.bit Reg.SILO_STAT 30 then (c.setBit Reg.SILO_STAT 30 true).raise 36
      else c.setBit Reg.SILO_STAT 30 (!entryFits c w.typ) := by
  simp only [Chip.noteFull, hw]

/-- A condition on the time that a value may hold, at a value that is there. -/
theorem le_of_all_le {o : Option Nat} {n k t : Nat} (ho : o = some t) (h : o.all (fun t => decide (t + k ≤ n)) = true) : t + k ≤ n := by
  subst ho
  exact of_decide_eq_true h

/-- Settles O21: each row is its command's case. The scan checks every grain first (log entry 27), a waiting write goes on where it fits
(log entry 57), and a transaction command of a Silo that does not serve is ignored (log entry 67). -/
theorem siloAndTransactionCommandsComplete : Obligations.SiloAndTransactionCommandsComplete := by
  refine ⟨?progress, ?progressEarly, ?freed, ?stillFull, ?ceRead, ?scan, ?opens, ?openTwice, ?stages, ?stageBad, ?stageFull, ?commits,
    ?commitEmpty, ?aborts, ?badOp⟩
  case progress =>
    intro c hrep hat hcap
    refine becomes_run exec_progressEntry (fun _ => rfl) ?_
    cases hp : c.silo.progAt with
    | none => simp only [hrep, hcap, Bool.not_true, Bool.or_self, Option.isSome_none, Bool.false_eq_true, if_false, Chip.askProgress]
    | some t =>
      have hlate : ¬c.ns < t + 250000000 := Nat.not_lt.mpr (le_of_all_le hp hat)
      simp only [hrep, hcap, decide_eq_false hlate, Bool.not_true, Bool.or_self, Option.isSome_none, Bool.false_eq_true, if_false,
        Chip.askProgress]
  case progressEarly =>
    intro c t ht hearly
    refine becomes_run exec_progressEntry (fun _ => rfl) ?_
    simp only [ht, decide_eq_true hearly, Bool.or_true, Bool.true_or, if_true]
  case freed =>
    intro c w rest d hw hfits
    refine becomes_run exec_journalSpaceFreed (fun _ => rfl) ((noteFull_of_waiting hw).trans ?_)
    rw [hfits]; rfl
  case stillFull =>
    intro c w rest d hw hfits
    refine becomes_run exec_journalSpaceFreed (fun _ => rfl) ((noteFull_of_waiting hw).trans ?_)
    rw [hfits, Bool.not_false, Bool.true_and]
    cases hb : d.bit Reg.SILO_STAT 30 with
    | false => rw [Bool.not_false, if_pos rfl, if_neg Bool.false_ne_true]
    | true => rw [Bool.not_true, if_neg Bool.false_ne_true, if_pos rfl]
  case ceRead =>
    intro c hp
    exact becomes_regRun exec_siloCeRead (fun _ => rfl) hp rfl
  case scan =>
    intro c e n d hon hready
    exact becomes_run exec_siloScan (fun _ => rfl) (if_pos (by rw [hon, hready]; rfl))
  case opens =>
    intro c hp hon hcap hs
    exact becomes_regRun exec_txOpen (fun _ => rfl) hp ((txCmd_of_serving hon hcap 1).trans (by simp only [Chip.txOpen, hs]; rfl))
  case openTwice =>
    intro c hp hon hcap hs
    exact becomes_regRun exec_txOpen (fun _ => rfl) hp ((txCmd_of_serving hon hcap 1).trans (by simp only [Chip.txOpen, hs]; rfl))
  case stages =>
    intro c hp hon hcap hs hroom hok
    exact becomes_regRun exec_txStage (fun _ => rfl) hp ((txCmd_of_serving hon hcap 2).trans ((txStageEntry_of_open hs _).trans (by
      rw [if_neg (Nat.not_le.mpr hroom), if_pos hok]; rfl)))
  case stageBad =>
    intro c hp hon hcap hs hroom hok
    exact becomes_regRun exec_txStage (fun _ => rfl) hp ((txCmd_of_serving hon hcap 2).trans ((txStageEntry_of_open hs _).trans (by
      rw [if_neg (Nat.not_le.mpr hroom), hok]; rfl)))
  case stageFull =>
    intro c hp hon hcap hs hfull
    exact becomes_regRun exec_txStage (fun _ => rfl) hp ((txCmd_of_serving hon hcap 2).trans ((txStageEntry_of_open hs _).trans (by
      rw [if_pos hfull]; rfl)))
  case commits =>
    intro c r d hp hon hcap hs hn hmode
    exact becomes_regRun exec_txCommit (fun _ => rfl) hp ((txCmd_of_serving hon hcap 3).trans (by
      simp only [Chip.txCommit, hs, hn, hmode, if_false, Bool.not_true, Bool.false_eq_true]; rfl))
  case commitEmpty =>
    intro c hp hon hcap hs hn
    exact becomes_regRun exec_txCommit (fun _ => rfl) hp ((txCmd_of_serving hon hcap 3).trans (by
      simp only [Chip.txCommit, hs, hn, if_true]; rfl))
  case aborts =>
    intro c hp hon hcap hs
    exact becomes_regRun exec_txAbort (fun _ => rfl) hp ((txCmd_of_serving hon hcap 4).trans (by simp only [Chip.txAbort, hs]; rfl))
  case badOp =>
    intro c op hp hon hcap hop
    refine becomes_regRun (exec_txBadOp op) (fun _ => rfl) hp ((txCmd_of_serving hon hcap op.val).trans ?_)
    have h1 : op.val ≠ 1 := by omega
    have h2 : op.val ≠ 2 := by omega
    have h3 : op.val ≠ 3 := by omega
    have h4 : op.val ≠ 4 := by omega
    split
    · contradiction
    · contradiction
    · contradiction
    · contradiction
    · rfl

end Sys2Proof.Machine
end

section
/-!
SUPPORT. Stooks.
-/
namespace Sys2Proof.Machine

/-- A list of what the numbers below n give is what the one that gives something gives. -/
theorem flatMap_range_of_single {α : Type} (f : Nat → List α) {d n : Nat} (hd : d < n) (h : ∀ x, x ≠ d → f x = []) :
    (List.range n).flatMap f = f d := by
  induction n with
  | zero => omega
  | succ n ih =>
    rw [List.range_succ, List.flatMap_append, List.flatMap_singleton]
    by_cases hn : n = d
    · have hnil : (List.range n).flatMap f = [] := by
        rw [List.flatMap_eq_nil_iff]
        intro x hx
        exact h x (by have := List.mem_range.mp hx; omega)
      rw [hnil, List.nil_append, hn]
    · rw [h n hn, List.append_nil, ih (by omega)]

theorem filterMap_range_of_single {α : Type} (f : Nat → Option α) {d n : Nat} {a : α} (hd : d < n) (ha : f d = some a)
    (h : ∀ x, x ≠ d → f x = none) : (List.range n).filterMap f = [a] := by
  rw [List.filterMap_eq_flatMap_toList, flatMap_range_of_single _ hd (fun x hx => by rw [h x hx]; rfl), ha]
  rfl

/-- The map of a gang of the manager and device d. -/
theorem testBit_pairMap {d : Nat} (h1 : 1 ≤ d) (h16 : d < 16) : (1 + 2 ^ d).testBit d = true := by
  interval_cases d <;> decide

/-- In that map every worker is one whose ring was read. -/
theorem pairMap_all_read {d : Nat} (h1 : 1 ≤ d) (h16 : d < 16) :
    (List.range 16).any (fun x => decide (1 ≤ x) && (1 + 2 ^ d).testBit x && !(d == x)) = false := by
  interval_cases d <;> decide

theorem bitsOfFn_beq {d : Nat} (h16 : d < 16) : bitsOfFn (fun x => d == x) 16 = 2 ^ d := by
  interval_cases d <;> decide

theorem pairMap_mod {d : Nat} (h16 : d < 16) (h1 : 1 ≤ d) : (1 + 2 ^ d) % 2 ^ 16 = 1 + 2 ^ d := by
  interval_cases d <;> decide

/-! ### The system stook -/

/-- The workers' rings that the manager has read, and can reach (R523). -/
def readRings (c : Chip) (stooks : List (Nat × List (List Byte))) : List (Nat × List (List Byte)) :=
  stooks.filter (fun e => decide (1 ≤ e.1) && (c.spin.map &&& reachMask c).testBit e.1)
/-- Their stooks that no system stook covers, by device and COUNTER (R524). -/
def freshStooks (c : Chip) (stooks : List (Nat × List (List Byte))) : List (Nat × List Byte) :=
  (List.range 16).flatMap (fun d => (byCounter (((readRings c stooks).filter (fun e => e.1 == d)).flatMap (fun e =>
    e.2.filter (fun r => decide (mapGet 0 c.ev.sysCov d ≤ recNat r 8 8))))).map (fun r => (d, r)))
/-- The coverage of a system stook over them (R524). -/
def freshBound (c : Chip) (fresh : List (Nat × List Byte)) : List (Nat × Nat) :=
  (List.range 16).filterMap (fun d =>
    let n := (fresh.filter (fun r => r.1 == d)).foldl (fun m r => Nat.max m (recNat r.2 8 8 + 1)) (mapGet 0 c.ev.sysCov d)
    if n = 0 then none else some (d, n))
/-- Is a worker of the map missing among the rings (R525)? -/
def ringMissing (c : Chip) (stooks : List (Nat × List (List Byte))) : Bool :=
  (List.range 16).any (fun d => decide (1 ≤ d) && c.spin.map.testBit d && !(readRings c stooks).any (fun e => e.1 == d))
/-- The system stook is no longer due. -/
def Chip.sysServed (c : Chip) : Chip := { c with ev := { c.ev with sysDue := false, sysStep := false } }

/-- The manager may sign a system stook now (R523). -/
structure SignsSystem (c : Chip) : Prop where
  due     : c.ev.sysDue = true
  ownDone : c.ev.due = false
  free    : stookFree c = true
  notHeld : sealHeld c = false
  device  : c.deviceNo = 0
  manager : c.bit Reg.SPIN_STAT 31 = true
  alone   : c.spin.gang = false

/-- What the manager signs over the rings that were read (R523 to R525). -/
def Chip.signSystem (c : Chip) (stooks : List (Nat × List (List Byte))) : Chip :=
  let fresh := freshStooks c stooks
  if fresh.isEmpty then c.sysServed else
  let times := fresh.map (fun r => recNat r.2 0x10 8)
  let m := (c.sysServed.raiseIf (ringMissing c stooks) 231).recordMode
  m.2.startStook
    { kind := 2, mode := m.1, taint := fresh.any (fun r => (recNat r.2 5 1).testBit 0)
      count := fresh.length, first := leastOf times, last := greatestOf times
      streams := c.spin.map % 2 ^ 16 + 2 ^ 16 * bitsOfFn (fun d => (readRings c stooks).any (fun e => e.1 == d)) 16
      sflags := (if fresh.any (fun r => (recNat r.2 0x2E 2).testBit 2) then 4 else 0) + (if c.ev.sysStep then 8 else 0)
      root := merkle (fresh.map (fun r => sha r.2)), bound := freshBound c fresh }

theorem execSystemStook_eq (stooks : List (Nat × List (List Byte))) (s : State) :
    execSystemStook stooks s = run (fun c =>
      if !c.ev.sysDue || c.ev.due || !stookFree c || sealHeld c || decide (c.deviceNo ≠ 0) || !c.bit Reg.SPIN_STAT 31 ||
        c.spin.gang then c else c.signSystem stooks) s := rfl

/-- What the row does where the manager may sign. -/
theorem systemStook_becomes {c c' : Chip} {stooks : List (Nat × List (List Byte))} (h : SignsSystem c)
    (hc' : c.signSystem stooks = c') : Becomes (.systemStook stooks) c c' := by
  obtain ⟨hdue, hown, hfree, hheld, hdev, hmgr, halone⟩ := h
  refine becomes_run (exec_systemStook stooks) (execSystemStook_eq stooks) ?_
  rw [hdue, hown, hfree, hheld, hdev, hmgr, halone]
  exact hc'

/-- No stook is new where every one read is below its device's coverage. -/
theorem freshStooks_of_covered {c : Chip} {stooks : List (Nat × List (List Byte))}
    (h : stooks.all (fun e => e.2.all (fun r => decide (recNat r 8 8 < mapGet 0 c.ev.sysCov e.1))) = true) :
    freshStooks c stooks = [] := by
  have hd : ∀ d : Nat, ((readRings c stooks).filter (fun e => e.1 == d)).flatMap (fun e =>
      e.2.filter (fun r => decide (mapGet 0 c.ev.sysCov d ≤ recNat r 8 8))) = [] := by
    intro d
    rw [List.flatMap_eq_nil_iff]
    intro e he
    obtain ⟨hread, hed⟩ := List.mem_filter.mp he
    have hall := List.all_eq_true.mp h e (List.mem_filter.mp hread).1
    rw [List.filter_eq_nil_iff]
    intro r hr hle
    have hlt := of_decide_eq_true (List.all_eq_true.mp hall r hr)
    rw [beq_iff_eq.mp hed] at hlt
    exact Nat.not_le.mpr hlt (of_decide_eq_true hle)
  unfold freshStooks
  simp only [hd]
  rfl

/-- Settles O20: each row is its command's case. A due stook waits for what holds the engine, and a recovery stook of an unknown mode takes
a free one (log entry 55). -/
theorem stookCommandsComplete : Obligations.StookCommandsComplete := by
  refine ⟨?waits, ?none, ?signs, ?behind, ?recovers, ?systemNone, ?systemOne⟩
  case waits =>
    intro c d htakes hheld hdue hbusy
    refine becomes_run exec_stookDue (fun _ => rfl) ?_
    simp only [htakes, hheld, hdue, decide_true, Bool.true_or, Bool.not_true, Bool.or_self, Bool.false_eq_true, if_false, if_true]
    exact if_pos (by rw [hbusy]; rfl)
  case none =>
    intro c htakes hheld hearly hdue hfree hnone
    have hnot : ¬c.ev.dueAt ≤ c.tai.toNat := Nat.not_le.mpr hearly
    refine becomes_run exec_stookDue (fun _ => rfl) ?_
    simp only [htakes, hheld, hnot, hdue, hfree, hnone, decide_false, Bool.not_true, Bool.and_false, Bool.or_self, Bool.false_eq_true,
      if_false, List.isEmpty_nil, if_true]
  case signs =>
    intro c htakes hheld hearly hdue hfree hsome hmode
    have hnot : ¬c.ev.dueAt ≤ c.tai.toNat := Nat.not_le.mpr hearly
    have hne : (coveredBy c c.ev.dueNext).isEmpty = false := by rw [List.isEmpty_eq_false_iff]; exact hsome
    have hrec : Chip.recordMode { c with ev := { c.ev with due := false, timeStep := false } } =
        (c.fld Reg.SYS_MODE 7 0, { c with ev := { c.ev with due := false, timeStep := false } }) := recordMode_of_lt hmode
    refine becomes_run exec_stookDue (fun _ => rfl) ?_
    simp only [htakes, hheld, hnot, hdue, hfree, hne, hrec, decide_false, Bool.not_true, Bool.and_false, Bool.or_self,
      Bool.false_eq_true, if_false]
  case behind =>
    intro c hrec hnew hfree hlt
    refine becomes_run exec_recoveryStook (fun _ => rfl) ?_
    simp only [hrec, hnew, hfree, hlt, Bool.not_true, Bool.or_self, Bool.false_eq_true, if_false, if_true]
  case recovers =>
    intro c k hrec hnew hfree hle hloss hk
    have hnot : ¬sealCounter c 0 < c.ev.stookCtr := Nat.not_lt.mpr hle
    refine becomes_run exec_recoveryStook (fun _ => rfl) ?_
    simp only [hrec, hnew, hfree, hnot, hloss, hk, Bool.not_true, Bool.or_self, Bool.false_eq_true, if_false, if_true]
  case systemNone =>
    intro c stooks hdue hown hfree hheld hdev hmgr halone hcovered
    refine systemStook_becomes ⟨hdue, hown, hfree, hheld, hdev, hmgr, halone⟩ ?_
    simp only [Chip.signSystem, freshStooks_of_covered hcovered, List.isEmpty_nil, if_true]
    rfl
  case systemOne =>
    intro c d r hdue hown hfree hheld hdev hmgr halone h1 h16 hreach hcov hmap hstep htemp hmode
    have hread : readRings c [(d, [r])] = [(d, [r])] := by
      simp only [readRings, List.filter_cons, List.filter_nil, hmap, Nat.testBit_and, testBit_pairMap h1 h16, hreach, h1, decide_true,
        Bool.and_self, if_true]
    have hfresh : freshStooks c [(d, [r])] = [(d, r)] := by
      simp only [freshStooks, hread]
      rw [flatMap_range_of_single _ h16 (fun x hx => ?other)]
      case other =>
        have hne : (d == x) = false := beq_false_of_ne (fun h => hx h.symm)
        simp only [List.filter_cons, List.filter_nil, hne, Bool.false_eq_true, if_false]
        rfl
      simp only [List.filter_cons, List.filter_nil, beq_self_eq_true, if_true, hcov]
      rfl
    have hbound : freshBound c [(d, r)] = [(d, recNat r 8 8 + 1)] := by
      refine filterMap_range_of_single _ h16 ?_ (fun x hx => ?_)
      · simp only [List.filter_cons, List.filter_nil, beq_self_eq_true, if_true, hcov, List.foldl_cons, List.foldl_nil]
        simp [mapGet]
      · have hne : (d == x) = false := beq_false_of_ne (fun h => hx h.symm)
        simp only [List.filter_cons, List.filter_nil, hne, Bool.false_eq_true, if_false, hcov, List.foldl_nil]
        rfl
    have hmissing : ringMissing c [(d, [r])] = false := by
      simp only [ringMissing, hread, hmap, List.any_cons, List.any_nil, Bool.or_false]
      exact pairMap_all_read h1 h16
    have hstreams : bitsOfFn (fun x => (readRings c [(d, [r])]).any (fun e => e.1 == x)) 16 = 2 ^ d := by
      simp only [hread, List.any_cons, List.any_nil, Bool.or_false]
      exact bitsOfFn_beq h16
    have hrec : c.sysServed.recordMode = (c.fld Reg.SYS_MODE 7 0, c.sysServed) := recordMode_of_lt hmode
    refine systemStook_becomes ⟨hdue, hown, hfree, hheld, hdev, hmgr, halone⟩ ?_
    simp only [Chip.signSystem, hfresh, hbound, hmissing, hstreams, hmap, pairMap_mod h16 h1, hstep, htemp, List.isEmpty_cons, Bool.false_eq_true, if_false,
      Chip.raiseIf, hrec, List.map_cons, List.map_nil, List.any_cons, List.any_nil, Bool.or_false, List.length_cons, List.length_nil,
      leastOf, greatestOf, List.foldl_cons, List.foldl_nil, Nat.max_eq_max, Nat.zero_max, Nat.zero_add, Nat.add_zero]
    rfl

end Sys2Proof.Machine
end

section
/-!
SUPPORT. What a flush of the lifetime records and a switch-off of the domains leave of the power controller.
-/
namespace Sys2Proof.Machine

/-- A view of the chip that a write of the Silo leaves: it depends neither on what an event changes nor on memory and its check bits. -/
structure StoreBlind {β : Type} (f : Chip → β) : Prop extends RaiseBlind f where
  mem : ∀ (d : Chip) (x : List Host.Cell), f { d with mem := x } = f d
  ecc : ∀ (d : Chip) (x : List (Nat × Ecc)), f { d with ecc := x } = f d

section
variable {β : Type} {f : Chip → β}

theorem siloWear_keeps (h : RaiseBlind f) (c : Chip) (off : Nat) : f (c.siloWear off) = f c :=
  (raiseIf_keeps h _ _ _).trans (lifeAdd_keeps h _ _ _)

theorem siloCheckWord_keeps (h : StoreBlind f) (c : Chip) (a : Nat) : f (c.siloCheckWord a).2 = f c := by
  unfold Chip.siloCheckWord
  split
  · rfl
  · refine (siloWear_keeps h.toRaiseBlind _ _).trans ((lifeAdd_keeps h.toRaiseBlind _ _ _).trans
      ((raiseIf_keeps h.toRaiseBlind _ _ _).trans ((h.regs _ _).trans (h.ecc _ _))))
  · dsimp only
    refine (lifeAdd_keeps h.toRaiseBlind _ _ _).trans ((raise_keeps h.toRaiseBlind _ _).trans ?_)
    split
    · rfl
    · exact h.regs _ _

theorem siloCheckWords_keeps (h : StoreBlind f) (l : List Nat) (c : Chip) : f (c.siloCheckWords l).2 = f c := by
  induction l generalizing c with
  | nil => rfl
  | cons a rest ih => exact (ih _).trans (siloCheckWord_keeps h c a)

theorem wrBytes_keeps (h : StoreBlind f) (c : Chip) (a : Nat) (bs : List Byte) : f (c.wrBytes a bs) = f c := by
  induction bs generalizing c a with
  | nil => rfl
  | cons b rest ih => exact (ih _ _).trans (h.mem _ _)

theorem siloWriteGrain_keeps (h : StoreBlind f) (c : Chip) (off : Nat) (bs : List Byte) : f (c.siloWriteGrain off bs) = f c :=
  (siloWear_keeps h.toRaiseBlind _ _).trans ((foldl_keeps (view := f) (fun s _ => h.ecc s _) _ _).trans
    ((wrBytes_keeps h _ _ _).trans (siloCheckWords_keeps h _ _)))

theorem siloWrite_keeps (h : StoreBlind f) (fuel : Nat) (c : Chip) (off : Nat) (bs : List Byte) :
    f (Chip.siloWrite fuel c off bs) = f c := by
  induction fuel generalizing c off bs with
  | zero => rfl
  | succ fuel ih =>
    cases bs with
    | nil => rfl
    | cons b rest => exact (ih _ _ _).trans (siloWriteGrain_keeps h _ _ _)

theorem siloPut_keeps (h : StoreBlind f) (c : Chip) (off : Nat) (bs : List Byte) : f (c.siloPut off bs) = f c :=
  siloWrite_keeps h _ _ _ _

theorem flushFrom_keeps (h : StoreBlind f) (fuel lo : Nat) (c : Chip) : f (Chip.flushFrom fuel lo c) = f c := by
  induction fuel generalizing lo c with
  | zero => rfl
  | succ fuel ih =>
    unfold Chip.flushFrom
    split
    · rfl
    · exact (ih _ _).trans ((siloPut_keeps h _ _ _).trans (h.life _ _))

theorem lifeApply_keeps (h : RaiseBlind f) (c : Chip) (key n : Nat) : f (c.lifeApply key n) = f c := by
  unfold Chip.lifeApply
  exact iteKeeps f ((raiseOnly_keeps h _ _).trans ((h.regs _ _).trans (h.life _ _))) (h.life _ _)

theorem applyHeld_keeps (h : RaiseBlind f) (c : Chip) : f c.applyHeld = f c :=
  (foldl_keeps (view := f) (fun s _ => (raiseIf_keeps h _ _ _).trans (lifeApply_keeps h s _ _)) _ _).trans (h.life _ _)

/-- With no write waiting in the journal a flush writes the dirty grains and nothing else. -/
theorem lifeFlush_keeps (h : StoreBlind f) {c : Chip} (hw : c.silo.waiting = []) : f c.lifeFlush = f c := by
  have hturn : c.siloTurn = c := by rw [Chip.siloTurn, hw]; rfl
  unfold Chip.lifeFlush
  rw [hturn]
  exact (h.life _ _).trans (iteKeeps f (flushFrom_keeps h _ _ _) rfl)

end

theorem storeBlind_pow : StoreBlind Chip.pow := ⟨raiseBlind_pow, fun _ _ => rfl, fun _ _ => rfl⟩

theorem weaveSeen_pow (c : Chip) : c.weaveSeen.pow = c.pow := by
  have hlatch : c.latchTrig.pow = c.pow := iteKeeps Chip.pow rfl ((raise_pow _ _).trans rfl)
  exact (foldl_keeps (view := Chip.pow) (fun s _ => raiseIf_pow s _ _) _ _).trans hlatch

theorem weaveDark_pow (c : Chip) (q : Nat) : (c.weaveDark q).pow = c.pow := rfl

theorem weaveOffAll_pow (c : Chip) (qs : List Nat) : (c.weaveOffAll qs).pow = c.pow := by
  unfold Chip.weaveOffAll
  refine iteKeeps Chip.pow rfl ((weaveSeen_pow _).trans ((foldl_keeps (view := Chip.pow) weaveDark_pow _ _).trans rfl))

/-- Has a wake source become active during DORMANT entry (R471)? -/
def wakeDueOf (c : Chip) : Bool := c.pow.wakeDue

theorem wakeDueOf_congr {c d : Chip} (h : d.pow = c.pow) : wakeDueOf d = wakeDueOf c := congrArg Power.wakeDue h

theorem wakeDueOf_incEnd (c : Chip) (n : Nat) : wakeDueOf { c with pow := { c.pow with incEnd := n } } = wakeDueOf c := rfl

theorem wakeDueOf_dormant (c : Chip) :
    wakeDueOf { c with wdt := {}, pow := { c.pow with dormant := true, pwrEn := false } } = wakeDueOf c := rfl

theorem followInterval_pow (c d : Chip) : (c.followInterval d).pow = c.pow := iteKeeps Chip.pow rfl rfl

theorem storeBlind_wakeDueOf : StoreBlind wakeDueOf :=
  ⟨⟨fun _ _ => rfl, fun _ _ => rfl, fun _ _ => rfl, fun _ _ => rfl⟩, fun _ _ => rfl, fun _ _ => rfl⟩

theorem wakeDueOf_emptied (c : Chip) (ds : List Domain) (m : List Host.Cell) (e : List (Nat × Ecc)) (ts : List (Nat × Tile))
    (st : List (Nat × Nat)) :
    wakeDueOf { c with domains := ds, mem := m, ecc := e, tiles := ts, pow := { c.pow with tileState := st } } = wakeDueOf c := rfl

theorem keepOnly_wakeDueOf (c : Chip) (keep : List Domain) : wakeDueOf (c.keepOnly keep) = wakeDueOf c := by
  unfold Chip.keepOnly
  extract_lets c1 c2 c3 su c4
  have h1 : wakeDueOf c1 = wakeDueOf c := wakeDueOf_congr (weaveOffAll_pow _ _)
  have h2 : wakeDueOf c2 = wakeDueOf c1 := by
    refine foldl_keeps (view := wakeDueOf) (fun e x => ?_) _ _
    split
    · exact iteKeeps wakeDueOf rfl (wakeDueOf_congr (setBit_pow _ _ _ _))
    · rfl
  have h4 : wakeDueOf c4 = wakeDueOf c3 := wakeDueOf_congr (iteKeeps Chip.pow rfl rfl)
  have h3 : wakeDueOf c3 = wakeDueOf c2 := wakeDueOf_congr ((setFld_pow _ _ _ _ _).trans (setBit_pow _ _ _ _))
  exact (wakeDueOf_emptied c4 _ _ _ _ _).trans (h4.trans (h3.trans (h2.trans h1)))

theorem enterMode_wakeDueOf (c : Chip) (m : Nat) : wakeDueOf (c.enterMode m) = wakeDueOf c := by
  unfold Chip.enterMode
  extract_lets was ret c1 pow c2 c3 dbg c4
  have h1 : wakeDueOf c1 = wakeDueOf c := wakeDueOf_congr (setReg_pow _ _ _)
  have h2 : wakeDueOf c2 = wakeDueOf c1 :=
    iteKeeps wakeDueOf ((wakeDueOf_congr (lifeAdd_pow _ _ _)).trans (wakeDueOf_incEnd c1 _)) (wakeDueOf_incEnd c1 _)
  have h3 : wakeDueOf c3 = wakeDueOf c2 := wakeDueOf_congr (followInterval_pow _ _)
  have h4 : wakeDueOf c4 = wakeDueOf c3 := wakeDueOf_congr (iteKeeps Chip.pow rfl rfl)
  have hnote : wakeDueOf c4.noteFlags = wakeDueOf c4 := wakeDueOf_congr rfl
  exact (wakeDueOf_congr (raise_pow _ _)).trans (hnote.trans (h4.trans (h3.trans (h2.trans h1))))

/-! ### The rows -/

/-- An edge marks the sheaves of the stream mask where triggers act (R452, R469). -/
theorem incidentEdge_of_acting {c : Chip} (hphase : phaseOf c = 0) (hstep : c.pow.dormStep = 0) :
    c.incidentEdge =
      if modeOf c = 1 ∨ modeOf c = 2 then (c.markSheaves (fun st => (odNat c 0x3200 0x0B).testBit st) 2).enterMode 3
      else if modeOf c = 3 then (c.markSheaves (fun st => (odNat c 0x3200 0x0B).testBit st) 2).startHold
      else c := by
  unfold Chip.incidentEdge
  exact if_neg (by rw [hphase, hstep]; decide)

/-- A trigger that has seen its edge acts on it (R452). -/
theorem incidentTrigger_becomes {c c' : Chip} {i : Fin 8} {falling : Bool} (hseen : c.weave.edges.contains (i.val, falling) = true)
    (hc' : Chip.incidentEdge
      { c with weave := { c.weave with edges := c.weave.edges.filter (fun e => decide (e ≠ (i.val, falling))) } } = c') :
    Becomes (.incidentTrigger i falling) c c' :=
  becomes_run (exec_incidentTrigger i falling) (fun _ => rfl) ((if_pos hseen).trans hc')

theorem wakeSource_of_dormant {c : Chip} {k : Nat} (he : c.bit Reg.SYS_WAKE_EN k = true) (hd : c.pow.dormant = true) :
    c.wakeSource k = (c.setBit Reg.SYS_WAKE_CAUSE k true).resetAll := by
  simp only [Chip.wakeSource, he, hd, Bool.not_true, Bool.false_eq_true, if_false, if_true, Chip.wakeUp]

theorem wakeSource_of_entry {c : Chip} {k : Nat} (he : c.bit Reg.SYS_WAKE_EN k = true) (hd : c.pow.dormant = false)
    (hs : c.pow.dormStep ≠ 0) :
    c.wakeSource k = { c.setBit Reg.SYS_WAKE_CAUSE k true with pow := { c.pow with wakeDue := true } } := by
  simp only [Chip.wakeSource, he, hd, hs, Bool.not_true, Bool.false_eq_true, if_false, ne_eq, not_false_eq_true, if_true]

theorem wakeSource_of_awake {c : Chip} (k : Nat) (hd : c.pow.dormant = false) (hs : c.pow.dormStep = 0) : c.wakeSource k = c := by
  simp only [Chip.wakeSource, hd, hs, Bool.false_eq_true, if_false, ne_eq, not_true, ite_self]

/-- The last step of DORMANT entry where no wake source has become active (R471). -/
theorem dormantEnd_of_quiet {c : Chip} (hw : c.silo.waiting = []) (hwake : c.pow.wakeDue = false) :
    let d : Chip := (((c.setBit Reg.LIFE_SNAP 30 false).applyHeld).lifeFlush).enterMode 0
    c.dormantEnd = { d.keepOnly [] with wdt := {}, pow := { (d.keepOnly []).pow with dormant := true, pwrEn := false } } := by
  intro d
  have hsilo : ((c.setBit Reg.LIFE_SNAP 30 false).applyHeld).silo = c.silo :=
    (applyHeld_keeps raiseBlind_silo _).trans (setBit_silo _ _ _ _)
  have hdue : (d.keepOnly []).pow.wakeDue = false :=
    calc wakeDueOf (d.keepOnly []) = wakeDueOf d := keepOnly_wakeDueOf _ _
      _ = wakeDueOf ((c.setBit Reg.LIFE_SNAP 30 false).applyHeld).lifeFlush := enterMode_wakeDueOf _ _
      _ = wakeDueOf ((c.setBit Reg.LIFE_SNAP 30 false).applyHeld) := lifeFlush_keeps storeBlind_wakeDueOf (by rw [hsilo, hw])
      _ = wakeDueOf (c.setBit Reg.LIFE_SNAP 30 false) := applyHeld_keeps storeBlind_wakeDueOf.toRaiseBlind _
      _ = wakeDueOf c := wakeDueOf_congr (setBit_pow _ _ _ _)
      _ = false := hwake
  have h3 : wakeDueOf { d.keepOnly [] with wdt := {}, pow := { (d.keepOnly []).pow with dormant := true, pwrEn := false } } = false :=
    (wakeDueOf_dormant _).trans hdue
  unfold Chip.dormantEnd
  exact if_neg (ne_true_of_eq_false h3)

/-- Settles O16: each row is its command's case. DORMANT is entered by rows (log entry 100), and a trigger acts on an edge that it has
kept (log entry 101). -/
theorem modeCommandsComplete : Obligations.ModeCommandsComplete := by
  refine ⟨?holdOver, ?enters, ?restarts, ?ignored, ?closed, ?signed, ?disabled, ?lastStep, ?canWake, ?ignWake, ?ignDuringEntry,
    ?rtcWake, ?rtcAwake, ?accelWake⟩
  case holdOver =>
    intro c hm hend
    exact becomes_run exec_incidentHoldExpiry (fun _ => rfl) (if_pos ⟨hm, hend⟩)
  case enters =>
    intro c i falling d hseen hphase hstep hmode
    exact incidentTrigger_becomes hseen ((incidentEdge_of_acting (c := d) hphase hstep).trans (if_pos hmode))
  case restarts =>
    intro c i falling d hseen hphase hstep hmode
    have hnot : ¬(modeOf d = 1 ∨ modeOf d = 2) := by
      rw [show modeOf d = 3 from hmode]; decide
    exact incidentTrigger_becomes hseen ((incidentEdge_of_acting (c := d) hphase hstep).trans ((if_neg hnot).trans (if_pos hmode)))
  case ignored =>
    intro c i falling d hseen hphase hstep hmode
    have hmd : modeOf d = 4 ∨ modeOf d = 5 := hmode
    have hnot : ¬(modeOf d = 1 ∨ modeOf d = 2) := by omega
    have hnot3 : ¬modeOf d = 3 := by omega
    exact incidentTrigger_becomes hseen ((incidentEdge_of_acting (c := d) hphase hstep).trans ((if_neg hnot).trans (if_neg hnot3)))
  case closed =>
    intro c hd hcap hstep hsheaves hw htakes
    refine becomes_run exec_dormantEntry (fun _ => rfl) ?_
    simp only [Chip.dormantEntry, hd, hcap, hstep, hsheaves, hw, htakes, Option.isSome_none, Bool.or_self, Bool.false_eq_true, if_false,
      List.isEmpty_nil, Bool.and_self, if_true]
  case signed =>
    intro c hd hcap hstep hquiet hw
    have hnone : (sealTakes c && (c.ev.due || c.ev.signing.isSome)) = false := by
      obtain hoff | ⟨hdue, hsign⟩ := hquiet
      · rw [hoff, Bool.false_and]
      · rw [hdue, hsign, Option.isSome_none, Bool.or_self, Bool.and_false]
    refine becomes_run exec_dormantEntry (fun _ => rfl) ?_
    simp only [Chip.dormantEntry, hd, hcap, hstep, hnone, hw, Option.isSome_none, Bool.or_self, Bool.false_eq_true, if_false,
      List.isEmpty_nil, Bool.not_false, Bool.and_self, if_true]
  case disabled =>
    intro c d hd hcap hstep hsw
    refine becomes_run exec_dormantEntry (fun _ => rfl) ?_
    simp only [Chip.dormantEntry, hd, hcap, hstep, hsw, Option.isSome_none, Bool.or_self, Bool.false_eq_true, if_false, if_true]
    rfl
  case lastStep =>
    intro c d hd hcap hstep hw hwake
    refine becomes_run exec_dormantEntry (fun _ => rfl) (Eq.trans ?_ (dormantEnd_of_quiet hw hwake))
    simp only [Chip.dormantEntry, hd, hcap, hstep, hw, Option.isSome_none, Bool.or_self, Bool.false_eq_true, if_false, List.isEmpty_nil,
      if_true]
  case canWake =>
    intro c f rate hfd hext hid hrate he hd
    refine becomes_runAny (exec_wakeCanFrame f rate) (fun _ => rfl) ((if_pos ?_).trans (wakeSource_of_dormant he hd))
    rw [hfd, hext, decide_eq_true hid, decide_eq_true hrate]; rfl
  case ignWake =>
    intro c he hd
    exact becomes_runAny exec_ignWake (fun _ => rfl) (wakeSource_of_dormant he hd)
  case ignDuringEntry =>
    intro c he hd hs
    exact becomes_runAny exec_ignWake (fun _ => rfl) (wakeSource_of_entry he hd hs)
  case rtcWake =>
    intro c alarm hne hnow hd he
    refine becomes_runAny exec_rtcAlarm (fun _ => rfl) ((if_neg ?_).trans ((if_pos hd).trans (wakeSource_of_dormant he hd)))
    exact not_or.mpr ⟨hne, not_not.mpr hnow⟩
  case rtcAwake =>
    intro c alarm hne hnow hd hs
    refine becomes_runAny exec_rtcAlarm (fun _ => rfl) ((if_neg ?_).trans ((if_neg (by rw [hd]; decide)).trans ?_))
    · exact not_or.mpr ⟨hne, not_not.mpr hnow⟩
    · rw [wakeSource_of_awake 2 hd hs]
  case accelWake =>
    intro c falling hf he hd
    exact becomes_runAny (exec_accelWake falling) (fun _ => rfl) ((if_pos (beq_iff_eq.mpr hf.symm)).trans (wakeSource_of_dormant he hd))

end Sys2Proof.Machine
end

section
/-!
SUPPORT. The Storage Writer.
-/
namespace Sys2Proof.Machine

/-! ### Registers that an event leaves -/

/-- A register that no event writes: neither a pending register, nor ODE_STAT, nor LIFE_STAT. -/
structure EventFree (a : Nat) : Prop where
  pend : a < Reg.EVT_DPENDk 0 ∨ Reg.EVT_HPENDk 0 + 32 ≤ a
  ode  : a ≠ Reg.ODE_STAT
  life : a ≠ Reg.LIFE_STAT

theorem EventFree.reg_raiseOnly {a : Nat} (h : EventFree a) (c : Chip) {i : Nat} (hi : i < 256) : (c.raiseOnly i).reg a = c.reg a := by
  have hp := h.pend
  have hd : a ≠ Reg.EVT_DPENDk 0 + 4 * (i / 32) := by simp only [Reg.EVT_DPENDk, Reg.EVT_HPENDk] at hp ⊢; omega
  have hh : a ≠ Reg.EVT_HPENDk 0 + 4 * (i / 32) := by simp only [Reg.EVT_DPENDk, Reg.EVT_HPENDk] at hp ⊢; omega
  exact (reg_raiseOnly_eq c i h.ode).trans ((reg_setBit_ne _ _ _ hh).trans (reg_setBit_ne _ _ _ hd))

theorem EventFree.reg_lifeAdd {a : Nat} (h : EventFree a) (c : Chip) (key n : Nat) : (c.lifeAdd key n).reg a = c.reg a := by
  unfold Chip.lifeAdd
  refine iteKeeps (fun d : Chip => d.reg a) rfl (iteKeeps (fun d : Chip => d.reg a) rfl ?_)
  unfold Chip.lifeApply
  exact iteKeeps (fun d : Chip => d.reg a) ((h.reg_raiseOnly _ (by decide)).trans (reg_setBit_ne _ _ _ h.life)) rfl

theorem EventFree.reg_raise {a : Nat} (h : EventFree a) (c : Chip) {i : Nat} (hi : i < 256) : (c.raise i).reg a = c.reg a := by
  unfold Chip.raise
  split
  · exact (h.reg_lifeAdd _ _ _).trans (h.reg_raiseOnly c hi)
  · exact h.reg_raiseOnly c hi

theorem EventFree.bit_raise {a : Nat} (h : EventFree a) (c : Chip) {i : Nat} (hi : i < 256) (j : Nat) : (c.raise i).bit a j = c.bit a j := by
  simp only [Chip.bit, h.reg_raise c hi]

theorem eventFree_swctl : EventFree Reg.PCIB_SWCTL := ⟨by decide, by decide, by decide⟩

/-! ### The rows -/

theorem swRuns_setBit (c : Chip) (a i : Nat) (v : Bool) : swRuns (c.setBit a i v) = swRuns c := by
  simp only [swRuns, Chip.isOn, setBit_domains, setBit_silo]

/-- A state other than FAULT and NO_DRIVE is entered without a count. -/
theorem swEnter_uncounted (c : Chip) {st : Nat} (h7 : st ≠ 7) (h1 : st ≠ 1) (code : Nat) :
    c.swEnter st code = (c.setFld Reg.PCIB_SWSTAT 31 28 st).setFld Reg.PCIB_SWSTAT 27 24 code :=
  if_neg (not_or.mpr ⟨h7, h1⟩)

/-- The writer does not start without ENABLE (R397). -/
theorem swStart_of_disabled {c : Chip} (h : c.bit Reg.PCIB_SWCTL 31 = false) : c.swStart = c := by
  unfold Chip.swStart
  exact if_neg (by rw [h, Bool.and_false]; exact Bool.false_ne_true)

theorem swctl_swEnterIdle (c : Chip) (j : Nat) : (c.swEnter 0 0).bit Reg.PCIB_SWCTL j = c.bit Reg.PCIB_SWCTL j := by
  rw [swEnter_uncounted c (by decide) (by decide)]
  exact (bit_setFld_ne _ _ _ _ _ (by decide)).trans (bit_setFld_ne _ _ _ _ _ (by decide))

theorem swctl_setSw (c : Chip) (x : Storage) (j : Nat) : (c.setSw x).bit Reg.PCIB_SWCTL j = c.bit Reg.PCIB_SWCTL j :=
  bit_setFld_ne { c with sw := x } _ _ _ _ (by decide)

/-- The completion of the oldest command for `o` (R401, R403). -/
theorem nvmeCompletion_becomes {c c' : Chip} {o : Option Nat} {ok : Bool} {us : Nat} {x : NvCommand} (hlive : swLive c = true)
    (hx : cmdOut c o = some x) (hc' : (c.lifeAdd (4096 + 14 * 5 + driveBin us) 1).cmdDone x ok = c') :
    Becomes (.nvmeCompletion o ok us) c c' :=
  becomes_run (exec_nvmeCompletion o ok us) (fun _ => rfl) (by
    simp only [hx, hlive, if_true]
    exact hc')

/-- What a completed Write does to a bale (R401). -/
def writeDone (x : NvCommand) (b : Bale) : Bale :=
  if x.op.bale = some b.seqNo then
    { b with writes := b.writes - 1, plain := b.plain || sentPlain x, written := decide (b.writes - 1 = 0)
             durable := decide (b.writes - 1 = 0) && !(b.plain || sentPlain x) }
  else b
/-- What a completed Flush does to a bale (R401). -/
def flushDone (b : Bale) : Bale := if b.flushed && b.written then { b with durable := true } else b

theorem cmdDone_of_write {c : Chip} {x : NvCommand} (hx : x.op ≠ .flush) :
    c.cmdDone x true =
      let d : Chip := c.setSw { c.sw with cmds := c.sw.cmds.erase x }
      (((d.setSw { d.sw with bales := d.sw.bales.map (writeDone x) }).swIssue []).needFlush).growPrefix := by
  simp only [Chip.cmdDone, Bool.not_true, Bool.false_eq_true, if_false, hx]
  rfl

theorem cmdDone_of_flush {c : Chip} {x : NvCommand} (hx : x.op = .flush) :
    c.cmdDone x true =
      let d : Chip := c.setSw { c.sw with cmds := c.sw.cmds.erase x }
      (((d.setSw { d.sw with bales := d.sw.bales.map flushDone }).swIssue []).needFlush).growPrefix := by
  simp only [Chip.cmdDone, Bool.not_true, Bool.false_eq_true, if_false, hx, if_true]
  rfl

theorem ne_flush_of_cmdOut {c : Chip} {n : Nat} {x : NvCommand} (h : cmdOut c (some n) = some x) : x.op ≠ .flush := by
  have hfind : c.sw.cmds.find? (fun y => decide (y.op.bale = some n)) = some x := h
  have hdec := List.find?_some hfind
  have hb : x.op.bale = some n := of_decide_eq_true hdec
  intro hf
  rw [hf] at hb
  cases hb

theorem flush_of_cmdOut {c : Chip} {x : NvCommand} (h : cmdOut c none = some x) : x.op = .flush := by
  have hfind : c.sw.cmds.find? (fun y => decide (y.op = .flush)) = some x := h
  have hdec := List.find?_some hfind
  exact of_decide_eq_true hdec

/-- A request of the drive that is not empty (R395). -/
theorem inWindow_served {c : Chip} {a n : Nat} (hn : n ≠ 0) (hw : inWindow c a n = true) {x y z : Chip} :
    (if n = 0 then x else if !inWindow c a n then y else z) = z := by
  rw [if_neg hn, hw]
  rfl

/-- Settles O23: each row is its command's case. A lost link raises EV181 (log entry 73), and a held place, an item's lag and a Flush that
fails act as the model has it (log entries 72, 74 and 182). -/
theorem storageWriterCommandsComplete : Obligations.StorageWriterCommandsComplete := by
  refine ⟨?enables, ?startFails, ?started, ?itemFits, ?aged, ?writeCompletes, ?flushCompletes, ?commandFails, ?noCommand, ?resetFails,
    ?resetWorks, ?lagQueued, ?lagIssued, ?holdEnds, ?disables, ?drained, ?drainOver, ?linkUp, ?linkLost, ?driveWrites, ?driveReads,
    ?driveOutside⟩
  case enables =>
    intro c hp hoff hruns hst
    have hstate : swState (c.setBit Reg.PCIB_SWCTL 31 true) = swState c := by
      simp only [swState, Chip.fld]
      rw [reg_setBit_ne c _ _ (by decide)]
    have hbit : (c.setBit Reg.PCIB_SWCTL 31 true).bit Reg.PCIB_SWCTL 31 = true := by rw [bit_setBit _ _ _ _ _ (by decide), if_pos rfl]
    have hstart : (swRuns (c.setBit Reg.PCIB_SWCTL 31 true) && decide (swState (c.setBit Reg.PCIB_SWCTL 31 true) ≤ 2) &&
        (c.setBit Reg.PCIB_SWCTL 31 true).bit Reg.PCIB_SWCTL 31) = true := by
      rw [hbit, hstate, decide_eq_true hst, swRuns_setBit, hruns]; rfl
    exact becomes_regRun exec_swEnable (fun _ => rfl) hp ((if_neg (by rw [hoff]; exact Bool.false_ne_true)).trans
      ((if_pos hstart).trans (swEnter_uncounted _ (by decide) (by decide) 0)))
  case startFails =>
    intro c r st code hruns hst hcheck
    refine becomes_run (exec_swStartFail r) (fun _ => rfl) ?_
    simp only [hruns, hst, hcheck, ne_eq, not_true, decide_false, Bool.not_true, Bool.or_self, Bool.false_eq_true, if_false]
  case started =>
    intro c r heads pos num hruns hst hcheck
    refine becomes_run (exec_swStartupComplete r heads) (fun _ => rfl) ?_
    simp only [hruns, hst, hcheck, ne_eq, not_true, decide_false, Bool.not_true, Bool.or_self, Option.isSome_none, Bool.false_eq_true,
      if_false, swEnter_uncounted _ (show 4 ≠ 7 by decide) (show 4 ≠ 1 by decide)]
    rfl
  case itemFits =>
    intro c i rest hruns hst hq hfits
    refine becomes_run exec_itemAdd (fun _ => rfl) ?_
    simp only [hruns, hst, hq, hfits, ne_eq, not_true, decide_false, Bool.not_true, Bool.or_self, Bool.false_eq_true, if_false, if_true]
  case aged =>
    intro c hruns hst hage
    exact becomes_run exec_baleAgeClose (fun _ => rfl) (if_pos (by rw [hruns, hst, hage]; rfl))
  case writeCompletes =>
    intro c n us x e d hlive hx
    exact nvmeCompletion_becomes hlive hx (cmdDone_of_write (ne_flush_of_cmdOut hx))
  case flushCompletes =>
    intro c us x e d hlive hx
    exact nvmeCompletion_becomes hlive hx (cmdDone_of_flush (flush_of_cmdOut hx))
  case commandFails =>
    intro c o us x e hlive hx
    exact nvmeCompletion_becomes hlive hx (by simp only [Chip.cmdDone, Bool.not_false, if_true]; rfl)
  case noCommand =>
    intro c o ok us hx
    exact becomes_run (exec_nvmeCompletion o ok us) (fun _ => rfl) (by simp only [hx])
  case resetFails =>
    intro c
    dsimp only
    intro hlive hsilent hst
    refine becomes_run (exec_nvmeTimeout false) (fun _ => rfl) ?_
    simp only [hlive, hsilent, hst, Bool.not_true, Bool.or_self, Bool.false_eq_true, if_false, List.append_nil, Chip.swFault]
  case resetWorks =>
    intro c hlive hsilent
    refine becomes_run (exec_nvmeTimeout true) (fun _ => rfl) ?_
    simp only [hlive, hsilent, Bool.not_true, Bool.or_self, Bool.false_eq_true, if_false, if_true]
  case lagQueued =>
    intro c i hon hq ho hb hlag
    refine becomes_run exec_lagMiss (fun _ => rfl) ?_
    simp only [hon, hq, ho, hb, hlag, Bool.not_true, Bool.false_eq_true, if_false, List.filter_nil, List.flatMap_nil, List.append_nil,
      List.filter_cons, if_true, List.length_cons, List.length_nil, Nat.zero_add, List.any_nil, List.map_cons, List.map_nil,
      Chip.raiseIf]
  case lagIssued =>
    intro c b i hon hq ho hb hitems hdur hmissed hlag
    refine becomes_run exec_lagMiss (fun _ => rfl) ?_
    simp only [hon, hq, ho, hb, hitems, hdur, hmissed, hlag, Bool.not_true, Bool.not_false, Bool.false_eq_true, if_false, if_true,
      List.filter_cons, List.filter_nil, List.flatMap_cons, List.flatMap_nil, List.append_nil, List.nil_append, List.length_cons,
      List.length_nil, Nat.zero_add, List.any_cons, List.any_nil, Bool.or_false, Bool.or_true, Bool.and_self, List.map_cons,
      List.map_nil, Chip.raiseIf]
  case holdEnds =>
    intro c v hp hst hv
    refine becomes_regRun (exec_holdWrite v) (fun _ => rfl) hp ?_
    simp only [Chip.holdWrite, hst, hv, Bool.not_false, Bool.true_or, decide_true, Bool.and_self, if_true]
    exact swEnter_uncounted _ (by decide) (by decide) 0
  case disables =>
    intro c hp hst
    refine becomes_regRun exec_swDisable (fun _ => rfl) hp ?_
    simp only [Chip.swDisable, hst, if_true, setBit_sw, swEnter_uncounted _ (show 6 ≠ 7 by decide) (show 6 ≠ 1 by decide)]
  case drained =>
    intro c hruns hst hquiet hoff
    have hbit : ((c.swEnter 0 0).raise 186).bit Reg.PCIB_SWCTL 31 = false :=
      (eventFree_swctl.bit_raise _ (by decide) _).trans ((swctl_swEnterIdle c _).trans hoff)
    refine becomes_run exec_swDrainDone (fun _ => rfl) ((if_pos (by rw [hruns, hst, hquiet]; rfl)).trans
      ((swStart_of_disabled hbit).trans ?_))
    rw [swEnter_uncounted _ (by decide) (by decide)]
  case drainOver =>
    intro c hruns hst hlate hoff
    refine becomes_run exec_swDrainTimeout (fun _ => rfl) ((if_pos (by rw [hruns, hst, decide_eq_true hlate]; rfl)).trans
      (swStart_of_disabled ?_))
    exact (eventFree_swctl.bit_raise _ (by decide) _).trans ((swctl_swEnterIdle _ _).trans ((swctl_setSw _ _ _).trans hoff))
  case linkUp =>
    intro c hst
    refine becomes_run (exec_pciebLinkChange true) (fun _ => rfl) ?_
    exact if_neg Bool.false_ne_true
  case linkLost =>
    intro c
    dsimp only
    intro hst
    refine becomes_run (exec_pciebLinkChange false) (fun _ => rfl) ?_
    exact if_pos (by rw [decide_eq_true hst]; rfl)
  case driveWrites =>
    intro c a bs hne hw
    exact becomes_run (exec_driveRequest a (some bs) 0) (fun _ => rfl)
      (inWindow_served (fun h => hne (List.eq_nil_of_length_eq_zero h)) hw)
  case driveReads =>
    intro c a n hne hw
    exact becomes_run (exec_driveRequest a none n) (fun _ => rfl) (inWindow_served hne hw)
  case driveOutside =>
    intro c a n hne hw
    exact becomes_run (exec_driveRequest a none n) (fun _ => rfl) ((if_neg hne).trans (if_pos (by rw [hw]; rfl)))

end Sys2Proof.Machine
end

section
/-!
SUPPORT. The Ethernet sink's datagram leaves the part.
-/
namespace Sys2Proof.Machine

/-- A command that completes from one chip leaves one settled chip. -/
theorem becomes_settle_unique {i : Instr} {c d e : Chip} (hn : nclkRuns c = true) (hd : Becomes i c d) (he : Becomes i c e) :
    d.settle = e.settle := by
  have hnext := (hd hn []).symm.trans (he hn [])
  simpa only [Host.Outcome.next.injEq, State.mk.injEq, true_and] using hnext

/-- MAC 0 is on with its link up, and a datagram of one packet has been collected for 1 ms. -/
def collectedChip : Chip where
  ns := 1000000
  domains := [.mesh, .ethernet 0]
  regs := [(Reg.ETH_CTL 0, 0x80000000)]
  eth := [(0, { linkUp := true })]
  trace := { dgram := [{ typ := 3 }] }

/-- The datagram is sent in a frame whose IP header takes free bytes (log entry 185). -/
theorem fresh_traceSend_collectedChip : (collectedChip.traceSend collectedChip.trace.dgram).fresh = 4 := by decide +kernel

/-- Refutes O11: its clause on the datagram changes the trace unit alone, but the datagram leaves as a frame of the MAC that
DBG_TRACE_CTL names (R555, log entry 185), whose IP header draws free bytes. In `collectedChip` four are drawn. -/
theorem not_traceAndWatchdogCommandsComplete : ¬ Obligations.TraceAndWatchdogCommandsComplete := by
  rintro ⟨-, -, -, -, -, -, -, -, hsent, -⟩
  have hclaim := hsent collectedChip (by decide) (by decide)
  have hmodel : Becomes .traceDatagramTimeout collectedChip (collectedChip.traceSend collectedChip.trace.dgram) :=
    becomes_run exec_traceDatagramTimeout (fun _ => rfl) (if_neg (by decide))
  have hfresh := congrArg Chip.fresh (becomes_settle_unique (by decide +kernel) hclaim hmodel)
  rw [settle_fresh, settle_fresh, fresh_traceSend_collectedChip] at hfresh
  exact absurd hfresh (by decide)

end Sys2Proof.Machine
end

section
/-!
SUPPORT. The Spindle links and the system of devices.
-/
namespace Sys2Proof.Machine

/-- What a report of link l makes of the chip (R517, R527). -/
def Chip.linkReported (c : Chip) (l : Nat) (r : PeerReport) : Chip :=
  let d := (c.setBit (Reg.SPIN_LINKl l) 31 true).setFld (Reg.SPIN_LINKl l) 27 24 r.device.val
  Chip.gangPeer { d with spin := { d.spin with inRow := mapSet 0 d.spin.inRow l 0 } } l r

theorem linkReported_eq (c : Chip) (l : Nat) (r : PeerReport) :
    c.linkReported l r = Chip.gangPeer { (c.setBit (Reg.SPIN_LINKl l) 31 true).setFld (Reg.SPIN_LINKl l) 27 24 r.device.val with
      spin := { c.spin with inRow := mapSet 0 c.spin.inRow l 0 } } l r := by
  have hspin : ((c.setBit (Reg.SPIN_LINKl l) 31 true).setFld (Reg.SPIN_LINKl l) 27 24 r.device.val).spin = c.spin :=
    (setFld_spin _ _ _ _ _).trans (setBit_spin _ _ _ _)
  unfold Chip.linkReported
  dsimp only
  rw [hspin]

/-- What is reached through link l once the device has its place (R518, R519). -/
def Chip.linkReaches (t : Chip) (l : Nat) (r : PeerReport) : Chip :=
  let via := viaLink t l
  let far := (r.reach.toNat ||| 2 ^ r.device.val) &&& via
  if isManager t then r.sent.foldl Chip.gangHear (t.reachSet ((reachMask t &&& (65535 ^^^ via)) ||| far))
  else
    let d : Chip := { t with spin := { t.spin with far := (t.spin.far &&& (65535 ^^^ via)) ||| far } }
    if upstream d = some l then d.hearManager r else d

/-- A link that was down trains (R517). -/
theorem linkTrain_of_down {c : Chip} {l : Nat} {r : PeerReport} (hen : c.bit Reg.SPIN_CTL l = true) (hon : c.isOn (.spindle l) = true)
    (hface : r.side.val = facing l) (hdown : linkUp c l = false) :
    c.linkTrain l r = Chip.linkReaches
      ((((Chip.linkReported (c.pinPort (spindleNode l)) l r).raise (224 + l)).askDrain (spindleNode l) 0).place) l r := by
  have hcond : (!c.bit Reg.SPIN_CTL l || !c.isOn (.spindle l) || decide (r.side.val ≠ facing l)) = false := by
    rw [hen, hon, decide_eq_false (not_not.mpr hface)]; rfl
  unfold Chip.linkTrain
  rw [hcond, hdown]
  rfl

/-- The chip once link l, which was up, is down (R517, R561). -/
def Chip.linkDropped (c : Chip) (l : Nat) : Chip :=
  Chip.askDrain { (((c.pinPort (spindleNode l)).setBit (Reg.SPIN_LINKl l) 31 false).raise (224 + l)).lifeAdd 28 1 with
    spin := { c.spin with inRow := mapSet 0 c.spin.inRow l 0, peers := mapErase l c.spin.peers } } (spindleNode l) 0

/-- What is reached no more through link l, by a chip in state `t` that had `c`'s links (R518 to R520, R530). -/
def Chip.linkUnreaches (c t : Chip) (l : Nat) : Chip :=
  if isManager t then t.reachSet (reachMask t &&& (65535 ^^^ viaLink c l))
  else
    let d := Chip.place { t with spin := { t.spin with far := t.spin.far &&& (65535 ^^^ viaLink c l) } }
    if upstream c = some l ∧ (upstream d).isNone then
      let e := if timeState d = 0 then d else d.timeEnter 3
      if e.bit Reg.SPIN_STAT 29 then e.gangLeave else e
    else d

/-- A link that was up goes down (R517). -/
theorem linkLose_of_up {c : Chip} {l : Nat} (hup : linkUp c l = true) : c.linkLose l = c.linkUnreaches (c.linkDropped l) l := by
  have hspin : ((((c.pinPort (spindleNode l)).setBit (Reg.SPIN_LINKl l) 31 false).raise (224 + l)).lifeAdd 28 1).spin = c.spin :=
    (lifeAdd_spin _ _ _).trans ((raise_spin _ _).trans (setBit_spin _ _ _ _))
  unfold Chip.linkLose Chip.linkDropped
  rw [hup]
  dsimp only
  rw [hspin]
  rfl

/-- A replay is counted, with EV228 at the first, and the sixteenth of one frame takes the link down (R516, R517). -/
theorem frameReplay_of_up {c : Chip} {l : Nat} (hup : linkUp c l = true) (again : Bool) :
    c.frameReplay l again =
      let n := if again then mapGet 0 c.spin.inRow l + 1 else 1
      let d : Chip := { (c.countFld (Reg.SPIN_LINKl l) 15 0 1).raiseIf (decide (c.fld (Reg.SPIN_LINKl l) 15 0 = 0)) 228 with
        spin := { c.spin with inRow := mapSet 0 c.spin.inRow l n } }
      if 16 ≤ n then d.linkLose l else d := by
  have hspin : ((c.countFld (Reg.SPIN_LINKl l) 15 0 1).raiseIf (decide (c.fld (Reg.SPIN_LINKl l) 15 0 = 0)) 228).spin = c.spin :=
    (raiseIf_spin _ _ _).trans (setFld_spin _ _ _ _ _)
  simp only [Chip.frameReplay, hup, Bool.not_true, Bool.false_eq_true, if_false, hspin]

/-- A worker that waits for its place has waited long enough (R521). -/
theorem workerBootTimeout_becomes {c c' : Chip} (hw : isManager c = false) (hon : c.isOn .sealUnit = true) (hopen : bootOpen c = true)
    (hup : upstream c = none) (hlate : c.su.waitAt.getD c.spin.since + 1000000000 ≤ c.ns)
    (hc' : (if sealState c.bootStep3 = 3 then c.bootStep3 else c.bootStep3.bootFail) = c') : Becomes .workerBootTimeout c c' := by
  have hnot : (isManager c || !c.isOn .sealUnit || !bootOpen c || (upstream c).isSome ||
      decide (c.ns < c.su.waitAt.getD c.spin.since + 1000000000)) = false := by
    rw [hw, hon, hopen, hup, decide_eq_false (Nat.not_lt.mpr hlate)]; rfl
  refine becomes_run exec_workerBootTimeout (fun _ => rfl) ?_
  exact (if_neg (by rw [hnot]; exact Bool.false_ne_true)).trans hc'

/-- Settles O12: each row is its command's case. What is reached and where a worker stands follow the peers' reports (log entry 110), which
bring the gang's messages too (log entry 127). -/
theorem spindleCommandsComplete : Obligations.SpindleCommandsComplete := by
  refine ⟨?trainsManager, ?trainsWorker, ?downManager, ?downWorker, ?replay, ?replayLast, ?mapInvalid, ?mapValid, ?absent, ?bootFails,
    ?bootStops, ?statRead⟩
  case trainsManager =>
    intro c l r t via hen hon hface hdown hmgr
    exact becomes_run (exec_linkUp l r) (fun _ => rfl) ((linkTrain_of_down hen hon hface hdown).trans
      (by rw [linkReported_eq]; exact if_pos hmgr))
  case trainsWorker =>
    intro c l r t via d hen hon hface hdown hmgr hup
    exact becomes_run (exec_linkUp l r) (fun _ => rfl) ((linkTrain_of_down hen hon hface hdown).trans
      (by rw [linkReported_eq]; exact (if_neg (ne_true_of_eq_false hmgr)).trans (if_pos hup)))
  case downManager =>
    intro c l t via hup hmgr
    exact becomes_run (exec_linkDown l) (fun _ => rfl) ((linkLose_of_up hup).trans (if_pos hmgr))
  case downWorker =>
    intro c l t hup hsome hne hmgr
    exact becomes_run (exec_linkDown l) (fun _ => rfl) ((linkLose_of_up hup).trans
      ((if_neg (ne_true_of_eq_false hmgr)).trans (if_neg (fun h => hne h.1))))
  case replay =>
    intro c l hup
    exact becomes_run (exec_frameReplay l false) (fun _ => rfl) (frameReplay_of_up hup false)
  case replayLast =>
    intro c l hup hrow
    refine becomes_run (exec_frameReplay l true) (fun _ => rfl) ((frameReplay_of_up hup true).trans ?_)
    rw [hrow]
    rfl
  case mapInvalid =>
    intro c hmgr hnone hbad
    refine becomes_run exec_systemMapCheck (fun _ => rfl) ?_
    simp only [Chip.mapCheck, hmgr, hnone, hbad, Bool.not_true, Option.isSome_none, Bool.or_self, Bool.false_eq_true, if_false]
  case mapValid =>
    intro c hmgr hnone hok
    refine becomes_run exec_systemMapCheck (fun _ => rfl) ?_
    simp only [Chip.mapCheck, hmgr, hnone, hok, Bool.not_true, Option.isSome_none, Bool.or_self, Bool.false_eq_true, if_false, if_true]
  case absent =>
    intro c d hmgr hmap hreach habsent hlate
    refine becomes_run (exec_workerReachTimeout d) (fun _ => rfl) ?_
    exact if_pos (by rw [hmgr, hmap, hreach, habsent, decide_eq_true hlate]; rfl)
  case bootFails =>
    intro c d hw hon hopen hup hlate hstate
    exact workerBootTimeout_becomes hw hon hopen hup hlate (if_neg hstate)
  case bootStops =>
    intro c hw hon hopen hup hlate hstate
    exact workerBootTimeout_becomes hw hon hopen hup hlate (if_pos hstate)
  case statRead =>
    intro c l
    exact becomes_run (exec_linkStatRead l) (fun _ => rfl) rfl

end Sys2Proof.Machine
end

section
/-!
SUPPORT. The Weave's fabric.
-/
namespace Sys2Proof.Machine

theorem maskBit_single : ∀ (q : Fin 4) (x : Fin 4), (BitVec.ofNat 4 (2 ^ q.val)).toNat.testBit x.val = (x.val == q.val) := by decide

theorem filter_range_beq : ∀ q : Fin 4, (List.range 4).filter (fun x => x == q.val) = [q.val] := by decide

/-- The quadrants of a mask of one quadrant that is on and not loading (R498). -/
theorem loadable_single (c : Chip) (q : Fin 4) (hon : c.isOn (.weave q.val) = true) (hl : c.weave.loading.contains q.val = false) :
    (List.range 4).filter (fun x => (BitVec.ofNat 4 (2 ^ q.val)).toNat.testBit x && c.isOn (.weave x) && !c.weave.loading.contains x) =
      [q.val] := by
  have hx : ∀ x ∈ List.range 4,
      ((BitVec.ofNat 4 (2 ^ q.val)).toNat.testBit x && c.isOn (.weave x) && !c.weave.loading.contains x) = (x == q.val) := by
    intro x hx
    have hbit : (BitVec.ofNat 4 (2 ^ q.val)).toNat.testBit x = (x == q.val) := maskBit_single q ⟨x, List.mem_range.mp hx⟩
    by_cases he : x = q.val
    · rw [hbit, he, hon, hl]; simp
    · rw [hbit, beq_false_of_ne he]; rfl
  rw [List.filter_congr hx, filter_range_beq]

/-- Held pins have been noted when their hold began (R505). -/
theorem keepPins_of_held {c : Chip} {ks : List Nat} (h : ∀ k ∈ ks, pinHeld c k = true) : c.keepPins ks = c := by
  have hkept : ∀ m : List (Nat × Nat), ks.foldl (fun m k => if pinHeld c k then m else
      let p := pinState c k
      mapSet 0 m k (p.1.toNat + 2 * p.2.1.toNat + 4 * p.2.2)) m = m := by
    induction ks with
    | nil => exact fun m => rfl
    | cons k ks ih =>
      intro m
      rw [List.foldl_cons, if_pos (h k List.mem_cons_self)]
      exact ih (fun x hx => h x (List.mem_cons_of_mem k hx)) m
  rw [Chip.keepPins, hkept]

/-- The pins of bank A are held while its supply is at fault (R503). -/
theorem pinHeld_of_bankA {c : Chip} (hb : c.bit Reg.WEAVE_BANK 1 = true) {k : Nat} (hk : k < 32) : pinHeld c k = true := by
  simp only [pinHeld, hk, if_true, hb, Bool.or_true, Bool.true_or]

/-- Nothing is latched while the trigger lines stay as they were seen (R506). -/
theorem latchTrig_of_same {c : Chip} (h : trigLines c = c.weave.trig) : c.latchTrig = c := if_pos h

/-- A change of a trigger line is latched with EV208 (R506). -/
theorem latchTrig_of_changed {c : Chip} (h : trigLines c ≠ c.weave.trig) :
    c.latchTrig = ((c.setReg Reg.WEAVE_TRIG_EDGE (c.reg Reg.WEAVE_TRIG_EDGE |||
      BitVec.ofNat 32 (trigLines c ^^^ c.weave.trig))).sawLines (trigLines c)).raise 208 := if_neg h

theorem weaveSeen_of_same {c : Chip} (h : trigLines c = c.weave.trig) : c.weaveSeen = c.latchUser := by
  rw [Chip.weaveSeen, latchTrig_of_same h]

theorem weaveSeen_of_changed {c : Chip} (h : trigLines c ≠ c.weave.trig) :
    c.weaveSeen = (((c.setReg Reg.WEAVE_TRIG_EDGE (c.reg Reg.WEAVE_TRIG_EDGE |||
      BitVec.ofNat 32 (trigLines c ^^^ c.weave.trig))).sawLines (trigLines c)).raise 208).latchUser := by
  rw [Chip.weaveSeen, latchTrig_of_changed h]

/-- A pin of a quadrant that is not loading is written (R505, R512). -/
theorem weavePin_of_running {c : Chip} (k : Nat) (v : Word) (hl : c.weave.loading = []) :
    c.weavePin k v = (c.setReg (Reg.WEAVE_PINk k) (Machine.setFld (v &&& 0x71FC) 14 12
      (if 6 ≤ Machine.fld v 14 12 then c.fld (Reg.WEAVE_PINk k) 14 12 else Machine.fld v 14 12))).weaveSeen := by
  simp only [Chip.weavePin, hl, List.contains_nil, Bool.and_false, Bool.false_eq_true, if_false]

/-- Settles O25: each row is its command's case. The edges of trigger lines are kept until firmware acts on them (log entry 101), and the
inputs are synchronised by the fabric's clock alone (log entry 187). -/
theorem weaveFabricCommandsComplete : Obligations.WeaveFabricCommandsComplete := by
  refine ⟨?load, ?clear, ?start, ?commits, ?discards, ?statRead, ?pinHold, ?pinKeeps, ?lineSame, ?lineChanged, ?eventSame, ?eventChanged,
    ?bankFails, ?bankFailsAgain⟩
  case load =>
    intro c q d hon hl
    refine becomes_run (exec_weaveLoad _) (fun _ => rfl) ?_
    simp only [Chip.weaveLoad, loadable_single c q hon hl, List.isEmpty_cons, Bool.false_eq_true, if_false, List.flatMap_cons,
      List.flatMap_nil, List.append_nil, d]
  case clear =>
    intro c m
    exact becomes_run (exec_weaveClear m) (fun _ => rfl) rfl
  case start =>
    intro c cells hl
    refine becomes_run exec_weaveStart (fun _ => rfl) ?_
    exact if_neg (fun h => hl (List.isEmpty_iff.mp h))
  case commits =>
    intro c data f hf hl
    refine becomes_run (exec_frameCommit data) (fun _ => rfl) ?_
    simp only [Chip.weaveWindow, hf, hl, ne_eq, not_true, if_false, if_true, setFld_weave]
  case discards =>
    intro c data f hf hl
    refine becomes_run (exec_frameCommit data) (fun _ => rfl) ?_
    simp only [Chip.weaveWindow, hf, hl, ne_eq, not_true, if_false, Bool.false_eq_true, setFld_weave]
  case statRead =>
    intro c
    exact becomes_run exec_cfgStatRead (fun _ => rfl) rfl
  case pinHold =>
    intro c k data hcode hl
    refine becomes_run (exec_pinModeWrite k data) (fun _ => rfl) ((weavePin_of_running k.val data hl).trans ?_)
    rw [if_neg (Nat.not_le.mpr hcode)]
  case pinKeeps =>
    intro c k data hcode hl
    refine becomes_run (exec_pinModeWrite k data) (fun _ => rfl) ((weavePin_of_running k.val data hl).trans ?_)
    rw [if_pos hcode]
  case lineSame =>
    intro c pads ign accel pps d hsame
    exact becomes_run (exec_triggerLineChange pads ign accel pps) (fun _ => rfl) (weaveSeen_of_same hsame)
  case lineChanged =>
    intro c pads ign accel pps d hchanged
    exact becomes_run (exec_triggerLineChange pads ign accel pps) (fun _ => rfl) (weaveSeen_of_changed hchanged)
  case eventSame =>
    intro c pads ign accel pps d hsame
    exact becomes_run (exec_wvUserEvent pads ign accel pps) (fun _ => rfl) (weaveSeen_of_same hsame)
  case eventChanged =>
    intro c pads ign accel pps d hchanged
    exact becomes_run (exec_wvUserEvent pads ign accel pps) (fun _ => rfl) (weaveSeen_of_changed hchanged)
  case bankFails =>
    intro c hb
    refine becomes_run (exec_bankFault true) (fun _ => rfl) ?_
    simp only [if_true, hb, Bool.false_eq_true, if_false]
  case bankFailsAgain =>
    intro c hb
    refine becomes_run (exec_bankFault false) (fun _ => rfl) ?_
    have hheld : ∀ k ∈ (List.range 32).map (fun k => 0 + k), pinHeld c k = true := by
      intro k hk
      obtain ⟨j, hj, rfl⟩ := List.mem_map.mp hk
      exact pinHeld_of_bankA hb (by rw [Nat.zero_add]; exact List.mem_range.mp hj)
    rw [keepPins_of_held hheld]
    simp only [Bool.false_eq_true, if_false, hb, if_true]

end Sys2Proof.Machine
end


section
/-!
SUPPORT. The ADC and the serial buses of the Weave.
-/
namespace Sys2Proof.Machine

/-- An enabled I2C master whose head command has this OP runs it. -/
theorem i2cRun_of_head {c : Chip} {n op v : Nat} {rest : List Nat} (hen : c.bit (Reg.WEAVE_I2Cn_CTL n) 31 = true)
    (hcmds : (i2cOf c n).cmds = v :: rest) (hop : natBits v 9 8 = op) (f : Chip → I2c → Nat → List Nat → Chip) :
    c.i2cRun n op f = f c (i2cOf c n) v rest := by
  unfold Chip.i2cRun
  rw [hen, hcmds, Bool.not_true, if_neg (by decide)]
  exact if_pos hop

/-- A byte read enters a receive FIFO with room (R508). -/
theorem i2cReceive_of_room {c : Chip} {n op v : Nat} {rest : List Nat} (hen : c.bit (Reg.WEAVE_I2Cn_CTL n) 31 = true)
    (hcmds : (i2cOf c n).cmds = v :: rest) (hop : natBits v 9 8 = op) (hroom : (i2cOf c n).rx.length < 32) (b : Byte) :
    c.i2cReceive n op b =
      c.i2cNext n { i2cOf c n with rx := (i2cOf c n).rx ++ [b] } rest (i2cActs v (.read (decide (op = 1)))) := by
  unfold Chip.i2cReceive
  rw [i2cRun_of_head hen hcmds hop]
  exact if_neg (Nat.not_le.mpr hroom)

/-- Settles O26: each bus master's row is one case of its model function. The order on the bus and the commands dropped up to STOP are
log 107, SCAN log 108 and the crossing of the ADC level log 188. -/
theorem weaveBusCommandsComplete : Obligations.WeaveBusCommandsComplete := by
  unfold Obligations.WeaveBusCommandsComplete
  refine ⟨?more, ?last, ?acked, ?nacked, ?readAck, ?readNack, ?stop, ?stretch, ?held, ?pop, ?popEmpty, ?spi, ?spiPop⟩
  case more =>
    intro c conv k
    dsimp only
    intro hen hk hmore
    refine becomes_run (exec_adcChannelResult _) (fun _ => rfl) ?_
    simp only [hen, hk, hmore, Bool.not_true, Bool.false_eq_true, if_false, if_true]
  case last =>
    intro c conv k
    dsimp only
    intro hen hk hlast
    refine becomes_run (exec_adcChannelResult _) (fun _ => rfl) ?_
    simp only [hen, hk, hlast, Bool.not_true, Bool.false_eq_true, if_false]
  case acked =>
    intro c n x v rest hen hx hcmds hop
    subst hx
    refine becomes_run (exec_i2cWrite _ _) (fun _ => rfl) ?_
    rw [i2cRun_of_head hen hcmds hop]
    rfl
  case nacked =>
    intro c n x v rest hen hx hcmds hop
    subst hx
    refine becomes_run (exec_i2cWrite _ _) (fun _ => rfl) ?_
    rw [i2cRun_of_head hen hcmds hop]
    simp only [i2cActs, Bool.false_eq_true, if_false, List.append_assoc]
  case readAck =>
    intro c n b x v rest hen hx hcmds hop hroom
    subst hx
    refine becomes_run (exec_i2cReadAck _ _) (fun _ => rfl) ?_
    rw [i2cReceive_of_room hen hcmds hop hroom]
    rfl
  case readNack =>
    intro c n b x v rest hen hx hcmds hop hroom
    subst hx
    refine becomes_run (exec_i2cReadNack _ _) (fun _ => rfl) ?_
    rw [i2cReceive_of_room hen hcmds hop hroom]
    rfl
  case stop =>
    intro c n x v rest hen hx hcmds hop
    subst hx
    refine becomes_run (exec_i2cStop _) (fun _ => rfl) ?_
    rw [i2cRun_of_head hen hcmds hop]
    rfl
  case stretch =>
    intro c n x hen hx hcmds
    subst hx
    have hbusy : (i2cOf c n.val).cmds.isEmpty = false := by simpa using hcmds
    refine becomes_run (exec_i2cTimeout _ _) (fun _ => rfl) ?_
    simp only [hen, hbusy, Bool.not_true, Bool.false_eq_true, if_false]
  case held =>
    intro c n hen hcmds
    refine becomes_run (exec_i2cTimeout _ _) (fun _ => rfl) ?_
    simp only [hen, hcmds, List.isEmpty_nil, Bool.not_true, Bool.false_eq_true, if_false, if_true]
  case pop =>
    intro c n b rest hrx
    refine becomes_run (exec_i2cRxRead _) (fun _ => rfl) ?_
    simp only [Chip.i2cPop, hrx]
  case popEmpty =>
    intro c n hrx
    refine becomes_run (exec_i2cRxRead _) (fun _ => rfl) ?_
    simp only [Chip.i2cPop, hrx]
  case spi =>
    intro c n data v rest hen htx hroom
    refine becomes_run (exec_spiWord _ _) (fun _ => rfl) ?_
    simp only [hen, htx, Nat.not_le.mpr hroom, Bool.not_true, Bool.false_eq_true, if_false]
  case spiPop =>
    intro c n v rest hrx
    refine becomes_run (exec_spiRxRead _) (fun _ => rfl) ?_
    simp only [Chip.spiPop, hrx]

end Sys2Proof.Machine
end


section
/-!
SUPPORT. The CAN controllers, the Ethernet MACs and the host port.
-/
namespace Sys2Proof.Machine

/-- A classical frame that comes to a controller of its own goes by the first filter that matches (R444). -/
theorem canReceive_of_classical {c : Chip} {k : Nat} {f : CanFrame} (hon : canOn c k = true) (hfd : f.fd = false)
    (hnode : nodeOn c k = false) (sof : DWord) :
    c.canReceive k f sof =
      match (List.range 32).find? (fun n => filterMatches c k n f) with
      | some n => c.canPost k n f sof
      | none => c := by
  unfold Chip.canReceive
  rw [hon, hfd, hnode]
  rfl

/-- A read of one whole dword of BAR0: its data, or the failure, recorded with EV178 (R408 to R410). -/
theorem hostReads_one (c : Chip) (v : Word) (off : Nat) {r : Resp} {d : Chip} (hr : c.hostReadDword false off 15 = (r, d))
    (hw : waitsStill r = false) :
    Chip.hostReads false [(v, 15)] off c =
      if r.status = 0 then ({ data := r.data % 2 ^ 32, poison := r.poison }, d) else (r, (d.hostRecord false r).raise 178) := by
  unfold Chip.hostReads
  rw [show (15 : BitVec 4).toNat = 15 from rfl, hr]
  dsimp only
  rw [hw, if_neg (by decide)]
  by_cases h0 : r.status = 0
  · simp [h0, Chip.hostReads]
  · simp [h0, Chip.hostReads]

/-- A reset of the host side keeps its link and drops what the slots have asked for (R407, R539). -/
theorem pciaReset_eq (c : Chip) :
    c.pciaReset = (Chip.closePort { (c.setReg Reg.PCIA_B2WIN (regReset Reg.PCIA_B2WIN)).setReg Reg.PCIA_ODDONE 0 with
      host := { linkUp := c.host.linkUp, memWr := c.host.memWr, aer := c.host.aer }
      od := { c.od with
        jobs := c.od.jobs.filter (fun j => match j with
          | .message (.slot _) _ => false
          | _ => true)
        writes := c.od.writes.filter (fun w => !(decide (16 ≤ w.client) && decide (w.client < 24))) } } 1).raise 177 := by
  have hjob : (fun j : OdJob => match j with
      | .message (.slot _) _ => false
      | _ => true) = fun j => !(match j with
      | .message (.slot _) _ => true
      | .message _ _ => false
      | .usdo _ => false
      | .rpdo _ => false
      | .write _ _ _ _ _ => false
      | .read _ _ => false
      | .fromManager _ _ _ _ => false) := by
    funext j
    cases j with
    | message via m => cases via <;> rfl
    | _ => rfl
  rw [hjob]
  rfl

/-- A doorbell of one free slot queues its request (R411). -/
theorem onesBelow_single : ∀ k : Fin 8, onesBelow 8 (BitVec.ofNat 8 (2 ^ k.val)).toNat = [k.val] := by decide

/-- A message outside OPEN and AUTH whose session is open, whose number is new and whose MAC is right is taken (R359, R417). -/
theorem odCheck_of_sealed {c : Chip} {m : List Byte} {x : Session} (hok : messageOk false m = true) (h1 : msgOp m ≠ 1)
    (h2 : msgOp m ≠ 2) (hsid : msgSid m ≠ 0xFF) (hx : sessionOf c (msgSid m) = some x) (hopen : x.isOpen = true)
    (hseq : x.seqLast.all (fun n => decide (n < msgNat m 8 8)) = true)
    (hmac : mac16 x.key (leBytes 8 (msgNat m 8 8) ++ msgCore m) = m.drop (0x18 + msgNat m 6 2)) :
    c.odCheck false m = (.take, c.putSession (msgSid m) { x with seqLast := some (msgNat m 8 8), since := c.ns }) := by
  have hnew : ¬ x.seqLast = some (msgNat m 8 8) := by
    intro he
    rw [he] at hseq
    simp at hseq
  have hfresh : (match x.seqLast with
      | some n => decide (msgNat m 8 8 ≤ n)
      | none => false) = false := by
    cases hl : x.seqLast with
    | none => rfl
    | some n =>
      rw [hl] at hseq
      simpa using hseq
  have hpass : c.checkMac (msgSid m) (msgNat m 8 8) (msgCore m) (m.drop (0x18 + msgNat m 6 2)) =
      (0, c.putSession (msgSid m) { x with seqLast := some (msgNat m 8 8), since := c.ns }) := by
    unfold Chip.checkMac
    rw [hx]
    dsimp only
    rw [hopen, Bool.not_true, if_neg (by decide)]
    refine (if_neg (ne_true_of_eq_false hfresh)).trans ?_
    rw [hmac]
    exact if_neg (fun h => h rfl)
  unfold Chip.odCheck
  simp only [hok, h1, h2, hsid, hx, hopen, hnew, hpass, Bool.not_true, Bool.false_eq_true, if_false, if_true]

/-- Settles O28: each row is one case of its model function. Slot jobs dropped by a host reset are log 75, a failed read recorded log 39,
PAUSE and UDP forms log 184 and waiting Ethernet frames log 77. -/
theorem networkAndHostCommandsComplete : Obligations.NetworkAndHostCommandsComplete := by
  unfold Obligations.NetworkAndHostCommandsComplete
  refine ⟨?rxNobody, ?rxPosted, ?txDisabled, ?txSent, ?errPassive, ?busOff, ?recover, ?recovered, ?statRead, ?ethTaken, ?ethDropped,
    ?ethPause, ?ethBad, ?txSecond, ?txFirst, ?ethLink, ?oddrop, ?hostReset, ?hostLink, ?doorbell, ?slotAnswer, ?tlpNowhere, ?tlpRead,
    ?tlpWrite, ?udpOpen, ?udpSealed⟩
  case rxNobody =>
    intro c k f sof hon hfd hnode hnone
    refine becomes_run (exec_canRxFrame _ _ _) (fun _ => rfl) ?_
    rw [canReceive_of_classical hon hfd hnode, hnone]
  case rxPosted =>
    intro c k f sof n hon hfd hnode hsome hroom
    refine becomes_run (exec_canRxFrame _ _ _) (fun _ => rfl) ?_
    rw [canReceive_of_classical hon hfd hnode, hsome]
    exact if_neg (ne_true_of_eq_false hroom)
  case txDisabled =>
    intro c k f d sof hon hhead hdis
    refine becomes_run (exec_canTxFrame _ _) (fun _ => rfl) ?_
    simp only [Chip.canTransmit, hon, hhead, hdis, Bool.not_true, Bool.not_false, Bool.false_eq_true, if_false, if_true]
  case txSent =>
    intro c k f d sof hon hhead hen hlisten hoff hnode hfd
    refine becomes_run (exec_canTxFrame _ _) (fun _ => rfl) ?_
    simp only [Chip.canTransmit, hon, hhead, hen, hlisten, hoff, hnode, hfd, Bool.not_true, Bool.false_eq_true, decide_false,
      Bool.or_self, Bool.false_and, if_false]
  case errPassive =>
    intro c k tec r hon hen hact
    refine becomes_run (exec_canErrorState _ _ _ _) (fun _ => rfl) ?_
    simp [hon, hen, hact, Chip.raiseIf]
  case busOff =>
    intro c k tec r
    dsimp only
    intro hon hen hoff habor
    refine becomes_run (exec_canErrorState _ _ _ _) (fun _ => rfl) ?_
    simp [hon, hen, hoff, habor, Chip.raiseIf]
  case recover =>
    intro c k hport hoff hrec
    refine becomes_regRun (exec_recover _) (fun _ => rfl) hport ?_
    simp only [Chip.canRecover, hoff, hrec, Bool.not_false, decide_true, Bool.and_self, if_true]
  case recovered =>
    intro c k hrec
    refine becomes_run (exec_busOffRecoveryDone _) (fun _ => rfl) ?_
    refine (if_neg (by rw [hrec]; decide)).trans ?_
    dsimp only
    rw [setFld_can, setFld_can]
  case statRead =>
    intro c k hport
    exact becomes_regRun (exec_canStatRead _) (fun _ => rfl) hport rfl
  case ethTaken =>
    intro c m f sof g hon hup hlen hpause hg hroom
    refine becomes_run (exec_ethRxFrame _ _ _ _) (fun _ => rfl) ?_
    simp only [hon, hup, Nat.not_lt.mpr hlen, hpause, hg, hroom, Bool.not_true, Bool.or_self, decide_false, Bool.false_eq_true,
      if_false, if_true]
  case ethDropped =>
    intro c m f sof g hon hup hlen hpause hg hfull
    refine becomes_run (exec_ethRxFrame _ _ _ _) (fun _ => rfl) ?_
    simp only [hon, hup, Nat.not_lt.mpr hlen, hpause, hg, Nat.not_lt.mpr hfull, Bool.not_true, Bool.or_self, decide_false,
      Bool.false_eq_true, if_false, Chip.odDrop]
  case ethPause =>
    intro c m f sof q hon hup hlen hpause
    refine becomes_run (exec_ethRxFrame _ _ _ _) (fun _ => rfl) ?_
    simp only [hon, hup, Nat.not_lt.mpr hlen, hpause, Bool.not_true, Bool.or_self, decide_false, Bool.false_eq_true, if_false]
  case ethBad =>
    intro c m f sof hon hup
    refine becomes_run (exec_ethRxFrame _ _ _ _) (fun _ => rfl) ?_
    simp only [hon, hup, Bool.not_true, Bool.or_self, Bool.true_or, Bool.false_eq_true, if_false, if_true]
  case txSecond =>
    intro c m sof hon hup hpause hring
    refine becomes_run (exec_ethTxFrame _ _) (fun _ => rfl) ?_
    simp only [hon, hup, Nat.not_lt.mpr hpause, hring, Bool.not_true, Bool.not_false, Bool.or_self, decide_false, Bool.false_eq_true,
      if_false, if_true]
  case txFirst =>
    intro c m sof hon hup hpause hempty hring
    refine becomes_run (exec_ethTxFrame _ _) (fun _ => rfl) ?_
    simp only [hon, hup, Nat.not_lt.mpr hpause, hempty, hring, Bool.not_true, Bool.not_false, Bool.or_self, decide_false,
      Bool.false_eq_true, if_false, if_true]
  case ethLink =>
    intro c m up hother
    refine becomes_run (exec_ethLinkChange _ _) (fun _ => rfl) ?_
    exact if_neg (by rw [hother]; cases up <;> decide)
  case oddrop =>
    intro c m hport
    exact becomes_regRun (exec_oddropRead _) (fun _ => rfl) hport rfl
  case hostReset =>
    intro c
    exact becomes_run exec_pciaReset (fun _ => rfl) (pciaReset_eq c)
  case hostLink =>
    intro c up hother
    refine becomes_run (exec_pciaLinkChange _) (fun _ => rfl) ?_
    exact if_neg (by rw [hother]; cases up <;> decide)
  case doorbell =>
    intro c k hport hfree
    refine becomes_regRun (exec_odDoorbell _) (fun _ => rfl) hport ?_
    rw [Chip.odDoorbell, onesBelow_single]
    exact if_neg (ne_true_of_eq_false hfree)
  case slotAnswer =>
    intro c k bs rest hans
    refine becomes_run exec_odSlotAnswer (fun _ => rfl) ?_
    simp only [hans]
  case tlpNowhere =>
    intro c off
    dsimp only
    intro hup hon hd3 hnone
    have hread : c.hostReadDword false (off.toNat / 4 * 4) 15 = (respErr 0, c) := by
      simp only [Chip.hostReadDword, hnone, Bool.false_eq_true, if_false]
    refine becomes_run (exec_pciaInboundTlp _ _ _ _ _) (fun _ => rfl) ?_
    simp only [hup, hon, hd3, Bool.not_true, Bool.or_self, Bool.false_and, Bool.false_eq_true, if_false,
      hostReads_one c 0 _ hread rfl]
    rfl
  case tlpRead =>
    intro c off a r d hup hon hd3 hmesh hr h0
    have hread : c.hostReadDword false (off.toNat / 4 * 4) 15 = (r, d) := by
      simp only [Chip.hostReadDword, hmesh, Bool.false_eq_true, if_false, ne_eq, not_true_eq_false, hr]
    have hw : waitsStill r = false := by rw [waitsStill, h0]; rfl
    refine becomes_run (exec_pciaInboundTlp _ _ _ _ _) (fun _ => rfl) ?_
    simp only [hup, hon, hd3, Bool.not_true, Bool.or_self, Bool.false_and, Bool.false_eq_true, if_false,
      hostReads_one c 0 _ hread hw, if_pos h0]
    rfl
  case tlpWrite =>
    intro c off v ep r d hup hon hd3 hw h0
    refine becomes_run (exec_pciaInboundTlp _ _ _ _ _) (fun _ => rfl) ?_
    simp only [hup, hon, hd3, Bool.not_true, Bool.or_self, Bool.false_eq_true, if_false, List.length_singleton,
      show ¬ 128 < 1 by decide, decide_false, Bool.and_false, if_true, Chip.hostWrites]
    rw [show (15 : BitVec 4).toNat = 15 from rfl, hw]
    exact if_pos h0
  case udpOpen =>
    intro c k d rest
    dsimp only
    intro hq hok hop hsid
    refine becomes_run (exec_odUdpDatagram _) (fun _ => rfl) ?_
    simp only [hq, Chip.odCheck, hok, hop, hsid, Bool.not_true, Bool.false_eq_true, if_false, if_true, Chip.odAsk]
  case udpSealed =>
    intro c k d rest x
    dsimp only
    intro hq hok h1 h2 hsid hx hopen hseq hmac
    have hcheck := odCheck_of_sealed (c := c.onMac k.val (fun x => { x with odq := rest })) hok h1 h2 hsid hx hopen hseq hmac
    refine becomes_run (exec_odUdpDatagram _) (fun _ => rfl) ?_
    simp only [hq, hcheck, Chip.odAsk]
    rfl

end Sys2Proof.Machine
end


section
/-!
SUPPORT. A customer load while a gang's other queues are not idle.
-/
namespace Sys2Proof.Machine

/-- What a command taken on channel A leaves as its answer (R349). -/
theorem boxA_sealTaken (op : Nat) (tag : Byte) (args : List Nat) (a : SealAnswer) :
    (sealTaken false op tag args a).su.boxA.bind Mailbox.answer =
      if a.waits || decide (a.later ≠ .nothing) then none else some (a.status, a.rsp) := rfl

/-- The manager of a gang of two, in BOOT, with its vendor image loaded and its own queue empty, while the gang's other device is busy.
IMAGE_LOAD names a customer microcode container in the flash. -/
def busyGangChip : Chip where
  domains := [.mesh, .sealUnit]
  regs := [(Reg.SYS_MODE, 0x100), (Reg.SPIN_STAT, 0xA0000000), (Reg.ASQ_LOAD_STAT, 0x80000000), (Reg.SEAL_STATE, 0x10000000),
    (Reg.SEAL_ARGn 0, 0x10000000), (Reg.SEAL_ARGn 2, 3)]
  mem := [(0x10000003, 3)]
  spin := { gang := true, gangMap := 3, peers := [(0, { idle := false })] }

theorem sealReady_busyGangChip : sealReady busyGangChip false = true := by decide +kernel

theorem flashHolds_busyGangChip : flashHolds busyGangChip (sealReads false 2 (sealArgs busyGangChip false)) = false := by decide +kernel

/-- The load is refused: the answer, WRONG_PHASE, does not wait and nothing is left to do. -/
theorem imageLoad_busyGangChip :
    ((sealWork false 2 busyGangChip (sealArgs busyGangChip false)).waits ||
      decide ((sealWork false 2 busyGangChip (sealArgs busyGangChip false)).later ≠ .nothing)) = false := by decide +kernel

/-- Refutes O29: its clause on a customer load asks for an empty queue and no round of the device itself, but the queue of a gang's manager
is idle only when the gang's others are (R527), and the load is refused with WRONG_PHASE else (R136, R588). In `busyGangChip` another is busy, and
the command has its answer at once. -/
theorem not_sealMailboxCommandsComplete : ¬ Obligations.SealMailboxCommandsComplete := by
  rintro ⟨-, -, hload, -⟩
  have hclaim := hload busyGangChip 0 sealReady_busyGangChip flashHolds_busyGangChip (by decide) (by decide +kernel) (by decide +kernel)
    (by decide +kernel) (by decide +kernel) (by decide +kernel)
  have hmodel : Becomes (.imageLoad 0) busyGangChip (sealTaken false 2 0 (sealArgs busyGangChip false)
      (sealWork false 2 busyGangChip (sealArgs busyGangChip false))) :=
    becomes_regRun (exec_imageLoad 0) (fun _ => rfl) (sealReady_iff.mp sealReady_busyGangChip).1
      (sealCmd_of_sealReady sealReady_busyGangChip 0 flashHolds_busyGangChip)
  have hsu := congrArg Chip.su (becomes_settle_unique (by decide +kernel) hclaim hmodel)
  rw [settle_su, settle_su] at hsu
  have hans := congrArg (fun u : Seal => u.boxA.bind Mailbox.answer) hsu
  rw [boxA_sealTaken, boxA_sealTaken, imageLoad_busyGangChip] at hans
  exact absurd hans (by simp)

end Sys2Proof.Machine
end


section
/-!
SUPPORT. A message that is next at the Object Dictionary Engine.
-/
namespace Sys2Proof.Machine

section
variable {c : Chip} {j : OdJob}

/-- The only access of the queue is next where nothing holds it (R432). -/
theorem nextJob_of_single (hjobs : c.od.jobs = [j]) (hheld : jobHeld c j = false)
    (himage : rsaTaken c = false ∨ inService c = false ∨ jobVerifies j = false) : nextJob c = some j := by
  have hgo : (rsaTaken c && inService c && jobVerifies j) = false := by
    rcases himage with h | h | h <;> rw [h] <;> simp
  simp only [nextJob, hjobs, List.find?_cons, hheld, Bool.not_false, hgo, Bool.false_eq_true, if_false]

theorem takeJob_of_single (hjobs : c.od.jobs = [j]) : c.takeJob j = { c with od := { c.od with jobs := [] } } := by
  simp only [Chip.takeJob, hjobs, List.erase_cons_head]

/-- Before a message nothing else is performed. -/
theorem odGo_of_message {via : OdVia} {m : List Byte} (hjobs : c.od.jobs = [.message via m])
    (hnext : nextJob c = some (.message via m)) : c.odGo = c := by
  rw [Chip.odGo, hjobs]
  simp only [List.length_singleton, Chip.odDrain, hnext]

theorem odServe_of_single {via : OdVia} {m : List Byte} {want : Nat → Bool} (hjobs : c.od.jobs = [.message via m])
    (hnext : nextJob c = some (.message via m)) (hwant : want (msgOp m) = true) :
    c.odServe want = (Chip.msgServe { c with od := { c.od with jobs := [] } } via m).odGo := by
  simp only [Chip.odServe, odGo_of_message hjobs hnext, hnext, hwant, if_true, takeJob_of_single hjobs]

end

/-- A datagram's request is served while its session is there (R417). -/
theorem msgServe_of_session {c : Chip} {mac : Nat} {src m : List Byte}
    (h : macDue (msgOp m) (msgSid m) = false ∨ (sessionOf c (msgSid m)).isSome = true) :
    c.msgServe (.udp mac src) m = c.msgRun (.udp mac src) m := by
  unfold Chip.msgServe
  refine if_neg ?_
  rcases h with h | h
  · simp [h]
  · simp [Option.isNone_eq_false_iff.mpr h]

/-- A message that is not a WRITE is not held, and no image waits in it. -/
theorem nextJob_of_message {c : Chip} {via : OdVia} {m : List Byte} (hjobs : c.od.jobs = [.message via m]) (hop : msgOp m ≠ 0x11) :
    nextJob c = some (.message via m) :=
  nextJob_of_single hjobs (by simp [jobHeld, hop]) (Or.inr (Or.inr (by simp [jobVerifies, hop])))

/-- A WRITE is next where no transaction is being applied and it brings no image that would have to wait. -/
theorem nextJob_of_writeMessage {c : Chip} {via : OdVia} {m : List Byte} (hjobs : c.od.jobs = [.message via m])
    (happly : c.bit Reg.ODE_STAT 30 = false) (himage : rsaTaken c = false ∨ bytesNat (msgBody m) 3 1 % 2 = 0) :
    nextJob c = some (.message via m) := by
  refine nextJob_of_single hjobs (by simp [jobHeld, happly]) ?_
  rcases himage with h | h
  · exact Or.inl h
  · exact Or.inr (Or.inr (by simp [jobVerifies, h]))

/-- A row that serves the messages of some OPs serves the one that is next, and the accesses behind it go on. -/
theorem becomes_odServe {c d : Chip} {i : Instr} {mac : Nat} {src m : List Byte} {want : Nat → Bool}
    (hi : ∀ s, exec i s = run (fun c => c.odServe want) s) (hjobs : c.od.jobs = [.message (.udp mac src) m])
    (hnext : nextJob c = some (.message (.udp mac src) m)) (hwant : want (msgOp m) = true)
    (hsession : macDue (msgOp m) (msgSid m) = false ∨
      (sessionOf { c with od := { c.od with jobs := [] } } (msgSid m)).isSome = true)
    (hrun : Chip.msgRun { c with od := { c.od with jobs := [] } } (.udp mac src) m = d) : Becomes i c d.odGo := by
  refine becomes_run hi (fun _ => rfl) ?_
  rw [odServe_of_single hjobs hnext hwant, msgServe_of_session hsession, hrun]

/-! ### Writes (R432, R433) -/

section
variable {c : Chip} {r : OdRights} {i j : Nat} {d : List Byte}

theorem odPasses_iff : odPasses c r i j d = true ↔
    odWriteAbort c r i j d = 0 ∧ stagesWrites c r = false ∧ inWorkerWindow c i = false := by
  simp only [odPasses, Bool.and_eq_true, decide_eq_true_eq, Bool.not_eq_true', and_assoc]

/-- A write that passes its checks is performed, and logged where its object is firmware's (R431, R433). -/
theorem odWrite_of_odPasses (hp : odPasses c r i j d = true) {w : OdRow} (hrow : odRow c i j = some w) (worker : Nat) :
    c.odWrite r worker i j d = ((c.odPerform r i j w d).1,
      if (c.odPerform r i j w d).1 = 0 && firmwareBacked i j w then ((c.odPerform r i j w d).2.odLog i j).noteRestart i j d
      else (c.odPerform r i j w d).2) := by
  obtain ⟨habort, hstages, hwindow⟩ := odPasses_iff.mp hp
  simp only [Chip.odWrite, habort, hstages, hwindow, hrow, ne_eq, not_true_eq_false, Bool.false_and, Bool.false_eq_true, if_false]

/-- A write of one segment drops what its client had pending (R432). -/
theorem odSegment_whole (c : Chip) (r : OdRights) (client i j : Nat) (d : List Byte) :
    c.odSegment r client i j true 0 d = (c.dropPending client).odWrite r (odNat c 0x2F00 0) i j d := by
  simp only [Chip.odSegment, if_true]

theorem dropPending_of_none (hw : c.od.writes = []) (client : Nat) : c.dropPending client = c := by
  rw [Chip.dropPending, hw, List.filter_nil, ← hw]

end

/-! ### The Seal Unit's part (R358) -/

/-- A session opens under one of the free IDs, which is a free value (log entry 59). -/
theorem sessionOpen_of_free {c : Chip} {fas : List Byte} {ids : List Nat} (hfas : c.su.priv.fas = some fas)
    (hlock : c.su.lockedAt = none) (hids : (List.range 16).filter (fun i => (sessionOf c i).isNone) = ids) (hfree : ids ≠ [])
    (args : List Nat) :
    sessionOpen c args =
      { status := 0, rsp := listGet 0 ids (c.drawFree.1.toNat % ids.length) :: wordsOfBytes (c.drawFree.2.drawBytes 16).1
        chip := (c.drawFree.2.drawBytes 16).2.putSession (listGet 0 ids (c.drawFree.1.toNat % ids.length))
          { nc := argBytes args 0 4, ns := (c.drawFree.2.drawBytes 16).1
            key := (leBytes 64 (Config.hmac512 fas ([0x53, 0x4C, 0x4E, 0x31] ++ otpSerial c ++ argBytes args 0 4 ++
              (c.drawFree.2.drawBytes 16).1)).toNat).take 32
            since := c.ns } } := by
  have hsome : ids.isEmpty = false := by simpa using hfree
  simp only [sessionOpen, hfas, hlock, hids, hsome, Option.isSome_none, Bool.false_eq_true, if_false]

/-- The right proof opens the session (R358). -/
theorem sessionAuth_of_proof {c : Chip} {args : List Nat} {x : Session} (hx : sessionOf c (argOf args 0) = some x)
    (hclosed : x.isOpen = false) (hproof : mac16 x.key (1 :: (x.nc ++ x.ns)) = argBytes args 1 4) :
    sessionAuth c args =
      { status := 0, rsp := wordsOfBytes (mac16 x.key (2 :: (x.ns ++ x.nc))), needs := some (argOf args 0)
        chip := Chip.raise { c.putSession (argOf args 0) { x with isOpen := true, since := c.ns } with
          su := { (c.putSession (argOf args 0) { x with isOpen := true, since := c.ns }).su with fails := 0 } } 234 } := by
  simp only [sessionAuth, hx, hclosed, hproof, Bool.false_eq_true, if_false, if_true]

section
variable {c : Chip} {via : OdVia} {m : List Byte}

theorem msgRun_open (hop : msgOp m = 1) : c.msgRun via m = c.msgOpen via m := by simp only [Chip.msgRun, hop]
theorem msgRun_auth (hop : msgOp m = 2) : c.msgRun via m = c.msgAuth via m := by simp only [Chip.msgRun, hop]
theorem msgRun_close (hop : msgOp m = 3) : c.msgRun via m = c.msgClose via m := by simp only [Chip.msgRun, hop]
theorem msgRun_read (hop : msgOp m = 0x10) : c.msgRun via m = c.msgRead via m := by simp only [Chip.msgRun, hop]
theorem msgRun_write (hop : msgOp m = 0x11) : c.msgRun via m = c.msgWrite via m := by simp only [Chip.msgRun, hop]
theorem msgRun_other (hop : msgOp m ∉ [1, 2, 3, 0x10, 0x11]) : c.msgRun via m = c.odAnswer via m (msgSid m) 0x05040001 [] := by
  simp only [List.mem_cons, List.not_mem_nil, or_false, not_or] at hop
  obtain ⟨h1, h2, h3, h16, h17⟩ := hop
  unfold Chip.msgRun
  split
  · exact absurd ‹_› h1
  · exact absurd ‹_› h2
  · exact absurd ‹_› h3
  · exact absurd ‹_› h16
  · exact absurd ‹_› h17
  · rfl

theorem msgOpen_of_serves (hlen : (msgBody m).length = 16) (hserves : sealServes c = true) {a : SealAnswer}
    (ha : sessionOpen c (wordsOfBytes (msgBody m)) = a) :
    c.msgOpen via m =
      if a.status ≠ 0 then a.chip.odAnswer via m 0xFF 0x08000022 []
      else Chip.odAnswer { a.chip with od := { a.chip.od with
        copies := a.chip.od.copies.filter (fun e => decide (e.1 ≠ listGet 0 a.rsp 0)) } } via m (listGet 0 a.rsp 0) 0
          ((a.rsp.drop 1).flatMap (leBytes 4)) := by
  unfold Chip.msgOpen
  rw [hlen, hserves, ha]
  rfl

theorem msgAuth_of_serves (hlen : (msgBody m).length = 16) (hserves : sealServes c = true) {a : SealAnswer}
    (ha : sessionAuth c (msgSid m :: wordsOfBytes (msgBody m)) = a) :
    c.msgAuth via m =
      if a.status ≠ 0 then a.chip.odAnswer via m (msgSid m) 0x08000020 []
      else a.chip.odAnswer via m (msgSid m) 0 (a.rsp.flatMap (leBytes 4)) := by
  unfold Chip.msgAuth
  rw [hlen, hserves, ha]
  rfl

theorem msgRead_of_length {mac : Nat} {src : List Byte} (hlen : (msgBody m).length = 12) {x : Nat × List Byte × Chip}
    (hx : c.odRead none (bytesNat (msgBody m) 0 2) (bytesNat (msgBody m) 2 1) = x) :
    c.msgRead (.udp mac src) m =
      if x.1 ≠ 0 then x.2.2.odAnswer (.udp mac src) m (msgSid m) x.1 []
      else x.2.2.odAnswer (.udp mac src) m (msgSid m) 0
        (leBytes 4 x.2.1.length ++ (x.2.1.drop (bytesNat (msgBody m) 4 4)).take (Nat.min 1396 (bytesNat (msgBody m) 8 2))) := by
  rw [← hx]
  exact if_neg (not_not_intro hlen)

/-- A READ of a value that the engine holds (R416, R428). -/
theorem msgRead_of_held {mac : Nat} {src : List Byte} {w : OdRow} (hlen : (msgBody m).length = 12)
    (hwindow : inWorkerWindow c (bytesNat (msgBody m) 0 2) = false)
    (hw : odRow c (bytesNat (msgBody m) 0 2) (bytesNat (msgBody m) 2 1) = some w) (hback : w.back = .held) (hacc : w.acc ≠ .wo) :
    c.msgRead (.udp mac src) m = c.odAnswer (.udp mac src) m (msgSid m) 0
      (leBytes 4 (odHeld c (bytesNat (msgBody m) 0 2) (bytesNat (msgBody m) 2 1)).length ++
        ((odHeld c (bytesNat (msgBody m) 0 2) (bytesNat (msgBody m) 2 1)).drop (bytesNat (msgBody m) 4 4)).take
          (Nat.min 1396 (bytesNat (msgBody m) 8 2))) := by
  simp only [Chip.msgRead, hlen, ne_eq, not_true_eq_false, if_false, Chip.odRead, hwindow, hw, hback, hacc, Bool.false_eq_true]

theorem msgWrite_of_long (hlen : 8 ≤ (msgBody m).length) {code : Nat} {d : Chip}
    (hx : c.odSegment (rightsOf via (msgSid m)) (clientOf via (msgSid m)) (bytesNat (msgBody m) 0 2) (bytesNat (msgBody m) 2 1)
      (bytesNat (msgBody m) 3 1 % 2 = 1) (bytesNat (msgBody m) 4 4) ((msgBody m).drop 8) = (code, d)) :
    c.msgWrite via m = d.odAnswer via m (msgSid m) code [] := by
  refine (if_neg (Nat.not_lt.mpr hlen)).trans ?_
  rw [hx]

end

/-- The one segment of a client without pending writes, which passes its checks and is performed (R431 to R433). -/
theorem odSegment_of_performed {c : Chip} {r : OdRights} {i j : Nat} {d : List Byte} {w : OdRow} (hp : odPasses c r i j d = true)
    (hrow : odRow c i j = some w) (hdone : (c.odPerform r i j w d).1 = 0) (hfirm : firmwareBacked i j w = true)
    (hnone : c.od.writes = []) (client : Nat) :
    c.odSegment r client i j true 0 d = (0, ((c.odPerform r i j w d).2.odLog i j).noteRestart i j d) := by
  rw [odSegment_whole, dropPending_of_none hnone, odWrite_of_odPasses hp hrow, hdone, hfirm]
  rfl

/-- The first of several segments is kept while there is room (R432). -/
theorem odSegment_of_first {c : Chip} (client : Nat) (hroom : (c.od.writes.filter (fun w => decide (w.client ≠ client))).length < 16)
    (r : OdRights) (i j : Nat) (d : List Byte) :
    c.odSegment r client i j false 0 d = (0, { c with od := { c.od with
      writes := c.od.writes.filter (fun w => decide (w.client ≠ client)) ++
        [{ client := client, index := i, sub := j, data := d, since := c.ns, worker := odNat c 0x2F00 0 }] } }) := by
  simp only [Chip.odSegment, if_true, Bool.false_eq_true, if_false, Chip.dropPending, Nat.not_le.mpr hroom]

/-! ### Accesses that are complete in themselves (R432) -/

/-- What the engine performs of an access that is no message. -/
def jobRun (c : Chip) : OdJob → Chip
  | .message _ _ => c
  | .usdo q => c.usdoRun q
  | .rpdo f => c.rpdoRun f
  | .write session udp i j d => c.directRun session udp i j d
  | .read i j => c.windowRead i j
  | .fromManager isSealed i j d => c.managerRun isSealed i j d

/-- An access that is no message. -/
def noMessage : OdJob → Bool
  | .message _ _ => false
  | .usdo _ | .rpdo _ | .write .. | .read .. | .fromManager .. => true

theorem odDrain_one {c : Chip} {j : OdJob} (hj : noMessage j = true) (hnext : nextJob c = some j) :
    c.odDrain 1 = jobRun (c.takeJob j) j := by
  cases j with
  | message => cases hj
  | _ => simp only [Chip.odDrain, hnext, jobRun]

/-- The queue with one access. -/
def Chip.withJob (c : Chip) (j : OdJob) : Chip := { c with od := { c.od with jobs := [j] } }

theorem withJobs_nil {c : Chip} (hjobs : c.od.jobs = []) : { c with od := { c.od with jobs := [] } } = c := by rw [← hjobs]

/-- An access that finds the queue empty is performed at once where nothing holds it (log entry 95). -/
theorem odAsk_of_empty {c : Chip} {j : OdJob} (hjobs : c.od.jobs = []) (hj : noMessage j = true) (hheld : jobHeld c j = false)
    (himage : rsaTaken c = false ∨ inService c = false ∨ jobVerifies j = false) : c.odAsk j = jobRun c j := by
  have hqueue : { c with od := { c.od with jobs := c.od.jobs ++ [j] } } = c.withJob j := by rw [hjobs]; rfl
  have hnext : nextJob (c.withJob j) = some j := nextJob_of_single rfl hheld himage
  have htake : (c.withJob j).takeJob j = c := (takeJob_of_single rfl).trans (withJobs_nil hjobs)
  rw [Chip.odAsk, hqueue, Chip.odGo]
  exact (odDrain_one hj hnext).trans (by rw [htake])

theorem odFree_iff {c : Chip} : odFree c = true ↔ c.od.jobs = [] ∧ c.bit Reg.ODE_STAT 30 = false := by
  simp only [odFree, Bool.and_eq_true, List.isEmpty_iff, Bool.not_eq_true']

theorem jobHeld_of_applied {c : Chip} (h : c.bit Reg.ODE_STAT 30 = false) (j : OdJob) : jobHeld c j = false := by
  unfold jobHeld
  rw [h]
  rfl

/-- A free engine performs an access that needs no image verified, or finds the RSA engine free (R322, R432). -/
theorem odAsk_of_odFree {c : Chip} {j : OdJob} (hfree : odFree c = true) (hj : noMessage j = true)
    (himage : rsaTaken c = false ∨ inService c = false ∨ jobVerifies j = false) : c.odAsk j = jobRun c j := by
  obtain ⟨hjobs, happly⟩ := odFree_iff.mp hfree
  exact odAsk_of_empty hjobs hj (jobHeld_of_applied happly j) himage

/-- Settles O35: the message that is next is served as its OP says. The codes of a refused OPEN or AUTH are log 81, the datagrams log 82,
the checks at execution log 83 and the clients log 94. -/
theorem dictionaryMessagesComplete : Obligations.DictionaryMessagesComplete := by
  unfold Obligations.DictionaryMessagesComplete
  refine ⟨?opening, ?opened, ?authed, ?auth, ?close, ?readHeld, ?writeWhole, ?writeFirst, ?read, ?write, ?badOp, ?dropped, ?taken,
    ?pending, ?tunnel⟩
  case opening =>
    intro c mac src m
    dsimp only
    intro hjobs hop hlen hserves
    exact becomes_odServe exec_odOpen hjobs (nextJob_of_message hjobs (by rw [hop]; decide)) (by rw [hop]; rfl)
      (Or.inl (by rw [macDue, hop]; rfl)) ((msgRun_open hop).trans (msgOpen_of_serves hlen hserves rfl))
  case opened =>
    intro c mac src m fas ids
    dsimp only
    intro hjobs hop hlen hserves hfas hlock hids hfree
    exact becomes_odServe exec_odOpen hjobs (nextJob_of_message hjobs (by rw [hop]; decide)) (by rw [hop]; rfl)
      (Or.inl (by rw [macDue, hop]; rfl))
      ((msgRun_open hop).trans (msgOpen_of_serves hlen hserves
        (sessionOpen_of_free (c := { c with od := { c.od with jobs := [] } }) hfas hlock hids hfree _)))
  case authed =>
    intro c mac src m x
    dsimp only
    intro hjobs hop hlen hserves hx hclosed hproof
    exact becomes_odServe exec_odAuth hjobs (nextJob_of_message hjobs (by rw [hop]; decide)) (by rw [hop]; rfl)
      (Or.inl (by rw [macDue, hop]; rfl))
      ((msgRun_auth hop).trans (msgAuth_of_serves hlen hserves
        (sessionAuth_of_proof (c := { c with od := { c.od with jobs := [] } }) hx hclosed hproof)))
  case auth =>
    intro c mac src m
    dsimp only
    intro hjobs hop hlen hserves
    exact becomes_odServe exec_odAuth hjobs (nextJob_of_message hjobs (by rw [hop]; decide)) (by rw [hop]; rfl)
      (Or.inl (by rw [macDue, hop]; rfl)) ((msgRun_auth hop).trans (msgAuth_of_serves hlen hserves rfl))
  case close =>
    intro c mac src m
    dsimp only
    intro hjobs hop hsession
    refine becomes_odServe exec_odClose hjobs (nextJob_of_message hjobs (by rw [hop]; decide)) (by rw [hop]; rfl) (Or.inr hsession) ?_
    rw [msgRun_close hop, Chip.msgClose]
  case readHeld =>
    intro c mac src m
    dsimp only
    intro hjobs hop hlen hsession hwindow hrow
    obtain ⟨w, hw, hheld⟩ := (Option.any_eq_true _ _).mp hrow
    obtain ⟨hback, hacc⟩ := of_decide_eq_true hheld
    exact becomes_odServe exec_odRead hjobs (nextJob_of_message hjobs (by rw [hop]; decide)) (by rw [hop]; rfl) (Or.inr hsession)
      ((msgRun_read hop).trans (msgRead_of_held hlen hwindow hw hback hacc))
  case writeWhole =>
    intro c mac src m
    dsimp only
    intro hjobs hop happly hrsa hlen hsession hlast hoff hpass hrow hfirm hdone hnone
    obtain ⟨w, hw⟩ := Option.isSome_iff_exists.mp hrow
    rw [hw, Option.getD_some] at hfirm hdone ⊢
    refine becomes_odServe exec_odWrite hjobs (nextJob_of_writeMessage hjobs happly (Or.inl hrsa)) (by rw [hop]; rfl) (Or.inr hsession)
      ((msgRun_write hop).trans (msgWrite_of_long hlen ?_))
    rw [hlast, hoff]
    exact odSegment_of_performed hpass hw hdone hfirm hnone _
  case writeFirst =>
    intro c mac src m
    dsimp only
    intro hjobs hop happly hlen hsession hlast hoff hroom
    refine becomes_odServe exec_odWrite hjobs (nextJob_of_writeMessage hjobs happly (Or.inr hlast)) (by rw [hop]; rfl) (Or.inr hsession)
      ((msgRun_write hop).trans (msgWrite_of_long hlen ?_))
    rw [hlast, hoff]
    exact odSegment_of_first (c := { c with od := { c.od with jobs := [] } }) _ hroom _ _ _ _
  case read =>
    intro c mac src m
    dsimp only
    intro hjobs hop hlen hsession
    generalize hx : Chip.odRead _ none _ _ = x
    exact becomes_odServe exec_odRead hjobs (nextJob_of_message hjobs (by rw [hop]; decide)) (by rw [hop]; rfl) (Or.inr hsession)
      ((msgRun_read hop).trans (msgRead_of_length hlen hx))
  case write =>
    intro c mac src m
    dsimp only
    intro hjobs hop happly hrsa hlen hsession
    generalize hx : Chip.odSegment _ _ _ _ _ _ _ _ = x
    exact becomes_odServe exec_odWrite hjobs (nextJob_of_writeMessage hjobs happly (Or.inl hrsa)) (by rw [hop]; rfl) (Or.inr hsession)
      ((msgRun_write hop).trans (msgWrite_of_long hlen hx))
  case badOp =>
    intro c mac src m
    dsimp only
    intro hjobs hop hsession
    have hwant : (!(decide (1 ≤ msgOp m) && decide (msgOp m ≤ 3)) && decide (msgOp m ≠ 0x10) && decide (msgOp m ≠ 0x11)) = true := by
      simp only [List.mem_cons, List.not_mem_nil, or_false, not_or] at hop
      simp
      omega
    exact becomes_odServe exec_odBadOp hjobs (nextJob_of_message hjobs (fun h => hop (by rw [h]; decide))) hwant (Or.inr hsession)
      (msgRun_other hop)
  case dropped =>
    intro c k d rest e hq hcheck
    refine becomes_run (exec_odUdpDatagram _) (fun _ => rfl) ?_
    simp only [hq, hcheck]
  case taken =>
    intro c k d rest e hq hcheck
    refine becomes_run (exec_odUdpDatagram _) (fun _ => rfl) ?_
    simp only [hq, hcheck, Chip.odAsk]
  case pending =>
    intro c
    exact becomes_run exec_pendingWriteTimeout (fun _ => rfl) rfl
  case tunnel =>
    intro c n m
    dsimp only
    intro hfree
    exact becomes_run (exec_tunnelRequest _ _) (fun _ => rfl) (odAsk_of_odFree hfree rfl (Or.inr (Or.inr rfl)))

end Sys2Proof.Machine
end


section
/-!
SUPPORT. The rows that write one object of the dictionary.
-/
namespace Sys2Proof.Machine

/-! ### The rows of the objects -/

theorem odRow_mode (c : Chip) : odRow c 0x2000 0 = some (odSpecial 1 .rww false 0 5) := rfl
theorem odRow_externalTrigger (c : Chip) : odRow c 0x3200 0x0A = some (odSpecial 1 .rww false 0 1) := rfl
theorem odRow_microcode (c : Chip) : odRow c 0x4401 0 = some (odVar 0x100000 .wo true) := rfl
theorem odRow_weave (c : Chip) : odRow c 0x5400 0 = some (odVar 0x100000 .wo true) := rfl
theorem odRow_store (c : Chip) : odRow c 0x1010 1 = some (odSpecial 4 .rw true 0 (2 ^ 32 - 1)) := rfl
theorem odRow_restore (c : Chip) : odRow c 0x1011 1 = some (odSpecial 4 .rw true 0 (2 ^ 32 - 1)) := rfl
theorem odRow_debug (c : Chip) : odRow c 0x5F20 0 = some (odVar 1024 .wo true) := rfl
theorem odRow_txCmd (c : Chip) : odRow c 0x5F30 1 = some (odSpecial 1 .wo true 1 4) := rfl

/-! ### A write that is complete in itself (R432, R433) -/

section
variable {c : Chip} {r : OdRights} {i j : Nat} {d : List Byte} {w : OdRow} {x : Nat × Chip}

theorem odWrite_of_abort {code : Nat} (habort : odWriteAbort c r i j d = code) (hcode : code ≠ 0) (worker : Nat) :
    c.odWrite r worker i j d = (code, c) := by
  simp only [Chip.odWrite, habort, ne_eq, hcode, not_false_eq_true, if_true]

theorem noteRestart_of_other (hi : ¬ (0x3000 ≤ i ∧ i < 0x3020)) : c.noteRestart i j d = c := by
  refine if_neg ?_
  rintro ⟨hlo, hhi, -⟩
  exact hi ⟨hlo, hhi⟩

/-- A performed write of a firmware-backed object that is no stream's is logged (R431). -/
theorem odWrite_logged (hp : odPasses c r i j d = true) (hrow : odRow c i j = some w) (hfirm : firmwareBacked i j w = true)
    (hi : ¬ (0x3000 ≤ i ∧ i < 0x3020)) (hx : c.odPerform r i j w d = x) (worker : Nat) :
    c.odWrite r worker i j d = odLogged i j x := by
  rw [odWrite_of_odPasses hp hrow, hx, hfirm, noteRestart_of_other hi, Bool.and_true, odLogged]
  simp only [decide_eq_true_eq]

theorem odWrite_unlogged (hp : odPasses c r i j d = true) (hrow : odRow c i j = some w) (hfirm : firmwareBacked i j w = false)
    (hx : c.odPerform r i j w d = x) (worker : Nat) : c.odWrite r worker i j d = x := by
  rw [odWrite_of_odPasses hp hrow, hx, hfirm, Bool.and_false]
  rfl

theorem directRun_eq (session : Option Nat) (udp : Bool) :
    c.directRun session udp i j d = odDone (c.odWrite (odBrings c session udp) (odNat c 0x2F00 0) i j d) := rfl

/-- A row that asks the free engine for one write answers it. -/
theorem becomes_write {a : Instr} {session : Option Nat} {udp : Bool}
    (hrow : ∀ s, exec a s = run (fun c => c.odAsk (.write session udp i j d)) s) (hfree : odFree c = true)
    (himage : rsaTaken c = false ∨ inService c = false ∨ jobVerifies (.write session udp i j d) = false)
    (hx : c.odWrite (odBrings c session udp) (odNat c 0x2F00 0) i j d = x) : Becomes a c (odDone x) := by
  refine becomes_run hrow (fun _ => rfl) ?_
  rw [odAsk_of_odFree hfree rfl himage, ← hx]
  exact directRun_eq session udp

/-! ### What each object does -/

theorem odPerform_mode : c.odPerform r 0x2000 0 w d = c.modeRequest (leNat d) r.sealed := by simp [Chip.odPerform]
theorem odPerform_externalTrigger :
    c.odPerform r 0x3200 0x0A w d = (0, if leNat d = 1 then c.externalTrigger else c) := by simp [Chip.odPerform]
theorem odPerform_microcode : c.odPerform r 0x4401 0 w d = c.odMicrocode d := by simp [Chip.odPerform]
theorem odPerform_weave : c.odPerform r 0x5400 0 w d = c.odWeave d := by simp [Chip.odPerform]
theorem odPerform_store : c.odPerform r 0x1010 1 w d = c.odSave (leNat d) := by simp [Chip.odPerform]
theorem odPerform_restore : c.odPerform r 0x1011 1 w d = c.odRestore (leNat d) := by simp [Chip.odPerform]
theorem odPerform_debug : c.odPerform r 0x5F20 0 w d = c.odDebugWrite d := by simp [Chip.odPerform]
theorem odPerform_txCmd : c.odPerform r 0x5F30 1 w d = c.odTxCmd r.session (leNat d) := by simp [Chip.odPerform]

end

/-- A byte as a value. -/
theorem leNat_singleton (b : Byte) : leNat [b] = b.toNat := by simp [leNat]

theorem leNat_word (v : Word) : leNat (leBytes 4 v.toNat) = v.toNat := by
  rw [leNat_leBytes]
  exact Nat.mod_eq_of_lt v.isLt

theorem inWorkerWindow_of_lt {c : Chip} {i : Nat} (h : i < 0x6000) : inWorkerWindow c i = false := by
  simp only [inWorkerWindow, Nat.not_le.mpr h, decide_false, Bool.false_and]

theorem inWorkerWindow_of_manager {c : Chip} {i : Nat} (hlo : 0x6000 ≤ i) (hhi : i < 0xA000) (hmgr : isManager c = true) :
    inWorkerWindow c i = true := by
  simp only [inWorkerWindow, hlo, hhi, hmgr, decide_true, Bool.and_self]

/-- A mode beyond 5 is out of range (R433). -/
theorem odWriteAbort_mode {c : Chip} {m : Byte} (hm : m.toNat > 5) (r : OdRights) : odWriteAbort c r 0x2000 0 [m] = 0x06090030 := by
  simp [odWriteAbort, inWorkerWindow_of_lt, odRow_mode, odSpecial, leNat_singleton, hm]

/-- A microcode image outside a session is refused (R429, R454). -/
theorem odWriteAbort_microcode_unsealed {c : Chip} {d : List Byte} (hlen : d.length ≤ 0x100000) :
    odWriteAbort c {} 0x4401 0 d = 0x08000020 := by
  simp [odWriteAbort, inWorkerWindow_of_lt, odRow_microcode, odVar, hlen]

/-- An access that waits stays in the queue (R432). -/
theorem odAsk_of_waiting {c : Chip} {j : OdJob} (hjobs : c.od.jobs = []) (hnext : nextJob (c.withJob j) = none) :
    c.odAsk j = c.withJob j := by
  have hqueue : { c with od := { c.od with jobs := c.od.jobs ++ [j] } } = c.withJob j := by rw [hjobs]; rfl
  rw [Chip.odAsk, hqueue, Chip.odGo]
  show Chip.odDrain 1 _ = _
  simp only [Chip.odDrain, hnext]

/-- In SERVICE an image waits for the stook that has the RSA engine, and behind a transaction's application (R322, R432). -/
theorem nextJob_of_image {c : Chip} {j : OdJob} (hrsa : rsaTaken c = true) (hservice : inService c = true)
    (himage : jobVerifies j = true) : nextJob (c.withJob j) = none := by
  have hwait : (rsaTaken (c.withJob j) && inService (c.withJob j) && jobVerifies j) = true := by
    rw [himage, Bool.and_true]
    exact (congrArg₂ and hrsa hservice)
  have hqueue : (c.withJob j).od.jobs = [j] := rfl
  cases hheld : jobHeld (c.withJob j) j with
  | true => simp only [nextJob, hqueue, List.find?_cons, hheld, Bool.not_true, List.find?_nil]
  | false => simp only [nextJob, hqueue, List.find?_cons, hheld, Bool.not_false, hwait, if_true]

/-- A write of 0x1010:01 stores where the word is "save" (R462). -/
theorem odSave_of_on {c : Chip} (hcap : c.silo.capsule = none) (v : Nat) :
    c.odSave v = if v = 0x65766173 then (0, (c.switchHalf (persistentRecords c)).raise 235) else (0x08000020, c) := by
  rw [Chip.odSave, hcap]
  rfl

theorem odRestore_of_on {c : Chip} (hcap : c.silo.capsule = none) (v : Nat) :
    c.odRestore v = if v = 0x64616F6C then (0, (c.switchHalf []).raise 235) else (0x08000020, c) := by
  rw [Chip.odRestore, hcap]
  rfl

theorem length_flatMap_leBytes8 (rs : List (BitVec 64)) : (rs.flatMap (fun r => leBytes 8 r.toNat)).length = 8 * rs.length := by
  induction rs with
  | nil => rfl
  | cons r rs ih =>
    rw [List.flatMap_cons, List.length_append, ih, length_leBytes, List.length_cons]
    omega

/-- The debug accesses of a write of whole records (R536). -/
theorem odDebugWrite_records (c : Chip) (rs : List (BitVec 64)) :
    c.odDebugWrite (rs.flatMap (fun r => leBytes 8 r.toNat)) =
      (0, { (c.odDebug rs.length (rs.flatMap (fun r => leBytes 8 r.toNat))).2 with
        dbg := { (c.odDebug rs.length (rs.flatMap (fun r => leBytes 8 r.toNat))).2.dbg with
          answer := (c.odDebug rs.length (rs.flatMap (fun r => leBytes 8 r.toNat))).1 } }) := by
  have hmod : (rs.flatMap (fun r => leBytes 8 r.toNat)).length % 8 = 0 := by
    rw [length_flatMap_leBytes8]
    omega
  have hdiv : (rs.flatMap (fun r => leBytes 8 r.toNat)).length / 8 = rs.length := by
    rw [length_flatMap_leBytes8]
    omega
  rw [Chip.odDebugWrite, hmod, hdiv]
  rfl

/-- An operation that the Transaction Unit accepts (R440). -/
theorem odTxCmd_of_accepted {c : Chip} {op : Nat} (hon : c.isOn .silo = true) (hcap : c.silo.capsule = none)
    (hok : (c.txCmd op).fld Reg.SILO_TXSTAT 23 16 = 0) (session : Option Nat) :
    c.odTxCmd session op =
      (0, if op = 1 then { c.txCmd op with silo := { (c.txCmd op).silo with txOwner := session } } else c.txCmd op) := by
  unfold Chip.odTxCmd
  rw [hon, hcap]
  refine (if_neg (not_not_intro hok)).trans ?_
  by_cases h1 : op = 1
  · rw [if_pos h1, if_pos h1]
  · rw [if_neg h1, if_neg h1]

/-- A sealed write that passes its checks came in the session that it names (R429, R433). -/
theorem session_of_sealed {c : Chip} {k : Nat} {i j : Nat} {d : List Byte} {w : OdRow}
    (hp : odPasses c (odBrings c (some k) false) i j d = true) (hrow : odRow c i j = some w) (hw : w.sealedW = true) :
    (odBrings c (some k) false).session = some k := by
  obtain ⟨habort, -, hwindow⟩ := odPasses_iff.mp hp
  have hsealed : (odBrings c (some k) false).sealed = true := by
    by_contra hopen
    rw [Bool.not_eq_true] at hopen
    simp only [odWriteAbort, hwindow, hrow, hw, hopen, Bool.false_eq_true, if_false, Bool.not_false, Bool.and_self, if_true] at habort
    split_ifs at habort
  exact if_pos hsealed

/-- Settles O36: each row's write is performed, refused or held as its object says. The image's verdict and the wait for the RSA engine are
log 64, the worker window log 84, the rows as complete accesses log 95, the application of a transaction log 96 and the restart of a
stream log 97. -/
theorem dictionaryWritesComplete : Obligations.DictionaryWritesComplete := by
  unfold Obligations.DictionaryWritesComplete
  refine ⟨?mode, ?modeRange, ?trigger, ?microcode, ?unsealed, ?weave, ?waits, ?save, ?saveOther, ?saveCapsule, ?restore, ?debug, ?tx,
    ?outside, ?workerNone, ?workerWrite, ?managerRead, ?managerWrite, ?restart, ?applied, ?load⟩
  case mode =>
    intro c s m
    dsimp only
    intro hfree hp
    exact becomes_write (exec_modeRequest _ _) hfree (Or.inr (Or.inr rfl))
      (odWrite_logged hp (odRow_mode c) rfl (by decide) odPerform_mode _)
  case modeRange =>
    intro c s m hfree hstage hm
    exact becomes_write (exec_modeRequest _ _) hfree (Or.inr (Or.inr rfl)) (odWrite_of_abort (odWriteAbort_mode hm _) (by decide) _)
  case trigger =>
    intro c v
    dsimp only
    intro hfree hp
    have hx : c.odPerform (odBrings c none false) 0x3200 0x0A (odSpecial 1 .rww false 0 1) [v] =
        (0, if v = 1 then c.externalTrigger else c) := by
      rw [odPerform_externalTrigger, leNat_singleton]
      exact congrArg (Prod.mk 0) (if_congr (BitVec.toNat_inj (y := 1)) rfl rfl)
    exact becomes_write (exec_externalTrigger _) hfree (Or.inr (Or.inr rfl))
      (odWrite_logged hp (odRow_externalTrigger c) rfl (by decide) hx _)
  case microcode =>
    intro c k d
    dsimp only
    intro hfree hrsa hp
    exact becomes_write (exec_microcodeImageWrite _ _) hfree (Or.inl hrsa)
      (odWrite_logged hp (odRow_microcode c) rfl (by decide) odPerform_microcode _)
  case unsealed =>
    intro c k d hfree hrsa hnone hlen
    have habort : odWriteAbort c (odBrings c (some k.val) false) 0x4401 0 d = 0x08000020 := by
      rw [hnone]
      exact odWriteAbort_microcode_unsealed hlen
    exact becomes_write (exec_microcodeImageWrite _ _) hfree (Or.inl hrsa) (odWrite_of_abort habort (by decide) _)
  case weave =>
    intro c k d
    dsimp only
    intro hfree hrsa hp
    exact becomes_write (exec_weaveImageWrite _ _) hfree (Or.inl hrsa)
      (odWrite_logged hp (odRow_weave c) rfl (by decide) odPerform_weave _)
  case waits =>
    intro c k d hjobs hrsa hservice
    exact becomes_run (exec_weaveImageWrite _ _) (fun _ => rfl) (odAsk_of_waiting hjobs (nextJob_of_image hrsa hservice rfl))
  case save =>
    intro c k v
    dsimp only
    intro hfree hp hv hcap
    have hx : c.odPerform (odBrings c (some k.val) false) 0x1010 1 (odSpecial 4 .rw true 0 (2 ^ 32 - 1)) (leBytes 4 v.toNat) =
        (0, (c.switchHalf (persistentRecords c)).raise 235) := by
      rw [odPerform_store, odSave_of_on hcap, leNat_word, hv]
      exact if_pos rfl
    exact becomes_write (exec_storeParameters _ _) hfree (Or.inr (Or.inr rfl)) (odWrite_logged hp (odRow_store c) rfl (by decide) hx _)
  case saveOther =>
    intro c k v
    dsimp only
    intro hfree hp hv hcap
    have hx : c.odPerform (odBrings c (some k.val) false) 0x1010 1 (odSpecial 4 .rw true 0 (2 ^ 32 - 1)) (leBytes 4 v.toNat) =
        (0x08000020, c) := by
      rw [odPerform_store, odSave_of_on hcap, leNat_word]
      exact if_neg (fun h => hv (BitVec.eq_of_toNat_eq h))
    exact becomes_write (exec_storeParameters _ _) hfree (Or.inr (Or.inr rfl)) (odWrite_logged hp (odRow_store c) rfl (by decide) hx _)
  case saveCapsule =>
    intro c k v
    dsimp only
    intro hfree hp hcap
    have hx : c.odPerform (odBrings c (some k.val) false) 0x1010 1 (odSpecial 4 .rw true 0 (2 ^ 32 - 1)) (leBytes 4 v.toNat) =
        (0x08000022, c) := by
      rw [odPerform_store]
      exact if_pos hcap
    exact becomes_write (exec_storeParameters _ _) hfree (Or.inr (Or.inr rfl)) (odWrite_logged hp (odRow_store c) rfl (by decide) hx _)
  case restore =>
    intro c k v
    dsimp only
    intro hfree hp hv hcap
    have hx : c.odPerform (odBrings c (some k.val) false) 0x1011 1 (odSpecial 4 .rw true 0 (2 ^ 32 - 1)) (leBytes 4 v.toNat) =
        (0, (c.switchHalf []).raise 235) := by
      rw [odPerform_restore, odRestore_of_on hcap, leNat_word, hv]
      exact if_pos rfl
    exact becomes_write (exec_restoreDefaults _ _) hfree (Or.inr (Or.inr rfl)) (odWrite_logged hp (odRow_restore c) rfl (by decide) hx _)
  case debug =>
    intro c k rs
    dsimp only
    intro hfree hp
    exact becomes_write (exec_debugObjectWrite _ _ _) hfree (Or.inr (Or.inr rfl))
      (odWrite_logged hp (odRow_debug c) rfl (by decide) (odPerform_debug.trans (odDebugWrite_records c rs)) _)
  case tx =>
    intro c k op
    dsimp only
    intro hfree hp hon hcap hok
    have hx : c.odPerform (odBrings c (some k.val) false) 0x5F30 1 (odSpecial 1 .wo true 1 4) [op] =
        (0, if op = 1 then { c.txCmd op.toNat with silo := { (c.txCmd op.toNat).silo with txOwner := some k.val } }
          else c.txCmd op.toNat) := by
      rw [odPerform_txCmd, session_of_sealed hp (odRow_txCmd c) rfl, leNat_singleton, odTxCmd_of_accepted hon hcap hok]
      exact congrArg (Prod.mk 0) (if_congr (BitVec.toNat_inj (y := 1)) rfl rfl)
    exact becomes_write (exec_odTxCmd _ _) hfree (Or.inr (Or.inr rfl)) (odWrite_unlogged hp (odRow_txCmd c) rfl hx _)
  case outside =>
    intro c s i b w hi
    refine becomes_run (exec_workerWindowAccess _ _ _ _) (fun _ => rfl) ?_
    refine if_pos ?_
    simp only [Bool.not_eq_true', Bool.and_eq_false_iff, decide_eq_false_iff_not]
    omega
  case workerNone =>
    intro c s i b hjobs hlo hhi hmgr hzero
    refine becomes_run (exec_workerWindowAccess _ _ _ _) (fun _ => rfl) ?_
    simp only [hlo, hhi, hmgr, decide_true, Bool.and_self, Bool.not_true, Bool.false_eq_true, if_false, if_true]
    rw [odAsk_of_empty (j := .read i.toNat b.toNat) hjobs rfl (Bool.and_false _) (Or.inr (Or.inr rfl))]
    simp [jobRun, Chip.windowRead, Chip.odRead, inWorkerWindow_of_manager hlo hhi hmgr, workerAbort, hzero, Chip.raiseIf]
  case workerWrite =>
    intro c s i b d hfree hlo hhi hmgr hstage hreach
    refine becomes_run (exec_workerWindowAccess _ _ _ _) (fun _ => rfl) ?_
    simp only [hlo, hhi, hmgr, decide_true, Bool.and_self, Bool.not_true, Bool.false_eq_true, if_false, if_true]
    have hplain : jobVerifies (.write (s.map Fin.val) false i.toNat b.toNat d) = false := by
      simp only [jobVerifies, Bool.or_eq_false_iff, decide_eq_false_iff_not]
      omega
    have hwrite : c.odWrite (odBrings c (s.map Fin.val) false) (odNat c 0x2F00 0) i.toNat b.toNat d =
        ((c.workerAnswer true).1, (c.workerAnswer true).2.2) := by
      simp only [Chip.odWrite, odWriteAbort, inWorkerWindow_of_manager hlo hhi hmgr, hstage, hreach, if_true, ne_eq,
        not_true_eq_false, if_false, Bool.false_and, Bool.false_eq_true]
    rw [odAsk_of_odFree hfree rfl (Or.inr (Or.inr hplain)), ← hwrite]
    exact directRun_eq _ _
  case managerRead =>
    intro c s i b hjobs hlo hhi hmgr hplaced
    refine becomes_run (exec_workerWindowAccess _ _ _ _) (fun _ => rfl) ?_
    simp only [hlo, hhi, hmgr, decide_true, Bool.and_self, Bool.not_true, Bool.false_eq_true, if_false, hplaced]
    exact odAsk_of_empty hjobs rfl (Bool.and_false _) (Or.inr (Or.inr rfl))
  case managerWrite =>
    intro c s i b d hfree hrsa hlo hhi hmgr hplaced
    refine becomes_run (exec_workerWindowAccess _ _ _ _) (fun _ => rfl) ?_
    simp only [hlo, hhi, hmgr, decide_true, Bool.and_self, Bool.not_true, Bool.false_eq_true, if_false, hplaced]
    exact odAsk_of_odFree hfree rfl (Or.inl hrsa)
  case restart =>
    intro c st
    dsimp only
    intro hwant hon hen
    refine becomes_run (exec_streamRestart _) (fun _ => rfl) ?_
    simp only [hwant, hon, hen, Bool.not_true, Bool.false_eq_true, decide_true, if_false, if_true, setBit_cap]
  case applied =>
    intro c es
    dsimp only
    intro hes
    refine becomes_run exec_txApplyDone (fun _ => rfl) ?_
    simp only [hes] <;> rfl
  case load =>
    intro c
    dsimp only
    intro hscan hready
    exact becomes_run exec_odStoreLoad (fun _ => rfl) (if_neg (by rw [hscan, hready]; decide))

end Sys2Proof.Machine
end


section
/-!
SUPPORT. The CANopen node.
-/
namespace Sys2Proof.Machine

section
variable {c : Chip} {f : CanFrame} {l : List CanFrame}

/-- The node acts on its first frame where the row is its (R435). -/
theorem nodeFirst_of_wanted {want : CanFrame → Bool} (hq : nodeQueue c = f :: l) (hwant : want f = true)
    (act : Chip → CanFrame → Chip) : c.nodeFirst want act = act { c with od := { c.od with nodeRx := l } } f := by
  unfold Chip.nodeFirst
  rw [hq]
  exact if_pos hwant

/-- An RPDO that maps one object writes it while the node is operational (R435, R436). -/
theorem rpdoRun_of_one {i e : Nat} (hi : rpdoOf c f = some i) (hnmt : c.od.nmt = 5)
    (hmap : mapEntries c (0x1600 + i) (odNat c (0x1600 + i) 0) = [e]) (hlen : e % 256 / 8 ≤ f.data.length) :
    c.rpdoRun f = (c.odWrite {} 0 (e / 65536) (e / 256 % 256) (f.data.take (e % 256 / 8))).2 := by
  have hlong : ¬ f.data.length < mappedBytes [e] := by simpa [mappedBytes] using hlen
  unfold Chip.rpdoRun
  rw [hi]
  dsimp only
  rw [hmap, if_neg (by simp only [hnmt, hlong, ne_eq, not_true_eq_false, or_self, not_false_eq_true])]
  rfl

/-- An RPDO is ignored while the node is not operational (R436). -/
theorem rpdoRun_of_stopped {i : Nat} (hi : rpdoOf c f = some i) (hnmt : c.od.nmt ≠ 5) : c.rpdoRun f = c := by
  unfold Chip.rpdoRun
  rw [hi]
  exact if_pos (Or.inl hnmt)

end

/-- A CAN client's OPEN is handed to the engine, with its tunnel emptied (R439). -/
theorem odTunnel_of_open {c : Chip} {m : List Byte} (hok : messageOk false m = true) (hop : msgOp m = 1) (hsid : msgSid m = 0xFF)
    (client : Nat) :
    c.odTunnel client m = (0, { c.setTunnel client [] with od := { (c.setTunnel client []).od with
      jobs := .message (.tunnel client) m :: c.od.jobs } }) := by
  have hcheck : c.odCheck false m = (.take, c) := by
    simp only [Chip.odCheck, hok, hop, hsid, Bool.not_true, Bool.false_eq_true, if_false, if_true]
  unfold Chip.odTunnel
  rw [hcheck]
  rfl

theorem odRow_tunnel (c : Chip) : odRow c 0x5F10 0 = some (odVar 1440 .wo false) := rfl

theorem odPerform_tunnel {c : Chip} {r : OdRights} {w : OdRow} {d : List Byte} :
    c.odPerform r 0x5F10 0 w d = c.odTunnel (r.client.getD 0) d := by simp [Chip.odPerform]

/-- Settles O37: the node's frames and timers are branches of their model functions. The form of a USDO response is log 92, the node's
start and the NMT codes log 91, the lengths of PDOs log 93 and the TIME object log 80. -/
theorem canNodeCompletes : Obligations.CanNodeCompletes := by
  unfold Obligations.CanNodeCompletes
  refine ⟨?start, ?stop, ?ready, ?resetCommunication, ?resetNode, ?time, ?usdoRead, ?usdoWrite, ?tunnel, ?rpdo, ?rpdoStopped, ?tpdo,
    ?heartbeat⟩
  case start =>
    intro c f l hq hcmd
    exact becomes_run exec_nmtStart (fun _ => rfl) (nodeFirst_of_wanted hq hcmd _)
  case stop =>
    intro c f l hq hcmd
    exact becomes_run exec_nmtStop (fun _ => rfl) (nodeFirst_of_wanted hq hcmd _)
  case ready =>
    intro c f l hq hcmd
    exact becomes_run exec_nmtPreOperational (fun _ => rfl) (nodeFirst_of_wanted hq hcmd _)
  case resetCommunication =>
    intro c f l
    dsimp only
    intro hq hcmd
    exact becomes_run exec_nmtResetCommunication (fun _ => rfl) (nodeFirst_of_wanted hq hcmd _)
  case resetNode =>
    intro c f l
    dsimp only
    intro hq hcmd
    exact becomes_run exec_nmtResetNode (fun _ => rfl) (nodeFirst_of_wanted hq hcmd _)
  case time =>
    intro c f l hq hcob
    exact becomes_run exec_canTimeObject (fun _ => rfl)
      (nodeFirst_of_wanted (want := fun f => cobMatches f (odNat c 0x1012 0)) hq hcob _)
  case usdoRead =>
    intro c f l q
    dsimp only
    intro hq hext hid hjobs hread
    have hmine : (!f.ext && decide (f.id = 0x600 + c.od.nodeId)) = true := by simp [hext, hid]
    refine becomes_run (exec_usdoRequest _) (fun _ => rfl)
      ((nodeFirst_of_wanted (want := fun f => !f.ext && decide (f.id = 0x600 + c.od.nodeId)) hq hmine _).trans ?_)
    have hheld : jobHeld { c with od := { c.od with nodeRx := l } } (.usdo q) = false := by simp [jobHeld, hread]
    refine (odAsk_of_empty (c := { c with od := { c.od with nodeRx := l } }) hjobs rfl hheld (Or.inr (Or.inr rfl))).trans ?_
    simp only [jobRun, Chip.usdoRun, hread]
  case usdoWrite =>
    intro c f l q o e b
    dsimp only
    intro hq hext hid hfree hwrite
    have hmine : (!f.ext && decide (f.id = 0x600 + c.od.nodeId)) = true := by simp [hext, hid]
    refine becomes_run (exec_usdoRequest _) (fun _ => rfl)
      ((nodeFirst_of_wanted (want := fun f => !f.ext && decide (f.id = 0x600 + c.od.nodeId)) hq hmine _).trans ?_)
    refine (odAsk_of_odFree (c := { c with od := { c.od with nodeRx := l } }) hfree rfl (Or.inr (Or.inr rfl))).trans ?_
    simp only [jobRun, Chip.usdoRun, hwrite]
  case tunnel =>
    intro c n m
    dsimp only
    intro hfree hp hok hop hsid
    obtain ⟨hjobs, -⟩ := odFree_iff.mp hfree
    have hp' : odPasses (c.dropPending (32 + n.val)) { client := some n.val } 0x5F10 0 m = true := hp
    have hwrite := odWrite_logged hp' (odRow_tunnel _) rfl (by decide) (odPerform_tunnel.trans (odTunnel_of_open hok hop hsid n.val))
      (odNat c 0x2F00 0)
    refine becomes_run (exec_tunnelRequest _ _) (fun _ => rfl) ((odAsk_of_odFree hfree rfl (Or.inr (Or.inr rfl))).trans ?_)
    simp only [jobRun, Chip.usdoRun, odSegment_whole]
    rw [hwrite, show (c.dropPending (32 + n.val)).od.jobs = [] from hjobs]
    rfl
  case rpdo =>
    intro c f l i e hq hfree hi hnmt hmap hlen
    refine becomes_run exec_rpdoReceive (fun _ => rfl)
      ((nodeFirst_of_wanted (want := fun f => (rpdoOf c f).isSome) hq (by rw [hi]; rfl) _).trans ?_)
    exact (odAsk_of_odFree (c := { c with od := { c.od with nodeRx := l } }) hfree rfl (Or.inr (Or.inr rfl))).trans
      (rpdoRun_of_one (c := { c with od := { c.od with nodeRx := l } }) hi hnmt hmap hlen)
  case rpdoStopped =>
    intro c f l i hq hfree hi hnmt
    refine becomes_run exec_rpdoReceive (fun _ => rfl)
      ((nodeFirst_of_wanted (want := fun f => (rpdoOf c f).isSome) hq (by rw [hi]; rfl) _).trans ?_)
    exact (odAsk_of_odFree (c := { c with od := { c.od with nodeRx := l } }) hfree rfl (Or.inr (Or.inr rfl))).trans
      (rpdoRun_of_stopped (c := { c with od := { c.od with nodeRx := l } }) hi hnmt)
  case tpdo =>
    intro c i hnmt h31 h29 hinhibit
    refine becomes_run (exec_tpdoTransmit _ _) (fun _ => rfl) ?_
    simp only [hnmt, h31, h29, Nat.not_lt.mpr hinhibit, Bool.false_eq_true, if_false, decide_false, Bool.and_false, Bool.or_self,
      Bool.not_true, ne_eq, not_true_eq_false]
    rfl
  case heartbeat =>
    intro c hnmt htime hdue
    refine becomes_run exec_heartbeat (fun _ => rfl) ?_
    refine (if_neg ?_).trans rfl
    simp only [hnmt, htime, Nat.not_lt.mpr hdue, or_self, not_false_eq_true]

end Sys2Proof.Machine
end
